-- ==== Sys2Proof/Word.lean ====
section
/-!
DEFINITION. Words, port numbers, and the one sparse table type the whole model uses.
-/
namespace Sys2Proof

/-- A register word (R525: every register is 32 bits). -/
abbrev Word := BitVec 32
/-- One byte. -/
abbrev Byte := BitVec 8
/-- A PON port, 0 to 7 (R523). -/
abbrev Port := Fin 8

/-- A sparse table by number: pairs of a key and a value, keys rising, no pair equal to what an unlisted key reads as. -/
abbrev Tab (α : Type) := List (Nat × α)

/-- The value at key `k`; an unlisted key reads as `d k`. -/
def Tab.get {α : Type} (d : Nat → α) : Tab α → Nat → α
  | [], k => d k
  | (i, x) :: t, k => if i = k then x else Tab.get d t k

/-- The table without any pair of key `k`. -/
def Tab.del {α : Type} (t : Tab α) (k : Nat) : Tab α := t.filter (fun e => e.1 ≠ k)

/-- A new pair placed before the first larger key. -/
def Tab.ins {α : Type} (k : Nat) (x : α) : Tab α → Tab α
  | [] => [(k, x)]
  | (i, y) :: t => if k < i then (k, x) :: (i, y) :: t else (i, y) :: Tab.ins k x t

/-- The table with key `k` reading `x`; a pair that would equal the unlisted reading is left out. -/
def Tab.set {α : Type} [DecidableEq α] (d : Nat → α) (t : Tab α) (k : Nat) (x : α) : Tab α :=
  if x = d k then Tab.del t k else Tab.ins k x (Tab.del t k)

/-- The table with key `k` holding `x`, for tables in which an unlisted key holds nothing. -/
def Tab.put {α : Type} (t : Tab α) (k : Nat) (x : α) : Tab α := Tab.ins k x (Tab.del t k)

/-- What key `k` holds, if anything. -/
def Tab.find {α : Type} : Tab α → Nat → Option α
  | [], _ => none
  | (i, x) :: t, k => if i = k then some x else Tab.find t k

/-- Keys rise strictly along the table. -/
def Tab.rising {α : Type} (t : Tab α) : Prop := t.Pairwise (fun a b => a.1 < b.1)

/-- The canonical form: keys rise and no pair equals the unlisted reading. -/
def Tab.wf {α : Type} (d : Nat → α) (t : Tab α) : Prop := Tab.rising t ∧ ∀ e ∈ t, e.2 ≠ d e.1

/-- Bit `i` of a number. -/
def bitAt (x i : Nat) : Bool := x / 2 ^ i % 2 == 1

/-- Bits `hi` down to `lo` of a number. -/
def bitsOf (x hi lo : Nat) : Nat := x / 2 ^ lo % 2 ^ (hi + 1 - lo)

/-- `x` with bit `i` set (`b`) or cleared. -/
def withBit (x i : Nat) (b : Bool) : Nat :=
  if bitAt x i == b then x else if b then x + 2 ^ i else x - 2 ^ i

/-- One for true, zero for false. -/
def bit01 (b : Bool) : Nat := if b then 1 else 0

/-- A two's complement reading of a `w`-bit code. -/
def signedOf (w x : Nat) : Int := if x < 2 ^ (w - 1) then (x : Int) else (x : Int) - 2 ^ w

/-- The `w`-bit two's complement code of an integer. -/
def codeOf (w : Nat) (x : Int) : Nat := (x % (2 ^ w : Nat)).toNat

/-- `x` held between two limits. -/
def clampInt (lo hi x : Int) : Int := if x < lo then lo else if hi < x then hi else x

/-- Division rounded up. -/
def ceilDiv (a b : Nat) : Nat := (a + b - 1) / b

/-- How many of the low `n` bits of `x` are set. -/
def popCount : Nat → Nat → Nat
  | 0, _ => 0
  | n + 1, x => x % 2 + popCount n (x / 2)

/-- The lowest set bit among the low `n` bits. -/
def lowestBit (n x : Nat) : Option Nat := (List.range n).find? (fun i => bitAt x i)

end Sys2Proof
end

