-- ==== Sys2Proof/Types.lean ====
section
/-!
DEFINITION. The enumerations and records that commands carry and state holds: one section per chapter of the spec.
-/
namespace Sys2Proof

/-! ### Host interface (chapter 13) -/

/-- Where a ring command comes from: the function (0 PF0, n+1 port n), the local SQ, the tag and the port it acts on
(Table 13-3: the named port on PF0, the function's own on PF1 to PF8). `unnamed` says that an operand word which the opcode's table does not name
is non-zero; the words it names are the row's own operands (R352). -/
structure Issue where
  fn : Nat
  sq : Nat
  tag : Nat
  port : Port
  unnamed : Bool := false
  deriving DecidableEq, Repr

/-- The completion status codes of Table 13-4. -/
inductive Status where
  | success
  | refused
  | badOpcode
  | malformed
  | lengthZero
  | lengthOver
  | lengthBad
  | dmaError
  | aborted
  deriving DecidableEq, Repr

/-- A completion record (Table 13-5) without the fields the host engine fills in. -/
structure Result where
  status : Status
  reason : Nat
  result0 : Nat
  result1 : Nat
  poison : Bool
  deriving DecidableEq, Repr

/-- A submission descriptor as fetched (Table 13-3): its fields, the bytes 0x08 to 0x0F as `addr`, and op0 to op3. -/
structure Descriptor where
  tag : Nat
  rsv0 : Nat
  port : Port
  opcode : Nat
  rsv1 : Nat
  fence : Bool
  length : Nat
  addr : Nat
  ops : List Nat
  deriving DecidableEq, Repr

/-- What a descriptor fetch brought back: the 32 bytes of the descriptor, whose buffer then reads well or ill (DMA_ERROR), or the fault of R355. -/
inductive FetchOutcome where
  | good (bytes : List Byte)
  | badBuffer (bytes : List Byte)
  | failed
  deriving DecidableEq, Repr

/-! ### Events (chapter 14) -/

/-- The states of a source (Table 14-5). -/
inductive SrcState where
  | idle
  | pending
  | inService
  deriving DecidableEq, Repr

/-- Which message mask an MSIX_UNMASK clears: the function mask, or one vector's mask. -/
inductive MsixMask where
  | function
  | vector (v : Nat)
  deriving DecidableEq, Repr

/-! ### Capture (chapter 17) -/

/-- The capture states (Table 17-8). -/
inductive CapState where
  | idle
  | armed
  | capturing
  | done
  deriving DecidableEq, Repr

/-- A capture page as the engine closes it: the header fields of Table 17-6 that the data fix, and the data bytes. -/
structure CapPage where
  onuId : Nat
  fc : Nat
  position : Nat
  trigOffset : Option Nat
  data : List Byte
  deriving DecidableEq, Repr

/-! ### Line structures (chapters 4, 5, 8, 9, 10) -/

/-- The states of a Sluice burst channel (Table 4-5). -/
inductive ChanState where
  | idle
  | preset
  | armed
  | locked
  | payload
  | halted
  deriving DecidableEq, Repr

/-- The two burst channels of a Sluice (R110). -/
inductive Chan where
  | a
  | b
  deriving DecidableEq, Repr

/-- A preset record (Table 5-1), its signed fields as integers. -/
structure Preset where
  cdrPhase : Nat
  dcLevel : Int
  gain : Nat
  ctle : Nat
  cm : Int
  gen : Nat
  eqBias : Int
  trained : Bool
  valid : Bool
  taps : Vector Int 31
  errMean : Nat
  wbCount : Nat
  lastFrame : Nat
  frozenBlocks : Nat
  usedBlocks : Nat
  anchorRun : Nat
  deriving DecidableEq, Repr

/-- One entry of a bandwidth map (Table 8-2), with the one thing the OLT knows of it beside the line format: whether it is a
ranging allocation (R253). -/
structure MapEntry where
  alloc : Nat
  start : Nat
  slots : Nat
  profile : Nat
  ploamu : Bool
  dbru : Bool
  train : Bool
  ranging : Bool
  probe : Bool
  deriving DecidableEq, Repr

/-- A committed map: its entries, and the reserved windows of the frame it governs as (start, slots): the calibration window (R71) and the
quiet window of the discovery entry (R246). -/
structure BwMap where
  entries : List MapEntry
  cal : Option (Nat × Nat)
  quiet : Option (Nat × Nat)
  deriving DecidableEq, Repr

/-- The ONU activation states (Table 9-2). -/
inductive OnuState where
  | free
  | admitted
  | ranging
  | training
  | operation
  | absent
  | dormant
  deriving DecidableEq, Repr

/-- What a foreground calibration measured of one unit: the criteria of Table 3-4 it failed (bit r - 1 for criterion r, 0 when
it passed), its coefficients as codes, and its stage corrections in 1/16 LSB, least significant stage first. -/
structure FgUnit where
  unit : Nat
  fails : Nat
  offset : Nat
  gain : Nat
  skew : Nat
  bwc : Nat
  stage : List Int
  deriving DecidableEq, Repr

/-- What a calibration window finds (R72 to R79): the measures of Table 3-3, as (unit, estimator 0 offset 1 gain 2 skew 3 bandwidth, measure);
for each spare being trimmed, what its trim on the source comes to and the targets of its coefficients; failed units with their criteria;
and the stage corrections that units ask for. -/
structure CalObs where
  measures : List (Nat × Nat × Int)
  spares : List (FgUnit × FgUnit)
  unitFails : List (Nat × Nat)
  stages : List (Nat × List Int)
  deriving DecidableEq, Repr

/-- The last block before a channel's deadline: the channel, its codes from 15 symbols before to 15 after it, and whether the signal detector
is low. -/
structure LockBlock where
  chan : Chan
  codes : List Int
  sdLow : Bool
  deriving DecidableEq, Repr

/-- A block of a burst as it reaches the Rake (R128, R131): the map entry it belongs to, the tick at which its frame began, its index in the
burst, and the raw codes of the sub-ADCs from 15 symbols before to 15 after it. -/
structure RakeBlock where
  entry : Nat
  tick : Nat
  index : Nat
  codes : List Int
  deriving DecidableEq, Repr

/-! ### Decoding (chapter 6) -/

/-- The two unit classes of the Crystalliser. -/
inductive UnitClass where
  | engine
  | decoder
  deriving DecidableEq, Repr

/-- A codeword of an upstream burst: the entry's place in its frame's map, the tick at which that frame began, which response of a quiet window
it belongs to (0 for a map entry's burst), and the codeword's index within the burst. -/
structure CwRef where
  entry : Nat
  tick : Nat
  resp : Nat
  index : Nat
  deriving DecidableEq, Repr

/-- The form of a G50 codeword, which the spec leaves to G.9804 (R173, Table 8-12): the bits it sends, the places in the mother code of the bits it
punctures, rising (the bits missing beyond these are shortening, the first information bits), and how many codewords its burst holds. -/
structure G50Form where
  bits : Nat
  punct : List Nat
  total : Nat
  deriving DecidableEq, Repr

/-- What an engine delivers of a window (R164, R165): soft values and hard symbol decisions. -/
structure EngineOut where
  soft : List Int
  hard : List Int
  deriving DecidableEq, Repr

/-- What a decoder holds of a codeword at the end: hard decisions, iterations run, checks left unsatisfied (R167, R170). -/
structure DecOut where
  bits : List Bool
  iterations : Nat
  unsat : Nat
  deriving DecidableEq, Repr

/-- What units out of order make of a codeword, where it differs from what they should: the in-service engine's result and its auditor's, the
in-service decoder's and its auditor's (R176, R178). -/
structure EngineFault where
  unit : Option EngineOut
  auditor : Option EngineOut
  deriving DecidableEq, Repr
structure DecoderFault where
  unit : Option DecOut
  auditor : Option DecOut
  deriving DecidableEq, Repr

/-- What a window of the Crystalliser starts with: its codeword, in G50 mode the codeword's form, and the codes of the sub-ADCs from 79 symbols before
it to 79 after it. -/
structure WindowStart where
  cw : CwRef
  form : G50Form
  codes : List Int
  deriving DecidableEq, Repr

/-- What the release of a codeword meets: the word of a buffer that yields poison, and decoders out of order. -/
structure ReleaseObs where
  poisoned : Option Nat
  fault : DecoderFault
  deriving DecidableEq, Repr

/-- A unit at a DSP cycle of the frame. -/
structure UnitAt where
  unit : Nat
  cycle : Nat
  deriving DecidableEq, Repr

/-! ### Framing (chapter 8) -/

/-- A PLOAM message before the device adds seq and MIC: destination or sender, type and the 36 content bytes (Table 8-3). -/
structure Ploam where
  onu : Nat
  type : Nat
  content : List Byte
  deriving DecidableEq, Repr

/-- An upstream PLOAM message as received: the message, its seq, and the 8 MIC bytes as one number. -/
structure UpPloam where
  msg : Ploam
  seq : Nat
  mic : Nat
  deriving DecidableEq, Repr

/-- What stands around the content of an upstream message: its sequence byte and its MIC. -/
structure PloamTail where
  seq : Nat
  mic : Nat
  deriving DecidableEq, Repr

/-- A message as received with its tail. -/
def PloamTail.on (x : PloamTail) (m : Ploam) : UpPloam := { msg := m, seq := x.seq, mic := x.mic }

/-- A downstream PLOAM message as sent. -/
structure SentPloam where
  msg : Ploam
  seq : Nat
  mic : Nat
  deriving DecidableEq, Repr

/-- A downstream encapsulation as sent (R220): the 8-byte word of the frame its header stands at, that header, Flow-ID, key_idx, lf and the payload
bytes as they go on the line. Between encapsulations lies idle fill (R222). -/
structure EncapTx where
  word : Nat
  head : Nat
  flow : Nat
  key : Nat
  last : Bool
  data : List Byte
  deriving DecidableEq, Repr

/-- An encapsulation as received: the entry of its burst and the tick of its frame, whether it is the burst's first, the header
word as received, the word offset in the burst, and its payload bytes. -/
structure EncapRx where
  entry : Nat
  tick : Nat
  first : Bool
  word : Nat
  offset : Nat
  payload : List Byte
  deriving DecidableEq, Repr

/-- A whole upstream SDU on its way to the hub: its Alloc-ID, the sender's ONU-ID, its flow, and whether it came under a payload key. -/
structure UpSdu where
  alloc : Nat
  onu : Nat
  flow : Nat
  keyed : Bool
  data : List Byte
  deriving DecidableEq, Repr

/-! ### Scheduling and flows (chapters 10 and 11) -/

/-- The policy of an Alloc-ID record (Table 10-1, offsets 0x00 to 0x0F). -/
structure AllocPolicy where
  alloc : Nat
  rpt : Bool
  profile : Nat
  period : Nat
  phase : Nat
  fixed : Nat
  assured : Nat
  peak : Nat
  weight : Nat
  deriving DecidableEq, Repr

/-- The rates of a scheduling node (NODE_SET): CIR and PIR in 250 kbit/s, CBS and PBS in 64 bytes, and the weight. -/
structure NodeRates where
  cir : Nat
  pir : Nat
  cbs : Nat
  pbs : Nat
  weight : Nat
  deriving DecidableEq, Repr

/-! ### Protection (chapter 16) -/

/-- The protection roles (Table 16-1). -/
inductive Role where
  | unprot
  | active
  | sync
  | standby
  | blind
  deriving DecidableEq, Repr

/-- What a heartbeat says of one port of its sender (R414). -/
structure HeartbeatPort where
  role : Role
  protEn : Bool
  pref : Bool
  los : Bool
  fenced : Bool
  mode : Nat
  activeSince : Nat
  deriving DecidableEq, Repr

/-- A heartbeat (R414). -/
structure Heartbeat where
  ports : Vector HeartbeatPort 8
  rank : Nat
  keyCheck : Nat
  serial : Nat
  deriving DecidableEq, Repr

/-- The identity taps: the main cursor at 1.0 (R127, R187). -/
def identityTaps : Vector Int 31 := Vector.ofFn (fun k => if k.val = 15 then 1024 else 0)

/-- An empty preset record. -/
def Preset.blank : Preset :=
  { cdrPhase := 0, dcLevel := 0, gain := 0, ctle := 0, cm := 0, gen := 0, eqBias := 0, trained := false, valid := false,
    taps := Vector.replicate 31 0, errMean := 0, wbCount := 0, lastFrame := 0, frozenBlocks := 0, usedBlocks := 0,
    anchorRun := 0 }

/-- An empty map entry. -/
def MapEntry.blank : MapEntry :=
  { alloc := 0, start := 0, slots := 0, profile := 0, ploamu := false, dbru := false, train := false, ranging := false,
    probe := false }

/-- An Alloc-ID policy of zeros. -/
def AllocPolicy.blank : AllocPolicy :=
  { alloc := 0, rpt := false, profile := 0, period := 0, phase := 0, fixed := 0, assured := 0, peak := 0, weight := 0 }

/-- A map with no entry and no window. -/
def BwMap.empty : BwMap := { entries := [], cal := none, quiet := none }

/-- The rates of a node that has not been set: no committed service, no limit, weight 1. -/
def NodeRates.reset : NodeRates := { cir := 0, pir := 0, cbs := 0, pbs := 0, weight := 1 }

/-- An Alloc-ID record (Table 10-1), with its owed mark (R279), which lies in line-die SRAM, the governed frames since its last entry
(R273) and the tick of the frame of its last good report (R271). -/
structure AllocRec where
  valid : Bool
  pol : AllocPolicy
  repAge : Nat
  occupancy : Nat
  trend : Nat
  reported : Bool
  grantedSince : Nat
  lastGrant : Nat
  sinceEntry : Nat
  owed : Bool
  repTick : Nat
  deriving DecidableEq, Repr

/-- An Alloc-ID record that holds nothing. -/
def AllocRec.blank : AllocRec :=
  { valid := false, pol := .blank, repAge := 0, occupancy := 0, trend := 0, reported := false, grantedSince := 0,
    lastGrant := 0, sinceEntry := 0, owed := false, repTick := 0 }

/-- SUCCESS with two results. -/
def Result.ok (r0 r1 : Nat) : Result := { status := .success, reason := 0, result0 := r0, result1 := r1, poison := false }

/-- REFUSED with a reason code. -/
def Result.refuse (reason : Nat) : Result := { status := .refused, reason := reason, result0 := 0, result1 := 0, poison := false }

/-! ### Messages of the Aqand ports (chapters 16 and 21) -/

/-- The mirrored part of an ONU context (Table 16-2): offsets 0x000 to 0x0FF of Table 9-6, and the Alloc-ID records with their owed
marks. -/
structure MirrorCtx where
  slot : Nat
  st : OnuState
  onuId : Nat
  unans : Nat
  rngTried : Nat
  ncRun : Nat
  requestId : Nat
  eqd : Nat
  serial : Nat
  rtd : Nat
  missRun : Nat
  lastD : Int
  stateFc : Nat
  absentLeft : Nat
  caps : Nat
  recs : Vector AllocRec 16
  deriving DecidableEq, Repr

/-- Mirrored fields of a port (Table 16-2), whole or those changed in a frame: contexts; keys by onu × 4 + slot (slot 3 the integrity
key), none where the slot is empty, transmit slots and pending switches (slot × 2^51 + switch_fc) by ONU-ID, all wrapped under the pair key; and seq by
ONU-ID. -/
structure Mirror where
  ctxs : List MirrorCtx
  keys : List (Nat × Option (List Byte))
  txSlots : List (Nat × Option (List Byte))
  switches : List (Nat × List Byte)
  seqs : List (Nat × Nat)
  deriving DecidableEq, Repr

/-- A mirror with nothing in it. -/
def Mirror.empty : Mirror := { ctxs := [], keys := [], txSlots := [], switches := [], seqs := [] }

/-- A time-of-day message (R425): seconds, nanoseconds, frame counter and hops. -/
structure TodMsg where
  sec : Nat
  ns : Nat
  fc : Nat
  hops : Nat
  deriving DecidableEq, Repr

/-- A message of channel 6 (Table 21-5). -/
inductive FwMsg where
  | offer (version secVersion totalLen digest : Nat)
  | reply (code offset digest : Nat)
  | data (offset : Nat) (bytes : List Byte)
  | abort (reason digest : Nat)
  | pull (digest : Nat)
  deriving DecidableEq, Repr

/-- A message of an Aqand port (Table 16-3). The spec gives no channel of its own to a resync order, which takes the place of a delta. -/
inductive AqMessage where
  | heartbeat (h : Heartbeat)
  | map (port : Port) (fc : Nat) (map : BwMap)
  | delta (port : Port) (seq : Nat) (m : Mirror)
  | resync (port : Port)
  | ack (port : Port) (seq : Nat)
  | bulk (port : Port) (seq : Nat) (last : Bool) (m : Mirror) (presets : List (Nat × Preset × Bool))
  | tod (t : TodMsg)
  | firmware (m : FwMsg)
  deriving DecidableEq, Repr

/-! ### Start-up, resets and thermal (chapters 19 and 20) -/

/-- An entry of the repair-map delta: the unit class (0 sub-ADC, 1 trellis engine, 2 LDPC decoder, 3 queue engine, 4 die-to-die
lane, 5 SRAM word), its scope (port, link direction or bank) and the unit. -/
structure DeltaEntry where
  cls : Nat
  scope : Nat
  unit : Nat
  deriving DecidableEq, Repr

/-- What a start-up step found (R487, R490): the failure code of RST_STATUS, 0 for none; the units the fuses mark faulty; whether the
reference is valid; per port what foreground calibration measured and which known-answer tests failed; and the LPDDR6 channels that trained, bit c channel c. -/
structure StartObs where
  fail : Nat
  fused : List DeltaEntry
  refValid : Bool
  cal : List (Port × List FgUnit)
  kat : List (Port × List (UnitClass × Nat))
  lpdUp : Nat
  deriving DecidableEq, Repr

/-- What a thermal measurement read (R466 to R470, R483, R486): for each of the 30 sensors whether its count read 0 or full scale, and its
reading in 1/8 °C; for each fall-back channel the voltages of its conversions in nV, if it answers (the differences of a diode's four pairs of
forced currents; a thermistor's one); the margins of the 22 speed monitors in 0.5 %; and the PLLs whose
fine trim has reached an end of its range. -/
structure ThermObs where
  sensors : List (Bool × Int)
  fallbacks : List (Option (List Int))
  margins : List Int
  pllLimit : List Nat
  deriving DecidableEq, Repr

/-- A sample of a rail in mV. -/
structure RailSample where
  rail : Nat
  mv : Nat
  deriving DecidableEq, Repr

/-- The last 8 samples of a rail by a die's monitor, in mV; die 2 is the hub. -/
structure RailRun where
  die : Nat
  samples : List Nat
  deriving DecidableEq, Repr

/-- The terms of a die-to-die credit ledger at a tick (Table 1-8), in flits: the port of a VC0 to VC7 or the line die of VC8; credits free at the
receiver, held by the sender and in flight; the allotment; and whether a credit is older than 64 die-to-die cycles. -/
structure CreditTerms where
  owner : Nat
  free : Nat
  held : Nat
  flight : Nat
  allot : Nat
  old : Bool
  deriving DecidableEq, Repr

/-- A credit ledger balances. -/
def CreditTerms.balanced (x : CreditTerms) : Bool := x.free + x.held + x.flight == x.allot && !x.old

/-- The terms of a cell-pool ledger at a tick: cells free, allocated and in flight. -/
structure PoolTerms where
  free : Nat
  alloc : Nat
  flight : Nat
  deriving DecidableEq, Repr

/-- What a frame showed of light at a port (R420): the largest sum of the absolute corrected converter words (in 1/4 LSB) of 16 consecutive DSP
cycles, and the longest run of DSP cycles with SD_INn high. -/
structure LightTerms where
  port : Port
  sum : Nat
  sd : Nat
  deriving DecidableEq, Repr

/-- What a frame tick finds of the frame that ends and the one that begins (R38, R290, R420): the ports whose frame had light; the terms of credit ledgers and of the two pools (a ledger that is not
listed balances: the model's own counts make it so); the queue engines that have failed; and the queues whose
oldest SDU has a poisoned cell. -/
structure TickObs where
  light : List LightTerms
  credits : List CreditTerms
  vc8 : List CreditTerms
  ctCells : Option PoolTerms
  lpCells : Option PoolTerms
  engines : List Nat
  poisoned : List Nat
  deriving DecidableEq, Repr

/-- A quiet tick: nothing measured, no ledger failing. -/
def TickObs.none : TickObs :=
  { light := [], credits := [], vc8 := [], ctCells := .none, lpCells := .none, engines := [], poisoned := [] }

/-! ### The uplink and BAR4 (chapters 15 and 17) -/

/-- What the RS decoders of an uplink port have found since the last frame: codewords corrected, codewords not correctable, the
symbols corrected on each lane of the port in turn, and whether a codeword that could not be corrected touches the frame (R387). -/
structure RsReport where
  corrected : Nat
  uncorrectable : Nat
  symbols : List Nat
  touched : Bool
  deriving DecidableEq, Repr

/-- A read of BAR4 (R430): its byte offset and its size in bytes. -/
structure BarRead where
  offset : Nat
  size : Nat
  deriving DecidableEq, Repr

/-! ### Firmware (chapter 21) -/

/-- The states of a slot record (R514), by their codes 0x7F, 0x3F and 0x1F. -/
inductive SlotMark where
  | trial
  | confirmed
  | rejected
  deriving DecidableEq, Repr

end Sys2Proof
end

