-- ==== Sys2Proof/Syntax.lean ====
section
/-!
DEFINITION. The commands: one constructor for every row of the operation and event table, with the operands the row carries.
A port command names its port; a ring command carries where it came from; an event carries what the device observes at it
(a position, a measured value, a received message). A register write with a row of its own carries the value written.
-/
namespace Sys2Proof

/-- The commands of the device, one for each row of the table. -/
inductive Instr where
  /-- FRAME_TICK (R37). The 125 µs frame tick: the frame counter increments, requests are captured, ledgers are checked, mode changes take effect and per-frame work starts. -/
  | frameTick (obs : TickObs)
  /-- HARVEST_DUMP_DONE (R439). The last write of a Harvest dump is accepted and source 0x10F0 is raised. -/
  | harvestDumpDone (set : Nat)
  /-- HANDOVER (R418). At tick h, a handover captured two ticks earlier swaps the active and standby transmitters. -/
  | handover (port : Port) (cause : Nat)
  /-- MAP_COMMIT (R276). The DBA pass ends and the map is committed; an ACTIVE port also sends it as a map message. -/
  | mapCommit (port : Port) (passUs : Nat)
  /-- DBA_DEADLINE_MISS (R280). The pass has not ended 105 µs after the tick, so a map with only the windows is committed. -/
  | dbaDeadlineMiss (port : Port)
  /-- PRESET_STAGING (R92). Presets for the next frame's bursts are staged from the ONU contexts to the port over VC8. -/
  | presetStaging (port : Port)
  /-- THERMAL_MEASUREMENT (R470). A measurement of the sensors and fall-back channels completes and thresholds, compensation and AVS are updated. -/
  | thermalMeasurement (obs : ThermObs)
  /-- AVS_WRITE_FAILED (R485). An AVSBus write gets no good response in 3 attempts, which faults the rail's AVS. -/
  | avsWriteFailed (rail : Nat)
  /-- GRACE_EXPIRED (R473). The grace timer expires and native enforcement enters LOWERING. -/
  | graceExpired
  /-- ENFORCEMENT_STEP (R473). Every enf_step frames, one port's thermal_mode is lowered or released. -/
  | enforcementStep
  /-- HOLDING_EXPIRED (R473). release_frames frames pass with throttle clear and enforcement enters RELEASING. -/
  | holdingExpired
  /-- COMPAT_CODE_STEP (R477). Every 64 frames the compatibility limit code moves by one. -/
  | compatCodeStep
  /-- RAIL_FAULT (R482). A supply rail stays outside its fault window for 8 samples. -/
  | railFault (rail : Nat) (run : RailRun)
  /-- HEARTBEAT_HOLD_EXPIRED (R21). The heartbeat hold after a fence expires and TX_DISABLE_N goes low. -/
  | heartbeatHoldExpired (port : Port)
  /-- FENCE_REQ (R21). A host write of fence_req fences the port region with cause 0x0B. -/
  | fenceReq (src : Nat) (port : Port) (value : Nat)
  /-- PRT_MODE_CTL_WRITE (R49). A write of the port mode request is checked and recorded for capture at the next tick. -/
  | prtModeCtlWrite (src : Nat) (port : Port) (value : Nat)
  /-- D2D_LANE_FAIL (R28). A die-to-die lane fails; a spare replaces it or the direction retrains to half width. -/
  | d2dLaneFail (link direction lane : Nat)
  /-- LINE_DIE_LOST (R29). A line die fails to retrain or reports a supply fault, and its four port regions are fenced. -/
  | lineDieLost (die : Nat)
  /-- UNIT_FAULT_DETECTED (R79). A sub-ADC fails a criterion of Table 3-4 and its substitution starts. -/
  | unitFaultDetected (port : Port) (unit criteria : Nat)
  /-- CAL_WINDOW_UPDATE (R77). In the last cycle before the closing margin of a calibration window, coefficients, spare trims and substitution switches apply. -/
  | calWindowUpdate (port : Port) (obs : CalObs)
  /-- FG_CAL_REQ (R70). A write of fg_cal_req starts foreground calibration of a fenced port, or is refused. -/
  | fgCalReq (src : Nat) (port : Port) (value : Nat)
  /-- FG_CAL_DONE (R69). Foreground calibration completes and the line input is reconnected. -/
  | fgCalDone (port : Port) (units : List FgUnit)
  /-- CNV_TEST_FAIL (R79). A test write fails a sub-ADC with fail_reason 8. -/
  | cnvTestFail (src : Nat) (port : Port) (value : Nat)
  /-- XTL_TEST_FAIL (R179). A test write takes a trellis engine or decoder out of service at the next codeword boundary. -/
  | xtlTestFail (src : Nat) (port : Port) (value : Nat)
  /-- WARMUP_COMPLETE (R54). RX warm-up completes at tick w and the port enters its receive mode. -/
  | warmupComplete (port : Port) (units : List FgUnit) (failed : List (UnitClass × Nat))
  /-- TX_CAL_DONE (R195). TX calibration completes and the heartbeat starts at the next tick. -/
  | txCalDone (port : Port) (failed : Bool)
  /-- BURST_GUARD_START (R93). At guard start the Sluice applies the staged preset and pulses the optics. -/
  | burstGuardStart (port : Port) (index : Nat)
  /-- AGC_COMMAND (R101). A gain correction computed from a qualifying cycle takes effect on the pins. -/
  | agcCommand (port : Port) (chan : Chan) (cycle : Nat) (codes : List Int)
  /-- PRIMARY_DETECTION (R100). The primary correlator detects the preamble, freezes the AGC and arms the delimiter search. -/
  | primaryDetection (port : Port) (chan : Chan) (position : Nat) (codes : List Int) (sdLow : Bool)
  /-- PREAMBLE_TAKEOVER (R103). The shadow correlator finds a stronger preamble and the lock moves to it. -/
  | preambleTakeover (port : Port) (chan : Chan) (position : Nat) (codes : List Int) (sdLow : Bool)
  /-- DELIMITER_MATCH (R104). The delimiter matches, the burst locks and its payload is gated to the Crystalliser. -/
  | delimiterMatch (port : Port) (chan : Chan) (position : Nat) (codes : List Int)
  /-- FALSE_LOCK (R105). The false-lock deadline passes without a delimiter match. -/
  | falseLock (port : Port) (block : LockBlock)
  /-- WINDOW_CLOSE (R106). The detection window closes with no detection and the burst is missing. -/
  | windowClose (port : Port) (chan : Chan)
  /-- RSSI_MARKER (R115). The Sluice emits a burst-window marker mark_delay cycles after a delimiter match. -/
  | rssiMarker (port : Port) (chan : Chan)
  /-- LOS_DECLARED (R116). Expected bursts have been missing for los_frames frames and loss of signal is declared. -/
  | losDeclared (port : Port)
  /-- CODEWORD_WINDOW_START (R166). A codeword window is assigned to the lowest free in-service trellis engine at its left overlap. -/
  | codewordWindowStart (port : Port) (win : WindowStart)
  /-- CODEWORD_TO_DECODER (R169). A codeword with complete soft values goes to a decoder, preempting one if needed. -/
  | codewordToDecoder (port : Port) (cw : CwRef) (fault : EngineFault)
  /-- CODEWORD_RELEASE (R168). A decoded codeword reaches TC delineation at its fixed latency, passed or failed. -/
  | codewordRelease (port : Port) (cw : CwRef) (obs : ReleaseObs)
  /-- UNIT_SWAP_AT_BOUNDARY (R11). At the next codeword boundary a unit leaves service and a spare takes its place. -/
  | unitSwapAtBoundary (port : Port) (cls : UnitClass) (at_ : UnitAt)
  /-- BURST_HEADER (R228). A burst header is checked against the Alloc-ID table; a misdirected burst is discarded and a dying gasp is delivered. -/
  | burstHeader (port : Port) (entry tick header : Nat)
  /-- UPSTREAM_PLOAM (R217). An upstream PLOAM message is MIC-checked and delivered to the host and to the control cores. -/
  | upstreamPloam (port : Port) (entry tick resp : Nat) (msg : UpPloam)
  /-- SERIAL_NUMBER_RESPONSE (R250). A Serial_Number response is ranged and creates or re-activates a context. -/
  | serialNumberResponse (port : Port) (entry tick resp : Nat) (msg : Ploam) (tail : PloamTail)
  /-- REGISTRATION (R254). A Registration sets EqD and RTD and leads to Ranging_Time. -/
  | registration (port : Port) (entry tick : Nat) (msg : Ploam) (tail : PloamTail)
  /-- STATUS_REPORT (R229). A status report is CRC-checked and passed to the DBA engine. -/
  | statusReport (port : Port) (entry tick report : Nat)
  /-- ENCAPSULATION_HEADER (R221). An encapsulation header is corrected or rejected, and a rejection starts a delineation hunt. -/
  | encapsulationHeader (port : Port) (encap : EncapRx)
  /-- REASSEMBLY_TIMEOUT (R225). reasm_frames frames pass without a continuation and the partial SDU is discarded. -/
  | reassemblyTimeout (port : Port) (alloc : Nat)
  /-- UPSTREAM_LOOKUP (R299). An upstream SDU is looked up in its flow context, policed, tagged and forwarded or dropped. -/
  | upstreamLookup (port : Port) (us : Nat)
  /-- UPLINK_FRAME_RX (R388). The uplink MAC receives a frame and accepts it for classification or drops it. -/
  | uplinkFrameRx (uplink : Nat) (rs : RsReport) (frame : List Byte) (us : Nat)
  /-- METER_REFRESH (R305). The context engine refills the buckets of an idle metered flow. -/
  | meterRefresh (flow us : Nat)
  /-- RAKE_BLOCK (R133). The Rake updates the running copy from a qualified block once its LDPC verdicts are known. -/
  | rakeBlock (port : Port) (block : RakeBlock)
  /-- RAKE_WRITEBACK (R138). The frame's write-back reaches the ONU context and applies when gen matches. -/
  | rakeWriteback (port : Port) (onu : Nat)
  /-- TRAIN_REQUEST_END (R256). A Train_Request's validity ends and the device sends Train_Result and acts on the judgement. -/
  | trainRequestEnd (port : Port) (slot : Nat)
  /-- RANGING_FAILED (R255). rng_tries ranging allocations pass without a Registration. -/
  | rangingFailed (port : Port) (slot : Nat)
  /-- MISS_MAX_REACHED (R257). miss_max consecutive allocations are missing and the context enters ABSENT. -/
  | missMaxReached (port : Port) (slot : Nat)
  /-- ABSENT_TIMEOUT (R258). absent_frames frames pass in ABSENT and the context becomes DORMANT. -/
  | absentTimeout (port : Port) (slot : Nat)
  /-- DRIFT_CORRECTION (R261). After 2^drift_avg bursts the mean offset is formed, and EqD is corrected when it reaches the threshold. -/
  | driftCorrection (port : Port) (slot : Nat)
  /-- FLOW_CREATE (R298). Creates a flow context after the checks of Table 11-2. -/
  | flowCreate (iss : Issue) (op0 : Nat) (image : List Byte) (us : Nat)
  /-- FLOW_MODIFY (R298). Replaces the modifiable fields of a flow context. -/
  | flowModify (iss : Issue) (op0 : Nat) (image : List Byte)
  /-- FLOW_DISABLE (R306). Disables a flow, or removes it and frees its classification entry. -/
  | flowDisable (iss : Issue) (op0 : Nat)
  /-- FLOW_READ (R306). Copies a flow context image to host memory. -/
  | flowRead (iss : Issue) (op0 : Nat)
  /-- FLOW_BULK_LOAD (R307). Creates consecutive flows until one is refused. -/
  | flowBulkLoad (iss : Issue) (op0 op1 : Nat) (images : List Byte) (us : Nat)
  /-- QUEUE_BIND (R293). Makes a queue valid and empty on an ONU node and class. -/
  | queueBind (iss : Issue) (op0 op1 : Nat)
  /-- QUEUE_MODIFY (R293). Changes a queue's weight and limit profile. -/
  | queueModify (iss : Issue) (op0 op1 : Nat)
  /-- QUEUE_UNBIND (R293). Makes a queue invalid, optionally flushing its cells. -/
  | queueUnbind (iss : Issue) (op0 : Nat)
  /-- QUEUE_READ (R293). Copies a queue state record. -/
  | queueRead (iss : Issue) (op0 : Nat)
  /-- NODE_SET (R293). Sets a node's buckets and weight. -/
  | nodeSet (iss : Issue) (op0 op1 op2 op3 : Nat)
  /-- NODE_READ (R293). Copies a node's settings and bucket levels. -/
  | nodeRead (iss : Issue) (op0 : Nat)
  /-- PLOAM_SEND (R216). Queues a downstream PLOAM message and completes when it is sent. -/
  | ploamSend (iss : Issue) (msg : Ploam)
  /-- OMCI_SEND (R235). Queues a management SDU for the framer and completes when it is sent. -/
  | omciSend (iss : Issue) (op0 : Nat) (data : List Byte)
  /-- MSG_RX_POST (R234). Posts a receive buffer, which completes when a message fills it. -/
  | msgRxPost (iss : Issue) (size : Nat)
  /-- KEY_LOAD (R230). Loads a payload or PLOAM integrity key at the next tick. -/
  | keyLoad (iss : Issue) (op0 : Nat) (key : Nat)
  /-- KEY_SWITCH (R233). Schedules a change of the transmit key slot. -/
  | keySwitch (iss : Issue) (op0 op1 op2 : Nat)
  /-- KEY_CLEAR (R230). Empties a key slot at the next tick. -/
  | keyClear (iss : Issue) (op0 : Nat)
  /-- ONU_ADMIT (R263). Creates a context in ADMITTED with presets from the discovery anchor. -/
  | onuAdmit (iss : Issue) (op0 op1 op2 op3 : Nat)
  /-- ONU_ADMIT_G50 (R354). The G50 form stores EqD in an ADMITTED context and moves it to OPERATION. -/
  | onuAdmitG50 (iss : Issue) (op0 op1 op2 op3 : Nat)
  /-- ONU_REMOVE (R263). Deactivates an ONU and frees its context, Alloc-IDs and queues. -/
  | onuRemove (iss : Issue) (op0 : Nat)
  /-- TRAIN_START (R263). Moves a context from OPERATION to TRAINING. -/
  | trainStart (iss : Issue) (op0 : Nat)
  /-- ALLOC_SET (R284). Writes an Alloc-ID record at the next tick after the checks of Table 10-2. -/
  | allocSet (iss : Issue) (op0 op1 op2 op3 op4 : Nat)
  /-- ALLOC_CLEAR (R284). Invalidates an assigned Alloc-ID record. -/
  | allocClear (iss : Issue) (op0 : Nat)
  /-- PRESET_WRITE (R149). Writes the working or anchor preset from a host buffer. -/
  | presetWrite (iss : Issue) (op0 : Nat) (record : List Byte)
  /-- PRESET_ANCHOR (R149). Copies the working preset to the anchor. -/
  | presetAnchor (iss : Issue) (op0 : Nat)
  /-- PRESET_RESTORE (R149). Copies the anchor to the working preset. -/
  | presetRestore (iss : Issue) (op0 : Nat)
  /-- PAIR_SWITCH (R418). Requests a handover of a protected port. -/
  | pairSwitch (iss : Issue) (op0 : Nat)
  /-- PAIR_KEY (R412). Loads the pair key at the next tick. -/
  | pairKey (iss : Issue) (key : List Byte)
  /-- MEM_SCRUB (R330). Starts a scrub pass over a memory range. -/
  | memScrub (iss : Issue) (op0 op1 op2 op3 : Nat)
  /-- MEM_SCRUB_DONE (R331). A scrub pass ends, in full or truncated, and completes with its summary. -/
  | memScrubDone (space checked narrowed : Nat)
  /-- MEM_FILL (R321). Fills an LPDDR6 range with a pattern and completes when every word is written. -/
  | memFill (iss : Issue) (op0 op1 op2 op3 op4 op5 : Nat)
  /-- MEM_REMAP_READ (R333). Copies the remap tables of a range of banks. -/
  | memRemapRead (iss : Issue) (op0 op1 length : Nat)
  /-- BITTERN_READ (R332). Copies Bittern records, optionally freeing them. -/
  | bitternRead (iss : Issue) (op0 length : Nat)
  /-- DEMAND_SCRUB (R326). A demand scrub ordered by the repeat tracker rewrites the corrected bytes of a word and starts its watch. -/
  | demandScrub (space w concurrent : Nat)
  /-- HARD_FAULT (R327). A watched word corrects again and is remapped, or is recorded as not remappable. -/
  | hardFault (space w : Nat)
  /-- TRACKER_WINDOW_EXPIRED (R325). A tracker entry's window expires with too few corrections and the entry is freed. -/
  | trackerWindowExpired (space w : Nat)
  /-- WATCH_EXPIRED (R327). A watch expires without a correction and frees its entry. -/
  | watchExpired (space w : Nat)
  /-- MEM_INJECT (R316). A test write alters a stored word for its next read. -/
  | memInject (src value : Nat)
  /-- FW_OPEN (R506). Opens a host firmware session and stages the bundle header. -/
  | fwOpen (iss : Issue) (header : List Byte)
  /-- FW_WRITE (R505). Stages bundle bytes in order. -/
  | fwWrite (iss : Issue) (op0 : Nat) (data : List Byte)
  /-- FW_VERIFY (R503). Starts verification of a fully staged bundle. -/
  | fwVerify (iss : Issue)
  /-- VERIFY_DONE (R503). Verification passes or fails, and a verified bundle is offered on the chain. -/
  | verifyDone
  /-- FW_ACTIVATE (R510). Copies the new pair and activates it in a window captured at the next tick. -/
  | fwActivate (iss : Issue)
  /-- HCF_READY (R510). The new HCF writes ready in FWU_CORE, and the activation succeeds at the next tick. -/
  | hcfReady (settings : Option (Nat × List Byte))
  /-- HCF_FALLBACK_REQ (R512). The new HCF writes fallback_req and the previous pair is restored. -/
  | hcfFallbackReq
  /-- ACTIVATION_TIMEOUT (R512). ready is not written by tick k+16 and the activation fails. -/
  | activationTimeout
  /-- PERSIST_DONE (R514). The inactive slot has been written, read back and given a trial record, or the write failed. -/
  | persistDone (ok : Bool)
  /-- FW_ABORT (R505). Ends a session that has not reached activation. -/
  | fwAbort (iss : Issue)
  /-- FW_CONFIRM (R515). Confirms a trial slot, raises the floor and releases the previous pair. -/
  | fwConfirm (iss : Issue)
  /-- AUTO_CONFIRM (R515). confirm_frames frames pass without a fall-back and the trial slot is confirmed. -/
  | autoConfirm
  /-- FW_FALLBACK (R516). Restores the previous pair and rejects the trial slot. -/
  | fwFallback (iss : Issue)
  /-- FW_ATTEST (R520). Writes a signed attestation report over a nonce. -/
  | fwAttest (iss : Issue) (nonce : List Byte)
  /-- FW_ID_READ (R521). Returns the identity public key and certificate chain. -/
  | fwIdRead (iss : Issue) (length : Nat)
  /-- OFFER_RX (R507). A chain OFFER is compared, recorded and answered, or opens a chain session. -/
  | offerRx (side version secVersion totalLen digest : Nat) (good : Bool)
  /-- REPLY_RX (R509). A chain REPLY starts, resumes or declines the forwarding of a bundle. -/
  | replyRx (side code offset digest : Nat) (good : Bool)
  /-- DATA_RX (R509). A chain DATA message is staged at its offset or answered with a resume. -/
  | dataRx (side offset : Nat) (bytes : List Byte) (good : Bool)
  /-- ABORT_RX (R506). A chain ABORT ends the session or forwarding it names. -/
  | abortRx (side reason digest : Nat) (good : Bool)
  /-- PULL_RX (R508). A PULL is answered with an offer of the running bundle, or declined. -/
  | pullRx (side digest : Nat) (good : Bool)
  /-- SESSION_COMPLETE (R508). At session completion the loader acts on recorded offers of higher version. -/
  | sessionComplete
  /-- CHAIN_DATA_TIMEOUT (R505). A chain session receives no data for 100 ms and ends. -/
  | chainDataTimeout
  /-- FORWARD_TIMEOUT (R509). A sender has no REPLY for 100 ms and ends forwarding on that port. -/
  | forwardTimeout (side : Nat)
  /-- CAP_ARM (R444). Arms a capture of one observation point of one port. -/
  | capArm (iss : Issue) (op0 op1 op3 : Nat)
  /-- CAP_STOP (R443). Ends a running capture with cause 2. -/
  | capStop (iss : Issue) (pages : List CapPage)
  /-- CAP_READ (R445). Copies bytes of the capture region. -/
  | capRead (iss : Issue) (op1 op2 length : Nat)
  /-- CAP_STATUS (R445). Writes the capture status record. -/
  | capStatus (iss : Issue)
  /-- CAPTURE_TRIGGER (R444). The capture trigger occurs and the capture enters CAPTURING. -/
  | captureTrigger (pages : List CapPage)
  /-- CAPTURE_END (R443). A capture ends on post_kib, region full, overflow, port or memory change. -/
  | captureEnd (cause : Nat) (pages : List CapPage)
  /-- RING_CREATE (R339). RING_OP with op 0 creates a submission or completion queue. -/
  | ringCreate (fn : Nat)
  /-- RING_DELETE (R341). RING_OP with op 1 starts deleting a ring. -/
  | ringDelete (fn : Nat)
  /-- RING_DELETE_DONE (R341). The last completion of a deleted SQ is written and busy clears. -/
  | ringDeleteDone (fn : Nat)
  /-- SQ_DOORBELL (R343). An SQ doorbell posts descriptors, or is ignored as bad. -/
  | sqDoorbell (fn ring value : Nat)
  /-- CQ_DOORBELL (R344). A CQ doorbell consumes completions, or is ignored as bad. -/
  | cqDoorbell (fn ring value : Nat)
  /-- DESCRIPTOR_FETCH (R346). The host engine fetches a descriptor when a CQ reservation is free and checks it. -/
  | descriptorFetch (fn sq : Nat) (outcome : FetchOutcome)
  /-- FUNCTION_LEVEL_RESET (R356). An FLR of a port function abandons its commands, deletes its rings and resets its port region. -/
  | functionLevelReset (port : Port)
  /-- PF0_FUNCTION_LEVEL_RESET (R357). An FLR of PF0 resets PF0's host interface state only. -/
  | pf0FunctionLevelReset
  /-- DEVICE_SOFT_RESET (R358). A keyed write to HIF_SOFT_RESET resets the package while keeping the PCIe link. -/
  | deviceSoftReset (src value : Nat)
  /-- EVENT_SOURCE_INPUT (R367). A source's input reaches its active condition and the source becomes PENDING. -/
  | eventSourceInput (source : Nat) (input : Bool) (info : Nat)
  /-- SOURCE_DEASSERT (R367). A level source de-asserts and is withdrawn or returns to IDLE. -/
  | sourceDeassert (source : Nat)
  /-- EVENT_CAPTURE (R375). An event queue captures a record from its list when it has room. -/
  | eventCapture (queue tickOffset : Nat)
  /-- EQ_MODERATION_TIMER (R377). mod_usec passes and the queue raises its MSI-X vector. -/
  | eqModerationTimer (queue : Nat)
  /-- EQ_DOORBELL (R376). An event queue doorbell moves the head and arms the queue. -/
  | eqDoorbell (fn queue value : Nat)
  /-- MASK_SET (R369). A write to MASK_SET masks sources. -/
  | maskSet (fn word value : Nat)
  /-- MASK_CLR (R368). A write to MASK_CLR unmasks sources and appends pending ones to their queue's list. -/
  | maskClr (fn word value : Nat)
  /-- PEND_SET (R369). A write to PEND_SET makes sources PENDING and software-set. -/
  | pendSet (fn word value : Nat)
  /-- PEND_CLR (R369). A write to PEND_CLR returns PENDING sources to IDLE. -/
  | pendClr (fn word value : Nat)
  /-- EVENT_COMPLETE (R370). A write to COMPLETE completes a level source in IN_SERVICE. -/
  | eventComplete (fn value : Nat)
  /-- SENSE_CHANGE (R362). A change of a source's sense returns it to IDLE. -/
  | senseChange (fn index value : Nat)
  /-- SOURCE_RETARGET (R380). A change of a source's queue leaves a marker in the old queue and moves the source. -/
  | sourceRetarget (fn index value : Nat)
  /-- EQ_ENABLE (R373). A write of EQ_CFG that sets or clears en starts or stops a queue. -/
  | eqEnable (fn queue value : Nat)
  /-- COUNTER_WRITE (R429). An 8-byte write through PF0's BAR4 sets a counter and its flag. -/
  | counterWrite (fn offset size value : Nat)
  /-- COUNTER_SPLIT_READ (R430). A 4-byte BAR4 read returns half a counter and loads or empties the page shadow; reads of other sizes. -/
  | counterSplitRead (fn : Nat) (read : BarRead)
  /-- LATCHED_SET_READ (R526). A read of the first register of a set latches the rest for its reader. -/
  | latchedSetRead (src addr : Nat)
  /-- HKA_DATA_READ (R455). A read of the data register consumes its result. -/
  | hkaDataRead (fn conv : Nat)
  /-- SIDEBAND_READ_HALF (R530). A sideband halfword read returns a half and uses the read shadow. -/
  | sidebandReadHalf (addr : Nat)
  /-- SIDEBAND_WRITE_HALF (R530). A sideband halfword write is held or completes a register write. -/
  | sidebandWriteHalf (addr value us : Nat)
  /-- REGISTER_WRITE (R527). A write to a register that has no row of its own is checked and applied. -/
  | registerWrite (src addr size enables value us : Nat)
  /-- COEF_COMMIT (R202). A commit copies the transmit filter staging set at the next tick. -/
  | coefCommit (src : Nat) (port : Port) (value : Nat)
  /-- MASK_COMMIT (R202). A commit copies the spectral mask template staging set at the next tick. -/
  | maskCommit (src : Nat) (port : Port) (value : Nat)
  /-- HKA_SW_TRIG (R450). A write of sw_trig runs the software entries. -/
  | hkaSwTrig (src conv value : Nat)
  /-- HKA_MARKER (R451). A burst-window marker reaches its converter and starts, queues or is dropped. -/
  | hkaMarker (port : Port) (onu fc : Nat)
  /-- HKA_CONVERSION_DONE (R454). A conversion completes and its result goes to the value, data and RSSI registers. -/
  | hkaConversionDone (conv : Nat) (nanovolts : Int)
  /-- BDA_CODE_WRITE (R462). A new bias DAC code starts a hold or a slew of the output. -/
  | bdaCodeWrite (src output value us : Nat)
  /-- BDA_HOLD_EXPIRED (R462). The hold of a major step ends and the output starts to slew. -/
  | bdaHoldExpired (output us : Nat)
  /-- BDA_OVER_TEMP (R464). A bias driver over-temperature flag rises and the output may go to safe_code. -/
  | bdaOverTemp (output us : Nat) (flag : Bool)
  /-- OT_HOLD_RELEASE (R464). A host write of ot_hold 0 with the flag clear releases the output. -/
  | otHoldRelease (src output value us : Nat)
  /-- THM_SD_CLR (R480). A keyed write clears the shutdown record. -/
  | thmSdClr (src value : Nat)
  /-- WARM_REGION_RESET_REQ (R495). A warm region reset request is captured at the next tick. -/
  | warmRegionResetReq (src mask : Nat)
  /-- COLD_REGION_RESET_REQ (R495). A cold region reset request is captured at the next tick. -/
  | coldRegionResetReq (src mask : Nat)
  /-- REGION_RESET_COMPLETE (R495). A region reset completes and the port restarts under R56. -/
  | regionResetComplete (port : Port)
  /-- HUB_REGION_RESET (R494). A keyed write resets the named hub regions. -/
  | hubRegionReset (src value : Nat)
  /-- HUB_REGION_RESET_DONE (R493). A hub region reset completes. -/
  | hubRegionResetDone (regions us : Nat)
  /-- LINE_DIE_RESET (R493). A keyed write resets a line die and its four port regions. -/
  | lineDieReset (src value : Nat)
  /-- LINE_DIE_RESET_DONE (R493). A line-die reset completes. -/
  | lineDieResetDone (die : Nat) (failed : Bool)
  /-- DELTA_CLEAR (R498). A keyed write erases the repair-map delta at the next tick. -/
  | deltaClear (src value : Nat)
  /-- POWER_ON (R488). The supplies become valid and start-up begins. -/
  | powerOn
  /-- RESET_N (R543). RESET_N is held low for at least 1 µs and resets the package. -/
  | resetN
  /-- AON_BROWNOUT (R542). VDD_AON falls below 0.70 V for 1 µs and the device performs a power-on reset. -/
  | aonBrownout
  /-- STARTUP_STEP_COMPLETE (R487). A start-up step ends and the next one begins. -/
  | startupStepComplete (obs : StartObs)
  /-- DEVICE_READY (R489). DEVICE_READY is asserted. -/
  | deviceReady (ms : Nat)
  /-- FW_RUNNING (R491). The resident loader verifies an image and starts the hub control firmware. -/
  | fwRunning (ms : Nat)
  /-- REFCLK_LOSS (R546). REFCLK stops for 1 µs and ref_missing is set. -/
  | refclkLoss
  /-- LANE_LOCK_LOSS (R394). A lane loses lock or fault arrives and its port enters TRAINING. -/
  | laneLockLoss (lane cause : Nat)
  /-- PORT_UP (R393). A lane port meets its up condition. -/
  | portUp (port : Nat) (order : List Nat)
  /-- TRAINING_TIMEOUT (R393). A port does not come up within 100 ms of TRAINING and enters DOWN. -/
  | trainingTimeout (port locked : Nat) (order : List Nat)
  /-- TRAINING_RETRY (R393). The retry cadence returns a DOWN port to TRAINING. -/
  | trainingRetry (port : Nat)
  /-- QUIET_ANNOUNCE_RX (R399). An Aqand receiver sees quiet_announce and follows its lanes into RX-quiet. -/
  | quietAnnounceRx (side : Nat)
  /-- FOLLOW_LOCK_TIMEOUT (R399). A following lane has no block lock 1 ms after signal returns, and its port enters TRAINING. -/
  | followLockTimeout (lane : Nat)
  /-- LANE_INJ_SINGLE (R402). Injects one symbol error on a lane. -/
  | laneInjSingle (src lane value : Nat) (running : Bool)
  /-- LANE_INJ_BURST (R402). Injects a burst of symbol errors on a lane. -/
  | laneInjBurst (src lane value : Nat) (running : Bool)
  /-- HEARTBEAT_RX (R414). A heartbeat from the partner is received. -/
  | heartbeatRx (hb : Heartbeat) (good : Bool)
  /-- HEARTBEAT_MISSED (R414). No heartbeat arrives in its window; the third miss loses the pair. -/
  | heartbeatMissed
  /-- PAIR_LOST (R34). Aqand port A goes down or heartbeats fail, and standby ports enter BLIND. -/
  | pairLost
  /-- MAP_MESSAGE_RX (R410). The standby receives a committed map of the active port. -/
  | mapMessageRx (port : Port) (fc : Nat) (map : BwMap) (good : Bool)
  /-- DELTA_RX (R411). The standby receives a delta, applies it at the next tick and acknowledges it, or discards it. -/
  | deltaRx (port : Port) (seq : Nat) (mirror : Mirror) (us : Nat) (good : Bool)
  /-- DELTA_TIMEOUT (R411). A heartbeat has arrived but its delta has not within 60 µs of the tick. -/
  | deltaTimeout (port : Port)
  /-- ACK_RX (R413). The active port receives a delta acknowledgement. -/
  | ackRx (port : Port) (seq : Nat) (good : Bool)
  /-- RESYNC_ORDER (R413). A third unacknowledged delta is replaced by a resync order that puts the standby in SYNC. -/
  | resyncOrder (port : Port)
  /-- BULK_COPY_RX (R413). A bulk copy message is applied, and the last one moves the port to STANDBY. -/
  | bulkCopyRx (port : Port) (seq : Nat) (last : Bool) (mirror : Mirror) (presets : List (Nat × Preset × Bool)) (good : Bool)
  /-- TAKEOVER (R420). A BLIND port counts dark_frames dark frames and becomes ACTIVE. -/
  | takeover (port : Port)
  /-- TOD_MESSAGE_RX (R425). A time-of-day message is received, followed and forwarded. -/
  | todMessageRx (side : Nat) (msg : TodMsg) (good : Bool)
  /-- TOD_HOLDOVER (R425). No time-of-day message for 8 frames and the device enters holdover. -/
  | todHoldover
  /-- PPS_EDGE (R534). A 1PPS edge is accepted, measured and tracked, or ignored. -/
  | ppsEdge (interval : Nat) (err : Int) (afterTick : Nat)
  /-- PPS_LOST (R534). No 1PPS edge is accepted for 2 s. -/
  | ppsLost
  /-- TOD_ALIGN (R533). A write of align restarts the tick count at the next PPS edge. -/
  | todAlign (src : Nat) (value : Nat)
  /-- TOD_ARM_SEC (R536). A write of arm_sec loads the seconds at the next accepted PPS edge. -/
  | todArmSec (src : Nat) (value : Nat)
  /-- TOD_FC_SET (R535). A write of go sets the frame counter at the next tick. -/
  | todFcSet (src value : Nat)
  /-- MEM_FILL_DONE (R321). The last word of a MEM_FILL range is written and the command completes. -/
  | memFillDone (iss : Issue)
  /-- UPSTREAM_EGRESS (R291). An upstream SDU leaves its pool for the uplink MAC, after its cells have been read whole, and is dropped there if poisoned or if the port is not UP. -/
  | upstreamEgress (uplink : Nat) (poisoned : Bool)
  /-- FORWARDING_END (R505). The last DATA message of a forwarded bundle has been sent and replied, so forwarding on that port ends. -/
  | forwardingEnd (side : Nat)
  /-- REFCLK_VALID (R489). The 155.52 MHz reference becomes valid, so start-up leaves its wait at step 4 and the 120 ms count begins. -/
  | refclkValid
  /-- RESET_N_RELEASE (R543). RESET_N rises after a reset pulse or after being held during the ramp, and start-up restarts from it. -/
  | resetNRelease
  /-- VOLTAGE_WARNING (R482). A monitored rail leaves its warn_pct window and the voltage-warning event is raised. -/
  | voltageWarning (sample : RailSample)
  /-- PRBS_CHECKER_LOCK (R401). A lane's PRBS checker locks after 1,024 error-free bits or unlocks when 128 of 1,024 bits are in error. -/
  | prbsCheckerLock (lane : Nat) (bits : List Bool) (own : Nat)
  /-- FOLLOW_SIGNAL_CHANGE (R399). After quiet_announce, an Aqand lane loses signal and enters RX-quiet follow, or its signal returns and it wakes toward UP. -/
  | followSignalChange (lane : Nat) (signal : Bool)
  /-- D2D_RETRAIN_DONE (R28). A die-to-die link direction completes its retrain after a lane loss, credits resume, and at half width the two highest ports are fenced. -/
  | d2dRetrainDone (link direction : Nat)
  /-- KNOWN_ANSWER_TEST_DONE (R177). A known-answer test run after an audit mismatch ends and marks the unit faulty or returns it as a free spare. -/
  | knownAnswerTestDone (port : Port) (cls : UnitClass) (unit : Nat) (passed : Bool)
  /-- BUS_MASTER_ENABLE_CHANGE (R355). A function's Bus Master Enable is cleared or set, which stops or resumes its host memory traffic. -/
  | busMasterEnableChange (fn : Nat) (on : Bool)
  /-- MSIX_UNMASK (R378). A masked MSI-X vector or function mask is cleared and the pending message is sent. -/
  | msixUnmask (fn : Nat) (mask : MsixMask)
  deriving DecidableEq, Repr

end Sys2Proof
end

