-- ==== Sys2Proof/Decode.lean ====
section
/-!
DEFINITION. The decoder over the rows of the table that give bits. The table gives none of its rows a bit field, so no word spells a
command.
-/
namespace Sys2Proof

/-- The command a table word spells: none, for every word. -/
def decodeTableWord (_nbits _w : Nat) : Option Instr := none

end Sys2Proof
end

