-- ==== Sys2Proof/Config.lean ====
section
/-!
DEFINITION. What one part fixes for life (the fused values), and the values the spec leaves open. None of them has a body, so no proof can
see what they are.
-/
namespace Sys2Proof

/-- GLB_REV stepping: 0 B0, 1 B1 (R2). -/
opaque Config.fusedStepping : Nat
/-- GLB_ORDER grade: 0 HL-8200-BC, 1 HL-8200-BI (R548). -/
opaque Config.fusedGrade : Nat
/-- The fused 64-bit device serial (GLB_SERIAL). -/
opaque Config.fusedSerial : Nat
/-- CNV_REF_TRIM sensor_id of a port, fused. -/
opaque Config.fusedSensorId : Nat → Nat
/-- THM_AVS_TARGET of rail r, fused, in mV. -/
opaque Config.fusedAvs : Nat → Nat

/-- The trim of a port's reference ladders, in 0.005 %, from its fused coefficient and a reading of its sensor in 1/8 °C (R84 gives no formula). -/
opaque Config.refTrim : Nat → Int → Int

/-- The n-th number that the spec leaves open (numbered by `State.freeCtr`). -/
opaque Config.freeNat : Nat → Nat

/-- Which way a quotient exactly half way between two whole numbers is rounded, where the spec says "rounded" and no more: true up. The first
argument names the place (0 the FFE output of R120, 1 a mean arrival offset, 2 a conversion result, 3 a soft value of R164, 4 a filter output of
R185 or R186, 5 a corrected word of R66), the second the dividend. -/
opaque Config.tieUp : Nat → Int → Bool

/-- Whether a mean error of a sum over so many blocks that is no whole number of 1/16 LSB is taken up (Table 5-1 gives the unit alone). -/
opaque Config.meanUp : Nat → Nat → Bool

/-- A raw sub-ADC code, by its place among the codes around it, corrected for bandwidth by a coefficient that is not at its centre, in quarter-LSB (R66
gives no formula). -/
opaque Config.cnvBandwidth : Int → List Int → Nat → Int

/-- Whether a correlator metric between two quarter-dB steps is taken up (R99 gives the unit alone), by C² and E_r E_q. -/
opaque Config.metricUp : Nat → Nat → Bool

/-- Which of several equally good symbols a decision takes, by the cost they share and their number (R123, R165). -/
opaque Config.tieSymbol : Nat → Nat → Nat

/-- The parity bits of the (17280,14592) mother code of ITU-T G.9804.2 for its information bits, and the columns of each row of its parity-check
matrix: the spec names the standard and does not restate it (R152). -/
opaque Config.ldpcParity : List Bool → Vector Bool 2688
opaque Config.ldpcChecks : Vector (List Nat) 2688

/-- In G50 mode, by ITU-T G.9804.2, which the spec names and does not restate (R237): the bytes of a downstream frame before its payload, of the
frame counter, the PON-ID, and the map and the messages as Mimbium-200 lays them out; the scrambling bit of a frame by its
counter, direction (true up), codeword and bit; the tag of a PLOAM message by its direction, under a key; and the counter block of an
encapsulation, of frame counter, Port-ID, direction, start of the burst, word offset and block. -/
opaque Config.g50Header : Nat → Nat → List (BitVec 8) → List (BitVec 8)
opaque Config.g50Scramble : Nat → Bool → Nat → Nat → Bool
opaque Config.g50Mic : Bool → Nat → List (BitVec 8) → BitVec 64
opaque Config.g50Counter : Nat → Nat → Bool → Nat → Nat → Nat → Nat

/-- The symbol time within a frame at which an allocation of a G50 map begins, by the symbol rate's factor of its profile and its StartTime, by the same
standard (R91 says that the start is converted at the profile's rate). -/
opaque Config.g50Start : Nat → Nat → Nat

/-- Which of two codes a bin has whose exact power lies nearer their border than the model's cosines tell (R197). -/
opaque Config.codePick : List (List Int) → Nat → Nat

/-- How a queue record names a cell in 32 bits (Table 10-4 gives the fields alone), by whether it lies in the LPDDR6 pool and its number there. -/
opaque Config.cellRef : Bool → Nat → Nat

/-- The bytes of a message of the Aqand ports (Table 16-3 names the messages and gives no layout). -/
opaque Config.aqBytes : AqMessage → List (BitVec 8)

/-- The OMCI_SEND SDUs that a port's management queue holds (Table 8-11 names the refusal of a full one and no size). -/
opaque Config.omciCapacity : Nat

/-- The place of a structure of the hub SRAM inside its banks, as a word of 32 bytes, which Tables 12-1 and 12-2 do not give: by kind (0 the state of a
ring, 1 that of an event queue, 2 the touch bits of an LPDDR6 block, 3 the remap table of a bank, 5 what the control cores use of their memory in a frame), and in a port's line-die
SRAM (4 the state of its DBA engine, 6 a partial SDU, 7 a staged preset, 8 a block in the Rake buffer), and number. -/
opaque Config.stateWord : Nat → Nat → Nat

/-- AES-256 (FIPS 197) of one 128-bit block under a 256-bit key, and the first 8 bytes of the AES-CMAC tag (SP 800-38B) of a message:
standards the spec names and does not restate. -/
opaque Config.aesBlock : Nat → Nat → BitVec 128
opaque Config.aesCmac8 : Nat → List (BitVec 8) → BitVec 64

/-- Key wrap and unwrap of RFC 3394 under a 256-bit key, of the same standing; an unwrap that fails its check answers none. -/
opaque Config.keyWrap : Nat → Nat → List (BitVec 8)
opaque Config.keyUnwrap : Nat → List (BitVec 8) → Option Nat

/-- The 16 bytes of NODE_READ from cir, pir, cbs, pbs, weight and the two bucket levels in bytes: the spec names the fields and gives no
layout. -/
opaque Config.nodeRecord : Nat → Nat → Nat → Nat → Nat → Int → Int → Vector (BitVec 8) 16

/-- The reason codes of the preset commands' refusals (R149 names none): 0 the ONU-ID is not active or is 1,023, 1 the record is
refused, 2 the source preset has valid = 0. -/
opaque Config.presetReason : Nat → BitVec 8

/-- SHA3-512 (FIPS 202), and whether an ML-DSA-87 signature (FIPS 204, empty context) of a message under a public key is valid, of the same
standing. -/
opaque Config.sha3_512 : List (BitVec 8) → BitVec 512
opaque Config.mldsaVerify : List (BitVec 8) → List (BitVec 8) → List (BitVec 8) → Bool

/-- The fused key digests 0 to 3, and whether each is fused revoked (R503). -/
opaque Config.fusedKeyDigest : Nat → BitVec 512
opaque Config.fusedKeyRevoked : Nat → Bool

/-- The device identity (R519): its ML-DSA-87 public key, its signature of a report, and the certificate chain in flash. -/
opaque Config.identityPublicKey : Vector (BitVec 8) 2592
opaque Config.attestSign : List (BitVec 8) → Vector (BitVec 8) 4627
opaque Config.identityChain : List (BitVec 8)

end Sys2Proof
end

