-- ==== Sys2Proof/Machine/RegMap.lean ====
section
/-!
DEFINITION. The register map: every register of the spec's tables by name, with its device address (R523), its fields, their
access types (Table 0-5) and its reset word. `R.<REGISTER>.addr` is an address (its arguments: the port of a port register,
then the indices of an indexed one) and `R.<REGISTER>.<field>` a field, named as the spec names them.
The event controller's per-source and per-queue words, the ONU window and the write-only words of rows of their own are views
of other state (Table 14-7, Table 9-6) and do not stand here.
-/
namespace Sys2Proof.Machine

/-- One field of a register: the register's device address and the field's bits. -/
structure RegField where
  addr : Nat
  hi : Nat
  lo : Nat
  deriving DecidableEq, Repr

/-- The access types of Table 0-5 that a field can have. -/
inductive Access where
  | ro
  | rw
  | rw1c
  | wo
  deriving DecidableEq, Repr

/-- One row of a register table: the first offset in its block, two index counts and strides, the fields with their access,
and the reset word as a function of the port and the two indices. -/
structure RegDef where
  name : String
  off : Nat
  cnt1 : Nat
  str1 : Nat
  cnt2 : Nat
  str2 : Nat
  fields : List (Nat × Nat × Access)
  reset : Nat → Nat → Nat → Nat

/-- The base of a block of port `n`'s window (R523, Table 22-2). -/
def portBlock (n : Port) (block : Nat) : Nat := 0x1000000 + n.val * 0x100000 + block

/-- The owner word at reset: PF0 owns queues 0 to 15, PF(k+1) owns 16 + 6k to 21 + 6k (R372). -/
def eqOwnerReset (w : Nat) : Nat :=
  ((List.range 8).map (fun j => (if 8 * w + j < 16 then 0 else (8 * w + j - 16) / 6 + 1) * 2 ^ (4 * j))).sum

/-- PRT_FENCE_STATUS (PRT + 0x0040). -/
def R.PRT_FENCE_STATUS.addr (n : Port) : Nat := portBlock n 0x0 + 0x40
def R.PRT_FENCE_STATUS.fenced (n : Port) : RegField := ⟨R.PRT_FENCE_STATUS.addr n, 31, 31⟩
def R.PRT_FENCE_STATUS.heartbeat_on (n : Port) : RegField := ⟨R.PRT_FENCE_STATUS.addr n, 30, 30⟩
def R.PRT_FENCE_STATUS.first_cause (n : Port) : RegField := ⟨R.PRT_FENCE_STATUS.addr n, 23, 16⟩
def R.PRT_FENCE_STATUS.cause_mask (n : Port) : RegField := ⟨R.PRT_FENCE_STATUS.addr n, 15, 0⟩
/-- PRT_FENCE_CTL (PRT + 0x0044). -/
def R.PRT_FENCE_CTL.addr (n : Port) : Nat := portBlock n 0x0 + 0x44
def R.PRT_FENCE_CTL.fence_req (n : Port) : RegField := ⟨R.PRT_FENCE_CTL.addr n, 31, 31⟩
def R.PRT_FENCE_CTL.hold_frames (n : Port) : RegField := ⟨R.PRT_FENCE_CTL.addr n, 15, 0⟩
/-- PRT_MODE_CTL (PRT + 0x0010). -/
def R.PRT_MODE_CTL.addr (n : Port) : Nat := portBlock n 0x0 + 0x10
def R.PRT_MODE_CTL.req_power_mode (n : Port) : RegField := ⟨R.PRT_MODE_CTL.addr n, 26, 24⟩
def R.PRT_MODE_CTL.req_line_mode (n : Port) : RegField := ⟨R.PRT_MODE_CTL.addr n, 16, 16⟩
/-- PRT_MODE_STATUS (PRT + 0x0014). -/
def R.PRT_MODE_STATUS.addr (n : Port) : Nat := portBlock n 0x0 + 0x14
def R.PRT_MODE_STATUS.change_pending (n : Port) : RegField := ⟨R.PRT_MODE_STATUS.addr n, 31, 31⟩
def R.PRT_MODE_STATUS.warmup (n : Port) : RegField := ⟨R.PRT_MODE_STATUS.addr n, 30, 30⟩
def R.PRT_MODE_STATUS.queued (n : Port) : RegField := ⟨R.PRT_MODE_STATUS.addr n, 29, 29⟩
def R.PRT_MODE_STATUS.eff_power_mode (n : Port) : RegField := ⟨R.PRT_MODE_STATUS.addr n, 26, 24⟩
def R.PRT_MODE_STATUS.ceiling (n : Port) : RegField := ⟨R.PRT_MODE_STATUS.addr n, 22, 20⟩
def R.PRT_MODE_STATUS.thermal_mode (n : Port) : RegField := ⟨R.PRT_MODE_STATUS.addr n, 18, 16⟩
def R.PRT_MODE_STATUS.eff_line_mode (n : Port) : RegField := ⟨R.PRT_MODE_STATUS.addr n, 8, 8⟩
def R.PRT_MODE_STATUS.refuse_code (n : Port) : RegField := ⟨R.PRT_MODE_STATUS.addr n, 7, 0⟩
/-- GLB_PROFILE (GLB + 0x0080). -/
def R.GLB_PROFILE.addr : Nat := 0x80
def R.GLB_PROFILE.profile_err : RegField := ⟨R.GLB_PROFILE.addr, 31, 31⟩
def R.GLB_PROFILE.uplink_lanes : RegField := ⟨R.GLB_PROFILE.addr, 17, 16⟩
def R.GLB_PROFILE.lpd_policy : RegField := ⟨R.GLB_PROFILE.addr, 1, 0⟩
/-- CNV_CTRL (CNV + 0x0000). -/
def R.CNV_CTRL.addr (n : Port) : Nat := portBlock n 0x10000 + 0x0
def R.CNV_CTRL.fg_cal_req (n : Port) : RegField := ⟨R.CNV_CTRL.addr n, 31, 31⟩
def R.CNV_CTRL.skew_step (n : Port) : RegField := ⟨R.CNV_CTRL.addr n, 21, 20⟩
def R.CNV_CTRL.stage_cal_en (n : Port) : RegField := ⟨R.CNV_CTRL.addr n, 9, 9⟩
def R.CNV_CTRL.temp_comp_en (n : Port) : RegField := ⟨R.CNV_CTRL.addr n, 8, 8⟩
def R.CNV_CTRL.bg_en (n : Port) : RegField := ⟨R.CNV_CTRL.addr n, 3, 0⟩
/-- CNV_CAL_CTL (CNV + 0x0004). -/
def R.CNV_CAL_CTL.addr (n : Port) : Nat := portBlock n 0x10000 + 0x4
def R.CNV_CAL_CTL.cal_period (n : Port) : RegField := ⟨R.CNV_CAL_CTL.addr n, 30, 24⟩
def R.CNV_CAL_CTL.cal_len (n : Port) : RegField := ⟨R.CNV_CAL_CTL.addr n, 13, 0⟩
/-- CNV_CAL_OFFSET (CNV + 0x0008). -/
def R.CNV_CAL_OFFSET.addr (n : Port) : Nat := portBlock n 0x10000 + 0x8
def R.CNV_CAL_OFFSET.cal_offset (n : Port) : RegField := ⟨R.CNV_CAL_OFFSET.addr n, 17, 0⟩
/-- CNV_STATUS (CNV + 0x0010). -/
def R.CNV_STATUS.addr (n : Port) : Nat := portBlock n 0x10000 + 0x10
def R.CNV_STATUS.fg_done (n : Port) : RegField := ⟨R.CNV_STATUS.addr n, 31, 31⟩
def R.CNV_STATUS.fg_fail (n : Port) : RegField := ⟨R.CNV_STATUS.addr n, 30, 30⟩
def R.CNV_STATUS.degraded (n : Port) : RegField := ⟨R.CNV_STATUS.addr n, 29, 29⟩
def R.CNV_STATUS.subst_active (n : Port) : RegField := ⟨R.CNV_STATUS.addr n, 28, 28⟩
def R.CNV_STATUS.cfg_err (n : Port) : RegField := ⟨R.CNV_STATUS.addr n, 27, 27⟩
def R.CNV_STATUS.fg_refused (n : Port) : RegField := ⟨R.CNV_STATUS.addr n, 26, 26⟩
def R.CNV_STATUS.ref_hold (n : Port) : RegField := ⟨R.CNV_STATUS.addr n, 25, 25⟩
def R.CNV_STATUS.spares_free (n : Port) : RegField := ⟨R.CNV_STATUS.addr n, 24, 22⟩
def R.CNV_STATUS.skip_run (n : Port) : RegField := ⟨R.CNV_STATUS.addr n, 15, 8⟩
def R.CNV_STATUS.good_units (n : Port) : RegField := ⟨R.CNV_STATUS.addr n, 5, 0⟩
/-- CNV_EVT (CNV + 0x0014). -/
def R.CNV_EVT.addr (n : Port) : Nat := portBlock n 0x10000 + 0x14
def R.CNV_EVT.ref_held (n : Port) : RegField := ⟨R.CNV_EVT.addr n, 7, 7⟩
def R.CNV_EVT.fg_fail (n : Port) : RegField := ⟨R.CNV_EVT.addr n, 6, 6⟩
def R.CNV_EVT.cal_skipped (n : Port) : RegField := ⟨R.CNV_EVT.addr n, 5, 5⟩
def R.CNV_EVT.margin_low (n : Port) : RegField := ⟨R.CNV_EVT.addr n, 4, 4⟩
def R.CNV_EVT.unit_fail_nospare (n : Port) : RegField := ⟨R.CNV_EVT.addr n, 3, 3⟩
def R.CNV_EVT.subst_fail (n : Port) : RegField := ⟨R.CNV_EVT.addr n, 2, 2⟩
def R.CNV_EVT.subst_done (n : Port) : RegField := ⟨R.CNV_EVT.addr n, 1, 1⟩
def R.CNV_EVT.subst_start (n : Port) : RegField := ⟨R.CNV_EVT.addr n, 0, 0⟩
/-- CNV_REF_TRIM (CNV + 0x0020). -/
def R.CNV_REF_TRIM.addr (n : Port) : Nat := portBlock n 0x10000 + 0x20
def R.CNV_REF_TRIM.sensor_id (n : Port) : RegField := ⟨R.CNV_REF_TRIM.addr n, 21, 16⟩
def R.CNV_REF_TRIM.ref_trim (n : Port) : RegField := ⟨R.CNV_REF_TRIM.addr n, 15, 0⟩
/-- CNV_TEST_FAIL (CNV + 0x0030). -/
def R.CNV_TEST_FAIL.addr (n : Port) : Nat := portBlock n 0x10000 + 0x30
def R.CNV_TEST_FAIL.go (n : Port) : RegField := ⟨R.CNV_TEST_FAIL.addr n, 31, 31⟩
def R.CNV_TEST_FAIL.fail_unit (n : Port) : RegField := ⟨R.CNV_TEST_FAIL.addr n, 5, 0⟩
/-- CNV_SPARE_MAP (CNV + 0x0100). -/
def R.CNV_SPARE_MAP.addr (n : Port) (i : Nat) : Nat := portBlock n 0x10000 + 0x100 + 0x4 * i
def R.CNV_SPARE_MAP.phase_3 (n : Port) (i : Nat) : RegField := ⟨R.CNV_SPARE_MAP.addr n i, 29, 24⟩
def R.CNV_SPARE_MAP.phase_2 (n : Port) (i : Nat) : RegField := ⟨R.CNV_SPARE_MAP.addr n i, 21, 16⟩
def R.CNV_SPARE_MAP.phase_1 (n : Port) (i : Nat) : RegField := ⟨R.CNV_SPARE_MAP.addr n i, 13, 8⟩
def R.CNV_SPARE_MAP.phase_0 (n : Port) (i : Nat) : RegField := ⟨R.CNV_SPARE_MAP.addr n i, 5, 0⟩
/-- CNV_UNIT (CNV + 0x0200). -/
def R.CNV_UNIT.addr (n : Port) (i : Nat) : Nat := portBlock n 0x10000 + 0x200 + 0x4 * i
def R.CNV_UNIT.state (n : Port) (i : Nat) : RegField := ⟨R.CNV_UNIT.addr n i, 31, 28⟩
def R.CNV_UNIT.margin_low (n : Port) (i : Nat) : RegField := ⟨R.CNV_UNIT.addr n i, 24, 24⟩
def R.CNV_UNIT.phase (n : Port) (i : Nat) : RegField := ⟨R.CNV_UNIT.addr n i, 20, 16⟩
def R.CNV_UNIT.fail_reason (n : Port) (i : Nat) : RegField := ⟨R.CNV_UNIT.addr n i, 11, 8⟩
def R.CNV_UNIT.subst_windows (n : Port) (i : Nat) : RegField := ⟨R.CNV_UNIT.addr n i, 2, 0⟩
/-- CNV_OFFSET (CNV + 0x0400). -/
def R.CNV_OFFSET.addr (n : Port) (i : Nat) : Nat := portBlock n 0x10000 + 0x400 + 0x10 * i
def R.CNV_OFFSET.offset (n : Port) (i : Nat) : RegField := ⟨R.CNV_OFFSET.addr n i, 7, 0⟩
/-- CNV_GAIN (CNV + 0x0404). -/
def R.CNV_GAIN.addr (n : Port) (i : Nat) : Nat := portBlock n 0x10000 + 0x404 + 0x10 * i
def R.CNV_GAIN.gain (n : Port) (i : Nat) : RegField := ⟨R.CNV_GAIN.addr n i, 11, 0⟩
/-- CNV_SKEW (CNV + 0x0408). -/
def R.CNV_SKEW.addr (n : Port) (i : Nat) : Nat := portBlock n 0x10000 + 0x408 + 0x10 * i
def R.CNV_SKEW.skew (n : Port) (i : Nat) : RegField := ⟨R.CNV_SKEW.addr n i, 7, 0⟩
/-- CNV_BWC (CNV + 0x040C). -/
def R.CNV_BWC.addr (n : Port) (i : Nat) : Nat := portBlock n 0x10000 + 0x40C + 0x10 * i
def R.CNV_BWC.bwc (n : Port) (i : Nat) : RegField := ⟨R.CNV_BWC.addr n i, 5, 0⟩
/-- SLU_CTRL (SLU + 0x0000). -/
def R.SLU_CTRL.addr (n : Port) : Nat := portBlock n 0x20000 + 0x0
def R.SLU_CTRL.los_frames (n : Port) : RegField := ⟨R.SLU_CTRL.addr n, 23, 16⟩
def R.SLU_CTRL.sd_gate (n : Port) : RegField := ⟨R.SLU_CTRL.addr n, 1, 1⟩
def R.SLU_CTRL.agc_en (n : Port) : RegField := ⟨R.SLU_CTRL.addr n, 0, 0⟩
/-- SLU_WINDOW (SLU + 0x0004). -/
def R.SLU_WINDOW.addr (n : Port) : Nat := portBlock n 0x20000 + 0x4
def R.SLU_WINDOW.w (n : Port) : RegField := ⟨R.SLU_WINDOW.addr n, 8, 0⟩
/-- SLU_DETECT (SLU + 0x0008). -/
def R.SLU_DETECT.addr (n : Port) : Nat := portBlock n 0x20000 + 0x8
def R.SLU_DETECT.dlm_err (n : Port) : RegField := ⟨R.SLU_DETECT.addr n, 19, 16⟩
def R.SLU_DETECT.takeover_margin (n : Port) : RegField := ⟨R.SLU_DETECT.addr n, 15, 8⟩
def R.SLU_DETECT.det_thresh (n : Port) : RegField := ⟨R.SLU_DETECT.addr n, 7, 0⟩
/-- SLU_AGC (SLU + 0x000C). -/
def R.SLU_AGC.addr (n : Port) : Nat := portBlock n 0x20000 + 0xC
def R.SLU_AGC.agc_range (n : Port) : RegField := ⟨R.SLU_AGC.addr n, 21, 16⟩
def R.SLU_AGC.agc_floor (n : Port) : RegField := ⟨R.SLU_AGC.addr n, 15, 8⟩
def R.SLU_AGC.agc_target (n : Port) : RegField := ⟨R.SLU_AGC.addr n, 7, 0⟩
/-- SLU_PULSE (SLU + 0x0010). -/
def R.SLU_PULSE.addr (n : Port) : Nat := portBlock n 0x20000 + 0x10
def R.SLU_PULSE.pin_delay (n : Port) : RegField := ⟨R.SLU_PULSE.addr n, 31, 28⟩
def R.SLU_PULSE.lvl_width (n : Port) : RegField := ⟨R.SLU_PULSE.addr n, 23, 18⟩
def R.SLU_PULSE.lvl_start (n : Port) : RegField := ⟨R.SLU_PULSE.addr n, 17, 12⟩
def R.SLU_PULSE.rst_width (n : Port) : RegField := ⟨R.SLU_PULSE.addr n, 11, 6⟩
def R.SLU_PULSE.rst_start (n : Port) : RegField := ⟨R.SLU_PULSE.addr n, 5, 0⟩
/-- SLU_BPROF (SLU + 0x0020). -/
def R.SLU_BPROF.addr (n : Port) (i : Nat) : Nat := portBlock n 0x20000 + 0x20 + 0x4 * i
def R.SLU_BPROF.enabled (n : Port) (i : Nat) : RegField := ⟨R.SLU_BPROF.addr n i, 31, 31⟩
def R.SLU_BPROF.pre_slots (n : Port) (i : Nat) : RegField := ⟨R.SLU_BPROF.addr n i, 22, 16⟩
def R.SLU_BPROF.guard_slots (n : Port) (i : Nat) : RegField := ⟨R.SLU_BPROF.addr n i, 6, 0⟩
/-- SLU_G50_BP_CTL (SLU + 0x0100). -/
def R.SLU_G50_BP_CTL.addr (n : Port) (i : Nat) : Nat := portBlock n 0x20000 + 0x100 + 0x20 * i
def R.SLU_G50_BP_CTL.enabled (n : Port) (i : Nat) : RegField := ⟨R.SLU_G50_BP_CTL.addr n i, 31, 31⟩
def R.SLU_G50_BP_CTL.rate (n : Port) (i : Nat) : RegField := ⟨R.SLU_G50_BP_CTL.addr n i, 30, 29⟩
def R.SLU_G50_BP_CTL.guard_bits (n : Port) (i : Nat) : RegField := ⟨R.SLU_G50_BP_CTL.addr n i, 27, 16⟩
def R.SLU_G50_BP_CTL.pre_reps (n : Port) (i : Nat) : RegField := ⟨R.SLU_G50_BP_CTL.addr n i, 15, 8⟩
def R.SLU_G50_BP_CTL.dlm_bytes (n : Port) (i : Nat) : RegField := ⟨R.SLU_G50_BP_CTL.addr n i, 3, 0⟩
/-- SLU_G50_BP_PRE_LO (SLU + 0x0104). -/
def R.SLU_G50_BP_PRE_LO.addr (n : Port) (i : Nat) : Nat := portBlock n 0x20000 + 0x104 + 0x20 * i
def R.SLU_G50_BP_PRE_LO.pre_lo (n : Port) (i : Nat) : RegField := ⟨R.SLU_G50_BP_PRE_LO.addr n i, 31, 0⟩
/-- SLU_G50_BP_PRE_HI (SLU + 0x0108). -/
def R.SLU_G50_BP_PRE_HI.addr (n : Port) (i : Nat) : Nat := portBlock n 0x20000 + 0x108 + 0x20 * i
def R.SLU_G50_BP_PRE_HI.pre_hi (n : Port) (i : Nat) : RegField := ⟨R.SLU_G50_BP_PRE_HI.addr n i, 31, 0⟩
/-- SLU_G50_BP_DLM_LO (SLU + 0x010C). -/
def R.SLU_G50_BP_DLM_LO.addr (n : Port) (i : Nat) : Nat := portBlock n 0x20000 + 0x10C + 0x20 * i
def R.SLU_G50_BP_DLM_LO.dlm_lo (n : Port) (i : Nat) : RegField := ⟨R.SLU_G50_BP_DLM_LO.addr n i, 31, 0⟩
/-- SLU_G50_BP_DLM_HI (SLU + 0x0110). -/
def R.SLU_G50_BP_DLM_HI.addr (n : Port) (i : Nat) : Nat := portBlock n 0x20000 + 0x110 + 0x20 * i
def R.SLU_G50_BP_DLM_HI.dlm_hi (n : Port) (i : Nat) : RegField := ⟨R.SLU_G50_BP_DLM_HI.addr n i, 31, 0⟩
/-- SLU_DISC_PRESET (SLU + 0x0200). -/
def R.SLU_DISC_PRESET.addr (n : Port) : Nat := portBlock n 0x20000 + 0x200
def R.SLU_DISC_PRESET.cdr_phase (n : Port) : RegField := ⟨R.SLU_DISC_PRESET.addr n, 31, 26⟩
def R.SLU_DISC_PRESET.dc_level (n : Port) : RegField := ⟨R.SLU_DISC_PRESET.addr n, 24, 16⟩
def R.SLU_DISC_PRESET.gain (n : Port) : RegField := ⟨R.SLU_DISC_PRESET.addr n, 14, 8⟩
def R.SLU_DISC_PRESET.ctle (n : Port) : RegField := ⟨R.SLU_DISC_PRESET.addr n, 3, 0⟩
/-- SLU_DISC_CTL (SLU + 0x0204). -/
def R.SLU_DISC_CTL.addr (n : Port) : Nat := portBlock n 0x20000 + 0x204
def R.SLU_DISC_CTL.resp_slots (n : Port) : RegField := ⟨R.SLU_DISC_CTL.addr n, 24, 16⟩
def R.SLU_DISC_CTL.disc_profile (n : Port) : RegField := ⟨R.SLU_DISC_CTL.addr n, 2, 0⟩
/-- SLU_RSSI_CTL (SLU + 0x0210). -/
def R.SLU_RSSI_CTL.addr (n : Port) : Nat := portBlock n 0x20000 + 0x210
def R.SLU_RSSI_CTL.mark_en (n : Port) : RegField := ⟨R.SLU_RSSI_CTL.addr n, 31, 31⟩
def R.SLU_RSSI_CTL.mark_mode (n : Port) : RegField := ⟨R.SLU_RSSI_CTL.addr n, 30, 29⟩
def R.SLU_RSSI_CTL.mark_div (n : Port) : RegField := ⟨R.SLU_RSSI_CTL.addr n, 28, 25⟩
def R.SLU_RSSI_CTL.mark_onu (n : Port) : RegField := ⟨R.SLU_RSSI_CTL.addr n, 22, 13⟩
def R.SLU_RSSI_CTL.mark_delay (n : Port) : RegField := ⟨R.SLU_RSSI_CTL.addr n, 9, 0⟩
/-- SLU_STATUS (SLU + 0x0300). -/
def R.SLU_STATUS.addr (n : Port) : Nat := portBlock n 0x20000 + 0x300
def R.SLU_STATUS.los (n : Port) : RegField := ⟨R.SLU_STATUS.addr n, 31, 31⟩
def R.SLU_STATUS.cfg_err (n : Port) : RegField := ⟨R.SLU_STATUS.addr n, 30, 30⟩
def R.SLU_STATUS.chan_a_state (n : Port) : RegField := ⟨R.SLU_STATUS.addr n, 29, 27⟩
def R.SLU_STATUS.chan_b_state (n : Port) : RegField := ⟨R.SLU_STATUS.addr n, 26, 24⟩
/-- SLU_EVT (SLU + 0x0304). -/
def R.SLU_EVT.addr (n : Port) : Nat := portBlock n 0x20000 + 0x304
def R.SLU_EVT.cfg_refused (n : Port) : RegField := ⟨R.SLU_EVT.addr n, 4, 4⟩
def R.SLU_EVT.mark_suppressed (n : Port) : RegField := ⟨R.SLU_EVT.addr n, 3, 3⟩
def R.SLU_EVT.preset_miss (n : Port) : RegField := ⟨R.SLU_EVT.addr n, 2, 2⟩
def R.SLU_EVT.drift (n : Port) : RegField := ⟨R.SLU_EVT.addr n, 1, 1⟩
def R.SLU_EVT.los_seen (n : Port) : RegField := ⟨R.SLU_EVT.addr n, 0, 0⟩
/-- SLU_LAST_BURST_0 (SLU + 0x0310). -/
def R.SLU_LAST_BURST_0.addr (n : Port) : Nat := portBlock n 0x20000 + 0x310
def R.SLU_LAST_BURST_0.metric (n : Port) : RegField := ⟨R.SLU_LAST_BURST_0.addr n, 31, 24⟩
def R.SLU_LAST_BURST_0.false_locks (n : Port) : RegField := ⟨R.SLU_LAST_BURST_0.addr n, 23, 20⟩
def R.SLU_LAST_BURST_0.takeovers (n : Port) : RegField := ⟨R.SLU_LAST_BURST_0.addr n, 19, 16⟩
def R.SLU_LAST_BURST_0.result (n : Port) : RegField := ⟨R.SLU_LAST_BURST_0.addr n, 14, 12⟩
def R.SLU_LAST_BURST_0.onu_id (n : Port) : RegField := ⟨R.SLU_LAST_BURST_0.addr n, 9, 0⟩
/-- SLU_LAST_BURST_1 (SLU + 0x0314). -/
def R.SLU_LAST_BURST_1.addr (n : Port) : Nat := portBlock n 0x20000 + 0x314
def R.SLU_LAST_BURST_1.frame_lo (n : Port) : RegField := ⟨R.SLU_LAST_BURST_1.addr n, 31, 16⟩
def R.SLU_LAST_BURST_1.arrival (n : Port) : RegField := ⟨R.SLU_LAST_BURST_1.addr n, 15, 0⟩
/-- EQZ_CTRL (EQZ + 0x0000). -/
def R.EQZ_CTRL.addr (n : Port) : Nat := portBlock n 0x30000 + 0x0
def R.EQZ_CTRL.mu_cm (n : Port) : RegField := ⟨R.EQZ_CTRL.addr n, 23, 22⟩
def R.EQZ_CTRL.mu (n : Port) : RegField := ⟨R.EQZ_CTRL.addr n, 21, 20⟩
def R.EQZ_CTRL.decim (n : Port) : RegField := ⟨R.EQZ_CTRL.addr n, 18, 16⟩
def R.EQZ_CTRL.leak_rate (n : Port) : RegField := ⟨R.EQZ_CTRL.addr n, 15, 12⟩
def R.EQZ_CTRL.auto_anchor (n : Port) : RegField := ⟨R.EQZ_CTRL.addr n, 11, 8⟩
def R.EQZ_CTRL.leak_en (n : Port) : RegField := ⟨R.EQZ_CTRL.addr n, 3, 3⟩
def R.EQZ_CTRL.track_en (n : Port) : RegField := ⟨R.EQZ_CTRL.addr n, 2, 2⟩
def R.EQZ_CTRL.rake_en (n : Port) : RegField := ⟨R.EQZ_CTRL.addr n, 0, 0⟩
/-- EQZ_RICH (EQZ + 0x0004). -/
def R.EQZ_RICH.addr (n : Port) : Nat := portBlock n 0x30000 + 0x4
def R.EQZ_RICH.trans_min (n : Port) : RegField := ⟨R.EQZ_RICH.addr n, 27, 16⟩
def R.EQZ_RICH.level_min (n : Port) : RegField := ⟨R.EQZ_RICH.addr n, 10, 0⟩
/-- EQZ_SS (EQZ + 0x0008). -/
def R.EQZ_SS.addr (n : Port) : Nat := portBlock n 0x30000 + 0x8
def R.EQZ_SS.track_min (n : Port) : RegField := ⟨R.EQZ_SS.addr n, 23, 16⟩
def R.EQZ_SS.dead (n : Port) : RegField := ⟨R.EQZ_SS.addr n, 11, 0⟩
/-- EQZ_TARGET (EQZ + 0x000C). -/
def R.EQZ_TARGET.addr (n : Port) : Nat := portBlock n 0x30000 + 0xC
def R.EQZ_TARGET.conv_err (n : Port) : RegField := ⟨R.EQZ_TARGET.addr n, 27, 16⟩
def R.EQZ_TARGET.t_ (n : Port) : RegField := ⟨R.EQZ_TARGET.addr n, 6, 0⟩
/-- EQZ_TRAIN (EQZ + 0x0010). -/
def R.EQZ_TRAIN.addr (n : Port) : Nat := portBlock n 0x30000 + 0x10
def R.EQZ_TRAIN.train_gear (n : Port) : RegField := ⟨R.EQZ_TRAIN.addr n, 11, 8⟩
def R.EQZ_TRAIN.train_mu0 (n : Port) : RegField := ⟨R.EQZ_TRAIN.addr n, 2, 0⟩
/-- EQZ_DISC_TAP (EQZ + 0x0100). -/
def R.EQZ_DISC_TAP.addr (n : Port) (i : Nat) : Nat := portBlock n 0x30000 + 0x100 + 0x4 * i
def R.EQZ_DISC_TAP.tap_hi (n : Port) (i : Nat) : RegField := ⟨R.EQZ_DISC_TAP.addr n i, 27, 16⟩
def R.EQZ_DISC_TAP.tap_lo (n : Port) (i : Nat) : RegField := ⟨R.EQZ_DISC_TAP.addr n i, 11, 0⟩
/-- EQZ_STATUS (EQZ + 0x0200). -/
def R.EQZ_STATUS.addr (n : Port) : Nat := portBlock n 0x30000 + 0x200
def R.EQZ_STATUS.cfg_err (n : Port) : RegField := ⟨R.EQZ_STATUS.addr n, 30, 30⟩
def R.EQZ_STATUS.running (n : Port) : RegField := ⟨R.EQZ_STATUS.addr n, 8, 0⟩
/-- EQZ_EVT (EQZ + 0x0204). -/
def R.EQZ_EVT.addr (n : Port) : Nat := portBlock n 0x30000 + 0x204
def R.EQZ_EVT.evt (n : Port) : RegField := ⟨R.EQZ_EVT.addr n, 6, 0⟩
/-- EQZ_LAST_WB_0 (EQZ + 0x0210). -/
def R.EQZ_LAST_WB_0.addr (n : Port) : Nat := portBlock n 0x30000 + 0x210
def R.EQZ_LAST_WB_0.result (n : Port) : RegField := ⟨R.EQZ_LAST_WB_0.addr n, 31, 29⟩
def R.EQZ_LAST_WB_0.anchored (n : Port) : RegField := ⟨R.EQZ_LAST_WB_0.addr n, 28, 28⟩
def R.EQZ_LAST_WB_0.used_blocks (n : Port) : RegField := ⟨R.EQZ_LAST_WB_0.addr n, 27, 16⟩
def R.EQZ_LAST_WB_0.onu_id (n : Port) : RegField := ⟨R.EQZ_LAST_WB_0.addr n, 9, 0⟩
/-- EQZ_LAST_WB_1 (EQZ + 0x0214). -/
def R.EQZ_LAST_WB_1.addr (n : Port) : Nat := portBlock n 0x30000 + 0x214
def R.EQZ_LAST_WB_1.err_mean (n : Port) : RegField := ⟨R.EQZ_LAST_WB_1.addr n, 31, 16⟩
def R.EQZ_LAST_WB_1.frozen_blocks (n : Port) : RegField := ⟨R.EQZ_LAST_WB_1.addr n, 11, 0⟩
/-- XTL_CTRL (XTL + 0x0000). -/
def R.XTL_CTRL.addr (n : Port) : Nat := portBlock n 0x40000 + 0x0
def R.XTL_CTRL.audit_en (n : Port) : RegField := ⟨R.XTL_CTRL.addr n, 31, 31⟩
def R.XTL_CTRL.audit_rate (n : Port) : RegField := ⟨R.XTL_CTRL.addr n, 27, 24⟩
def R.XTL_CTRL.llr_scale (n : Port) : RegField := ⟨R.XTL_CTRL.addr n, 18, 16⟩
def R.XTL_CTRL.min_sum_offset (n : Port) : RegField := ⟨R.XTL_CTRL.addr n, 10, 8⟩
def R.XTL_CTRL.early_stop (n : Port) : RegField := ⟨R.XTL_CTRL.addr n, 0, 0⟩
/-- XTL_FAIL_CTL (XTL + 0x0004). -/
def R.XTL_FAIL_CTL.addr (n : Port) : Nat := portBlock n 0x40000 + 0x4
def R.XTL_FAIL_CTL.fail_thresh (n : Port) : RegField := ⟨R.XTL_FAIL_CTL.addr n, 15, 0⟩
/-- XTL_G50_CTL (XTL + 0x0008). -/
def R.XTL_G50_CTL.addr (n : Port) : Nat := portBlock n 0x40000 + 0x8
def R.XTL_G50_CTL.cm2 (n : Port) : RegField := ⟨R.XTL_G50_CTL.addr n, 7, 0⟩
/-- XTL_WATCH (XTL + 0x000C). -/
def R.XTL_WATCH.addr (n : Port) : Nat := portBlock n 0x40000 + 0xC
def R.XTL_WATCH.watch_en (n : Port) : RegField := ⟨R.XTL_WATCH.addr n, 31, 31⟩
def R.XTL_WATCH.watch_onu (n : Port) : RegField := ⟨R.XTL_WATCH.addr n, 9, 0⟩
/-- XTL_STATUS (XTL + 0x0010). -/
def R.XTL_STATUS.addr (n : Port) : Nat := portBlock n 0x40000 + 0x10
def R.XTL_STATUS.cfg_err (n : Port) : RegField := ⟨R.XTL_STATUS.addr n, 31, 31⟩
def R.XTL_STATUS.eng_degraded (n : Port) : RegField := ⟨R.XTL_STATUS.addr n, 30, 30⟩
def R.XTL_STATUS.dec_degraded (n : Port) : RegField := ⟨R.XTL_STATUS.addr n, 29, 29⟩
def R.XTL_STATUS.eng_audit_off (n : Port) : RegField := ⟨R.XTL_STATUS.addr n, 28, 28⟩
def R.XTL_STATUS.dec_audit_off (n : Port) : RegField := ⟨R.XTL_STATUS.addr n, 27, 27⟩
def R.XTL_STATUS.eng_active (n : Port) : RegField := ⟨R.XTL_STATUS.addr n, 23, 19⟩
def R.XTL_STATUS.eng_spare_free (n : Port) : RegField := ⟨R.XTL_STATUS.addr n, 18, 16⟩
def R.XTL_STATUS.dec_active (n : Port) : RegField := ⟨R.XTL_STATUS.addr n, 11, 8⟩
def R.XTL_STATUS.dec_spare_free (n : Port) : RegField := ⟨R.XTL_STATUS.addr n, 1, 0⟩
/-- XTL_EVT (XTL + 0x0014). -/
def R.XTL_EVT.addr (n : Port) : Nat := portBlock n 0x40000 + 0x14
def R.XTL_EVT.evt (n : Port) : RegField := ⟨R.XTL_EVT.addr n, 6, 0⟩
/-- XTL_SPARE_MAP (XTL + 0x0020). -/
def R.XTL_SPARE_MAP.addr (n : Port) : Nat := portBlock n 0x40000 + 0x20
def R.XTL_SPARE_MAP.eng_in_service (n : Port) : RegField := ⟨R.XTL_SPARE_MAP.addr n, 21, 0⟩
/-- XTL_LDPC_MAP (XTL + 0x0024). -/
def R.XTL_LDPC_MAP.addr (n : Port) : Nat := portBlock n 0x40000 + 0x24
def R.XTL_LDPC_MAP.dec_in_service (n : Port) : RegField := ⟨R.XTL_LDPC_MAP.addr n, 8, 0⟩
/-- XTL_TEST_FAIL (XTL + 0x0030). -/
def R.XTL_TEST_FAIL.addr (n : Port) : Nat := portBlock n 0x40000 + 0x30
def R.XTL_TEST_FAIL.go (n : Port) : RegField := ⟨R.XTL_TEST_FAIL.addr n, 31, 31⟩
def R.XTL_TEST_FAIL.cls (n : Port) : RegField := ⟨R.XTL_TEST_FAIL.addr n, 5, 5⟩
def R.XTL_TEST_FAIL.unit (n : Port) : RegField := ⟨R.XTL_TEST_FAIL.addr n, 4, 0⟩
/-- XTL_LAST_FAIL_0 (XTL + 0x0040). -/
def R.XTL_LAST_FAIL_0.addr (n : Port) : Nat := portBlock n 0x40000 + 0x40
def R.XTL_LAST_FAIL_0.cw_index (n : Port) : RegField := ⟨R.XTL_LAST_FAIL_0.addr n, 31, 16⟩
def R.XTL_LAST_FAIL_0.cause (n : Port) : RegField := ⟨R.XTL_LAST_FAIL_0.addr n, 15, 13⟩
def R.XTL_LAST_FAIL_0.onu_id (n : Port) : RegField := ⟨R.XTL_LAST_FAIL_0.addr n, 9, 0⟩
/-- XTL_LAST_FAIL_1 (XTL + 0x0044). -/
def R.XTL_LAST_FAIL_1.addr (n : Port) : Nat := portBlock n 0x40000 + 0x44
def R.XTL_LAST_FAIL_1.frame_lo (n : Port) : RegField := ⟨R.XTL_LAST_FAIL_1.addr n, 31, 16⟩
def R.XTL_LAST_FAIL_1.unsat (n : Port) : RegField := ⟨R.XTL_LAST_FAIL_1.addr n, 11, 0⟩
/-- XTL_UNIT (XTL + 0x0100). -/
def R.XTL_UNIT.addr (n : Port) (i : Nat) : Nat := portBlock n 0x40000 + 0x100 + 0x4 * i
def R.XTL_UNIT.state (n : Port) (i : Nat) : RegField := ⟨R.XTL_UNIT.addr n i, 31, 28⟩
def R.XTL_UNIT.fail_reason (n : Port) (i : Nat) : RegField := ⟨R.XTL_UNIT.addr n i, 11, 8⟩
def R.XTL_UNIT.mismatches (n : Port) (i : Nat) : RegField := ⟨R.XTL_UNIT.addr n i, 7, 0⟩
/-- XTL_DEC (XTL + 0x0180). -/
def R.XTL_DEC.addr (n : Port) (i : Nat) : Nat := portBlock n 0x40000 + 0x180 + 0x4 * i
def R.XTL_DEC.state (n : Port) (i : Nat) : RegField := ⟨R.XTL_DEC.addr n i, 31, 28⟩
def R.XTL_DEC.fail_reason (n : Port) (i : Nat) : RegField := ⟨R.XTL_DEC.addr n i, 11, 8⟩
def R.XTL_DEC.mismatches (n : Port) (i : Nat) : RegField := ⟨R.XTL_DEC.addr n i, 7, 0⟩
/-- TXP_CTRL (TXP + 0x0000). -/
def R.TXP_CTRL.addr (n : Port) : Nat := portBlock n 0x50000 + 0x0
def R.TXP_CTRL.coef_commit (n : Port) : RegField := ⟨R.TXP_CTRL.addr n, 31, 31⟩
def R.TXP_CTRL.mask_commit (n : Port) : RegField := ⟨R.TXP_CTRL.addr n, 30, 30⟩
def R.TXP_CTRL.dac_swing (n : Port) : RegField := ⟨R.TXP_CTRL.addr n, 11, 8⟩
def R.TXP_CTRL.force_off (n : Port) : RegField := ⟨R.TXP_CTRL.addr n, 0, 0⟩
/-- TXP_LEVELS (TXP + 0x0004). -/
def R.TXP_LEVELS.addr (n : Port) : Nat := portBlock n 0x50000 + 0x4
def R.TXP_LEVELS.lvl_p3 (n : Port) : RegField := ⟨R.TXP_LEVELS.addr n, 30, 24⟩
def R.TXP_LEVELS.lvl_p1 (n : Port) : RegField := ⟨R.TXP_LEVELS.addr n, 22, 16⟩
def R.TXP_LEVELS.lvl_m1 (n : Port) : RegField := ⟨R.TXP_LEVELS.addr n, 14, 8⟩
def R.TXP_LEVELS.lvl_m3 (n : Port) : RegField := ⟨R.TXP_LEVELS.addr n, 6, 0⟩
/-- TXP_MASK_CTL (TXP + 0x0008). -/
def R.TXP_MASK_CTL.addr (n : Port) : Nat := portBlock n 0x50000 + 0x8
def R.TXP_MASK_CTL.mon_en (n : Port) : RegField := ⟨R.TXP_MASK_CTL.addr n, 31, 31⟩
def R.TXP_MASK_CTL.mask_action (n : Port) : RegField := ⟨R.TXP_MASK_CTL.addr n, 30, 30⟩
def R.TXP_MASK_CTL.persist (n : Port) : RegField := ⟨R.TXP_MASK_CTL.addr n, 19, 16⟩
def R.TXP_MASK_CTL.mask_period (n : Port) : RegField := ⟨R.TXP_MASK_CTL.addr n, 6, 0⟩
/-- TXP_STATUS (TXP + 0x0010). -/
def R.TXP_STATUS.addr (n : Port) : Nat := portBlock n 0x50000 + 0x10
def R.TXP_STATUS.cfg_err (n : Port) : RegField := ⟨R.TXP_STATUS.addr n, 31, 31⟩
def R.TXP_STATUS.tx_enabled (n : Port) : RegField := ⟨R.TXP_STATUS.addr n, 30, 30⟩
def R.TXP_STATUS.heartbeat (n : Port) : RegField := ⟨R.TXP_STATUS.addr n, 29, 29⟩
def R.TXP_STATUS.coef_pending (n : Port) : RegField := ⟨R.TXP_STATUS.addr n, 28, 28⟩
def R.TXP_STATUS.mask_pending (n : Port) : RegField := ⟨R.TXP_STATUS.addr n, 27, 27⟩
def R.TXP_STATUS.muted (n : Port) : RegField := ⟨R.TXP_STATUS.addr n, 26, 26⟩
def R.TXP_STATUS.viol_bins (n : Port) : RegField := ⟨R.TXP_STATUS.addr n, 15, 8⟩
def R.TXP_STATUS.dis_cause (n : Port) : RegField := ⟨R.TXP_STATUS.addr n, 6, 0⟩
/-- TXP_EVT (TXP + 0x0014). -/
def R.TXP_EVT.addr (n : Port) : Nat := portBlock n 0x50000 + 0x14
def R.TXP_EVT.evt (n : Port) : RegField := ⟨R.TXP_EVT.addr n, 4, 0⟩
/-- TXP_FFE_STG (TXP + 0x0100). -/
def R.TXP_FFE_STG.addr (n : Port) (i : Nat) : Nat := portBlock n 0x50000 + 0x100 + 0x4 * i
def R.TXP_FFE_STG.tap_hi (n : Port) (i : Nat) : RegField := ⟨R.TXP_FFE_STG.addr n i, 27, 16⟩
def R.TXP_FFE_STG.tap_lo (n : Port) (i : Nat) : RegField := ⟨R.TXP_FFE_STG.addr n i, 11, 0⟩
/-- TXP_SHP_STG (TXP + 0x0140). -/
def R.TXP_SHP_STG.addr (n : Port) (i : Nat) : Nat := portBlock n 0x50000 + 0x140 + 0x4 * i
def R.TXP_SHP_STG.tap_hi (n : Port) (i : Nat) : RegField := ⟨R.TXP_SHP_STG.addr n i, 27, 16⟩
def R.TXP_SHP_STG.tap_lo (n : Port) (i : Nat) : RegField := ⟨R.TXP_SHP_STG.addr n i, 11, 0⟩
/-- TXP_FFE_LIVE (TXP + 0x0200). -/
def R.TXP_FFE_LIVE.addr (n : Port) (i : Nat) : Nat := portBlock n 0x50000 + 0x200 + 0x4 * i
def R.TXP_FFE_LIVE.tap_hi (n : Port) (i : Nat) : RegField := ⟨R.TXP_FFE_LIVE.addr n i, 27, 16⟩
def R.TXP_FFE_LIVE.tap_lo (n : Port) (i : Nat) : RegField := ⟨R.TXP_FFE_LIVE.addr n i, 11, 0⟩
/-- TXP_SHP_LIVE (TXP + 0x0240). -/
def R.TXP_SHP_LIVE.addr (n : Port) (i : Nat) : Nat := portBlock n 0x50000 + 0x240 + 0x4 * i
def R.TXP_SHP_LIVE.tap_hi (n : Port) (i : Nat) : RegField := ⟨R.TXP_SHP_LIVE.addr n i, 27, 16⟩
def R.TXP_SHP_LIVE.tap_lo (n : Port) (i : Nat) : RegField := ⟨R.TXP_SHP_LIVE.addr n i, 11, 0⟩
/-- TXP_MASK_STG (TXP + 0x0300). -/
def R.TXP_MASK_STG.addr (n : Port) (i : Nat) : Nat := portBlock n 0x50000 + 0x300 + 0x4 * i
def R.TXP_MASK_STG.bin_3 (n : Port) (i : Nat) : RegField := ⟨R.TXP_MASK_STG.addr n i, 31, 24⟩
def R.TXP_MASK_STG.bin_2 (n : Port) (i : Nat) : RegField := ⟨R.TXP_MASK_STG.addr n i, 23, 16⟩
def R.TXP_MASK_STG.bin_1 (n : Port) (i : Nat) : RegField := ⟨R.TXP_MASK_STG.addr n i, 15, 8⟩
def R.TXP_MASK_STG.bin_0 (n : Port) (i : Nat) : RegField := ⟨R.TXP_MASK_STG.addr n i, 7, 0⟩
/-- TXP_PSD (TXP + 0x0400). -/
def R.TXP_PSD.addr (n : Port) (i : Nat) : Nat := portBlock n 0x50000 + 0x400 + 0x4 * i
def R.TXP_PSD.bin_3 (n : Port) (i : Nat) : RegField := ⟨R.TXP_PSD.addr n i, 31, 24⟩
def R.TXP_PSD.bin_2 (n : Port) (i : Nat) : RegField := ⟨R.TXP_PSD.addr n i, 23, 16⟩
def R.TXP_PSD.bin_1 (n : Port) (i : Nat) : RegField := ⟨R.TXP_PSD.addr n i, 15, 8⟩
def R.TXP_PSD.bin_0 (n : Port) (i : Nat) : RegField := ⟨R.TXP_PSD.addr n i, 7, 0⟩
/-- TXP_VIOL (TXP + 0x0480). -/
def R.TXP_VIOL.addr (n : Port) (i : Nat) : Nat := portBlock n 0x50000 + 0x480 + 0x4 * i
def R.TXP_VIOL.flag (n : Port) (i : Nat) : RegField := ⟨R.TXP_VIOL.addr n i, 31, 0⟩
/-- TCF_CTRL (TCF + 0x0000). -/
def R.TCF_CTRL.addr (n : Port) : Nat := portBlock n 0x60000 + 0x0
def R.TCF_CTRL.ploam_max (n : Port) : RegField := ⟨R.TCF_CTRL.addr n, 20, 16⟩
def R.TCF_CTRL.reasm_frames (n : Port) : RegField := ⟨R.TCF_CTRL.addr n, 15, 8⟩
/-- TCF_SDU (TCF + 0x0004). -/
def R.TCF_SDU.addr (n : Port) : Nat := portBlock n 0x60000 + 0x4
def R.TCF_SDU.max_sdu (n : Port) : RegField := ⟨R.TCF_SDU.addr n, 13, 0⟩
/-- TCF_MGMT (TCF + 0x0008). -/
def R.TCF_MGMT.addr (n : Port) : Nat := portBlock n 0x60000 + 0x8
def R.TCF_MGMT.mgmt_max (n : Port) : RegField := ⟨R.TCF_MGMT.addr n, 15, 0⟩
/-- TCF_G50 (TCF + 0x0010). -/
def R.TCF_G50.addr (n : Port) : Nat := portBlock n 0x60000 + 0x10
def R.TCF_G50.flow_base (n : Port) : RegField := ⟨R.TCF_G50.addr n, 3, 0⟩
/-- TCF_G50_PONID (TCF + 0x0014). -/
def R.TCF_G50_PONID.addr (n : Port) : Nat := portBlock n 0x60000 + 0x14
def R.TCF_G50_PONID.pon_id (n : Port) : RegField := ⟨R.TCF_G50_PONID.addr n, 31, 0⟩
/-- TCF_STATUS (TCF + 0x0020). -/
def R.TCF_STATUS.addr (n : Port) : Nat := portBlock n 0x60000 + 0x20
def R.TCF_STATUS.cfg_err (n : Port) : RegField := ⟨R.TCF_STATUS.addr n, 31, 31⟩
def R.TCF_STATUS.ds_frag_pending (n : Port) : RegField := ⟨R.TCF_STATUS.addr n, 30, 30⟩
def R.TCF_STATUS.ploam_queued (n : Port) : RegField := ⟨R.TCF_STATUS.addr n, 24, 16⟩
def R.TCF_STATUS.rx_posted (n : Port) : RegField := ⟨R.TCF_STATUS.addr n, 10, 0⟩
/-- TCF_EVT (TCF + 0x0024). -/
def R.TCF_EVT.addr (n : Port) : Nat := portBlock n 0x60000 + 0x24
def R.TCF_EVT.evt (n : Port) : RegField := ⟨R.TCF_EVT.addr n, 7, 0⟩
/-- TCF_FC_0 (TCF + 0x0030). -/
def R.TCF_FC_0.addr (n : Port) : Nat := portBlock n 0x60000 + 0x30
def R.TCF_FC_0.fc_lo (n : Port) : RegField := ⟨R.TCF_FC_0.addr n, 31, 0⟩
/-- TCF_FC_1 (TCF + 0x0034). -/
def R.TCF_FC_1.addr (n : Port) : Nat := portBlock n 0x60000 + 0x34
def R.TCF_FC_1.fc_hi (n : Port) : RegField := ⟨R.TCF_FC_1.addr n, 18, 0⟩
/-- TCF_LAST_MISDIR (TCF + 0x0040). -/
def R.TCF_LAST_MISDIR.addr (n : Port) : Nat := portBlock n 0x60000 + 0x40
def R.TCF_LAST_MISDIR.hdr_onu_id (n : Port) : RegField := ⟨R.TCF_LAST_MISDIR.addr n, 31, 22⟩
def R.TCF_LAST_MISDIR.alloc_id (n : Port) : RegField := ⟨R.TCF_LAST_MISDIR.addr n, 21, 10⟩
def R.TCF_LAST_MISDIR.owner_onu_id (n : Port) : RegField := ⟨R.TCF_LAST_MISDIR.addr n, 9, 0⟩
/-- ONU_ACT_CTL (ONU + 0x40000). -/
def R.ONU_ACT_CTL.addr (n : Port) : Nat := portBlock n 0x80000 + 0x40000
def R.ONU_ACT_CTL.act_en (n : Port) : RegField := ⟨R.ONU_ACT_CTL.addr n, 31, 31⟩
def R.ONU_ACT_CTL.auto_admit (n : Port) : RegField := ⟨R.ONU_ACT_CTL.addr n, 30, 30⟩
def R.ONU_ACT_CTL.train_on_act (n : Port) : RegField := ⟨R.ONU_ACT_CTL.addr n, 29, 29⟩
def R.ONU_ACT_CTL.disc_period (n : Port) : RegField := ⟨R.ONU_ACT_CTL.addr n, 7, 0⟩
/-- ONU_DISC (ONU + 0x40004). -/
def R.ONU_DISC.addr (n : Port) : Nat := portBlock n 0x80000 + 0x40004
def R.ONU_DISC.disc_rand (n : Port) : RegField := ⟨R.ONU_DISC.addr n, 31, 24⟩
def R.ONU_DISC.disc_len (n : Port) : RegField := ⟨R.ONU_DISC.addr n, 17, 0⟩
/-- ONU_RTD_MIN (ONU + 0x40008). -/
def R.ONU_RTD_MIN.addr (n : Port) : Nat := portBlock n 0x80000 + 0x40008
def R.ONU_RTD_MIN.rtd (n : Port) : RegField := ⟨R.ONU_RTD_MIN.addr n, 23, 0⟩
/-- ONU_RTD_MAX (ONU + 0x4000C). -/
def R.ONU_RTD_MAX.addr (n : Port) : Nat := portBlock n 0x80000 + 0x4000C
def R.ONU_RTD_MAX.rtd (n : Port) : RegField := ⟨R.ONU_RTD_MAX.addr n, 23, 0⟩
/-- ONU_TIMERS (ONU + 0x40010). -/
def R.ONU_TIMERS.addr (n : Port) : Nat := portBlock n 0x80000 + 0x40010
def R.ONU_TIMERS.unans_max (n : Port) : RegField := ⟨R.ONU_TIMERS.addr n, 31, 28⟩
def R.ONU_TIMERS.rng_tries (n : Port) : RegField := ⟨R.ONU_TIMERS.addr n, 27, 24⟩
def R.ONU_TIMERS.miss_max (n : Port) : RegField := ⟨R.ONU_TIMERS.addr n, 23, 16⟩
def R.ONU_TIMERS.absent_frames (n : Port) : RegField := ⟨R.ONU_TIMERS.addr n, 15, 0⟩
/-- ONU_TRACK (ONU + 0x40014). -/
def R.ONU_TRACK.addr (n : Port) : Nat := portBlock n 0x80000 + 0x40014
def R.ONU_TRACK.train_valid (n : Port) : RegField := ⟨R.ONU_TRACK.addr n, 31, 24⟩
def R.ONU_TRACK.nc_max (n : Port) : RegField := ⟨R.ONU_TRACK.addr n, 23, 20⟩
def R.ONU_TRACK.drift_avg (n : Port) : RegField := ⟨R.ONU_TRACK.addr n, 11, 8⟩
def R.ONU_TRACK.drift_thresh (n : Port) : RegField := ⟨R.ONU_TRACK.addr n, 7, 0⟩
/-- ONU_STATUS (ONU + 0x40020). -/
def R.ONU_STATUS.addr (n : Port) : Nat := portBlock n 0x80000 + 0x40020
def R.ONU_STATUS.cfg_err (n : Port) : RegField := ⟨R.ONU_STATUS.addr n, 31, 31⟩
def R.ONU_STATUS.contexts (n : Port) : RegField := ⟨R.ONU_STATUS.addr n, 24, 16⟩
def R.ONU_STATUS.operating (n : Port) : RegField := ⟨R.ONU_STATUS.addr n, 8, 0⟩
/-- ONU_EVT (ONU + 0x40024). -/
def R.ONU_EVT.addr (n : Port) : Nat := portBlock n 0x80000 + 0x40024
def R.ONU_EVT.evt (n : Port) : RegField := ⟨R.ONU_EVT.addr n, 7, 0⟩
/-- ONU_IDMAP (ONU + 0x41000). -/
def R.ONU_IDMAP.addr (n : Port) (i : Nat) : Nat := portBlock n 0x80000 + 0x41000 + 0x4 * i
def R.ONU_IDMAP.valid (n : Port) (i : Nat) : RegField := ⟨R.ONU_IDMAP.addr n i, 31, 31⟩
def R.ONU_IDMAP.slot (n : Port) (i : Nat) : RegField := ⟨R.ONU_IDMAP.addr n i, 7, 0⟩
/-- DBA_CTRL (DBA + 0x0000). -/
def R.DBA_CTRL.addr (n : Port) : Nat := portBlock n 0x70000 + 0x0
def R.DBA_CTRL.trend_en (n : Port) : RegField := ⟨R.DBA_CTRL.addr n, 28, 28⟩
def R.DBA_CTRL.trend_gain (n : Port) : RegField := ⟨R.DBA_CTRL.addr n, 27, 24⟩
def R.DBA_CTRL.gap_slots (n : Port) : RegField := ⟨R.DBA_CTRL.addr n, 19, 16⟩
def R.DBA_CTRL.poll_period (n : Port) : RegField := ⟨R.DBA_CTRL.addr n, 15, 8⟩
def R.DBA_CTRL.plo_period (n : Port) : RegField := ⟨R.DBA_CTRL.addr n, 7, 0⟩
/-- DBA_GUAR (DBA + 0x0004). -/
def R.DBA_GUAR.addr (n : Port) : Nat := portBlock n 0x70000 + 0x4
def R.DBA_GUAR.guar_limit (n : Port) : RegField := ⟨R.DBA_GUAR.addr n, 17, 0⟩
/-- DBA_DISC_POS (DBA + 0x0008). -/
def R.DBA_DISC_POS.addr (n : Port) : Nat := portBlock n 0x70000 + 0x8
def R.DBA_DISC_POS.disc_start (n : Port) : RegField := ⟨R.DBA_DISC_POS.addr n, 17, 0⟩
/-- DBA_TRAIN (DBA + 0x000C). -/
def R.DBA_TRAIN.addr (n : Port) : Nat := portBlock n 0x70000 + 0xC
def R.DBA_TRAIN.train_profile (n : Port) : RegField := ⟨R.DBA_TRAIN.addr n, 26, 24⟩
def R.DBA_TRAIN.train_slots (n : Port) : RegField := ⟨R.DBA_TRAIN.addr n, 17, 0⟩
/-- DBA_STATUS (DBA + 0x0010). -/
def R.DBA_STATUS.addr (n : Port) : Nat := portBlock n 0x70000 + 0x10
def R.DBA_STATUS.cfg_err (n : Port) : RegField := ⟨R.DBA_STATUS.addr n, 31, 31⟩
def R.DBA_STATUS.entries (n : Port) : RegField := ⟨R.DBA_STATUS.addr n, 26, 16⟩
def R.DBA_STATUS.pass_us (n : Port) : RegField := ⟨R.DBA_STATUS.addr n, 6, 0⟩
/-- DBA_GUAR_USED (DBA + 0x0014). -/
def R.DBA_GUAR_USED.addr (n : Port) : Nat := portBlock n 0x70000 + 0x14
def R.DBA_GUAR_USED.guar_sum (n : Port) : RegField := ⟨R.DBA_GUAR_USED.addr n, 17, 0⟩
/-- DBA_EVT (DBA + 0x0018). -/
def R.DBA_EVT.addr (n : Port) : Nat := portBlock n 0x70000 + 0x18
def R.DBA_EVT.evt (n : Port) : RegField := ⟨R.DBA_EVT.addr n, 5, 0⟩
/-- DBA_TM_CTRL (DBA + 0x0100). -/
def R.DBA_TM_CTRL.addr (n : Port) : Nat := portBlock n 0x70000 + 0x100
def R.DBA_TM_CTRL.sp_floor (n : Port) : RegField := ⟨R.DBA_TM_CTRL.addr n, 30, 28⟩
def R.DBA_TM_CTRL.port_burst (n : Port) : RegField := ⟨R.DBA_TM_CTRL.addr n, 27, 20⟩
def R.DBA_TM_CTRL.port_rate (n : Port) : RegField := ⟨R.DBA_TM_CTRL.addr n, 19, 0⟩
/-- DBA_TM_LIMIT (DBA + 0x0104). -/
def R.DBA_TM_LIMIT.addr (n : Port) : Nat := portBlock n 0x70000 + 0x104
def R.DBA_TM_LIMIT.port_max_cells (n : Port) : RegField := ⟨R.DBA_TM_LIMIT.addr n, 26, 0⟩
/-- DBA_TM_STATUS (DBA + 0x0108). -/
def R.DBA_TM_STATUS.addr (n : Port) : Nat := portBlock n 0x70000 + 0x108
def R.DBA_TM_STATUS.at_limit (n : Port) : RegField := ⟨R.DBA_TM_STATUS.addr n, 31, 31⟩
def R.DBA_TM_STATUS.port_cells (n : Port) : RegField := ⟨R.DBA_TM_STATUS.addr n, 26, 0⟩
/-- DBA_QLIM (DBA + 0x0200). -/
def R.DBA_QLIM.addr (n : Port) (i : Nat) : Nat := portBlock n 0x70000 + 0x200 + 0x4 * i
def R.DBA_QLIM.max_cells (n : Port) (i : Nat) : RegField := ⟨R.DBA_QLIM.addr n i, 31, 16⟩
def R.DBA_QLIM.yellow_cells (n : Port) (i : Nat) : RegField := ⟨R.DBA_QLIM.addr n i, 15, 0⟩
/-- LPD_POOL_CTL (LPD + 0x0800). -/
def R.LPD_POOL_CTL.addr : Nat := 0x80800
def R.LPD_POOL_CTL.ct_q_max : RegField := ⟨R.LPD_POOL_CTL.addr, 23, 16⟩
def R.LPD_POOL_CTL.ct_reserve : RegField := ⟨R.LPD_POOL_CTL.addr, 15, 0⟩
/-- LPD_POOL_CT (LPD + 0x0804). -/
def R.LPD_POOL_CT.addr : Nat := 0x80804
def R.LPD_POOL_CT.free : RegField := ⟨R.LPD_POOL_CT.addr, 26, 0⟩
/-- LPD_POOL_LP (LPD + 0x0808). -/
def R.LPD_POOL_LP.addr : Nat := 0x80808
def R.LPD_POOL_LP.free : RegField := ⟨R.LPD_POOL_LP.addr, 26, 0⟩
/-- GLB_FLOW_CTL (GLB + 0x0100). -/
def R.GLB_FLOW_CTL.addr : Nat := 0x100
def R.GLB_FLOW_CTL.ds_class_en : RegField := ⟨R.GLB_FLOW_CTL.addr, 31, 31⟩
def R.GLB_FLOW_CTL.alt_tpid_en : RegField := ⟨R.GLB_FLOW_CTL.addr, 16, 16⟩
def R.GLB_FLOW_CTL.alt_tpid : RegField := ⟨R.GLB_FLOW_CTL.addr, 15, 0⟩
/-- GLB_FLOW_STATUS (GLB + 0x0104). -/
def R.GLB_FLOW_STATUS.addr : Nat := 0x104
def R.GLB_FLOW_STATUS.valid_flows : RegField := ⟨R.GLB_FLOW_STATUS.addr, 20, 0⟩
/-- GLB_FLOW_LAST_POISON (GLB + 0x0108). -/
def R.GLB_FLOW_LAST_POISON.addr : Nat := 0x108
def R.GLB_FLOW_LAST_POISON.seen : RegField := ⟨R.GLB_FLOW_LAST_POISON.addr, 31, 31⟩
def R.GLB_FLOW_LAST_POISON.cold : RegField := ⟨R.GLB_FLOW_LAST_POISON.addr, 30, 30⟩
def R.GLB_FLOW_LAST_POISON.flow_id : RegField := ⟨R.GLB_FLOW_LAST_POISON.addr, 19, 0⟩
/-- MEM_CTRL (MEM + 0x0000). -/
def R.MEM_CTRL.addr : Nat := 0x70000
def R.MEM_CTRL.trk_en : RegField := ⟨R.MEM_CTRL.addr, 31, 31⟩
def R.MEM_CTRL.scrub_share : RegField := ⟨R.MEM_CTRL.addr, 19, 16⟩
def R.MEM_CTRL.fill_share : RegField := ⟨R.MEM_CTRL.addr, 11, 8⟩
/-- MEM_TRK (MEM + 0x0004). -/
def R.MEM_TRK.addr : Nat := 0x70004
def R.MEM_TRK.trk_window : RegField := ⟨R.MEM_TRK.addr, 20, 16⟩
def R.MEM_TRK.trk_threshold : RegField := ⟨R.MEM_TRK.addr, 11, 8⟩
def R.MEM_TRK.watch : RegField := ⟨R.MEM_TRK.addr, 4, 0⟩
/-- MEM_WARN (MEM + 0x0010). -/
def R.MEM_WARN.addr : Nat := 0x70010
def R.MEM_WARN.cfg_err : RegField := ⟨R.MEM_WARN.addr, 31, 31⟩
def R.MEM_WARN.warn : RegField := ⟨R.MEM_WARN.addr, 10, 0⟩
/-- MEM_EVT (MEM + 0x0014). -/
def R.MEM_EVT.addr : Nat := 0x70014
def R.MEM_EVT.evt : RegField := ⟨R.MEM_EVT.addr, 5, 0⟩
/-- MEM_REMAP_FREE (MEM + 0x0020). -/
def R.MEM_REMAP_FREE.addr : Nat := 0x70020
def R.MEM_REMAP_FREE.full_banks : RegField := ⟨R.MEM_REMAP_FREE.addr, 27, 20⟩
def R.MEM_REMAP_FREE.free_words : RegField := ⟨R.MEM_REMAP_FREE.addr, 11, 0⟩
/-- MEM_BTN_STATUS (MEM + 0x0030). -/
def R.MEM_BTN_STATUS.addr : Nat := 0x70030
def R.MEM_BTN_STATUS.full : RegField := ⟨R.MEM_BTN_STATUS.addr, 31, 31⟩
def R.MEM_BTN_STATUS.records : RegField := ⟨R.MEM_BTN_STATUS.addr, 24, 16⟩
def R.MEM_BTN_STATUS.lost : RegField := ⟨R.MEM_BTN_STATUS.addr, 15, 0⟩
/-- MEM_SCRUB_STATUS (MEM + 0x0040). -/
def R.MEM_SCRUB_STATUS.addr : Nat := 0x70040
def R.MEM_SCRUB_STATUS.active : RegField := ⟨R.MEM_SCRUB_STATUS.addr, 3, 0⟩
/-- MEM_INJECT_0 (MEM + 0x0050). -/
def R.MEM_INJECT_0.addr : Nat := 0x70050
def R.MEM_INJECT_0.go : RegField := ⟨R.MEM_INJECT_0.addr, 31, 31⟩
def R.MEM_INJECT_0.kind : RegField := ⟨R.MEM_INJECT_0.addr, 27, 26⟩
def R.MEM_INJECT_0.space : RegField := ⟨R.MEM_INJECT_0.addr, 25, 24⟩
def R.MEM_INJECT_0.byte_ : RegField := ⟨R.MEM_INJECT_0.addr, 4, 0⟩
/-- MEM_INJECT_1 (MEM + 0x0054). -/
def R.MEM_INJECT_1.addr : Nat := 0x70054
def R.MEM_INJECT_1.address : RegField := ⟨R.MEM_INJECT_1.addr, 31, 0⟩
/-- LPD_CTRL (LPD + 0x0000). -/
def R.LPD_CTRL.addr : Nat := 0x80000
def R.LPD_CTRL.capture_size : RegField := ⟨R.LPD_CTRL.addr, 4, 0⟩
/-- LPD_STATUS (LPD + 0x0004). -/
def R.LPD_STATUS.addr : Nat := 0x80004
def R.LPD_STATUS.sump_used : RegField := ⟨R.LPD_STATUS.addr, 24, 16⟩
def R.LPD_STATUS.ch_up : RegField := ⟨R.LPD_STATUS.addr, 15, 0⟩
/-- LPD_TOUCH (LPD + 0x0008). -/
def R.LPD_TOUCH.addr : Nat := 0x80008
def R.LPD_TOUCH.touched : RegField := ⟨R.LPD_TOUCH.addr, 19, 0⟩
/-- HIF_RING_ADDR_LO (HIF + 0x0800). -/
def R.HIF_RING_ADDR_LO.addr : Nat := 0x90800
def R.HIF_RING_ADDR_LO.addr_lo : RegField := ⟨R.HIF_RING_ADDR_LO.addr, 31, 12⟩
/-- PRT_RING_ADDR_LO (PRT + 0x0800). -/
def R.PRT_RING_ADDR_LO.addr (n : Port) : Nat := portBlock n 0x0 + 0x800
def R.PRT_RING_ADDR_LO.addr_lo (n : Port) : RegField := ⟨R.PRT_RING_ADDR_LO.addr n, 31, 12⟩
/-- HIF_RING_ADDR_HI (HIF + 0x0804). -/
def R.HIF_RING_ADDR_HI.addr : Nat := 0x90804
def R.HIF_RING_ADDR_HI.addr_hi : RegField := ⟨R.HIF_RING_ADDR_HI.addr, 31, 0⟩
/-- PRT_RING_ADDR_HI (PRT + 0x0804). -/
def R.PRT_RING_ADDR_HI.addr (n : Port) : Nat := portBlock n 0x0 + 0x804
def R.PRT_RING_ADDR_HI.addr_hi (n : Port) : RegField := ⟨R.PRT_RING_ADDR_HI.addr n, 31, 0⟩
/-- HIF_RING_CFG (HIF + 0x0808). -/
def R.HIF_RING_CFG.addr : Nat := 0x90808
def R.HIF_RING_CFG.kind : RegField := ⟨R.HIF_RING_CFG.addr, 31, 31⟩
def R.HIF_RING_CFG.index : RegField := ⟨R.HIF_RING_CFG.addr, 29, 20⟩
def R.HIF_RING_CFG.size_code : RegField := ⟨R.HIF_RING_CFG.addr, 15, 11⟩
/-- PRT_RING_CFG (PRT + 0x0808). -/
def R.PRT_RING_CFG.addr (n : Port) : Nat := portBlock n 0x0 + 0x808
def R.PRT_RING_CFG.kind (n : Port) : RegField := ⟨R.PRT_RING_CFG.addr n, 31, 31⟩
def R.PRT_RING_CFG.index (n : Port) : RegField := ⟨R.PRT_RING_CFG.addr n, 29, 20⟩
def R.PRT_RING_CFG.size_code (n : Port) : RegField := ⟨R.PRT_RING_CFG.addr n, 15, 11⟩
/-- HIF_RING_PARAM (HIF + 0x080C). -/
def R.HIF_RING_PARAM.addr : Nat := 0x9080C
def R.HIF_RING_PARAM.notify_en : RegField := ⟨R.HIF_RING_PARAM.addr, 31, 31⟩
def R.HIF_RING_PARAM.cq : RegField := ⟨R.HIF_RING_PARAM.addr, 25, 16⟩
def R.HIF_RING_PARAM.weight : RegField := ⟨R.HIF_RING_PARAM.addr, 7, 0⟩
/-- PRT_RING_PARAM (PRT + 0x080C). -/
def R.PRT_RING_PARAM.addr (n : Port) : Nat := portBlock n 0x0 + 0x80C
def R.PRT_RING_PARAM.notify_en (n : Port) : RegField := ⟨R.PRT_RING_PARAM.addr n, 31, 31⟩
def R.PRT_RING_PARAM.cq (n : Port) : RegField := ⟨R.PRT_RING_PARAM.addr n, 25, 16⟩
def R.PRT_RING_PARAM.weight (n : Port) : RegField := ⟨R.PRT_RING_PARAM.addr n, 7, 0⟩
/-- HIF_RING_BUF (HIF + 0x0810). -/
def R.HIF_RING_BUF.addr : Nat := 0x90810
def R.HIF_RING_BUF.buf_size : RegField := ⟨R.HIF_RING_BUF.addr, 15, 0⟩
/-- PRT_RING_BUF (PRT + 0x0810). -/
def R.PRT_RING_BUF.addr (n : Port) : Nat := portBlock n 0x0 + 0x810
def R.PRT_RING_BUF.buf_size (n : Port) : RegField := ⟨R.PRT_RING_BUF.addr n, 15, 0⟩
/-- HIF_RING_OP (HIF + 0x0814). -/
def R.HIF_RING_OP.addr : Nat := 0x90814
def R.HIF_RING_OP.go : RegField := ⟨R.HIF_RING_OP.addr, 31, 31⟩
def R.HIF_RING_OP.op : RegField := ⟨R.HIF_RING_OP.addr, 30, 29⟩
/-- PRT_RING_OP (PRT + 0x0814). -/
def R.PRT_RING_OP.addr (n : Port) : Nat := portBlock n 0x0 + 0x814
def R.PRT_RING_OP.go (n : Port) : RegField := ⟨R.PRT_RING_OP.addr n, 31, 31⟩
def R.PRT_RING_OP.op (n : Port) : RegField := ⟨R.PRT_RING_OP.addr n, 30, 29⟩
/-- HIF_RING_STATUS (HIF + 0x0818). -/
def R.HIF_RING_STATUS.addr : Nat := 0x90818
def R.HIF_RING_STATUS.busy : RegField := ⟨R.HIF_RING_STATUS.addr, 31, 31⟩
def R.HIF_RING_STATUS.result : RegField := ⟨R.HIF_RING_STATUS.addr, 7, 0⟩
/-- PRT_RING_STATUS (PRT + 0x0818). -/
def R.PRT_RING_STATUS.addr (n : Port) : Nat := portBlock n 0x0 + 0x818
def R.PRT_RING_STATUS.busy (n : Port) : RegField := ⟨R.PRT_RING_STATUS.addr n, 31, 31⟩
def R.PRT_RING_STATUS.result (n : Port) : RegField := ⟨R.PRT_RING_STATUS.addr n, 7, 0⟩
/-- HIF_QUOTA (HIF + 0x0000). -/
def R.HIF_QUOTA.addr (i : Nat) : Nat := 0x90000 + 0x4 * i
def R.HIF_QUOTA.cq_quota (i : Nat) : RegField := ⟨R.HIF_QUOTA.addr i, 26, 16⟩
def R.HIF_QUOTA.sq_quota (i : Nat) : RegField := ⟨R.HIF_QUOTA.addr i, 10, 0⟩
/-- HIF_CQ_BASE (HIF + 0x0040). -/
def R.HIF_CQ_BASE.addr (i : Nat) : Nat := 0x90040 + 0x4 * i
def R.HIF_CQ_BASE.cq_base (i : Nat) : RegField := ⟨R.HIF_CQ_BASE.addr i, 9, 0⟩
/-- HIF_FLR_CTL (HIF + 0x0080). -/
def R.HIF_FLR_CTL.addr : Nat := 0x90080
def R.HIF_FLR_CTL.cold_on_flr : RegField := ⟨R.HIF_FLR_CTL.addr, 7, 0⟩
/-- HIF_SOFT_RESET (HIF + 0x0084). -/
def R.HIF_SOFT_RESET.addr : Nat := 0x90084
def R.HIF_SOFT_RESET.go : RegField := ⟨R.HIF_SOFT_RESET.addr, 31, 31⟩
def R.HIF_SOFT_RESET.key : RegField := ⟨R.HIF_SOFT_RESET.addr, 7, 0⟩
/-- HIF_STATUS (HIF + 0x0090). -/
def R.HIF_STATUS.addr : Nat := 0x90090
def R.HIF_STATUS.cfg_err : RegField := ⟨R.HIF_STATUS.addr, 31, 31⟩
def R.HIF_STATUS.flr_active : RegField := ⟨R.HIF_STATUS.addr, 8, 0⟩
/-- HIF_RING_ERR (HIF + 0x0100). -/
def R.HIF_RING_ERR.addr (i : Nat) : Nat := 0x90100 + 0x4 * i
def R.HIF_RING_ERR.err (i : Nat) : RegField := ⟨R.HIF_RING_ERR.addr i, 31, 31⟩
def R.HIF_RING_ERR.bad_db (i : Nat) : RegField := ⟨R.HIF_RING_ERR.addr i, 30, 30⟩
def R.HIF_RING_ERR.sq (i : Nat) : RegField := ⟨R.HIF_RING_ERR.addr i, 9, 0⟩
/-- HIF_LEDGER_0 (HIF + 0x0400). -/
def R.HIF_LEDGER_0.addr (i : Nat) : Nat := 0x90400 + 0x10 * i
def R.HIF_LEDGER_0.kind (i : Nat) : RegField := ⟨R.HIF_LEDGER_0.addr i, 31, 31⟩
def R.HIF_LEDGER_0.ring (i : Nat) : RegField := ⟨R.HIF_LEDGER_0.addr i, 9, 0⟩
/-- HIF_LEDGER_1 (HIF + 0x0404). -/
def R.HIF_LEDGER_1.addr (i : Nat) : Nat := 0x90404 + 0x10 * i
def R.HIF_LEDGER_1.posted (i : Nat) : RegField := ⟨R.HIF_LEDGER_1.addr i, 31, 0⟩
/-- HIF_LEDGER_2 (HIF + 0x0408). -/
def R.HIF_LEDGER_2.addr (i : Nat) : Nat := 0x90408 + 0x10 * i
def R.HIF_LEDGER_2.fetched (i : Nat) : RegField := ⟨R.HIF_LEDGER_2.addr i, 31, 0⟩
/-- HIF_LEDGER_3 (HIF + 0x040C). -/
def R.HIF_LEDGER_3.addr (i : Nat) : Nat := 0x9040C + 0x10 * i
def R.HIF_LEDGER_3.completed (i : Nat) : RegField := ⟨R.HIF_LEDGER_3.addr i, 31, 0⟩
/-- EVC_VIEW_STATUS (EVC + 0x9804). -/
def R.EVC_VIEW_STATUS.addr : Nat := 0x59804
def R.EVC_VIEW_STATUS.cfg_err : RegField := ⟨R.EVC_VIEW_STATUS.addr, 31, 31⟩
/-- PRT_VIEW_STATUS (PRT + 0xA604). -/
def R.PRT_VIEW_STATUS.addr (n : Port) : Nat := portBlock n 0x0 + 0xA604
def R.PRT_VIEW_STATUS.cfg_err (n : Port) : RegField := ⟨R.PRT_VIEW_STATUS.addr n, 31, 31⟩
/-- EVC_EQ_OWNER (EVC + 0xB000). -/
def R.EVC_EQ_OWNER.addr (i : Nat) : Nat := 0x5B000 + 0x4 * i
def R.EVC_EQ_OWNER.owner (i : Nat) : RegField := ⟨R.EVC_EQ_OWNER.addr i, 31, 0⟩
/-- EVC_STATUS (EVC + 0xB040). -/
def R.EVC_STATUS.addr : Nat := 0x5B040
def R.EVC_STATUS.full_queues : RegField := ⟨R.EVC_STATUS.addr, 6, 0⟩
/-- ULK_PORT (ULK + 0x0000). -/
def R.ULK_PORT.addr (i : Nat) : Nat := 0xA0000 + 0x4 * i
def R.ULK_PORT.en (i : Nat) : RegField := ⟨R.ULK_PORT.addr i, 31, 31⟩
def R.ULK_PORT.width (i : Nat) : RegField := ⟨R.ULK_PORT.addr i, 30, 29⟩
def R.ULK_PORT.max_frame (i : Nat) : RegField := ⟨R.ULK_PORT.addr i, 13, 0⟩
/-- ULK_PORT_STATUS (ULK + 0x0040). -/
def R.ULK_PORT_STATUS.addr (i : Nat) : Nat := 0xA0040 + 0x4 * i
def R.ULK_PORT_STATUS.state (i : Nat) : RegField := ⟨R.ULK_PORT_STATUS.addr i, 31, 29⟩
def R.ULK_PORT_STATUS.locked (i : Nat) : RegField := ⟨R.ULK_PORT_STATUS.addr i, 15, 8⟩
def R.ULK_PORT_STATUS.retries (i : Nat) : RegField := ⟨R.ULK_PORT_STATUS.addr i, 7, 0⟩
/-- ULK_STATUS (ULK + 0x0080). -/
def R.ULK_STATUS.addr : Nat := 0xA0080
def R.ULK_STATUS.cfg_err : RegField := ⟨R.ULK_STATUS.addr, 31, 31⟩
/-- AQL_STATUS (AQL + 0x0020). -/
def R.AQL_STATUS.addr : Nat := 0xB0020
def R.AQL_STATUS.cfg_err : RegField := ⟨R.AQL_STATUS.addr, 31, 31⟩
/-- AQL_PORT (AQL + 0x0000). -/
def R.AQL_PORT.addr (i : Nat) : Nat := 0xB0000 + 0x4 * i
def R.AQL_PORT.en (i : Nat) : RegField := ⟨R.AQL_PORT.addr i, 31, 31⟩
/-- AQL_PORT_STATUS (AQL + 0x0010). -/
def R.AQL_PORT_STATUS.addr (i : Nat) : Nat := 0xB0010 + 0x4 * i
def R.AQL_PORT_STATUS.state (i : Nat) : RegField := ⟨R.AQL_PORT_STATUS.addr i, 31, 29⟩
def R.AQL_PORT_STATUS.partner_ready (i : Nat) : RegField := ⟨R.AQL_PORT_STATUS.addr i, 28, 28⟩
def R.AQL_PORT_STATUS.partner_quiet (i : Nat) : RegField := ⟨R.AQL_PORT_STATUS.addr i, 27, 27⟩
def R.AQL_PORT_STATUS.locked (i : Nat) : RegField := ⟨R.AQL_PORT_STATUS.addr i, 11, 8⟩
def R.AQL_PORT_STATUS.retries (i : Nat) : RegField := ⟨R.AQL_PORT_STATUS.addr i, 7, 0⟩
/-- ULK_LANE_CTL (ULK + 0x1000). -/
def R.ULK_LANE_CTL.addr (i : Nat) : Nat := 0xA1000 + 0x40 * i
def R.ULK_LANE_CTL.tx_quiet_req (i : Nat) : RegField := ⟨R.ULK_LANE_CTL.addr i, 31, 31⟩
def R.ULK_LANE_CTL.rx_quiet_req (i : Nat) : RegField := ⟨R.ULK_LANE_CTL.addr i, 30, 30⟩
def R.ULK_LANE_CTL.loopback (i : Nat) : RegField := ⟨R.ULK_LANE_CTL.addr i, 29, 28⟩
def R.ULK_LANE_CTL.rx_invert (i : Nat) : RegField := ⟨R.ULK_LANE_CTL.addr i, 1, 1⟩
def R.ULK_LANE_CTL.tx_invert (i : Nat) : RegField := ⟨R.ULK_LANE_CTL.addr i, 0, 0⟩
/-- AQL_LANE_CTL (AQL + 0x1000). -/
def R.AQL_LANE_CTL.addr (i : Nat) : Nat := 0xB1000 + 0x40 * i
def R.AQL_LANE_CTL.tx_quiet_req (i : Nat) : RegField := ⟨R.AQL_LANE_CTL.addr i, 31, 31⟩
def R.AQL_LANE_CTL.rx_quiet_req (i : Nat) : RegField := ⟨R.AQL_LANE_CTL.addr i, 30, 30⟩
def R.AQL_LANE_CTL.loopback (i : Nat) : RegField := ⟨R.AQL_LANE_CTL.addr i, 29, 28⟩
def R.AQL_LANE_CTL.rx_invert (i : Nat) : RegField := ⟨R.AQL_LANE_CTL.addr i, 1, 1⟩
def R.AQL_LANE_CTL.tx_invert (i : Nat) : RegField := ⟨R.AQL_LANE_CTL.addr i, 0, 0⟩
/-- ULK_LANE_TXEQ (ULK + 0x1004). -/
def R.ULK_LANE_TXEQ.addr (i : Nat) : Nat := 0xA1004 + 0x40 * i
def R.ULK_LANE_TXEQ.c_m2 (i : Nat) : RegField := ⟨R.ULK_LANE_TXEQ.addr i, 27, 21⟩
def R.ULK_LANE_TXEQ.c_m1 (i : Nat) : RegField := ⟨R.ULK_LANE_TXEQ.addr i, 20, 14⟩
def R.ULK_LANE_TXEQ.c0 (i : Nat) : RegField := ⟨R.ULK_LANE_TXEQ.addr i, 13, 7⟩
def R.ULK_LANE_TXEQ.c_p1 (i : Nat) : RegField := ⟨R.ULK_LANE_TXEQ.addr i, 6, 0⟩
/-- AQL_LANE_TXEQ (AQL + 0x1004). -/
def R.AQL_LANE_TXEQ.addr (i : Nat) : Nat := 0xB1004 + 0x40 * i
def R.AQL_LANE_TXEQ.c_m2 (i : Nat) : RegField := ⟨R.AQL_LANE_TXEQ.addr i, 27, 21⟩
def R.AQL_LANE_TXEQ.c_m1 (i : Nat) : RegField := ⟨R.AQL_LANE_TXEQ.addr i, 20, 14⟩
def R.AQL_LANE_TXEQ.c0 (i : Nat) : RegField := ⟨R.AQL_LANE_TXEQ.addr i, 13, 7⟩
def R.AQL_LANE_TXEQ.c_p1 (i : Nat) : RegField := ⟨R.AQL_LANE_TXEQ.addr i, 6, 0⟩
/-- ULK_LANE_PRBS (ULK + 0x1008). -/
def R.ULK_LANE_PRBS.addr (i : Nat) : Nat := 0xA1008 + 0x40 * i
def R.ULK_LANE_PRBS.gen_en (i : Nat) : RegField := ⟨R.ULK_LANE_PRBS.addr i, 31, 31⟩
def R.ULK_LANE_PRBS.gen_poly (i : Nat) : RegField := ⟨R.ULK_LANE_PRBS.addr i, 30, 28⟩
def R.ULK_LANE_PRBS.chk_en (i : Nat) : RegField := ⟨R.ULK_LANE_PRBS.addr i, 15, 15⟩
def R.ULK_LANE_PRBS.chk_poly (i : Nat) : RegField := ⟨R.ULK_LANE_PRBS.addr i, 14, 12⟩
/-- AQL_LANE_PRBS (AQL + 0x1008). -/
def R.AQL_LANE_PRBS.addr (i : Nat) : Nat := 0xB1008 + 0x40 * i
def R.AQL_LANE_PRBS.gen_en (i : Nat) : RegField := ⟨R.AQL_LANE_PRBS.addr i, 31, 31⟩
def R.AQL_LANE_PRBS.gen_poly (i : Nat) : RegField := ⟨R.AQL_LANE_PRBS.addr i, 30, 28⟩
def R.AQL_LANE_PRBS.chk_en (i : Nat) : RegField := ⟨R.AQL_LANE_PRBS.addr i, 15, 15⟩
def R.AQL_LANE_PRBS.chk_poly (i : Nat) : RegField := ⟨R.AQL_LANE_PRBS.addr i, 14, 12⟩
/-- ULK_LANE_INJ (ULK + 0x100C). -/
def R.ULK_LANE_INJ.addr (i : Nat) : Nat := 0xA100C + 0x40 * i
def R.ULK_LANE_INJ.single (i : Nat) : RegField := ⟨R.ULK_LANE_INJ.addr i, 31, 31⟩
def R.ULK_LANE_INJ.burst (i : Nat) : RegField := ⟨R.ULK_LANE_INJ.addr i, 30, 30⟩
def R.ULK_LANE_INJ.burst_len (i : Nat) : RegField := ⟨R.ULK_LANE_INJ.addr i, 7, 0⟩
/-- AQL_LANE_INJ (AQL + 0x100C). -/
def R.AQL_LANE_INJ.addr (i : Nat) : Nat := 0xB100C + 0x40 * i
def R.AQL_LANE_INJ.single (i : Nat) : RegField := ⟨R.AQL_LANE_INJ.addr i, 31, 31⟩
def R.AQL_LANE_INJ.burst (i : Nat) : RegField := ⟨R.AQL_LANE_INJ.addr i, 30, 30⟩
def R.AQL_LANE_INJ.burst_len (i : Nat) : RegField := ⟨R.AQL_LANE_INJ.addr i, 7, 0⟩
/-- ULK_LANE_STATUS (ULK + 0x1010). -/
def R.ULK_LANE_STATUS.addr (i : Nat) : Nat := 0xA1010 + 0x40 * i
def R.ULK_LANE_STATUS.cdr_lock (i : Nat) : RegField := ⟨R.ULK_LANE_STATUS.addr i, 31, 31⟩
def R.ULK_LANE_STATUS.block_lock (i : Nat) : RegField := ⟨R.ULK_LANE_STATUS.addr i, 30, 30⟩
def R.ULK_LANE_STATUS.adapt_frozen (i : Nat) : RegField := ⟨R.ULK_LANE_STATUS.addr i, 29, 29⟩
def R.ULK_LANE_STATUS.tx_quiet (i : Nat) : RegField := ⟨R.ULK_LANE_STATUS.addr i, 28, 28⟩
def R.ULK_LANE_STATUS.rx_quiet (i : Nat) : RegField := ⟨R.ULK_LANE_STATUS.addr i, 27, 27⟩
def R.ULK_LANE_STATUS.prbs_lock (i : Nat) : RegField := ⟨R.ULK_LANE_STATUS.addr i, 26, 26⟩
def R.ULK_LANE_STATUS.powered (i : Nat) : RegField := ⟨R.ULK_LANE_STATUS.addr i, 25, 25⟩
def R.ULK_LANE_STATUS.logical (i : Nat) : RegField := ⟨R.ULK_LANE_STATUS.addr i, 17, 16⟩
/-- AQL_LANE_STATUS (AQL + 0x1010). -/
def R.AQL_LANE_STATUS.addr (i : Nat) : Nat := 0xB1010 + 0x40 * i
def R.AQL_LANE_STATUS.cdr_lock (i : Nat) : RegField := ⟨R.AQL_LANE_STATUS.addr i, 31, 31⟩
def R.AQL_LANE_STATUS.block_lock (i : Nat) : RegField := ⟨R.AQL_LANE_STATUS.addr i, 30, 30⟩
def R.AQL_LANE_STATUS.adapt_frozen (i : Nat) : RegField := ⟨R.AQL_LANE_STATUS.addr i, 29, 29⟩
def R.AQL_LANE_STATUS.tx_quiet (i : Nat) : RegField := ⟨R.AQL_LANE_STATUS.addr i, 28, 28⟩
def R.AQL_LANE_STATUS.rx_quiet (i : Nat) : RegField := ⟨R.AQL_LANE_STATUS.addr i, 27, 27⟩
def R.AQL_LANE_STATUS.prbs_lock (i : Nat) : RegField := ⟨R.AQL_LANE_STATUS.addr i, 26, 26⟩
def R.AQL_LANE_STATUS.powered (i : Nat) : RegField := ⟨R.AQL_LANE_STATUS.addr i, 25, 25⟩
def R.AQL_LANE_STATUS.logical (i : Nat) : RegField := ⟨R.AQL_LANE_STATUS.addr i, 17, 16⟩
/-- ULK_LANE_PRBS_ERR (ULK + 0x1014). -/
def R.ULK_LANE_PRBS_ERR.addr (i : Nat) : Nat := 0xA1014 + 0x40 * i
def R.ULK_LANE_PRBS_ERR.errors (i : Nat) : RegField := ⟨R.ULK_LANE_PRBS_ERR.addr i, 31, 0⟩
/-- AQL_LANE_PRBS_ERR (AQL + 0x1014). -/
def R.AQL_LANE_PRBS_ERR.addr (i : Nat) : Nat := 0xB1014 + 0x40 * i
def R.AQL_LANE_PRBS_ERR.errors (i : Nat) : RegField := ⟨R.AQL_LANE_PRBS_ERR.addr i, 31, 0⟩
/-- AQL_PAIR_CTL (AQL + 0x2000). -/
def R.AQL_PAIR_CTL.addr : Nat := 0xB2000
def R.AQL_PAIR_CTL.tod_src : RegField := ⟨R.AQL_PAIR_CTL.addr, 31, 31⟩
def R.AQL_PAIR_CTL.auto_resync : RegField := ⟨R.AQL_PAIR_CTL.addr, 30, 30⟩
def R.AQL_PAIR_CTL.pair_rank : RegField := ⟨R.AQL_PAIR_CTL.addr, 7, 0⟩
/-- AQL_PAIR_STATUS (AQL + 0x2004). -/
def R.AQL_PAIR_STATUS.addr : Nat := 0xB2004
def R.AQL_PAIR_STATUS.cfg_err : RegField := ⟨R.AQL_PAIR_STATUS.addr, 31, 31⟩
def R.AQL_PAIR_STATUS.paired : RegField := ⟨R.AQL_PAIR_STATUS.addr, 30, 30⟩
def R.AQL_PAIR_STATUS.rank_clash : RegField := ⟨R.AQL_PAIR_STATUS.addr, 29, 29⟩
def R.AQL_PAIR_STATUS.key_match : RegField := ⟨R.AQL_PAIR_STATUS.addr, 28, 28⟩
def R.AQL_PAIR_STATUS.holdover : RegField := ⟨R.AQL_PAIR_STATUS.addr, 27, 27⟩
def R.AQL_PAIR_STATUS.tod_hops : RegField := ⟨R.AQL_PAIR_STATUS.addr, 19, 16⟩
def R.AQL_PAIR_STATUS.hb_missed : RegField := ⟨R.AQL_PAIR_STATUS.addr, 1, 0⟩
/-- PRT_PROT_CTL (PRT + 0x0100). -/
def R.PRT_PROT_CTL.addr (n : Port) : Nat := portBlock n 0x0 + 0x100
def R.PRT_PROT_CTL.prot_en (n : Port) : RegField := ⟨R.PRT_PROT_CTL.addr n, 31, 31⟩
def R.PRT_PROT_CTL.pref (n : Port) : RegField := ⟨R.PRT_PROT_CTL.addr n, 30, 30⟩
def R.PRT_PROT_CTL.dn_sym (n : Port) : RegField := ⟨R.PRT_PROT_CTL.addr n, 29, 29⟩
def R.PRT_PROT_CTL.dark_frames (n : Port) : RegField := ⟨R.PRT_PROT_CTL.addr n, 25, 24⟩
def R.PRT_PROT_CTL.light_thresh (n : Port) : RegField := ⟨R.PRT_PROT_CTL.addr n, 6, 0⟩
/-- PRT_PROT_UP (PRT + 0x0104). -/
def R.PRT_PROT_UP.addr (n : Port) : Nat := portBlock n 0x0 + 0x104
def R.PRT_PROT_UP.up_delta (n : Port) : RegField := ⟨R.PRT_PROT_UP.addr n, 23, 0⟩
/-- PRT_PROT_DN (PRT + 0x0108). -/
def R.PRT_PROT_DN.addr (n : Port) : Nat := portBlock n 0x0 + 0x108
def R.PRT_PROT_DN.dn_delta (n : Port) : RegField := ⟨R.PRT_PROT_DN.addr n, 23, 0⟩
/-- PRT_PROT_STATUS (PRT + 0x0110). -/
def R.PRT_PROT_STATUS.addr (n : Port) : Nat := portBlock n 0x0 + 0x110
def R.PRT_PROT_STATUS.role (n : Port) : RegField := ⟨R.PRT_PROT_STATUS.addr n, 31, 29⟩
def R.PRT_PROT_STATUS.eligible (n : Port) : RegField := ⟨R.PRT_PROT_STATUS.addr n, 28, 28⟩
def R.PRT_PROT_STATUS.pending (n : Port) : RegField := ⟨R.PRT_PROT_STATUS.addr n, 27, 27⟩
def R.PRT_PROT_STATUS.realigning (n : Port) : RegField := ⟨R.PRT_PROT_STATUS.addr n, 26, 26⟩
def R.PRT_PROT_STATUS.dark_run (n : Port) : RegField := ⟨R.PRT_PROT_STATUS.addr n, 25, 24⟩
/-- PRT_PROT_SEQ (PRT + 0x0114). -/
def R.PRT_PROT_SEQ.addr (n : Port) : Nat := portBlock n 0x0 + 0x114
def R.PRT_PROT_SEQ.seq (n : Port) : RegField := ⟨R.PRT_PROT_SEQ.addr n, 31, 0⟩
/-- PRT_PROT_OFF (PRT + 0x1000). -/
def R.PRT_PROT_OFF.addr (n : Port) (i : Nat) : Nat := portBlock n 0x0 + 0x1000 + 0x4 * i
def R.PRT_PROT_OFF.valid (n : Port) (i : Nat) : RegField := ⟨R.PRT_PROT_OFF.addr n i, 31, 31⟩
def R.PRT_PROT_OFF.offset (n : Port) (i : Nat) : RegField := ⟨R.PRT_PROT_OFF.addr n i, 23, 0⟩
/-- CTR_CTRL (CTR + 0x0000). -/
def R.CTR_CTRL.addr : Nat := 0x60000
def R.CTR_CTRL.ext_en : RegField := ⟨R.CTR_CTRL.addr, 31, 31⟩
/-- CTR_STATUS (CTR + 0x0004). -/
def R.CTR_STATUS.addr : Nat := 0x60004
def R.CTR_STATUS.cfg_err : RegField := ⟨R.CTR_STATUS.addr, 31, 31⟩
def R.CTR_STATUS.ext_ready : RegField := ⟨R.CTR_STATUS.addr, 30, 30⟩
def R.CTR_STATUS.busy_sets : RegField := ⟨R.CTR_STATUS.addr, 5, 0⟩
/-- CTR_HV_ADDR_LO (CTR + 0x1000). -/
def R.CTR_HV_ADDR_LO.addr (i : Nat) : Nat := 0x61000 + 0x20 * i
def R.CTR_HV_ADDR_LO.addr_lo (i : Nat) : RegField := ⟨R.CTR_HV_ADDR_LO.addr i, 31, 12⟩
/-- CTR_HV_ADDR_HI (CTR + 0x1004). -/
def R.CTR_HV_ADDR_HI.addr (i : Nat) : Nat := 0x61004 + 0x20 * i
def R.CTR_HV_ADDR_HI.addr_hi (i : Nat) : RegField := ⟨R.CTR_HV_ADDR_HI.addr i, 31, 0⟩
/-- CTR_HV_CFG (CTR + 0x1008). -/
def R.CTR_HV_CFG.addr (i : Nat) : Nat := 0x61008 + 0x20 * i
def R.CTR_HV_CFG.en (i : Nat) : RegField := ⟨R.CTR_HV_CFG.addr i, 31, 31⟩
def R.CTR_HV_CFG.space (i : Nat) : RegField := ⟨R.CTR_HV_CFG.addr i, 30, 30⟩
def R.CTR_HV_CFG.slots_code (i : Nat) : RegField := ⟨R.CTR_HV_CFG.addr i, 23, 20⟩
def R.CTR_HV_CFG.period (i : Nat) : RegField := ⟨R.CTR_HV_CFG.addr i, 15, 0⟩
/-- CTR_HV_SRC (CTR + 0x100C). -/
def R.CTR_HV_SRC.addr (i : Nat) : Nat := 0x6100C + 0x20 * i
def R.CTR_HV_SRC.first (i : Nat) : RegField := ⟨R.CTR_HV_SRC.addr i, 29, 16⟩
def R.CTR_HV_SRC.count (i : Nat) : RegField := ⟨R.CTR_HV_SRC.addr i, 14, 0⟩
/-- CTR_HV_STATUS (CTR + 0x1010). -/
def R.CTR_HV_STATUS.addr (i : Nat) : Nat := 0x61010 + 0x20 * i
def R.CTR_HV_STATUS.busy (i : Nat) : RegField := ⟨R.CTR_HV_STATUS.addr i, 31, 31⟩
def R.CTR_HV_STATUS.active (i : Nat) : RegField := ⟨R.CTR_HV_STATUS.addr i, 30, 30⟩
def R.CTR_HV_STATUS.skips (i : Nat) : RegField := ⟨R.CTR_HV_STATUS.addr i, 15, 0⟩
/-- CTR_HV_SEQ (CTR + 0x1014). -/
def R.CTR_HV_SEQ.addr (i : Nat) : Nat := 0x61014 + 0x20 * i
def R.CTR_HV_SEQ.seq (i : Nat) : RegField := ⟨R.CTR_HV_SEQ.addr i, 31, 0⟩
/-- HKA_CTL (HKA + 0x0000). -/
def R.HKA_CTL.addr (i : Nat) : Nat := 0x30000 + 0x1000 * i
def R.HKA_CTL.en (i : Nat) : RegField := ⟨R.HKA_CTL.addr i, 31, 31⟩
def R.HKA_CTL.sw_trig (i : Nat) : RegField := ⟨R.HKA_CTL.addr i, 30, 30⟩
def R.HKA_CTL.align (i : Nat) : RegField := ⟨R.HKA_CTL.addr i, 0, 0⟩
/-- HKA_STATUS (HKA + 0x0004). -/
def R.HKA_STATUS.addr (i : Nat) : Nat := 0x30004 + 0x1000 * i
def R.HKA_STATUS.cfg_err (i : Nat) : RegField := ⟨R.HKA_STATUS.addr i, 31, 31⟩
def R.HKA_STATUS.overrun_seen (i : Nat) : RegField := ⟨R.HKA_STATUS.addr i, 30, 30⟩
def R.HKA_STATUS.tick_skipped (i : Nat) : RegField := ⟨R.HKA_STATUS.addr i, 29, 29⟩
def R.HKA_STATUS.busy (i : Nat) : RegField := ⟨R.HKA_STATUS.addr i, 28, 28⟩
def R.HKA_STATUS.die_lost (i : Nat) : RegField := ⟨R.HKA_STATUS.addr i, 27, 27⟩
def R.HKA_STATUS.mq (i : Nat) : RegField := ⟨R.HKA_STATUS.addr i, 26, 24⟩
/-- HKA_DATA (HKA + 0x0008). -/
def R.HKA_DATA.addr (i : Nat) : Nat := 0x30008 + 0x1000 * i
def R.HKA_DATA.new (i : Nat) : RegField := ⟨R.HKA_DATA.addr i, 31, 31⟩
def R.HKA_DATA.overrun (i : Nat) : RegField := ⟨R.HKA_DATA.addr i, 30, 30⟩
def R.HKA_DATA.entry (i : Nat) : RegField := ⟨R.HKA_DATA.addr i, 29, 25⟩
def R.HKA_DATA.input (i : Nat) : RegField := ⟨R.HKA_DATA.addr i, 24, 19⟩
def R.HKA_DATA.trig (i : Nat) : RegField := ⟨R.HKA_DATA.addr i, 18, 17⟩
def R.HKA_DATA.signed (i : Nat) : RegField := ⟨R.HKA_DATA.addr i, 16, 16⟩
def R.HKA_DATA.result (i : Nat) : RegField := ⟨R.HKA_DATA.addr i, 15, 0⟩
/-- HKA_EVT (HKA + 0x0F00). -/
def R.HKA_EVT.addr : Nat := 0x30F00
def R.HKA_EVT.evt : RegField := ⟨R.HKA_EVT.addr, 5, 0⟩
/-- HKA_ENTRY (HKA + 0x0100). -/
def R.HKA_ENTRY.addr (i : Nat) (j : Nat) : Nat := 0x30100 + 0x1000 * i + 0x4 * j
def R.HKA_ENTRY.trigger (i : Nat) (j : Nat) : RegField := ⟨R.HKA_ENTRY.addr i j, 31, 30⟩
def R.HKA_ENTRY.div (i : Nat) (j : Nat) : RegField := ⟨R.HKA_ENTRY.addr i j, 29, 27⟩
def R.HKA_ENTRY.acq (i : Nat) (j : Nat) : RegField := ⟨R.HKA_ENTRY.addr i j, 26, 25⟩
def R.HKA_ENTRY.to_data (i : Nat) (j : Nat) : RegField := ⟨R.HKA_ENTRY.addr i j, 24, 24⟩
def R.HKA_ENTRY.mport (i : Nat) (j : Nat) : RegField := ⟨R.HKA_ENTRY.addr i j, 23, 22⟩
def R.HKA_ENTRY.input (i : Nat) (j : Nat) : RegField := ⟨R.HKA_ENTRY.addr i j, 5, 0⟩
/-- HKA_VAL (HKA + 0x0200). -/
def R.HKA_VAL.addr (i : Nat) (j : Nat) : Nat := 0x30200 + 0x1000 * i + 0x4 * j
def R.HKA_VAL.frame_lo (i : Nat) (j : Nat) : RegField := ⟨R.HKA_VAL.addr i j, 31, 16⟩
def R.HKA_VAL.result (i : Nat) (j : Nat) : RegField := ⟨R.HKA_VAL.addr i j, 15, 0⟩
/-- HKA_RSSI (HKA + 0x4000). -/
def R.HKA_RSSI.addr (i : Nat) (j : Nat) : Nat := 0x34000 + 0x400 * i + 0x4 * j
def R.HKA_RSSI.frame_lo (i : Nat) (j : Nat) : RegField := ⟨R.HKA_RSSI.addr i j, 31, 16⟩
def R.HKA_RSSI.result (i : Nat) (j : Nat) : RegField := ⟨R.HKA_RSSI.addr i j, 15, 0⟩
/-- BDA_STATUS (BDA + 0x0000). -/
def R.BDA_STATUS.addr : Nat := 0x40000
def R.BDA_STATUS.cfg_err : RegField := ⟨R.BDA_STATUS.addr, 31, 31⟩
/-- BDA_EVT (BDA + 0x0004). -/
def R.BDA_EVT.addr : Nat := 0x40004
def R.BDA_EVT.evt : RegField := ⟨R.BDA_EVT.addr, 7, 0⟩
/-- BDA_CODE (BDA + 0x0100). -/
def R.BDA_CODE.addr (i : Nat) : Nat := 0x40100 + 0x10 * i
def R.BDA_CODE.en (i : Nat) : RegField := ⟨R.BDA_CODE.addr i, 31, 31⟩
def R.BDA_CODE.code (i : Nat) : RegField := ⟨R.BDA_CODE.addr i, 15, 0⟩
/-- BDA_CFG (BDA + 0x0104). -/
def R.BDA_CFG.addr (i : Nat) : Nat := 0x40104 + 0x10 * i
def R.BDA_CFG.hold (i : Nat) : RegField := ⟨R.BDA_CFG.addr i, 31, 24⟩
def R.BDA_CFG.slew (i : Nat) : RegField := ⟨R.BDA_CFG.addr i, 23, 16⟩
def R.BDA_CFG.step_thresh (i : Nat) : RegField := ⟨R.BDA_CFG.addr i, 15, 0⟩
/-- BDA_SAFE (BDA + 0x0108). -/
def R.BDA_SAFE.addr (i : Nat) : Nat := 0x40108 + 0x10 * i
def R.BDA_SAFE.ot_hold (i : Nat) : RegField := ⟨R.BDA_SAFE.addr i, 17, 17⟩
def R.BDA_SAFE.ot_action (i : Nat) : RegField := ⟨R.BDA_SAFE.addr i, 16, 16⟩
def R.BDA_SAFE.safe_code (i : Nat) : RegField := ⟨R.BDA_SAFE.addr i, 15, 0⟩
/-- BDA_STAT (BDA + 0x010C). -/
def R.BDA_STAT.addr (i : Nat) : Nat := 0x4010C + 0x10 * i
def R.BDA_STAT.ot (i : Nat) : RegField := ⟨R.BDA_STAT.addr i, 31, 31⟩
def R.BDA_STAT.phase (i : Nat) : RegField := ⟨R.BDA_STAT.addr i, 29, 28⟩
def R.BDA_STAT.out_code (i : Nat) : RegField := ⟨R.BDA_STAT.addr i, 15, 0⟩
/-- THM_CTRL (THM + 0x0000). -/
def R.THM_CTRL.addr : Nat := 0x20000
def R.THM_CTRL.compat_en : RegField := ⟨R.THM_CTRL.addr, 31, 31⟩
def R.THM_CTRL.blind_action : RegField := ⟨R.THM_CTRL.addr, 30, 30⟩
def R.THM_CTRL.avs_en : RegField := ⟨R.THM_CTRL.addr, 29, 29⟩
def R.THM_CTRL.enf_step : RegField := ⟨R.THM_CTRL.addr, 23, 16⟩
def R.THM_CTRL.grace_ms : RegField := ⟨R.THM_CTRL.addr, 13, 0⟩
/-- THM_RELEASE (THM + 0x0004). -/
def R.THM_RELEASE.addr : Nat := 0x20004
def R.THM_RELEASE.release_frames : RegField := ⟨R.THM_RELEASE.addr, 15, 0⟩
/-- THM_THR (THM + 0x0010). -/
def R.THM_THR.addr (i : Nat) : Nat := 0x20010 + 0x4 * i
def R.THM_THR.hyst (i : Nat) : RegField := ⟨R.THM_THR.addr i, 27, 24⟩
def R.THM_THR.theta (i : Nat) : RegField := ⟨R.THM_THR.addr i, 7, 0⟩
/-- THM_PRIO (THM + 0x0020). -/
def R.THM_PRIO.addr : Nat := 0x20020
def R.THM_PRIO.rank_7 : RegField := ⟨R.THM_PRIO.addr, 30, 28⟩
def R.THM_PRIO.rank_6 : RegField := ⟨R.THM_PRIO.addr, 26, 24⟩
def R.THM_PRIO.rank_5 : RegField := ⟨R.THM_PRIO.addr, 22, 20⟩
def R.THM_PRIO.rank_4 : RegField := ⟨R.THM_PRIO.addr, 18, 16⟩
def R.THM_PRIO.rank_3 : RegField := ⟨R.THM_PRIO.addr, 14, 12⟩
def R.THM_PRIO.rank_2 : RegField := ⟨R.THM_PRIO.addr, 10, 8⟩
def R.THM_PRIO.rank_1 : RegField := ⟨R.THM_PRIO.addr, 6, 4⟩
def R.THM_PRIO.rank_0 : RegField := ⟨R.THM_PRIO.addr, 2, 0⟩
/-- THM_ALERT_MASK (THM + 0x0024). -/
def R.THM_ALERT_MASK.addr : Nat := 0x20024
def R.THM_ALERT_MASK.mask : RegField := ⟨R.THM_ALERT_MASK.addr, 4, 0⟩
/-- THM_STATUS (THM + 0x0030). -/
def R.THM_STATUS.addr : Nat := 0x20030
def R.THM_STATUS.cfg_err : RegField := ⟨R.THM_STATUS.addr, 31, 31⟩
def R.THM_STATUS.warning : RegField := ⟨R.THM_STATUS.addr, 30, 30⟩
def R.THM_STATUS.throttle : RegField := ⟨R.THM_STATUS.addr, 29, 29⟩
def R.THM_STATUS.fast : RegField := ⟨R.THM_STATUS.addr, 28, 28⟩
def R.THM_STATUS.phase : RegField := ⟨R.THM_STATUS.addr, 27, 25⟩
def R.THM_STATUS.sd_record : RegField := ⟨R.THM_STATUS.addr, 24, 24⟩
def R.THM_STATUS.blind : RegField := ⟨R.THM_STATUS.addr, 20, 18⟩
def R.THM_STATUS.tmax : RegField := ⟨R.THM_STATUS.addr, 11, 0⟩
/-- THM_ENF (THM + 0x0034). -/
def R.THM_ENF.addr : Nat := 0x20034
def R.THM_ENF.grace_left : RegField := ⟨R.THM_ENF.addr, 31, 16⟩
def R.THM_ENF.lowered : RegField := ⟨R.THM_ENF.addr, 15, 8⟩
def R.THM_ENF.held : RegField := ⟨R.THM_ENF.addr, 7, 0⟩
/-- THM_COMPAT (THM + 0x0040). -/
def R.THM_COMPAT.addr : Nat := 0x20040
def R.THM_COMPAT.i_base : RegField := ⟨R.THM_COMPAT.addr, 23, 16⟩
def R.THM_COMPAT.code : RegField := ⟨R.THM_COMPAT.addr, 3, 0⟩
/-- THM_SENSOR (THM + 0x0100). -/
def R.THM_SENSOR.addr (i : Nat) : Nat := 0x20100 + 0x4 * i
def R.THM_SENSOR.valid (i : Nat) : RegField := ⟨R.THM_SENSOR.addr i, 31, 31⟩
def R.THM_SENSOR.failed (i : Nat) : RegField := ⟨R.THM_SENSOR.addr i, 30, 30⟩
def R.THM_SENSOR.fail_why (i : Nat) : RegField := ⟨R.THM_SENSOR.addr i, 29, 28⟩
def R.THM_SENSOR.reading (i : Nat) : RegField := ⟨R.THM_SENSOR.addr i, 11, 0⟩
/-- THM_FB_CFG (THM + 0x0200). -/
def R.THM_FB_CFG.addr (i : Nat) : Nat := 0x20200 + 0x8 * i
def R.THM_FB_CFG.en (i : Nat) : RegField := ⟨R.THM_FB_CFG.addr i, 31, 31⟩
def R.THM_FB_CFG.die (i : Nat) : RegField := ⟨R.THM_FB_CFG.addr i, 30, 29⟩
def R.THM_FB_CFG.param (i : Nat) : RegField := ⟨R.THM_FB_CFG.addr i, 15, 0⟩
/-- THM_FB_VAL (THM + 0x0204). -/
def R.THM_FB_VAL.addr (i : Nat) : Nat := 0x20204 + 0x8 * i
def R.THM_FB_VAL.valid (i : Nat) : RegField := ⟨R.THM_FB_VAL.addr i, 31, 31⟩
def R.THM_FB_VAL.reading (i : Nat) : RegField := ⟨R.THM_FB_VAL.addr i, 11, 0⟩
/-- THM_SD_0 (THM + 0x0300). -/
def R.THM_SD_0.addr : Nat := 0x20300
def R.THM_SD_0.cause : RegField := ⟨R.THM_SD_0.addr, 31, 28⟩
def R.THM_SD_0.source : RegField := ⟨R.THM_SD_0.addr, 27, 22⟩
def R.THM_SD_0.reading : RegField := ⟨R.THM_SD_0.addr, 11, 0⟩
/-- THM_SD_1 (THM + 0x0304). -/
def R.THM_SD_1.addr : Nat := 0x20304
def R.THM_SD_1.fc_lo : RegField := ⟨R.THM_SD_1.addr, 31, 0⟩
/-- THM_SD_2 (THM + 0x0308). -/
def R.THM_SD_2.addr : Nat := 0x20308
def R.THM_SD_2.count : RegField := ⟨R.THM_SD_2.addr, 31, 24⟩
def R.THM_SD_2.fc_hi : RegField := ⟨R.THM_SD_2.addr, 18, 0⟩
/-- THM_SD_CLR (THM + 0x0310). -/
def R.THM_SD_CLR.addr : Nat := 0x20310
def R.THM_SD_CLR.go : RegField := ⟨R.THM_SD_CLR.addr, 31, 31⟩
def R.THM_SD_CLR.key : RegField := ⟨R.THM_SD_CLR.addr, 7, 0⟩
/-- THM_AVS_TARGET (THM + 0x0400). -/
def R.THM_AVS_TARGET.addr (i : Nat) : Nat := 0x20400 + 0x10 * i
def R.THM_AVS_TARGET.target_mv (i : Nat) : RegField := ⟨R.THM_AVS_TARGET.addr i, 15, 0⟩
/-- THM_AVS_MARGIN (THM + 0x0404). -/
def R.THM_AVS_MARGIN.addr (i : Nat) : Nat := 0x20404 + 0x10 * i
def R.THM_AVS_MARGIN.margin_hi (i : Nat) : RegField := ⟨R.THM_AVS_MARGIN.addr i, 15, 8⟩
def R.THM_AVS_MARGIN.margin_lo (i : Nat) : RegField := ⟨R.THM_AVS_MARGIN.addr i, 7, 0⟩
/-- THM_AVS_STATUS (THM + 0x0408). -/
def R.THM_AVS_STATUS.addr (i : Nat) : Nat := 0x20408 + 0x10 * i
def R.THM_AVS_STATUS.fault (i : Nat) : RegField := ⟨R.THM_AVS_STATUS.addr i, 31, 31⟩
def R.THM_AVS_STATUS.at_min (i : Nat) : RegField := ⟨R.THM_AVS_STATUS.addr i, 30, 30⟩
def R.THM_AVS_STATUS.at_max (i : Nat) : RegField := ⟨R.THM_AVS_STATUS.addr i, 29, 29⟩
def R.THM_AVS_STATUS.low_margin (i : Nat) : RegField := ⟨R.THM_AVS_STATUS.addr i, 7, 0⟩
/-- THM_VMON_CTL (THM + 0x0500). -/
def R.THM_VMON_CTL.addr : Nat := 0x20500
def R.THM_VMON_CTL.fault_pct : RegField := ⟨R.THM_VMON_CTL.addr, 15, 8⟩
def R.THM_VMON_CTL.warn_pct : RegField := ⟨R.THM_VMON_CTL.addr, 7, 0⟩
/-- THM_PMON (THM + 0x0600). -/
def R.THM_PMON.addr (i : Nat) : Nat := 0x20600 + 0x4 * i
def R.THM_PMON.included (i : Nat) : RegField := ⟨R.THM_PMON.addr i, 31, 31⟩
def R.THM_PMON.margin (i : Nat) : RegField := ⟨R.THM_PMON.addr i, 7, 0⟩
/-- THM_EVT (THM + 0x0F00). -/
def R.THM_EVT.addr : Nat := 0x20F00
def R.THM_EVT.evt : RegField := ⟨R.THM_EVT.addr, 10, 0⟩
/-- RST_STATUS (RST + 0x0000). -/
def R.RST_STATUS.addr : Nat := 0x10000
def R.RST_STATUS.device_ready : RegField := ⟨R.RST_STATUS.addr, 31, 31⟩
def R.RST_STATUS.fw_running : RegField := ⟨R.RST_STATUS.addr, 30, 30⟩
def R.RST_STATUS.shutdown_hold : RegField := ⟨R.RST_STATUS.addr, 29, 29⟩
def R.RST_STATUS.ref_missing : RegField := ⟨R.RST_STATUS.addr, 28, 28⟩
def R.RST_STATUS.die_lost : RegField := ⟨R.RST_STATUS.addr, 27, 26⟩
def R.RST_STATUS.stage : RegField := ⟨R.RST_STATUS.addr, 23, 20⟩
def R.RST_STATUS.last_reset : RegField := ⟨R.RST_STATUS.addr, 19, 16⟩
def R.RST_STATUS.fail_code : RegField := ⟨R.RST_STATUS.addr, 15, 8⟩
/-- RST_START_TIME (RST + 0x0004). -/
def R.RST_START_TIME.addr : Nat := 0x10004
def R.RST_START_TIME.ready_ms : RegField := ⟨R.RST_START_TIME.addr, 31, 16⟩
def R.RST_START_TIME.fw_ms : RegField := ⟨R.RST_START_TIME.addr, 15, 0⟩
/-- RST_PORT_RESET (RST + 0x0010). -/
def R.RST_PORT_RESET.addr : Nat := 0x10010
def R.RST_PORT_RESET.go : RegField := ⟨R.RST_PORT_RESET.addr, 31, 31⟩
def R.RST_PORT_RESET.cold : RegField := ⟨R.RST_PORT_RESET.addr, 30, 30⟩
def R.RST_PORT_RESET.port_mask : RegField := ⟨R.RST_PORT_RESET.addr, 7, 0⟩
/-- RST_PORT_STATUS (RST + 0x0014). -/
def R.RST_PORT_STATUS.addr : Nat := 0x10014
def R.RST_PORT_STATUS.cold : RegField := ⟨R.RST_PORT_STATUS.addr, 15, 8⟩
def R.RST_PORT_STATUS.in_reset : RegField := ⟨R.RST_PORT_STATUS.addr, 7, 0⟩
/-- RST_HUB_RESET (RST + 0x0020). -/
def R.RST_HUB_RESET.addr : Nat := 0x10020
def R.RST_HUB_RESET.go : RegField := ⟨R.RST_HUB_RESET.addr, 31, 31⟩
def R.RST_HUB_RESET.region : RegField := ⟨R.RST_HUB_RESET.addr, 10, 8⟩
def R.RST_HUB_RESET.key : RegField := ⟨R.RST_HUB_RESET.addr, 7, 0⟩
/-- RST_DIE_RESET (RST + 0x0024). -/
def R.RST_DIE_RESET.addr : Nat := 0x10024
def R.RST_DIE_RESET.go : RegField := ⟨R.RST_DIE_RESET.addr, 31, 31⟩
def R.RST_DIE_RESET.die : RegField := ⟨R.RST_DIE_RESET.addr, 9, 8⟩
def R.RST_DIE_RESET.key : RegField := ⟨R.RST_DIE_RESET.addr, 7, 0⟩
/-- RST_HUB_STATUS (RST + 0x0028). -/
def R.RST_HUB_STATUS.addr : Nat := 0x10028
def R.RST_HUB_STATUS.die_in_reset : RegField := ⟨R.RST_HUB_STATUS.addr, 4, 3⟩
def R.RST_HUB_STATUS.hub_in_reset : RegField := ⟨R.RST_HUB_STATUS.addr, 2, 0⟩
/-- RST_DELTA_CLR (RST + 0x0030). -/
def R.RST_DELTA_CLR.addr : Nat := 0x10030
def R.RST_DELTA_CLR.go : RegField := ⟨R.RST_DELTA_CLR.addr, 31, 31⟩
def R.RST_DELTA_CLR.key : RegField := ⟨R.RST_DELTA_CLR.addr, 7, 0⟩
/-- RST_DELTA_STATUS (RST + 0x0034). -/
def R.RST_DELTA_STATUS.addr : Nat := 0x10034
def R.RST_DELTA_STATUS.clear_pending : RegField := ⟨R.RST_DELTA_STATUS.addr, 31, 31⟩
def R.RST_DELTA_STATUS.entries : RegField := ⟨R.RST_DELTA_STATUS.addr, 9, 0⟩
/-- PRT_REGION_RESET (PRT + 0x0048). -/
def R.PRT_REGION_RESET.addr (n : Port) : Nat := portBlock n 0x0 + 0x48
def R.PRT_REGION_RESET.go (n : Port) : RegField := ⟨R.PRT_REGION_RESET.addr n, 31, 31⟩
def R.PRT_REGION_RESET.cold (n : Port) : RegField := ⟨R.PRT_REGION_RESET.addr n, 30, 30⟩
/-- FWU_CTL (FWU + 0x0000). -/
def R.FWU_CTL.addr : Nat := 0xC0000
def R.FWU_CTL.fwd_en : RegField := ⟨R.FWU_CTL.addr, 31, 31⟩
def R.FWU_CTL.chain_act : RegField := ⟨R.FWU_CTL.addr, 30, 30⟩
def R.FWU_CTL.chain_en : RegField := ⟨R.FWU_CTL.addr, 29, 29⟩
def R.FWU_CTL.confirm_frames : RegField := ⟨R.FWU_CTL.addr, 15, 0⟩
/-- FWU_STATUS (FWU + 0x0004). -/
def R.FWU_STATUS.addr : Nat := 0xC0004
def R.FWU_STATUS.cfg_err : RegField := ⟨R.FWU_STATUS.addr, 31, 31⟩
def R.FWU_STATUS.state : RegField := ⟨R.FWU_STATUS.addr, 30, 28⟩
def R.FWU_STATUS.source : RegField := ⟨R.FWU_STATUS.addr, 27, 26⟩
def R.FWU_STATUS.confirm_pending : RegField := ⟨R.FWU_STATUS.addr, 25, 25⟩
def R.FWU_STATUS.active_slot : RegField := ⟨R.FWU_STATUS.addr, 24, 24⟩
def R.FWU_STATUS.last_reason : RegField := ⟨R.FWU_STATUS.addr, 23, 16⟩
def R.FWU_STATUS.floor : RegField := ⟨R.FWU_STATUS.addr, 15, 0⟩
/-- FWU_STAGED (FWU + 0x0008). -/
def R.FWU_STAGED.addr : Nat := 0xC0008
def R.FWU_STAGED.staged : RegField := ⟨R.FWU_STAGED.addr, 24, 0⟩
/-- FWU_RUN_0 (FWU + 0x0010). -/
def R.FWU_RUN_0.addr : Nat := 0xC0010
def R.FWU_RUN_0.fw_version : RegField := ⟨R.FWU_RUN_0.addr, 31, 0⟩
/-- FWU_RUN_1 (FWU + 0x0014). -/
def R.FWU_RUN_1.addr : Nat := 0xC0014
def R.FWU_RUN_1.sec_version : RegField := ⟨R.FWU_RUN_1.addr, 15, 0⟩
/-- FWU_RUN_2 (FWU + 0x0018). -/
def R.FWU_RUN_2.addr : Nat := 0xC0018
def R.FWU_RUN_2.id_lo : RegField := ⟨R.FWU_RUN_2.addr, 31, 0⟩
/-- FWU_RUN_3 (FWU + 0x001C). -/
def R.FWU_RUN_3.addr : Nat := 0xC001C
def R.FWU_RUN_3.id_hi : RegField := ⟨R.FWU_RUN_3.addr, 31, 0⟩
/-- FWU_OFFER_0 (FWU + 0x0020). -/
def R.FWU_OFFER_0.addr (i : Nat) : Nat := 0xC0020 + 0x8 * i
def R.FWU_OFFER_0.fw_version (i : Nat) : RegField := ⟨R.FWU_OFFER_0.addr i, 31, 0⟩
/-- FWU_OFFER_1 (FWU + 0x0024). -/
def R.FWU_OFFER_1.addr (i : Nat) : Nat := 0xC0024 + 0x8 * i
def R.FWU_OFFER_1.valid (i : Nat) : RegField := ⟨R.FWU_OFFER_1.addr i, 31, 31⟩
def R.FWU_OFFER_1.sec_version (i : Nat) : RegField := ⟨R.FWU_OFFER_1.addr i, 15, 0⟩
/-- FWU_CONFLICT (FWU + 0x0040). -/
def R.FWU_CONFLICT.addr : Nat := 0xC0040
def R.FWU_CONFLICT.fw_version : RegField := ⟨R.FWU_CONFLICT.addr, 31, 0⟩
/-- FWU_CORE (FWU + 0x0050). -/
def R.FWU_CORE.addr : Nat := 0xC0050
def R.FWU_CORE.ready : RegField := ⟨R.FWU_CORE.addr, 31, 31⟩
def R.FWU_CORE.fallback_req : RegField := ⟨R.FWU_CORE.addr, 30, 30⟩
/-- FWU_EVT (FWU + 0x0060). -/
def R.FWU_EVT.addr : Nat := 0xC0060
def R.FWU_EVT.evt : RegField := ⟨R.FWU_EVT.addr, 5, 0⟩
/-- GLB_ID (GLB + 0x0000). -/
def R.GLB_ID.addr : Nat := 0x0
def R.GLB_ID.device_id : RegField := ⟨R.GLB_ID.addr, 31, 16⟩
def R.GLB_ID.vendor_id : RegField := ⟨R.GLB_ID.addr, 15, 0⟩
/-- GLB_REV (GLB + 0x0004). -/
def R.GLB_REV.addr : Nat := 0x4
def R.GLB_REV.pcie_rev : RegField := ⟨R.GLB_REV.addr, 15, 8⟩
def R.GLB_REV.stepping : RegField := ⟨R.GLB_REV.addr, 7, 0⟩
/-- GLB_ORDER (GLB + 0x0010). -/
def R.GLB_ORDER.addr : Nat := 0x10
def R.GLB_ORDER.tj_max : RegField := ⟨R.GLB_ORDER.addr, 15, 8⟩
def R.GLB_ORDER.grade : RegField := ⟨R.GLB_ORDER.addr, 0, 0⟩
/-- GLB_CAP (GLB + 0x0014). -/
def R.GLB_CAP.addr : Nat := 0x14
def R.GLB_CAP.lpd_gib : RegField := ⟨R.GLB_CAP.addr, 31, 24⟩
def R.GLB_CAP.uplink_lanes : RegField := ⟨R.GLB_CAP.addr, 23, 18⟩
def R.GLB_CAP.aqand_ports : RegField := ⟨R.GLB_CAP.addr, 17, 16⟩
def R.GLB_CAP.g50 : RegField := ⟨R.GLB_CAP.addr, 5, 5⟩
def R.GLB_CAP.m200 : RegField := ⟨R.GLB_CAP.addr, 4, 4⟩
def R.GLB_CAP.ports : RegField := ⟨R.GLB_CAP.addr, 3, 0⟩
/-- PRT_ID (PRT + 0x0000). -/
def R.PRT_ID.addr (n : Port) : Nat := portBlock n 0x0 + 0x0
def R.PRT_ID.function (n : Port) : RegField := ⟨R.PRT_ID.addr n, 19, 16⟩
def R.PRT_ID.die (n : Port) : RegField := ⟨R.PRT_ID.addr n, 8, 8⟩
def R.PRT_ID.port (n : Port) : RegField := ⟨R.PRT_ID.addr n, 2, 0⟩
/-- GLB_STATUS (GLB + 0x0020). -/
def R.GLB_STATUS.addr : Nat := 0x20
def R.GLB_STATUS.pkg_fenced : RegField := ⟨R.GLB_STATUS.addr, 31, 31⟩
def R.GLB_STATUS.hub_fenced : RegField := ⟨R.GLB_STATUS.addr, 30, 28⟩
def R.GLB_STATUS.die_lost : RegField := ⟨R.GLB_STATUS.addr, 27, 26⟩
def R.GLB_STATUS.d2d_half : RegField := ⟨R.GLB_STATUS.addr, 25, 24⟩
def R.GLB_STATUS.port_fenced : RegField := ⟨R.GLB_STATUS.addr, 7, 0⟩
/-- GLB_REG_ERR_0 (GLB + 0x0030). -/
def R.GLB_REG_ERR_0.addr : Nat := 0x30
def R.GLB_REG_ERR_0.address : RegField := ⟨R.GLB_REG_ERR_0.addr, 24, 0⟩
/-- GLB_REG_ERR_1 (GLB + 0x0034). -/
def R.GLB_REG_ERR_1.addr : Nat := 0x34
def R.GLB_REG_ERR_1.seen : RegField := ⟨R.GLB_REG_ERR_1.addr, 31, 31⟩
def R.GLB_REG_ERR_1.source : RegField := ⟨R.GLB_REG_ERR_1.addr, 11, 8⟩
def R.GLB_REG_ERR_1.write : RegField := ⟨R.GLB_REG_ERR_1.addr, 4, 4⟩
def R.GLB_REG_ERR_1.kind : RegField := ⟨R.GLB_REG_ERR_1.addr, 2, 0⟩
/-- GLB_QE_SPARE_MAP (GLB + 0x0040). -/
def R.GLB_QE_SPARE_MAP.addr : Nat := 0x40
def R.GLB_QE_SPARE_MAP.qe_7 : RegField := ⟨R.GLB_QE_SPARE_MAP.addr, 31, 28⟩
def R.GLB_QE_SPARE_MAP.qe_6 : RegField := ⟨R.GLB_QE_SPARE_MAP.addr, 27, 24⟩
def R.GLB_QE_SPARE_MAP.qe_5 : RegField := ⟨R.GLB_QE_SPARE_MAP.addr, 23, 20⟩
def R.GLB_QE_SPARE_MAP.qe_4 : RegField := ⟨R.GLB_QE_SPARE_MAP.addr, 19, 16⟩
def R.GLB_QE_SPARE_MAP.qe_3 : RegField := ⟨R.GLB_QE_SPARE_MAP.addr, 15, 12⟩
def R.GLB_QE_SPARE_MAP.qe_2 : RegField := ⟨R.GLB_QE_SPARE_MAP.addr, 11, 8⟩
def R.GLB_QE_SPARE_MAP.qe_1 : RegField := ⟨R.GLB_QE_SPARE_MAP.addr, 7, 4⟩
def R.GLB_QE_SPARE_MAP.qe_0 : RegField := ⟨R.GLB_QE_SPARE_MAP.addr, 3, 0⟩
/-- GLB_QE_STATE (GLB + 0x0044). -/
def R.GLB_QE_STATE.addr : Nat := 0x44
def R.GLB_QE_STATE.in_service : RegField := ⟨R.GLB_QE_STATE.addr, 24, 16⟩
def R.GLB_QE_STATE.faulty : RegField := ⟨R.GLB_QE_STATE.addr, 8, 0⟩
/-- GLB_D2D_LANE_MAP (GLB + 0x0050). -/
def R.GLB_D2D_LANE_MAP.addr (i : Nat) : Nat := 0x50 + 0x4 * i
def R.GLB_D2D_LANE_MAP.half_width (i : Nat) : RegField := ⟨R.GLB_D2D_LANE_MAP.addr i, 31, 31⟩
def R.GLB_D2D_LANE_MAP.spare_used (i : Nat) : RegField := ⟨R.GLB_D2D_LANE_MAP.addr i, 30, 30⟩
def R.GLB_D2D_LANE_MAP.replaced (i : Nat) : RegField := ⟨R.GLB_D2D_LANE_MAP.addr i, 22, 16⟩
def R.GLB_D2D_LANE_MAP.retrains (i : Nat) : RegField := ⟨R.GLB_D2D_LANE_MAP.addr i, 7, 0⟩
/-- GLB_EVT (GLB + 0x0060). -/
def R.GLB_EVT.addr : Nat := 0x60
def R.GLB_EVT.evt : RegField := ⟨R.GLB_EVT.addr, 18, 0⟩
/-- TOD_CTRL (TOD + 0x0000). -/
def R.TOD_CTRL.addr : Nat := 0xD0000
def R.TOD_CTRL.pps_en : RegField := ⟨R.TOD_CTRL.addr, 31, 31⟩
def R.TOD_CTRL.pps_track : RegField := ⟨R.TOD_CTRL.addr, 30, 30⟩
def R.TOD_CTRL.align : RegField := ⟨R.TOD_CTRL.addr, 29, 29⟩
def R.TOD_CTRL.arm_sec : RegField := ⟨R.TOD_CTRL.addr, 28, 28⟩
def R.TOD_CTRL.pps_tol : RegField := ⟨R.TOD_CTRL.addr, 15, 0⟩
/-- TOD_PHASE (TOD + 0x0004). -/
def R.TOD_PHASE.addr : Nat := 0xD0004
def R.TOD_PHASE.phase : RegField := ⟨R.TOD_PHASE.addr, 14, 0⟩
/-- TOD_STATUS (TOD + 0x0008). -/
def R.TOD_STATUS.addr : Nat := 0xD0008
def R.TOD_STATUS.cfg_err : RegField := ⟨R.TOD_STATUS.addr, 31, 31⟩
def R.TOD_STATUS.pps_lost : RegField := ⟨R.TOD_STATUS.addr, 30, 30⟩
def R.TOD_STATUS.aligned : RegField := ⟨R.TOD_STATUS.addr, 29, 29⟩
def R.TOD_STATUS.follower : RegField := ⟨R.TOD_STATUS.addr, 28, 28⟩
def R.TOD_STATUS.fc_pending : RegField := ⟨R.TOD_STATUS.addr, 27, 27⟩
def R.TOD_STATUS.pps_err : RegField := ⟨R.TOD_STATUS.addr, 23, 0⟩
/-- TOD_FC_0 (TOD + 0x0010). -/
def R.TOD_FC_0.addr : Nat := 0xD0010
def R.TOD_FC_0.fc_lo : RegField := ⟨R.TOD_FC_0.addr, 31, 0⟩
/-- TOD_FC_1 (TOD + 0x0014). -/
def R.TOD_FC_1.addr : Nat := 0xD0014
def R.TOD_FC_1.fc_hi : RegField := ⟨R.TOD_FC_1.addr, 18, 0⟩
/-- TOD_FC_SET_0 (TOD + 0x0020). -/
def R.TOD_FC_SET_0.addr : Nat := 0xD0020
def R.TOD_FC_SET_0.set_lo : RegField := ⟨R.TOD_FC_SET_0.addr, 31, 0⟩
/-- TOD_FC_SET_1 (TOD + 0x0024). -/
def R.TOD_FC_SET_1.addr : Nat := 0xD0024
def R.TOD_FC_SET_1.go : RegField := ⟨R.TOD_FC_SET_1.addr, 31, 31⟩
def R.TOD_FC_SET_1.set_hi : RegField := ⟨R.TOD_FC_SET_1.addr, 18, 0⟩
/-- TOD_NEXT_SEC_0 (TOD + 0x0030). -/
def R.TOD_NEXT_SEC_0.addr : Nat := 0xD0030
def R.TOD_NEXT_SEC_0.sec_lo : RegField := ⟨R.TOD_NEXT_SEC_0.addr, 31, 0⟩
/-- TOD_NEXT_SEC_1 (TOD + 0x0034). -/
def R.TOD_NEXT_SEC_1.addr : Nat := 0xD0034
def R.TOD_NEXT_SEC_1.sec_hi : RegField := ⟨R.TOD_NEXT_SEC_1.addr, 15, 0⟩
/-- TOD_TICK_NS (TOD + 0x0040). -/
def R.TOD_TICK_NS.addr : Nat := 0xD0040
def R.TOD_TICK_NS.ns : RegField := ⟨R.TOD_TICK_NS.addr, 29, 0⟩
/-- TOD_TICK_SEC_0 (TOD + 0x0044). -/
def R.TOD_TICK_SEC_0.addr : Nat := 0xD0044
def R.TOD_TICK_SEC_0.sec_lo : RegField := ⟨R.TOD_TICK_SEC_0.addr, 31, 0⟩
/-- TOD_TICK_SEC_1 (TOD + 0x0048). -/
def R.TOD_TICK_SEC_1.addr : Nat := 0xD0048
def R.TOD_TICK_SEC_1.sec_hi : RegField := ⟨R.TOD_TICK_SEC_1.addr, 15, 0⟩
/-- GLB_SCRATCH (GLB + 0x0024). -/
def R.GLB_SCRATCH.addr : Nat := 0x24
def R.GLB_SCRATCH.scratch : RegField := ⟨R.GLB_SCRATCH.addr, 31, 0⟩
/-- GLB_SERIAL_LO (GLB + 0x0008). -/
def R.GLB_SERIAL_LO.addr : Nat := 0x8
def R.GLB_SERIAL_LO.serial : RegField := ⟨R.GLB_SERIAL_LO.addr, 31, 0⟩
/-- GLB_SERIAL_HI (GLB + 0x000C). -/
def R.GLB_SERIAL_HI.addr : Nat := 0xC
def R.GLB_SERIAL_HI.serial : RegField := ⟨R.GLB_SERIAL_HI.addr, 31, 0⟩

/-- The registers of block GLB. -/
def regsGLB : List RegDef := [
  ⟨"GLB_PROFILE", 0x80, 1, 0x4, 1, 1, [(31, 31, .rw1c), (17, 16, .rw), (1, 0, .rw)], fun _ _ _ => 0x1⟩,
  ⟨"GLB_FLOW_CTL", 0x100, 1, 0x4, 1, 1, [(31, 31, .rw), (16, 16, .rw), (15, 0, .rw)], fun _ _ _ => 0x9100⟩,
  ⟨"GLB_FLOW_STATUS", 0x104, 1, 0x4, 1, 1, [(20, 0, .ro)], fun _ _ _ => 0⟩,
  ⟨"GLB_FLOW_LAST_POISON", 0x108, 1, 0x4, 1, 1, [(31, 31, .rw1c), (30, 30, .ro), (19, 0, .ro)], fun _ _ _ => 0⟩,
  ⟨"GLB_ID", 0x0, 1, 0x4, 1, 1, [(31, 16, .ro), (15, 0, .ro)], fun _ _ _ => 0x82001F3C⟩,
  ⟨"GLB_REV", 0x4, 1, 0x4, 1, 1, [(15, 8, .ro), (7, 0, .ro)], fun _ _ _ => (if Config.fusedStepping = 0 then 0x10 else 0x11) * 2 ^ 8 + Config.fusedStepping⟩,
  ⟨"GLB_ORDER", 0x10, 1, 0x4, 1, 1, [(15, 8, .ro), (0, 0, .ro)], fun _ _ _ => (if Config.fusedGrade = 0 then 105 else 110) * 2 ^ 8 + Config.fusedGrade⟩,
  ⟨"GLB_CAP", 0x14, 1, 0x4, 1, 1, [(31, 24, .ro), (23, 18, .ro), (17, 16, .ro), (5, 5, .ro), (4, 4, .ro), (3, 0, .ro)], fun _ _ _ => 0x420038⟩,
  ⟨"GLB_STATUS", 0x20, 1, 0x4, 1, 1, [(31, 31, .ro), (30, 28, .ro), (27, 26, .ro), (25, 24, .ro), (7, 0, .ro)], fun _ _ _ => 0⟩,
  ⟨"GLB_REG_ERR_0", 0x30, 1, 0x4, 1, 1, [(24, 0, .ro)], fun _ _ _ => 0⟩,
  ⟨"GLB_REG_ERR_1", 0x34, 1, 0x4, 1, 1, [(31, 31, .rw1c), (11, 8, .ro), (4, 4, .ro), (2, 0, .ro)], fun _ _ _ => 0⟩,
  ⟨"GLB_QE_SPARE_MAP", 0x40, 1, 0x4, 1, 1, [(31, 28, .ro), (27, 24, .ro), (23, 20, .ro), (19, 16, .ro), (15, 12, .ro), (11, 8, .ro), (7, 4, .ro), (3, 0, .ro)], fun _ _ _ => 0x76543210⟩,
  ⟨"GLB_QE_STATE", 0x44, 1, 0x4, 1, 1, [(24, 16, .ro), (8, 0, .ro)], fun _ _ _ => 0xFF0000⟩,
  ⟨"GLB_D2D_LANE_MAP", 0x50, 4, 0x4, 1, 1, [(31, 31, .ro), (30, 30, .ro), (22, 16, .ro), (7, 0, .ro)], fun _ _ _ => 0⟩,
  ⟨"GLB_EVT", 0x60, 1, 0x4, 1, 1, [(18, 0, .rw1c)], fun _ _ _ => 0⟩,
  ⟨"GLB_SCRATCH", 0x24, 1, 0x4, 1, 1, [(31, 0, .rw)], fun _ _ _ => 0⟩,
  ⟨"GLB_SERIAL_LO", 0x8, 1, 0x4, 1, 1, [(31, 0, .ro)], fun _ _ _ => (Config.fusedSerial % 2 ^ 32)⟩,
  ⟨"GLB_SERIAL_HI", 0xC, 1, 0x4, 1, 1, [(31, 0, .ro)], fun _ _ _ => (Config.fusedSerial / 2 ^ 32)⟩]
/-- The registers of block RST. -/
def regsRST : List RegDef := [
  ⟨"RST_STATUS", 0x0, 1, 0x4, 1, 1, [(31, 31, .ro), (30, 30, .ro), (29, 29, .ro), (28, 28, .ro), (27, 26, .ro), (23, 20, .ro), (19, 16, .ro), (15, 8, .ro)], fun _ _ _ => 0⟩,
  ⟨"RST_START_TIME", 0x4, 1, 0x4, 1, 1, [(31, 16, .ro), (15, 0, .ro)], fun _ _ _ => 0⟩,
  ⟨"RST_PORT_RESET", 0x10, 1, 0x4, 1, 1, [(31, 31, .wo), (30, 30, .wo), (7, 0, .wo)], fun _ _ _ => 0⟩,
  ⟨"RST_PORT_STATUS", 0x14, 1, 0x4, 1, 1, [(15, 8, .ro), (7, 0, .ro)], fun _ _ _ => 0⟩,
  ⟨"RST_HUB_RESET", 0x20, 1, 0x4, 1, 1, [(31, 31, .wo), (10, 8, .wo), (7, 0, .wo)], fun _ _ _ => 0⟩,
  ⟨"RST_DIE_RESET", 0x24, 1, 0x4, 1, 1, [(31, 31, .wo), (9, 8, .wo), (7, 0, .wo)], fun _ _ _ => 0⟩,
  ⟨"RST_HUB_STATUS", 0x28, 1, 0x4, 1, 1, [(4, 3, .ro), (2, 0, .ro)], fun _ _ _ => 0⟩,
  ⟨"RST_DELTA_CLR", 0x30, 1, 0x4, 1, 1, [(31, 31, .wo), (7, 0, .wo)], fun _ _ _ => 0⟩,
  ⟨"RST_DELTA_STATUS", 0x34, 1, 0x4, 1, 1, [(31, 31, .ro), (9, 0, .ro)], fun _ _ _ => 0⟩]
/-- The registers of block THM. -/
def regsTHM : List RegDef := [
  ⟨"THM_CTRL", 0x0, 1, 0x4, 1, 1, [(31, 31, .rw), (30, 30, .rw), (29, 29, .rw), (23, 16, .rw), (13, 0, .rw)], fun _ _ _ => 0x600800C8⟩,
  ⟨"THM_RELEASE", 0x4, 1, 0x4, 1, 1, [(15, 0, .rw)], fun _ _ _ => 0x320⟩,
  ⟨"THM_THR", 0x10, 3, 0x4, 1, 1, [(27, 24, .rw), (7, 0, .rw)], fun _ i _ => 3 * 2 ^ 24 + (if i = 0 then 0x64 else if i = 1 then 0x6C else 0x76)⟩,
  ⟨"THM_PRIO", 0x20, 1, 0x4, 1, 1, [(30, 28, .rw), (26, 24, .rw), (22, 20, .rw), (18, 16, .rw), (14, 12, .rw), (10, 8, .rw), (6, 4, .rw), (2, 0, .rw)], fun _ _ _ => 0x76543210⟩,
  ⟨"THM_ALERT_MASK", 0x24, 1, 0x4, 1, 1, [(4, 0, .rw)], fun _ _ _ => 0x7⟩,
  ⟨"THM_STATUS", 0x30, 1, 0x4, 1, 1, [(31, 31, .rw1c), (30, 30, .ro), (29, 29, .ro), (28, 28, .ro), (27, 25, .ro), (24, 24, .ro), (20, 18, .ro), (11, 0, .ro)], fun _ _ _ => 0⟩,
  ⟨"THM_ENF", 0x34, 1, 0x4, 1, 1, [(31, 16, .ro), (15, 8, .ro), (7, 0, .ro)], fun _ _ _ => 0⟩,
  ⟨"THM_COMPAT", 0x40, 1, 0x4, 1, 1, [(23, 16, .rw), (3, 0, .ro)], fun _ _ _ => 0xC80000⟩,
  ⟨"THM_SENSOR", 0x100, 30, 0x4, 1, 1, [(31, 31, .ro), (30, 30, .ro), (29, 28, .ro), (11, 0, .ro)], fun _ _ _ => 0⟩,
  ⟨"THM_FB_CFG", 0x200, 16, 0x8, 1, 1, [(31, 31, .rw), (30, 29, .rw), (15, 0, .rw)], fun _ i _ => (if i < 8 then 0x2760 else 0x0D6B)⟩,
  ⟨"THM_FB_VAL", 0x204, 16, 0x8, 1, 1, [(31, 31, .ro), (11, 0, .ro)], fun _ _ _ => 0⟩,
  ⟨"THM_SD_0", 0x300, 1, 0x4, 1, 1, [(31, 28, .ro), (27, 22, .ro), (11, 0, .ro)], fun _ _ _ => 0⟩,
  ⟨"THM_SD_1", 0x304, 1, 0x4, 1, 1, [(31, 0, .ro)], fun _ _ _ => 0⟩,
  ⟨"THM_SD_2", 0x308, 1, 0x4, 1, 1, [(31, 24, .ro), (18, 0, .ro)], fun _ _ _ => 0⟩,
  ⟨"THM_SD_CLR", 0x310, 1, 0x4, 1, 1, [(31, 31, .wo), (7, 0, .wo)], fun _ _ _ => 0⟩,
  ⟨"THM_AVS_TARGET", 0x400, 3, 0x10, 1, 1, [(15, 0, .ro)], fun _ i _ => (Config.fusedAvs i)⟩,
  ⟨"THM_AVS_MARGIN", 0x404, 3, 0x10, 1, 1, [(15, 8, .rw), (7, 0, .rw)], fun _ _ _ => 0xC06⟩,
  ⟨"THM_AVS_STATUS", 0x408, 3, 0x10, 1, 1, [(31, 31, .ro), (30, 30, .ro), (29, 29, .ro), (7, 0, .ro)], fun _ _ _ => 0⟩,
  ⟨"THM_VMON_CTL", 0x500, 1, 0x4, 1, 1, [(15, 8, .rw), (7, 0, .rw)], fun _ _ _ => 0xA05⟩,
  ⟨"THM_PMON", 0x600, 22, 0x4, 1, 1, [(31, 31, .ro), (7, 0, .ro)], fun _ _ _ => 0⟩,
  ⟨"THM_EVT", 0xF00, 1, 0x4, 1, 1, [(10, 0, .rw1c)], fun _ _ _ => 0⟩]
/-- The registers of block HKA. -/
def regsHKA : List RegDef := [
  ⟨"HKA_CTL", 0x0, 3, 0x1000, 1, 1, [(31, 31, .rw), (30, 30, .wo), (0, 0, .rw)], fun _ _ _ => 0⟩,
  ⟨"HKA_STATUS", 0x4, 3, 0x1000, 1, 1, [(31, 31, .rw1c), (30, 30, .rw1c), (29, 29, .rw1c), (28, 28, .ro), (27, 27, .ro), (26, 24, .ro)], fun _ _ _ => 0⟩,
  ⟨"HKA_DATA", 0x8, 3, 0x1000, 1, 1, [(31, 31, .ro), (30, 30, .ro), (29, 25, .ro), (24, 19, .ro), (18, 17, .ro), (16, 16, .ro), (15, 0, .ro)], fun _ _ _ => 0⟩,
  ⟨"HKA_EVT", 0xF00, 1, 0x4, 1, 1, [(5, 0, .rw1c)], fun _ _ _ => 0⟩,
  ⟨"HKA_ENTRY", 0x100, 3, 0x1000, 32, 4, [(31, 30, .rw), (29, 27, .rw), (26, 25, .rw), (24, 24, .rw), (23, 22, .rw), (5, 0, .rw)], fun _ _ _ => 0⟩,
  ⟨"HKA_VAL", 0x200, 3, 0x1000, 48, 4, [(31, 16, .ro), (15, 0, .ro)], fun _ _ _ => 0⟩,
  ⟨"HKA_RSSI", 0x4000, 8, 0x400, 256, 4, [(31, 16, .ro), (15, 0, .ro)], fun _ _ _ => 0⟩]
/-- The registers of block BDA. -/
def regsBDA : List RegDef := [
  ⟨"BDA_STATUS", 0x0, 1, 0x4, 1, 1, [(31, 31, .rw1c)], fun _ _ _ => 0⟩,
  ⟨"BDA_EVT", 0x4, 1, 0x4, 1, 1, [(7, 0, .rw1c)], fun _ _ _ => 0⟩,
  ⟨"BDA_CODE", 0x100, 32, 0x10, 1, 1, [(31, 31, .rw), (15, 0, .rw)], fun _ _ _ => 0⟩,
  ⟨"BDA_CFG", 0x104, 32, 0x10, 1, 1, [(31, 24, .rw), (23, 16, .rw), (15, 0, .rw)], fun _ _ _ => 0xFFFF⟩,
  ⟨"BDA_SAFE", 0x108, 32, 0x10, 1, 1, [(17, 17, .rw), (16, 16, .rw), (15, 0, .rw)], fun _ _ _ => 0⟩,
  ⟨"BDA_STAT", 0x10C, 32, 0x10, 1, 1, [(31, 31, .ro), (29, 28, .ro), (15, 0, .ro)], fun _ _ _ => 0⟩]
/-- The registers of block EVC. -/
def regsEVC : List RegDef := [
  ⟨"EVC_VIEW_STATUS", 0x9804, 1, 0x4, 1, 1, [(31, 31, .rw1c)], fun _ _ _ => 0⟩,
  ⟨"EVC_EQ_OWNER", 0xB000, 8, 0x4, 1, 1, [(31, 0, .rw)], fun _ i _ => (eqOwnerReset i)⟩,
  ⟨"EVC_STATUS", 0xB040, 1, 0x4, 1, 1, [(6, 0, .ro)], fun _ _ _ => 0⟩]
/-- The registers of block CTR. -/
def regsCTR : List RegDef := [
  ⟨"CTR_CTRL", 0x0, 1, 0x4, 1, 1, [(31, 31, .rw)], fun _ _ _ => 0⟩,
  ⟨"CTR_STATUS", 0x4, 1, 0x4, 1, 1, [(31, 31, .rw1c), (30, 30, .ro), (5, 0, .ro)], fun _ _ _ => 0⟩,
  ⟨"CTR_HV_ADDR_LO", 0x1000, 32, 0x20, 1, 1, [(31, 12, .rw)], fun _ _ _ => 0⟩,
  ⟨"CTR_HV_ADDR_HI", 0x1004, 32, 0x20, 1, 1, [(31, 0, .rw)], fun _ _ _ => 0⟩,
  ⟨"CTR_HV_CFG", 0x1008, 32, 0x20, 1, 1, [(31, 31, .rw), (30, 30, .rw), (23, 20, .rw), (15, 0, .rw)], fun _ _ _ => 0x401F40⟩,
  ⟨"CTR_HV_SRC", 0x100C, 32, 0x20, 1, 1, [(29, 16, .rw), (14, 0, .rw)], fun _ _ _ => 0x1⟩,
  ⟨"CTR_HV_STATUS", 0x1010, 32, 0x20, 1, 1, [(31, 31, .ro), (30, 30, .ro), (15, 0, .ro)], fun _ _ _ => 0⟩,
  ⟨"CTR_HV_SEQ", 0x1014, 32, 0x20, 1, 1, [(31, 0, .ro)], fun _ _ _ => 0⟩]
/-- The registers of block MEM. -/
def regsMEM : List RegDef := [
  ⟨"MEM_CTRL", 0x0, 1, 0x4, 1, 1, [(31, 31, .rw), (19, 16, .rw), (11, 8, .rw)], fun _ _ _ => 0x80010800⟩,
  ⟨"MEM_TRK", 0x4, 1, 0x4, 1, 1, [(20, 16, .rw), (11, 8, .rw), (4, 0, .rw)], fun _ _ _ => 0x140418⟩,
  ⟨"MEM_WARN", 0x10, 1, 0x4, 1, 1, [(31, 31, .rw1c), (10, 0, .rw1c)], fun _ _ _ => 0⟩,
  ⟨"MEM_EVT", 0x14, 1, 0x4, 1, 1, [(5, 0, .rw1c)], fun _ _ _ => 0⟩,
  ⟨"MEM_REMAP_FREE", 0x20, 1, 0x4, 1, 1, [(27, 20, .ro), (11, 0, .ro)], fun _ _ _ => 0x800⟩,
  ⟨"MEM_BTN_STATUS", 0x30, 1, 0x4, 1, 1, [(31, 31, .ro), (24, 16, .ro), (15, 0, .ro)], fun _ _ _ => 0⟩,
  ⟨"MEM_SCRUB_STATUS", 0x40, 1, 0x4, 1, 1, [(3, 0, .ro)], fun _ _ _ => 0⟩,
  ⟨"MEM_INJECT_0", 0x50, 1, 0x4, 1, 1, [(31, 31, .wo), (27, 26, .wo), (25, 24, .wo), (4, 0, .wo)], fun _ _ _ => 0⟩,
  ⟨"MEM_INJECT_1", 0x54, 1, 0x4, 1, 1, [(31, 0, .rw)], fun _ _ _ => 0⟩]
/-- The registers of block LPD. -/
def regsLPD : List RegDef := [
  ⟨"LPD_POOL_CTL", 0x800, 1, 0x4, 1, 1, [(23, 16, .rw), (15, 0, .rw)], fun _ _ _ => 0x401000⟩,
  ⟨"LPD_POOL_CT", 0x804, 1, 0x4, 1, 1, [(26, 0, .ro)], fun _ _ _ => 0x10000⟩,
  ⟨"LPD_POOL_LP", 0x808, 1, 0x4, 1, 1, [(26, 0, .ro)], fun _ _ _ => 0x7B80000⟩,
  ⟨"LPD_CTRL", 0x0, 1, 0x4, 1, 1, [(4, 0, .rw)], fun _ _ _ => 0x4⟩,
  ⟨"LPD_STATUS", 0x4, 1, 0x4, 1, 1, [(24, 16, .ro), (15, 0, .ro)], fun _ _ _ => 0⟩,
  ⟨"LPD_TOUCH", 0x8, 1, 0x4, 1, 1, [(19, 0, .ro)], fun _ _ _ => 0⟩]
/-- The registers of block HIF. -/
def regsHIF : List RegDef := [
  ⟨"HIF_RING_ADDR_LO", 0x800, 1, 0x4, 1, 1, [(31, 12, .rw)], fun _ _ _ => 0⟩,
  ⟨"HIF_RING_ADDR_HI", 0x804, 1, 0x4, 1, 1, [(31, 0, .rw)], fun _ _ _ => 0⟩,
  ⟨"HIF_RING_CFG", 0x808, 1, 0x4, 1, 1, [(31, 31, .rw), (29, 20, .rw), (15, 11, .rw)], fun _ _ _ => 0⟩,
  ⟨"HIF_RING_PARAM", 0x80C, 1, 0x4, 1, 1, [(31, 31, .rw), (25, 16, .rw), (7, 0, .rw)], fun _ _ _ => 0⟩,
  ⟨"HIF_RING_BUF", 0x810, 1, 0x4, 1, 1, [(15, 0, .rw)], fun _ _ _ => 0⟩,
  ⟨"HIF_RING_OP", 0x814, 1, 0x4, 1, 1, [(31, 31, .wo), (30, 29, .wo)], fun _ _ _ => 0⟩,
  ⟨"HIF_RING_STATUS", 0x818, 1, 0x4, 1, 1, [(31, 31, .ro), (7, 0, .ro)], fun _ _ _ => 0⟩,
  ⟨"HIF_QUOTA", 0x0, 9, 0x4, 1, 1, [(26, 16, .rw), (10, 0, .rw)], fun _ i _ => (if i = 0 then 128 else 112) * 2 ^ 16 + (if i = 0 then 128 else 112)⟩,
  ⟨"HIF_CQ_BASE", 0x40, 9, 0x4, 1, 1, [(9, 0, .ro)], fun _ i _ => (if i = 0 then 0 else 128 + 112 * (i - 1))⟩,
  ⟨"HIF_FLR_CTL", 0x80, 1, 0x4, 1, 1, [(7, 0, .rw)], fun _ _ _ => 0⟩,
  ⟨"HIF_SOFT_RESET", 0x84, 1, 0x4, 1, 1, [(31, 31, .wo), (7, 0, .wo)], fun _ _ _ => 0⟩,
  ⟨"HIF_STATUS", 0x90, 1, 0x4, 1, 1, [(31, 31, .rw1c), (8, 0, .ro)], fun _ _ _ => 0⟩,
  ⟨"HIF_RING_ERR", 0x100, 9, 0x4, 1, 1, [(31, 31, .rw1c), (30, 30, .rw1c), (9, 0, .ro)], fun _ _ _ => 0⟩,
  ⟨"HIF_LEDGER_0", 0x400, 9, 0x10, 1, 1, [(31, 31, .ro), (9, 0, .ro)], fun _ _ _ => 0⟩,
  ⟨"HIF_LEDGER_1", 0x404, 9, 0x10, 1, 1, [(31, 0, .ro)], fun _ _ _ => 0⟩,
  ⟨"HIF_LEDGER_2", 0x408, 9, 0x10, 1, 1, [(31, 0, .ro)], fun _ _ _ => 0⟩,
  ⟨"HIF_LEDGER_3", 0x40C, 9, 0x10, 1, 1, [(31, 0, .ro)], fun _ _ _ => 0⟩]
/-- The registers of block ULK. -/
def regsULK : List RegDef := [
  ⟨"ULK_PORT", 0x0, 16, 0x4, 1, 1, [(31, 31, .rw), (30, 29, .rw), (13, 0, .rw)], fun _ _ _ => 0x2600⟩,
  ⟨"ULK_PORT_STATUS", 0x40, 16, 0x4, 1, 1, [(31, 29, .ro), (15, 8, .ro), (7, 0, .ro)], fun _ _ _ => 0⟩,
  ⟨"ULK_STATUS", 0x80, 1, 0x4, 1, 1, [(31, 31, .rw1c)], fun _ _ _ => 0⟩,
  ⟨"ULK_LANE_CTL", 0x1000, 16, 0x40, 1, 1, [(31, 31, .rw), (30, 30, .rw), (29, 28, .rw), (1, 1, .rw), (0, 0, .rw)], fun _ _ _ => 0⟩,
  ⟨"ULK_LANE_TXEQ", 0x1004, 16, 0x40, 1, 1, [(27, 21, .rw), (20, 14, .rw), (13, 7, .rw), (6, 0, .rw)], fun _ _ _ => 0x1F1C7C⟩,
  ⟨"ULK_LANE_PRBS", 0x1008, 16, 0x40, 1, 1, [(31, 31, .rw), (30, 28, .rw), (15, 15, .rw), (14, 12, .rw)], fun _ _ _ => 0⟩,
  ⟨"ULK_LANE_INJ", 0x100C, 16, 0x40, 1, 1, [(31, 31, .wo), (30, 30, .wo), (7, 0, .rw)], fun _ _ _ => 0x10⟩,
  ⟨"ULK_LANE_STATUS", 0x1010, 16, 0x40, 1, 1, [(31, 31, .ro), (30, 30, .ro), (29, 29, .ro), (28, 28, .ro), (27, 27, .ro), (26, 26, .ro), (25, 25, .ro), (17, 16, .ro)], fun _ _ _ => 0⟩,
  ⟨"ULK_LANE_PRBS_ERR", 0x1014, 16, 0x40, 1, 1, [(31, 0, .ro)], fun _ _ _ => 0⟩]
/-- The registers of block AQL. -/
def regsAQL : List RegDef := [
  ⟨"AQL_STATUS", 0x20, 1, 0x4, 1, 1, [(31, 31, .rw1c)], fun _ _ _ => 0⟩,
  ⟨"AQL_PORT", 0x0, 2, 0x4, 1, 1, [(31, 31, .rw)], fun _ _ _ => 0⟩,
  ⟨"AQL_PORT_STATUS", 0x10, 2, 0x4, 1, 1, [(31, 29, .ro), (28, 28, .ro), (27, 27, .ro), (11, 8, .ro), (7, 0, .ro)], fun _ _ _ => 0⟩,
  ⟨"AQL_LANE_CTL", 0x1000, 8, 0x40, 1, 1, [(31, 31, .rw), (30, 30, .rw), (29, 28, .rw), (1, 1, .rw), (0, 0, .rw)], fun _ _ _ => 0⟩,
  ⟨"AQL_LANE_TXEQ", 0x1004, 8, 0x40, 1, 1, [(27, 21, .rw), (20, 14, .rw), (13, 7, .rw), (6, 0, .rw)], fun _ _ _ => 0x1F1C7C⟩,
  ⟨"AQL_LANE_PRBS", 0x1008, 8, 0x40, 1, 1, [(31, 31, .rw), (30, 28, .rw), (15, 15, .rw), (14, 12, .rw)], fun _ _ _ => 0⟩,
  ⟨"AQL_LANE_INJ", 0x100C, 8, 0x40, 1, 1, [(31, 31, .wo), (30, 30, .wo), (7, 0, .rw)], fun _ _ _ => 0x10⟩,
  ⟨"AQL_LANE_STATUS", 0x1010, 8, 0x40, 1, 1, [(31, 31, .ro), (30, 30, .ro), (29, 29, .ro), (28, 28, .ro), (27, 27, .ro), (26, 26, .ro), (25, 25, .ro), (17, 16, .ro)], fun _ _ _ => 0⟩,
  ⟨"AQL_LANE_PRBS_ERR", 0x1014, 8, 0x40, 1, 1, [(31, 0, .ro)], fun _ _ _ => 0⟩,
  ⟨"AQL_PAIR_CTL", 0x2000, 1, 0x4, 1, 1, [(31, 31, .rw), (30, 30, .rw), (7, 0, .rw)], fun _ _ _ => 0x40000080⟩,
  ⟨"AQL_PAIR_STATUS", 0x2004, 1, 0x4, 1, 1, [(31, 31, .rw1c), (30, 30, .ro), (29, 29, .ro), (28, 28, .ro), (27, 27, .ro), (19, 16, .ro), (1, 0, .ro)], fun _ _ _ => 0⟩]
/-- The registers of block FWU. -/
def regsFWU : List RegDef := [
  ⟨"FWU_CTL", 0x0, 1, 0x4, 1, 1, [(31, 31, .rw), (30, 30, .rw), (29, 29, .rw), (15, 0, .rw)], fun _ _ _ => 0xA0000000⟩,
  ⟨"FWU_STATUS", 0x4, 1, 0x4, 1, 1, [(31, 31, .rw1c), (30, 28, .ro), (27, 26, .ro), (25, 25, .ro), (24, 24, .ro), (23, 16, .ro), (15, 0, .ro)], fun _ _ _ => 0⟩,
  ⟨"FWU_STAGED", 0x8, 1, 0x4, 1, 1, [(24, 0, .ro)], fun _ _ _ => 0⟩,
  ⟨"FWU_RUN_0", 0x10, 1, 0x4, 1, 1, [(31, 0, .ro)], fun _ _ _ => 0⟩,
  ⟨"FWU_RUN_1", 0x14, 1, 0x4, 1, 1, [(15, 0, .ro)], fun _ _ _ => 0⟩,
  ⟨"FWU_RUN_2", 0x18, 1, 0x4, 1, 1, [(31, 0, .ro)], fun _ _ _ => 0⟩,
  ⟨"FWU_RUN_3", 0x1C, 1, 0x4, 1, 1, [(31, 0, .ro)], fun _ _ _ => 0⟩,
  ⟨"FWU_OFFER_0", 0x20, 3, 0x8, 1, 1, [(31, 0, .ro)], fun _ _ _ => 0⟩,
  ⟨"FWU_OFFER_1", 0x24, 3, 0x8, 1, 1, [(31, 31, .ro), (15, 0, .ro)], fun _ _ _ => 0⟩,
  ⟨"FWU_CONFLICT", 0x40, 1, 0x4, 1, 1, [(31, 0, .ro)], fun _ _ _ => 0⟩,
  ⟨"FWU_CORE", 0x50, 1, 0x4, 1, 1, [(31, 31, .rw), (30, 30, .rw)], fun _ _ _ => 0⟩,
  ⟨"FWU_EVT", 0x60, 1, 0x4, 1, 1, [(5, 0, .rw1c)], fun _ _ _ => 0⟩]
/-- The registers of block TOD. -/
def regsTOD : List RegDef := [
  ⟨"TOD_CTRL", 0x0, 1, 0x4, 1, 1, [(31, 31, .rw), (30, 30, .rw), (29, 29, .wo), (28, 28, .wo), (15, 0, .rw)], fun _ _ _ => 0x40000064⟩,
  ⟨"TOD_PHASE", 0x4, 1, 0x4, 1, 1, [(14, 0, .rw)], fun _ _ _ => 0⟩,
  ⟨"TOD_STATUS", 0x8, 1, 0x4, 1, 1, [(31, 31, .rw1c), (30, 30, .ro), (29, 29, .ro), (28, 28, .ro), (27, 27, .ro), (23, 0, .ro)], fun _ _ _ => 0⟩,
  ⟨"TOD_FC_0", 0x10, 1, 0x4, 1, 1, [(31, 0, .ro)], fun _ _ _ => 0⟩,
  ⟨"TOD_FC_1", 0x14, 1, 0x4, 1, 1, [(18, 0, .ro)], fun _ _ _ => 0⟩,
  ⟨"TOD_FC_SET_0", 0x20, 1, 0x4, 1, 1, [(31, 0, .rw)], fun _ _ _ => 0⟩,
  ⟨"TOD_FC_SET_1", 0x24, 1, 0x4, 1, 1, [(31, 31, .wo), (18, 0, .rw)], fun _ _ _ => 0⟩,
  ⟨"TOD_NEXT_SEC_0", 0x30, 1, 0x4, 1, 1, [(31, 0, .rw)], fun _ _ _ => 0⟩,
  ⟨"TOD_NEXT_SEC_1", 0x34, 1, 0x4, 1, 1, [(15, 0, .rw)], fun _ _ _ => 0⟩,
  ⟨"TOD_TICK_NS", 0x40, 1, 0x4, 1, 1, [(29, 0, .ro)], fun _ _ _ => 0⟩,
  ⟨"TOD_TICK_SEC_0", 0x44, 1, 0x4, 1, 1, [(31, 0, .ro)], fun _ _ _ => 0⟩,
  ⟨"TOD_TICK_SEC_1", 0x48, 1, 0x4, 1, 1, [(15, 0, .ro)], fun _ _ _ => 0⟩]
/-- The registers of block PRT. -/
def regsPRT : List RegDef := [
  ⟨"PRT_FENCE_STATUS", 0x40, 1, 0x4, 1, 1, [(31, 31, .ro), (30, 30, .ro), (23, 16, .ro), (15, 0, .ro)], fun _ _ _ => 0⟩,
  ⟨"PRT_FENCE_CTL", 0x44, 1, 0x4, 1, 1, [(31, 31, .wo), (15, 0, .rw)], fun _ _ _ => 0x3E80⟩,
  ⟨"PRT_MODE_CTL", 0x10, 1, 0x4, 1, 1, [(26, 24, .rw), (16, 16, .rw)], fun _ _ _ => 0⟩,
  ⟨"PRT_MODE_STATUS", 0x14, 1, 0x4, 1, 1, [(31, 31, .ro), (30, 30, .ro), (29, 29, .ro), (26, 24, .ro), (22, 20, .ro), (18, 16, .ro), (8, 8, .ro), (7, 0, .rw1c)], fun _ _ _ => 0x440000⟩,
  ⟨"PRT_RING_ADDR_LO", 0x800, 1, 0x4, 1, 1, [(31, 12, .rw)], fun _ _ _ => 0⟩,
  ⟨"PRT_RING_ADDR_HI", 0x804, 1, 0x4, 1, 1, [(31, 0, .rw)], fun _ _ _ => 0⟩,
  ⟨"PRT_RING_CFG", 0x808, 1, 0x4, 1, 1, [(31, 31, .rw), (29, 20, .rw), (15, 11, .rw)], fun _ _ _ => 0⟩,
  ⟨"PRT_RING_PARAM", 0x80C, 1, 0x4, 1, 1, [(31, 31, .rw), (25, 16, .rw), (7, 0, .rw)], fun _ _ _ => 0⟩,
  ⟨"PRT_RING_BUF", 0x810, 1, 0x4, 1, 1, [(15, 0, .rw)], fun _ _ _ => 0⟩,
  ⟨"PRT_RING_OP", 0x814, 1, 0x4, 1, 1, [(31, 31, .wo), (30, 29, .wo)], fun _ _ _ => 0⟩,
  ⟨"PRT_RING_STATUS", 0x818, 1, 0x4, 1, 1, [(31, 31, .ro), (7, 0, .ro)], fun _ _ _ => 0⟩,
  ⟨"PRT_VIEW_STATUS", 0xA604, 1, 0x4, 1, 1, [(31, 31, .rw1c)], fun _ _ _ => 0⟩,
  ⟨"PRT_PROT_CTL", 0x100, 1, 0x4, 1, 1, [(31, 31, .rw), (30, 30, .rw), (29, 29, .rw), (25, 24, .rw), (6, 0, .rw)], fun _ _ _ => 0x22000010⟩,
  ⟨"PRT_PROT_UP", 0x104, 1, 0x4, 1, 1, [(23, 0, .rw)], fun _ _ _ => 0⟩,
  ⟨"PRT_PROT_DN", 0x108, 1, 0x4, 1, 1, [(23, 0, .rw)], fun _ _ _ => 0⟩,
  ⟨"PRT_PROT_STATUS", 0x110, 1, 0x4, 1, 1, [(31, 29, .ro), (28, 28, .ro), (27, 27, .ro), (26, 26, .ro), (25, 24, .ro)], fun _ _ _ => 0⟩,
  ⟨"PRT_PROT_SEQ", 0x114, 1, 0x4, 1, 1, [(31, 0, .ro)], fun _ _ _ => 0⟩,
  ⟨"PRT_PROT_OFF", 0x1000, 256, 0x4, 1, 1, [(31, 31, .ro), (23, 0, .ro)], fun _ _ _ => 0⟩,
  ⟨"PRT_REGION_RESET", 0x48, 1, 0x4, 1, 1, [(31, 31, .wo), (30, 30, .wo)], fun _ _ _ => 0⟩,
  ⟨"PRT_ID", 0x0, 1, 0x4, 1, 1, [(19, 16, .ro), (8, 8, .ro), (2, 0, .ro)], fun n _ _ => (n + 1) * 2 ^ 16 + (n / 4) * 2 ^ 8 + n⟩]
/-- The registers of block CNV. -/
def regsCNV : List RegDef := [
  ⟨"CNV_CTRL", 0x0, 1, 0x4, 1, 1, [(31, 31, .wo), (21, 20, .rw), (9, 9, .rw), (8, 8, .rw), (3, 0, .rw)], fun _ _ _ => 0x30F⟩,
  ⟨"CNV_CAL_CTL", 0x4, 1, 0x4, 1, 1, [(30, 24, .rw), (13, 0, .rw)], fun _ _ _ => 0x8000400⟩,
  ⟨"CNV_CAL_OFFSET", 0x8, 1, 0x4, 1, 1, [(17, 0, .rw)], fun _ _ _ => 0⟩,
  ⟨"CNV_STATUS", 0x10, 1, 0x4, 1, 1, [(31, 31, .ro), (30, 30, .ro), (29, 29, .ro), (28, 28, .ro), (27, 27, .rw1c), (26, 26, .rw1c), (25, 25, .ro), (24, 22, .ro), (15, 8, .ro), (5, 0, .ro)], fun _ _ _ => 0x1000000⟩,
  ⟨"CNV_EVT", 0x14, 1, 0x4, 1, 1, [(7, 7, .rw1c), (6, 6, .rw1c), (5, 5, .rw1c), (4, 4, .rw1c), (3, 3, .rw1c), (2, 2, .rw1c), (1, 1, .rw1c), (0, 0, .rw1c)], fun _ _ _ => 0⟩,
  ⟨"CNV_REF_TRIM", 0x20, 1, 0x4, 1, 1, [(21, 16, .ro), (15, 0, .ro)], fun n _ _ => (Config.fusedSensorId n) * 2 ^ 16⟩,
  ⟨"CNV_TEST_FAIL", 0x30, 1, 0x4, 1, 1, [(31, 31, .wo), (5, 0, .wo)], fun _ _ _ => 0⟩,
  ⟨"CNV_SPARE_MAP", 0x100, 8, 0x4, 1, 1, [(29, 24, .ro), (21, 16, .ro), (13, 8, .ro), (5, 0, .ro)], fun _ i _ => (4 * i + 3) * 2 ^ 24 + (4 * i + 2) * 2 ^ 16 + (4 * i + 1) * 2 ^ 8 + (4 * i + 0)⟩,
  ⟨"CNV_UNIT", 0x200, 36, 0x4, 1, 1, [(31, 28, .ro), (24, 24, .ro), (20, 16, .ro), (11, 8, .ro), (2, 0, .ro)], fun _ _ _ => 0⟩,
  ⟨"CNV_OFFSET", 0x400, 36, 0x10, 1, 1, [(7, 0, .ro)], fun _ _ _ => 0⟩,
  ⟨"CNV_GAIN", 0x404, 36, 0x10, 1, 1, [(11, 0, .ro)], fun _ _ _ => 0x800⟩,
  ⟨"CNV_SKEW", 0x408, 36, 0x10, 1, 1, [(7, 0, .ro)], fun _ _ _ => 0⟩,
  ⟨"CNV_BWC", 0x40C, 36, 0x10, 1, 1, [(5, 0, .ro)], fun _ _ _ => 0⟩]
/-- The registers of block SLU. -/
def regsSLU : List RegDef := [
  ⟨"SLU_CTRL", 0x0, 1, 0x4, 1, 1, [(23, 16, .rw), (1, 1, .rw), (0, 0, .rw)], fun _ _ _ => 0x40001⟩,
  ⟨"SLU_WINDOW", 0x4, 1, 0x4, 1, 1, [(8, 0, .rw)], fun _ _ _ => 0x20⟩,
  ⟨"SLU_DETECT", 0x8, 1, 0x4, 1, 1, [(19, 16, .rw), (15, 8, .rw), (7, 0, .rw)], fun _ _ _ => 0x40C20⟩,
  ⟨"SLU_AGC", 0xC, 1, 0x4, 1, 1, [(21, 16, .rw), (15, 8, .rw), (7, 0, .rw)], fun _ _ _ => 0x100840⟩,
  ⟨"SLU_PULSE", 0x10, 1, 0x4, 1, 1, [(31, 28, .rw), (23, 18, .rw), (17, 12, .rw), (11, 6, .rw), (5, 0, .rw)], fun _ _ _ => 0x41040⟩,
  ⟨"SLU_BPROF", 0x20, 8, 0x4, 1, 1, [(31, 31, .rw), (22, 16, .rw), (6, 0, .rw)], fun _ i _ => (if i = 0 then 1 else 0) * 2 ^ 31 + 8 * 2 ^ 16 + 4⟩,
  ⟨"SLU_G50_BP_CTL", 0x100, 4, 0x20, 1, 1, [(31, 31, .rw), (30, 29, .rw), (27, 16, .rw), (15, 8, .rw), (3, 0, .rw)], fun _ _ _ => 0x400108⟩,
  ⟨"SLU_G50_BP_PRE_LO", 0x104, 4, 0x20, 1, 1, [(31, 0, .rw)], fun _ _ _ => 0⟩,
  ⟨"SLU_G50_BP_PRE_HI", 0x108, 4, 0x20, 1, 1, [(31, 0, .rw)], fun _ _ _ => 0⟩,
  ⟨"SLU_G50_BP_DLM_LO", 0x10C, 4, 0x20, 1, 1, [(31, 0, .rw)], fun _ _ _ => 0⟩,
  ⟨"SLU_G50_BP_DLM_HI", 0x110, 4, 0x20, 1, 1, [(31, 0, .rw)], fun _ _ _ => 0⟩,
  ⟨"SLU_DISC_PRESET", 0x200, 1, 0x4, 1, 1, [(31, 26, .rw), (24, 16, .rw), (14, 8, .rw), (3, 0, .rw)], fun _ _ _ => 0x1808⟩,
  ⟨"SLU_DISC_CTL", 0x204, 1, 0x4, 1, 1, [(24, 16, .rw), (2, 0, .rw)], fun _ _ _ => 0x900000⟩,
  ⟨"SLU_RSSI_CTL", 0x210, 1, 0x4, 1, 1, [(31, 31, .rw), (30, 29, .rw), (28, 25, .rw), (22, 13, .rw), (9, 0, .rw)], fun _ _ _ => 0x10⟩,
  ⟨"SLU_STATUS", 0x300, 1, 0x4, 1, 1, [(31, 31, .ro), (30, 30, .rw1c), (29, 27, .ro), (26, 24, .ro)], fun _ _ _ => 0x3F000000⟩,
  ⟨"SLU_EVT", 0x304, 1, 0x4, 1, 1, [(4, 4, .rw1c), (3, 3, .rw1c), (2, 2, .rw1c), (1, 1, .rw1c), (0, 0, .rw1c)], fun _ _ _ => 0⟩,
  ⟨"SLU_LAST_BURST_0", 0x310, 1, 0x4, 1, 1, [(31, 24, .ro), (23, 20, .ro), (19, 16, .ro), (14, 12, .ro), (9, 0, .ro)], fun _ _ _ => 0⟩,
  ⟨"SLU_LAST_BURST_1", 0x314, 1, 0x4, 1, 1, [(31, 16, .ro), (15, 0, .ro)], fun _ _ _ => 0⟩]
/-- The registers of block EQZ. -/
def regsEQZ : List RegDef := [
  ⟨"EQZ_CTRL", 0x0, 1, 0x4, 1, 1, [(23, 22, .rw), (21, 20, .rw), (18, 16, .rw), (15, 12, .rw), (11, 8, .rw), (3, 3, .rw), (2, 2, .rw), (0, 0, .rw)], fun _ _ _ => 0x24C09⟩,
  ⟨"EQZ_RICH", 0x4, 1, 0x4, 1, 1, [(27, 16, .rw), (10, 0, .rw)], fun _ _ _ => 0x66601EC⟩,
  ⟨"EQZ_SS", 0x8, 1, 0x4, 1, 1, [(23, 16, .rw), (11, 0, .rw)], fun _ _ _ => 0x80080⟩,
  ⟨"EQZ_TARGET", 0xC, 1, 0x4, 1, 1, [(27, 16, .rw), (6, 0, .rw)], fun _ _ _ => 0x600060⟩,
  ⟨"EQZ_TRAIN", 0x10, 1, 0x4, 1, 1, [(11, 8, .rw), (2, 0, .rw)], fun _ _ _ => 0x404⟩,
  ⟨"EQZ_DISC_TAP", 0x100, 16, 0x4, 1, 1, [(27, 16, .rw), (11, 0, .rw)], fun _ i _ => (if i = 7 then 0x400 else 0) * 2 ^ 16⟩,
  ⟨"EQZ_STATUS", 0x200, 1, 0x4, 1, 1, [(30, 30, .rw1c), (8, 0, .ro)], fun _ _ _ => 0⟩,
  ⟨"EQZ_EVT", 0x204, 1, 0x4, 1, 1, [(6, 0, .rw1c)], fun _ _ _ => 0⟩,
  ⟨"EQZ_LAST_WB_0", 0x210, 1, 0x4, 1, 1, [(31, 29, .ro), (28, 28, .ro), (27, 16, .ro), (9, 0, .ro)], fun _ _ _ => 0⟩,
  ⟨"EQZ_LAST_WB_1", 0x214, 1, 0x4, 1, 1, [(31, 16, .ro), (11, 0, .ro)], fun _ _ _ => 0⟩]
/-- The registers of block XTL. -/
def regsXTL : List RegDef := [
  ⟨"XTL_CTRL", 0x0, 1, 0x4, 1, 1, [(31, 31, .rw), (27, 24, .rw), (18, 16, .rw), (10, 8, .rw), (0, 0, .rw)], fun _ _ _ => 0x86050101⟩,
  ⟨"XTL_FAIL_CTL", 0x4, 1, 0x4, 1, 1, [(15, 0, .rw)], fun _ _ _ => 0x10⟩,
  ⟨"XTL_G50_CTL", 0x8, 1, 0x4, 1, 1, [(7, 0, .rw)], fun _ _ _ => 0⟩,
  ⟨"XTL_WATCH", 0xC, 1, 0x4, 1, 1, [(31, 31, .rw), (9, 0, .rw)], fun _ _ _ => 0⟩,
  ⟨"XTL_STATUS", 0x10, 1, 0x4, 1, 1, [(31, 31, .rw1c), (30, 30, .ro), (29, 29, .ro), (28, 28, .ro), (27, 27, .ro), (23, 19, .ro), (18, 16, .ro), (11, 8, .ro), (1, 0, .ro)], fun _ _ _ => 0xA20801⟩,
  ⟨"XTL_EVT", 0x14, 1, 0x4, 1, 1, [(6, 0, .rw1c)], fun _ _ _ => 0⟩,
  ⟨"XTL_SPARE_MAP", 0x20, 1, 0x4, 1, 1, [(21, 0, .ro)], fun _ _ _ => 0xFFFFF⟩,
  ⟨"XTL_LDPC_MAP", 0x24, 1, 0x4, 1, 1, [(8, 0, .ro)], fun _ _ _ => 0xFF⟩,
  ⟨"XTL_TEST_FAIL", 0x30, 1, 0x4, 1, 1, [(31, 31, .wo), (5, 5, .wo), (4, 0, .wo)], fun _ _ _ => 0⟩,
  ⟨"XTL_LAST_FAIL_0", 0x40, 1, 0x4, 1, 1, [(31, 16, .ro), (15, 13, .ro), (9, 0, .ro)], fun _ _ _ => 0⟩,
  ⟨"XTL_LAST_FAIL_1", 0x44, 1, 0x4, 1, 1, [(31, 16, .ro), (11, 0, .ro)], fun _ _ _ => 0⟩,
  ⟨"XTL_UNIT", 0x100, 22, 0x4, 1, 1, [(31, 28, .ro), (11, 8, .ro), (7, 0, .ro)], fun _ i _ => (if i < 20 then 0 else 1) * 2 ^ 28⟩,
  ⟨"XTL_DEC", 0x180, 9, 0x4, 1, 1, [(31, 28, .ro), (11, 8, .ro), (7, 0, .ro)], fun _ i _ => (if i < 8 then 0 else 1) * 2 ^ 28⟩]
/-- The registers of block TXP. -/
def regsTXP : List RegDef := [
  ⟨"TXP_CTRL", 0x0, 1, 0x4, 1, 1, [(31, 31, .wo), (30, 30, .wo), (11, 8, .rw), (0, 0, .rw)], fun _ _ _ => 0x800⟩,
  ⟨"TXP_LEVELS", 0x4, 1, 0x4, 1, 1, [(30, 24, .rw), (22, 16, .rw), (14, 8, .rw), (6, 0, .rw)], fun _ _ _ => 0x3C146C44⟩,
  ⟨"TXP_MASK_CTL", 0x8, 1, 0x4, 1, 1, [(31, 31, .rw), (30, 30, .rw), (19, 16, .rw), (6, 0, .rw)], fun _ _ _ => 0x20008⟩,
  ⟨"TXP_STATUS", 0x10, 1, 0x4, 1, 1, [(31, 31, .rw1c), (30, 30, .ro), (29, 29, .ro), (28, 28, .ro), (27, 27, .ro), (26, 26, .rw1c), (15, 8, .ro), (6, 0, .ro)], fun _ _ _ => 0x1⟩,
  ⟨"TXP_EVT", 0x14, 1, 0x4, 1, 1, [(4, 0, .rw1c)], fun _ _ _ => 0⟩,
  ⟨"TXP_FFE_STG", 0x100, 6, 0x4, 1, 1, [(27, 16, .rw), (11, 0, .rw)], fun _ i _ => (if i = 1 then 0x400 else 0) * 2 ^ 16⟩,
  ⟨"TXP_SHP_STG", 0x140, 16, 0x4, 1, 1, [(27, 16, .rw), (11, 0, .rw)], fun _ i _ => (if i = 7 then 0x400 else 0) * 2 ^ 16⟩,
  ⟨"TXP_FFE_LIVE", 0x200, 6, 0x4, 1, 1, [(27, 16, .ro), (11, 0, .ro)], fun _ i _ => (if i = 1 then 0x400 else 0) * 2 ^ 16⟩,
  ⟨"TXP_SHP_LIVE", 0x240, 16, 0x4, 1, 1, [(27, 16, .ro), (11, 0, .ro)], fun _ i _ => (if i = 7 then 0x400 else 0) * 2 ^ 16⟩,
  ⟨"TXP_MASK_STG", 0x300, 32, 0x4, 1, 1, [(31, 24, .rw), (23, 16, .rw), (15, 8, .rw), (7, 0, .rw)], fun _ _ _ => 0xFFFFFFFF⟩,
  ⟨"TXP_PSD", 0x400, 32, 0x4, 1, 1, [(31, 24, .ro), (23, 16, .ro), (15, 8, .ro), (7, 0, .ro)], fun _ _ _ => 0xFFFFFFFF⟩,
  ⟨"TXP_VIOL", 0x480, 4, 0x4, 1, 1, [(31, 0, .rw1c)], fun _ _ _ => 0⟩]
/-- The registers of block TCF. -/
def regsTCF : List RegDef := [
  ⟨"TCF_CTRL", 0x0, 1, 0x4, 1, 1, [(20, 16, .rw), (15, 8, .rw)], fun _ _ _ => 0x41000⟩,
  ⟨"TCF_SDU", 0x4, 1, 0x4, 1, 1, [(13, 0, .rw)], fun _ _ _ => 0x2600⟩,
  ⟨"TCF_MGMT", 0x8, 1, 0x4, 1, 1, [(15, 0, .rw)], fun _ _ _ => 0x4000⟩,
  ⟨"TCF_G50", 0x10, 1, 0x4, 1, 1, [(3, 0, .rw)], fun _ _ _ => 0⟩,
  ⟨"TCF_G50_PONID", 0x14, 1, 0x4, 1, 1, [(31, 0, .rw)], fun _ _ _ => 0⟩,
  ⟨"TCF_STATUS", 0x20, 1, 0x4, 1, 1, [(31, 31, .rw1c), (30, 30, .ro), (24, 16, .ro), (10, 0, .ro)], fun _ _ _ => 0⟩,
  ⟨"TCF_EVT", 0x24, 1, 0x4, 1, 1, [(7, 0, .rw1c)], fun _ _ _ => 0⟩,
  ⟨"TCF_FC_0", 0x30, 1, 0x4, 1, 1, [(31, 0, .ro)], fun _ _ _ => 0⟩,
  ⟨"TCF_FC_1", 0x34, 1, 0x4, 1, 1, [(18, 0, .ro)], fun _ _ _ => 0⟩,
  ⟨"TCF_LAST_MISDIR", 0x40, 1, 0x4, 1, 1, [(31, 22, .ro), (21, 10, .ro), (9, 0, .ro)], fun _ _ _ => 0⟩]
/-- The registers of block DBA. -/
def regsDBA : List RegDef := [
  ⟨"DBA_CTRL", 0x0, 1, 0x4, 1, 1, [(28, 28, .rw), (27, 24, .rw), (19, 16, .rw), (15, 8, .rw), (7, 0, .rw)], fun _ _ _ => 0x14000810⟩,
  ⟨"DBA_GUAR", 0x4, 1, 0x4, 1, 1, [(17, 0, .rw)], fun _ _ _ => 0x249F0⟩,
  ⟨"DBA_DISC_POS", 0x8, 1, 0x4, 1, 1, [(17, 0, .rw)], fun _ _ _ => 0x2000⟩,
  ⟨"DBA_TRAIN", 0xC, 1, 0x4, 1, 1, [(26, 24, .rw), (17, 0, .rw)], fun _ _ _ => 0x800⟩,
  ⟨"DBA_STATUS", 0x10, 1, 0x4, 1, 1, [(31, 31, .rw1c), (26, 16, .ro), (6, 0, .ro)], fun _ _ _ => 0⟩,
  ⟨"DBA_GUAR_USED", 0x14, 1, 0x4, 1, 1, [(17, 0, .ro)], fun _ _ _ => 0⟩,
  ⟨"DBA_EVT", 0x18, 1, 0x4, 1, 1, [(5, 0, .rw1c)], fun _ _ _ => 0⟩,
  ⟨"DBA_TM_CTRL", 0x100, 1, 0x4, 1, 1, [(30, 28, .rw), (27, 20, .rw), (19, 0, .rw)], fun _ _ _ => 0x61000000⟩,
  ⟨"DBA_TM_LIMIT", 0x104, 1, 0x4, 1, 1, [(26, 0, .rw)], fun _ _ _ => 0x1000000⟩,
  ⟨"DBA_TM_STATUS", 0x108, 1, 0x4, 1, 1, [(31, 31, .ro), (26, 0, .ro)], fun _ _ _ => 0⟩,
  ⟨"DBA_QLIM", 0x200, 16, 0x4, 1, 1, [(31, 16, .rw), (15, 0, .rw)], fun _ _ _ => 0x4000200⟩]
/-- The registers of block ONU. -/
def regsONU : List RegDef := [
  ⟨"ONU_ACT_CTL", 0x40000, 1, 0x4, 1, 1, [(31, 31, .rw), (30, 30, .rw), (29, 29, .rw), (7, 0, .rw)], fun _ _ _ => 0x60000010⟩,
  ⟨"ONU_DISC", 0x40004, 1, 0x4, 1, 1, [(31, 24, .rw), (17, 0, .rw)], fun _ _ _ => 0xFF004000⟩,
  ⟨"ONU_RTD_MIN", 0x40008, 1, 0x4, 1, 1, [(23, 0, .rw)], fun _ _ _ => 0⟩,
  ⟨"ONU_RTD_MAX", 0x4000C, 1, 0x4, 1, 1, [(23, 0, .rw)], fun _ _ _ => 0x3D0900⟩,
  ⟨"ONU_TIMERS", 0x40010, 1, 0x4, 1, 1, [(31, 28, .rw), (27, 24, .rw), (23, 16, .rw), (15, 0, .rw)], fun _ _ _ => 0x34100040⟩,
  ⟨"ONU_TRACK", 0x40014, 1, 0x4, 1, 1, [(31, 24, .rw), (23, 20, .rw), (11, 8, .rw), (7, 0, .rw)], fun _ _ _ => 0x8400308⟩,
  ⟨"ONU_STATUS", 0x40020, 1, 0x4, 1, 1, [(31, 31, .rw1c), (24, 16, .ro), (8, 0, .ro)], fun _ _ _ => 0⟩,
  ⟨"ONU_EVT", 0x40024, 1, 0x4, 1, 1, [(7, 0, .rw1c)], fun _ _ _ => 0⟩,
  ⟨"ONU_IDMAP", 0x41000, 1023, 0x4, 1, 1, [(31, 31, .ro), (7, 0, .ro)], fun _ _ _ => 0⟩]

/-- The registers of a hub block (Table 22-3). -/
def hubBlockRegs : Nat → List RegDef
  | 0 => regsGLB
  | 1 => regsRST
  | 2 => regsTHM
  | 3 => regsHKA
  | 4 => regsBDA
  | 5 => regsEVC
  | 6 => regsCTR
  | 7 => regsMEM
  | 8 => regsLPD
  | 9 => regsHIF
  | 10 => regsULK
  | 11 => regsAQL
  | 12 => regsFWU
  | 13 => regsTOD
  | _ => []

/-- The registers of a port block (Table 22-2); the ONU block reaches from 0x8_0000 on. -/
def portBlockRegs : Nat → List RegDef
  | 0 => regsPRT
  | 1 => regsCNV
  | 2 => regsSLU
  | 3 => regsEQZ
  | 4 => regsXTL
  | 5 => regsTXP
  | 6 => regsTCF
  | 7 => regsDBA
  | 8 => regsONU
  | _ => []

/-- The row a block offset falls in, with its indices. -/
def findReg (off : Nat) : List RegDef → Option (RegDef × Nat × Nat)
  | [] => none
  | d :: t =>
    let r := off - d.off
    let i := r / d.str1
    let j := r % d.str1 / d.str2
    if d.off ≤ off ∧ i < d.cnt1 ∧ j < d.cnt2 ∧ r % d.str1 % d.str2 = 0 then some (d, i, j) else findReg off t

/-- The port window an address lies in, if any (R523). -/
def addrPort (a : Nat) : Option Nat :=
  if 0x1000000 ≤ a ∧ a < 0x1800000 then some ((a - 0x1000000) / 0x100000) else none

/-- The block number of an address inside its window: a hub block for a hub address, a port block for a port one; offsets of
the ONU block are taken from 0x8_0000. -/
def addrBlock (a : Nat) : Nat :=
  match addrPort a with
  | none => a / 0x10000
  | some _ => min ((a % 0x100000) / 0x10000) 8

/-- The offset of an address in its block. -/
def addrOff (a : Nat) : Nat :=
  match addrPort a with
  | none => a % 0x10000
  | some _ => a % 0x100000 - 0x10000 * addrBlock a

/-- The register row of a device address, with its indices. -/
def regAt (a : Nat) : Option (RegDef × Nat × Nat) :=
  match addrPort a with
  | none => findReg (addrOff a) (hubBlockRegs (addrBlock a))
  | some _ => findReg (addrOff a) (portBlockRegs (addrBlock a))

/-- The word a register holds after reset; an address of no register reads 0 (R336). -/
def resetWord (a : Nat) : Word :=
  match regAt a with
  | none => 0
  | some (d, i, j) => BitVec.ofNat 32 (d.reset ((addrPort a).getD 0) i j)

end Sys2Proof.Machine
end

