-- ==== Sys2Proof/Machine/State.lean ====
section
/-!
DEFINITION. The state of the device as plain data, the reasons a step can stop, and the state after reset. Every register field that a register table names lives in `regs` (R525); the structures hold the rest, block by block.
-/
namespace Sys2Proof.Machine

/-- The reasons the device stops with a fault. None is raised by the meanings of this model: the spec gives every command an
effect, and a block has no faulting access (R336, R525: every access completes). -/
inductive Fault where
  /-- Raised by nothing; a stop under this name would be safe. -/
  | noneGiven
  deriving DecidableEq, Repr

/-- The reasons the model answers no meaning. -/
inductive Refusal where
  /-- Raised by `exec`'s arm of a command that has no meaning yet, by its mnemonic; safe, since nothing runs. -/
  | notModelled (mnemonic : String)
  deriving DecidableEq, Repr

/-! ### Event controller (chapter 14) -/

/-- One event source: sense, target queue, mask, the state of Table 14-5, the coalesce count, the software-set mark, the
present input, the info of its latest occurrence, and how often it has entered PENDING (the model's own, for the trigger of a capture, R444). -/
structure Src where
  sense : Nat
  queue : Nat
  masked : Bool
  st : SrcState
  count : Nat
  sw : Bool
  input : Bool
  info : Nat
  times : Nat
  deriving DecidableEq, Repr

/-- A place in a queue's list: a source waiting PENDING, or a retarget marker with the new queue (R380). -/
inductive QEntry where
  | source (id : Nat)
  | marker (id newQueue : Nat)
  deriving DecidableEq, Repr

/-- One event queue (R373): its EQ registers, the write position, the phase, arming, the idle hint, the moderation window and
its list (R375). -/
structure EvQueue where
  addrLo : Nat
  addrHi : Nat
  en : Bool
  vector : Nat
  sizeCode : Nat
  modUsec : Nat
  modCount : Nat
  armed : Bool
  idleHint : Bool
  head : Nat
  wr : Nat
  phase : Bool
  window : Bool
  list : List QEntry
  deriving DecidableEq, Repr

/-- An event queue after reset: size code 4, moderation count 1. -/
def EvQueue.reset : EvQueue :=
  { addrLo := 0, addrHi := 0, en := false, vector := 0, sizeCode := 4, modUsec := 0, modCount := 1, armed := false,
    idleHint := false, head := 0, wr := 0, phase := true, window := false, list := [] }

/-- An event record as written (Table 14-6). -/
structure EventRecord where
  phase : Bool
  marker : Bool
  sw : Bool
  level : Bool
  count : Nat
  sense : Nat
  sourceId : Nat
  info : Nat
  fc : Nat
  tickOffset : Nat
  deriving DecidableEq, Repr

/-- The event controller: sources by source-ID, queues, and the message masks and Pending Bits of each function's MSI-X table,
by function × 64 + vector. -/
structure EvState where
  srcs : Tab Src
  queues : Tab EvQueue
  vecMask : Tab Bool
  fnMask : Tab Bool
  msixPend : Tab Bool
  msixTable : Tab Nat
  deriving DecidableEq, Repr

/-! ### Counters and Harvest (chapter 17) -/

/-- A counter: 56 bits of value and the sticky overflow flag (R427). -/
structure Counter where
  value : Nat
  ovf : Bool
  deriving DecidableEq, Repr

/-- A per-ONU extended word (R437): the four counters, and the lost mark (bit 62), and
whether an update has been lost since the last one that was made. -/
structure ExtWord where
  retired : Counter
  wasted : Counter
  back : Counter
  granted : Counter
  lost : Bool
  restart : Bool
  deriving DecidableEq, Repr

/-- What a Harvest set carries beside its registers: the skips since its last dump. -/
structure HarvestSet where
  skipsSince : Nat
  deriving DecidableEq, Repr

/-- The counter block: counters by counter-ID, extended words by 256 × n + c, the BAR4 shadows by function × 256 + page
(counter-ID and high half), the Harvest sets, and the sets whose dump has been written since the last tick. -/
structure CtrState where
  counters : Tab Counter
  ext : Tab ExtWord
  shadows : Tab (Nat × Nat)
  sets : Tab HarvestSet
  dumped : Nat
  deriving DecidableEq, Repr

/-- The capture engine (R441 to R445): Table 17-8, what CAP_ARM set, and the capture memory by 4 KiB page of
LPDDR6 (a byte that reads as poison is none); the tick at which it was armed, the pages written before its trigger's, whether the burst of
its trigger has occurred, and how often the source of its trigger had then entered PENDING. -/
structure CaptureState where
  st : CapState
  port : Port
  point : Nat
  ring : Bool
  trigger : Nat
  filter : Nat
  trigValue : Nat
  postKib : Nat
  written : Nat
  pages : Tab (List (Option Byte))
  wrapped : Bool
  trigPage : Nat
  endCause : Nat
  trigFc : Nat
  armedAt : Nat
  trigAt : Nat
  hit : Bool
  armedTimes : Nat
  deriving DecidableEq, Repr

/-! ### Host interface (chapter 13) -/

/-- A submission queue (R339, R343): ACTIVE, or ERROR (R355), or being deleted (R341). -/
structure Sq where
  base : Nat
  sizeCode : Nat
  weight : Nat
  bufSize : Nat
  cq : Nat
  tail : Nat
  fetchHead : Nat
  error : Bool
  deleting : Bool
  posted : Nat
  fetched : Nat
  completed : Nat
  deriving DecidableEq, Repr

/-- A completion queue (R344, R346, R351, R359). -/
structure Cq where
  base : Nat
  sizeCode : Nat
  notify : Bool
  head : Nat
  wr : Nat
  phase : Bool
  reserved : Nat
  deriving DecidableEq, Repr

/-- A descriptor that has been fetched and has not completed; its command has started or not (R346, R348). -/
structure InFlight where
  iss : Issue
  opcode : Nat
  ops : List Nat
  fence : Bool
  started : Bool
  deriving DecidableEq, Repr

/-- A completion record as written to a CQ (Table 13-5). -/
structure CompletionRecord where
  sqHead : Nat
  tag : Nat
  phase : Bool
  sq : Nat
  result : Result
  deriving DecidableEq, Repr

/-- The host interface: rings by function × 1024 + local index, descriptors in flight, commands held back under R348 and R349, the SQs that have had
their turn in the present round of the round robin and the descriptors that the last of them has yielded in it (R346), Bus Master Enable and
function-level reset of each function. -/
structure HifState where
  sqs : Tab Sq
  cqs : Tab Cq
  inFlight : List InFlight
  waiting : List Issue
  turn : Nat
  served : List Nat
  bme : Tab Bool
  flr : List Nat
  deriving DecidableEq, Repr

/-! ### Port modes (chapters 1 and 2) -/

/-- Which framer drives a port's transmitter: none, the heartbeat framer or the full framer (R46, R193, R224). -/
inductive Framer where
  | none
  | heartbeat
  | full
  deriving DecidableEq, Repr

/-- The mode pipeline of a port (R51 to R56). `cap` is the mode captured last, the lower of the host's and the thermal request;
`lvl` the one in force before the ceiling; `due` the tick at which a captured one takes effect; the warm-up flags, a TX calibration
that has ended before its heartbeat, and an RX warm-up that has ended before the TX one; `fullAt` the tick at which the full framer resumes during a warm-up
from HOLD (R46); `grantFrom` the first tick whose frame may carry allocations (R54); `holdLeft` the frames of heartbeat left
after a fence (R21); `warmAt` the tick at which its last RX warm-up started (R55). -/
structure ModeState where
  cap : Nat
  lvl : Nat
  due : Option Nat
  rxWarm : Bool
  txWarm : Bool
  rxQueued : Bool
  txStart : Bool
  rxDone : Bool
  fullAt : Option Nat
  grantFrom : Nat
  framer : Framer
  holdLeft : Option Nat
  warmAt : Option Nat
  deriving DecidableEq, Repr

/-! ### Receive converters (chapter 3) -/

/-- What the converter block holds beside its registers: a foreground calibration is running; the units failed by a test write
(no delta entry, good again at the next foreground calibration); by unit × 4 + estimator the consecutive windows in which the estimator has
asked to go beyond its limit (R78), and the qualified samples it has gathered since its last update (R77); the stage corrections of a unit in
1/16 LSB, least significant stage first, and the tick at which they were last followed (R68); the units that have failed in the present frame
(R12); the substitutions that a warm reset has put off, as (failing unit, spare) (R82); and the coefficients, by estimator, that a faulty unit
still on its phase goes on with while its registers read 0 (R81). -/
structure CnvState where
  fgRun : Bool
  testFailed : List Nat
  limitRun : Tab Nat
  samples : Tab Nat
  stage : Tab (List Int)
  stageAt : Nat
  faultsNow : List Nat
  resume : List (Nat × Nat)
  kept : Tab (List Int)
  deriving DecidableEq, Repr

/-! ### The Sluice (chapter 4) -/

/-- One burst channel (Table 4-5): its state, the entry and frame of its burst, whether the burst lies in a quiet window, whether
its preset was missing (R94), the preset applied, the gain in effect and the DSP cycle from which the AGC may measure again,
the lock position and reference metric, the false-lock deadline, the first position not yet evaluated, the window's last
position, false locks and takeovers so far, the arrival offset, the symbol time of its guard start since power-on, the position at which its
window opens and the one at which its payload ends, in a quiet window how many responses it has received before, its number among the port's
received bursts (R115), and in a quiet window the slot after the last response's and the slots of that response that no codeword fills. -/
structure SluChan where
  st : ChanState
  entry : MapEntry
  index : Nat
  tick : Nat
  onu : Nat
  quiet : Bool
  unstaged : Bool
  applied : Preset
  gain : Nat
  agcFrom : Nat
  pos : Nat
  metric : Nat
  deadline : Nat
  evalFrom : Nat
  lastPos : Nat
  falseLocks : Nat
  takeovers : Nat
  delta : Int
  start : Nat
  openAt : Nat
  endAt : Nat
  resp : Nat
  nth : Nat
  respEnd : Nat
  respTail : Nat
  deriving DecidableEq, Repr

/-- A staged preset (R92, R125): the working preset, the anchor's cm and taps, and whether the copy carries poison (R95). -/
structure Staged where
  work : Preset
  anchorCm : Int
  anchorTaps : Vector Int 31
  poisoned : Bool
  deriving DecidableEq, Repr

/-- The Sluice beside its registers: the two channels, the channel used last, the staging buffer in use and the one being
filled (by ONU-ID), the frames towards loss of signal, what the present frame expected and received, and the bursts counted
for mark_mode 1 (R115). -/
structure SluState where
  a : SluChan
  b : SluChan
  last : Chan
  staged : Tab Staged
  stagedNext : Tab Staged
  losRun : Nat
  expected : Bool
  received : Bool
  marks : Nat
  deriving DecidableEq, Repr

/-! ### The Rake (chapter 5) -/

/-- The running copy of one ONU (R135) and what the frame `frame` (by its tick) has gathered: blocks used and frozen, the sum of
abs(e) in 1/128 LSB, the judgement of a training burst, and the gain that a converged training sets. -/
structure Running where
  gen : Nat
  taps : Vector Int 31
  cm : Int
  eqBias : Int
  gain : Option Nat
  touched : Bool
  used : Nat
  frozen : Nat
  errSum : Nat
  judged : Option Bool
  frame : Nat
  deriving DecidableEq, Repr

/-- A received burst of a map entry as the Rake knows it: its entry and the tick of its frame, its ONU-ID, the staged preset it
was received with, the gain in effect at its delimiter match, its reference metric and takeovers (R104), whether a codeword of it failed or it
was misdirected, its arrival offset, the symbol time of its first payload symbol since power-on, whether the burst has been counted for its context (R228: only once its header has been seen to be its owner's,
or lost), whether a training burst has been judged, and of its used blocks the number and the error sums of the last four (R147). -/
structure RakeBurst where
  entry : Nat
  tick : Nat
  onu : Nat
  train : Bool
  staged : Option Staged
  gain : Nat
  metric : Nat
  takeovers : Nat
  failed : Bool
  misdirected : Bool
  offset : Int
  start : Nat
  counted : Bool
  judged : Bool
  used : Nat
  tail : List Nat
  deriving DecidableEq, Repr

/-- What the Rake reported to the ranging function of a training burst (R147): converged, err_mean and blocks used. -/
structure TrainReport where
  converged : Bool
  errMean : Nat
  used : Nat
  deriving DecidableEq, Repr

/-- A block that has reached the Rake (R131): its burst's entry, frame and ONU-ID, its index, and its corrected converter words from 15 before
to 15 after it. -/
structure HeldBlock where
  entry : Nat
  tick : Nat
  onu : Nat
  index : Nat
  words : List Int
  deriving DecidableEq, Repr

/-- The Rake: running copies by ONU-ID, those a newer frame's block has closed before their write-back, the bursts of the present
frame and the one before, the blocks it buffers in arrival order, and the equaliser taps the live set holds (R119). -/
structure RakeState where
  running : Tab Running
  closed : Tab Running
  bursts : List RakeBurst
  buffer : List HeldBlock
  liveTaps : Vector Int 31
  liveCm : Int
  liveBias : Int
  deriving DecidableEq, Repr

/-! ### The Crystalliser (chapter 6) -/

/-- How far an audit mismatch has come (R177): the auditor is under test; it passed and waits to replace the unit; the replaced
unit is under test. -/
inductive AuditStage where
  | none
  | testAuditor (unit auditor : Nat)
  | swapDue (unit auditor : Nat)
  | testUnit (unit : Nat)
  deriving DecidableEq, Repr

/-- A live set of the equaliser (R119). -/
structure LiveSet where
  taps : Vector Int 31
  cm : Int
  bias : Int
  deriving DecidableEq, Repr

/-- A received burst or response as the Crystalliser knows it: its entry, frame and response number, the symbol time of its first payload symbol
since power-on, the gain at its delimiter match, its payload slots and those not yet delivered, the symbols or bits of its codewords, the noise estimate of its next window as a
sum of squared errors and their number (R162), the decision before the next window's overlap (R123), the last two delimiter symbols, and how many
codewords it holds, once known. -/
structure XtlBurst where
  entry : Nat
  tick : Nat
  resp : Nat
  start : Nat
  gain : Nat
  slots : Nat
  left : Nat
  spans : List Nat
  noise : Nat × Nat
  before : Int
  lead : Int × Int
  total : Option Nat
  deriving DecidableEq, Repr

/-- A codeword window in the engines (R166, R173): the codeword, the symbol time of its first symbol, its symbols or bits, the symbol times of
each, its corrected words from 15 before to 15 after the overlaps of 64, and the live sets from the one at its start on, each with the symbol time
from which it applies, and in G50 mode the places of punctured bits in the code. -/
structure CwWindow where
  cw : CwRef
  start : Nat
  n : Nat
  punct : List Nat
  stride : Nat
  words : List Int
  sets : List (Nat × LiveSet)
  deriving DecidableEq, Repr

/-- A codeword in a decoder (R167): the DSP cycle since power-on at which its iterations begin, its soft values, how many of them stand for bits
that were not sent, which of the others were punctured, the offset of its min-sum, the most iterations it may run, and what its decoding comes to. -/
structure DecSlot where
  cw : CwRef
  start : Nat
  soft : List Int
  known : Nat
  punct : List Nat
  offset : Nat
  limit : Nat
  out : DecOut
  deriving DecidableEq, Repr

/-- A window or codeword that an auditor processes too: the in-service unit, the auditor and the DSP cycle until which it is busy (R176). -/
structure AuditJob where
  cw : CwRef
  unit : Nat
  auditor : Nat
  until_ : Nat
  deriving DecidableEq, Repr

/-- The Crystalliser beside its registers: the bursts and windows in hand; which codeword each engine holds and until which DSP cycle; the
codewords of each decoder; the hard symbol decisions of codewords (with those after a burst's last one), and whether they failed, once known; the
codewords that have failed by a unit leaving service or by preemption; audit counts, jobs and stages; the
swaps due at the next boundary; the failed codewords of the present frame; and the port power mode of the frame before. -/
structure XtlState where
  bursts : List XtlBurst
  windows : List CwWindow
  engines : Tab (CwRef × Nat)
  decoders : Tab (List DecSlot)
  decided : List (CwRef × List Int × Option Bool)
  lost : List CwRef
  preempted : List CwRef
  engAudits : Nat
  decAudits : Nat
  engJob : Option AuditJob
  decJob : Option AuditJob
  engStage : AuditStage
  decStage : AuditStage
  swaps : List (UnitClass × Nat)
  failedNow : Nat
  modeWas : Nat
  deriving DecidableEq, Repr

/-! ### The transmitter (chapter 7) -/

/-- The transmit path beside its registers: commits waiting for their tick, the tap sets and templates captured with the tick from
which each is live, the live template words, the violation runs by bin, whether the pin was low at any time in the present frame, the encoder
state of R156, the filters' memory of mapper and FFE outputs (R202), and of the present frame the samples clipped at the DAC and saturated at
the FFE, with the codes of its measurement and the shaped samples (R185, R186, R197). -/
structure TxpState where
  coefReq : Bool
  maskReq : Bool
  coefSets : List (Nat × List Word)
  maskSets : List (Nat × List Word)
  liveMask : Tab Word
  runs : Tab Nat
  lowInFrame : Bool
  encState : Nat
  mapped : List Int
  filtered : List Int
  clipped : Nat
  saturated : Nat
  psd : List Nat
  line : List Int
  deriving DecidableEq, Repr

/-! ### Framing (chapter 8) -/

/-- A PLOAM message queued by the host, with the command that waits for it. -/
structure HostPloam where
  iss : Issue
  msg : Ploam
  deriving DecidableEq, Repr

/-- A management SDU queued by OMCI_SEND. -/
structure OmciSdu where
  iss : Issue
  onu : Nat
  flow : Nat
  data : List Byte
  deriving DecidableEq, Repr

/-- A posted receive buffer. -/
structure RxBuf where
  iss : Issue
  size : Nat
  deriving DecidableEq, Repr

/-- A key load or clear that applies at the next tick (R230, R233); `key` none clears. -/
structure PendKey where
  iss : Issue
  onu : Nat
  kind : Nat
  slot : Nat
  key : Option Nat
  deriving DecidableEq, Repr

/-- A scheduled change of a transmit key slot (R233), with the command that waits for it; a mirrored one has none. -/
structure PendSwitch where
  iss : Option Issue
  onu : Nat
  slot : Nat
  fc : Nat
  deriving DecidableEq, Repr

/-- A downstream message of the control cores: the message, and whether its apply_fc is set from the frame that carries it (R254). -/
structure CorePloam where
  msg : Ploam
  stamp : Bool
  deriving DecidableEq, Repr

/-- The rest of a downstream SDU whose first fragment has gone (R224). -/
structure DsCont where
  flow : Nat
  onu : Nat
  crypt : Bool
  data : List Byte
  mgmt : Option Issue
  deriving DecidableEq, Repr

/-- A partial upstream SDU (R225), with the frames since its last fragment. -/
structure Partial where
  onu : Nat
  flow : Nat
  data : List Byte
  age : Nat
  deriving DecidableEq, Repr

/-- The framing of a port: queues, sequence counts, posted buffers, keys (by onu × 4 + slot, slot 3 the integrity key), those of the frame before (R233), transmit
slots, switches written and captured, pending key loads, the downstream continuation, partial SDUs by Alloc-ID, whether a
delineation hunt runs, and whole SDUs not yet looked up. -/
structure TcfState where
  coreQ : List CorePloam
  hostQ : List HostPloam
  omciQ : List OmciSdu
  seqs : Tab Nat
  rxBufs : List RxBuf
  keys : Tab Nat
  keysWas : Tab Nat
  txSlot : Tab Nat
  newSwitches : List PendSwitch
  switches : List PendSwitch
  pendKeys : List PendKey
  cont : Option DsCont
  partials : Tab Partial
  hunting : Bool
  upQ : List UpSdu
  fencedDrops : Nat
  deriving DecidableEq, Repr

/-! ### Protection of a port (chapter 16) and its resets (chapter 20) -/

/-- The pair side of a port: its role, the frame counter at which it entered ACTIVE, sequence numbers sent, acknowledged and applied; on the
standby side a delta that waits for its tick, whether a delta has failed its frame and whether one has arrived in it, whether a bulk copy has
begun, and the mean arrival offsets in the making (R416); on the active side the mirrored state as last sent, whether a bulk copy is due
before further deltas, and whether it has gone; a requested handover, one captured, as (tick h, cause, command), and the conditions that
ask for one as they stood at the last tick; the end of a realignment (apply_fc), its shifts by slot and the largest; whether the roles are to
be resolved; the tick of the first frame that counts in BLIND; and the slot of the last light grant (R421). -/
structure ProtState where
  role : Role
  activeSince : Nat
  sent : Nat
  acked : Nat
  applied : Nat
  pendDelta : Option (Nat × Mirror)
  deltaBad : Bool
  deltaSeen : Bool
  bulkOpen : Bool
  offN : Tab Nat
  offSum : Tab Int
  mirrored : Mirror
  copying : Bool
  bulkSent : Bool
  switchReq : Option Issue
  handover : Option (Nat × Nat × Option Issue)
  losReq : Bool
  fenceReq : Bool
  realignAt : Option Nat
  shifts : Tab Int
  shift : Int
  resolveDue : Bool
  blindFrom : Nat
  ploamTurn : Nat
  deriving DecidableEq, Repr

/-- A port region's reset (R495): requests waiting for the tick, and the reset in progress with the tick at which a warm one
completes (a cold one completes when the heartbeat restarts). -/
structure ResetState where
  warmReq : Bool
  coldReq : Bool
  active : Option Bool
  doneAt : Nat
  deriving DecidableEq, Repr

/-! ### ONU contexts (chapter 9) and Alloc-ID records (chapter 10) -/


/-- Where a context in RANGING came from (R255): created in this activation, admitted, or re-activating. -/
inductive RangingOrigin where
  | created
  | admitted
  | returning
  deriving DecidableEq, Repr

/-- One ONU context slot: the fields of Table 9-6, both presets, the Alloc-ID records, and what the activation function keeps of
the step in hand: the origin of a ranging, whether Assign_ONU_ID has gone, the tick of the first frame a ranging allocation may
govern, the tick up to which a Train_Request is valid, whether one has been sent, whether a training allocation was issued and a
training burst received, the Rake's report, whether TRAINING came from TRAIN_START (R268), the state an ABSENT context left, the
drift accumulation, the first frame that counts for it (R261), the outstanding Tx_Preset, plo_pend, frames since the last
entry with ploamu, the tick of the last frame with a ranging allocation, a dying gasp waiting for its tick, and the reference metric
and takeovers of its last received burst (R104). Ticks, not frame counters, count the frames of a step. -/
structure OnuCtx where
  st : OnuState
  onuId : Nat
  unans : Nat
  rngTried : Nat
  ncRun : Nat
  requestId : Nat
  eqd : Nat
  serial : Nat
  rtd : Nat
  missRun : Nat
  lastD : Int
  stateFc : Nat
  absentLeft : Nat
  caps : Nat
  work : Preset
  anchor : Preset
  recs : Vector AllocRec 16
  origin : RangingOrigin
  assignSent : Bool
  rngFrom : Nat
  trainFrom : Nat
  trainUntil : Nat
  trainSent : Bool
  trainIssued : Bool
  trainGot : Bool
  report : Option TrainReport
  viaStart : Bool
  left : OnuState
  driftSum : Int
  driftN : Nat
  driftFrom : Nat
  txPresetOut : Bool
  ploPend : Bool
  sincePloam : Nat
  rngLast : Nat
  gasp : Bool
  lastMetric : Nat
  lastTakeovers : Nat
  deriving DecidableEq, Repr

/-- The activation function of a port: contexts by slot, a discovery entry put off by R247, an ALLOC_SET or ALLOC_CLEAR that
waits for its tick (R284), and the count of Train_Requests issued (for request_id). -/
structure OnuPort where
  ctx : Tab OnuCtx
  deferred : Option Nat
  deriving DecidableEq, Repr

/-- An Alloc-ID command that has been executed and waits for the tick (R284). -/
inductive AllocCmd where
  | set (iss : Issue) (onu index : Nat) (pol : AllocPolicy)
  | clear (iss : Issue) (onu index : Nat)
  deriving DecidableEq, Repr

/-- The slots of one frame by class and cause (Table 17-2), except the unallocated ones, which are the rest; `entries` counts the
slots of the map's entries other than the discovery entry. Per context slot: retired, wasted and granted slots, the rest of which are
back-starved (R437). -/
structure SlotAcct where
  retired : Nat
  overhead : Nat
  tail : Nat
  failed : Nat
  training : Nat
  cal : Nat
  disc : Nat
  discBurst : Nat
  missing : Nat
  disabled : Nat
  notRecv : Nat
  entries : Nat
  onu : Tab (Nat × Nat × Nat)
  deriving DecidableEq, Repr

/-- What a computation of the DBA engine has come to, before its commit (R276): the governed frame's tick, its map, the map of the
windows alone, and what the commit records: allocations clipped and dropped, Alloc-IDs owed from now on, poll and PLOAM grants,
context slots given a ranging or a training allocation, a calibration window skipped or used against a discovery entry, which is
then deferred. -/
structure Draft where
  gov : Nat
  map : BwMap
  windows : BwMap
  normal : Bool
  clipped : Nat
  dropped : Nat
  owed : List Nat
  polls : Nat
  ploams : Nat
  ranged : List Nat
  trained : List Nat
  skipped : Bool
  defer : Option Nat
  calDue : Option (Nat × Nat)
  light : Option Nat
  deriving DecidableEq, Repr

/-- The DBA engine: maps by the tick at which their frame begins, Alloc-ID commands in waiting, the computation in progress, the
slot accounts by the same ticks, and whether the frame that runs is one that is not accounted (R435). -/
structure DbaState where
  maps : Tab BwMap
  cmds : List AllocCmd
  draft : Option Draft
  acct : Tab SlotAcct
  unmapped : Bool
  deriving DecidableEq, Repr

/-! ### The traffic manager (chapter 10) -/

/-- A downstream SDU in a queue: its flow and the encrypt flag recorded at admission (R302, R308), the cells that hold it, whether they lie
in the LPDDR6 pool, and its bytes. -/
structure QSdu where
  flow : Nat
  crypt : Bool
  addrs : List Nat
  lp : Bool
  data : List Byte
  deriving DecidableEq, Repr

/-- A queue (Table 10-4), its SDUs oldest first. -/
structure Queue where
  valid : Bool
  cls : Nat
  limProf : Nat
  weight : Nat
  node : Nat
  head : Nat
  tail : Nat
  lp : Bool
  drops : Nat
  enq : Nat
  sdus : List QSdu
  deriving DecidableEq, Repr

/-- A scheduling node: its rates and the two bucket levels, in 1 / 12,607,488 byte, so that the fill per information byte of the line
is a whole number at every rate (R286). -/
structure Node where
  rates : NodeRates
  cirLevel : Int
  pirLevel : Int
  deriving DecidableEq, Repr

/-- An upstream SDU on the list of an uplink port: its flow, its bytes as tagged, its cells and their pool. -/
structure EgressSdu where
  flow : Nat
  addrs : List Nat
  lp : Bool
  data : List Byte
  deriving DecidableEq, Repr

/-- One round of a DWRR: the member whose turn it is, and the members that have had their turn in the round (R286). -/
structure Round where
  turn : Option Nat
  done : List Nat
  deriving DecidableEq, Repr

/-- The traffic manager: queues by Queue-ID; nodes by port × 8192 + node × 16 + (8 + class, or 0 for the ONU level); the DWRR deficits of queues,
by Queue-ID, and of nodes, by 2^18 more than their number; the rounds, of a port's nodes by 2^20 more than the port, of a node's classes and of a
class's queues by the node; port buckets; and the upstream SDUs waiting on an uplink port, oldest first. -/
structure TmState where
  queues : Tab Queue
  nodes : Tab Node
  deficits : Tab Int
  rounds : Tab Round
  portBucket : Tab Int
  egress : Tab (List EgressSdu)
  deriving DecidableEq, Repr

/-! ### A port region -/

/-- Everything a port region holds beside its registers. -/
structure PortState where
  mode : ModeState
  cnv : CnvState
  slu : SluState
  rake : RakeState
  xtl : XtlState
  txp : TxpState
  tcf : TcfState
  onu : OnuPort
  dba : DbaState
  prot : ProtState
  resetReq : ResetState
  deriving DecidableEq, Repr

/-! ### Flow contexts (chapter 11) -/

/-- A flow context (Table 11-1). -/
structure FlowCtx where
  valid : Bool
  enabled : Bool
  poisoned : Bool
  mgmt : Bool
  encrypt : Bool
  dir : Nat
  port : Nat
  onu : Nat
  uplink : Nat
  queue : Nat
  cir : Nat
  pir : Nat
  cbs : Nat
  pbs : Nat
  tc : Nat
  tp : Nat
  stamp : Nat
  keyValid : Bool
  rsvKey : Nat
  outer : Nat
  inner : Nat
  usOp : Nat
  usTpid : Nat
  usPcp : Nat
  dsOp : Nat
  rsvTag : Nat
  usVid : Nat
  sdus : Nat
  bytes : Nat
  redDrops : Nat
  poisonDrops : Nat
  cookie : Nat
  deriving DecidableEq, Repr

/-- A context that reads zero (R297). -/
def FlowCtx.blank : FlowCtx :=
  { valid := false, enabled := false, poisoned := false, mgmt := false, encrypt := false, dir := 0, port := 0, onu := 0,
    uplink := 0, queue := 0, cir := 0, pir := 0, cbs := 0, pbs := 0, tc := 0, tp := 0, stamp := 0, keyValid := false, rsvKey := 0,
    outer := 0, inner := 0, usOp := 0, usTpid := 0, usPcp := 0, dsOp := 0, rsvTag := 0, usVid := 0, sdus := 0, bytes := 0, redDrops := 0,
    poisonDrops := 0, cookie := 0 }

/-- The context engine: contexts by Flow-ID, and the classification entries that the commands have written, by key (outer × 4,096 +
inner); an entry not listed reads what the last MEM_FILL over it left (R301, R303). -/
structure FlowState where
  flows : Tab FlowCtx
  classes : Tab Nat
  deriving DecidableEq, Repr

def FlowState.reset : FlowState := { flows := [], classes := [] }

/-! ### What the device sends -/

/-- One thing the device has sent: a completion record, an event record, an interrupt message, a read of a descriptor and a write of a record by its bus address, a Harvest dump, a downstream frame,
the information bytes of a codeword as TC delineation takes them, a burst-window marker, a pulse to a port's optics, bytes copied to a command's buffer, an Aqand message, an AVSBus write, a pulse of PPS_OUT. -/
inductive Output where
  | completion (fn cq pos : Nat) (rec : CompletionRecord)
  | eventRecord (q pos : Nat) (rec : EventRecord)
  | interrupt (fn vector addr data : Nat)
  | busRead (fn addr bytes : Nat)
  | busWrite (fn addr : Nat) (bytes : List Byte)
  | buffer (fn tag : Nat) (bytes : List Byte)
  | dump (set addr : Nat) (bytes : List Byte)
  | readData (fn addr : Nat) (value : Nat)
  | marker (port : Port) (onu fc : Nat)
  | frame (port : Port) (fc : Nat) (full : Bool) (header : List Byte) (map : List MapEntry) (ploams : List SentPloam) (encaps : List EncapTx)
  | codeword (port : Port) (cw : CwRef) (failed : Bool) (info : List Byte)
  | uplink (index : Nat) (bytes : List Byte)
  | aqand (side : Nat) (msg : AqMessage)
  | aqLine (side : Nat) (blocks : List (Nat × Nat × Nat))
  | avs (rail mv : Nat)
  | pps (sec : Nat)
  | pulse (port : Port) (rstStart rstWidth lvlStart lvlWidth delay : Nat)
  deriving DecidableEq, Repr

/-- What waits for a function's Bus Master Enable before it goes to host memory (R355): data, or a command's completion. -/
inductive Late where
  | send (fn : Nat) (o : Output)
  | done (iss : Issue) (r : Result)
  deriving DecidableEq, Repr


/-! ### Memory and data integrity (chapter 12) -/

/-- The errors of one 32-byte word, as masks of its bytes: bytes with a single-bit error, bytes with an uncorrectable error, and
poison bytes; in LPDDR6 also the check bytes in error, of the four of its code, and whether it reads back from the wrong address (R315). -/
structure WordErr where
  single : Nat
  double : Nat
  poison : Nat
  check : Nat := 0
  misread : Bool := false
  deriving DecidableEq, Repr

/-- How far a tracker entry has come (R325 to R327): counting, its demand scrub ordered, in its watch, a watched word has corrected
again. -/
inductive TrkStage where
  | counting
  | ordered
  | watching
  | hard
  deriving DecidableEq, Repr

/-- A repeat tracker entry: its count, its stage and the bytes that were corrected. -/
structure TrkEntry where
  count : Nat
  stage : TrkStage
  bytes : Nat
  deriving DecidableEq, Repr

/-- A Bittern record (Table 12-5). -/
structure BtnRecord where
  kind : Nat
  space : Nat
  region : Nat
  consumer : Nat
  seq : Nat
  address : Nat
  fc : Nat
  deriving DecidableEq, Repr

/-- A scrub pass in progress (R330, R331). -/
structure Scrub where
  iss : Issue
  start : Nat
  words : Nat
  truncated : Bool
  deriving DecidableEq, Repr

/-- A MEM_FILL: where, how many words, and the 8-byte pattern (R321). -/
structure Fill where
  start : Nat
  words : Nat
  pattern : Nat
  deriving DecidableEq, Repr

/-- The memories: word errors, tracker entries and untracked words by space × 2^31 + word number; remap words by bank × 8 + entry
(the word index); the Bittern and its sequence; scrub passes by space; fills in progress and, newest first, done; the touched
blocks; the ranges of LPDDR6 words that have been written, newest first; the Sump by word number; the capture size in effect and
one that applies at the next tick. -/
structure MemState where
  errs : Tab WordErr
  trk : Tab TrkEntry
  untracked : List Nat
  remap : Tab Nat
  bittern : List BtnRecord
  btnSeq : Nat
  scrubs : Tab Scrub
  filling : List (Issue × Fill)
  fills : List Fill
  touched : Tab Bool
  written : List (Nat × Nat)
  sump : Tab Nat
  capSize : Nat
  capSizeDue : Option Nat
  deriving DecidableEq, Repr

/-- The memories after power-on. -/
def MemState.reset : MemState :=
  { errs := [], trk := [], untracked := [], remap := [], bittern := [], btnSeq := 0, scrubs := [], filling := [], fills := [],
    touched := [], written := [], sump := [], capSize := 4, capSizeDue := none }

/-! ### Repair, resets and the die-to-die links (chapters 1 and 20) -/

/-- The record store's repair-map delta, every substitution in force since power-on (fused, from the delta, or made since), whether RESET_N
is held low, whether the reference runs, the die-to-die lanes that are down (link ×
256 + direction × 128 + lane), the link directions that retrain (link × 2 + direction), and the links in their low-power state. `ledgers` holds the terms of failing ledgers until their
owner's reset (R39), by 16 × port + fence cause, 128 + hub region, 136 + line die; then the substitution counters of the queue engines and of the
die-to-die lanes (R10), which the spec names and gives no counter-ID. -/
structure RstState where
  delta : List DeltaEntry
  inForce : List DeltaEntry
  resetLow : Bool
  refValid : Bool
  laneDown : List Nat
  retrain : List Nat
  linkSleep : List Nat
  ledgers : Tab (List Nat)
  qeSubsts : Nat
  laneSubsts : Nat
  deriving DecidableEq, Repr

/-- The record store empty, the reference running. -/
def RstState.reset : RstState :=
  { delta := [], inForce := [], resetLow := false, refValid := true, laneDown := [], retrain := [], linkSleep := [],
    ledgers := [], qeSubsts := 0, laneSubsts := 0 }

/-! ### Housekeeping and thermal (chapters 18 and 19) -/

/-- The triggers of a conversion: the data register's codes for the first three, and a request of the thermal subsystem. -/
inductive ConvKind where
  | tick
  | software
  | marker
  | thermal
  deriving DecidableEq, Repr

/-- A conversion with the settings it started with: its entry and input, whether its result goes to the data register, and for a
marker its port, ONU-ID and frame counter. -/
structure Conv where
  kind : ConvKind
  entry : Nat
  input : Nat
  toData : Bool
  port : Port
  onu : Nat
  fc : Nat
  deriving DecidableEq, Repr

/-- A housekeeping converter: the conversion in progress, the one aborted by a marker, the markers and the thermal inputs that wait, what
is left of the tick run and of the software run, whether the low half of the data register has been read over the sideband, and the
sideband shadow, as (register address, high half) (R456). -/
structure HkaConv where
  cur : Option Conv
  aborted : Option Conv
  markers : List Conv
  thermal : List Nat
  tickRun : List Nat
  swRun : List Nat
  lowRead : Bool
  shadow : Option (Nat × Nat)
  deriving DecidableEq, Repr

/-- An idle converter. -/
def HkaConv.reset : HkaConv :=
  { cur := none, aborted := none, markers := [], thermal := [], tickRun := [], swRun := [], lowRead := false, shadow := none }

/-- The converters, and for each bias output the time in µs since power-on up to which its slew has been followed. -/
structure HkState where
  convs : Tab HkaConv
  bdaAt : Tab Nat
  deriving DecidableEq, Repr

def HkState.reset : HkState := { convs := [], bdaAt := [] }

/-- A reset of the package that waits or runs (Table 20-3). -/
inductive ResetKind where
  | powerOn
  | resetN
  | soft
  deriving DecidableEq, Repr

/-- The thermal block beside its registers: consecutive deviations by sensor (R467), measurements away from every threshold (R470), the
shutdown state of Table 19-2, the ports lowered in order, the ticks at which the grace ends, the next step is due and HOLDING ends, the
tick of the next compatibility step, a reset held by R479, the rails whose AVS sends nothing until avs_en is written 0 and 1, the target each
rail had before its latest write, consecutive negative margins by monitor, and whether THERM_ALERT_N is low. -/
structure ThmState where
  devRun : Tab Nat
  farRun : Nat
  shutdown : Bool
  lowered : List Port
  graceEnd : Nat
  stepDue : Option Nat
  holdEnd : Nat
  compatDue : Nat
  heldReset : Option ResetKind
  avsOff : List Nat
  avsPrev : Tab Nat
  negRun : Tab Nat
  alertLow : Bool
  deriving DecidableEq, Repr

def ThmState.reset : ThmState :=
  { devRun := [], farRun := 0, shutdown := false, lowered := [], graceEnd := 0, stepDue := none, holdEnd := 0, compatDue := 0,
    heldReset := none, avsOff := [], avsPrev := [], negRun := [], alertLow := false }

/-! ### The pair and the chain (chapter 16) -/

/-- The pair key, keys that load at the next tick with their commands, the partner's last heartbeat, the ticks in a row that have had one and
the tick after the last such, the best time-of-day message of the present frame with its Aqand port, and the frames without one. -/
structure PairState where
  key : Option Nat
  keyDue : List (Issue × Nat)
  partner : Option Heartbeat
  hbRun : Nat
  hbTick : Nat
  todBest : Option (Nat × TodMsg)
  todMiss : Nat
  deriving DecidableEq, Repr

def PairState.reset : PairState :=
  { key := none, keyDue := [], partner := none, hbRun := 0, hbTick := 0, todBest := none, todMiss := 0 }

/-! ### Uplink and Aqand lanes (chapter 15) -/

/-- What the line side of an Aqand port has sent (R389, R390): the last 58 scrambled bits of each logical lane, the newest lowest; the logical lane of
the next stream block; the blocks each lane has sent since its last marker; and the count of the next marker. -/
structure AqLine where
  scr : List Nat
  lane : Nat
  pos : Nat
  count : Nat
  deriving DecidableEq, Repr

def AqLine.reset : AqLine := { scr := [0, 0, 0, 0], lane := 0, pos := 0, count := 0 }

/-- A PRBS checker (R401): the last bits of its register, the newest lowest; how many it has taken to seed itself; the error-free bits in a row while
it is not locked; and, while it is, the bits and the errors of the present 1,024. -/
structure PrbsCheck where
  reg : Nat
  seen : Nat
  run : Nat
  win : Nat
  errs : Nat
  deriving DecidableEq, Repr

def PrbsCheck.reset : PrbsCheck := { reg := 0, seen := 0, run := 0, win := 0, errs := 0 }

/-- The Aqand lanes (by lane number 16 to 23) that are in follow, and those whose signal has returned and that have not locked yet (R399); the Aqand
ports whose receiver sets rx_ready (R391), and their line sides; by lane the PRBS generators' registers, the checkers, the symbols of an injection
still to be altered and the injections ignored (R401, R402). -/
structure LaneState where
  follow : List Nat
  waking : List Nat
  rxReady : List Nat
  line : Tab AqLine
  gen : Tab Nat
  chk : Tab PrbsCheck
  inj : Tab Nat
  ignored : Tab Nat
  deriving DecidableEq, Repr

def LaneState.reset : LaneState :=
  { follow := [], waking := [], rxReady := [], line := [], gen := [], chk := [], inj := [], ignored := [] }

/-! ### Firmware (chapter 21) -/

/-- A flash slot: its record, as (seq, state, bundle digest), and the image. -/
structure FlashSlot where
  mark : Option (Nat × SlotMark × Nat)
  image : List Byte
  deriving DecidableEq, Repr

/-- A settings copy (R518): the header's format version, frozen flag and generation, whether the copy is valid, whether it is
write-protected, and its record. -/
structure Settings where
  valid : Bool
  fmt : Nat
  frozen : Bool
  gen : Nat
  protect : Bool
  record : List Byte
  deriving DecidableEq, Repr

/-- An erased copy. -/
def Settings.erased : Settings := { valid := false, fmt := 0, frozen := false, gen := 0, protect := false, record := [] }

/-- A bundle that runs or is held to be restored: the slot it came from and its seq, and its bytes. -/
structure RunBundle where
  slot : Nat
  seq : Nat
  image : List Byte
  deriving DecidableEq, Repr

/-- An offer record beside its registers: digest and total_len. -/
structure Offer where
  digest : Nat
  totalLen : Nat
  deriving DecidableEq, Repr

/-- Forwarding on an Aqand port (R509): the bundle, whether it comes from the session's staging area, and whether a REPLY code 0 has come. -/
structure Forward where
  image : List Byte
  ofSession : Bool
  accepted : Bool
  deriving DecidableEq, Repr

/-- A pair that is to be restored at the next tick (R512, R516): the reason, the bundle, the command that waits, and whether a trial slot is
rejected with it. -/
structure Restore where
  reason : Nat
  bundle : Option RunBundle
  iss : Option Issue
  reject : Bool
  deriving DecidableEq, Repr

/-- The firmware loader beside the FWU block: the flash slots, the settings copies, the staged bytes, the session's version,
sec_version, total_len and digest as it opened, a session that waits only for its forwarding to end, with its reason; the command waiting for verification or activation, an activation to
be captured, the tick k and the frame counter of one captured; the pair that runs and the one held to be restored, and a restoration due at
the next tick; the tick from which the running pair has run; offers by source, forwarding by Aqand port; whether a session has completed;
the measurements of HCF and LMC, the measurement register M, and the activations since power-on. -/
structure FwState where
  slots : Vector FlashSlot 2
  copies : Vector Settings 2
  staged : List Byte
  version : Nat
  secVersion : Nat
  totalLen : Nat
  digest : Nat
  ending : Option Nat
  cmd : Option Issue
  actReq : Bool
  actAt : Option Nat
  actFc : Nat
  run : Option RunBundle
  prev : Option RunBundle
  restore : Option Restore
  runFrom : Nat
  offers : Tab Offer
  fwd : Tab Forward
  completed : Bool
  hcf : Nat
  lmc : Nat
  measure : Nat
  activations : Nat
  deriving DecidableEq, Repr

/-- The loader with a blank flash. -/
def FwState.reset : FwState :=
  { slots := Vector.replicate 2 { mark := none, image := [] }, copies := Vector.replicate 2 .erased, staged := [], version := 0, secVersion := 0, totalLen := 0,
    digest := 0, ending := none, cmd := none, actReq := false, actAt := none, actFc := 0, run := none, prev := none, restore := none,
    runFrom := 0, offers := [], fwd := [], completed := false, hcf := 0, lmc := 0, measure := 0, activations := 0 }

/-! ### The register access path and the time of day (chapter 22) -/

/-- The access path: latched sets by reader × 2^26 + address of the first register, the sideband's read shadow for registers other than
HKA's, and its held low half, both as (register address, half) (R526, R530). -/
structure PathState where
  latches : Tab (List Word)
  shadow : Option (Nat × Nat)
  held : Option (Nat × Nat)
  deriving DecidableEq, Repr

def PathState.reset : PathState := { latches := [], shadow := none, held := none }

/-- The time of day (R532 to R536): that of the last tick in ns; an align, an arming and a counter set that wait; and whether the next 1PPS
edge is the first since enable or loss. -/
structure TodState where
  time : Int
  alignDue : Bool
  armed : Bool
  fcDue : Bool
  first : Bool
  deriving DecidableEq, Repr

def TodState.reset : TodState := { time := 0, alignDue := false, armed := false, fcDue := false, first := true }

/-! ### The state -/

/-- The sources whose own tables list level-high sensing; every other source lists rising (Tables 14-3, 3-6 to 10-7, 11-6, 12-8,
15-7, 16-5, 18-3, 19-5, 21-10, 22-6, R359). -/
def levelListed (id : Nat) : Bool :=
  if id < 0x1000 then id % 512 == 0 || id % 512 == 0x30
  else id == 0x1000 || id == 0x1004 || id == 0x1010 || id == 0x1040 || id == 0x1041 || id == 0x1042 || id == 0x1044
    || id == 0x1049 || (0x1068 ≤ id && id < 0x1070) || (0x1080 ≤ id && id < 0x1092) || id == 0x10C8 || id == 0x10CA
    || id == 0x10CB || id == 0x10D5 || (0x1400 ≤ id && id < 0x1800)

/-- A source after reset: masked, IDLE, its listed sensing, queue 0 (R361, R368). -/
def Src.reset (id : Nat) : Src :=
  { sense := if levelListed id then 0 else 2, queue := 0, masked := true, st := .idle, count := 0, sw := false,
    input := false, info := 0, times := 0 }

/-- A counter at zero. -/
def Counter.zero : Counter := { value := 0, ovf := false }

/-- A queue that has never been bound. -/
def Queue.blank : Queue :=
  { valid := false, cls := 0, limProf := 0, weight := 0, node := 0, head := 0, tail := 0, lp := false, drops := 0, enq := 0, sdus := [] }

/-- A node that has not been set. -/
def Node.blank : Node := { rates := .reset, cirLevel := 0, pirLevel := 0 }

/-- The state of the device. `pending` is the queue of commands waiting, first in, first out. `regs` holds every register word by
device address; `snap0` to `snap3` are the register words as captured at the last tick and at the three before it, since
most blocks' writes are captured at a tick k and govern the frame that begins at tick k + 2 (R118 and its like). `tick` counts
the ticks since power-on. `out` is what the device has sent, newest first. `freeCtr` numbers the values the spec leaves open. -/
structure State where
  pending : List Instr
  regs : Tab Word
  snap0 : Tab Word
  snap1 : Tab Word
  snap2 : Tab Word
  snap3 : Tab Word
  tick : Nat
  fc : Nat
  ports : Vector PortState 8
  ev : EvState
  ctr : CtrState
  capture : CaptureState
  hif : HifState
  tm : TmState
  flow : FlowState
  mem : MemState
  rst : RstState
  hk : HkState
  thm : ThmState
  pair : PairState
  lanes : LaneState
  fw : FwState
  path : PathState
  tod : TodState
  out : List Output
  late : List Late
  freeCtr : Nat
  deriving DecidableEq, Repr

/-- A burst channel after reset: HALTED (SLU_STATUS resets to 7). -/
def SluChan.reset : SluChan :=
  { st := .halted, entry := .blank, index := 0, tick := 0, onu := 0, quiet := false, unstaged := false, applied := .blank,
    gain := 0, agcFrom := 0, pos := 0, metric := 0, deadline := 0, evalFrom := 0, lastPos := 0, falseLocks := 0,
    takeovers := 0, delta := 0, start := 0, openAt := 0, endAt := 0, resp := 0, nth := 0, respEnd := 0, respTail := 0 }

/-- A FREE context slot. -/
def OnuCtx.free : OnuCtx :=
  { st := .free, onuId := 0, unans := 0, rngTried := 0, ncRun := 0, requestId := 0, eqd := 0, serial := 0, rtd := 0,
    missRun := 0, lastD := 0, stateFc := 0, absentLeft := 0, caps := 0, work := .blank, anchor := .blank,
    recs := Vector.replicate 16 .blank, origin := .created, assignSent := false, rngFrom := 0, trainFrom := 0, trainUntil := 0,
    trainSent := false, trainIssued := false, trainGot := false, report := none, viaStart := false, left := .operation,
    driftSum := 0, driftN := 0, driftFrom := 0, txPresetOut := false, ploPend := false, sincePloam := 0, rngLast := 0,
    gasp := false, lastMetric := 0, lastTakeovers := 0 }

/-- The slot account of a frame in which nothing has happened yet. -/
def SlotAcct.empty : SlotAcct :=
  { retired := 0, overhead := 0, tail := 0, failed := 0, training := 0, cal := 0, disc := 0, discBurst := 0, missing := 0,
    disabled := 0, notRecv := 0, entries := 0, onu := [] }

/-- A port's mode after reset: OFF, nothing captured. -/
def ModeState.reset : ModeState :=
  { cap := 0, lvl := 0, due := none, rxWarm := false, txWarm := false, rxQueued := false, txStart := false, rxDone := false, fullAt := none, grantFrom := 0,
    framer := .none, holdLeft := none, warmAt := none }

def CnvState.reset : CnvState :=
  { fgRun := false, testFailed := [], limitRun := [], samples := [], stage := [], stageAt := 0, faultsNow := [], resume := [], kept := [] }

def SluState.reset : SluState :=
  { a := .reset, b := .reset, last := .b, staged := [], stagedNext := [], losRun := 0, expected := false, received := false,
    marks := 0 }

def RakeState.reset : RakeState := { running := [], closed := [], bursts := [], buffer := [], liveTaps := identityTaps, liveCm := 0, liveBias := 0 }

def XtlState.reset : XtlState :=
  { bursts := [], windows := [], engines := [], decoders := [], decided := [], lost := [], preempted := [], engAudits := 0, decAudits := 0,
    engJob := none, decJob := none, engStage := .none, decStage := .none, swaps := [], failedNow := 0, modeWas := 0 }

def TxpState.reset : TxpState :=
  { coefReq := false, maskReq := false, coefSets := [], maskSets := [], liveMask := [], runs := [], lowInFrame := true,
    encState := 0, mapped := [], filtered := [], clipped := 0, saturated := 0, psd := [], line := [] }

def TcfState.reset : TcfState :=
  { coreQ := [], hostQ := [], omciQ := [], seqs := [], rxBufs := [], keys := [], keysWas := [], txSlot := [], newSwitches := [], switches := [],
    pendKeys := [],
    cont := none, partials := [], hunting := false, upQ := [], fencedDrops := 0 }

def ProtState.reset : ProtState :=
  { role := .unprot, activeSince := 0, sent := 0, acked := 0, applied := 0, pendDelta := none, deltaBad := false,
    deltaSeen := false, bulkOpen := false, offN := [], offSum := [], mirrored := .empty, copying := true, bulkSent := false,
    switchReq := none, handover := none, losReq := false, fenceReq := false, realignAt := none, shifts := [], shift := 0,
    resolveDue := false, blindFrom := 0, ploamTurn := 0 }

/-- A port region after reset. -/
def PortState.reset : PortState :=
  { mode := .reset, cnv := .reset, slu := .reset, rake := .reset, xtl := .reset, txp := .reset, tcf := .reset,
    onu := { ctx := [], deferred := none }, dba := { maps := [], cmds := [], draft := none, acct := [], unmapped := false },
    prot := .reset, resetReq := { warmReq := false, coldReq := false, active := none, doneAt := 0 } }

/-- Every function is a bus master at reset no more than PCI Express lets it be: Bus Master Enable is 0. -/
def HifState.reset : HifState := { sqs := [], cqs := [], inFlight := [], waiting := [], turn := 0, served := [], bme := [], flr := [] }

def EvState.reset : EvState := { srcs := [], queues := [], vecMask := [], fnMask := [], msixPend := [], msixTable := [] }

def CtrState.reset : CtrState := { counters := [], ext := [], shadows := [], sets := [], dumped := 0 }

def CaptureState.reset : CaptureState :=
  { st := .idle, port := 0, point := 0, ring := false, trigger := 0, filter := 0, trigValue := 0, postKib := 0, written := 0, pages := [],
    wrapped := false, trigPage := 0, endCause := 0, trigFc := 0, armedAt := 0, trigAt := 0, hit := false, armedTimes := 0 }

def TmState.reset : TmState := { queues := [], nodes := [], deficits := [], rounds := [], portBucket := [], egress := [] }

/-- The device right after power-on reset: start-up has reached no step but the first (stage 0), DEVICE_READY is low, every port is OFF,
every register at its reset value, no memory written, the record store and the flash blank, and no command waiting. -/
def State.reset : State :=
  { pending := [], regs := [], snap0 := [], snap1 := [], snap2 := [], snap3 := [], tick := 0, fc := 0, ports := Vector.replicate 8 .reset,
    ev := .reset, ctr := .reset, capture := .reset, hif := .reset, tm := .reset, flow := .reset, mem := .reset, rst := .reset, hk := .reset,
    thm := .reset, pair := .reset, lanes := .reset, fw := .reset, path := .reset, tod := .reset, out := [], late := [], freeCtr := 0 }

end Sys2Proof.Machine
end

