-- ==== Sys2Proof/Machine/Ops.lean ====
section
/-!
DEFINITION. The named operations over registers, ports, counters, events and completions that every meaning is built from.
-/
namespace Sys2Proof.Machine

/-! ### Rounding -/

/-- A quotient rounded to the nearest whole number at a place of `Config.tieUp`; the spec leaves the direction of a tie open. -/
def roundDiv (site : Nat) (x : Int) (n : Nat) : Int :=
  let q := x / (n : Int)
  let r := x % (n : Int)
  if 2 * r < n then q else if (n : Int) < 2 * r then q + 1 else if Config.tieUp site x then q + 1 else q

/-! ### Register words and fields -/

/-- The field of a word. -/
def wordField (w : Word) (hi lo : Nat) : Nat := bitsOf w.toNat hi lo

/-- The word with one field replaced (by the value's low bits). -/
def wordSetField (w : Word) (hi lo v : Nat) : Word :=
  BitVec.ofNat 32 (w.toNat - wordField w hi lo * 2 ^ lo + v % 2 ^ (hi + 1 - lo) * 2 ^ lo)

/-- The register word at a device address. -/
def State.reg (s : State) (a : Nat) : Word := Tab.get resetWord s.regs a

/-- The state with the register word at `a` replaced. -/
def State.setReg (s : State) (a : Nat) (w : Word) : State := { s with regs := Tab.set resetWord s.regs a w }

/-- A register field as it stands. -/
def State.fld (s : State) (f : RegField) : Nat := wordField (s.reg f.addr) f.hi f.lo

/-- A one-bit register field as it stands. -/
def State.flag (s : State) (f : RegField) : Bool := s.fld f == 1

/-- A register field as captured at the last tick. -/
def State.cap (s : State) (f : RegField) : Nat := wordField (Tab.get resetWord s.snap0 f.addr) f.hi f.lo

/-- A register field as it governs the present frame: captured two ticks before the frame began (R118 and its like). -/
def State.gov (s : State) (f : RegField) : Nat := wordField (Tab.get resetWord s.snap2 f.addr) f.hi f.lo

/-- A register field as it governs a frame: the present one, or the one before, whose late codewords and blocks are still worked on (R150, R182). -/
def State.govOf (s : State) (tick : Nat) (f : RegField) : Nat :=
  if tick < s.tick then wordField (Tab.get resetWord s.snap3 f.addr) f.hi f.lo else s.gov f

/-- The state with one register field set to a value. -/
def State.setFld (s : State) (f : RegField) (v : Nat) : State :=
  s.setReg f.addr (wordSetField (s.reg f.addr) f.hi f.lo v)

/-- The state with a one-bit register field set or cleared. -/
def State.setFlag (s : State) (f : RegField) (b : Bool) : State := s.setFld f (bit01 b)

/-- The state with a register field raised by `n`, held at its largest value. -/
def State.addFldSat (s : State) (f : RegField) (n : Nat) : State :=
  s.setFld f (min (s.fld f + n) (2 ^ (f.hi + 1 - f.lo) - 1))

/-! ### Ports -/

/-- A port's state. -/
def State.port (s : State) (p : Port) : PortState := s.ports[p]

/-- The state with one port's state replaced. -/
def State.setPort (s : State) (p : Port) (x : PortState) : State := { s with ports := s.ports.set p x }

/-- The state with one port's state changed. -/
def State.modPort (s : State) (p : Port) (f : PortState → PortState) : State := s.setPort p (f (s.port p))

def State.modMode (s : State) (p : Port) (f : ModeState → ModeState) : State :=
  s.modPort p (fun x => { x with mode := f x.mode })
def State.modCnv (s : State) (p : Port) (f : CnvState → CnvState) : State :=
  s.modPort p (fun x => { x with cnv := f x.cnv })
def State.modSlu (s : State) (p : Port) (f : SluState → SluState) : State :=
  s.modPort p (fun x => { x with slu := f x.slu })
def State.modRake (s : State) (p : Port) (f : RakeState → RakeState) : State :=
  s.modPort p (fun x => { x with rake := f x.rake })
def State.modXtl (s : State) (p : Port) (f : XtlState → XtlState) : State :=
  s.modPort p (fun x => { x with xtl := f x.xtl })
def State.modTxp (s : State) (p : Port) (f : TxpState → TxpState) : State :=
  s.modPort p (fun x => { x with txp := f x.txp })
def State.modTcf (s : State) (p : Port) (f : TcfState → TcfState) : State :=
  s.modPort p (fun x => { x with tcf := f x.tcf })
def State.modOnu (s : State) (p : Port) (f : OnuPort → OnuPort) : State :=
  s.modPort p (fun x => { x with onu := f x.onu })
def State.modDba (s : State) (p : Port) (f : DbaState → DbaState) : State :=
  s.modPort p (fun x => { x with dba := f x.dba })
def State.modProt (s : State) (p : Port) (f : ProtState → ProtState) : State :=
  s.modPort p (fun x => { x with prot := f x.prot })
def State.modReset (s : State) (p : Port) (f : ResetState → ResetState) : State :=
  s.modPort p (fun x => { x with resetReq := f x.resetReq })

/-- Fold an update over the eight ports in ascending order. -/
def State.forPorts (s : State) (f : State → Port → State) : State := (List.finRange 8).foldl f s

/-- TCF_FC of a port reads the frame counter. -/
def State.showFc (s : State) (p : Port) : State :=
  (s.setFld (R.TCF_FC_0.fc_lo p) (s.fc % 2 ^ 32)).setFld (R.TCF_FC_1.fc_hi p) (s.fc / 2 ^ 32)

/-! ### Little-endian numbers -/

/-- The little-endian bytes of a number, and back. -/
def leBytes (n x : Nat) : List Byte := (List.range n).map (fun i => BitVec.ofNat 8 (x / 256 ^ i))
def leNat (b : List Byte) : Nat := b.foldr (fun x acc => x.toNat + 256 * acc) 0

/-! ### Outputs and open values -/

/-- The state with one more thing sent. -/
def State.emit (s : State) (o : Output) : State := { s with out := o :: s.out }

/-- The next number that the spec leaves open, and the state in which it has been taken. -/
def State.openNat (s : State) : Nat := Config.freeNat s.freeCtr
def State.nextOpen (s : State) : State := { s with freeCtr := s.freeCtr + 1 }

/-! ### Counters (R427, R428) -/

/-- A counter's value and flag. -/
def State.counter (s : State) (id : Nat) : Counter := Tab.get (fun _ => Counter.zero) s.ctr.counters id

/-- A counter after an increment: modulo 2^56, with the sticky overflow flag (R428). -/
def Counter.add (c : Counter) (n : Nat) : Counter :=
  { value := (c.value + n) % 2 ^ 56, ovf := c.ovf || decide (2 ^ 56 ≤ c.value + n) }

/-- The state with a counter set. -/
def State.setCounter (s : State) (id : Nat) (c : Counter) : State :=
  { s with ctr := { s.ctr with counters := Tab.set (fun _ => Counter.zero) s.ctr.counters id c } }

/-- The state with `n` added to a counter. -/
def State.bumpBy (s : State) (id n : Nat) : State := s.setCounter id ((s.counter id).add n)

/-- The state with 1 added to a counter. -/
def State.bump (s : State) (id : Nat) : State := s.bumpBy id 1

/-- The counter-ID of a port counter: n × 1,024 + offset. -/
def portCtr (p : Port) (off : Nat) : Nat := p.val * 1024 + off

/-- The state with 1 added to a port counter. -/
def State.bumpP (s : State) (p : Port) (off : Nat) : State := s.bump (portCtr p off)

/-! ### Event sources (R361 to R368, R551) -/

/-- A source. -/
def State.src (s : State) (id : Nat) : Src := Tab.get Src.reset s.ev.srcs id

/-- The state with a source replaced. -/
def State.setSrc (s : State) (id : Nat) (x : Src) : State :=
  { s with ev := { s.ev with srcs := Tab.set Src.reset s.ev.srcs id x } }

/-- An event queue. -/
def State.evQueue (s : State) (q : Nat) : EvQueue := Tab.get (fun _ => EvQueue.reset) s.ev.queues q

/-- The state with an event queue replaced. -/
def State.setEvQueue (s : State) (q : Nat) (x : EvQueue) : State :=
  { s with ev := { s.ev with queues := Tab.set (fun _ => EvQueue.reset) s.ev.queues q x } }

/-- The source joins the tail of its target queue's list (R375). -/
def State.joinList (s : State) (id : Nat) : State :=
  let q := (s.src id).queue
  let x := s.evQueue q
  s.setEvQueue q { x with list := x.list ++ [.source id] }

/-- The source leaves its target queue's list. -/
def State.leaveList (s : State) (id : Nat) : State :=
  let q := (s.src id).queue
  let x := s.evQueue q
  s.setEvQueue q { x with list := x.list.filter (fun e => e ≠ .source id) }

/-- An armed capture sees the burst of its trigger (R444). -/
def State.captureSees (s : State) (seen : CaptureState → Bool) : State :=
  if s.capture.st = .armed && seen s.capture then { s with capture := { s.capture with hit := true } } else s

/-- A trigger of kind `k` at a port: the burst of an ONU of the filter. -/
def CaptureState.waitsFor (c : CaptureState) (k : Nat) (p : Port) (onu : Nat) : Bool :=
  c.trigger == k && c.port == p && (c.filter == 1023 || c.filter == onu)

/-- A source enters PENDING: it joins its queue's list when unmasked (R368). -/
def State.makePending (s : State) (id : Nat) (sw : Bool) : State :=
  let x := s.src id
  let s := s.setSrc id { x with st := .pending, count := 0, sw := sw, times := x.times + 1 }
  if x.masked then s else s.joinList id

/-- A PENDING source returns to IDLE without a record and leaves its list. -/
def State.dropPending (s : State) (id : Nat) : State :=
  let x := s.src id
  let s := if x.masked then s else s.leaveList id
  s.setSrc id { x with st := .idle, count := 0, sw := false }

/-- Whether a sense is a level sense (Table 14-1). -/
def levelSense (sense : Nat) : Bool := sense == 0 || sense == 1

/-- Whether an input asserts a level source of this sense. -/
def assertedAt (sense : Nat) (input : Bool) : Bool := if sense == 0 then input else !input

/-- Whether an input change is an edge that this sense takes (Table 14-1). -/
def edgeAt (sense : Nat) (old new : Bool) : Bool :=
  match sense with
  | 2 => !old && new
  | 3 => old && !new
  | 4 => old != new
  | _ => false

/-- A level source meets its present input: asserted and IDLE it enters PENDING; de-asserted it is withdrawn from PENDING unless
software set it, and leaves IN_SERVICE (Table 14-5). -/
def State.settleLevel (s : State) (id : Nat) : State :=
  let x := s.src id
  if assertedAt x.sense x.input then
    if x.st = .idle then s.makePending id false else s
  else
    match x.st with
    | .idle => s
    | .pending => if x.sw then s else (s.dropPending id).bump 0x2305
    | .inService => s.setSrc id { x with st := .idle }

/-- An input of a source takes a value with its info (R361, R367). The info of the latest occurrence is the one a record carries
(DEDUCED: the spec does not say which of several coalesced occurrences it is). -/
def State.sourceInput (s : State) (id : Nat) (new : Bool) (info : Nat) : State :=
  let x := s.src id
  let s := s.setSrc id { x with input := new, info := info }
  if levelSense x.sense then s.settleLevel id
  else if edgeAt x.sense x.input new then
    match x.st with
    | .pending => (s.setSrc id { x with input := new, info := info, count := min (x.count + 1) 255 }).bump 0x2304
    | _ => s.makePending id false
  else s

/-- The mirror bit of a source in its block's EVT register, as (register address, bit) (R363 and the EVT tables). -/
def mirrorBit (id : Nat) : Option (Nat × Nat) :=
  if h : id < 0x1000 then
    let p : Port := ⟨id / 512, by omega⟩
    let o := id % 512
    if 0x20 ≤ o ∧ o < 0x28 then some (R.CNV_EVT.addr p, o - 0x20)
    else if 0x30 ≤ o ∧ o < 0x35 then some (R.SLU_EVT.addr p, o - 0x30)
    else if 0x40 ≤ o ∧ o < 0x47 then some (R.EQZ_EVT.addr p, o - 0x40)
    else if 0x50 ≤ o ∧ o < 0x57 then some (R.XTL_EVT.addr p, o - 0x50)
    else if 0x60 ≤ o ∧ o < 0x65 then some (R.TXP_EVT.addr p, o - 0x60)
    else if 0x70 ≤ o ∧ o < 0x78 then some (R.TCF_EVT.addr p, o - 0x70)
    else if 0x80 ≤ o ∧ o < 0x88 then some (R.ONU_EVT.addr p, o - 0x80)
    else if 0x90 ≤ o ∧ o < 0x96 then some (R.DBA_EVT.addr p, o - 0x90)
    else none
  else if id < 0x1013 then some (R.GLB_EVT.addr, id - 0x1000)
  else if 0x1040 ≤ id ∧ id < 0x104B then some (R.THM_EVT.addr, id - 0x1040)
  else if 0x1060 ≤ id ∧ id < 0x1066 then some (R.HKA_EVT.addr, id - 0x1060)
  else if 0x1068 ≤ id ∧ id < 0x1070 then some (R.BDA_EVT.addr, id - 0x1068)
  else if 0x10D0 ≤ id ∧ id < 0x10D6 then some (R.FWU_EVT.addr, id - 0x10D0)
  else if 0x1200 ≤ id ∧ id < 0x1206 then some (R.MEM_EVT.addr, id - 0x1200)
  else none

/-- The block records an occurrence in its mirror bit, whatever the source's state (R363). -/
def State.recordMirror (s : State) (id : Nat) : State :=
  match mirrorBit id with
  | none => s
  | some (a, i) => s.setReg a (wordSetField (s.reg a) i i 1)

/-- A level input of a block: the mirror bit records its rise. -/
def State.level (s : State) (id : Nat) (b : Bool) (info : Nat) : State :=
  let s := if b && !(s.src id).input then s.recordMirror id else s
  s.sourceInput id b info

/-- An occurrence of a block: a pulse of one cycle on its input (R551), and the mirror bit. -/
def State.pulse (s : State) (id info : Nat) : State :=
  ((s.recordMirror id).sourceInput id true info).sourceInput id false info

/-- The source-ID of a port source: n × 512 + offset. -/
def portSrc (p : Port) (off : Nat) : Nat := p.val * 512 + off

/-- An occurrence on a port source. -/
def State.pulseP (s : State) (p : Port) (off info : Nat) : State := s.pulse (portSrc p off) info

/-! ### Rings and completions (R346, R351, R359) -/

/-- The key of a function's local ring. -/
def ringKey (fn i : Nat) : Nat := fn * 1024 + i

def State.sq? (s : State) (fn i : Nat) : Option Sq := Tab.find s.hif.sqs (ringKey fn i)
def State.cq? (s : State) (fn i : Nat) : Option Cq := Tab.find s.hif.cqs (ringKey fn i)
def State.setSq (s : State) (fn i : Nat) (q : Sq) : State :=
  { s with hif := { s.hif with sqs := Tab.put s.hif.sqs (ringKey fn i) q } }
def State.setCq (s : State) (fn i : Nat) (q : Cq) : State :=
  { s with hif := { s.hif with cqs := Tab.put s.hif.cqs (ringKey fn i) q } }

/-- The level source of CQ `i` of a function: 0x1400 plus its global index (R338, R359). -/
def cqSource (s : State) (fn i : Nat) : Nat := 0x1400 + s.fld (R.HIF_CQ_BASE.cq_base fn) + i

/-- The CQ source follows its condition: an unconsumed completion while notify is enabled (R359). -/
def State.notifyCq (s : State) (fn i : Nat) : State :=
  match s.cq? fn i with
  | none => s
  | some q => s.level (cqSource s fn i) (q.notify && decide (q.wr ≠ q.head)) 0

/-- The counters of function `f` (Table 13-7). -/
def hifCtr (f i : Nat) : Nat := 0x2200 + 16 * f + i

/-- The codes of Table 13-4. -/
def statusCode : Status → Nat
  | .success => 0x00
  | .refused => 0x01
  | .badOpcode => 0x02
  | .malformed => 0x03
  | .lengthZero => 0x04
  | .lengthOver => 0x05
  | .lengthBad => 0x06
  | .dmaError => 0x07
  | .aborted => 0x08

/-- The 16 bytes of a completion record (Table 13-5). -/
def CompletionRecord.bytes (x : CompletionRecord) : List Byte :=
  leBytes 4 (x.sqHead % 2 ^ 16 * 2 ^ 16 + x.tag % 2 ^ 16)
    ++ leBytes 4 (bit01 x.phase * 2 ^ 31 + bit01 x.result.poison * 2 ^ 30 + x.sq % 2 ^ 10 * 2 ^ 20 + x.result.reason % 2 ^ 8 * 2 ^ 8
      + statusCode x.result.status)
    ++ leBytes 4 x.result.result0 ++ leBytes 4 x.result.result1

/-- The bus addresses of a ring's entries (R340). -/
def Sq.entryAddr (q : Sq) (i : Nat) : Nat := q.base + 32 * i
def Cq.entryAddr (q : Cq) (i : Nat) : Nat := q.base + 16 * i

/-- The function may read and write host memory (R355). -/
def masters (s : State) (fn : Nat) : Bool := Tab.get (fun _ => false) s.hif.bme fn

/-- Data of a function go to host memory, once its Bus Master Enable is 1. -/
def State.toHost (s : State) (fn : Nat) (o : Output) : State :=
  if masters s fn then s.emit o else { s with late := s.late ++ [.send fn o] }

/-- A completion record is written: it goes to the CQ of its SQ when that ring exists, the reservation of a fetched descriptor is
given back and its completion counted for the ledger (R347), the function's counters count it, and the CQ source follows (R346, R351, R359). Of
descriptors in flight under one tag the earliest is the one that completes. -/
def State.writeCompletion (s : State) (iss : Issue) (r : Result) : State :=
  let known := s.hif.inFlight.any (fun f => f.iss = iss)
  let s := s.bump (hifCtr iss.fn (if r.status = .success then 1 else 2))
  let s := { s with hif := { s.hif with inFlight := s.hif.inFlight.eraseP (fun f => f.iss = iss) } }
  match s.sq? iss.fn iss.sq with
  | none => s.emit (.completion iss.fn 0 0 { sqHead := 0, tag := iss.tag, phase := true, sq := iss.sq, result := r })
  | some q =>
    match s.cq? iss.fn q.cq with
    | none => s.emit (.completion iss.fn 0 0 { sqHead := q.fetchHead, tag := iss.tag, phase := true, sq := iss.sq, result := r })
    | some c =>
      let rec' : CompletionRecord := { sqHead := q.fetchHead, tag := iss.tag, phase := c.phase, sq := iss.sq, result := r }
      let s := (s.emit (.completion iss.fn q.cq c.wr rec')).emit (.busWrite iss.fn (c.entryAddr c.wr) rec'.bytes)
      let last := c.wr + 1 == 2 ^ c.sizeCode
      let c' := { c with wr := if last then 0 else c.wr + 1, phase := if last then !c.phase else c.phase,
                         reserved := c.reserved - bit01 known }
      let s := s.setCq iss.fn q.cq c'
      let s := s.setSq iss.fn iss.sq { q with completed := (q.completed + bit01 known) % 2 ^ 32 }
      s.notifyCq iss.fn q.cq

/-- A command completes: its record is written, or waits while the function may not write to host memory (R355). -/
def State.complete (s : State) (iss : Issue) (r : Result) : State :=
  if masters s iss.fn then s.writeCompletion iss r else { s with late := s.late ++ [.done iss r] }

/-- A command is refused with a reason code: REFUSED, and nothing else (Table 13-4). -/
def State.refuse (s : State) (iss : Issue) (reason : Nat) : State := s.complete iss (.refuse reason)

/-- A command succeeds with two results. -/
def State.succeed (s : State) (iss : Issue) (r0 r1 : Nat) : State := s.complete iss (.ok r0 r1)

/-- A command issued on PF0 that names a port under region reset, or under a function-level reset of its function, waits (R349). -/
def waitsForReset (s : State) (iss : Issue) (p : Port) : Bool :=
  iss.fn == 0 && ((s.port p).resetReq.active.isSome || s.hif.flr.contains (p.val + 1))

/-- The operand word has a bit set outside the bits Table 13-6 names. -/
def reservedBits (x mask : Nat) : Bool := x % 2 ^ 32 ||| mask ≠ mask

/-- Operand words with the bits their command names: one of them has a reserved bit set (R352). -/
def anyReserved (ops : List (Nat × Nat)) : Bool := ops.any (fun e => reservedBits e.1 e.2)

/-- A fetched command is marked as started, or as not started. -/
def State.markStarted (s : State) (iss : Issue) (b : Bool) : State :=
  { s with hif := { s.hif with
    waiting := s.hif.waiting.filter (· ≠ iss) ++ if b then [] else [iss],
    inFlight := s.hif.inFlight.map (fun f => if f.iss = iss then { f with started := b } else f) } }

/-- A command is held back: its row is presented again when what it waits for has ended (DESIGN CHOICE). -/
def State.holdBack (s : State) (iss : Issue) : State := s.markStarted iss false

/-- A command starts. -/
def State.startCmd (s : State) (iss : Issue) : State := s.markStarted iss true

/-- A fetched command must wait for descriptors before it in its SQ: for their start, or where it is fenced for their completion (R348). -/
def waitsInRing (s : State) (iss : Issue) : Bool :=
  let before := (s.hif.inFlight.takeWhile (fun f => f.iss ≠ iss)).filter (fun f => f.iss.fn == iss.fn && f.iss.sq == iss.sq)
  match s.hif.inFlight.find? (fun f => f.iss = iss) with
  | some f => before.any (fun b => f.fence || !b.started)
  | none => false

/-- A command on a port starts, or is held back under R348 or R349. Non-zero reserved operand bits refuse it with 0x10 (R352) before its own
checks. -/
def State.hostCmdAt (s : State) (iss : Issue) (p : Port) (ops : List (Nat × Nat)) (k : State → State) : State :=
  if waitsForReset s iss p || waitsInRing s iss then s.holdBack iss
  else
    let s := s.startCmd iss
    if anyReserved ops || iss.unnamed then s.refuse iss 0x10 else k s

/-- A command on the port its descriptor or its function names. -/
def State.hostCmd (s : State) (iss : Issue) (ops : List (Nat × Nat)) (k : State → State) : State :=
  s.hostCmdAt iss iss.port ops k

/-- A command that waits without limit starts; where its SQ is being deleted it completes ABORTED instead (R341). -/
def State.awaits (s : State) (iss : Issue) (k : State → State) : State :=
  match s.sq? iss.fn iss.sq with
  | some q => if q.deleting then (s.complete iss { Result.ok 0 0 with status := .aborted }).bump (hifCtr iss.fn 6) else k s
  | none => k s

/-- A command of the hub accepted on PF0 only, in its turn (R348): refused with 0x20 elsewhere, and with 0x10 for reserved operand bits (R352). -/
def State.pf0Cmd (s : State) (iss : Issue) (ops : List (Nat × Nat)) (k : State → State) : State :=
  if waitsInRing s iss then s.holdBack iss
  else
    let s := s.startCmd iss
    if iss.fn ≠ 0 then s.refuse iss 0x20 else if anyReserved ops || iss.unnamed then s.refuse iss 0x10 else k s

/-! ### Port modes -/

/-- The effective port power mode (0 OFF, 1 HOLD, 2 COOL, 3 BALANCED, 4 FULL). -/
def State.mode (s : State) (p : Port) : Nat := s.fld (R.PRT_MODE_STATUS.eff_power_mode p)

/-- The port runs a receive mode. -/
def State.receiving (s : State) (p : Port) : Bool := decide (2 ≤ s.mode p)

/-- The port runs the G50 line mode. -/
def State.g50 (s : State) (p : Port) : Bool := s.flag (R.PRT_MODE_STATUS.eff_line_mode p)

/-- The port region is fenced. -/
def State.fenced (s : State) (p : Port) : Bool := s.flag (R.PRT_FENCE_STATUS.fenced p)

/-- The port region is under region reset. -/
def State.inReset (s : State) (p : Port) : Bool := (s.port p).resetReq.active.isSome

/-! ### The transmitter's disable causes (Table 7-1) -/

/-- A disable cause comes or goes: dis_cause, tx_enabled, and on the way down the event and the episode counter. -/
def State.setDisCause (s : State) (p : Port) (bit : Nat) (b : Bool) : State :=
  let old := s.fld (R.TXP_STATUS.dis_cause p)
  let new := withBit old bit b
  let s := (s.setFld (R.TXP_STATUS.dis_cause p) new).setFlag (R.TXP_STATUS.tx_enabled p) (new == 0)
  if old == 0 && new != 0 then
    ((s.modTxp p (fun x => { x with lowInFrame := true })).pulseP p 0x62 0).bumpP p 0x87
  else s

/-- TX_DISABLE_N is high. -/
def State.txEnabled (s : State) (p : Port) : Bool := s.fld (R.TXP_STATUS.dis_cause p) == 0

/-- The framer of a port changes: PRT_FENCE_STATUS.heartbeat_on and TXP_STATUS.heartbeat follow. -/
def State.setFramer (s : State) (p : Port) (f : Framer) : State :=
  ((s.modMode p (fun m => { m with framer := f })).setFlag (R.PRT_FENCE_STATUS.heartbeat_on p) (f = .heartbeat)).setFlag
    (R.TXP_STATUS.heartbeat p) (f = .heartbeat)

/-! ### Hub regions and the repair-map delta -/

/-- The hub data region (bit 0), memory region (bit 1) or control region (bit 2) is fenced. -/
def State.hubFenced (s : State) (bit : Nat) : Bool := bitAt (s.fld R.GLB_STATUS.hub_fenced) bit

/-- A hub region is fenced: GLB_STATUS and the level source 0x1000 (Table 14-3). A fence of the memory region truncates every scrub
pass (R331). -/
def State.fenceHub (s : State) (bit : Nat) : State :=
  let f := withBit (s.fld R.GLB_STATUS.hub_fenced) bit true
  let s := (s.setFld R.GLB_STATUS.hub_fenced f).level 0x1000 true f
  if bit = 1 then
    { s with mem := { s.mem with scrubs := s.mem.scrubs.map (fun e => (e.1, { e.2 with truncated := true })) } }
  else s

/-- A substitution is in force, and is appended to the repair-map delta; a full delta takes nothing and raises its event (R10, R13, R498). -/
def State.appendDelta (s : State) (cls scope unit : Nat) : State :=
  let e : DeltaEntry := ⟨cls, scope, unit⟩
  let s := { s with rst := { s.rst with inForce := s.rst.inForce.filter (· ≠ e) ++ [e] } }
  if s.rst.delta.length < 512 then
    ({ s with rst := { s.rst with delta := s.rst.delta ++ [e] } } : State).setFld R.RST_DELTA_STATUS.entries (s.rst.delta.length + 1)
  else s.pulse 0x1003 0

/-- The control cores run: hub control firmware is up, its region is not fenced, and no activation window is open (R33, R511). -/
def coresRun (s : State) : Bool := s.flag R.RST_STATUS.fw_running && !s.hubFenced 2 && s.fw.actAt.isNone

/-! ### Register accesses (R492, R524, R525, R528) -/

/-- DEVICE_READY is asserted (R489). -/
def State.ready (s : State) : Bool := s.flag R.RST_STATUS.device_ready

/-- The line die of an address in the CNV to DBA blocks of a port window. -/
def lineDieOf (a : Nat) : Option Nat :=
  match addrPort a with
  | some p => if 1 ≤ addrBlock a ∧ addrBlock a ≤ 7 then some (p / 4) else none
  | none => none

/-- The register is reachable in this phase of start-up (Table 20-2, R479): by the sideband (source 15) from step 3; by a function after
DEVICE_READY, before it GLB, RST and THM for reading, and in a package fence these for writing too, and the soft reset that R479 names. -/
def available (s : State) (src a : Nat) (write : Bool) : Bool :=
  let fence := s.flag R.GLB_STATUS.pkg_fenced
  if src = 15 then decide (2 ≤ s.fld R.RST_STATUS.stage) || fence
  else s.flag R.RST_STATUS.device_ready || ((addrPort a).isNone && decide (addrBlock a ≤ 2) && (!write || fence))
    || (fence && a == R.HIF_SOFT_RESET.addr)

/-- The line die is lost or in line-die reset. -/
def dieGone (s : State) (die : Nat) : Bool :=
  bitAt (s.fld R.GLB_STATUS.die_lost) die || bitAt (s.fld R.RST_HUB_STATUS.die_in_reset) die

/-- Why an access is not acted on: 0 it is, 2 not yet available, 3 lost die. -/
def accessKind (s : State) (src a : Nat) (write : Bool) : Nat :=
  if !available s src a write then 2
  else
    match lineDieOf a with
    | some d => if dieGone s d then 3 else 0
    | none => 0

/-- An access that is not acted on is counted, and recorded when none is (R525, R528, R529). -/
def State.recordAccess (s : State) (src a kind : Nat) (write : Bool) : State :=
  let s := s.bump (0x2C00 + (if kind = 1 then 0 else if kind = 4 then 2 else 1))
  if s.flag R.GLB_REG_ERR_1.seen then s
  else
    let s := ((s.setFld R.GLB_REG_ERR_0.address a).setFlag R.GLB_REG_ERR_1.seen true).setFld R.GLB_REG_ERR_1.source src
    ((s.setFlag R.GLB_REG_ERR_1.write write).setFld R.GLB_REG_ERR_1.kind kind).pulse 0x1012 (kind + src * 2 ^ 8)

/-- The function sees the address: PF0 all, PF(n+1) the window of port n, the sideband what R529 gives it. -/
def sees (src a : Nat) : Bool := src == 0 || src == 15 || addrPort a == some (src - 1)

/-- A write reaches a register of the address, or is ignored (R336), or ignored and counted (R492, R528). -/
def State.accessed (s : State) (src a : Nat) (k : State → State) : State :=
  if !sees src a then s
  else if accessKind s src a true = 0 then k s
  else s.recordAccess src a (accessKind s src a true) true

end Sys2Proof.Machine
end

