-- ==== Sys2Proof/Machine/Mem.lean ====
section
/-!
DEFINITION. Memory and data integrity (chapter 12): reads and writes of a word as the check codes see them, poison, the repeat
trackers, the Bittern, the Sump and touch map, and the memory commands. A word is named by its space (0 hub SRAM, 1 and 2 the
line dies, 3 LPDDR6) and its number, the byte address divided by 32.
-/
namespace Sys2Proof.Machine

/-- The number under which a word's errors and tracker entry stand. -/
def wordKey (space w : Nat) : Nat := space * 2 ^ 31 + w

/-- All 32 bytes of a word. -/
def allBytes : Nat := 2 ^ 32 - 1

/-- The words of a space (Table 12-1). -/
def spaceWords (space : Nat) : Nat :=
  match space with
  | 0 => 2 ^ 21
  | 1 => 2 ^ 18
  | 2 => 2 ^ 18
  | 3 => 2 ^ 30
  | _ => 0

/-- The region that owns a word (R312, R325): 0 to 7 a port, 8 hub data, 9 hub memory, 10 hub control. -/
def wordRegion (space w : Nat) : Nat :=
  match space with
  | 0 => let b := w / 8192; if b < 224 then 8 else if b < 232 then b - 224 else if b < 252 then 10 else 9
  | 1 => w / 65536
  | 2 => 4 + w / 65536
  | _ => 9

/-- A word without errors. -/
def WordErr.none : WordErr := { single := 0, double := 0, poison := 0 }

/-- The errors of a word. -/
def State.wordErr (s : State) (space w : Nat) : WordErr := Tab.get (fun _ => WordErr.none) s.mem.errs (wordKey space w)

/-- The state with the errors of a word replaced. -/
def State.setWordErr (s : State) (space w : Nat) (e : WordErr) : State :=
  { s with mem := { s.mem with errs := Tab.set (fun _ => WordErr.none) s.mem.errs (wordKey space w) e } }

/-- Bits of `x` that are not in `y`. -/
def bitsMinus (x y : Nat) : Nat := x &&& (y ^^^ allBytes)

/-! ### The Bittern (R332) -/

/-- MEM_BTN_STATUS follows the log. -/
def State.btnStatus (s : State) : State :=
  (s.setFld R.MEM_BTN_STATUS.records s.mem.bittern.length).setFlag R.MEM_BTN_STATUS.full (decide (256 ≤ s.mem.bittern.length))

/-- A record is written, or lost while the log is full. -/
def State.bittern (s : State) (kind space w consumer : Nat) : State :=
  let s := { s with mem := { s.mem with btnSeq := (s.mem.btnSeq + 1) % 2 ^ 16 } }
  if s.mem.bittern.length < 256 then
    let rec' : BtnRecord :=
      { kind := kind, space := space, region := wordRegion space w, consumer := consumer,
        seq := (s.mem.btnSeq + 2 ^ 16 - 1) % 2 ^ 16, address := 32 * w, fc := s.fc % 2 ^ 32 }
    let s := ({ s with mem := { s.mem with bittern := s.mem.bittern ++ [rec'] } }).btnStatus
    if s.mem.bittern.length = 256 then s.pulse 0x1203 0 else s
  else (s.addFldSat R.MEM_BTN_STATUS.lost 1).bump 0x380E

/-! ### The repeat trackers (R325) -/

/-- The entries of a region's tracker. -/
def trackerLoad (s : State) (region : Nat) : Nat :=
  (s.mem.trk.filter (fun e => wordRegion (e.1 / 2 ^ 31) (e.1 % 2 ^ 31) = region)).length

def State.setTrk (s : State) (key : Nat) (e : TrkEntry) : State := { s with mem := { s.mem with trk := Tab.put s.mem.trk key e } }
def State.freeTrk (s : State) (key : Nat) : State := { s with mem := { s.mem with trk := Tab.del s.mem.trk key } }

/-- A correction updates the word's entry or takes a free one; the threshold orders the demand scrub, and a correction of a watched
word is a hard fault. -/
def State.trackCorrection (s : State) (space w bytes : Nat) : State :=
  let key := wordKey space w
  if !s.flag R.MEM_CTRL.trk_en || s.mem.untracked.contains key then s
  else
    match Tab.find s.mem.trk key with
    | some e =>
      match e.stage with
      | .counting =>
        let n := e.count + 1
        s.setTrk key { count := n, stage := if s.fld R.MEM_TRK.trk_threshold ≤ n then .ordered else .counting, bytes := bytes }
      | .ordered => s.setTrk key { e with count := e.count + 1, bytes := bytes }
      | .watching => s.setTrk key { e with stage := .hard, bytes := bytes }
      | .hard => s
    | none =>
      if trackerLoad s (wordRegion space w) < 64 then s.setTrk key { count := 1, stage := .counting, bytes := bytes }
      else (s.bump 0x380A).pulse 0x1205 0

/-! ### Reads (R314 to R317) -/

/-- The bytes of an LPDDR6 word in error, of its 36: one of them is corrected, more are not; a word from the wrong address is uncorrectable (R315). -/
def lpBad (e : WordErr) : Nat := if e.misread then 36 else popCount 32 (e.single ||| e.double) + popCount 4 e.check

/-- The word has been written since power-on or by a fill (R320). -/
def lpWritten (s : State) (w : Nat) : Bool := s.mem.written.any (fun r => decide (r.1 ≤ w) && decide (w < r.1 + r.2))

/-- What a read of a stored word does to it: corrections are counted and tracked, an uncorrectable byte or word becomes poison and is
reported once (R315 to R317). A poison byte has no error to correct. -/
def State.readStored (s : State) (space w : Nat) : State :=
  let e := s.wordErr space w
  if space = 3 then
    if e.poison ≠ 0 || !lpWritten s w || lpBad e = 0 then s
    else if lpBad e = 1 then (s.bump 0x3804).trackCorrection space w (e.single ||| e.double)
    else ((s.setWordErr space w { WordErr.none with poison := allBytes }).bump 0x3805).bittern 1 space w 0
  else
    let c := if space = 0 then 0x3800 else 0x3802
    let s := if e.double = 0 then s
      else (List.range (popCount 32 e.double)).foldl (fun s _ => s.bittern 1 space w 0)
        ((s.setWordErr space w { e with
          single := bitsMinus e.single e.double, double := 0, poison := e.poison ||| e.double }).bumpBy (c + 1) (popCount 32 e.double))
    let one := bitsMinus e.single (e.double ||| e.poison)
    if one = 0 then s else (s.bumpBy c (popCount 32 one)).trackCorrection space w one

/-- The bytes of a word that a read returns as poison. -/
def memPoison (s : State) (space w : Nat) : Nat :=
  let e := s.wordErr space w
  if space = 3 then
    if e.poison ≠ 0 || !lpWritten s w || decide (2 ≤ lpBad e) then allBytes else Tab.get (fun _ => 0) s.mem.sump w
  else e.poison ||| e.double

/-- A consumer uses poison: the Bittern, the event and the counter (R319). -/
def State.consumePoison (s : State) (space w consumer : Nat) : State :=
  ((s.bittern 2 space w consumer).bump 0x3806).pulse 0x1200 0

/-- The word of the hub SRAM that holds a structure: the control cores' memory in banks 232 to 247, ring and event-queue state in banks 248 to 251, the
touch map and the remap tables in banks 252 to 255 (Table 12-2). -/
def tableWord (kind i : Nat) : Nat :=
  if kind = 5 then 232 * 8192 + Config.stateWord kind i % 131072
  else (if kind < 2 then 248 else 252) * 8192 + Config.stateWord kind i % 32768

/-- A control core, the host engine, the event controller or a memory controller uses such a structure, every byte of its word: poison there fences the
hub control region, or the hub memory region (R19, R319, Table 12-4). -/
def State.useHub (s : State) (kind i : Nat) : State :=
  let w := tableWord kind i
  let control := decide (kind < 2) || kind == 5
  let bad := memPoison s 0 w ≠ 0
  let s := s.readStored 0 w
  if bad then (s.consumePoison 0 w (if control then 9 else 10)).fenceHub (if control then 2 else 1) else s

/-- A word of the hub SRAM is served from a remap word (R327). -/
def remapped (s : State) (w : Nat) : Bool := s.mem.remap.any (fun e => e.1 / 8 == w / 8192 && e.2 == w % 8192)

/-- A read of a word; one that is served from a remap word uses the remap table of its bank (R319, R327). -/
def State.memRead (s : State) (space w : Nat) : State :=
  (if space = 0 && remapped s w then s.useHub 3 (w / 8192) else s).readStored space w

/-- A consumer reads a word and uses its bytes of `mask`: poison in one of them is consumed. -/
def State.useWord (s : State) (space w mask consumer : Nat) : State :=
  let s := s.memRead space w
  if memPoison s space w &&& mask = 0 then s else s.consumePoison space w consumer

/-- A read of LPDDR6 by the context engine or the counters uses the touch map first (R320). -/
def State.lpRead (s : State) (w : Nat) : State := (s.useHub 2 (w / 2048)).memRead 3 w

/-- The space and the word of a port's line-die SRAM that holds a buffer of its datapath. -/
def dieSpace (p : Port) : Nat := 1 + p.val / 4
def dieWord (p : Port) (kind i : Nat) : Nat := p.val % 4 * 65536 + Config.stateWord kind i % 65536

/-- The word of such a buffer holds poison. -/
def dieBad (s : State) (p : Port) (kind i : Nat) : Bool := memPoison s (dieSpace p) (dieWord p kind i) ≠ 0

/-- The port's datapath uses the word of such a buffer (R319). -/
def State.useDie (s : State) (p : Port) (kind i consumer : Nat) : State := s.useWord (dieSpace p) (dieWord p kind i) allBytes consumer

/-- A consumer reads `n` words and uses the bytes of `mask` in each: the state after the reads, with the consumption recorded
for each word in which a used byte is poison. A read of LPDDR6 uses the touch map (R320). -/
def State.useWords (s : State) (space w n mask consumer : Nat) : State :=
  (List.range n).foldl
    (fun s i => (if space = 3 then s.useHub 2 ((w + i) / 2048) else s).useWord space (w + i) mask consumer) s

/-- Whether a used byte of `n` words is poison. -/
def anyPoison (s : State) (space w n mask : Nat) : Bool :=
  (List.range n).any (fun i => memPoison s space (w + i) &&& mask ≠ 0)

/-! ### Writes (R320, R322 to R324) -/

/-- LPD_STATUS.sump_used follows the Sump. -/
def State.setSump (s : State) (w mask : Nat) : State :=
  let s := { s with mem := { s.mem with sump := Tab.set (fun _ => 0) s.mem.sump w mask } }
  s.setFld R.LPD_STATUS.sump_used s.mem.sump.length

/-- The first write to a 64 KiB block sets its touch bit; every word of the block is written as a poisoned word first, whatever it held (R320). -/
def State.touch (s : State) (w : Nat) : State :=
  let s := s.useHub 2 (w / 2048)
  if Tab.get (fun _ => false) s.mem.touched (w / 2048) then s
  else
    let s := { s with mem := { s.mem with
      touched := Tab.set (fun _ => false) s.mem.touched (w / 2048) true,
      errs := s.mem.errs.filter (fun e => !(e.1 / 2 ^ 31 == 3 && e.1 % 2 ^ 31 / 2048 == w / 2048)) } }
    (s.setFld R.LPD_TOUCH.touched s.mem.touched.length).bump 0x380D

/-- A write to the bytes `mask` of a word: a demand scrub of bytes all rewritten is cancelled (R326), and the word is tracked
again (R328). -/
def State.memWrite (s : State) (space w mask : Nat) : State :=
  let key := wordKey space w
  let e := s.wordErr space w
  let s := { s with mem := { s.mem with untracked := s.mem.untracked.filter (· ≠ key) } }
  let s := match Tab.find s.mem.trk key with
    | some t => if t.stage = .ordered && bitsMinus t.bytes mask = 0 then (s.freeTrk key).bump 0x380B else s
    | none => s
  if space ≠ 3 then
    s.setWordErr space w { single := bitsMinus e.single mask, double := bitsMinus e.double mask,
                           poison := bitsMinus e.poison mask }
  else
    let wr := lpWritten s w
    let whole := !wr || e.poison ≠ 0 || decide (2 ≤ lpBad e)
    let s := s.touch w
    let mark := fun (s : State) =>
      if wr then s else { s with mem := { s.mem with written := (w, 1) :: s.mem.written } }
    if mask = allBytes then ((mark s).setWordErr space w .none).setSump w 0
    else if whole then
      let s := if wr && e.poison = 0 then (s.bump 0x3805).bittern 1 space w 0 else s
      if s.mem.sump.length < 256 then
        ((mark s).setWordErr space w .none).setSump w (bitsMinus allBytes mask)
      else (((s.setWordErr space w { WordErr.none with poison := allBytes }).bump 0x380C).bittern 5 space w 0).pulse 0x1204 0
    else
      let s := if lpBad e = 1 then (s.bump 0x3804).trackCorrection space w (e.single ||| e.double) else s
      (s.setWordErr space w .none).setSump w (bitsMinus (Tab.get (fun _ => 0) s.mem.sump w) mask)

/-- A write of `n` whole words. -/
def State.memWriteWords (s : State) (space w n : Nat) : State :=
  (List.range n).foldl (fun s i => s.memWrite space (w + i) allBytes) s

/-! ### Demand scrub, watch and hard faults (R326 to R328) -/

/-- The bytes of a word that a read corrects. -/
def correctable (space : Nat) (e : WordErr) : Nat :=
  if space = 3 then if e.poison = 0 && lpBad e = 1 then e.single ||| e.double else 0 else bitsMinus e.single e.poison

/-- A word with its corrected bytes written back, but for those of `kept`. -/
def corrected (space : Nat) (e : WordErr) (kept : Nat) : WordErr :=
  let fixed := bitsMinus (correctable space e) kept
  { e with
    single := bitsMinus e.single fixed, double := if space = 3 then bitsMinus e.double fixed else e.double,
    check := if space = 3 && e.poison = 0 && lpBad e = 1 then 0 else e.check }

/-- DEMAND_SCRUB (R326): the word is read and its corrected bytes are written back but for those a write has taken meanwhile (`concurrent`), and
the watch begins. -/
def execDemandScrub (space w concurrent : Nat) (s : State) : Host.Outcome State Fault Refusal :=
  .next (
    match Tab.find s.mem.trk (wordKey space w) with
    | some t =>
      if t.stage = .ordered && s.flag R.MEM_CTRL.trk_en then
        let s := s.memRead space w
        let e := s.wordErr space w
        let fixed := correctable space e
        let s := if fixed &&& concurrent = 0 then s else s.bump 0x380F
        ((s.setWordErr space w (corrected space e concurrent)).bump 0x3807).setTrk
          (wordKey space w) { t with stage := .watching, bytes := fixed }
      else s
    | none => s)

/-- The remap entries of a bank that are free. -/
def freeRemap (s : State) (bank : Nat) : Option Nat :=
  (List.range 8).find? (fun i => (Tab.find s.mem.remap (bank * 8 + i)).isNone)

/-- A hard fault of a word: remapped where a remap word is free, or recorded (R327, R328). -/
def State.hardFault (s : State) (space w : Nat) : State :=
  let key := wordKey space w
  let bank := w / 8192
  let s := if space = 0 then s.useHub 3 bank else s
  match if space = 0 then freeRemap s bank else none with
  | some i =>
    let s := { s with mem := { s.mem with remap := Tab.put s.mem.remap (bank * 8 + i) (w % 8192) } }
    let s := s.setFld R.MEM_REMAP_FREE.free_words (s.fld R.MEM_REMAP_FREE.free_words - 1)
    let s := if (freeRemap s bank).isNone then s.addFldSat R.MEM_REMAP_FREE.full_banks 1 else s
    let s := s.setWordErr space w { s.wordErr space w with single := 0 }
    ((((s.appendDelta 5 bank (w % 8192)).bittern 3 space w 0).pulse 0x1201 0).bump 0x3808).freeTrk key
  | none =>
    let s := s.setFld R.MEM_WARN.warn (withBit (s.fld R.MEM_WARN.warn) (wordRegion space w) true)
    let s := (((s.bittern 4 space w 0).pulse 0x1202 0).bump 0x3809).freeTrk key
    { s with mem := { s.mem with untracked := key :: s.mem.untracked } }

/-- HARD_FAULT (R327): a watched word has corrected again. -/
def execHardFault (space w : Nat) (s : State) : Host.Outcome State Fault Refusal :=
  .next (
    match Tab.find s.mem.trk (wordKey space w) with
    | some t => if (t.stage = .watching || t.stage = .hard) && s.flag R.MEM_CTRL.trk_en then s.hardFault space w else s
    | none => s)

/-- TRACKER_WINDOW_EXPIRED (R325): an entry with too few corrections is freed. -/
def execTrackerWindowExpired (space w : Nat) (s : State) : Host.Outcome State Fault Refusal :=
  .next (
    match Tab.find s.mem.trk (wordKey space w) with
    | some t => if t.stage = .counting && s.flag R.MEM_CTRL.trk_en then s.freeTrk (wordKey space w) else s
    | none => s)

/-- WATCH_EXPIRED (R327): a watch without a correction frees its entry. -/
def execWatchExpired (space w : Nat) (s : State) : Host.Outcome State Fault Refusal :=
  .next (
    match Tab.find s.mem.trk (wordKey space w) with
    | some t => if t.stage = .watching && s.flag R.MEM_CTRL.trk_en then s.freeTrk (wordKey space w) else s
    | none => s)

/-- MEM_INJECT (R316, MEM_INJECT_0): a write of go = 1 alters the stored word; the effect shows at its next read. A second
single-bit error of one byte makes it uncorrectable, and one into a poison byte of an SRAM leaves it poison (DESIGN CHOICE, log entry 41: the spec does
not say which bit is altered). -/
def execMemInject (src : Nat) (value : Nat) (s : State) : Host.Outcome State Fault Refusal :=
  .next (s.accessed src R.MEM_INJECT_0.addr (fun s =>
    let space := bitsOf value 25 24
    let w := s.fld R.MEM_INJECT_1.address
    let b := 2 ^ bitsOf value 4 0
    let e := s.wordErr space w
    if !bitAt value 31 || spaceWords space ≤ w then s
    else
      match bitsOf value 27 26 with
      | 0 =>
        if space ≠ 3 && decide (e.poison &&& b ≠ 0) then s
        else if e.single &&& b = 0 then s.setWordErr space w { e with single := e.single ||| b }
        else s.setWordErr space w { e with single := bitsMinus e.single b, double := e.double ||| b }
      | 1 => s.setWordErr space w { e with
        single := bitsMinus e.single b, double := e.double ||| b, poison := if space = 3 then e.poison else bitsMinus e.poison b }
      | 2 =>
        s.setWordErr space w (if space = 3 then { WordErr.none with poison := allBytes } else { e with
          single := bitsMinus e.single b, double := bitsMinus e.double b, poison := e.poison ||| b })
      | _ => s))

/-! ### Commands (R330 to R333) -/

/-- Start not a multiple of 32, or range outside the space (0x21). -/
def badRange (space start words : Nat) : Bool :=
  start % 32 ≠ 0 || words = 0 || decide (2 ^ 30 < words) || decide (spaceWords space < start / 32 + words)

/-- MEM_SCRUB (R330, R331). -/
def execMemScrub (iss : Issue) (op0 op1 op2 op3 : Nat) (s : State) : Host.Outcome State Fault Refusal :=
  .next (s.pf0Cmd iss [(op0, 0xF), (op3, 0x7FFFFFFF)] fun s =>
    let space := bitsOf op0 3 0
    let start := op1 + op2 * 2 ^ 32
    let words := bitsOf op3 30 0
    if badRange space start words then s.refuse iss 0x21
    else if (Tab.find s.mem.scrubs space).isSome then s.refuse iss 0x22
    else if space = 3 && s.hubFenced 1 then s.refuse iss 0x1E
    else
      let s := { s with mem := { s.mem with
        scrubs := Tab.put s.mem.scrubs space { iss := iss, start := start, words := words, truncated := false } } }
      s.setFld R.MEM_SCRUB_STATUS.active (withBit (s.fld R.MEM_SCRUB_STATUS.active) space true))

/-- What a pass does to one word with errors, with its counts of words corrected, uncorrectable and remapped (R330). A hard fault that is not remapped stays
(R328); a word that nothing has written is a poisoned word already (R320). -/
def scrubWord (space : Nat) (acc : State × Nat × Nat × Nat) (w : Nat) : State × Nat × Nat × Nat :=
  let (s, corr, unc, rem) := acc
  let e := s.wordErr space w
  let bad := if space = 3 then e.poison = 0 && lpWritten s w && decide (2 ≤ lpBad e) else decide (e.double ≠ 0)
  let good := if space = 3 then e.poison = 0 && lpWritten s w && lpBad e = 1 else decide (correctable space e ≠ 0)
  let s := s.memRead space w
  let hard := match Tab.find s.mem.trk (wordKey space w) with
    | some t => decide (t.stage = .hard)
    | none => false
  let moved := hard && space = 0 && (freeRemap s (w / 8192)).isSome
  let s := if hard then s.hardFault space w else s
  let s := if good && (!hard || moved) then s.setWordErr space w (corrected space (s.wordErr space w) 0) else s
  (s, corr + bit01 good, unc + bit01 bad, rem + bit01 moved)

/-- The words of a range of LPDDR6 that lie in untouched blocks. -/
def untouchedWords (s : State) (w n : Nat) : Nat :=
  n - (s.mem.touched.map (fun b => min (w + n) (2048 * b.1 + 2048) - max w (2048 * b.1))).sum

/-- MEM_SCRUB_DONE (R331): the pass has checked `checked` words when a fence has truncated it, all of them otherwise; `narrowed`
write-backs gave way to a write. -/
def execMemScrubDone (space checked narrowed : Nat) (s : State) : Host.Outcome State Fault Refusal :=
  .next (
    match Tab.find s.mem.scrubs space with
    | none => s
    | some sc =>
      let n := if sc.truncated then min checked sc.words else sc.words
      let w0 := sc.start / 32
      let bad := (s.mem.errs.map (fun e => e.1)).filter
        (fun k => k / 2 ^ 31 = space && decide (w0 ≤ k % 2 ^ 31) && decide (k % 2 ^ 31 < w0 + n)
          && (space ≠ 3 || Tab.get (fun _ => false) s.mem.touched (k % 2 ^ 31 / 2048)))
      let untouched := if space = 3 then untouchedWords s w0 n else 0
      let (s, corr, unc, rem) := bad.foldl (fun a k => scrubWord space a (k % 2 ^ 31)) (s, 0, 0, 0)
      let s := s.bumpBy 0x380F narrowed
      let s := { s with mem := { s.mem with scrubs := Tab.del s.mem.scrubs space } }
      let s := s.setFld R.MEM_SCRUB_STATUS.active (withBit (s.fld R.MEM_SCRUB_STATUS.active) space false)
      let s := s.toHost sc.iss.fn (.buffer sc.iss.fn sc.iss.tag (leBytes 4 n ++ leBytes 4 corr ++ leBytes 4 (unc + untouched) ++ leBytes 4 rem))
      s.succeed sc.iss (bit01 sc.truncated) 0)

/-- MEM_FILL (R321): accepted; the words are written by MEM_FILL_DONE. -/
def execMemFill (iss : Issue) (op0 op1 op2 op3 op4 op5 : Nat) (s : State) : Host.Outcome State Fault Refusal :=
  .next (s.pf0Cmd iss [(op0, 0xF), (op3, 0x7FFFFFFF)] fun s =>
    let space := bitsOf op0 3 0
    let start := op1 + op2 * 2 ^ 32
    let words := bitsOf op3 30 0
    if badRange space start words then s.refuse iss 0x21
    else if space ≠ 3 then s.refuse iss 0x23
    else if s.hubFenced 1 then s.refuse iss 0x1E
    else { s with mem := { s.mem with
      filling := s.mem.filling ++ [(iss, { start := start / 32, words := words, pattern := op4 % 2 ^ 32 + op5 % 2 ^ 32 * 2 ^ 32 })] } })

/-- The blocks that the words from `w` on for `n` touch. -/
def blocksOf (w n : Nat) : List Nat := (List.range ((w + n - 1) / 2048 + 1 - w / 2048)).map (· + w / 2048)

/-- The words of a fill are written: their blocks are touched (a block covered in part by its first-touch fill, R320), their
errors and Sump entries go, and the pattern is what they hold. -/
def State.applyFill (s : State) (f : Fill) : State :=
  let inRange := fun w => decide (f.start ≤ w) && decide (w < f.start + f.words)
  let partly := [f.start / 2048, (f.start + f.words - 1) / 2048].filter
    (fun b => decide (2048 * b < f.start) || decide (f.start + f.words < 2048 * b + 2048))
  let ordered := s.mem.trk.filter (fun e => e.1 / 2 ^ 31 = 3 && inRange (e.1 % 2 ^ 31) && decide (e.2.stage = .ordered))
  let s := ordered.foldl (fun s e => (s.freeTrk e.1).bump 0x380B) s
  let s := partly.eraseDups.foldl (fun s b => s.touch (2048 * b)) s
  let touched := (blocksOf f.start f.words).foldl (fun t b => Tab.set (fun _ => false) t b true) s.mem.touched
  let s := { s with mem := { s.mem with
    touched := touched, written := (f.start, f.words) :: s.mem.written, fills := f :: s.mem.fills,
    errs := s.mem.errs.filter (fun e => !(e.1 / 2 ^ 31 = 3 && inRange (e.1 % 2 ^ 31))),
    untracked := s.mem.untracked.filter (fun k => !(k / 2 ^ 31 = 3 && inRange (k % 2 ^ 31))),
    sump := s.mem.sump.filter (fun e => !inRange e.1) } }
  (s.setFld R.LPD_TOUCH.touched touched.length).setFld R.LPD_STATUS.sump_used s.mem.sump.length

/-- A byte of LPDDR6 that only fills have written, by byte address: the newest fill's pattern, or poison. -/
def fillByte (s : State) (a : Nat) : Option Byte :=
  (s.mem.fills.find? (fun f => decide (f.start ≤ a / 32) && decide (a / 32 < f.start + f.words))).map
    (fun f => BitVec.ofNat 8 (f.pattern / 256 ^ (a % 8)))

/-- Bytes copied to host memory: poison bytes read 0x00 (R318). -/
def maskPoison (bytes : List Byte) (poison : Nat) : List Byte := bytes.zipIdx.map (fun e => if bitAt poison e.2 then 0#8 else e.1)
/-- Eight little-endian bytes with the poisoned ones as 0x00. -/
def maskNat (v poison : Nat) : Nat := leNat (maskPoison (leBytes 8 v) poison)

/-- LPDDR6 words are read for a copy to host memory, which consumes no poison (R318). -/
def State.lpCopy (s : State) (w n : Nat) : State := (List.range n).foldl (fun s i => s.lpRead (w + i)) s

/-- The remap table of a bank: 8 entries of 4 bytes, [31] used, [12:0] word index (Table 12-6). -/
def remapBytes (s : State) (bank : Nat) : List Byte :=
  (List.range 8).flatMap (fun i =>
    match Tab.find s.mem.remap (bank * 8 + i) with
    | some w => leBytes 4 (2 ^ 31 + w)
    | none => leBytes 4 0)

/-- MEM_REMAP_READ: the tables of a range of banks; poison in them is copied as R318 says, and consumed by nothing. -/
def execMemRemapRead (iss : Issue) (op0 op1 length : Nat) (s : State) : Host.Outcome State Fault Refusal :=
  .next (s.pf0Cmd iss [(op0, 0xFF), (op1, 0x1FF)] fun s =>
    let first := bitsOf op0 7 0
    let n := bitsOf op1 8 0
    if n = 0 || 256 < first + n then s.refuse iss 0x24
    else if length ≠ 32 * n then s.refuse iss 0x25
    else
      let banks := (List.range n).map (· + first)
      let s := banks.foldl (fun s b => s.memRead 0 (tableWord 3 b)) s
      let bad := fun (b : Nat) => memPoison s 0 (tableWord 3 b)
      (s.toHost iss.fn (.buffer iss.fn iss.tag (banks.flatMap (fun b => maskPoison (remapBytes s b) (bad b))))).complete iss
        { Result.ok 0 0 with poison := banks.any (fun b => bad b ≠ 0) })

/-- A Bittern record's 16 bytes (Table 12-5). -/
def btnBytes (r : BtnRecord) : List Byte :=
  leBytes 4 (r.kind * 2 ^ 28 + r.space * 2 ^ 24 + r.region * 2 ^ 20 + r.consumer * 2 ^ 16 + r.seq) ++ leBytes 8 r.address
    ++ leBytes 4 r.fc

/-- BITTERN_READ: records oldest first; with free they leave the log and lost is cleared (R332). -/
def execBitternRead (iss : Issue) (op0 length : Nat) (s : State) : Host.Outcome State Fault Refusal :=
  .next (s.pf0Cmd iss [(op0, 0x800001FF)] fun s =>
    let n := bitsOf op0 8 0
    let free := bitAt op0 31
    if n = 0 || 256 < n || length ≠ 16 * n then s.refuse iss 0x25
    else
      let recs := s.mem.bittern.take n
      let s := s.toHost iss.fn (.buffer iss.fn iss.tag (recs.flatMap btnBytes))
      let s := if free && recs ≠ [] then
          (({ s with mem := { s.mem with bittern := s.mem.bittern.drop n } }).btnStatus).setFld R.MEM_BTN_STATUS.lost 0
        else s
      s.succeed iss recs.length 0)

end Sys2Proof.Machine
end

