-- ==== Sys2Proof/Machine/Capture.lean ====
section
/-!
DEFINITION. The capture engine (R441 to R445): its states, the pages it writes, and its commands.
-/
namespace Sys2Proof.Machine

/-- The pages of the capture region, 4 KiB each (R313, R441). -/
def capPages (s : State) : Nat := s.mem.capSize * 65536

/-- The LPDDR6 page number of the region's first page. -/
def capBase (s : State) : Nat := 2 ^ 23 - capPages s

/-- A capture is running (R442). -/
def CaptureState.running (c : CaptureState) : Bool := c.st = .armed || c.st = .capturing

/-- What a page of LPDDR6 holds: what captures have written, over what fills have; a byte that nothing has written is none. -/
def pageImage (s : State) (n : Nat) : List (Option Byte) :=
  match Tab.find s.capture.pages n with
  | some x => x
  | none => (List.range 4096).map (fun i => fillByte s (4096 * n + i))

/-- A page's header (Table 17-6). -/
def pageHeader (c : CaptureState) (pages : Nat) (x : CapPage) : List Byte :=
  leBytes 4 c.written
    ++ leBytes 4 (2 ^ 31 + bit01 x.trigOffset.isSome * 2 ^ 30 + bit01 (c.ring && decide (pages ≤ c.written)) * 2 ^ 29
        + c.port.val * 2 ^ 26 + c.point * 2 ^ 23 + x.onuId % 1024 * 2 ^ 13 + min x.data.length 4064)
    ++ leBytes 8 (x.fc % 2 ^ 51) ++ leBytes 4 x.position ++ leBytes 4 (x.trigOffset.getD 0 % 4096) ++ leBytes 8 0

/-- The engine writes one page: the header and the data; the bytes beyond keep what they held. -/
def State.writePage (s : State) (x : CapPage) : State :=
  let c := s.capture
  let pages := capPages s
  if pages = 0 then s
  else
    let n := capBase s + c.written % pages
    let bytes := (pageHeader c pages x ++ x.data.take 4064).map some
    let image := bytes ++ (pageImage s n).drop bytes.length
    let s := s.memWriteWords 3 (128 * n) (bytes.length / 32)
    let s := if bytes.length % 32 = 0 then s else s.memWrite 3 (128 * n + bytes.length / 32) (2 ^ (bytes.length % 32) - 1)
    { s with capture := { c with
      pages := Tab.put c.pages n image, written := c.written + 1, wrapped := c.wrapped || decide (pages ≤ c.written),
      trigPage := if x.trigOffset.isSome then c.written % pages else c.trigPage } }

/-- The pages of post_kib from the trigger's page on have been written. -/
def postWritten (s : State) : Bool :=
  decide (s.capture.st = .capturing) && decide (s.capture.postKib ≤ 4 * (s.capture.written - s.capture.trigAt))

/-- The last page of the region has been written in one-shot mode. -/
def regionWritten (s : State) : Bool := !s.capture.ring && decide (capPages s ≤ s.capture.written)

/-- Pages written one after another, up to post_kib from the trigger's and, in one-shot mode, to the region's last. -/
def State.writePages (s : State) (l : List CapPage) : State :=
  l.foldl (fun s x => if regionWritten s || postWritten s then s else s.writePage x) s

/-- The trigger of an armed capture has occurred (R444): a tick after arming, the tick of trig_value, the burst or the event. -/
def triggered (s : State) : Bool :=
  let c := s.capture
  match c.trigger with
  | 0 => decide (c.armedAt < s.tick)
  | 1 => decide (c.armedAt < s.tick) && decide (s.fc % 2 ^ 32 = c.trigValue)
  | 4 => decide (c.armedTimes < (s.src c.trigValue).times)
  | _ => c.hit

/-- A cause of R443 but CAP_STOP (2) holds. The fill of the FIFO (3) is the row's own. -/
def endsBy (s : State) (cause : Nat) : Bool :=
  let c := s.capture
  match cause with
  | 0 => postWritten s
  | 1 => regionWritten s
  | 3 => true
  | 4 => if c.point < 4 then decide (s.mode c.port < 2) || s.fenced c.port || s.inReset c.port
      else decide (s.mode c.port = 0) || s.inReset c.port
  | 5 => s.hubFenced 1 || bitAt (s.fld R.RST_HUB_STATUS.hub_in_reset) 1
  | _ => false

/-- A capture ends with a cause: DONE, its event and its counters (R443). -/
def State.endCapture (s : State) (cause : Nat) : State :=
  let s := { s with capture := { s.capture with st := .done, endCause := cause } }
  let s := (s.pulse 0x10E1 cause).bump 0x2809
  if cause = 3 then s.bump 0x280A else s

/-- CAP_ARM (R444, R445). -/
def execCapArm (iss : Issue) (op0 op1 op3 : Nat) (s : State) : Host.Outcome State Fault Refusal :=
  .next (s.pf0Cmd iss [(op0, 0x3FF7177), (op3, 0x7FFFFF)] fun s =>
    let p : Port := Fin.ofNat 8 (bitsOf op0 2 0)
    let point := bitsOf op0 6 4
    let trig := bitsOf op0 14 12
    let post := bitsOf op3 22 0
    let mode := s.mode p
    if s.capture.running then s.refuse iss 0x3D
    else if capPages s = 0 || post = 0 || capPages s * 4 < post then s.refuse iss 0x3E
    else if (point < 4 && mode < 2) || (point = 4 && mode = 0) then s.refuse iss 0x40
    else if 4 < point || 4 < trig || (trig = 4 && 0x1FFF < op1) then s.refuse iss 0x10
    else if s.hubFenced 1 then s.refuse iss 0x1E
    else
      let s := (blocksOf (128 * capBase s) (128 * capPages s)).foldl (fun s b => s.touch (2048 * b)) s
      let s := { s with capture := { s.capture with
        st := .armed, port := p, point := point, ring := bitAt op0 8, trigger := trig, filter := bitsOf op0 25 16,
        trigValue := op1, postKib := post, written := 0, wrapped := false, trigPage := 0, endCause := 0, trigFc := 0,
        armedAt := s.tick, trigAt := 0, hit := false, armedTimes := (s.src op1).times } }
      (s.bump 0x2808).succeed iss (capPages s) 0)

/-- CAPTURE_TRIGGER (R444): the trigger occurs; in ring mode `pages` are those written before it since arming. -/
def execCaptureTrigger (pages : List CapPage) (s : State) : Host.Outcome State Fault Refusal :=
  .next (
    if s.capture.st = .armed && triggered s then
      let s := if s.capture.ring then s.writePages pages else s
      let c := s.capture
      let s := { s with capture := { c with
        st := .capturing, trigFc := s.fc, trigAt := c.written, trigPage := if c.ring then c.written % max 1 (capPages s) else 0 } }
      s.pulse 0x10E0 (c.port.val + c.point * 16)
    else s)

/-- CAPTURE_END (R443): `pages` are those written since the last command, the page open at the end included. A cause that does not hold then
ends nothing. -/
def execCaptureEnd (cause : Nat) (pages : List CapPage) (s : State) : Host.Outcome State Fault Refusal :=
  .next (
    if s.capture.running && endsBy (s.writePages pages) cause then (s.writePages pages).endCapture cause else s)

/-- CAP_STOP (R443, R445). -/
def execCapStop (iss : Issue) (pages : List CapPage) (s : State) : Host.Outcome State Fault Refusal :=
  .next (s.pf0Cmd iss [] fun s =>
    if !s.capture.running then s.refuse iss 0x3F
    else
      let s := (s.writePages pages).endCapture 2
      s.succeed iss s.capture.written 0)

/-- Byte `i` of a read at offset `off` of the capture region: none where it is poison. -/
def capByte (s : State) (off i : Nat) : Option Byte :=
  if bitAt (memPoison s 3 (128 * capBase s + (off + i) / 32)) ((off + i) % 32) then none
  else ((pageImage s (capBase s + (off + i) / 4096))[(off + i) % 4096]?).getD none

/-- CAP_READ (R318, R445): bytes of the capture region; a poison byte is written as 0x00 and the completion reports it. -/
def execCapRead (iss : Issue) (op1 op2 length : Nat) (s : State) : Host.Outcome State Fault Refusal :=
  .next (s.pf0Cmd iss [(op2, 1)] fun s =>
    let off := op1 % 2 ^ 32 + bitsOf op2 0 0 * 2 ^ 32
    if s.capture.st ≠ .done then s.refuse iss 0x3F
    else if off % 32 ≠ 0 || 4096 * capPages s < off + length then s.refuse iss 0x10
    else
      let s := s.lpCopy (128 * capBase s + off / 32) (ceilDiv length 32)
      let bytes := (List.range length).map (capByte s off)
      let s := s.toHost iss.fn (.buffer iss.fn iss.tag (bytes.map (fun b => b.getD 0)))
      s.complete iss { Result.ok 0 0 with poison := bytes.any Option.isNone })

/-- The code of a capture state (Table 17-8). -/
def capCode : CapState → Nat
  | .idle => 0
  | .armed => 1
  | .capturing => 2
  | .done => 3

/-- CAP_STATUS (R445): the status record. -/
def execCapStatus (iss : Issue) (s : State) : Host.Outcome State Fault Refusal :=
  .next (s.pf0Cmd iss [] fun s =>
      let c := s.capture
      let pages := capPages s
      let oldest := if c.ring && decide (pages ≤ c.written) then c.written % max 1 pages else 0
      let bytes := leBytes 4 (capCode c.st + c.port.val * 2 ^ 8 + c.point * 2 ^ 12 + bit01 c.ring * 2 ^ 16 + c.endCause * 2 ^ 20)
        ++ leBytes 4 c.written ++ leBytes 4 oldest ++ leBytes 4 c.trigPage ++ leBytes 8 c.trigFc ++ leBytes 8 0
      (s.toHost iss.fn (.buffer iss.fn iss.tag bytes)).succeed iss 0 0)

/-- The capture holds no pages any more: IDLE (Table 17-8). -/
def State.captureIdle (s : State) : State :=
  { s with capture := { s.capture with st := .idle, written := 0, wrapped := false, trigPage := 0, endCause := 0, trigFc := 0 } }

end Sys2Proof.Machine
end

