-- ==== Sys2Proof/Machine/Counters.lean ====
section
/-!
DEFINITION. Counters, Harvest and slot accounting (chapter 17): writes and split reads through BAR4, the extended counters, the
Harvest sets and the slot classes.
-/
namespace Sys2Proof.Machine

/-! ### BAR4 (R427 to R431) -/

/-- The offsets of a port block that a chapter assigns. -/
def portOffAssigned (o : Nat) : Bool :=
  decide (o ≤ 0x00E) || o == 0x010 || (decide (0x040 ≤ o) && decide (o ≤ 0x047)) || (decide (0x050 ≤ o) && decide (o ≤ 0x05F))
    || (decide (0x060 ≤ o) && decide (o ≤ 0x06A)) || (decide (0x070 ≤ o) && decide (o ≤ 0x07F))
    || (decide (0x080 ≤ o) && decide (o ≤ 0x087)) || (decide (0x090 ≤ o) && decide (o ≤ 0x0A2))
    || (decide (0x0B0 ≤ o) && decide (o ≤ 0x0B7)) || (decide (0x0C0 ≤ o) && decide (o ≤ 0x0CF))

/-- The hub and privileged counter-IDs that a chapter assigns. -/
def hubAssigned (k : Nat) : Bool :=
  let between := fun a b => decide (a ≤ k) && decide (k ≤ b)
  between 0x2000 0x2004 || between 0x2100 0x210F || (between 0x2200 0x228F && decide (k % 16 < 8)) || between 0x2300 0x230B
    || (between 0x2400 0x24BF && decide (k % 8 < 8)) || (between 0x2500 0x25FF && decide (k % 16 < 12))
    || (between 0x2600 0x260F && decide (k % 8 < 5)) || (between 0x2700 0x277F && decide (k % 16 < 11)) || between 0x2780 0x2783
    || between 0x2800 0x280A || between 0x2900 0x291A || between 0x2920 0x293F || between 0x2A00 0x2A0B || between 0x2B00 0x2B06
    || between 0x2C00 0x2C06 || between 0x3800 0x380F || between 0x3C00 0x3C0B

/-- A chapter assigns the counter-ID; one that none assigns reads 0 and ignores writes. -/
def counterAssigned (k : Nat) : Bool := if k < 0x2000 then portOffAssigned (k % 1024) else hubAssigned k

/-- The 64-bit word of a counter (R427). -/
def Counter.word (c : Counter) : Nat := c.value + bit01 c.ovf * 2 ^ 63

/-- The counter at an 8-byte offset of a function's BAR4 (Table 17-1). -/
def bar4Counter (fn off : Nat) : Option Nat :=
  if fn = 0 then (if off < 0x20000 then some (off / 8) else none)
  else if off < 0x2000 then some ((fn - 1) * 1024 + off / 8)
  else if off < 0x2080 then some (0x2200 + 16 * fn + (off - 0x2000) / 8)
  else if off < 0x2100 then some (0x2700 + 16 * (fn - 1) + (off - 0x2080) / 8)
  else none

/-- COUNTER_WRITE (R429): a write of `size` bytes; any write but an aligned 8-byte one of PF0 to an assigned counter below 0x3C00 is
ignored and counted. -/
def execCounterWrite (fn offset size value : Nat) (s : State) : Host.Outcome State Fault Refusal :=
  .next (
    let k := offset / 8
    if !s.ready || size ≠ 8 || offset % 8 ≠ 0 || fn ≠ 0 || 0x3C00 ≤ k || !counterAssigned k then s.bump 0x2806
    else s.setCounter k { value := value % 2 ^ 56, ovf := bitAt value 63 })

/-- The shadow of a BAR4 page: none, or a counter-ID and a high half. -/
def shadowKey (fn offset : Nat) : Nat := fn * 256 + offset / 0x1000

/-- COUNTER_SPLIT_READ (R430): of a 4-byte read at a multiple of 4, half a word of a counter is returned; the low half loads the page's shadow, and the
high half of the same counter empties it. An 8-byte read at a multiple of 8 returns the whole word, and any other read is counted. -/
def execCounterSplitRead (fn : Nat) (read : BarRead) (s : State) : Host.Outcome State Fault Refusal :=
  .next (
    let offset := read.offset
    if read.size = 8 && offset % 8 = 0 then
      s.emit (.readData fn offset (match bar4Counter fn offset with
        | none => 0
        | some k => if counterAssigned k then (s.counter k).word else 0))
    else if read.size ≠ 4 || offset % 4 ≠ 0 then (s.emit (.readData fn offset 0)).bump 0x2807
    else
      match bar4Counter fn offset with
      | none => s.emit (.readData fn offset 0)
      | some k =>
        let w := if counterAssigned k then (s.counter k).word else 0
        let key := shadowKey fn offset
        if offset % 8 = 0 then
          ({ s with ctr := { s.ctr with shadows := Tab.put s.ctr.shadows key (k, w / 2 ^ 32) } } : State).emit
            (.readData fn offset (w % 2 ^ 32))
        else
          match Tab.find s.ctr.shadows key with
          | some (k', hi) =>
            if k' = k then
              ({ s with ctr := { s.ctr with shadows := Tab.del s.ctr.shadows key } } : State).emit (.readData fn offset hi)
            else s.emit (.readData fn offset (w / 2 ^ 32))
          | none => s.emit (.readData fn offset (w / 2 ^ 32)))

/-! ### Extended counters (R437) -/

/-- An extended word of zeros. -/
def ExtWord.zero : ExtWord := { retired := .zero, wasted := .zero, back := .zero, granted := .zero, lost := false, restart := false }

/-- The LPDDR6 word that holds the extended counters of context `c` of port `p`. -/
def extLpWord (p : Port) (c : Nat) : Nat := 0x0600_0000 / 32 + 256 * p.val + c

/-- The state with one extended word replaced. -/
def State.setExt (s : State) (i : Nat) (x : ExtWord) : State :=
  { s with ctr := { s.ctr with ext := Tab.set (fun _ => ExtWord.zero) s.ctr.ext i x } }

/-- A created context zeroes its word while the extended counters run. -/
def State.zeroExt (s : State) (p : Port) (c : Nat) : State :=
  if s.flag R.CTR_STATUS.ext_ready && !s.hubFenced 1 then
    (s.setExt (256 * p.val + c) .zero).memWrite 3 (extLpWord p c) allBytes
  else s

/-- One context's increments of a frame: retired, wasted and granted slots; the rest of the granted ones are back-starved. An update that meets poison or a fenced
memory region is lost; the next one that is made writes its increments alone and marks the word. -/
def State.extUpdate (s : State) (p : Port) (c : Nat) (n : Nat × Nat × Nat) : State :=
  let i := 256 * p.val + c
  let x := Tab.get (fun _ => ExtWord.zero) s.ctr.ext i
  let s := if s.hubFenced 1 || x.restart then s else s.lpRead (extLpWord p c)
  if s.hubFenced 1 || (!x.restart && memPoison s 3 (extLpWord p c) ≠ 0) then (s.setExt i { x with restart := true }).bump 0x2805
  else
    let b := if x.restart then ExtWord.zero else x
    (s.setExt i { retired := b.retired.add n.1, wasted := b.wasted.add n.2.1, back := b.back.add (n.2.2 - (n.1 + n.2.1)),
                  granted := b.granted.add n.2.2, lost := x.lost || x.restart, restart := false }).memWrite 3 (extLpWord p c)
      allBytes

/-- The capture of ext_en at a tick: all words are zeroed when it is captured as 1, and ext_ready follows. -/
def State.extCapture (s : State) : State :=
  let en := s.flag R.CTR_CTRL.ext_en
  if en && !s.flag R.CTR_STATUS.ext_ready then
    (({ s with ctr := { s.ctr with ext := [] } }).applyFill { start := 0x0600_0000 / 32, words := 2048, pattern := 0 }).setFlag
      R.CTR_STATUS.ext_ready true
  else if en then s
  else s.setFlag R.CTR_STATUS.ext_ready false

/-! ### Slot accounting (R434, R435) -/

/-- The slots of an account that some class or cause already holds. -/
def SlotAcct.classed (a : SlotAcct) : Nat :=
  a.retired + a.overhead + a.tail + a.failed + a.training + a.cal + a.disc + a.missing + a.disabled + a.notRecv

/-- The slot account of the frame that began at tick `t`. -/
def State.acct (s : State) (p : Port) (t : Nat) : SlotAcct := Tab.get (fun _ => SlotAcct.empty) (s.port p).dba.acct t

/-- The state with one frame's account changed. -/
def State.modAcct (s : State) (p : Port) (t : Nat) (f : SlotAcct → SlotAcct) : State :=
  s.modDba p (fun d => { d with acct := Tab.set (fun _ => SlotAcct.empty) d.acct t (f (Tab.get (fun _ => SlotAcct.empty) d.acct t)) })

/-- A context's retired, wasted and granted slots of a frame change by what an outcome gives or takes. -/
def SlotAcct.onuAdd (a : SlotAcct) (c : Option Nat) (r : Nat) (w : Int) (g : Nat) : SlotAcct :=
  match c with
  | none => a
  | some c =>
    let x := Tab.get (fun _ => ((0, 0, 0) : Nat × Nat × Nat)) a.onu c
    { a with onu := Tab.set (fun _ => (0, 0, 0)) a.onu c (x.1 + r, ((x.2.1 : Int) + w).toNat, x.2.2 + g) }

/-- The increments of one accounted frame (Table 17-2): every slot in one class, the slots of no entry unallocated. -/
def State.countSlots (s : State) (p : Port) (a : SlotAcct) : State :=
  let entryLeft := a.entries + a.discBurst
    - (a.retired + a.overhead + a.tail + a.failed + a.training + a.missing + a.disabled + a.notRecv)
  let notRecv := a.notRecv + entryLeft
  let unalloc := 194400 - (a.classed + entryLeft)
  let wasted := a.overhead + a.tail + a.failed + a.training
  let s := s.bumpP p 0x000
  let s := s.bumpBy (portCtr p 0x001) a.retired
  let s := s.bumpBy (portCtr p 0x002) wasted
  let s := s.bumpBy (portCtr p 0x003) (a.cal + a.disc + unalloc)
  let s := s.bumpBy (portCtr p 0x004) (a.missing + a.disabled + notRecv)
  let s := s.bumpBy (portCtr p 0x005) a.overhead
  let s := s.bumpBy (portCtr p 0x006) a.tail
  let s := s.bumpBy (portCtr p 0x007) a.failed
  let s := s.bumpBy (portCtr p 0x008) a.training
  let s := s.bumpBy (portCtr p 0x009) a.cal
  let s := s.bumpBy (portCtr p 0x00A) a.disc
  let s := s.bumpBy (portCtr p 0x00B) unalloc
  let s := s.bumpBy (portCtr p 0x00C) a.missing
  let s := s.bumpBy (portCtr p 0x00D) a.disabled
  let s := s.bumpBy (portCtr p 0x00E) notRecv
  s.bumpBy (portCtr p 0x045) a.cal

/-- SLOT_ACCOUNTING (R435): at tick `s.tick` the frame that began two ticks before is added, when a map governed it. -/
def State.slotAccounting (s : State) (p : Port) : State :=
  let t := s.tick - 2
  if 2 ≤ s.tick && (Tab.find (s.port p).dba.maps t).isSome then
    let a := s.acct p t
    let s := s.countSlots p a
    let s := if s.flag R.CTR_STATUS.ext_ready then a.onu.foldl (fun s e => s.extUpdate p e.1 e.2) s else s
    s.modDba p (fun d => { d with acct := Tab.del d.acct t, maps := Tab.del d.maps t })
  else s.modDba p (fun d => { d with acct := Tab.del d.acct t, maps := Tab.del d.maps t })

/-! ### The Harvest (R438 to R440) -/

/-- What a Harvest set carries before its first capture. -/
def HarvestSet.zero : HarvestSet := { skipsSince := 0 }

/-- The values of a dump: counters, or the four counters of each extended word, a poisoned byte of which is written as 0x00 (R318). -/
def dumpValues (s : State) (space : Bool) (first count : Nat) : List Nat :=
  if space then
    (List.range count).flatMap (fun i =>
      let x := Tab.get (fun _ => ExtWord.zero) s.ctr.ext (first + i)
      let l := bit01 x.lost * 2 ^ 62
      let bad := memPoison s 3 (0x0600_0000 / 32 + first + i)
      [maskNat (x.retired.word + l) bad, maskNat (x.wasted.word + l) (bad / 2 ^ 8), maskNat (x.back.word + l) (bad / 2 ^ 16),
        maskNat (x.granted.word + l) (bad / 2 ^ 24)])
  else
    (List.range count).map (fun i => if counterAssigned (first + i) then (s.counter (first + i)).word else 0)

/-- A dump's bytes (R439, Table 17-3): the header, the values in ascending ID, the trailer. -/
def dumpBytes (set : Nat) (space : Bool) (seq skips fc first count : Nat) (values : List Nat) : List Byte :=
  leBytes 4 seq ++ leBytes 4 (set * 2 ^ 27 + bit01 space * 2 ^ 26 + bit01 (skips ≠ 0) * 2 ^ 15 + count) ++ leBytes 8 (fc % 2 ^ 51)
    ++ values.flatMap (leBytes 8)
    ++ leBytes 4 seq ++ leBytes 4 (first * 2 ^ 16 + count) ++ leBytes 4 skips ++ leBytes 4 0

/-- The host address of dump `seq` of a set: slot seq mod 2^slots_code of the buffer, a slot the dump's bytes rounded up to 64 (R439). -/
def dumpAddr (s : State) (i seq bytes : Nat) : Nat :=
  s.fld (R.CTR_HV_ADDR_HI.addr_hi i) * 2 ^ 32 + s.fld (R.CTR_HV_ADDR_LO.addr_lo i) * 2 ^ 12
    + seq % 2 ^ s.fld (R.CTR_HV_CFG.slots_code i) * (ceilDiv bytes 64 * 64)

/-- The capture of en at a tick: the first capture of 1 restarts seq and the skip count. -/
def State.harvestCapture (s : State) (i : Nat) : State :=
  let en := s.flag (R.CTR_HV_CFG.en i)
  if en && !s.flag (R.CTR_HV_STATUS.active i) then
    (({ s with ctr := { s.ctr with sets := Tab.set (fun _ => HarvestSet.zero) s.ctr.sets i .zero } }).setFlag
      (R.CTR_HV_STATUS.active i) true).setFld (R.CTR_HV_STATUS.skips i) 0 |>.setFld (R.CTR_HV_SEQ.seq i) 0
  else s.setFlag (R.CTR_HV_STATUS.active i) en

/-- Why a due set skips, as a counter-ID, or none (R440); `taken` is what lower-numbered sets have taken of the snapshot store. -/
def harvestSkip (s : State) (i taken : Nat) : Option Nat :=
  if s.flag (R.CTR_HV_STATUS.busy i) then some 0x2801
  else if !Tab.get (fun _ => false) s.hif.bme 0 || s.hubFenced 2 then some 0x2803
  else if 65536 < taken + s.fld (R.CTR_HV_SRC.count i) then some 0x2802
  else if s.flag (R.CTR_HV_CFG.space i) && !s.flag R.CTR_STATUS.ext_ready then some 0x2804
  else none

/-- One due set at a tick, with the values taken and the sets skipped so far. -/
def harvestDue (acc : State × Nat × Nat) (i : Nat) : State × Nat × Nat :=
  let (s, taken, skipped) := acc
  if s.flag (R.CTR_HV_STATUS.active i) && s.fc % s.fld (R.CTR_HV_CFG.period i) = 0 then
    let h := Tab.get (fun _ => HarvestSet.zero) s.ctr.sets i
    match harvestSkip s i taken with
    | some c =>
      let s := (s.bump c).addFldSat (R.CTR_HV_STATUS.skips i) 1
      ({ s with ctr := { s.ctr with sets := Tab.set (fun _ => HarvestSet.zero) s.ctr.sets i { skipsSince := h.skipsSince + 1 } } },
        taken, withBit skipped i true)
    | none =>
      let seq := (s.fld (R.CTR_HV_SEQ.seq i) + 1) % 2 ^ 32
      let first := s.fld (R.CTR_HV_SRC.first i)
      let count := s.fld (R.CTR_HV_SRC.count i)
      let space := s.flag (R.CTR_HV_CFG.space i)
      let s := if space then s.lpCopy (0x0600_0000 / 32 + first) count else s
      let bytes := dumpBytes i space seq h.skipsSince s.fc first count (dumpValues s space first count)
      let s := s.toHost 0 (.dump i (dumpAddr s i seq bytes.length) bytes)
      let s := { s with ctr := { s.ctr with sets := Tab.set (fun _ => HarvestSet.zero) s.ctr.sets i .zero } }
      (((s.setFld (R.CTR_HV_SEQ.seq i) seq).setFlag (R.CTR_HV_STATUS.busy i) true).addFldSat R.CTR_STATUS.busy_sets 1,
        taken + count, skipped)
  else acc

/-- HARVEST_SNAPSHOT (R438): at a tick every set captures its en, and the due ones dump or skip in ascending order. -/
def State.harvestTick (s : State) : State :=
  let s := { s with ctr := { s.ctr with dumped := 0 } }
  let s := (List.range 32).foldl State.harvestCapture s
  let (s, _, skipped) := (List.range 32).foldl harvestDue (s, 0, 0)
  if skipped = 0 then s else s.pulse 0x10F1 skipped

/-- HARVEST_DUMP_DONE (R439): the last write of a set's dump is accepted. The info of source 0x10F0 names the sets whose dumps have
been written since the tick. -/
def execHarvestDumpDone (set : Nat) (s : State) : Host.Outcome State Fault Refusal :=
  .next (
    let i := set % 32
    if s.flag (R.CTR_HV_STATUS.busy i) then
      let done := withBit s.ctr.dumped i true
      let s := { s with ctr := { s.ctr with dumped := done } }
      let s := (s.setFlag (R.CTR_HV_STATUS.busy i) false).setFld R.CTR_STATUS.busy_sets (s.fld R.CTR_STATUS.busy_sets - 1)
      (s.bump 0x2800).pulse 0x10F0 done
    else s)

end Sys2Proof.Machine
end

