-- ==== Sys2Proof/Machine/Events.lean ====
section
/-!
DEFINITION. The event controller (chapter 14): views, source states, event queues, moderation, MSI-X, and its resets.
-/
namespace Sys2Proof.Machine

/-! ### Views (R365) -/

/-- The source-IDs that exist: reserved blocks hold no source (Table 14-2). -/
def sourceExists (id : Nat) : Bool :=
  if id < 0x1000 then decide (id % 512 < 0xA0)
  else decide (id < 0x1309) || (decide (0x1400 ≤ id) && decide (id < 0x1800))

/-- The source that index `i` of a function's view reaches (Table 14-4); PF0's view indexes every source by its source-ID. -/
def viewSource (s : State) (fn i : Nat) : Option Nat :=
  let id : Option Nat :=
    if fn = 0 then some i
    else if i < 512 then some ((fn - 1) * 512 + i)
    else if i = 1536 then some (0x1300 + fn)
    else if i - 512 < s.fld (R.HIF_QUOTA.cq_quota fn) then some (0x1400 + s.fld (R.HIF_CQ_BASE.cq_base fn) + (i - 512))
    else none
  id.filter sourceExists

/-- The port of a port function. -/
def fnPort (fn : Nat) : Port := Fin.ofNat 8 (fn - 1)

/-- The address of a register of a function's view, at its offset in the EVC block for PF0 and in the PRT block for a port function
(Table 14-7). -/
def viewAddr (fn o0 o1 : Nat) : Nat := if fn = 0 then 0x50000 + o0 else portBlock (fnPort fn) o1

/-- The cfg_err bit of a function's view. -/
def viewErr (fn : Nat) : RegField :=
  if fn = 0 then R.EVC_VIEW_STATUS.cfg_err else R.PRT_VIEW_STATUS.cfg_err (fnPort fn)

/-- A refused write of a view: its flag and the counter, and nothing else (R383). -/
def State.refuseView (s : State) (fn : Nat) : State := (s.setFlag (viewErr fn) true).bump 0x230B

/-- The function that owns a queue (R372). -/
def State.queueOwner (s : State) (q : Nat) : Nat :=
  wordField (s.reg (R.EVC_EQ_OWNER.addr (q / 8))) (q % 8 * 4 + 3) (q % 8 * 4)

/-! ### Interrupts (R377, R378) -/

/-- The hub control region is fenced. -/
def State.hubControlFenced (s : State) : Bool := bitAt (s.fld R.GLB_STATUS.hub_fenced) 2

/-- The records a queue holds that its host has not consumed. -/
def EvQueue.unconsumed (q : EvQueue) : Nat := (q.wr + 2 ^ q.sizeCode - q.head) % 2 ^ q.sizeCode

/-- N − 1 records are unconsumed. -/
def EvQueue.full (q : EvQueue) : Bool := decide (2 ^ q.sizeCode ≤ q.unconsumed + 1)

/-- What EQ_STATUS of a queue reads as: the queue's own state in its bits. -/
def EvQueue.statusWord (q : EvQueue) : Nat :=
  2 ^ 31 * bit01 q.armed + 2 ^ 30 * bit01 q.idleHint + 2 ^ 29 * bit01 q.full + q.wr % 2 ^ 16

/-- What EVC_STATUS reads as: the enabled queues that are now full. -/
def State.fullQueues (s : State) : Nat := ((List.range 64).filter (fun q => (s.evQueue q).en && (s.evQueue q).full)).length

/-- The message of a vector, with the address and the data that its entry of the MSI-X table holds: three words of address low, address high and data
for each vector. -/
def State.vectorMessage (s : State) (fn vec : Nat) : Output :=
  let w := fun (k : Nat) => Tab.get (fun _ => 0) s.ev.msixTable ((fn * 64 + vec) * 4 + k)
  .interrupt fn vec (w 1 * 2 ^ 32 + w 0) (w 2)

/-- A message leaves, or its Pending Bit is set while it is masked (R378), and while the function may not write (R355). -/
def State.message (s : State) (fn vec : Nat) : State :=
  let key := fn * 64 + vec
  let masked := Tab.get (fun _ => false) s.ev.fnMask fn || Tab.get (fun _ => true) s.ev.vecMask key
  if masked || !masters s fn then
    let s := { s with ev := { s.ev with msixPend := Tab.set (fun _ => false) s.ev.msixPend key true } }
    if masked then s.bump 0x2308 else s
  else s.emit (s.vectorMessage fn vec)

/-- A queue raises its vector: it is disarmed and its idle hint cleared, and its window closes (R377). -/
def State.raiseVector (s : State) (q : Nat) : State :=
  let x := s.evQueue q
  ((s.setEvQueue q { x with armed := false, idleHint := false, window := false }).bump 0x2307).message (s.queueOwner q) x.vector

/-- An armed, non-empty queue raises its vector when one of the conditions of R377 holds; otherwise its window is open. -/
def State.moderate (s : State) (q : Nat) (timer : Bool) : State :=
  let x := s.evQueue q
  if x.armed && x.unconsumed ≠ 0 && !s.hubControlFenced then
    if x.modUsec = 0 || x.idleHint || decide (max x.modCount 1 ≤ x.unconsumed) || (timer && x.window) then s.raiseVector q
    else s.setEvQueue q { x with window := true }
  else if x.armed && x.unconsumed ≠ 0 then s.setEvQueue q { x with window := true }
  else s.setEvQueue q { x with window := false }

/-! ### Capture (R374, R375) -/

/-- Whether a queue may capture: enabled, its owner a bus master, the hub control region not fenced. -/
def canCapture (s : State) (q : Nat) : Bool :=
  (s.evQueue q).en && masters s (s.queueOwner q) && !s.hubControlFenced

/-- The record of a source at capture (Table 14-6). -/
def sourceRecord (s : State) (q id tickOffset : Nat) : EventRecord :=
  let x := s.src id
  { phase := (s.evQueue q).phase, marker := false, sw := x.sw, level := x.input,
    count := if levelSense x.sense then 0 else x.count, sense := x.sense, sourceId := id, info := x.info,
    fc := s.fc % 2 ^ 32, tickOffset := tickOffset }

/-- The record of a retarget marker at capture (R380). -/
def markerRecord (s : State) (q id new tickOffset : Nat) : EventRecord :=
  let x := s.src id
  { phase := (s.evQueue q).phase, marker := true, sw := false, level := x.input, count := 0, sense := x.sense, sourceId := id,
    info := new, fc := s.fc % 2 ^ 32, tickOffset := tickOffset }

/-- The 16 bytes of an event record (Table 14-6). -/
def EventRecord.bytes (x : EventRecord) : List Byte :=
  leBytes 4 (bit01 x.phase * 2 ^ 31 + bit01 x.marker * 2 ^ 30 + bit01 x.sw * 2 ^ 29 + bit01 x.level * 2 ^ 28 + x.count % 2 ^ 8 * 2 ^ 16
      + x.sense % 2 ^ 3 * 2 ^ 13 + x.sourceId % 2 ^ 13)
    ++ leBytes 4 x.info ++ leBytes 4 x.fc ++ leBytes 4 (x.tickOffset % 2 ^ 18)

/-- The bus address of a queue's record: its base, a multiple of 4 KiB, and 16 bytes for each position (R373). -/
def EvQueue.recordAddr (x : EvQueue) (i : Nat) : Nat := x.addrHi * 2 ^ 32 + x.addrLo * 2 ^ 12 + 16 * i

/-- The queue writes a record: the write position moves on, and the phase alternates at the end of a pass (R351). -/
def State.writeRecord (s : State) (q : Nat) (rec : EventRecord) : State :=
  let x := s.evQueue q
  let last := x.wr + 1 == 2 ^ x.sizeCode
  ((s.emit (.eventRecord q x.wr rec)).emit (.busWrite (s.queueOwner q) (x.recordAddr x.wr) rec.bytes)).setEvQueue q
    { x with list := x.list.tail, wr := if last then 0 else x.wr + 1, phase := if last then !x.phase else x.phase }

/-- A captured source goes on: a level source still asserted to IN_SERVICE, any other to IDLE (Table 14-5). -/
def State.afterCapture (s : State) (id : Nat) : State :=
  let x := s.src id
  s.setSrc id { x with
    st := if levelSense x.sense && assertedAt x.sense x.input then .inService else .idle, count := 0, sw := false }

/-- EVENT_CAPTURE (R375): the record at the head of the list is written, or a full queue counts a stall. The queue's state is
used first: poison in it fences the hub control region, and nothing is written (Table 12-4). -/
def execEventCapture (queue tickOffset : Nat) (s : State) : Host.Outcome State Fault Refusal :=
  .next (
    let q := queue % 64
    let s := if canCapture s q then s.useHub 1 q else s
    if canCapture s q then
      match (s.evQueue q).list with
      | [] => s
      | .source id :: _ =>
        if (s.evQueue q).full then s.bump 0x2306
        else (((s.writeRecord q (sourceRecord s q id tickOffset)).afterCapture id).bump 0x2300).moderate q false
      | .marker id new :: _ =>
        if (s.evQueue q).full then s.bump 0x2306
        else ((s.writeRecord q (markerRecord s q id new tickOffset)).bump 0x2301).moderate q false
    else s)

/-- EQ_MODERATION_TIMER (R377): mod_usec has passed since the window opened. -/
def execEqModerationTimer (queue : Nat) (s : State) : Host.Outcome State Fault Refusal :=
  .next (if (s.evQueue (queue % 64)).window then s.moderate (queue % 64) true else s)

/-- EQ_DOORBELL (R376). -/
def execEqDoorbell (fn queue value : Nat) (s : State) : Host.Outcome State Fault Refusal :=
  .next (
    let q := queue % 64
    let x := s.evQueue q
    let n := 2 ^ x.sizeCode
    let head := bitsOf value 15 0
    if !s.ready || s.queueOwner q ≠ fn || !x.en || bitsOf value 29 16 ≠ 0 || n ≤ head || x.unconsumed < (head + n - x.head) % n then
      s.bump 0x2309
    else
      let arm := bitAt value 31
      (s.setEvQueue q { x with head := head, armed := x.armed || arm,
                               idleHint := if arm then bitAt value 30 else x.idleHint }).moderate q false)

/-! ### Inputs -/

/-- EVENT_SOURCE_INPUT (R363, R367, R551): an input takes a value; a rise is an occurrence at its block. -/
def execEventSourceInput (source : Nat) (input : Bool) (info : Nat) (s : State) : Host.Outcome State Fault Refusal :=
  .next (if sourceExists source then s.level source input (info % 2 ^ 32) else s)

/-- SOURCE_DEASSERT (R367): a level source's input goes to its inactive level. -/
def execSourceDeassert (source : Nat) (s : State) : Host.Outcome State Fault Refusal :=
  .next (
    let x := s.src source
    if sourceExists source && levelSense x.sense then s.sourceInput source (x.sense == 1) x.info else s)

/-! ### Masks, pending bits and completion (R368 to R370) -/

/-- Fold over the set bits of a view word: bit `b` of word `w` is index 32 w + b (Table 14-7). -/
def State.overBits (s : State) (fn word value : Nat) (f : State → Nat → State) : State :=
  (List.range 32).foldl
    (fun s b => if bitAt value b then (match viewSource s fn (32 * word + b) with | some id => f s id | none => s) else s) s

/-- A source is masked: it leaves its list (R368). -/
def State.maskSource (s : State) (id : Nat) : State :=
  let x := s.src id
  if x.masked then s
  else
    let s := if x.st = .pending then s.leaveList id else s
    s.setSrc id { x with masked := true }

/-- A source is unmasked: a PENDING one joins the tail of its list (R368). -/
def State.unmaskSource (s : State) (id : Nat) : State :=
  let x := s.src id
  if x.masked then
    let s := s.setSrc id { x with masked := false }
    if x.st = .pending then s.joinList id else s
  else s

/-- PEND_SET of one source (R369). -/
def State.pendSource (s : State) (id : Nat) : State :=
  let x := s.src id
  match x.st with
  | .idle => s.makePending id true
  | .pending => s.setSrc id { x with sw := true }
  | .inService => s.bump 0x230A

/-- PEND_CLR of one source (R369). -/
def State.unpendSource (s : State) (id : Nat) : State :=
  let x := s.src id
  if x.st = .pending then
    let s := s.dropPending id
    if levelSense x.sense then s.settleLevel id else s
  else s

def execMaskSet (fn word value : Nat) (s : State) : Host.Outcome State Fault Refusal :=
  .next (s.accessed fn (viewAddr fn (0x8000 + 4 * word) (0xA000 + 4 * word)) (fun s => s.overBits fn word value State.maskSource))
def execMaskClr (fn word value : Nat) (s : State) : Host.Outcome State Fault Refusal :=
  .next (s.accessed fn (viewAddr fn (0x8400 + 4 * word) (0xA100 + 4 * word)) (fun s => s.overBits fn word value State.unmaskSource))
def execPendSet (fn word value : Nat) (s : State) : Host.Outcome State Fault Refusal :=
  .next (s.accessed fn (viewAddr fn (0x8800 + 4 * word) (0xA200 + 4 * word)) (fun s => s.overBits fn word value State.pendSource))
def execPendClr (fn word value : Nat) (s : State) : Host.Outcome State Fault Refusal :=
  .next (s.accessed fn (viewAddr fn (0x8C00 + 4 * word) (0xA300 + 4 * word)) (fun s => s.overBits fn word value State.unpendSource))

/-- EVENT_COMPLETE (R370): accepted in IN_SERVICE, where the source is asserted; spurious elsewhere. -/
def execEventComplete (fn value : Nat) (s : State) : Host.Outcome State Fault Refusal :=
  .next (s.accessed fn (viewAddr fn (0x9800) (0xA600)) (fun s =>
    match viewSource s fn (bitsOf value 12 0) with
    | none => s
    | some id =>
      if (s.src id).st = .inService then (s.makePending id false).bump 0x2302 else s.bump 0x2303))

/-! ### Source configuration (R361, R362, R366, R379, R380) -/

/-- A change of sense: IDLE without a record, and the present input is the reference (R362); a level source asserted at its new
sense becomes PENDING from IDLE. -/
def State.changeSense (s : State) (id sense : Nat) : State :=
  let x := s.src id
  let s := if x.st = .pending then s.dropPending id else s
  let s := s.setSrc id { s.src id with sense := sense, st := .idle, count := 0, sw := false }
  if levelSense sense then s.settleLevel id else s

/-- A retarget: the marker joins the old queue's list, and a PENDING source moves to the new one (R380). -/
def State.retarget (s : State) (id new : Nat) : State :=
  let x := s.src id
  let inList := x.st = .pending ∧ !x.masked
  let s := if inList then s.leaveList id else s
  let old := s.evQueue x.queue
  let s := s.setEvQueue x.queue { old with list := old.list ++ [.marker id new] }
  let s := s.setSrc id { x with queue := new }
  if inList then s.joinList id else s

/-- A write of EVC_SRC_CFG: refused whole where R361 or R366 forbids it; otherwise the sense and then the queue change, each only
where it differs. -/
def State.srcCfgWrite (s : State) (fn index value : Nat) : State :=
  match viewSource s fn index with
  | none => s
  | some id =>
    let sense := bitsOf value 10 8
    let queue := bitsOf value 21 16
    if 4 < sense || (fn ≠ 0 && s.queueOwner queue ≠ fn) then s.refuseView fn
    else
      let s := if sense ≠ (s.src id).sense then s.changeSense id sense else s
      if queue ≠ (s.src id).queue then s.retarget id queue else s

/-- SENSE_CHANGE (R362): a write of EVC_SRC_CFG_`index` in a function's view that changes sense. -/
def execSenseChange (fn index value : Nat) (s : State) : Host.Outcome State Fault Refusal :=
  .next (s.accessed fn (viewAddr fn (4 * index) (0x8000 + 4 * index)) (fun s => s.srcCfgWrite fn index value))

/-- SOURCE_RETARGET (R380): a write of EVC_SRC_CFG_`index` in a function's view that changes the queue. -/
def execSourceRetarget (fn index value : Nat) (s : State) : Host.Outcome State Fault Refusal :=
  .next (s.accessed fn (viewAddr fn (4 * index) (0x8000 + 4 * index)) (fun s => s.srcCfgWrite fn index value))

/-! ### Queue configuration (R373) -/

/-- EQ_ENABLE (R373): a write of EQ_CFG. A queue the function does not own takes no write. -/
def execEqEnable (fn queue value : Nat) (s : State) : Host.Outcome State Fault Refusal :=
  .next (s.accessed fn (viewAddr fn (0xA000 + 32 * (queue % 64) + 8) (0xB000 + 32 * (queue % 64) + 8)) (fun s =>
    let q := queue % 64
    let x := s.evQueue q
    let vec := bitsOf value 29 24
    let size := bitsOf value 20 16
    if s.queueOwner q ≠ fn then s
    else if size < 4 || 16 < size || (x.en && (vec ≠ x.vector || size ≠ x.sizeCode)) then s.refuseView fn
    else if bitAt value 31 && !x.en then
      s.setEvQueue q { x with en := true, vector := vec, sizeCode := size, head := 0, wr := 0, phase := true, armed := true,
                              idleHint := false, window := false }
    else s.setEvQueue q { x with en := bitAt value 31, vector := vec, sizeCode := size }))

/-- A write of EQ_ADDR_LO, EQ_ADDR_HI or EQ_MOD (word `k` of the queue's block: 0, 1 or 3) by a function's view (R373). -/
def State.eqWordWrite (s : State) (fn q k value : Nat) : State :=
  let x := s.evQueue q
  if s.queueOwner q ≠ fn then s
  else if k = 0 then
    if x.en && bitsOf value 31 12 ≠ x.addrLo then s.refuseView fn else s.setEvQueue q { x with addrLo := bitsOf value 31 12 }
  else if k = 1 then
    if x.en && value % 2 ^ 32 ≠ x.addrHi then s.refuseView fn else s.setEvQueue q { x with addrHi := value % 2 ^ 32 }
  else if k = 3 then
    (s.setEvQueue q { x with modUsec := bitsOf value 31 16, modCount := bitsOf value 15 0 }).moderate q false
  else s

/-- A write of EVC_EQ_OWNER_w: PF0 only; refused whole when it gives a queue to function 9 to 15, or moves a queue whose en is
1 (R372). -/
def State.ownerWrite (s : State) (w value : Nat) : State :=
  let bad := (List.range 8).any (fun j =>
    let o := bitsOf value (4 * j + 3) (4 * j)
    8 < o || (o ≠ s.queueOwner (8 * w + j) && (s.evQueue (8 * w + j)).en))
  if bad then s.refuseView 0 else s.setReg (R.EVC_EQ_OWNER.addr w) (BitVec.ofNat 32 value)

/-! ### MSI-X masks (R378) -/

/-- The message of a vector that has become unmasked, if it is pending. -/
def State.sendPending (s : State) (fn vec : Nat) : State :=
  let key := fn * 64 + vec
  if Tab.get (fun _ => false) s.ev.msixPend key && masters s fn && !Tab.get (fun _ => false) s.ev.fnMask fn
      && !Tab.get (fun _ => true) s.ev.vecMask key then
    ({ s with ev := { s.ev with msixPend := Tab.set (fun _ => false) s.ev.msixPend key false } }).emit (s.vectorMessage fn vec)
  else s

/-- MSIX_UNMASK (R378): a vector's mask or the function mask is cleared and the pending messages are sent. -/
def execMsixUnmask (fn : Nat) (mask : MsixMask) (s : State) : Host.Outcome State Fault Refusal :=
  .next (
    match mask with
    | .vector v =>
      ({ s with ev := { s.ev with vecMask := Tab.set (fun _ => true) s.ev.vecMask (fn * 64 + v % 64) false } }).sendPending
        fn (v % 64)
    | .function =>
      (List.range 64).foldl (fun s v => s.sendPending fn v)
        { s with ev := { s.ev with fnMask := Tab.set (fun _ => false) s.ev.fnMask fn false } })

/-! ### Resets (R381, R382) -/

/-- A queue whose en is cleared stops capturing; everything else of it stays (R373). -/
def State.stopQueue (s : State) (q : Nat) : State := s.setEvQueue q { s.evQueue q with en := false }

/-- An IN_SERVICE source returns to IDLE, and one still asserted re-enters PENDING from its level. -/
def State.returnInService (s : State) (id : Nat) : State :=
  let x := s.src id
  if x.st = .inService then (s.setSrc id { x with st := .idle }).settleLevel id else s

/-- Every listed source by its number. -/
def State.listedSources (s : State) : List Nat := s.ev.srcs.map Prod.fst

/-- A hub control region reset or a device soft reset of the event controller (R381). -/
def State.eventsHubReset (s : State) : State :=
  let s := (List.range 64).foldl State.stopQueue s
  s.listedSources.foldl State.returnInService s

/-- A function-level reset of function `f` (R382). A source that has never been touched is masked already. -/
def State.eventsFlr (s : State) (f : Nat) : State :=
  let mine := (List.range 64).filter (fun q => s.queueOwner q == f)
  let s := mine.foldl State.stopQueue s
  s.listedSources.foldl (fun s id => if mine.contains (s.src id).queue then (s.maskSource id).returnInService id else s) s

end Sys2Proof.Machine
end

