-- ==== Sys2Proof/Machine/HostIf.lean ====
section
/-!
DEFINITION. The host interface (chapter 13): rings, doorbells, descriptor fetch and its checks, bus mastering, function-level
resets, and the ring-credit ledger.
-/
namespace Sys2Proof.Machine

/-! ### Ring set-up (R338 to R341) -/

/-- A ring set-up register field of a function: the HIF block's for PF0, the PRT block's for PF(n+1), in the same layout. -/
def ringField (fn : Nat) (f : RegField) : RegField :=
  if fn = 0 then f else { f with addr := portBlock (fnPort fn) 0 + (f.addr - 0x90000) }

/-- A ring set-up field as it stands. -/
def State.ring (s : State) (fn : Nat) (f : RegField) : Nat := s.fld (ringField fn f)

/-- Function `fn` is in function-level reset. -/
def State.inFlr (s : State) (fn : Nat) : Bool := s.hif.flr.contains fn

/-- Ring set-up writes are ignored: an operation is in progress, or the function is being reset (R341, R356). -/
def ringBusy (s : State) (fn : Nat) : Bool := s.ring fn R.HIF_RING_STATUS.busy == 1 || s.inFlr fn

def State.setRingResult (s : State) (fn code : Nat) : State := s.setFld (ringField fn R.HIF_RING_STATUS.result) code

/-- The first check of R339 that a creation fails, if any; RING_ADDR_LO holds no bits below 12, so 0x06 cannot occur. -/
def ringCheck (s : State) (fn : Nat) : Nat :=
  let cq := s.ring fn R.HIF_RING_CFG.kind == 1
  let i := s.ring fn R.HIF_RING_CFG.index
  let size := s.ring fn R.HIF_RING_CFG.size_code
  let quota := if cq then s.fld (R.HIF_QUOTA.cq_quota fn) else s.fld (R.HIF_QUOTA.sq_quota fn)
  if quota ≤ i then 0x01
  else if (if cq then (s.cq? fn i).isSome else (s.sq? fn i).isSome) then 0x02
  else if size < 4 || 16 < size then 0x03
  else if !cq && (s.ring fn R.HIF_RING_BUF.buf_size = 0 || s.ring fn R.HIF_RING_PARAM.weight = 0) then 0x04
  else if !cq && (s.cq? fn (s.ring fn R.HIF_RING_PARAM.cq)).isNone then 0x05
  else if (s.reg (ringField fn R.HIF_RING_ADDR_LO.addr_lo).addr).toNat % 4096 ≠ 0 then 0x06
  else 0x00

/-- RING_CREATE (R339): RING_OP with op 0 and go 1. -/
def execRingCreate (fn : Nat) (s : State) : Host.Outcome State Fault Refusal :=
  .next (s.accessed fn (ringField fn ⟨R.HIF_RING_OP.addr, 31, 31⟩).addr (fun s =>
    if ringBusy s fn then s.bump (hifCtr fn 7)
    else
      let code := ringCheck s fn
      let s := s.setRingResult fn code
      if code ≠ 0 then s
      else
        let i := s.ring fn R.HIF_RING_CFG.index
        let base := s.ring fn R.HIF_RING_ADDR_LO.addr_lo * 4096 + s.ring fn R.HIF_RING_ADDR_HI.addr_hi * 2 ^ 32
        let size := s.ring fn R.HIF_RING_CFG.size_code
        if s.ring fn R.HIF_RING_CFG.kind = 1 then
          s.setCq fn i { base := base, sizeCode := size, notify := s.ring fn R.HIF_RING_PARAM.notify_en == 1, head := 0, wr := 0,
                         phase := true, reserved := 0 }
        else
          s.setSq fn i { base := base, sizeCode := size, weight := s.ring fn R.HIF_RING_PARAM.weight,
                         bufSize := s.ring fn R.HIF_RING_BUF.buf_size, cq := s.ring fn R.HIF_RING_PARAM.cq, tail := 0,
                         fetchHead := 0, error := false, deleting := false, posted := 0, fetched := 0, completed := 0 }))

/-- The commands of a function that wait without limit at a port: posted receive buffers, and PLOAM and management messages not yet
sent; `which` selects them. -/
def waitingAt (x : TcfState) (which : Issue → Bool) : List Issue :=
  (x.rxBufs.map RxBuf.iss ++ x.hostQ.map HostPloam.iss ++ x.omciQ.map OmciSdu.iss).filter which

/-- TCF_STATUS follows the queues. -/
def State.tcfStatus (s : State) (p : Port) : State :=
  let t := (s.port p).tcf
  let s := (s.setFld (R.TCF_STATUS.ploam_queued p) t.hostQ.length).setFld (R.TCF_STATUS.rx_posted p) t.rxBufs.length
  s.setFlag (R.TCF_STATUS.ds_frag_pending p) t.cont.isSome

/-- Those commands leave the port's queues; the ones that stay keep their order (R341, R356). -/
def State.withdraw (s : State) (p : Port) (which : Issue → Bool) : State :=
  (s.modTcf p (fun x => { x with
    rxBufs := x.rxBufs.filter (fun b => !which b.iss), hostQ := x.hostQ.filter (fun b => !which b.iss),
    omciQ := x.omciQ.filter (fun b => !which b.iss) })).tcfStatus p

/-- A CQ is gone: its ring and its source's condition. -/
def State.dropCq (s : State) (fn i : Nat) : State :=
  let s := s.level (cqSource s fn i) false 0
  { s with hif := { s.hif with cqs := Tab.del s.hif.cqs (ringKey fn i) } }

/-- RING_DELETE (R341): RING_OP with op 1 and go 1. -/
def execRingDelete (fn : Nat) (s : State) : Host.Outcome State Fault Refusal :=
  .next (s.accessed fn (ringField fn ⟨R.HIF_RING_OP.addr, 31, 31⟩).addr (fun s =>
    let i := s.ring fn R.HIF_RING_CFG.index
    if ringBusy s fn then s.bump (hifCtr fn 7)
    else if s.ring fn R.HIF_RING_CFG.kind = 1 then
      if (s.cq? fn i).isNone then s.setRingResult fn 0x02
      else if s.hif.sqs.any (fun e => decide (e.1 / 1024 = fn) && decide (e.2.cq = i)) then s.setRingResult fn 0x05
      else (s.dropCq fn i).setRingResult fn 0x00
    else
      match s.sq? fn i with
      | none => s.setRingResult fn 0x02
      | some q =>
        let which := fun (k : Issue) => decide (k.fn = fn) && decide (k.sq = i)
        let s := (s.setSq fn i { q with deleting := true }).setFld (ringField fn R.HIF_RING_STATUS.busy) 1
        s.forPorts (fun s p =>
          let l := waitingAt (s.port p).tcf which
          l.foldl (fun s k => (s.complete k { Result.ok 0 0 with status := .aborted }).bump (hifCtr fn 6)) (s.withdraw p which))))

/-- RING_DELETE_DONE (R341): no command of the deleted SQ is left; the ring goes and busy clears. -/
def execRingDeleteDone (fn : Nat) (s : State) : Host.Outcome State Fault Refusal :=
  .next (
    let i := s.ring fn R.HIF_RING_CFG.index
    match s.sq? fn i with
    | none => s
    | some q =>
      if q.deleting && !s.hif.inFlight.any (fun f => decide (f.iss.fn = fn) && decide (f.iss.sq = i)) then
        (({ s with hif := { s.hif with sqs := Tab.del s.hif.sqs (ringKey fn i) } }).setFld
          (ringField fn R.HIF_RING_STATUS.busy) 0).setRingResult fn 0x00
      else s)

/-- A write of HIF_QUOTA_f (R338): refused when the nine quotas would sum to more than 1,024, when a quota would fall below its
highest created index plus 1, or when cq_base of a function that has a CQ would move; cq_base of the higher functions follows. -/
def State.quotaWrite (s : State) (f value : Nat) : State :=
  let cqq := bitsOf value 26 16
  let sqq := bitsOf value 10 0
  let cqOf := fun g => if g = f then cqq else s.fld (R.HIF_QUOTA.cq_quota g)
  let sqOf := fun g => if g = f then sqq else s.fld (R.HIF_QUOTA.sq_quota g)
  let sum := fun (q : Nat → Nat) => ((List.range 9).map q).sum
  let moves := cqq ≠ s.fld (R.HIF_QUOTA.cq_quota f) && s.hif.cqs.any (fun e => decide (f < e.1 / 1024))
  let below := s.hif.cqs.any (fun e => decide (e.1 / 1024 = f) && decide (cqq < e.1 % 1024 + 1))
    || s.hif.sqs.any (fun e => decide (e.1 / 1024 = f) && decide (sqq < e.1 % 1024 + 1))
  if 1024 < sum cqOf || 1024 < sum sqOf || 1024 < cqq || 1024 < sqq || moves || below then s.setFlag R.HIF_STATUS.cfg_err true
  else
    let s := (s.setFld (R.HIF_QUOTA.cq_quota f) cqq).setFld (R.HIF_QUOTA.sq_quota f) sqq
    (List.range 9).foldl (fun s g => s.setFld (R.HIF_CQ_BASE.cq_base g) ((List.range g).map cqOf).sum) s

/-! ### Doorbells (R337, R343, R344) -/

/-- A bad doorbell: counted, flagged, and the function's ring-error event. -/
def State.badDoorbell (s : State) (fn : Nat) : State :=
  ((s.bump (hifCtr fn 3)).setFlag (R.HIF_RING_ERR.bad_db fn) true).pulse (0x1300 + fn) 0

/-- SQ_DOORBELL (R343). A doorbell of no ring, of one being deleted, of a function in reset, or before
DEVICE_READY is ignored and counted. -/
def execSqDoorbell (fn ring value : Nat) (s : State) : Host.Outcome State Fault Refusal :=
  .next (
    match s.sq? fn ring with
    | none => s.bump (hifCtr fn 7)
    | some q =>
      let n := 2 ^ q.sizeCode
      let tail := bitsOf value 15 0
      let more := (tail + n - q.tail) % n
      let free := n - 1 - (q.tail + n - q.fetchHead) % n
      if q.deleting || s.inFlr fn || !s.ready then s.bump (hifCtr fn 7)
      else if bitsOf value 31 16 ≠ 0 || n ≤ tail || free < more then s.badDoorbell fn
      else s.setSq fn ring { q with tail := tail, posted := (q.posted + more) % 2 ^ 32 })

/-- CQ_DOORBELL (R344, R359). -/
def execCqDoorbell (fn ring value : Nat) (s : State) : Host.Outcome State Fault Refusal :=
  .next (
    match s.cq? fn ring with
    | none => s.bump (hifCtr fn 7)
    | some q =>
      let n := 2 ^ q.sizeCode
      let head := bitsOf value 15 0
      if s.inFlr fn || !s.ready then s.bump (hifCtr fn 7)
      else if bitsOf value 31 16 ≠ 0 || n ≤ head || (q.wr + n - q.head) % n < (head + n - q.head) % n then s.badDoorbell fn
      else (s.setCq fn ring { q with head := head }).notifyCq fn ring)

/-! ### Descriptor fetch and its checks (R342, R346, R350) -/

/-- What an opcode takes: no buffer, or a buffer the device reads, writes, or both, with its fixed size where Table 13-6,
Table 17-9 or Table 21-7 gives one. -/
inductive Buf where
  | absent
  | reads (fixed : Option Nat)
  | writes (fixed : Option Nat)
  deriving DecidableEq, Repr

/-- The opcodes the manual defines, with their buffers (Tables 13-6, 16-3, 17-9 and 21-7). -/
def opcodeBuf (op : Nat) : Option Buf :=
  match op with
  | 0x00 | 0x01 => some (.reads (some 64))
  | 0x02 => some .absent
  | 0x03 => some (.writes (some 64))
  | 0x04 => some (.reads none)
  | 0x10 | 0x11 | 0x12 => some .absent
  | 0x13 => some (.writes (some 32))
  | 0x14 => some .absent
  | 0x15 => some (.writes (some 16))
  | 0x20 => some (.reads (some 40))
  | 0x21 => some (.reads none)
  | 0x22 => some (.writes none)
  | 0x24 => some (.reads (some 32))
  | 0x25 | 0x26 | 0x27 | 0x28 | 0x29 | 0x2A | 0x2B => some .absent
  | 0x2C => some (.reads (some 128))
  | 0x2D | 0x2E | 0x30 => some .absent
  | 0x31 => some (.reads none)
  | 0x40 => some (.writes (some 16))
  | 0x41 => some .absent
  | 0x42 | 0x43 => some (.writes none)
  | 0x60 => some (.reads (some 8192))
  | 0x61 => some (.reads none)
  | 0x62 | 0x63 | 0x64 | 0x65 | 0x66 => some .absent
  | 0x70 => some (.reads (some 8192))
  | 0x71 => some (.writes none)
  | 0x80 | 0x81 => some .absent
  | 0x82 => some (.writes none)
  | 0x83 => some (.writes (some 32))
  | _ => none

/-- The operand words that an opcode's table names, bit i for op i (Tables 13-6, 16-7, 17-9 and 21-7). -/
def opcodeWords (op : Nat) : Nat :=
  match op with
  | 0x04 | 0x10 | 0x11 | 0x42 => 0b11
  | 0x14 => 0b1111
  | 0x20 | 0x22 | 0x31 | 0x60 | 0x62 | 0x63 | 0x64 | 0x65 | 0x66 | 0x70 | 0x71 | 0x81 | 0x83 => 0
  | 0x25 => 0b111
  | 0x27 | 0x40 => 0b1111
  | 0x2A => 0b11111
  | 0x41 => 0b111111
  | 0x80 => 0b1011
  | 0x82 => 0b110
  | _ => 1

/-- The operand words of a descriptor: op0 to op3, and of an opcode without a buffer op4 and op5 in the place of the address (R342). -/
def descriptorWords (d : Descriptor) : List Nat :=
  d.ops ++ if opcodeBuf d.opcode = some .absent then [d.addr % 2 ^ 32, d.addr / 2 ^ 32] else []

/-- An operand word that the opcode's table does not name is non-zero (R352). -/
def wordsUnnamed (d : Descriptor) : Bool := (descriptorWords d).zipIdx.any (fun e => e.1 ≠ 0 && !bitAt (opcodeWords d.opcode) e.2)

/-- A submission descriptor from its 32 bytes (Table 13-3). -/
def descriptorOf (b : List Byte) : Descriptor :=
  let w := fun (k : Nat) => leNat ((b.drop (4 * k)).take 4)
  { tag := bitsOf (w 0) 31 16, rsv0 := bitsOf (w 0) 15 11, port := Fin.ofNat 8 (bitsOf (w 0) 10 8), opcode := bitsOf (w 0) 7 0,
    rsv1 := bitsOf (w 1) 31 17, fence := bitAt (w 1) 16, length := bitsOf (w 1) 15 0, addr := w 3 * 2 ^ 32 + w 2,
    ops := [w 4, w 5, w 6, w 7] }

/-- The first generic check of Table 13-4 that a descriptor fails; `badBuffer` is a buffer read that came back bad. -/
def descriptorCheck (d : Descriptor) (bufSize : Nat) (badBuffer : Bool) : Option Status :=
  match opcodeBuf d.opcode with
  | none => some .badOpcode
  | some b =>
    let hasBuf := decide (b ≠ .absent)
    let fixed := match b with
      | .absent => none
      | .reads x => x
      | .writes x => x
    let readsBuf := match b with
      | .reads _ => true
      | _ => false
    if d.rsv0 ≠ 0 || d.rsv1 ≠ 0 || (hasBuf && d.addr % 8 ≠ 0) || (!hasBuf && d.length ≠ 0) then some .malformed
    else if hasBuf && d.length = 0 then some .lengthZero
    else if hasBuf && bufSize < d.length then some .lengthOver
    else if (match fixed with | some n => decide (n ≠ d.length) | none => false) then some .lengthBad
    else if badBuffer && readsBuf then some .dmaError
    else none

/-- The port a command acts on: the named one on PF0, the function's own elsewhere (Table 13-3). -/
def commandPort (fn : Nat) (d : Descriptor) : Port := if fn = 0 then d.port else fnPort fn

/-- A descriptor that has been fetched: counted, its entry reused, one CQ entry reserved. -/
def State.fetched (s : State) (fn sq : Nat) (q : Sq) (c : Cq) : State :=
  let n := 2 ^ q.sizeCode
  ((s.bump (hifCtr fn 0)).setSq fn sq { q with fetchHead := (q.fetchHead + 1) % n, fetched := (q.fetched + 1) % 2 ^ 32 }).setCq fn
    q.cq { c with reserved := c.reserved + 1 }

/-- An SQ may be fetched from: ACTIVE, with posted entries, its function neither in reset nor barred from host memory (R346, R355). -/
def mayFetch (s : State) (fn : Nat) (q : Sq) : Bool :=
  !q.error && !q.deleting && q.tail ≠ q.fetchHead && Tab.get (fun _ => false) s.hif.bme fn && !s.hubFenced 2 && !s.inFlr fn && s.ready

/-- A CQ has an entry that is neither reserved nor unconsumed (R346). -/
def freeEntry (c : Cq) : Bool := decide ((c.wr + 2 ^ c.sizeCode - c.head) % 2 ^ c.sizeCode + c.reserved + 1 < 2 ^ c.sizeCode)

/-- The SQs that the round robin serves: those that may be fetched from, with a free reservation. -/
def fetchable (s : State) : List Nat :=
  (s.hif.sqs.filter (fun e => mayFetch s (e.1 / 1024) e.2 && ((s.cq? (e.1 / 1024) e.2.cq).map freeEntry).getD false)).map Prod.fst

/-- The weighted round robin as a descriptor of an SQ is fetched (R346): its turn goes on for up to weight descriptors, or begins, once in a round;
none where another SQ's turn goes on or comes first. The order of the SQs within a round is that of the rows: DESIGN CHOICE (log entry 92). -/
def nextTurn (s : State) (k weight : Nat) : Option (Nat × List Nat) :=
  let goes := fun (x : Nat) => (fetchable s).contains x && (s.hif.sqs.any (fun e => e.1 == x && decide (s.hif.turn < e.2.weight)))
  if s.hif.served.getLast? = some k && decide (s.hif.turn < weight) then some (s.hif.turn + 1, s.hif.served)
  else if s.hif.served.getLast? ≠ some k && s.hif.served.getLast?.any goes then none
  else if !s.hif.served.contains k then some (1, s.hif.served ++ [k])
  else if (fetchable s).all (fun x => s.hif.served.contains x) then some (1, [k])
  else none

/-- A descriptor that has been read is held inside the device with its operands, its SQ and its CQ one entry further; a check of R350 that fails
completes it. -/
def State.takeDescriptor (s : State) (fn sq : Nat) (q : Sq) (c : Cq) (bytes : List Byte) (bad : Bool) : State :=
  let d := descriptorOf bytes
  let iss : Issue := { fn := fn, sq := sq, tag := d.tag, port := commandPort fn d, unnamed := wordsUnnamed d }
  let s := s.fetched fn sq q c
  let s := { s with hif := { s.hif with
    inFlight := s.hif.inFlight ++ [{ iss := iss, opcode := d.opcode, ops := descriptorWords d, fence := d.fence, started := false }] } }
  match descriptorCheck d q.bufSize bad with
  | none => s
  | some st => s.complete iss { Result.ok 0 0 with status := st }

/-- DESCRIPTOR_FETCH (R346, R350, R355): the entry at the fetch head of an ACTIVE SQ. Without a free reservation the SQ pauses.
The ring's state is used first: poison in it fences the hub control region, and nothing is fetched (Table 12-4). -/
def execDescriptorFetch (fn sq : Nat) (outcome : FetchOutcome) (s : State) : Host.Outcome State Fault Refusal :=
  .next (
    let s := if s.hubFenced 2 then s else s.useHub 0 (fn % 9 * 1024 + sq % 1024)
    match s.sq? fn sq with
    | none => s
    | some q =>
      match s.cq? fn q.cq with
      | none => s
      | some c =>
        if !mayFetch s fn q then s
        else if !freeEntry c then s.bump (hifCtr fn 4)
        else
          match nextTurn s (ringKey fn sq) q.weight with
          | none => s
          | some (n, served) =>
          let s := ({ s with hif := { s.hif with turn := n, served := served } } : State).emit (.busRead fn (q.entryAddr q.fetchHead) 32)
          match outcome with
          | .good bytes => s.takeDescriptor fn sq q c bytes false
          | .badBuffer bytes => s.takeDescriptor fn sq q c bytes true
          | .failed =>
            let s := (s.setSq fn sq { q with error := true }).bump (hifCtr fn 5)
            ((s.setFlag (R.HIF_RING_ERR.err fn) true).setFld (R.HIF_RING_ERR.sq fn) sq).pulse (0x1300 + fn) 0)

/-- What has waited for a function's Bus Master Enable. -/
def Late.fn : Late → Nat
  | .send fn _ => fn
  | .done iss _ => iss.fn

/-- It goes to host memory. -/
def State.sendLate (s : State) (x : Late) : State :=
  match x with
  | .send _ o => s.emit o
  | .done iss r => s.writeCompletion iss r

/-- BUS_MASTER_ENABLE_CHANGE (R355): when the bit is set, what waited for it goes in order, and the messages of vectors that are not masked. -/
def execBusMasterEnableChange (fn : Nat) (on : Bool) (s : State) : Host.Outcome State Fault Refusal :=
  .next (
    let s := { s with hif := { s.hif with bme := Tab.set (fun _ => false) s.hif.bme fn on } }
    if !on then s
    else
      let mine := s.late.filter (fun x => x.fn == fn)
      let s := mine.foldl State.sendLate { s with late := s.late.filter (fun x => x.fn ≠ fn) }
      (List.range 64).foldl (fun s v => s.sendPending fn v) s)

/-! ### Function-level resets (R356, R357) -/

/-- The rings of a function go; its commands in execution are abandoned without completions (R356, steps 2 and 4). -/
def State.dropRings (s : State) (fn : Nat) : State :=
  let gone := s.hif.inFlight.filter (fun f => f.iss.fn = fn)
  let s := s.bumpBy (hifCtr fn 6) gone.length
  let cqs := (s.hif.cqs.filter (fun e => e.1 / 1024 = fn)).map (fun e => e.1 % 1024)
  let s := cqs.foldl (fun s i => s.dropCq fn i) s
  let s := { s with late := s.late.filter (fun x => x.fn ≠ fn), hif := { s.hif with
    sqs := s.hif.sqs.filter (fun e => e.1 / 1024 ≠ fn), inFlight := s.hif.inFlight.filter (fun f => f.iss.fn ≠ fn),
    waiting := s.hif.waiting.filter (fun i => i.fn ≠ fn) } }
  s.setFld (ringField fn R.HIF_RING_STATUS.busy) 0

/-- What the commands in execution at a port have not applied yet is abandoned with them: keys, switches and Alloc-ID commands that no tick has
captured. A switch, a handover and the rest of a management SDU that are under way go on, and complete nothing (R356, step 2). -/
def State.disownAt (s : State) (p : Port) (which : Issue → Bool) : State :=
  let own := fun (i : Option Issue) => i.filter (fun k => !which k)
  let s := s.modTcf p (fun t => { t with
    pendKeys := t.pendKeys.filter (fun k => !which k.iss), newSwitches := t.newSwitches.filter (fun x => !x.iss.any which),
    switches := t.switches.map (fun x => { x with iss := own x.iss }),
    cont := t.cont.map (fun d => { d with mgmt := own d.mgmt }) })
  let s := s.modDba p (fun d => { d with cmds := d.cmds.filter (fun c => match c with
    | .set i _ _ _ => !which i
    | .clear i _ _ => !which i) })
  s.modProt p (fun x => { x with switchReq := own x.switchReq, handover := x.handover.map (fun h => (h.1, h.2.1, own h.2.2)) })

/-- The same of the commands in execution in the hub: scrub passes and fills end, pair keys do not load, and an activation that no tick has
captured is not made. -/
def State.disown (s : State) (which : Issue → Bool) : State :=
  let own := fun (i : Option Issue) => i.filter (fun k => !which k)
  let s := s.forPorts (fun s p => s.disownAt p which)
  let active := (s.mem.scrubs.filter (fun e => which e.2.iss)).foldl (fun x e => withBit x e.1 false) (s.fld R.MEM_SCRUB_STATUS.active)
  let s := s.setFld R.MEM_SCRUB_STATUS.active active
  { s with
    mem := { s.mem with scrubs := s.mem.scrubs.filter (fun e => !which e.2.iss), filling := s.mem.filling.filter (fun e => !which e.1) },
    pair := { s.pair with keyDue := s.pair.keyDue.filter (fun e => !which e.1) },
    fw := { s.fw with cmd := own s.fw.cmd, actReq := s.fw.actReq && !s.fw.cmd.any which,
                      restore := s.fw.restore.map (fun r => { r with iss := own r.iss }) } }

/-- Steps 2 to 4 of R356: commands and messages of the function are withdrawn and its rings deleted. -/
def State.flrCommands (s : State) (fn : Nat) : State :=
  let which := fun (k : Issue) => k.fn == fn
  ((s.forPorts (fun s p => s.withdraw p which)).disown which).dropRings fn

/-- The MSI-X state and configuration of a function return to reset (R356, step 4): every vector masked, no message pending, no bus
mastering. -/
def State.resetMsix (s : State) (fn : Nat) : State :=
  { s with
    ev := { s.ev with vecMask := s.ev.vecMask.filter (fun e => e.1 / 64 ≠ fn), fnMask := Tab.del s.ev.fnMask fn,
                      msixPend := s.ev.msixPend.filter (fun e => e.1 / 64 ≠ fn),
                      msixTable := s.ev.msixTable.filter (fun e => e.1 / 256 ≠ fn) },
    hif := { s.hif with bme := Tab.del s.hif.bme fn } }

/-- HIF_STATUS.flr_active follows the functions in reset. -/
def State.setFlr (s : State) (fn : Nat) (b : Bool) : State :=
  let l := s.hif.flr.filter (· ≠ fn)
  let s := { s with hif := { s.hif with flr := if b then l ++ [fn] else l } }
  s.setFld R.HIF_STATUS.flr_active (withBit (s.fld R.HIF_STATUS.flr_active) fn b)

/-- FUNCTION_LEVEL_RESET (R356, R382): the region reset it asks for is captured at the next tick, and the function-level reset completes with
it (R496). -/
def execFunctionLevelReset (port : Port) (s : State) : Host.Outcome State Fault Refusal :=
  .next (
    let fn := port.val + 1
    let cold := bitAt (s.fld R.HIF_FLR_CTL.cold_on_flr) port.val
    let s := (((s.setFlr fn true).flrCommands fn).resetMsix fn).eventsFlr fn
    s.modReset port (fun r => { r with warmReq := r.warmReq || !cold, coldReq := r.coldReq || cold }))

/-- PF0_FUNCTION_LEVEL_RESET (R357): PF0's host interface state only. -/
def execPf0FunctionLevelReset (s : State) : Host.Outcome State Fault Refusal :=
  .next (((s.flrCommands 0).resetMsix 0).eventsFlr 0)

/-! ### The ring-credit ledger (R347, Table 1-8) -/

/-- The terms of a ring balance: fetched − completed ≤ posted − fetched + ring size, and completions written ≤ descriptors
fetched, modulo 2^32. -/
def ringBalanced (q : Sq) : Bool :=
  let out := (q.fetched + 2 ^ 32 - q.completed) % 2 ^ 32
  decide (out ≤ (q.posted + 2 ^ 32 - q.fetched) % 2 ^ 32 + 2 ^ q.sizeCode) && decide (out < 2 ^ 31)

/-- The reservations of a CQ are the fetched and not completed descriptors of its SQs. -/
def cqBalanced (s : State) (fn i : Nat) : Bool :=
  match s.cq? fn i with
  | none => true
  | some c => c.reserved == ((s.hif.sqs.filter (fun e => e.1 / 1024 = fn && e.2.cq = i)).map (fun e =>
      (e.2.fetched + 2 ^ 32 - e.2.completed) % 2 ^ 32)).sum

/-- The terms of a failing ring ledger are held (R347). -/
def State.holdLedger (s : State) (fn i : Nat) (q : Sq) : State :=
  let s := (s.setFld (R.HIF_LEDGER_0.kind fn) 0).setFld (R.HIF_LEDGER_0.ring fn) i
  ((s.setFld (R.HIF_LEDGER_1.posted fn) q.posted).setFld (R.HIF_LEDGER_2.fetched fn) q.fetched).setFld
    (R.HIF_LEDGER_3.completed fn) q.completed

/-- The failing rings of a function at a tick: an SQ's own terms do not balance, or its CQ's reservations do not. -/
def failingRings (s : State) (fn : Nat) : List (Nat × Sq) :=
  (s.hif.sqs.filter (fun e => e.1 / 1024 = fn && !(ringBalanced e.2 && cqBalanced s fn e.2.cq))).map (fun e => (e.1 % 1024, e.2))

end Sys2Proof.Machine
end

