-- ==== Sys2Proof/Machine/Phy.lean ====
section
/-!
DEFINITION. The arithmetic of the line: PAM4 and the known patterns (chapters 4 and 5), the two codes in series (chapter 6), the equaliser's
output and the correlators' metric.
-/
namespace Sys2Proof.Machine

/-! ### Bits, symbols and patterns (R88, R89, R145) -/

/-- The Gray code of R88: a bit pair, the more significant first, as a PAM4 symbol. -/
def pam4 (hi lo : Bool) : Int := if hi then (if lo then 1 else 3) else (if lo then -1 else -3)

/-- Consecutive bit pairs as symbols. -/
def pam4Symbols : List Bool → List Int
  | a :: b :: l => pam4 a b :: pam4Symbols l
  | _ => []

/-- Bits `n − 1` down to 0 of a number. -/
def bitsDown (n x : Nat) : List Bool := (List.range n).map (fun i => bitAt x (n - 1 - i))

/-- The bits of a byte string, each byte's most significant first. -/
def byteBits (l : List Byte) : List Bool := l.flatMap (fun b => bitsDown 8 b.toNat)

/-- The number that a list of bits spells, its first the most significant. -/
def bitsNat (l : List Bool) : Nat := l.foldl (fun x b => 2 * x + bit01 b) 0

/-- `n` bits of a Fibonacci shift register: the oldest bit leaves, and the sum of the bits at `taps` (1 the newest) enters. Which end the
output is taken from the spec does not say: it is the last stage (DESIGN CHOICE, log entry 83). -/
def lfsr (taps : List Nat) : Nat → List Bool → List Bool
  | 0, _ => []
  | n + 1, reg =>
    (reg.getLast?).getD false
      :: lfsr taps n ((taps.foldl (fun b t => b != (reg[t - 1]?).getD false) false) :: reg.dropLast)

/-- The preamble period (R88): 127 bits of PRBS7 x^7 + x^6 + 1 from all ones, then a 0, as 64 symbols. -/
def preamblePeriod : List Int := pam4Symbols (lfsr [7, 6] 127 (List.replicate 7 true) ++ [false])

/-- The preamble period rotated to start at symbol `i`. -/
def preambleFrom (i : Nat) : List Int := preamblePeriod.rotateLeft (i % 64)

/-- The delimiter (R89): a 64-bit constant from bit 63 down, a 1 as +3 and a 0 as −3. -/
def outerLevels (l : List Bool) : List Int := l.map (fun b => if b then 3 else -3)
def delimiterBits : List Bool := bitsDown 64 0xB5C31E6AF20D9473

/-- The training pattern (R145): PRBS13 x^13 + x^12 + x^2 + x + 1 from all ones, `n` symbols. -/
def trainingSymbols (n : Nat) : List Int := pam4Symbols (lfsr [13, 12, 2, 1] (2 * n) (List.replicate 13 true))

/-! ### The equaliser (R43, R120 to R123) -/

/-- The FFE taps a port power mode uses (Table 2-1). -/
def tapUsed (mode k : Nat) : Bool :=
  if mode = 4 then true else if mode = 3 then decide (4 ≤ k ∧ k ≤ 26) else decide (8 ≤ k ∧ k ≤ 22)

/-- The taps of a live set: those the mode does not use are zero (R120). -/
def usedTaps (mode : Nat) (taps : Vector Int 31) : Vector Int 31 :=
  Vector.ofFn (fun k => if tapUsed mode k.val then taps[k] else 0)

/-- The FFE output for a window of 31 converter words around a symbol, in quarter-LSB: the product sum rounded to two fractional bits, plus the
bias, saturated (R120). -/
def ffe (taps : Vector Int 31) (bias : Int) (window : List Int) : Int :=
  let acc := (List.finRange 31).foldl (fun a k => a + taps[k] * (window[30 - k.val]?).getD 0) 0
  clampInt (-512) 511 (roundDiv 0 acc 1024 + bias)

/-- The outputs for `n` symbols `stride` converter words apart, from words that begin 15 before the first (R120, R124). -/
def ffeRun (taps : Vector Int 31) (bias : Int) (stride n : Nat) (words : List Int) : List Int :=
  (List.range n).map (fun i => ffe taps bias ((words.drop (i * stride)).take 31))

/-- The target of a symbol in 1/128 LSB: (T/3) times the symbols, those before it weighted by cm and, in G50 mode, cm2, in 1/128 (R122, R173). -/
def target (t cm cm2 a prev prev2 : Int) : Int := t / 3 * (128 * a + cm * prev + cm2 * prev2)

/-- The sum of squared errors of outputs in 1/128 LSB against symbols, each with the one before it; the first only stands before the second. -/
def squaredErrors (t cm : Int) : List Int → List Int → Nat
  | _ :: x :: xs, p :: a :: as => ((x - target t cm 0 a p 0) ^ 2).toNat + squaredErrors t cm (x :: xs) (a :: as)
  | _, _ => 0

/-! ### The correlators (R91, R99, R104) -/

/-- The sum of products of two lists. -/
def dot (x y : List Int) : Int := ((x.zip y).map (fun e => e.1 * e.2)).sum

/-- The metric of a block of equaliser outputs against a pattern, in quarter-dB from 0 to 255 (R99): the number of steps j with 10^j (E − C²)^40 at
or below C^80, where E = E_r E_q. A metric between two steps is taken down or up as `Config.metricUp` says; that of a block without energy
is open. -/
def metricOf (open_ : Nat) (r q : List Int) : Nat :=
  let c2 := (dot r q * dot r q).toNat
  let e := (dot r r * dot q q).toNat
  if e = 0 then open_ % 256
  else
    let m := ((List.range 255).filter (fun j => decide (10 ^ (j + 1) * (e - c2) ^ 40 ≤ c2 ^ 40))).length
    min 255 (m + bit01 (decide (10 ^ m * (e - c2) ^ 40 < c2 ^ 40) && Config.metricUp c2 e))

/-- The positions at which the sign decisions of outputs differ from outer-level symbols (R104); an output of 0 decides as `sgn` in R133, +1. -/
def signDiffs (y pattern : List Int) : Nat := ((y.zip pattern).filter (fun e => decide (0 ≤ e.1) != decide (0 ≤ e.2))).length

/-! ### The convolutional code (R153 to R156) -/

/-- One step of the encoder: from state 8 u(n−1) + 4 u(n−2) + 2 u(n−3) + u(n−4) and a bit, the coded bits c1 and c2 and the next state. -/
def convStep (s : Nat) (u : Bool) : Bool × Bool × Nat :=
  let c1 := u != (bitAt s 1 != bitAt s 0)
  let c2 := u != (bitAt s 3 != (bitAt s 2 != bitAt s 0))
  (c1, c2, 8 * bit01 u + s / 2)

/-- The state after a run of bits. -/
def convState (s : Nat) (l : List Bool) : Nat := l.foldl (fun s u => (convStep s u).2.2) s

/-- The bits kept of a run of input bits, the first of them at column `j` of Table 6-2: both of column 0, then c2 of odd columns and c1 of even
ones. -/
def convRun (s : Nat) : Nat → List Bool → List Bool
  | _, [] => []
  | j, u :: l =>
    let (c1, c2, s') := convStep s u
    (if j = 0 then [c1, c2] else if j % 2 = 1 then [c2] else [c1]) ++ convRun s' ((j + 1) % 15) l

/-- The symbols of a run of input bits that begins with a period (R155). -/
def convSymbols (s : Nat) (l : List Bool) : List Int := pam4Symbols (convRun s 0 l)

/-! ### The outer code (R152, R159) -/

/-- A full codeword in its order on the line: information bits, then the parity bits of G.9804.2. -/
def ldpcEncode (info : List Bool) : List Bool := info ++ (Config.ldpcParity info).toList

/-- The bits sent of a shortened codeword: its own information bits, and the parity over them with zeros before them (R159). -/
def ldpcShortened (info : List Bool) : List Bool :=
  info ++ (Config.ldpcParity (List.replicate (14592 - info.length) false ++ info)).toList

/-! ### The trellis (R162 to R165, R173) -/

/-- One branch of a trellis section: states, the symbol it sends, the symbols before it that its target weighs, its input bits. -/
structure Branch where
  src : Nat
  dst : Nat
  sym : Int
  prev : Int
  prev2 : Int
  bits : List Bool
  deriving DecidableEq, Repr

/-- The four levels by index, and back. -/
def levelAt (i : Nat) : Int := 2 * (i : Int) - 3
def levelIdx (a : Int) : Nat := ((a + 3) / 2).toNat

/-- The symbol that a section sends from a code state for its input bits, with the state after it: section 0 of a period takes one bit, the
others two (R154, R162). -/
def codeSection (m s : Nat) (u : List Bool) : Int × Nat :=
  match u with
  | [a] => let x := convStep s a; (pam4 x.1 x.2.1, x.2.2)
  | a :: b :: _ =>
    let x := convStep s a
    let y := convStep x.2.2 b
    (pam4 x.2.1 y.1, y.2.2)
  | [] => (0, s + m)

/-- The inputs of a section: one bit or two; in the tail known zeros (R163). -/
def sectionInputs (m : Nat) (zeros : Bool) : List (List Bool) :=
  if m = 0 then (if zeros then [[false]] else [[false], [true]])
  else if zeros then [[false, false]] else [[false, false], [false, true], [true, false], [true, true]]

/-- The branches of section `m` of a period. With channel memory a state is 4 × code state + the index of the symbol before (Table 6-3). -/
def codeBranches (memory : Bool) (m : Nat) (zeros : Bool) : List Branch :=
  (List.range 16).flatMap (fun s => (sectionInputs m zeros).flatMap (fun u =>
    let x := codeSection m s u
    if memory then (List.range 4).map (fun p =>
      { src := 4 * s + p, dst := 4 * x.2 + levelIdx x.1, sym := x.1, prev := levelAt p, prev2 := 0, bits := u })
    else [{ src := s, dst := x.2, sym := x.1, prev := 0, prev2 := 0, bits := u }]))

/-- The branches of a G50 bit: the state is 2 × the bit before + the one before that, a 1 sent as +3 (R91, R124, R173). -/
def g50Branches : List Branch :=
  (List.range 4).flatMap (fun s => [false, true].map (fun b =>
    { src := s, dst := 2 * bit01 b + s / 2, sym := if b then 3 else -3, prev := if bitAt s 1 then 3 else -3,
      prev2 := if bitAt s 0 then 3 else -3, bits := [b] }))

/-- A section with the cost of each branch: the squared error of an output in 1/128 LSB (R162; all costs of a window are divided by the same
noise estimate, so the division comes last). -/
def costed (t cm cm2 x : Int) (bs : List Branch) : List (Branch × Nat) :=
  bs.map (fun b => (b, ((x - target t cm cm2 b.sym b.prev b.prev2) ^ 2).toNat))

/-- The lower of two path costs; none is a state that no path reaches. -/
def lower : Option Nat → Option Nat → Option Nat
  | none, y => y
  | x, none => x
  | some a, some b => some (min a b)

def lowest (l : List (Option Nat)) : Option Nat := l.foldl lower none

/-- Path costs after a section from those before it, and those before it from those after it. -/
def forwardStep (n : Nat) (sec : List (Branch × Nat)) (x : List (Option Nat)) : List (Option Nat) :=
  (List.range n).map (fun d => lowest ((sec.filter (fun e => e.1.dst == d)).map (fun e => ((x[e.1.src]?).getD none).map (· + e.2))))
def backwardStep (n : Nat) (sec : List (Branch × Nat)) (x : List (Option Nat)) : List (Option Nat) :=
  (List.range n).map (fun d => lowest ((sec.filter (fun e => e.1.src == d)).map (fun e => ((x[e.1.dst]?).getD none).map (· + e.2))))

/-- The path costs before each section of a run, the first `x`. -/
def forwardRun (n : Nat) (x : List (Option Nat)) : List (List (Branch × Nat)) → List (List (Option Nat))
  | [] => []
  | sec :: l => x :: forwardRun n (forwardStep n sec x) l

/-- The path costs after each section of a run whose end is equally likely in every state. -/
def backwardRun (n : Nat) : List (List (Branch × Nat)) → List (List (Option Nat))
  | [] => []
  | [_] => [List.replicate n (some 0)]
  | _ :: sec :: l =>
    let r := backwardRun n (sec :: l)
    backwardStep n sec ((r.head?).getD []) :: r

/-- The best path through each branch of a section. -/
def through (sec : List (Branch × Nat)) (a b : List (Option Nat)) : List (Branch × Option Nat) :=
  sec.map (fun e => (e.1, match (a[e.1.src]?).getD none, (b[e.1.dst]?).getD none with
    | some x, some y => some (x + e.2 + y)
    | _, _ => none))

/-- The soft value of input bit `i` of a section (R164): the scaled and rounded difference of the best costs with the bit 1 and 0, held to ±31; a
bit that can have one value only is at the end of the range. The noise estimate is `num`/`den` in (1/128 LSB)²; a difference over an estimate of
0 is open. -/
def softBit (open_ num den scale i : Nat) (l : List (Branch × Option Nat)) : Int :=
  let best := fun (v : Bool) => lowest ((l.filter (fun e => (e.1.bits[i]?).getD false == v)).map Prod.snd)
  match best true, best false with
  | none, _ => 31
  | _, none => -31
  | some x, some y =>
    if num = 0 then clampInt (-31) 31 (signedOf 6 (open_ % 64))
    else clampInt (-31) 31 (roundDiv 3 (((x : Int) - y) * den * 2 ^ scale) (16 * num))

/-- The hard symbol decision of a section (R165): the symbol of its best branch, of several the one that `Config.tieSymbol` names. -/
def hardSymbol (l : List (Branch × Option Nat)) : Int :=
  match lowest (l.map Prod.snd) with
  | none => 0
  | some x =>
    let c := ((l.filter (fun e => e.2 == some x)).map (fun e => e.1.sym)).eraseDups
    c.getD (Config.tieSymbol x c.length % c.length) 0

/-- What an engine makes of one window: the soft values of its span's input bits and the hard symbol decisions from its span on (R164, R165); the sum of squared errors
of its span, with the number of its symbols, which is the noise estimate of the next window; and the decision that stands before the next
window's overlap. -/
structure EngineRun where
  soft : List Int
  hard : List Int
  noise : Nat × Nat
  before : Int
  deriving DecidableEq, Repr

/-- What an engine knows when it takes a window: the noise estimate in (1/128 LSB)², the scale of soft values, T, cm2, the decision before the
window's first symbol, and the number that stands where the spec leaves a value open. -/
structure EngineSetup where
  noise : Nat × Nat
  scale : Nat
  t : Int
  cm2 : Int
  before : Int
  free : Nat
  deriving DecidableEq, Repr

/-- The best path through every branch of a run of sections. -/
def decodeSections (n : Nat) (start : List (Option Nat)) (secs : List (List (Branch × Nat))) : List (List (Branch × Option Nat)) :=
  (secs.zip ((forwardRun n start secs).zip (backwardRun n secs))).map (fun e => through e.1 e.2.1 e.2.2)

/-- The soft values of a run of decoded sections, in order. -/
def softValues (g : EngineSetup) (l : List (List (Branch × Option Nat))) : List Int :=
  l.flatMap (fun sec =>
    (List.range ((sec.head?.map (fun e => e.1.bits.length)).getD 0)).map (fun i => softBit g.free g.noise.1 g.noise.2 g.scale i sec))

/-- The nearest of several values to a level of a list; of several as near, the one that `Config.tieSymbol` names. -/
def nearest (levels : List Int) (dist : Int → Nat) : Int :=
  let least := (levels.map dist).foldl min (dist ((levels.head?).getD 0))
  let c := levels.filter (fun a => dist a == least)
  c.getD (Config.tieSymbol least c.length % c.length) 0

/-- In COOL the decision feedback takes (T/3) cm d(n−1) from each output, where d is the slicer's decision on the symbol before (R123); `d` is the
one before the first, and each output comes with its cm. They come back in 1/128 LSB, each with the decision on it. -/
def feedback (levels : List Int) (t : Int) : Int → List (Int × Int) → List (Int × Int)
  | _, [] => []
  | d, (y, cm) :: ys =>
    let x := 32 * y - t / 3 * cm * d
    let c := nearest levels (fun a => (x - t / 3 * 128 * a).natAbs)
    (x, c) :: feedback levels t c ys

/-- The four levels. -/
def pamLevels : List Int := [-3, -1, 1, 3]

/-- The paths a window starts from: one known state, or every state alike (R163). -/
def startPaths (n : Nat) : Option Nat → List (Option Nat)
  | some k => (List.range n).map (fun i => if i = k then some 0 else none)
  | none => List.replicate n (some 0)

/-- The mean squared error of a decoded span follows from its outputs and decisions, one symbol of overlap standing before it. That it runs over the
codeword's own symbols, without the overlaps and without the first symbol of a burst, is a DESIGN CHOICE (log entry 107): R162 says "of the previous window". -/
def spanNoise (t cm : Int) (lead n : Nat) (xs hard : List Int) : Nat × Nat :=
  if lead = 0 then (squaredErrors t cm (xs.take n) (hard.take n), n - 1)
  else (squaredErrors t cm ((xs.drop (lead - 1)).take (n + 1)) ((hard.drop (lead - 1)).take (n + 1)), n)

/-- A Mimbium-200 window of `n` symbols between two overlaps of 64 (R162, R163, R166, Table 6-3): `ys` are the outputs of all n + 128, each with
the cm in force (R144). The first
codeword of a burst starts from code state 0 after a +3, the last one runs into the tail. In COOL the hard decisions are those of the slicer, since R165 says that the
decisions delivered are those that feed the feedback, and R123 that those are the slicer's (DEDUCED, log entry 83). The backward recursion begins `back` symbols after
the span. -/
def engineM200 (cool : Bool) (back n : Nat) (first last : Bool) (g : EngineSetup) (ys : List (Int × Int)) : EngineRun :=
  let lead := if first then 0 else 64
  let ys := ((ys.drop (64 - lead)).take (lead + n + back))
  let fb := feedback pamLevels g.t (if first then 3 else g.before) ys
  let xs := if cool then fb.map Prod.fst else ys.map (fun y => 32 * y.1)
  let cm := fun i => if cool then 0 else (ys.getD i (0, 0)).2
  let states := if cool then 16 else 64
  let secs := (List.range xs.length).map (fun i =>
    costed g.t (cm i) 0 ((xs[i]?).getD 0) (codeBranches (!cool) (i % 8) (last && decide (lead + n ≤ i))))
  let all := decodeSections states (startPaths states (if first then some (if cool then 0 else 3) else none)) secs
  let hard := if cool then fb.map Prod.snd else all.map hardSymbol
  let cut := lead + n - 65
  { soft := softValues g ((all.drop lead).take n), hard := hard.drop lead, noise := spanNoise g.t (cm lead) lead n xs hard,
    before := (hard[cut]?).getD 0 }

/-- A G50 segment of `n` bits between overlaps of `lap` (R173): the 4-state trellis, or in COOL the slicer, whose soft value is that of a single
bit. `start` is the known state before a burst's first codeword. -/
def engineG50 (cool : Bool) (lap n : Nat) (start : Option Nat) (g : EngineSetup) (ys : List (Int × Int)) : EngineRun :=
  let lead := if start.isSome then 0 else lap
  let ys := ((ys.drop (lap - lead)).take (lead + n + lap))
  let fb := feedback [-3, 3] g.t (match start with
    | some k => if bitAt k 1 then 3 else -3
    | none => g.before) ys
  let xs := if cool then fb.map Prod.fst else ys.map (fun y => 32 * y.1)
  let branches := if cool then [false, true].map (fun b =>
      ({ src := 0, dst := 0, sym := if b then 3 else -3, prev := 0, prev2 := 0, bits := [b] } : Branch)) else g50Branches
  let cm := fun i => if cool then 0 else (ys.getD i (0, 0)).2
  let secs := (List.range xs.length).map (fun i => costed g.t (cm i) (if cool then 0 else g.cm2) ((xs[i]?).getD 0) branches)
  let all := decodeSections (if cool then 1 else 4) (if cool then [some 0] else startPaths 4 start) secs
  let hard := if cool then fb.map Prod.snd else all.map hardSymbol
  let cut := lead + n - lap - 1
  { soft := softValues g ((all.drop lead).take n), hard := hard.drop lead, noise := spanNoise g.t (cm lead) lead n xs hard,
    before := (hard[cut]?).getD 0 }

/-! ### Layered offset min-sum (R167, R180) -/

/-- Products of signs and least magnitudes of all but one of a row's values. -/
def rowMessage (offset : Nat) (q : List Int) (j : Nat) : Int :=
  let others := q.eraseIdx j
  let sign := others.foldl (fun (x : Int) v => if v < 0 then -x else x) 1
  let mags := others.map Int.natAbs
  match mags with
  | [] => 0
  | m :: ms => sign * ((ms.foldl min m - offset : Nat) : Int)

/-- One check row: its messages are taken from the posteriors, formed anew, and added back. -/
def rowUpdate (offset : Nat) (cols : List Nat) (msgs post : List Int) : List Int × List Int :=
  let q := (cols.zip (List.range cols.length)).map (fun e => (post[e.1]?).getD 0 - (msgs[e.2]?).getD 0)
  let new := (List.range cols.length).map (rowMessage offset q)
  (new, (cols.zip (q.zip new)).foldl (fun l e => l.set e.1 (e.2.1 + e.2.2)) post)

/-- One iteration over every row in turn. -/
def ldpcIteration (offset : Nat) : List (List Nat) → List (List Int) → List Int → List (List Int) × List Int
  | [], _, post => ([], post)
  | row :: rows, msgs, post =>
    let r := rowUpdate offset row ((msgs.head?).getD []) post
    let rest := ldpcIteration offset rows msgs.tail r.2
    (r.1 :: rest.1, rest.2)

def hardBits (post : List Int) : List Bool := post.map (fun v => decide (v < 0))

/-- The checks that hard decisions do not satisfy. -/
def unsatisfied (checks : List (List Nat)) (bits : List Bool) : Nat :=
  (checks.filter (fun row => row.foldl (fun b c => b != (bits[c]?).getD false) false)).length

/-- Up to `limit` iterations, ending with early_stop at the first whose decisions satisfy every check. -/
def ldpcLoop (checks : List (List Nat)) (offset : Nat) (early : Bool) : Nat → Nat → List (List Int) → List Int → DecOut
  | 0, done, _, post => { bits := hardBits post, iterations := done, unsat := unsatisfied checks (hardBits post) }
  | n + 1, done, msgs, post =>
    let r := ldpcIteration offset checks msgs post
    let b := hardBits r.2
    if early && unsatisfied checks b == 0 then { bits := b, iterations := done + 1, unsat := 0 }
    else ldpcLoop checks offset early n (done + 1) r.1 r.2

/-- The decoding of the soft values of one codeword. -/
def ldpcDecode (offset limit : Nat) (early : Bool) (soft : List Int) : DecOut :=
  ldpcLoop Config.ldpcChecks.toList offset early limit 0 [] soft

/-- The transmitted bits whose decoded value differs from the sign of their soft value (R180); `known` counts the untransmitted ones before
them. -/
def correctedBits (known : Nat) (punct : List Nat) (soft : List Int) (bits : List Bool) : Nat :=
  (((soft.zip bits).zipIdx.drop known).filter (fun e => !punct.contains e.2 && decide (e.1.1 < 0) != e.1.2)).length

/-- The iteration limit of a port power mode (Table 2-1). -/
def iterationLimit (mode : Nat) : Nat := if mode = 4 then 12 else if mode = 3 then 10 else 6

/-! ### Checks and scrambling (R208, R209, R220) -/

/-- CRC-32 of a bit string: 0x04C11DB7, register all ones, most significant bit first, the result inverted (R208). -/
def crc32 (l : List Bool) : Nat :=
  (l.foldl (fun r b => (r * 2 % 2 ^ 32) ^^^ (if b != bitAt r 31 then 0x04C11DB7 else 0)) 0xFFFFFFFF) ^^^ 0xFFFFFFFF

/-- The syndrome of a header by the hec of Table 8-6: the remainder of bits 63 to 13 by the degree-12 polynomial with bits 12 to 1, and
the parity of the word. -/
def hecSyndrome (w : Nat) : Nat :=
  2 * (List.range 63).foldl (fun r i =>
    let r := r * 2 + bit01 (bitAt w (63 - i))
    if bitAt r 12 then r ^^^ 0x1539 else r) 0 + popCount 64 w % 2

/-- A header word with its hec: bits 12 to 0 of `w` are 0. -/
def withHec (w : Nat) : Nat :=
  let x := w + 2 * (hecSyndrome w / 2)
  x + popCount 64 x % 2

/-- Data bits XORed with the keystream k_n = k_(n−39) ⊕ k_(n−58); bit i − 1 of the register is k_(−i) (R209). -/
def scramble : Nat → List Bool → List Bool
  | _, [] => []
  | r, b :: l =>
    let k := bitAt r 38 != bitAt r 57
    (b != k) :: scramble ((2 * r + bit01 k) % 2 ^ 58) l

/-- A run of bits by bytes, the most significant first. -/
def bytesOf : Nat → List Bool → List Byte
  | 0, _ => []
  | n + 1, l => BitVec.ofNat 8 (bitsNat (l.take 8)) :: bytesOf n (l.drop 8)

/-! ### Mapper and filters (R184 to R187, R202) -/

/-- A run of outputs of a filter with `taps`, 10 fractional bits: the latest input of the first is `x` ones after the memory. An output is the
sum over k of tap k times the input k before the latest, over `scale`, rounded at site 4. -/
def firRun (taps : List Int) (scale : Nat) : List Int → List Int → List Int
  | _, [] => []
  | mem, x :: xs =>
    let mem := x :: mem.take (taps.length - 1)
    roundDiv 4 (dot taps mem) scale :: firRun taps scale mem xs

/-- What the filters make of the mapper's samples of a frame: the shaped samples, how many saturate at the FFE and at the DAC, and the memory they
leave. -/
structure Shaped where
  out : List Int
  saturated : Nat
  clipped : Nat
  mapped : List Int
  filtered : List Int
  deriving DecidableEq, Repr

/-- The last `n` of a run and of what stood before it, the latest first. -/
def lastOf (n : Nat) (mem xs : List Int) : List Int := (xs.reverse ++ mem).take n

/-- FFE and shaping filter over a frame's samples (R185, R186). The outputs that belong to a frame are those whose latest input it is, which begin
3 and 15 samples before it: a DESIGN CHOICE (log entry 88). -/
def shape (ffeTaps shpTaps mapped filtered samples : List Int) : Shaped :=
  let f := firRun ffeTaps 256 mapped samples
  let g := f.map (clampInt (-512) 511)
  let h := firRun shpTaps 4096 filtered g
  { out := h.map (clampInt (-64) 63), saturated := (f.filter (fun v => v ≠ clampInt (-512) 511 v)).length,
    clipped := (h.filter (fun v => v ≠ clampInt (-64) 63 v)).length, mapped := lastOf 10 mapped samples, filtered := lastOf 30 filtered g }

/-- The sum of the absolute values of a list. -/
def absSum (l : List Int) : Nat := (l.map Int.natAbs).sum

/-- No sum of the filters can pass its bound, whatever the samples up to `m`. -/
def inBounds (ffeTaps shpTaps mapped filtered : List Int) (m : Nat) : Bool :=
  let m := mapped.foldl (fun b v => max b v.natAbs) m
  let f := filtered.foldl (fun b v => max b v.natAbs) (ceilDiv (absSum ffeTaps * m) 256)
  decide (absSum ffeTaps * m ≤ 127 * 1024) && decide (absSum shpTaps * f ≤ 63 * 4096)

/-! ### The mask monitor (R196, R197) -/

/-- 2^62 cos(2π m / 256), rounded, for m of a quarter turn. -/
def cosQuarter : List Int :=
  [4611686018427387904, 4610297064819661174, 4606131040650197959, 4599190455376180266, 4589479489746651964] ++
  [4577003993284191887, 4561771480761380163, 4543791127674180203, 4523073764714963030, 4499631871248503178] ++
  [4473479567794875989, 4444632607523784314, 4413108366765438139, 4378925834543703005, 4342105601137822079] ++
  [4302669845679601858, 4260642322793532497, 4216048348287890265, 4168914783905441250, 4119270021142931949] ++
  [4067143964149113252, 4012568011711599423, 3955575038343412514, 3896199374480604983, 3834476785802888710] ++
  [3770444451689726907, 3704140942824866152, 3635606197962798751, 3564881499871150442, 3492009450463484836] ++
  [3417033945137503676, 3340000146334100615, 3260954456333195553, 3179944489302736311, 3097019042617704261] ++
  [3012228067466400296, 2925622638761716784, 2837254924375519865, 2747178153714674114, 2655446585657638225] ++
  [2562115475870945497, 2467241043525256456, 2370880437431032621, 2273091701614230011, 2173933740352748318] ++
  [2073466282694696471, 1971749846479847467, 1868845701885954606, 1764815834521887442, 1659722908089818799] ++
  [1553630226638953726, 1446601696433537347, 1338701787458110889, 1229995494583203681, 1120548298414853464] ++
  [1010426125851537790, 899695310372275547, 788422552079819562, 676674877523008785, 564519599322481549] ++
  [452024275624069880, 339256669404298611, 226284707652502141, 113176440454146016, 0]

/-- 2^62 cos(2π m / 256), within half of 1. -/
def cosOf (m : Nat) : Int :=
  let m := m % 256
  let at_ := fun (i : Nat) => (cosQuarter[i]?).getD 0
  if m ≤ 64 then at_ m else if m ≤ 128 then -(at_ (128 - m)) else if m ≤ 192 then -(at_ (m - 128)) else at_ (256 - m)

/-- The squared magnitude of bin `k` of a block of 256 samples under a Hann window, times 2^250: sample n weighs (1 − cos(2π n / 256)) / 2, the window
whose sums chapter 7's worked example gives (R196). -/
def blockPower (samples : List Int) (k : Nat) : Int :=
  let part := fun (turn : Nat) => (samples.zipIdx.map (fun e => e.1 * (2 ^ 62 - cosOf e.2) * cosOf (k * e.2 + turn))).sum
  part 0 ^ 2 + part 64 ^ 2

/-- The code of a summed power: 20 log10(S_ref / S_k) rounded, 0 to 255: the steps j for which 10^(2j + 1) S_k^40 is at or below S_ref^40 (R197). -/
def powerCode (sum full : Nat) : Nat := ((List.range 255).filter (fun j => decide (10 ^ (2 * j + 1) * sum ^ 40 ≤ full ^ 40))).length

/-- The code of a bin, where S_ref is 2^24 LSB² and S_k the mean over the blocks (R197). The sum of the blocks lies within 2^218 for each of the exact one,
whose cosines are not whole: where both ends of that range have one code it is the bin's, else which of the codes between them is left open (log
entry 26). -/
def binCode (blocks : List (List Int)) (k : Nat) : Nat :=
  let sum := (blocks.map (fun b => blockPower b k)).sum
  let slack : Int := 2 ^ 218 * blocks.length
  let full := 2 ^ 274 * blocks.length
  let low := powerCode (sum + slack).toNat full
  let high := powerCode (sum - slack).toNat full
  if low = high then low else low + Config.codePick blocks k % (high + 1 - low)

/-- The codes of the 128 bins over a frame's shaped samples: block i starts at DSP cycle 47 i. -/
def binCodes (samples : List Int) : List Nat :=
  let blocks := (List.range 4096).map (fun i => (samples.drop (64 * 47 * i)).take 256)
  (List.range 128).map (binCode blocks)

end Sys2Proof.Machine
end

