-- ==== Sys2Proof/Machine/LaneCode.lean ====
section
/-!
DEFINITION. The line code of the Aqand lanes (R389, R390, chapter 16's messages as blocks), the PRBS generators and checkers (R401, R402), and the frame
check sequence of the uplink MACs (R388).
-/
namespace Sys2Proof.Machine

/-! ### Blocks, scrambler and stripes (R389, R390) -/

/-- The sync headers of a data and of a control block, as the two bits are written. -/
def dataHeader : Nat := 1
def controlHeader : Nat := 2

/-- 64 payload bits, bit 0 first, through the self-synchronous scrambler x^58 + x^39 + 1 whose last 58 bits are `r`: the register after them and
the scrambled payload. -/
def scramble58 (r payload : Nat) : Nat × Nat :=
  (List.range 64).foldl (fun (x : Nat × Nat) i =>
    let b := (bitAt payload i != bitAt x.1 38) != bitAt x.1 57
    ((2 * x.1 + bit01 b) % 2 ^ 58, x.2 + bit01 b * 2 ^ i)) (r, 0)

/-- A block goes out on a logical lane: the port's line side after it, and the block as (lane, header, scrambled payload). -/
def AqLine.put (x : AqLine) (lane header payload : Nat) : AqLine × (Nat × Nat × Nat) :=
  let y := scramble58 (x.scr.getD lane 0) payload
  ({ x with scr := x.scr.set lane y.1 }, (lane, header, y.2))

/-- The payloads of the control blocks of Table 15-3: idle, and the alignment marker of a logical lane. -/
def idleBlock : Nat := 0x1E
def markerBlock (lane : Nat) (ready announce : Bool) (count : Nat) : Nat :=
  0x2D + lane * 2 ^ 8 + bit01 ready * 2 ^ 16 + bit01 announce * 2 ^ 17 + count % 2 ^ 16 * 2 ^ 32

/-- After 16,383 stream blocks on each lane, all four lanes send a marker. -/
def AqLine.marker (x : AqLine) (ready announce : Bool) : AqLine × List (Nat × Nat × Nat) :=
  if x.pos < 16383 then (x, [])
  else
    let (y, out) := (List.range 4).foldl (fun (y : AqLine × List (Nat × Nat × Nat)) l =>
      let z := y.1.put l controlHeader (markerBlock l ready announce x.count)
      (z.1, y.2 ++ [z.2])) (x, [])
    ({ y with pos := 0, count := (x.count + 1) % 2 ^ 16 }, out)

/-- A stream block goes out on the lane whose turn it is, after the markers that are due. -/
def AqLine.send (ready announce : Bool) (x : AqLine × List (Nat × Nat × Nat)) (b : Nat × Nat) : AqLine × List (Nat × Nat × Nat) :=
  let (y, out) := if x.1.lane = 0 then x.1.marker ready announce else (x.1, [])
  let (z, blk) := y.put y.lane b.1 b.2
  ({ z with lane := (y.lane + 1) % 4, pos := if y.lane = 3 then y.pos + 1 else y.pos }, x.2 ++ out ++ [blk])

/-- A port with nothing to say sends idle blocks, `n` of them. -/
def AqLine.idle (ready announce : Bool) : Nat → AqLine → AqLine
  | 0, x => x
  | n + 1, x => AqLine.idle ready announce n (AqLine.send ready announce (x, []) (controlHeader, idleBlock)).1

/-- The eight bytes of a data block: byte j is payload bits 8j + 7 to 8j. -/
def blockPayload (l : List Byte) : Nat := (l.zipIdx.map (fun e => e.1.toNat * 256 ^ e.2)).sum

/-- A message as stream blocks: a start block with its channel, its length in data blocks and the CRC-32 of its bytes, then the data blocks, the
last one filled up with zeros (DESIGN CHOICE, log entry 100). -/
def messageBlocks (channel : Nat) (bytes : List Byte) : List (Nat × Nat) :=
  let n := ceilDiv bytes.length 8
  (controlHeader, 0x4B + channel * 2 ^ 8 + n % 2 ^ 16 * 2 ^ 16 + crc32 (byteBits bytes) * 2 ^ 32)
    :: (List.range n).map (fun i => (dataHeader, blockPayload ((bytes.drop (8 * i)).take 8)))

/-- The channel of a message (Table 16-3). -/
def aqChannel : AqMessage → Nat
  | .heartbeat _ => 0
  | .map _ _ _ => 1
  | .delta _ _ _ => 2
  | .resync _ => 2
  | .ack _ _ => 3
  | .bulk _ _ _ _ _ => 4
  | .tod _ => 5
  | .firmware _ => 6

/-! ### PRBS (R401, R402) -/

/-- The degree of a PRBS and the delays its next bit is the sum of, by its code in LANE_PRBS: the generator polynomials of ITU-T O.150, and of PRBS13 as
it is commonly taken, x^13 + x^12 + x^2 + x + 1 (PRESUMED, log entry 101). -/
def prbsTaps : Nat → Nat × List Nat
  | 0 => (7, [7, 6])
  | 1 => (9, [9, 5])
  | 2 => (13, [13, 12, 2, 1])
  | 3 => (15, [15, 14])
  | 4 => (23, [23, 18])
  | _ => (31, [31, 28])

/-- The next bit of a PRBS whose last bits are `reg`, the newest lowest. -/
def prbsNext (poly reg : Nat) : Bool := (prbsTaps poly).2.foldl (fun x d => x != bitAt reg (d - 1)) false

/-- A bit enters the register of a PRBS. -/
def prbsShift (poly reg : Nat) (b : Bool) : Nat := (2 * reg + bit01 b) % 2 ^ (prbsTaps poly).1

/-- `n` bits of a generator, with its register after them. -/
def prbsBits (poly : Nat) : Nat → Nat → Nat × List Bool
  | 0, reg => (reg, [])
  | n + 1, reg =>
    let b := prbsNext poly reg
    let r := prbsBits poly n (prbsShift poly reg b)
    (r.1, b :: r.2)

/-- The first `n` symbols of a string of bit pairs have their more significant bit inverted. -/
def invertSymbols : Nat → List Bool → List Bool
  | n + 1, a :: b :: l => (!a) :: b :: invertSymbols n l
  | _, l => l

/-- A received bit at a checker: whether it is locked after it, and whether the bit counts as an error. It seeds itself from the received bits, locks after
1,024 error-free ones and unlocks when 128 of 1,024 are in error, in stretches of 1,024 counted from the lock (DESIGN CHOICE, log entry 101). -/
def PrbsCheck.step (poly : Nat) (x : PrbsCheck) (locked : Bool) (b : Bool) : PrbsCheck × Bool × Bool :=
  let want := prbsNext poly x.reg
  if locked then
    let bad := want != b
    let e := x.errs + bit01 bad
    if 128 ≤ e then (.reset, false, bad)
    else if x.win + 1 = 1024 then ({ x with reg := prbsShift poly x.reg want, win := 0, errs := 0 }, true, bad)
    else ({ x with reg := prbsShift poly x.reg want, win := x.win + 1, errs := e }, true, bad)
  else
    let reg := prbsShift poly x.reg b
    if x.seen < (prbsTaps poly).1 then ({ x with reg := reg, seen := x.seen + 1 }, false, false)
    else if want != b then ({ x with reg := reg, run := 0 }, false, false)
    else if x.run + 1 = 1024 then ({ PrbsCheck.reset with reg := reg }, true, false)
    else ({ x with reg := reg, run := x.run + 1 }, false, false)

/-- A checker over received bits: it, its lock, and the errors it has counted while locked. -/
def PrbsCheck.over (poly : Nat) (x : PrbsCheck) (locked : Bool) (l : List Bool) : PrbsCheck × Bool × Nat :=
  l.foldl (fun y b =>
    let z := y.1.step poly y.2.1 b
    (z.1, z.2.1, y.2.2 + bit01 z.2.2)) (x, locked, 0)

/-! ### The frame check sequence (R388) -/

/-- The bits of a byte string as the MAC sends them, each byte's least significant first. -/
def macBits (l : List Byte) : List Bool := l.flatMap (fun b => (bitsDown 8 b.toNat).reverse)

/-- The four bytes of the FCS of a frame: the CRC-32 of IEEE 802.3 over its bits as sent, highest power first (PRESUMED, log entry 102: the spec names
the MAC's standard alone). -/
def frameCheck (l : List Byte) : List Byte :=
  let c := bitsDown 32 (crc32 (macBits l))
  (List.range 4).map (fun i => BitVec.ofNat 8 (bitsNat ((c.drop (8 * i)).take 8).reverse))

/-- A received frame ends in the FCS of what stands before it. -/
def frameOk (l : List Byte) : Bool := l.drop (l.length - 4) == frameCheck (l.take (l.length - 4))

end Sys2Proof.Machine
end

