-- ==== Sys2Proof/Machine/Line.lean ====
section
/-!
DEFINITION. What the blocks of a port share: ONU contexts by ONU-ID, burst profiles, the layout of a burst payload, the channels of
the Sluice, what a burst's outcome does to its context and its frame's slot account, and the fence of a port region.
-/
namespace Sys2Proof.Machine

/-- The counters of a port's protection (after Table 16-5). -/
def pairCtr (p : Port) (i : Nat) : Nat := 0x2700 + 16 * p.val + i

/-- A STANDBY port checks and discards; nothing reaches the hub, the host or the DBA engine (R415). -/
def follows (s : State) (p : Port) : Bool := (s.port p).prot.role = .standby

/-- The port takes bursts: a port in SYNC or BLIND follows nothing (R407). -/
def hears (s : State) (p : Port) : Bool := decide ((s.port p).prot.role ≠ .sync) && decide ((s.port p).prot.role ≠ .blind)

/-- What a STANDBY port follows is counted on its own too: `i` is 8 for a burst received, 9 for one missing, 10 for an SDU discarded (R415). -/
def State.bumpFollowed (s : State) (p : Port) (i : Nat) : State := if follows s p then s.bump (pairCtr p i) else s

/-! ### ONU contexts (R262, R267) -/

/-- A context slot; a slot that nothing has used is FREE. -/
def State.ctx (s : State) (p : Port) (c : Nat) : OnuCtx := Tab.get (fun _ => OnuCtx.free) (s.port p).onu.ctx c

/-- The state with a context slot replaced. -/
def State.setCtx (s : State) (p : Port) (c : Nat) (x : OnuCtx) : State :=
  s.modOnu p (fun o => { o with ctx := Tab.set (fun _ => OnuCtx.free) o.ctx c x })

/-- The state with a context slot changed. -/
def State.modCtx (s : State) (p : Port) (c : Nat) (f : OnuCtx → OnuCtx) : State := s.setCtx p c (f (s.ctx p c))

/-- The slot of the context that holds an ONU-ID. -/
def State.slotOf (s : State) (p : Port) (onu : Nat) : Option Nat :=
  ((s.port p).onu.ctx.find? (fun e => e.2.st ≠ .free && e.2.onuId == onu)).map Prod.fst

/-- The record of a context that holds an Alloc-ID. -/
def recordOf (x : OnuCtx) (alloc : Nat) : Option Nat :=
  (List.range 16).find? (fun i => match x.recs[i]? with | some r => r.valid && r.pol.alloc == alloc | none => false)

/-- The context with one Alloc-ID record changed. -/
def OnuCtx.modRec (x : OnuCtx) (i : Nat) (f : AllocRec → AllocRec) : OnuCtx :=
  { x with recs := Vector.ofFn (fun k => if k.val = i then f x.recs[k] else x.recs[k]) }

/-- The owner of an Alloc-ID of a port (R267): its context slot and record. -/
def State.allocOwner (s : State) (p : Port) (alloc : Nat) : Option (Nat × Nat) :=
  (s.port p).onu.ctx.findSome? (fun e => if e.2.st = .free then none else (recordOf e.2 alloc).map (fun i => (e.1, i)))

/-- The first word of a context in hub SRAM bank 224 + n (Table 12-2). -/
def ctxWord (p : Port) (c : Nat) : Nat := (224 + p.val) * 8192 + c * 32

/-- The first word of a context's working preset (offset 0x100) or anchor (0x180). -/
def presetWord (p : Port) (c : Nat) (anchor : Bool) : Nat := ctxWord p c + (if anchor then 12 else 8)

/-- The word of a context's Alloc-ID record `i` (offset 0x200 + 32 i). -/
def recordWord (p : Port) (c i : Nat) : Nat := ctxWord p c + 16 + i

/-- ONU_STATUS follows the contexts of a port. -/
def State.onuStatus (s : State) (p : Port) : State :=
  let l := (s.port p).onu.ctx
  (s.setFld (R.ONU_STATUS.contexts p) (l.filter (fun e => e.2.st ≠ .free)).length).setFld (R.ONU_STATUS.operating p)
    (l.filter (fun e => e.2.st = .operation)).length

/-- The running copy of an ONU is dropped (R140). -/
def State.dropRunning (s : State) (p : Port) (onu : Nat) : State :=
  let s := s.modRake p (fun r => { r with running := Tab.del r.running onu, closed := Tab.del r.closed onu })
  s.setFld (R.EQZ_STATUS.running p) (s.port p).rake.running.length

/-- A context enters a state: state_fc, ONU_STATUS and the event of Table 9-5. -/
def State.enterOnu (s : State) (p : Port) (c : Nat) (st : OnuState) : State :=
  let s := (s.modCtx p c (fun x => { x with st := st, stateFc := s.fc % 2 ^ 32 })).onuStatus p
  match st with
  | .operation => s.pulseP p 0x80 0
  | .absent => s.pulseP p 0x81 0
  | .dormant => (s.dropRunning p (s.ctx p c).onuId).pulseP p 0x82 0
  | _ => s

/-- The map that governs the frame of a tick of a port, and that of the present frame. -/
def State.mapAt (s : State) (p : Port) (tick : Nat) : BwMap := (Tab.find (s.port p).dba.maps tick).getD .empty
def State.mapNow (s : State) (p : Port) : BwMap := s.mapAt p s.tick

/-- The calibration window of the present frame, as (start, slots). -/
def State.mapCal (s : State) (p : Port) : Option (Nat × Nat) := (s.mapNow p).cal

/-! ### Messages on the Aqand ports (R405) -/

/-- The blocks of a message on the lanes of an Aqand port, after idle blocks whose number is open (R389, R390). -/
def State.aqBlocks (s : State) (side : Nat) (m : AqMessage) : State :=
  let ready := s.lanes.rxReady.contains side
  let x := AqLine.idle ready false s.openNat (Tab.get (fun _ => AqLine.reset) s.lanes.line side)
  let y := (messageBlocks (aqChannel m) (Config.aqBytes m)).foldl (AqLine.send ready false) (x, [])
  ({ s.nextOpen with lanes := { s.lanes with line := Tab.put s.lanes.line side y.1 } }).emit (.aqLine side y.2)

/-- A message leaves on an Aqand port (0 A, 1 B) that is UP; a fenced hub data region sends only idle. -/
def State.aqSend (s : State) (side : Nat) (m : AqMessage) : State :=
  if s.fld (R.AQL_PORT_STATUS.state side) = 2 && !s.hubFenced 0 then (s.emit (.aqand side m)).aqBlocks side m else s

/-! ### Burst profiles (R87, R91, R98) -/

/-- The number of symbol times of one G50 bit at a rate code (R91). -/
def g50Sym (rate : Nat) : Nat := if rate = 0 then 2 else if rate = 1 then 4 else 8

/-- A burst profile as it governs a frame: enabled, guard, preamble and delimiter in symbol times, and the symbol times of one of its symbols: 1,
or those of a G50 bit. -/
structure Profile where
  enabled : Bool
  guard : Nat
  pre : Nat
  dlm : Nat
  sym : Nat
  deriving DecidableEq, Repr

/-- Profile `k` of a port, read through `rd`: the present registers, those captured at the last tick, or those in effect. -/
def profileBy (s : State) (rd : RegField → Nat) (p : Port) (k : Nat) : Profile :=
  if s.g50 p then
    let k := k % 4
    let y := g50Sym (rd (R.SLU_G50_BP_CTL.rate p k))
    { enabled := rd (R.SLU_G50_BP_CTL.enabled p k) == 1, guard := rd (R.SLU_G50_BP_CTL.guard_bits p k) * y,
      pre := rd (R.SLU_G50_BP_CTL.pre_reps p k) * 64 * y, dlm := rd (R.SLU_G50_BP_CTL.dlm_bytes p k) * 8 * y, sym := y }
  else
    let k := k % 8
    { enabled := rd (R.SLU_BPROF.enabled p k) == 1, guard := rd (R.SLU_BPROF.guard_slots p k) * 64,
      pre := rd (R.SLU_BPROF.pre_slots p k) * 64, dlm := 64, sym := 1 }

/-- The profile in effect in the present frame. -/
def State.profile (s : State) (p : Port) (k : Nat) : Profile := profileBy s s.gov p k

/-- The profile as it governs the frame of a tick. -/
def State.profileOf (s : State) (p : Port) (tick k : Nat) : Profile := profileBy s (s.govOf tick) p k

/-- The guard, preamble and delimiter slots of a profile. -/
def Profile.ovh (x : Profile) : Nat := ceilDiv (x.guard + x.pre + x.dlm) 64

/-- The expected arrival E and preamble length of a burst (R98). -/
def Profile.arrival (x : Profile) : Nat := x.guard

/-! ### The layout of a burst payload (R158 to R161) -/

/-- The slots of the codewords of a payload of `P` slots, in order: full ones of 144, then a shortened one. -/
def codewordSlots (P : Nat) : List Nat :=
  if P < 25 then []
  else
    let f := (P - 1) / 144
    let r := (P - 1) % 144
    List.replicate f 144 ++ (if 24 ≤ r then [r] else [])

/-- The tail slots of a payload of `P` slots (all of one that carries no codeword). -/
def tailSlots (P : Nat) : Nat := P - (codewordSlots P).sum

/-- The information bytes of a codeword of `r` slots (R159). -/
def codewordBytes (r : Nat) : Nat := if r = 144 then 1824 else 15 * r - 336

/-! ### Slot accounts of entries -/

/-- The slots of an entry that its burst's outcome puts in a class, and the ONU's share of retired and wasted ones. -/
def State.acctEntry (s : State) (p : Port) (t : Nat) (e : MapEntry) (f : SlotAcct → SlotAcct) (r : Nat) (w : Int) : State :=
  let owner := (s.allocOwner p e.alloc).map Prod.fst
  s.modAcct p t (fun a => (f a).onuAdd owner r w 0)

/-! ### Channels of the Sluice (Table 4-5) -/

/-- The SLU_STATUS code of a channel state. -/
def chanCode : ChanState → Nat
  | .idle => 0
  | .preset => 1
  | .armed => 2
  | .locked => 3
  | .payload => 4
  | .halted => 7

/-- A channel of a port. -/
def State.chan (s : State) (p : Port) (c : Chan) : SluChan :=
  match c with
  | .a => (s.port p).slu.a
  | .b => (s.port p).slu.b

/-- The state with a channel replaced; SLU_STATUS follows. -/
def State.setChan (s : State) (p : Port) (c : Chan) (x : SluChan) : State :=
  match c with
  | .a => (s.modSlu p (fun u => { u with a := x })).setFld (R.SLU_STATUS.chan_a_state p) (chanCode x.st)
  | .b => (s.modSlu p (fun u => { u with b := x })).setFld (R.SLU_STATUS.chan_b_state p) (chanCode x.st)

/-- SLU_LAST_BURST holds the acquisition just completed (result 0 to 4). That metric reads 0 beside every result but 0 is a DESIGN CHOICE (log entry 96). -/
def State.lastBurst (s : State) (p : Port) (x : SluChan) (result : Nat) (arrival : Int) : State :=
  let s := (s.setFld (R.SLU_LAST_BURST_0.metric p) (if result = 0 then x.metric else 0)).setFld
    (R.SLU_LAST_BURST_0.false_locks p) (min x.falseLocks 15)
  let s := (s.setFld (R.SLU_LAST_BURST_0.takeovers p) (min x.takeovers 15)).setFld (R.SLU_LAST_BURST_0.result p) result
  let s := (s.setFld (R.SLU_LAST_BURST_0.onu_id p) x.onu).setFld (R.SLU_LAST_BURST_1.frame_lo p) (s.fc % 2 ^ 16)
  s.setFld (R.SLU_LAST_BURST_1.arrival p) (if result = 0 then codeOf 16 arrival else 0)

/-- A burst of a map entry is missing with Sluice result 1 or 2: its slots are back-starved (R106, R113), and its context counts one
more consecutive missing allocation (R257). -/
def State.burstMissing (s : State) (p : Port) (x : SluChan) (result : Nat) : State :=
  let s := (s.bumpP p (if result = 1 then 0x52 else 0x53)).bumpFollowed p 9
  let s := s.captureSees (fun c => c.waitsFor 3 p x.onu)
  let s := s.acctEntry p x.tick x.entry (fun a => { a with missing := a.missing + x.entry.slots }) 0 0
  let s := s.lastBurst p x result 0
  match s.allocOwner p x.entry.alloc with
  | some (c, _) =>
    if (s.port p).prot.role = .standby || x.entry.ranging then s
    else s.modCtx p c (fun y => { y with missRun := min (y.missRun + 1) 65535 })
  | none => s

/-- The payload slots of a burst that have not been delivered: in G50 mode those its codewords have not given up; otherwise codewords are
accounted as they come, and what is left is the tail. -/
def undelivered (s : State) (p : Port) (x : SluChan) (P : Nat) : Nat :=
  if x.entry.train then P
  else if s.g50 p then
    match (s.port p).xtl.bursts.find? (fun b => b.entry == x.index && b.tick == x.tick && b.resp == (if x.quiet then x.resp + 1 else 0)) with
    | some b => b.left
    | none => P
  else tailSlots P

/-- A burst in progress is abandoned by a fence (R112): result 4; before its match every slot of its entry is back-starved, in
PAYLOAD its undelivered slots are (the tail, and the payload of a training burst, with them). A quiet window has no burst of its own: that a fence
writes no result there is a DESIGN CHOICE (log entry 96); the undelivered slots of a response in PAYLOAD are back-starved. -/
def State.abandon (s : State) (p : Port) (x : SluChan) : State :=
  if x.st = .idle || x.st = .halted then s
  else if x.quiet then
    let t := if x.st = .payload then min x.respTail (undelivered s p x (s.govOf x.tick (R.SLU_DISC_CTL.resp_slots p))) else 0
    s.modAcct p x.tick (fun a => { a with tail := a.tail - t, notRecv := a.notRecv + t })
  else
    let s := (s.bumpP p 0x5E).lastBurst p x 4 0
    if x.st = .payload then
      let t := undelivered s p x (x.entry.slots - (s.profileOf p x.tick x.entry.profile).ovh)
      s.acctEntry p x.tick x.entry (fun a => { a with
        training := if x.entry.train then a.training - t else a.training, tail := if x.entry.train then a.tail else a.tail - t,
        notRecv := a.notRecv + t }) 0 (-(t : Int))
    else s.acctEntry p x.tick x.entry (fun a => { a with notRecv := a.notRecv + x.entry.slots }) 0 0

/-- A G50 payload that has ended, with slots its codewords have not given up: at a fence they are back-starved, not tail (R22, R112). -/
def State.abandonEnded (s : State) (p : Port) : State :=
  let live := fun (b : XtlBurst) => [s.chan p .a, s.chan p .b].any (fun x =>
    x.st = .payload && x.index == b.entry && x.tick == b.tick && b.resp == (if x.quiet then x.resp + 1 else 0))
  let l := (s.port p).xtl.bursts.filter (fun b => b.left ≠ 0 && !live b)
  if !s.g50 p then s
  else l.foldl (fun s b =>
    match (s.mapAt p b.tick).entries[b.entry]? with
    | some e => s.acctEntry p b.tick e (fun a => { a with tail := a.tail - b.left, notRecv := a.notRecv + b.left }) 0 (-(b.left : Int))
    | none => s) s

/-- Both channels enter HALTED (R111, R112); `fence` says whether the bursts in progress count as abandoned. -/
def State.haltSluice (s : State) (p : Port) (fence : Bool) : State :=
  let s := if fence then ((s.abandonEnded p).abandon p (s.chan p .a)).abandon p (s.chan p .b) else s
  (s.setChan p .a { s.chan p .a with st := .halted }).setChan p .b { s.chan p .b with st := .halted }

/-! ### The pair as a port sees it (R408, R417 to R419) -/

/-- The pair exists. -/
def State.paired (s : State) : Bool := s.flag R.AQL_PAIR_STATUS.paired

/-- What the partner last said of its port, while the pair exists and its protection of the port is on. -/
def partnerPort (s : State) (p : Port) : Option HeartbeatPort :=
  match s.pair.partner with
  | some h => if s.paired && h.ports[p].protEn then some h.ports[p] else none
  | none => none

/-- A STANDBY port is eligible (R417). -/
def eligible (s : State) (p : Port) : Bool :=
  decide ((s.port p).prot.role = .standby) && s.receiving p && !s.fenced p && !(s.port p).prot.deltaBad
    && s.flag R.AQL_PAIR_STATUS.key_match && !s.flag (R.SLU_STATUS.los p)

/-- PRT_PROT_STATUS and PRT_PROT_SEQ follow. -/
def State.protStatus (s : State) (p : Port) : State :=
  let q := (s.port p).prot
  let s := (s.setFlag (R.PRT_PROT_STATUS.eligible p) (eligible s p)).setFlag (R.PRT_PROT_STATUS.pending p) q.handover.isSome
  let s := s.setFlag (R.PRT_PROT_STATUS.realigning p) q.realignAt.isSome
  s.setFld (R.PRT_PROT_SEQ.seq p) (if q.role = .active then q.sent else q.applied)

/-- The standby side of a port is eligible: its own, or the partner's as its heartbeat and its acknowledgements say. -/
def handoverOk (s : State) (p : Port) : Bool :=
  let q := (s.port p).prot
  if q.role = .standby then eligible s p
  else
    match partnerPort s p with
    | some x => decide (x.role = .standby) && decide (2 ≤ x.mode) && !x.fenced && !x.los && s.flag R.AQL_PAIR_STATUS.key_match
        && q.sent == q.acked && !q.copying
    | none => false

/-- A fenced ACTIVE port hands over, or asks for it at the next tick: it keeps its heartbeat until the handover's tick, and hold_frames does not count
(R419). -/
def handsOver (s : State) (p : Port) : Bool :=
  let q := (s.port p).prot
  decide (q.role = .active) && (q.handover.isSome || (s.fenced p && !q.fenceReq && s.paired && handoverOk s p))

/-! ### Fences of a port region (R21 to R26) -/

/-- A delineation hunt starts: the SDU in progress of the Alloc-ID is discarded; failures within one hunt are counted once (R223). -/
def State.startHunt (s : State) (p : Port) (alloc : Nat) : State :=
  let t := (s.port p).tcf
  let s := if (Tab.find t.partials alloc).isSome then
    (s.bumpP p 0x98).modTcf p (fun t => { t with partials := Tab.del t.partials alloc }) else s
  if t.hunting then s else (s.bumpP p 0x95).modTcf p (fun t => { t with hunting := true })

/-- Every partial upstream SDU of a port is discarded and counted (R225). -/
def State.dropPartials (s : State) (p : Port) : State :=
  (s.bumpBy (portCtr p 0x98) (s.port p).tcf.partials.length).modTcf p (fun t => { t with partials := [], hunting := false })

/-- Running copies, buffered blocks, and codewords in the engines and decoders of a port are dropped (R140). -/
def State.dropReceive (s : State) (p : Port) : State :=
  ((s.modRake p (fun r => { r with running := [], closed := [], buffer := [] })).setFld (R.EQZ_STATUS.running p) 0).modXtl p
    (fun x => { x with bursts := [], windows := [], engines := [], decoders := [], decided := [], lost := [], preempted := [], engJob := none, decJob := none })

/-- A port that follows nothing any more: both channels end their bursts, and what is in the receive path is dropped (R407). -/
def State.deafen (s : State) (p : Port) : State :=
  let s := (s.dropReceive p).dropPartials p
  let stop := fun (x : SluChan) => if x.st = .halted then x else { x with st := .idle }
  (s.setChan p .a (stop (s.chan p .a))).setChan p .b (stop (s.chan p .b))

/-- The link of a line die sleeps while all four of its ports are in OFF, and wakes with the first capture out of it (R57). -/
def State.linkPower (s : State) (die : Nat) : State :=
  let off := (List.finRange 8).all (fun q => q.val / 4 ≠ die || (s.mode q == 0 && (s.port q).mode.cap == 0 && !(s.port q).mode.txStart))
  let l := s.rst.linkSleep.filter (· ≠ die)
  { s with rst := { s.rst with linkSleep := if off then l ++ [die] else l } }

/-- A mode change that has not been applied is cancelled; the request stays recorded (R23, R55). -/
def State.cancelChange (s : State) (p : Port) : State :=
  let s := s.modMode p (fun m => { m with
    cap := m.lvl, due := none, rxWarm := false, txWarm := false, rxQueued := false, txStart := false, rxDone := false,
    fullAt := none })
  (((s.setFlag (R.PRT_MODE_STATUS.change_pending p) false).setFlag (R.PRT_MODE_STATUS.warmup p) false).setFlag
    (R.PRT_MODE_STATUS.queued p) false).linkPower (p.val / 4)

/-- The causes that stop the heartbeat at once: TX cluster fenced, line die lost, control virtual channel (R26, Table 1-6). -/
def stopsHeartbeat (cause : Nat) : Bool := cause == 0x08 || cause == 0x0A || cause == 0x0C

/-- The transmitter of a fenced port: a TX or line-die cause stops it at once, hold_frames 0 too; otherwise the rest of this frame and
hold_frames whole frames follow, for ever at 65,535 (R21, R26, Table 7-1). A port that hands over goes on until the handover's tick (R419). -/
def State.fenceTx (s : State) (p : Port) (causes : List Nat) (fresh : Bool) : State :=
  let hold := s.fld (R.PRT_FENCE_CTL.hold_frames p)
  if causes.any stopsHeartbeat then
    ((s.setFramer p .none).modMode p (fun m => { m with holdLeft := none })).setDisCause p 2 true
  else if !fresh || (s.port p).mode.framer = .none then s
  else if hold = 0 then
    if handsOver s p then s.modMode p (fun m => { m with holdLeft := some 0 })
    else ((s.setFramer p .none).modMode p (fun m => { m with holdLeft := none })).setDisCause p 3 true
  else if hold = 65535 then s.modMode p (fun m => { m with holdLeft := none })
  else s.modMode p (fun m => { m with holdLeft := some (hold + 1) })

/-- Scrub passes over the port's line-die SRAM are truncated (R331). -/
def State.truncateScrub (s : State) (p : Port) : State :=
  { s with mem := { s.mem with scrubs := s.mem.scrubs.map (fun e =>
      if e.1 = 1 + p.val / 4 ∧ e.2.start / 32 < 65536 * (p.val % 4) + 65536 ∧ 65536 * (p.val % 4) < e.2.start / 32 + e.2.words then
        (e.1, { e.2 with truncated := true })
      else e) } }

/-- PRT_FENCE_STATUS and the fence event take the causes of one cycle: the lowest is the first cause of a region that had none
(R25). -/
def State.recordFence (s : State) (p : Port) (causes : List Nat) : State :=
  let low := causes.foldl min 255
  let s := if s.fld (R.PRT_FENCE_STATUS.cause_mask p) = 0 then s.setFld (R.PRT_FENCE_STATUS.first_cause p) low else s
  let mask := causes.foldl (fun m c => withBit m c true) (s.fld (R.PRT_FENCE_STATUS.cause_mask p))
  let s := (s.setFld (R.PRT_FENCE_STATUS.cause_mask p) mask).setFlag (R.PRT_FENCE_STATUS.fenced p) true
  let s := s.setFld R.GLB_STATUS.port_fenced (withBit (s.fld R.GLB_STATUS.port_fenced) p.val true)
  s.level (portSrc p 0) true (s.fld (R.PRT_FENCE_STATUS.first_cause p) * 2 ^ 16 + mask)

/-- A port region is fenced with causes of one cycle (R19, R21 to R26). -/
def State.fencePort (s : State) (p : Port) (causes : List Nat) : State :=
  if causes = [] then s
  else
    let fresh := !s.fenced p
    let s := s.recordFence p causes
    let s := s.fenceTx p causes fresh
    if fresh then
      let s := if s.inReset p then s else s.cancelChange p
      ((((s.haltSluice p true).dropReceive p).dropPartials p).truncateScrub p).protStatus p
    else s

/-! ### Poison in a context (R260) -/

/-- The bytes of a context's first word that Table 9-6 names a field in; the second has one, caps, in its first byte. -/
def ctxBytes : Nat := 0x3FF7FFFF

/-- The activation function reads a context; poison in a field of it fences the port, and the answer says that there was none. -/
def State.useCtx (s : State) (p : Port) (c : Nat) : State × Bool :=
  let w := ctxWord p c
  let bad := anyPoison s 0 w 1 ctxBytes || anyPoison s 0 (w + 1) 1 1
  let s := (s.useWords 0 w 1 ctxBytes 5).useWords 0 (w + 1) 1 1 5
  if bad then (s.fencePort p [0x06], false) else (s, true)

/-- Ledgers of a port region fail at a tick: one fence with every cause, an event and a count for each (R39, R550). -/
def State.ledgerFail (s : State) (p : Port) (causes : List Nat) : State :=
  causes.foldl (fun s c => (s.bumpP p 0x10).pulseP p 2 c) (s.fencePort p causes)

/-! ### The mode ceiling of a port cluster (R15 to R17) -/

/-- The sub-ADCs of a port that can be active: its good units up to 32; before the first foreground calibration, all. -/
def adcActive (s : State) (p : Port) : Nat :=
  if s.flag (R.CNV_STATUS.fg_done p) then min 32 (s.fld (R.CNV_STATUS.good_units p)) else 32

/-- The highest port power mode whose minimums of Table 1-2 the RX cluster meets; HOLD, which has none, when it meets no other. -/
def modeCeiling (s : State) (p : Port) : Nat :=
  let d := s.fld (R.XTL_STATUS.dec_active p)
  if adcActive s p < 32 || s.fld (R.XTL_STATUS.eng_active p) < 17 || d < 4 then 1
  else if d < 7 then 2
  else if d < 8 then 3
  else 4

/-- The ceiling follows the units in service; a cluster that meets the minimum of no powered mode is fenced with cause 0x07. -/
def State.updateCeiling (s : State) (p : Port) : State :=
  let c := modeCeiling s p
  let s := s.setFld (R.PRT_MODE_STATUS.ceiling p) c
  if c = 1 then s.fencePort p [0x07] else s

end Sys2Proof.Machine
end

