-- ==== Sys2Proof/Machine/Converters.lean ====
section
/-!
DEFINITION. The receive converters (chapter 3): unit faults, substitution, calibration windows and foreground calibration.
-/
namespace Sys2Proof.Machine

/-! ### Units -/

def cnvUnit (s : State) (p : Port) (u : Nat) : Nat := s.fld (R.CNV_UNIT.state p u)

/-- The units in a state that meets a condition, in ascending order. -/
def cnvUnits (s : State) (p : Port) (ok : Nat → Bool) : List Nat := (List.range 36).filter (fun u => ok (cnvUnit s p u))

/-- The register field of the unit that serves a phase. -/
def phaseMap (p : Port) (phase : Nat) : RegField :=
  match phase % 4 with
  | 0 => R.CNV_SPARE_MAP.phase_0 p (phase / 4)
  | 1 => R.CNV_SPARE_MAP.phase_1 p (phase / 4)
  | 2 => R.CNV_SPARE_MAP.phase_2 p (phase / 4)
  | _ => R.CNV_SPARE_MAP.phase_3 p (phase / 4)

/-- CNV_STATUS follows the units, and the mode ceiling with it. -/
def State.cnvStatus (s : State) (p : Port) : State :=
  let s := s.setFlag (R.CNV_STATUS.subst_active p) (cnvUnits s p (· == 2) ≠ [])
  let s := s.setFld (R.CNV_STATUS.spares_free p) (min (cnvUnits s p (· == 1)).length 4)
  s.setFld (R.CNV_STATUS.good_units p) (cnvUnits s p (fun x => decide (x ≤ 2))).length

/-- The fail reason of a set of criteria: the lowest-numbered (R553). -/
def lowestReason (criteria : Nat) : Nat := (lowestBit 9 criteria).getD 0 + 1

/-- The coefficient registers of a unit read 0. -/
def State.zeroCoefs (s : State) (p : Port) (u : Nat) : State :=
  let s := (s.setFld (R.CNV_OFFSET.offset p u) 0).setFld (R.CNV_GAIN.gain p u) 0
  ((s.setFld (R.CNV_SKEW.skew p u) 0).setFld (R.CNV_BWC.bwc p u) 0).setFlag (R.CNV_UNIT.margin_low p u) false

/-- A unit is marked faulty: state 5, its reason, and coefficients that read 0. -/
def State.cnvFaulty (s : State) (p : Port) (u reason : Nat) : State :=
  ((s.setFld (R.CNV_UNIT.state p u) 5).setFld (R.CNV_UNIT.fail_reason p u) reason).zeroCoefs p u

/-- Background calibration and substitution run: a receive mode, no cause 0x07 (R75). -/
def cnvRuns (s : State) (p : Port) : Bool := s.receiving p && !bitAt (s.fld (R.PRT_FENCE_STATUS.cause_mask p)) 7

/-- A coefficient of a unit as an integer about its centre, by estimator: as its register has it, or as a faulty unit still on its phase
goes on with it (R81). -/
def coef (s : State) (p : Port) (u est : Nat) : Int :=
  match Tab.find (s.port p).cnv.kept u with
  | some l => (l[est]?).getD 0
  | none =>
    match est with
    | 0 => signedOf 8 (s.fld (R.CNV_OFFSET.offset p u))
    | 1 => (s.fld (R.CNV_GAIN.gain p u) : Int) - 2048
    | 2 => signedOf 8 (s.fld (R.CNV_SKEW.skew p u))
    | _ => signedOf 6 (s.fld (R.CNV_BWC.bwc p u))

/-- An active unit has failed and no spare is free for it: state 5, still on its phase with the coefficients it has, which read 0; the
cluster is degraded (R15, R81). -/
def State.noSpare (s : State) (p : Port) (u : Nat) : State :=
  let l := (List.range 4).map (coef s p u)
  let s := (s.modCnv p (fun c => { c with kept := Tab.put c.kept u l })).cnvFaulty p u (s.fld (R.CNV_UNIT.fail_reason p u))
  (s.setFlag (R.CNV_STATUS.degraded p) true).pulseP p 0x23 0

/-- A spare powers up to be trimmed for a phase (R79). -/
def State.takeSpare (s : State) (p : Port) (phase a : Nat) : State :=
  ((s.setFld (R.CNV_UNIT.state p a) 2).setFld (R.CNV_UNIT.phase p a) phase).setFld (R.CNV_UNIT.subst_windows p a) 0

/-- The lowest-numbered free spare starts to be trimmed for a phase (R79); with none free the cluster is degraded (R15). -/
def State.startSpare (s : State) (p : Port) (phase : Nat) : State :=
  match (cnvUnits s p (· == 1)).head? with
  | some a => (s.takeSpare p phase a).pulseP p 0x20 0
  | none => (s.setFlag (R.CNV_STATUS.degraded p) true).pulseP p 0x23 0

/-- A fault is counted, a stuck code on its own too (Table 3-6). -/
def State.countFault (s : State) (p : Port) (criteria : Nat) : State :=
  let s := s.bumpP p 0x42
  if bitAt criteria 5 then s.bumpP p 0x47 else s

/-- A trimmed spare has failed: its phase takes the next free spare unless cause 0x07 holds (R75, R79). The pseudocode says "restart with the
next free spare at the next window": that spare is powered up at once, in state 2, for the next window to trim it, and subst_start is raised
again (DESIGN CHOICE, log entry 82). -/
def State.spareFailed (s : State) (p : Port) (u criteria : Nat) : State :=
  let phase := s.fld (R.CNV_UNIT.phase p u)
  let s := ((s.countFault p criteria).setFld (R.CNV_UNIT.subst_windows p u) 0).cnvFaulty p u (lowestReason criteria)
  let s := (s.bumpP p 0x41).pulseP p 0x22 0
  if cnvRuns s p then s.startSpare p phase else s

/-- Failing units, rising, take free spares, rising, until the spares run out (R12, R79); `new` is the one that has just failed. -/
def State.assignSpares (s : State) (p : Port) (new : Nat) : List Nat → List Nat → State
  | [], _ => s
  | u :: us, a :: as =>
    let s := s.takeSpare p (s.fld (R.CNV_UNIT.phase p u)) a
    (if u = new then s.pulseP p 0x20 0 else s).assignSpares p new us as
  | u :: us, [] => (s.noSpare p u).assignSpares p new us []

/-- The units that have failed in this frame and have no spare that a window has trimmed for them (R80: one spare each), and the spares taken for them that no window has trimmed yet. -/
def failedNow (s : State) (p : Port) : List Nat :=
  (List.range 36).filter (fun u => (s.port p).cnv.faultsNow.contains u && cnvUnit s p u == 6
    && !(cnvUnits s p (· == 2)).any (fun a => s.fld (R.CNV_UNIT.phase p a) == s.fld (R.CNV_UNIT.phase p u)
      && s.fld (R.CNV_UNIT.subst_windows p a) != 0))
def untrimmed (s : State) (p : Port) : List Nat :=
  (cnvUnits s p (· == 2)).filter (fun a => s.fld (R.CNV_UNIT.subst_windows p a) == 0
    && (failedNow s p).any (fun u => s.fld (R.CNV_UNIT.phase p u) == s.fld (R.CNV_UNIT.phase p a)))

/-- An active unit has failed: with the others of its frame it is served in ascending unit index (R12, R80); while cause 0x07 holds no
substitution begins, and with no spare free the unit takes state 5 (R75, R81). -/
def State.serveFault (s : State) (p : Port) (u : Nat) : State :=
  let s := (s.setFld (R.CNV_UNIT.state p u) 6).modCnv p (fun c => { c with faultsNow := c.faultsNow.filter (· ≠ u) ++ [u] })
  if cnvRuns s p then
    let old := untrimmed s p
    let s := old.foldl (fun s a => s.setFld (R.CNV_UNIT.state p a) 1) s
    s.assignSpares p u (failedNow s p) (cnvUnits s p (· == 1))
  else if cnvUnits s p (· == 1) = [] then s.noSpare p u
  else s

/-- A unit fails: an active one stays on its phase and a spare is trimmed for it, an unpowered spare leaves the pool, a trimmed
spare fails its substitution (R79, R81). -/
def State.failUnit (s : State) (p : Port) (u criteria : Nat) : State :=
  let reason := lowestReason criteria
  match cnvUnit s p u with
  | 0 => ((((s.countFault p criteria).setFld (R.CNV_UNIT.fail_reason p u) reason).serveFault p u).cnvStatus p).updateCeiling p
  | 1 => (((s.countFault p criteria).cnvFaulty p u reason).cnvStatus p).updateCeiling p
  | 2 => ((s.spareFailed p u criteria).cnvStatus p).updateCeiling p
  | _ => s

/-- The criteria a unit can be found to meet at any time: a stage correction at its limit only with the stage layer enabled (R68), a limit of
Table 3-3 only with its estimator enabled (CNV_CTRL). -/
def criteriaNow (s : State) (p : Port) (criteria : Nat) : Nat :=
  let m := bitsOf criteria 7 0
  let m := if s.flag (R.CNV_CTRL.stage_cal_en p) then m else withBit m 6 false
  (List.range 4).foldl (fun m e => if bitAt (s.fld (R.CNV_CTRL.bg_en p)) e then m else withBit m e false) m

/-- UNIT_FAULT_DETECTED (R12, R79, R553): the criteria as a mask, bit r − 1 for fail reason r. -/
def execUnitFaultDetected (port : Port) (unit criteria : Nat) (s : State) : Host.Outcome State Fault Refusal :=
  .next (if unit < 36 && s.receiving port && !s.inReset port && criteriaNow s port criteria ≠ 0 then
    s.failUnit port unit (criteriaNow s port criteria) else s)

/-- CNV_TEST_FAIL (R79): the named unit fails at once with reason 8; a number above 35 is ignored. -/
def execCnvTestFail (src : Nat) (port : Port) (value : Nat) (s : State) : Host.Outcome State Fault Refusal :=
  .next (s.accessed src (R.CNV_TEST_FAIL.addr port) (fun s =>
    let u := bitsOf value 5 0
    if bitAt value 31 && decide (u < 36) && decide (cnvUnit s port u ≤ 2) then
      (s.modCnv port (fun c => { c with testFailed := c.testFailed.filter (· ≠ u) ++ [u] })).failUnit port u (2 ^ 7)
    else s))

/-- Every substitution in progress ends without a switch (R82). -/
def State.endSubstitutions (s : State) (p : Port) : State :=
  let l := cnvUnits s p (· == 2)
  if l = [] then s
  else (l.foldl (fun s u => (s.setFld (R.CNV_UNIT.state p u) 1).setFld (R.CNV_UNIT.subst_windows p u) 0) s).cnvStatus p

/-! ### Coefficients (Tables 3-3 and 3-4) -/

def State.setCoef (s : State) (p : Port) (u est : Nat) (x : Int) : State :=
  match est with
  | 0 => s.setFld (R.CNV_OFFSET.offset p u) (codeOf 8 x)
  | 1 => s.setFld (R.CNV_GAIN.gain p u) (x + 2048).toNat
  | 2 => s.setFld (R.CNV_SKEW.skew p u) (codeOf 8 x)
  | _ => s.setFld (R.CNV_BWC.bwc p u) (codeOf 6 x)

/-- The limits of an estimator. -/
def coefLimits (est : Nat) : Int × Int :=
  match est with
  | 0 => (-128, 127)
  | 1 => (-2048, 2047)
  | 2 => (-128, 127)
  | _ => (-32, 31)

/-- A coefficient lies within 10 % of the limit it approaches (R78). -/
def nearLimit (est : Nat) (x : Int) : Bool :=
  let (lo, hi) := coefLimits est
  decide (9 * hi ≤ 10 * x) || decide (10 * x ≤ 9 * lo)

/-- margin_low of a unit follows its coefficients; its rise is the event (R78). -/
def State.margin (s : State) (p : Port) (u : Nat) : State :=
  let b := (List.range 4).any (fun e => nearLimit e (coef s p u e))
  let was := s.flag (R.CNV_UNIT.margin_low p u)
  let s := s.setFlag (R.CNV_UNIT.margin_low p u) b
  if b && !was then s.pulseP p 0x24 0 else s

/-- The offset, gain and bandwidth coefficients a unit was measured with; its skew belongs to the phase it serves (R69). -/
def State.setCoefs (s : State) (p : Port) (m : FgUnit) : State :=
  let s := (s.setFld (R.CNV_OFFSET.offset p m.unit) m.offset).setFld (R.CNV_GAIN.gain p m.unit) m.gain
  s.setFld (R.CNV_BWC.bwc p m.unit) m.bwc

/-! ### Calibration windows (R68, R71 to R81, R84) -/

/-- Qualified samples for one estimator of every unit on a phase (R77). -/
def State.qualify (s : State) (p : Port) (est n : Nat) : State :=
  let live := cnvUnits s p (fun x => x == 0 || x == 6)
  s.modCnv p (fun c => { c with samples := live.foldl (fun t u =>
    Tab.set (fun _ => 0) t (u * 4 + est) (Tab.get (fun _ => 0) t (u * 4 + est) + n)) c.samples })

/-- The samples of a received burst's payload serve the gain and skew estimators: two a slot for each phase (R64, Table 3-3). -/
def State.qualifyBurst (s : State) (p : Port) (slots : Nat) : State := (s.qualify p 1 (2 * slots)).qualify p 2 (2 * slots)

/-- The slots of a frame in which the line is connected, after its calibration window if it has one: the window's margins belong to the line
(R72). -/
def lineSlots (cal : Option (Nat × Nat)) : Nat :=
  match cal with
  | some (start, len) => 194404 - (start + len)
  | none => 194400

/-- One estimator's update, against its measure: with too few samples none; a step that stays in range applies; one asked for at the limit
counts towards failure (R77, R78, Table 3-3). -/
def State.estimate (s : State) (p : Port) (u est : Nat) (measure : Int) : State :=
  let key := u * 4 + est
  if !bitAt (s.fld (R.CNV_CTRL.bg_en p)) est then s
  else if est < 3 && Tab.get (fun _ => 0) (s.port p).cnv.samples key < 2 ^ 20 then s.bumpP p 0x46
  else
    let s := s.modCnv p (fun c => { c with samples := Tab.set (fun _ => 0) c.samples key 0 })
    if measure = 0 then s
    else
      let step : Int := if est = 2 then 2 ^ s.fld (R.CNV_CTRL.skew_step p) else 1
      let x := coef s p u est
      let y := if 0 < measure then x - step else x + step
      let (lo, hi) := coefLimits est
      if decide (lo ≤ y) && decide (y ≤ hi) then s.setCoef p u est y
      else if x = lo || x = hi then
        s.modCnv p (fun c => { c with limitRun := Tab.set (fun _ => 0) c.limitRun key (Tab.get (fun _ => 0) c.limitRun key + 1) })
      else s

/-- The measure a window gives for a unit's estimator; none is a measure of 0. -/
def measureOf (obs : CalObs) (u est : Nat) : Int :=
  ((obs.measures.find? (fun m => m.1 == u && m.2.1 == est)).map (fun m => m.2.2)).getD 0

/-- The estimators of every unit on a phase, each once (R77). -/
def State.estimates (s : State) (p : Port) (obs : CalObs) (live : List Nat) : State :=
  let before := (s.port p).cnv.limitRun
  let s := live.foldl (fun s u => (List.range 4).foldl (fun s e => s.estimate p u e (measureOf obs u e)) s) s
  s.modCnv p (fun c => { c with
    limitRun := c.limitRun.filter (fun e => decide (Tab.get (fun _ => 0) before e.1 < e.2)) })

/-- The stage corrections of a unit follow what they are asked for by at most 1/16 LSB a cycle; in COOL, until the tick that
captures a mode above it, the two least significant stages are off and hold theirs (R68). -/
def stageStep (cool : Bool) (bound : Nat) (old new : List Int) : List Int :=
  (new.zip (List.range new.length)).map (fun e =>
    let x := (old[e.2]?).getD 0
    if cool && e.2 < 2 then x else x + clampInt (-(bound : Int)) bound (e.1 - x))

/-- The stage layer runs while it is enabled; it needs no window (R68). Its corrections are seen when a window or a foreground calibration
tells them (log entry 20). -/
def State.followStages (s : State) (p : Port) (l : List (Nat × List Int)) : State :=
  if !s.flag (R.CNV_CTRL.stage_cal_en p) then s
  else
    let cool := decide (s.mode p = 2) && decide (min (s.port p).mode.cap (s.fld (R.PRT_MODE_STATUS.ceiling p)) ≤ 2)
    s.modCnv p (fun c => { c with
      stage := l.foldl (fun t e => Tab.put t e.1 (stageStep cool ((s.tick - c.stageAt + 1) * 194400) ((Tab.find t e.1).getD []) e.2)) c.stage,
      stageAt := s.tick })

/-- The criteria a unit meets in a window: those observed, and a limit asked to be passed in 4 consecutive windows. -/
def windowCriteria (s : State) (p : Port) (obs : CalObs) (u : Nat) : Nat :=
  (List.range 4).foldl
    (fun m e => if 4 ≤ Tab.get (fun _ => 0) (s.port p).cnv.limitRun (u * 4 + e) then m ||| 2 ^ e else m)
    (((obs.unitFails.find? (fun x => x.1 = u)).map Prod.snd).getD 0)

/-- A spare is trimmed for one window: offset, gain and bandwidth against the source, the skew by up to 16 steps (R79). -/
def State.trimSpare (s : State) (p : Port) (m : FgUnit) : State :=
  let x := coef s p m.unit 2
  ((s.setCoefs p m).setCoef p m.unit 2 (x + clampInt (-16) 16 (signedOf 8 m.skew - x))).margin p m.unit

/-- Every coefficient of a spare lies within one step of its target (R79). -/
def converged (s : State) (p : Port) (u : Nat) (t : FgUnit) : Bool :=
  let near := fun (e : Nat) (x : Int) => decide ((coef s p u e - x).natAbs ≤ 1)
  near 0 (signedOf 8 t.offset) && near 1 ((t.gain : Int) - 2048) && near 2 (signedOf 8 t.skew) && near 3 (signedOf 6 t.bwc)

/-- The unit on a phase gives it up to a spare: the delta takes the substitution, unless a test write caused it (R79, R80). -/
def State.switchPhase (s : State) (p : Port) (phase a : Nat) : State :=
  let u := s.fld (phaseMap p phase)
  let s := (s.setFld (phaseMap p phase) a).setFld (R.CNV_UNIT.state p a) 0
  let s := s.setFld (R.CNV_UNIT.subst_windows p a) 0
  let s := (s.modCnv p (fun c => { c with kept := Tab.del c.kept u })).cnvFaulty p u (s.fld (R.CNV_UNIT.fail_reason p u))
  let s := if (s.port p).cnv.testFailed.contains u then s else s.appendDelta 0 p.val u
  (s.bumpP p 0x40).pulseP p 0x21 0

/-- A spare after a window: it takes its phase, fails Table 3-4, has used its four windows, or goes on, in this order (R79, R80). -/
def State.spareWindow (s : State) (p : Port) (obs : CalObs) (a : Nat) : State :=
  if cnvUnit s p a ≠ 2 then s
  else
    let n := s.fld (R.CNV_UNIT.subst_windows p a) + 1
    let s := s.setFld (R.CNV_UNIT.subst_windows p a) n
    let timeOut := fun (s : State) => if 4 ≤ n then s.spareFailed p a (2 ^ 8) else s
    match obs.spares.find? (fun x => x.1.unit == a) with
    | none => timeOut s
    | some (m, t) =>
      let s := s.trimSpare p m
      if converged s p a t then s.switchPhase p (s.fld (R.CNV_UNIT.phase p a)) a
      else if m.fails ≠ 0 then s.spareFailed p a m.fails
      else timeOut s

/-- The spares being trimmed, by the index of the failing unit each is trimmed for (R80; that spares which fail in one window take the next
free ones in this order is DEDUCED from it, log entry 82). -/
def trimmedSpares (s : State) (p : Port) : List Nat :=
  let l := cnvUnits s p (· == 2)
  (List.range 36).flatMap (fun u => l.filter (fun a => s.fld (phaseMap p (s.fld (R.CNV_UNIT.phase p a))) == u))

/-- The reference trim of a port is held or freed as its sensor fails or returns (R85). -/
def State.holdTrim (s : State) (p : Port) (b : Bool) : State :=
  let was := s.flag (R.CNV_STATUS.ref_hold p)
  let s := s.setFlag (R.CNV_STATUS.ref_hold p) b
  if b && !was then s.pulseP p 0x27 0 else s

/-- The sensor assigned to a port is marked failed. -/
def refSensorFailed (s : State) (p : Port) : Bool := s.flag (R.THM_SENSOR.failed (s.fld (R.CNV_REF_TRIM.sensor_id p)))

/-- The reference ladders take the trim of the fused coefficient and the sensor's latest reading; with the sensor failed the last one is held
(R84, R85). -/
def State.refTrim (s : State) (p : Port) : State :=
  let i := s.fld (R.CNV_REF_TRIM.sensor_id p)
  if refSensorFailed s p then s.holdTrim p true
  else if s.flag (R.CNV_CTRL.temp_comp_en p) && s.flag (R.THM_SENSOR.valid i) then
    s.setFld (R.CNV_REF_TRIM.ref_trim p) (codeOf 16 (Config.refTrim p.val (signedOf 12 (s.fld (R.THM_SENSOR.reading i)))))
  else s

/-- What a window that runs does: estimators, margins, the reference trim, spares, faults (R77 to R81, R84). -/
def State.calibrate (s : State) (p : Port) (obs : CalObs) : State :=
  let live := cnvUnits s p (fun x => x == 0 || x == 6)
  let s := s.estimates p obs live
  let s := (live.foldl (fun s u => s.margin p u) s).refTrim p
  let s := (trimmedSpares s p).foldl (fun s a => s.spareWindow p obs a) s
  let failed := (cnvUnits s p (· == 0)).filter (fun u => windowCriteria s p obs u ≠ 0)
  let s := failed.foldl (fun s u => s.failUnit p u (windowCriteria s p obs u)) s
  (s.cnvStatus p).updateCeiling p

/-- CAL_WINDOW_UPDATE (R68, R72, R77 to R81, R84): the last cycle before the closing margin of the window in the present map. -/
def execCalWindowUpdate (port : Port) (obs : CalObs) (s : State) : Host.Outcome State Fault Refusal :=
  .next (
    match (s.mapCal port) with
    | none => s
    | some (start, _) =>
      if !s.receiving port || s.inReset port then s
      else
        let s := (s.bumpP port 0x43).qualify port 0 (2 * (start + 4))
        let s := if (s.port port).prot.role = .standby then s.setFld (R.CNV_STATUS.skip_run port) 0 else s
        let s := s.followStages port obs.stages
        if cnvRuns s port then s.calibrate port obs else s)

/-- At a tick the samples of the frame that ends have served the offset estimators of a port in a receive mode, and the faults of the new frame
start to be gathered (R12, R77). -/
def State.cnvTick (s : State) (p : Port) (cal : Option (Nat × Nat)) : State :=
  let s := if s.receiving p && !s.inReset p then s.qualify p 0 (2 * lineSlots cal) else s
  if (s.port p).cnv.faultsNow = [] then s else s.modCnv p (fun c => { c with faultsNow := [] })

/-! ### The corrected words (R64 to R66) -/

/-- The interleaving phase of a symbol, counted from the tick: position i of an rx_line word belongs to phase i % 32 (R64). -/
def phaseOf (symbol : Nat) : Nat := symbol % 64 % 32

/-- A raw code of a sub-ADC: 8 bits; in COOL bits [1:0] read 0 (R65). -/
def rawCode (cool : Bool) (c : Int) : Int :=
  let c := signedOf 8 (codeOf 8 c)
  if cool then c - c % 4 else c

/-- A raw code corrected for bandwidth, gain and offset, in quarter-LSB, saturated (R66): the code, times 1 + (gain − 2,048) / 16,384, plus the offset.
That the coefficients add and multiply, and their order, is DEDUCED from the estimators' directions (log entry 20). -/
def correctedWord (s : State) (p : Port) (u : Nat) (codes : List Int) (i : Nat) : Int :=
  let c := if coef s p u 3 = 0 then 4 * (codes[i]?).getD 0 else Config.cnvBandwidth (coef s p u 3) codes i
  clampInt (-512) 511 (roundDiv 5 (c * (16384 + coef s p u 1)) 16384 + coef s p u 0)

/-- The corrected words of a run of symbols whose first is `first` symbols after the tick: each from the unit that CNV_SPARE_MAP puts on its
phase. -/
def rxWords (s : State) (p : Port) (first : Nat) (codes : List Int) : List Int :=
  let raw := codes.map (rawCode (s.mode p = 2))
  (List.range raw.length).map (fun i => correctedWord s p (s.fld (phaseMap p (phaseOf (first + i)))) raw i)

/-! ### Foreground calibration (R69, R70, R82, R83) -/

/-- A warm reset puts off the substitutions in progress: each goes on with the same spare after it (R82). -/
def State.suspendSubstitutions (s : State) (p : Port) : State :=
  let l := (cnvUnits s p (· == 2)).map (fun a => (s.fld (phaseMap p (s.fld (R.CNV_UNIT.phase p a))), a))
  (s.endSubstitutions p).modCnv p (fun c => { c with resume := if l = [] then c.resume else l })

/-- Foreground calibration starts: substitutions in progress end (R82). -/
def State.startFg (s : State) (p : Port) : State :=
  ((s.endSubstitutions p).modCnv p (fun c => { c with fgRun := true })).setFlag (R.CNV_STATUS.fg_done p) false

/-- FG_CAL_REQ (R70): a write of CNV_CTRL; with bit 31 set it starts foreground calibration of a fenced port in a receive mode. -/
def execFgCalReq (src : Nat) (port : Port) (value : Nat) (s : State) : Host.Outcome State Fault Refusal :=
  .next (s.accessed src (R.CNV_CTRL.addr port) (fun s =>
    let s := (s.setFld (R.CNV_CTRL.skew_step port) (bitsOf value 21 20)).setFld (R.CNV_CTRL.stage_cal_en port) (bitsOf value 9 9)
    let s := (s.setFld (R.CNV_CTRL.temp_comp_en port) (bitsOf value 8 8)).setFld (R.CNV_CTRL.bg_en port) (bitsOf value 3 0)
    if !bitAt value 31 then s
    else if s.fenced port && s.receiving port then (s.startFg port).modCnv port (fun c => { c with resume := [] })
    else s.setFlag (R.CNV_STATUS.fg_refused port) true))

/-- The unit is not to be tested: faulty by fuse, by the delta or replaced since power-on (R9, R13, R14). -/
def fgSkips (s : State) (p : Port) (u : Nat) : Bool :=
  cnvUnit s p u == 3 || cnvUnit s p u == 4 || s.rst.inForce.any (fun d => d = ⟨0, p.val, u⟩)

/-- A phase takes its own unit if good, else the lowest-numbered good spare not yet assigned. -/
def phaseUnit (good : List Nat) (taken : List Nat) (phase : Nat) : Option Nat :=
  if good.contains phase then some phase
  else ((List.range 4).map (· + 32)).find? (fun u => good.contains u && !taken.contains u)

/-- The substitutions that a warm reset put off and that can go on: the unit still fails and the spare has passed (R82). -/
def resumed (s : State) (p : Port) (good : List Nat) : List (Nat × Nat) :=
  (s.port p).cnv.resume.filter (fun e => cnvUnit s p e.1 == 6 && good.contains e.2)

/-- The phases are assigned in ascending order, and each assigned unit's skew is trimmed for its phase (R69, R83); the units whose phases are
served come back. -/
def State.assignPhases (s : State) (p : Port) (units : List FgUnit) (good bad : List Nat) (held : List (Nat × Nat)) : State × List Nat :=
  let keep := held.map (fun e => (s.fld (R.CNV_UNIT.phase p e.1), e.1))
  (List.range 32).foldl (fun (acc : State × List Nat) ph =>
    match keep.find? (fun e => e.1 == ph) with
    | some e => (acc.1, acc.2 ++ [e.2])
    | none =>
      match phaseUnit good acc.2 ph with
      | some u =>
        let s := ((acc.1.setFld (R.CNV_UNIT.state p u) 0).setFld (R.CNV_UNIT.phase p u) ph).setFld (phaseMap p ph) u
        let s := match units.find? (fun m => m.unit = u) with
          | some m => s.setFld (R.CNV_SKEW.skew p u) m.skew
          | none => s
        let s := if u ≠ ph && bad.contains ph then (s.bumpP p 0x40).pulseP p 0x21 0 else s
        (s, acc.2 ++ [u])
      | none => acc) (s, [])

/-- Foreground calibration of a port's units with what it measured: faults, phases, coefficients (R69, R82, R83). -/
def State.foreground (s : State) (p : Port) (units : List FgUnit) : State :=
  let failOf := fun u => ((units.find? (fun m => m.unit = u)).map FgUnit.fails).getD 0
  let tested0 := (List.range 36).filter (fun u => !fgSkips s p u)
  let held := resumed s p (tested0.filter (fun u => failOf u = 0))
  let tested := tested0.filter (fun u => !held.any (fun e => e.1 == u))
  let bad := tested.filter (fun u => failOf u ≠ 0)
  let good := tested.filter (fun u => failOf u = 0)
  let s := s.modCnv p (fun c => { c with
    kept := [], stage := (units.filter (fun m => good.contains m.unit)).foldl (fun t m => Tab.put t m.unit m.stage) c.stage, stageAt := s.tick })
  let s := units.foldl (fun s m => if good.contains m.unit then s.setCoefs p m else s) s
  let s := bad.foldl (fun s u =>
    ((s.cnvFaulty p u (lowestReason (failOf u))).appendDelta 0 p.val u).bumpP p 0x42) s
  let s := good.foldl (fun s u => ((s.setFld (R.CNV_UNIT.state p u) 1).setFld (R.CNV_UNIT.fail_reason p u) 0).setFld
    (R.CNV_UNIT.subst_windows p u) 0) s
  let (s, taken) := s.assignPhases p units (good.filter (fun u => !held.any (fun e => e.2 == u))) bad held
  let s := held.foldl (fun s e => (s.takeSpare p (s.fld (R.CNV_UNIT.phase p e.1)) e.2).pulseP p 0x20 0) s
  let s := good.foldl (fun s u => s.margin p u) s
  let s := s.modCnv p (fun c => { c with fgRun := false, testFailed := [], limitRun := [], samples := [], faultsNow := [], resume := [] })
  let s := ((s.setFlag (R.CNV_STATUS.fg_done p) true).setFlag (R.CNV_STATUS.degraded p) (taken.length < 32)).setFlag
    (R.CNV_STATUS.fg_fail p) (taken.length < 32)
  let s := if taken.length < 32 then s.pulseP p 0x26 0 else s
  (s.cnvStatus p).updateCeiling p

/-- FG_CAL_DONE (R69, R70): the units' measurements; a region fenced for it stays fenced. -/
def execFgCalDone (port : Port) (units : List FgUnit) (s : State) : Host.Outcome State Fault Refusal :=
  .next (if (s.port port).cnv.fgRun then s.foreground port units else s)

/-- The calibration window of a frame is skipped for the quiet window (R74). -/
def State.skipCal (s : State) (p : Port) : State :=
  ((s.addFldSat (R.CNV_STATUS.skip_run p) 1).bumpP p 0x44).pulseP p 0x25 0

end Sys2Proof.Machine
end

