-- ==== Sys2Proof/Machine/Sluice.lean ====
section
/-!
DEFINITION. The Sluice (chapter 4): guard start, AGC, detection, takeover, delimiter match, false locks, closed windows, markers and
loss of signal. No row of the table opens a detection window or ends a payload: every row of a burst carries its pin time, and what has
fallen due by then is done first (`State.settle`).
-/
namespace Sys2Proof.Machine

/-- The port's Sluice runs: a receive mode, not fenced, not in reset. -/
def sluiceRuns (s : State) (p : Port) : Bool := s.receiving p && !s.fenced p && !s.inReset p

/-- The discovery entry of a map (alloc_id 1,023). -/
def isDisc (e : MapEntry) : Bool := e.alloc == 1023

/-! ### Presets (R92 to R95, R114) -/

/-- The taps of EQZ_DISC_TAP in effect: two to a word, the lower halfword first. -/
def discTaps (rd : RegField → Nat) (p : Port) : Vector Int 31 :=
  Vector.ofFn (fun k =>
    signedOf 12 (if k.val % 2 = 0 then rd (R.EQZ_DISC_TAP.tap_lo p (k.val / 2)) else rd (R.EQZ_DISC_TAP.tap_hi p (k.val / 2))))

/-- The channel-memory coefficient of the discovery anchor: bits [23:16] of EQZ_DISC_TAP_15. -/
def discCm (rd : RegField → Nat) (p : Port) : Int := signedOf 8 (rd (R.EQZ_DISC_TAP.tap_hi p 15) % 256)

/-- The discovery preset of SLU_DISC_PRESET with the discovery anchor's taps and cm (R94, R252). -/
def discPreset (rd : RegField → Nat) (p : Port) : Preset :=
  { Preset.blank with
    cdrPhase := rd (R.SLU_DISC_PRESET.cdr_phase p), dcLevel := signedOf 9 (rd (R.SLU_DISC_PRESET.dc_level p)),
    gain := rd (R.SLU_DISC_PRESET.gain p), ctle := rd (R.SLU_DISC_PRESET.ctle p), cm := discCm rd p,
    taps := discTaps rd p, valid := true }

/-- The live set of a port's equaliser. -/
def liveSet (s : State) (p : Port) : LiveSet :=
  { taps := (s.port p).rake.liveTaps, cm := (s.port p).rake.liveCm, bias := (s.port p).rake.liveBias }

/-- The equaliser's live set is replaced from a symbol time on; the windows in hand that run beyond it take it there (R93, R110, R119, R144). -/
def State.setLive (s : State) (p : Port) (at_ : Nat) (x : LiveSet) : State :=
  (s.modRake p (fun r => { r with liveTaps := x.taps, liveCm := x.cm, liveBias := x.bias })).modXtl p (fun t => { t with
    windows := t.windows.map (fun w => if at_ < w.start + (w.n + 64) * w.stride then { w with sets := w.sets ++ [(at_, x)] } else w) })

/-- The equaliser loads a preset as its live set (R93, R119). -/
def State.loadLive (s : State) (p : Port) (at_ : Nat) (x : Preset) : State :=
  s.setLive p at_ { taps := usedTaps (s.mode p) x.taps, cm := x.cm, bias := x.eqBias }

/-! ### Staging (R92, R125) -/

/-- The context slot an entry's burst belongs to: the owner of its Alloc-ID, or the context whose ONU-ID it is. -/
def entrySlot (s : State) (p : Port) (e : MapEntry) : Option Nat :=
  match s.allocOwner p e.alloc with
  | some (c, _) => some c
  | none => if e.alloc < 1023 then s.slotOf p e.alloc else none

/-- The staged copy of a context's presets. -/
def stagedOf (s : State) (p : Port) (c : Nat) : Staged :=
  let x := s.ctx p c
  let w := presetWord p c false
  let a := presetWord p c true
  { work := x.work, anchorCm := x.anchor.cm, anchorTaps := x.anchor.taps,
    poisoned := anyPoison s 0 w 2 allBytes || anyPoison s 0 (w + 2) 1 (2 ^ 8 - 1) || anyPoison s 0 a 1 (2 ^ 32 - 2 ^ 7)
      || anyPoison s 0 (a + 1) 1 allBytes || anyPoison s 0 (a + 2) 1 (2 ^ 6 - 1) }

/-- PRESET_STAGING (R92): the next frame's map names the ONUs whose presets are copied, each byte with its poison (R318). -/
def execPresetStaging (port : Port) (s : State) : Host.Outcome State Fault Refusal :=
  .next (
    let m := (Tab.find (s.port port).dba.maps (s.tick + 1)).getD .empty
    let slots := (m.entries.filterMap (entrySlot s port)).eraseDups
    slots.foldl (fun s c =>
      let w := presetWord port c false
      let a := presetWord port c true
      let s := [w, w + 1, w + 2, a, a + 1, a + 2].foldl (fun s i => s.memRead 0 i) s
      (s.memWrite (dieSpace port) (dieWord port 7 c) allBytes).modSlu port (fun u => { u with stagedNext := Tab.put u.stagedNext (s.ctx port c).onuId (stagedOf s port c) })) s)

/-- The optics' pins are pulsed (R96). -/
def State.pulsePins (s : State) (p : Port) : State :=
  s.emit (.pulse p (s.gov (R.SLU_PULSE.rst_start p)) (s.gov (R.SLU_PULSE.rst_width p)) (s.gov (R.SLU_PULSE.lvl_start p))
    (s.gov (R.SLU_PULSE.lvl_width p)) (s.gov (R.SLU_PULSE.pin_delay p)))

/-- The delay offset a STANDBY port adds to the expected arrival of an ONU's followed bursts (R416). -/
def standbyOffset (s : State) (p : Port) (alloc : Nat) : Int :=
  if (s.port p).prot.role ≠ .standby then 0
  else
    match s.allocOwner p alloc with
    | some (c, _) => if s.flag (R.PRT_PROT_OFF.valid p c) then signedOf 24 (s.fld (R.PRT_PROT_OFF.offset p c)) else 0
    | none => 0

/-- The shift a new active port adds to the map position of an ONU's bursts until apply_fc (R423). -/
def realignShift (s : State) (p : Port) (alloc : Nat) : Int :=
  match (s.port p).prot.realignAt, s.allocOwner p alloc with
  | some a, some (c, _) => if s.fc < a then Tab.get (fun _ => (0 : Int)) (s.port p).prot.shifts c else 0
  | _, _ => 0

/-- The expected arrival E of a channel's burst, counted from its guard start (R98). The profile is that of the burst's own frame (R118). -/
def expectedArrival (s : State) (p : Port) (x : SluChan) : Int := (s.profileOf p x.tick x.entry.profile).guard

/-- The channel that takes the next burst: the one not used last (R110). -/
def nextChan (s : State) (p : Port) : Chan := if (s.port p).slu.last = .a then .b else .a

/-- The symbol time since power-on at which a frame begins. -/
def frameTime (tick : Nat) : Nat := tick * 12441600

/-- The symbol time within a frame at which an entry begins in its map: 64 symbols to a slot, in G50 mode by the StartTime of its allocation
(R91). -/
def mapStart (s : State) (p : Port) (e : MapEntry) (sym : Nat) : Nat := if s.g50 p then Config.g50Start sym e.start else 64 * e.start

/-- The symbol time since power-on of an entry's guard start: its place in the map, moved by what a STANDBY port adds to a followed burst and what
a new active port adds until apply_fc (R91, R98, R416, R423). That the guard start moves with the expected arrival, so that the window always lies
behind it, is DEDUCED: R98 lets no window open before its burst's guard start (log entry 95). -/
def guardStart (s : State) (p : Port) (tick : Nat) (e : MapEntry) : Nat :=
  (((frameTime tick + mapStart s p e (s.profileOf p tick e.profile).sym : Nat) : Int) + standbyOffset s p e.alloc + realignShift s p e.alloc).toNat

/-! ### What falls due with time (R111, R114) -/

/-- In a quiet window the discovery preset is re-applied and the optics pulsed at a position, after a response or a false lock; the primary
re-arms where the window goes on: in PRESET after a response, in ARMED after a false lock (Table 4-5). That re-arming after a response sets the burst's false locks and takeovers back to 0 is a DESIGN CHOICE, and so is
that the window's last position is 64 times its slots, inclusive (log entry 84). -/
def State.rearm (s : State) (p : Port) (c : Chan) (at_ : Nat) (st : ChanState) : State :=
  let x := s.chan p c
  let on := decide (x.evalFrom ≤ x.lastPos)
  ((s.setChan p c { x with st := if on then st else .idle, gain := x.applied.gain, agcFrom := 0, openAt := at_, endAt := 0 }).loadLive p
    (x.start + at_) x.applied).pulsePins p

/-- What has fallen due on a channel by a symbol time: a payload ends, in a quiet window with re-arming; a window opens. -/
def State.settleChan (s : State) (p : Port) (now : Nat) (c : Chan) : State :=
  let x := s.chan p c
  let s :=
    if x.st = .payload && decide (x.start + x.endAt ≤ now) then
      if x.quiet then (s.setChan p c { x with falseLocks := 0, takeovers := 0, resp := x.resp + 1 }).rearm p c x.endAt .preset
      else s.setChan p c { x with st := .idle }
    else s
  let x := s.chan p c
  if x.st = .preset && decide (x.start + x.openAt ≤ now) then s.setChan p c { x with st := .armed } else s

/-- Both channels of a port are brought to a symbol time. -/
def State.settle (s : State) (p : Port) (now : Nat) : State := (s.settleChan p now .a).settleChan p now .b

/-- A row of a channel's burst stands at position `at_`, counted from its guard start: what is due by then comes first. -/
def State.settleAt (s : State) (p : Port) (c : Chan) (at_ : Nat) : State := s.settle p ((s.chan p c).start + at_)

/-! ### Guard start (R93 to R96, R110) -/

/-- The ONU-ID of an entry's burst; 1,023 for the discovery entry. -/
def burstOnu (s : State) (p : Port) (e : MapEntry) : Nat :=
  if isDisc e then 1023
  else match s.allocOwner p e.alloc with
    | some (k, _) => (s.ctx p k).onuId
    | none => if e.alloc < 1023 then e.alloc else 1023

/-- The staged copy a burst finds; one that is not valid counts as absent, but for its poison (R94, R95, R127). -/
def stagedFor (s : State) (p : Port) (e : MapEntry) : Option Staged :=
  if isDisc e then none else (Tab.find (s.port p).slu.staged (burstOnu s p e)).filter (fun x => x.work.valid || x.poisoned)

/-- A burst's preset is applied at the start of the DSP cycle of its guard start, its pulses begin and its window is set (R91, R93, R96, R98,
R114). -/
def State.beginBurst (s : State) (p : Port) (c : Chan) (base : SluChan) (preset : Preset) (missed : Bool) : State :=
  let prof := s.profileOf p base.tick base.entry.profile
  let e := expectedArrival s p base
  let cycle := base.start / 64 * 64
  let w := s.gov (R.SLU_WINDOW.w p)
  let span := base.entry.slots - s.gov (R.SLU_DISC_CTL.resp_slots p) - ceilDiv (prof.pre + prof.dlm) 64
  let first := if base.quiet then 0 else (e - w).toNat
  let x : SluChan := { base with
    unstaged := missed, applied := preset, gain := preset.gain, openAt := first, evalFrom := first,
    lastPos := if base.quiet then 64 * span else (e + w).toNat }
  let s := ((s.setChan p c x).modSlu p (fun u => { u with last := c })).loadLive p cycle preset
  (s.pulsePins p).settle p base.start

/-- BURST_GUARD_START (R93 to R96, R110): entry `index` of the map that governs the present frame. A port in SYNC or BLIND follows nothing
(R407). That a burst with a disabled profile takes its turn of the two channels is a DESIGN CHOICE (log entry 96). A burst whose staged preset the staging
buffer has turned into poison is discarded, counted as not received by a halt of the Sluice is (R319, DEDUCED, log entry 42). -/
def execBurstGuardStart (port : Port) (index : Nat) (s : State) : Host.Outcome State Fault Refusal :=
  .next (
    match (s.mapNow port).entries[index]? with
    | none => s
    | some e =>
      let start := guardStart s port s.tick e
      let s := s.settle port start
      let c := nextChan s port
      let old := s.chan port c
      let prof := s.profile port e.profile
      if !sluiceRuns s port || !hears s port || old.st = .halted then s
      else if !(old.st = .idle || old.st = .payload) then s
      else if isDisc e && !prof.enabled then s
      else
        let s := if isDisc e then s
          else (s.bumpP port 0x50).modSlu port (fun u => { u with expected := true })
        let base : SluChan := { SluChan.reset with
          st := .preset, entry := e, index := index, tick := s.tick, onu := burstOnu s port e, quiet := isDisc e, start := start }
        if !prof.enabled then
          let s := (s.bumpP port 0x5D).acctEntry port s.tick e (fun a => { a with disabled := a.disabled + e.slots }) 0 0
          ((s.setChan port c { base with st := .idle }).modSlu port (fun u => { u with last := c })).lastBurst port base 3 0
        else
          match stagedFor s port e with
          | some ⟨_, _, _, true⟩ =>
            let s := match entrySlot s port e with
              | some k => s.consumePoison 0 (presetWord port k false) 5
              | none => s.consumePoison 0 (presetWord port 0 false) 5
            (s.setChan port c base).fencePort port [0x06]
          | some x =>
            let k := (entrySlot s port e).getD 0
            if dieBad s port 7 k then
              let s := ((s.useDie port 7 k 8).bumpP port 0x5E).acctEntry port s.tick e (fun a => { a with notRecv := a.notRecv + e.slots }) 0 0
              ((s.setChan port c { base with st := .idle }).modSlu port (fun u => { u with last := c })).lastBurst port base 4 0
            else s.beginBurst port c base x.work false
          | none =>
            let s := s.beginBurst port c base (discPreset s.gov port) (!isDisc e)
            if isDisc e then s else (s.bumpP port 0x57).pulseP port 0x32 0)

/-! ### The words of a burst (R64 to R67, R86, R91) -/

/-- The equaliser's outputs for `n` symbols of a channel's burst from a symbol time on, of codes that begin 15 before it. Times are net of
the delays of converters and equaliser (R86); a guard begins with a DSP cycle, so that 49 symbols on stand for 15 before in the order of phases. -/
def burstOutputs (s : State) (p : Port) (x : SluChan) (at_ n : Nat) (codes : List Int) : List Int :=
  let live := liveSet s p
  ffeRun live.taps live.bias (s.profileOf p x.tick x.entry.profile).sym n (rxWords s p (at_ + 49) codes)

/-- The bits of a G50 profile's preamble, from bit 63, and of its delimiter of `n` bits (R91). -/
def g50Preamble (rd : RegField → Nat) (p : Port) (k : Nat) : List Bool :=
  bitsDown 32 (rd (R.SLU_G50_BP_PRE_HI.pre_hi p (k % 4))) ++ bitsDown 32 (rd (R.SLU_G50_BP_PRE_LO.pre_lo p (k % 4)))
def g50Delimiter (rd : RegField → Nat) (p : Port) (k n : Nat) : List Bool :=
  let lo := bitsDown 32 (rd (R.SLU_G50_BP_DLM_LO.dlm_lo p (k % 4)))
  if n ≤ 32 then lo else bitsDown 32 (rd (R.SLU_G50_BP_DLM_HI.dlm_hi p (k % 4))) ++ lo

/-- The preamble period of a burst, in symbols (R88, R91). -/
def burstPreamble (s : State) (p : Port) (x : SluChan) : List Int :=
  if s.g50 p then outerLevels (g50Preamble (s.govOf x.tick) p x.entry.profile) else preamblePeriod

/-- The pattern the correlators use at a position: the period rotated to start at symbol (p − E) mod 64 (R99); in G50 mode bits as ±1, with a bit's
symbol times to one place (R91). The spec names no expected arrival in a quiet window; that its E is the window's start plus the guard of disc_profile
is a DESIGN CHOICE (log entry 84). -/
def correlatorPattern (s : State) (p : Port) (x : SluChan) (pos : Nat) : List Int :=
  let prof := s.profileOf p x.tick x.entry.profile
  let i := (((pos : Int) - expectedArrival s p x) / prof.sym % 64).toNat
  let q := (burstPreamble s p x).rotateLeft i
  if s.g50 p then q.map (fun a => if 0 ≤ a then 1 else -1) else q

/-- The delimiter of a burst, in symbols (R89, R91). -/
def burstDelimiter (s : State) (p : Port) (x : SluChan) : List Int :=
  if s.g50 p then
    let prof := s.profileOf p x.tick x.entry.profile
    outerLevels (g50Delimiter (s.govOf x.tick) p x.entry.profile (prof.dlm / prof.sym))
  else outerLevels delimiterBits

/-- The metric of the block of outputs at a position (R99). -/
def blockMetric (s : State) (p : Port) (x : SluChan) (pos : Nat) (y : List Int) : Nat :=
  metricOf s.openNat y (correlatorPattern s p x pos)

/-- An open metric has been taken: that of a block without energy. -/
def State.spendMetric (s : State) (y : List Int) : State := if y.all (fun v => v == 0) then s.nextOpen else s

/-- The outputs match a burst's delimiter (R104). -/
def delimiterMatches (s : State) (p : Port) (x : SluChan) (y : List Int) : Bool :=
  decide (signDiffs y (burstDelimiter s p x) ≤ s.govOf x.tick (R.SLU_DETECT.dlm_err p))

/-! ### AGC (R101, R102) -/

/-- The gain steps of round(80 log10(t / a)), by exact comparison of powers: the number of j with t^160 at or above
10^(2j − 1) a^160. -/
def agcSteps (t a : Nat) : Int :=
  if a ≤ t then ((List.range 128).filter (fun j => decide (10 ^ (2 * j + 1) * a ^ 160 ≤ t ^ 160))).length
  else -(((List.range 128).filter (fun j => decide (10 ^ (2 * j + 1) * t ^ 160 ≤ a ^ 160))).length : Int)

/-- The symbol time at which DSP cycle `cycle` of a burst begins, counted from the cycle of its guard start. -/
def cycleStart (x : SluChan) (cycle : Nat) : Nat := 64 * (x.start / 64 + cycle)

/-- The sum of the absolute corrected words of one cycle, in quarter-LSB: 256 times their mean in LSB. -/
def cycleLevel (s : State) (p : Port) (x : SluChan) (cycle : Nat) (codes : List Int) : Nat :=
  ((rxWords s p (cycleStart x cycle) (codes.take 64)).map Int.natAbs).sum

/-- The window of a channel is open during a part of a DSP cycle: from its first position to the end of its last block (R101). -/
def cycleInWindow (s : State) (p : Port) (x : SluChan) (cycle : Nat) : Bool :=
  let sym := (s.profileOf p x.tick x.entry.profile).sym
  decide (x.start + x.openAt < cycleStart x cycle + 64) && decide (cycleStart x cycle < x.start + x.lastPos + 64 * sym)

/-- AGC_COMMAND (R101, R102): the codes of cycle `cycle` of the burst, counted from that of its guard start. That a cycle only partly inside the open
window qualifies, that a command computed before the freeze stands though its cycle of issue lies behind it, and that the delimiter's first cycle is
reckoned from the expected arrival, E + pre_len, are DESIGN CHOICES (log entry 97). In a quiet window the cycle of a delimiter is
not known beforehand, and R102's limit is not applied (DESIGN CHOICE, log entry 84). -/
def execAgcCommand (port : Port) (chan : Chan) (cycle : Nat) (codes : List Int) (s : State) : Host.Outcome State Fault Refusal :=
  .next (
    let s := s.settle port (cycleStart (s.chan port chan) cycle + 64)
    let x := s.chan port chan
    let prof := s.profileOf port x.tick x.entry.profile
    let target := s.govOf x.tick (R.SLU_AGC.agc_target port)
    let floor := s.govOf x.tick (R.SLU_AGC.agc_floor port)
    let range := s.govOf x.tick (R.SLU_AGC.agc_range port)
    let level := cycleLevel s port x cycle codes
    let late := !x.quiet && decide ((x.start + prof.guard + prof.pre) / 64 ≤ x.start / 64 + cycle + 12)
    if x.st ≠ .armed || !sluiceRuns s port || s.govOf x.tick (R.SLU_CTRL.agc_en port) = 0 || cycle < x.agcFrom
        || !cycleInWindow s port x cycle || level < 256 * floor || level = 0 || late then s
    else
      let preset : Int := x.applied.gain
      let new := clampInt 0 127 (clampInt (preset - range) (preset + range) ((x.gain : Int) + agcSteps (256 * target) level))
      if new.toNat = x.gain then s
      else s.setChan port chan { x with gain := new.toNat, agcFrom := cycle + 12 })

/-! ### Detection, takeover and lock (R99 to R109) -/

/-- The false-lock deadline of a lock at `pos`: the preamble's length and 128 symbols after the detection is known, at the end of its block
(R91, R100, R103). -/
def deadlineOf (s : State) (p : Port) (x : SluChan) (pos : Nat) : Nat :=
  let prof := s.profileOf p x.tick x.entry.profile
  pos + 64 * prof.sym + prof.pre + 128

/-- A detection or takeover is discarded by sd_gate, as the registers govern the burst's frame (R109, R118). -/
def gatedOff (s : State) (p : Port) (tick : Nat) (sdLow : Bool) : Bool := s.govOf tick (R.SLU_CTRL.sd_gate p) == 1 && sdLow

/-- Counters 0x050 to 0x05E concern only entries other than the discovery entry (R554). -/
def State.bumpBurst (s : State) (p : Port) (x : SluChan) (off : Nat) : State := if x.quiet then s else s.bumpP p off

/-- PRIMARY_DETECTION (R99, R100, R109): the codes around the block at `position`, from 15 symbols before to 15 after it. -/
def execPrimaryDetection (port : Port) (chan : Chan) (position : Nat) (codes : List Int) (sdLow : Bool) (s : State) :
    Host.Outcome State Fault Refusal :=
  .next (
    let sym := (s.profileOf port (s.chan port chan).tick (s.chan port chan).entry.profile).sym
    let s := s.settleAt port chan (position + 64 * sym)
    let x := s.chan port chan
    if x.st ≠ .armed || !sluiceRuns s port || position < x.evalFrom || x.lastPos < position then s
    else
      let y := burstOutputs s port x (x.start + position) 64 codes
      let m := blockMetric s port x position y
      let s := s.spendMetric y
      if m < s.govOf x.tick (R.SLU_DETECT.det_thresh port) then s
      else if gatedOff s port x.tick sdLow then (s.setChan port chan { x with evalFrom := position + 1 }).bumpBurst port x 0x56
      else
        s.setChan port chan { x with
          st := .locked, pos := position, metric := m, deadline := deadlineOf s port x position, evalFrom := position + 1 })

/-- A takeover falls due with the block at a position: it lies after the lock position, in the window and before the deadline has passed, and its
metric clears the margin (R103, R107). -/
def takeoverDue (s : State) (p : Port) (x : SluChan) (pos : Nat) (y : List Int) : Bool :=
  let sym := (s.profileOf p x.tick x.entry.profile).sym
  decide (x.pos < pos) && decide (pos ≤ x.lastPos) && decide (x.evalFrom ≤ pos) && decide (pos + 64 * sym ≤ x.deadline)
    && decide (x.metric + s.govOf x.tick (R.SLU_DETECT.takeover_margin p) ≤ blockMetric s p x pos y)

/-- A delimiter match falls due at the last symbol of the block at a position (R107). -/
def matchDue (s : State) (p : Port) (x : SluChan) (pos : Nat) (y : List Int) : Bool :=
  let n := (burstDelimiter s p x).length
  let q := pos + (64 - n) * (s.profileOf p x.tick x.entry.profile).sym
  decide (x.pos ≤ q) && delimiterMatches s p x (y.drop (64 - n))

/-- PREAMBLE_TAKEOVER (R103, R107, R109): the gain returns to the preset and the AGC stays frozen. A delimiter match at the same symbol wins. -/
def execPreambleTakeover (port : Port) (chan : Chan) (position : Nat) (codes : List Int) (sdLow : Bool) (s : State) :
    Host.Outcome State Fault Refusal :=
  .next (
    let sym := (s.profileOf port (s.chan port chan).tick (s.chan port chan).entry.profile).sym
    let s := s.settleAt port chan (position + 64 * sym)
    let x := s.chan port chan
    if x.st ≠ .locked || !sluiceRuns s port then s
    else
      let y := burstOutputs s port x (x.start + position) 64 codes
      let due := takeoverDue s port x position y
      let m := blockMetric s port x position y
      let s := s.spendMetric y
      if !due || matchDue s port x position y then s
      else if gatedOff s port x.tick sdLow then (s.setChan port chan { x with evalFrom := position + 1 }).bumpBurst port x 0x56
      else
        (s.setChan port chan { x with
          pos := position, metric := m, gain := x.applied.gain, takeovers := x.takeovers + 1,
          deadline := deadlineOf s port x position, evalFrom := position + 1 }).bumpBurst port x 0x55)

/-- Loss of signal clears at a received burst, of the frame `tick` that granted it (R116): a burst that locks after the tick undoes what its frame was
counted as, and tells nothing of the frame that runs. That a discovery response does not clear it is DEDUCED: the bursts of R116 are those that a
frame expects (log entry 85). -/
def State.clearLos (s : State) (p : Port) (tick : Nat) : State :=
  let s := s.modSlu p (fun u => { u with losRun := 0, received := u.received || tick == s.tick })
  if s.flag (R.SLU_STATUS.los p) then ((s.setFlag (R.SLU_STATUS.los p) false).level (portSrc p 0x30) false 0).protStatus p else s

/-- A frame's training allocation was granted within the validity of the request that stands (R256). -/
def trainsNow (x : OnuCtx) (tick : Nat) : Bool := x.trainSent && decide (x.trainFrom ≤ tick) && decide (tick ≤ x.trainUntil)

/-- What a received burst tells its ONU context (R104, R257, R261, R416): the arrival offset, the metric and the takeovers, an answered probe, the
drift accumulation, and on a STANDBY port its delay offset. -/
def State.burstReceived (s : State) (p : Port) (e : MapEntry) (b : RakeBurst) : State :=
  match s.allocOwner p e.alloc with
  | none => s
  | some (c, _) =>
    let d := b.offset
    if (s.port p).prot.role = .standby then
      let q := (s.port p).prot
      let n := Tab.get (fun _ => 0) q.offN c + 1
      let sum := Tab.get (fun _ => (0 : Int)) q.offSum c + d
      let avg := 2 ^ s.gov (R.ONU_TRACK.drift_avg p)
      let full := decide (avg ≤ n)
      let s := s.modProt p (fun q => { q with
        offN := Tab.set (fun _ => 0) q.offN c (if full then 0 else n),
        offSum := Tab.set (fun _ => 0) q.offSum c (if full then 0 else sum) })
      if full && s.flag (R.PRT_PROT_OFF.valid p c) then
        s.setFld (R.PRT_PROT_OFF.offset p c)
          (codeOf 24 (signedOf 24 (s.fld (R.PRT_PROT_OFF.offset p c)) + roundDiv 1 sum n))
      else s
    else
      let (s, ok) := s.useCtx p c
      if !ok then s
      else
      let x := s.ctx p c
      let probe := x.st = .absent
      let counts := (x.st = .operation || x.st = .training) && decide (x.driftFrom ≤ b.tick) && !e.probe
      let s := s.setCtx p c { x with
        lastD := clampInt (-32768) 32767 d, lastMetric := b.metric, lastTakeovers := b.takeovers, missRun := 0,
        unans := if probe then 0 else x.unans,
        driftSum := if counts then x.driftSum + d else x.driftSum, driftN := if counts then x.driftN + 1 else x.driftN,
        trainGot := x.trainGot || (e.train && trainsNow x b.tick) }
      if probe then s.enterOnu p c x.left else s

/-- A received burst counts for its context once: at its delimiter match when it carries no header, else when its header has been seen to
be its owner's or has been lost (R228). -/
def State.countBurst (s : State) (p : Port) (entry tick : Nat) : State :=
  let hit := fun (b : RakeBurst) => b.entry == entry && b.tick == tick && !b.counted && !b.misdirected
  match (s.port p).rake.bursts.find? hit, (s.mapAt p tick).entries[entry]? with
  | some b, some e =>
    (s.modRake p (fun r => { r with bursts := r.bursts.map (fun x => if hit x then { x with counted := true } else x) })).burstReceived p e b
  | _, _ => s

/-- A guard begins before a burst's last symbol has arrived (R110): that of a later entry of its map, or of one of the next frame's, with an
enabled profile. `late` is by how much the burst arrives after its expected arrival. -/
def overlapsNext (s : State) (p : Port) (x : SluChan) (late : Int) : Bool :=
  let until_ : Int := (x.start + 64 * x.entry.slots : Nat) + late
  let hits := fun (tick : Nat) (e : MapEntry) => (s.profileOf p tick e.profile).enabled && decide ((guardStart s p tick e : Int) < until_)
  (s.mapAt p x.tick).entries.any (fun e => decide (x.entry.start < e.start) && hits x.tick e)
    || (s.mapAt p (x.tick + 1)).entries.any (hits (x.tick + 1))

/-- The Crystalliser takes a payload (R104, R158, R162): `noise` is what the preamble left as its noise estimate. -/
def State.openPayload (s : State) (p : Port) (x : SluChan) (resp start slots : Nat) (noise : Nat × Nat) : State :=
  let dl := burstDelimiter s p x
  s.modXtl p (fun t => { t with bursts := t.bursts ++
    [{ entry := x.index, tick := x.tick, resp := resp, start := start, gain := x.gain, slots := slots, left := slots,
       spans := if s.g50 p then [] else (codewordSlots slots).map (64 * ·), noise := noise, before := (dl.getLast?).getD 3,
       total := if s.g50 p then none else some (codewordSlots slots).length,
       lead := ((dl.getLast?).getD 3, ((dl.dropLast).getLast?).getD 3) }] })

/-- A burst of a map entry is received at its delimiter match (R104, R108, R113): d is its arrival offset, `at_` the symbol time of its payload. -/
def State.receiveEntry (s : State) (p : Port) (x : SluChan) (d : Int) (at_ : Nat) (noise : Nat × Nat) : State :=
  let prof := s.profileOf p x.tick x.entry.profile
  let P := x.entry.slots - prof.ovh
  let s := ((s.bumpP p 0x51).bumpFollowed p 8).captureSees (fun c => c.waitsFor 2 p x.onu)
  let s := if (s.govOf x.tick (R.SLU_WINDOW.w p) : Int) < d.natAbs then (s.bumpP p 0x58).pulseP p 0x31 0 else s
  let s := if overlapsNext s p x d then s.bumpP p 0x59 else s
  let s := (s.clearLos p x.tick).lastBurst p x 0 d
  let t := if x.entry.train then 0 else if s.g50 p then P else tailSlots P
  let tr := if x.entry.train then P else 0
  let s := s.acctEntry p x.tick x.entry
    (fun a => { a with overhead := a.overhead + (x.entry.slots - P), tail := a.tail + t, training := a.training + tr })
    0 (x.entry.slots - P + t + tr)
  let bare := !s.g50 p && decide (P < 25)
  let s := if !x.entry.train && bare then s.bumpP p 0x7F else s
  let s := s.modSlu p (fun u => { u with marks := u.marks + 1 })
  let s := if x.entry.train then s else s.openPayload p x 0 at_ P noise
  let staged := if x.unstaged then none else Tab.find (s.port p).slu.staged x.onu
  let s := s.modRake p (fun r => { r with bursts := r.bursts ++
    [{ entry := x.index, tick := x.tick, onu := x.onu, train := x.entry.train, staged := staged, gain := x.gain, metric := x.metric,
       takeovers := x.takeovers, failed := false, misdirected := false, offset := d, start := at_, counted := false, judged := false,
       used := 0, tail := [] }] })
  let s := s.qualifyBurst p P
  if x.entry.train || bare then s.countBurst p x.index x.tick else s

/-- The first slot of the response whose delimiter begins at `q`, its slots, and those of them its guard, preamble and delimiter take (R434). -/
def responseSlots (s : State) (p : Port) (x : SluChan) (q : Nat) : Nat × Nat × Nat :=
  let prof := s.profileOf p x.tick x.entry.profile
  let dl := q / 64
  let first := max (dl - ceilDiv (prof.guard + prof.pre) 64) x.respEnd
  let n := min (dl + s.govOf x.tick (R.SLU_DISC_CTL.resp_slots p) + 1) x.entry.slots - first
  (first, n, min n (dl + ceilDiv prof.dlm 64 - first))

/-- The slots of a response that no codeword fills; in G50 mode all its payload, until its codewords come (R160, R434). -/
def responseTail (s : State) (p : Port) (x : SluChan) (q : Nat) : Nat :=
  let (_, n, ov) := responseSlots s p x q
  if s.g50 p then n - ov else min (n - ov) (tailSlots (s.govOf x.tick (R.SLU_DISC_CTL.resp_slots p)))

/-- A response is received in a quiet window (R114, R434, R554): its slots leave the discovery class, from the guard before the
slot of its delimiter to resp_slots after that slot, within the window and after the response before. -/
def State.receiveResponse (s : State) (p : Port) (x : SluChan) (q at_ : Nat) (noise : Nat × Nat) : State :=
  let resp := s.govOf x.tick (R.SLU_DISC_CTL.resp_slots p)
  let (_, n, ov) := responseSlots s p x q
  let t := responseTail s p x q
  let s := ((s.captureSees (fun c => c.waitsFor 2 p x.onu)).bumpP p 0x5F |>.lastBurst p x 0 0).modAcct p x.tick (fun a => { a with
    disc := a.disc - n, discBurst := a.discBurst + n, overhead := a.overhead + ov, tail := a.tail + t })
  (s.openPayload p x (x.resp + 1) at_ resp noise).qualifyBurst p resp

/-- DELIMITER_MATCH (R104, R107, R108): the codes from 15 symbols before the preamble to 15 after the delimiter that begins at `position`. What
its preamble leaves as squared error is the noise estimate of its first window (R162). -/
def execDelimiterMatch (port : Port) (chan : Chan) (position : Nat) (codes : List Int) (s : State) : Host.Outcome State Fault Refusal :=
  .next (
    let prof := s.profileOf port (s.chan port chan).tick (s.chan port chan).entry.profile
    let s := s.settleAt port chan (position + prof.dlm)
    let x := s.chan port chan
    let n := prof.pre / prof.sym
    let y := burstOutputs s port x ((x.start + position) - prof.pre) (n + prof.dlm / prof.sym) codes
    if x.st ≠ .locked || !sluiceRuns s port || position < x.pos || x.deadline < position + prof.dlm
        || !delimiterMatches s port x (y.drop n) then s
    else
      let sent := (List.replicate (n / 64) (burstPreamble s port x)).flatten
      let noise := (squaredErrors (s.govOf x.tick (R.EQZ_TARGET.t_ port)) (s.port port).rake.liveCm ((y.take n).map (32 * ·)) sent, n - 1)
      let d : Int := (position : Int) - prof.pre - expectedArrival s port x
      let payload := position + prof.dlm
      let at_ := x.start + payload
      if x.quiet then
        (s.receiveResponse port x position at_ noise).setChan port chan { x with
          st := .payload, delta := 0, respTail := responseTail s port x position, respEnd := position / 64 + s.govOf x.tick (R.SLU_DISC_CTL.resp_slots port) + 1, endAt := payload + 64 * s.govOf x.tick (R.SLU_DISC_CTL.resp_slots port),
          evalFrom := payload + 64 * s.govOf x.tick (R.SLU_DISC_CTL.resp_slots port) }
      else
        (s.receiveEntry port x d at_ noise).setChan port chan { x with
          st := .payload, delta := d, nth := (s.port port).slu.marks + 1, endAt := payload + 64 * (x.entry.slots - prof.ovh) })

/-- FALSE_LOCK (R105, R107): the deadline passes; the codes are those of its last block, from 15 symbols before to 15 after it. A match or a
takeover that falls due with it wins. The whole preset is reloaded and the primary re-arms at the first position not yet evaluated, or the burst
is missing with result 2. -/
def execFalseLock (port : Port) (block : LockBlock) (s : State) : Host.Outcome State Fault Refusal :=
  .next (
    let s := s.settleAt port block.chan (s.chan port block.chan).deadline
    let x := s.chan port block.chan
    if x.st ≠ .locked || !sluiceRuns s port then s
    else
      let sym := (s.profileOf port x.tick x.entry.profile).sym
      let blk := x.deadline - 64 * sym
      let y := burstOutputs s port x (x.start + blk) 64 block.codes
      if matchDue s port x blk y || (takeoverDue s port x blk y && !gatedOff s port x.tick block.sdLow) then s
      else
        let s := s.bumpBurst port x 0x54
        let next := blk + 1
        let x' := { x with falseLocks := x.falseLocks + 1, gain := x.applied.gain, evalFrom := next, agcFrom := 0 }
        if x.quiet then (s.setChan port block.chan x').rearm port block.chan x.deadline .armed
        else if next ≤ x.lastPos then (s.setChan port block.chan { x' with st := .armed }).loadLive port (x.start + x.deadline) x.applied
        else (s.burstMissing port x' 2).setChan port block.chan { x' with st := .idle })

/-- WINDOW_CLOSE (R106): no detection; an entry's burst is missing with result 1. -/
def execWindowClose (port : Port) (chan : Chan) (s : State) : Host.Outcome State Fault Refusal :=
  .next (
    let sym := (s.profileOf port (s.chan port chan).tick (s.chan port chan).entry.profile).sym
    let s := s.settleAt port chan ((s.chan port chan).lastPos + 64 * sym)
    let x := s.chan port chan
    if x.st ≠ .armed || !sluiceRuns s port then s
    else if x.quiet then s.setChan port chan { x with st := .idle }
    else (s.burstMissing port x 1).setChan port chan { x with st := .idle })

/-! ### Markers and loss of signal (R115, R116) -/

/-- The received burst of a channel qualifies for a marker; its payload may have ended. -/
def marks (s : State) (p : Port) (x : SluChan) : Bool :=
  s.govOf x.tick (R.SLU_RSSI_CTL.mark_en p) == 1 && !x.quiet && (x.st = .payload || (x.st = .idle && x.endAt ≠ 0))
    && match s.govOf x.tick (R.SLU_RSSI_CTL.mark_mode p) with
      | 0 => true
      | 1 => x.nth % 2 ^ s.govOf x.tick (R.SLU_RSSI_CTL.mark_div p) == 0
      | 2 => x.onu == s.govOf x.tick (R.SLU_RSSI_CTL.mark_onu p)
      | _ => false

/-- RSSI_MARKER (R115): mark_delay cycles after the match; suppressed when fewer than 16 cycles of the payload remain. -/
def execRssiMarker (port : Port) (chan : Chan) (s : State) : Host.Outcome State Fault Refusal :=
  .next (
    let x := s.chan port chan
    if !marks s port x then s
    else
      let P := x.entry.slots - (s.profileOf port x.tick x.entry.profile).ovh
      if P < s.govOf x.tick (R.SLU_RSSI_CTL.mark_delay port) + 16 then (s.bumpP port 0x5B).pulseP port 0x33 0
      else (s.bumpP port 0x5A).emit (.marker port x.onu s.fc))

/-- LOS_DECLARED (R116): los_frames consecutive frames had every expected burst missing. -/
def execLosDeclared (port : Port) (s : State) : Host.Outcome State Fault Refusal :=
  .next (
    if !s.flag (R.SLU_STATUS.los port) && decide (s.gov (R.SLU_CTRL.los_frames port) ≤ (s.port port).slu.losRun)
        && sluiceRuns s port then
      (((s.setFlag (R.SLU_STATUS.los port) true).level (portSrc port 0x30) true 0).bumpP port 0x5C).protStatus port
    else s)

/-- The frame that ends at a tick counts towards loss of signal when it expected bursts and received none; the counts of the next
frame start (R116). -/
def State.losTick (s : State) (p : Port) : State :=
  s.modSlu p (fun u => { u with
    losRun := if u.expected && !u.received && sluiceRuns s p then u.losRun + 1 else u.losRun,
    expected := false, received := false })

end Sys2Proof.Machine
end

