-- ==== Sys2Proof/Machine/Rake.lean ====
section
/-!
DEFINITION. The Rake (chapter 5): blocks, the update of running copies, the judgement of training bursts, write-backs, and the preset
commands.
-/
namespace Sys2Proof.Machine

/-! ### The update (R120, R133) -/

/-- The sign that R133 uses: +1 at 0. -/
def sgn (v : Int) : Int := if 0 ≤ v then 1 else -1

/-- Each symbol of a block: the error in 1/128 LSB, its window of words, and the decision before it. `stride` words separate two
symbols: 1, or in G50 mode the symbol times of a bit (R124). -/
def blockRows (stride : Nat) (taps : Vector Int 31) (cm bias t : Int) : List Int → List Int → List (Int × List Int × Int)
  | prev :: ref :: rs, xs =>
    let w := xs.take 31
    (32 * ffe taps bias w - target t cm 0 ref prev 0, w, prev) :: blockRows stride taps cm bias t (ref :: rs) (xs.drop stride)
  | _, _ => []

/-- One sign-sign step of a coefficient: up or down by `step` when the block sum `g` passes the deadband. -/
def nudge (dead : Nat) (step : Int) (g c : Int) : Int :=
  if (dead : Int) < g then c - step else if g < -(dead : Int) then c + step else c

/-- The richness test of R130 on the reference decisions of a block. -/
def rich (g50 : Bool) (levelMin transMin : Nat) (refs : List Int) : Bool :=
  let levels : List Int := if g50 then [-3, 3] else [-3, -1, 1, 3]
  let least := if g50 then 2 * levelMin else levelMin
  levels.all (fun a => decide (least ≤ refs.count a))
    && decide (transMin ≤ ((refs.zip refs.tail).filter (fun e => e.1 ≠ e.2)).length)

/-- A coefficient outside its range (R121). -/
def outOf (lo hi x : Int) : Bool := decide (x < lo) || decide (hi < x)

/-- What a used block makes of a running copy, and how many coefficients met their limit (R133, R134). `refs` are the reference decisions with
the one before the block, `words` the corrected converter words from 15 before it. -/
def rakeUpdate (stride mode dead : Nat) (step stepCm t : Int) (refs words : List Int) (r : Running) : Running × Nat :=
  let rows := blockRows stride (usedTaps mode r.taps) r.cm r.eqBias t refs words
  let taps : Vector Int 31 := Vector.ofFn (fun k =>
    if tapUsed mode k.val then
      nudge dead step ((rows.map (fun e => sgn e.1 * sgn ((e.2.1[30 - k.val]?).getD 0))).sum) r.taps[k]
    else r.taps[k])
  let cm := nudge dead (-stepCm) ((rows.map (fun e => sgn e.1 * sgn e.2.2)).sum) r.cm
  let bias := clampInt (-128) 127 (nudge dead 1 ((rows.map (fun e => sgn e.1)).sum) r.eqBias)
  let err := (rows.map (fun e => e.1.natAbs)).sum
  let hits := (taps.toList.filter (outOf (-2048) 2047)).length + bit01 (outOf (-128) 127 cm)
  let taps := taps.map (clampInt (-2048) 2047)
  let cm := clampInt (-128) 127 cm
  ({ r with
      taps := taps, cm := cm, eqBias := bias, touched := r.touched || taps ≠ r.taps || cm ≠ r.cm || bias ≠ r.eqBias,
      used := r.used + 1, errSum := r.errSum + err }, hits)

/-- Mean abs(e) in 1/16 LSB of `n` blocks whose errors sum to `sum` 1/128 LSB; a mean that is no whole number is taken down or up. -/
def errMean (sum n : Nat) : Nat :=
  let m := 8 * 4096 * n
  min (sum / m + bit01 (decide (sum % m ≠ 0) && Config.meanUp sum n)) 65535

/-! ### Running copies (R135) -/

/-- A running copy started from a staged preset. -/
def Running.start (x : Staged) (frame : Nat) : Running :=
  { gen := x.work.gen, taps := x.work.taps, cm := x.work.cm, eqBias := x.work.eqBias, gain := none, touched := false,
    used := 0, frozen := 0, errSum := 0, judged := none, frame := frame }

/-- The running copy with nothing gathered in `frame` yet. -/
def Running.fresh (r : Running) (frame : Nat) : Running :=
  { r with gain := none, used := 0, frozen := 0, errSum := 0, judged := none, frame := frame }

/-- A running copy is held; EQZ_STATUS counts them. -/
def State.putRunning (s : State) (p : Port) (onu : Nat) (r : Running) : State :=
  let s := s.modRake p (fun k => { k with running := Tab.put k.running onu r })
  s.setFld (R.EQZ_STATUS.running p) (s.port p).rake.running.length

/-- Tap 15 of a running copy leaves its band (R134). -/
def State.cursorEvent (s : State) (p : Port) (old new : Running) : State :=
  if !outOf 512 1792 old.taps[15] && outOf 512 1792 new.taps[15] then s.pulseP p 0x42 0 else s

/-- The Rake may adapt from a burst (R132). -/
def adaptable (s : State) (p : Port) (b : RakeBurst) : Bool :=
  s.govOf b.tick (R.EQZ_CTRL.rake_en p) == 1 && !b.misdirected && b.staged.isSome

/-- A burst has a write-back in its frame (R137): one that R132 lets the Rake adapt from, and a training burst that was judged. Of one without a staged preset
R94 says that the Rake writes no preset back for it, and R147 that the frame's write-back carries its judgement: the model makes the write-back of R147
(DESIGN CHOICE, log entry 104). -/
def writesBack (s : State) (p : Port) (b : RakeBurst) : Bool := b.judged || adaptable s p b

/-- The copy of an earlier frame whose write-back is still to come is put by before a newer frame's block uses it (R137). -/
def State.closeEarlier (s : State) (p : Port) (b : RakeBurst) : State :=
  let k := (s.port p).rake
  match k.bursts.find? (fun y => y.onu == b.onu && writesBack s p y && decide (y.tick < b.tick)), Tab.find k.closed b.onu with
  | some y, none =>
    let x := (y.staged).getD { work := .blank, anchorCm := 0, anchorTaps := identityTaps, poisoned := false }
    let r := match Tab.find k.running b.onu with
      | some r => if r.frame = y.tick then r else r.fresh y.tick
      | none => Running.start x y.tick
    s.modRake p (fun k => { k with closed := Tab.put k.closed b.onu r })
  | _, _ => s

/-- The running copy before a block of a burst: restarted when the staged gen differs, and with a new frame's accounts (R135). -/
def State.openRunning (s : State) (p : Port) (b : RakeBurst) (x : Staged) : State × Running :=
  let s := s.closeEarlier p b
  match Tab.find (s.port p).rake.running b.onu with
  | none => (s, Running.start x b.tick)
  | some r =>
    if r.gen ≠ x.work.gen then (s.cursorEvent p r (Running.start x b.tick), Running.start x b.tick)
    else if r.frame ≠ b.tick then (s, r.fresh b.tick)
    else (s, r)

/-! ### Blocks (R128 to R131) -/

/-- The map entry of a burst the Rake knows, and the profile that governs it. -/
def burstEntry (s : State) (p : Port) (b : RakeBurst) : MapEntry := ((s.mapAt p b.tick).entries[b.entry]?).getD .blank
def burstProfile (s : State) (p : Port) (b : RakeBurst) : Profile := s.profileOf p b.tick (burstEntry s p b).profile

/-- The whole blocks of a burst's payload (R128). -/
def wholeBlocks (s : State) (p : Port) (b : RakeBurst) : Nat :=
  let prof := burstProfile s p b
  ((burstEntry s p b).slots - prof.ovh) / (64 * prof.sym)

/-- The burst as the Crystalliser knows it. -/
def xtlBurst (s : State) (p : Port) (entry tick resp : Nat) : Option XtlBurst :=
  (s.port p).xtl.bursts.find? (fun x => x.entry == entry && x.tick == tick && x.resp == resp)

/-- What is known of a codeword's decoding. -/
def cwDecided (s : State) (p : Port) (cw : CwRef) : Option (List Int × Option Bool) :=
  ((s.port p).xtl.decided.find? (fun e => e.1 = cw)).map Prod.snd

/-- The codewords of a burst that overlap its symbols from `a` to before `b`. -/
def overlapping (spans : List Nat) (a b : Nat) : List Nat :=
  (List.range spans.length).filter (fun i =>
    decide ((spans.take i).sum < b) && decide (a < (spans.take i).sum + (spans[i]?).getD 0))

/-- Whether a block is excluded, once the verdicts of every codeword that overlaps it are known (R129, R131). -/
def blockVerdict (s : State) (p : Port) (entry tick index : Nat) : Option Bool :=
  match xtlBurst s p entry tick 0 with
  | none => none
  | some x =>
    let l := (overlapping x.spans (4096 * index) (4096 * index + 4096)).map (fun i => (cwDecided s p ⟨entry, tick, 0, i⟩).bind Prod.snd)
    if (x.spans.sum < 4096 * index + 4096 && x.total ≠ some x.spans.length) || l.any Option.isNone then none
    else some (l.any (fun v => v == some true))

/-- The hard decisions of a burst's payload in order: those of each codeword, and behind the last one those of its tail, which is −3 where no
engine has decided it (R129, R160, R165). That it is so in G50 mode too is a DESIGN CHOICE (log entry 86). -/
def payloadSymbols (s : State) (p : Port) (x : XtlBurst) (n : Nat) : List Int :=
  let hard := fun i => ((cwDecided s p ⟨x.entry, x.tick, x.resp, i⟩).map Prod.fst).getD []
  let l := (List.range x.spans.length).flatMap (fun i =>
    let m := (x.spans[i]?).getD 0
    if i + 1 = x.spans.length then hard i else (hard i).take m ++ List.replicate (m - (hard i).length) (-3))
  (l ++ List.replicate (n - l.length) (-3)).take n

/-- The reference decisions of a block with the one before it: the training pattern, or the hard decisions (R129, R145). -/
def blockRefs (s : State) (p : Port) (b : RakeBurst) (index : Nat) : List Int :=
  let n := 4096 * index + 4096
  if b.train then 3 :: trainingSymbols n |>.drop (4096 * index)
  else match xtlBurst s p b.entry b.tick 0 with
    | some x => (x.lead.1 :: payloadSymbols s p x n).drop (4096 * index)
    | none => []

/-- The exponents of the steps of a block: mu and mu_cm, in training no less than the schedule of R146. -/
def stepExp (rd : RegField → Nat) (p : Port) (train : Bool) (idx base : Nat) : Nat :=
  if train then max base (rd (R.EQZ_TRAIN.train_mu0 p) - idx / rd (R.EQZ_TRAIN.train_gear p)) else base

/-- A considered block is excluded, frozen or used, by the settings of its burst's frame (R129, R130, R133, R134, R150). The taps in use are
those of the mode in effect when the Rake works on it: a DESIGN CHOICE (log entry 86). -/
def State.rakeAdapt (s : State) (p : Port) (b : RakeBurst) (x : Staged) (excluded : Bool) (h : HeldBlock) : State :=
  let rd := s.govOf b.tick
  let (s, r) := s.openRunning p b x
  let refs := blockRefs s p b h.index
  if excluded then (s.putRunning p b.onu r).bumpP p 0x64
  else if !rich (s.g50 p) (rd (R.EQZ_RICH.level_min p)) (rd (R.EQZ_RICH.trans_min p)) refs.tail then
    (s.putRunning p b.onu { r with frozen := r.frozen + 1 }).bumpP p 0x63
  else
    let step : Int := 2 ^ stepExp rd p b.train h.index (rd (R.EQZ_CTRL.mu p))
    let stepCm : Int := 2 ^ stepExp rd p b.train h.index (rd (R.EQZ_CTRL.mu_cm p))
    let (r', hits) := rakeUpdate (burstProfile s p b).sym (s.mode p) (rd (R.EQZ_SS.dead p)) step stepCm (rd (R.EQZ_TARGET.t_ p)) refs h.words r
    let s := s.modRake p (fun k => { k with bursts := k.bursts.map (fun y => if y.entry = b.entry ∧ y.tick = b.tick then
      { y with used := y.used + 1, tail := (y.tail ++ [r'.errSum - r.errSum]).drop (y.tail.length - 3) } else y) })
    let s := (s.putRunning p b.onu r').bumpP p 0x62
    let s := (List.range hits).foldl (fun s _ => (s.pulseP p 0x41 0).bumpP p 0x6A) s
    s.cursorEvent p r r'

/-! ### Training (R145 to R147) -/

/-- What a training burst without a staged preset is judged on: its context's own records. -/
def trainBase (s : State) (p : Port) (b : RakeBurst) : Staged :=
  match b.staged, s.slotOf p b.onu with
  | some x, _ => x
  | none, some c => stagedOf s p c
  | none, none => { work := .blank, anchorCm := 0, anchorTaps := identityTaps, poisoned := false }

/-- The judgement at the end of a training burst (R147). Its last 4 blocks are the last 4 that were used, a DESIGN CHOICE where some were frozen
(log entry 86); the err_mean of a burst from which nothing was adapted is open. -/
def State.judge (s : State) (p : Port) (b : RakeBurst) (whole : Nat) : State :=
  let (s, r) := s.openRunning p b (trainBase s p b)
  let (tail, used) := (b.tail, b.used)
  let err := if tail = [] then s.openNat % 65536 else errMean tail.sum tail.length
  let s := if tail = [] then s.nextOpen else s
  let conv := decide (16 ≤ whole) && tail ≠ [] && decide (err ≤ s.govOf b.tick (R.EQZ_TARGET.conv_err p))
  let s := s.putRunning p b.onu { r with judged := some conv, gain := if conv then some b.gain else none }
  let s := s.modRake p (fun k => { k with bursts := k.bursts.map (fun y =>
    if y.entry = b.entry ∧ y.tick = b.tick then { y with judged := true } else y) })
  let s := s.bumpP p 0x67
  let s := if conv then (s.bumpP p 0x68).pulseP p 0x43 0 else s.pulseP p 0x44 0
  match s.slotOf p b.onu with
  | some c => s.modCtx p c (fun y =>
      if trainsNow y b.tick then { y with report := some { converged := conv, errMean := err, used := used } } else y)
  | none => s

/-- At a tick a training burst of the frame that ends whose payload held no whole block is judged. -/
def State.judgeTick (s : State) (p : Port) : State :=
  let l := (s.port p).rake.bursts.filter (fun b => b.train && !b.judged && b.tick == s.tick && wholeBlocks s p b == 0)
  if !s.receiving p || s.fenced p || s.inReset p then s else l.foldl (fun s b => s.judge p b 0) s

/-! ### The buffer (R131) -/

/-- The burst of a block. -/
def rakeBurst (s : State) (p : Port) (entry tick : Nat) : Option RakeBurst :=
  (s.port p).rake.bursts.find? (fun b => b.entry == entry && b.tick == tick)

/-- The Rake considers a block: in training every one up to 256, else one in 2^decim (R128, R146). -/
def considered (s : State) (p : Port) (b : RakeBurst) (index : Nat) : Bool :=
  adaptable s p b && (if b.train then decide (index < 256) else index % 2 ^ s.govOf b.tick (R.EQZ_CTRL.decim p) == 0)

/-- The number of a block's place in the Rake's buffer. -/
def rakePlace (h : HeldBlock) : Nat := 4096 * h.entry + h.index

/-- A block whose verdicts are known is worked on; the last whole one of a training burst ends it. A block whose place in the buffer holds poison is
discarded and counted with the excluded ones (R319, DEDUCED, log entry 42). -/
def State.rakeDone (s : State) (p : Port) (h : HeldBlock) (excluded : Bool) : State :=
  match rakeBurst s p h.entry h.tick with
  | none => s
  | some b =>
    let s := match b.staged with
      | some x =>
        if considered s p b h.index then (s.useDie p 8 (rakePlace h) 8).rakeAdapt p b x (excluded || dieBad s p 8 (rakePlace h)) h
        else s
      | none => s
    let whole := wholeBlocks s p b
    match rakeBurst s p h.entry h.tick with
    | none => s
    | some b => if b.train && h.index + 1 = whole && !b.judged then s.judge p b whole else s

/-- Whether a buffered block can be worked on, and if so whether it is excluded. One of a data burst waits until its header has been read or lost, since
the header may show the burst to be misdirected (R132). -/
def blockReady (s : State) (p : Port) (h : HeldBlock) : Option Bool :=
  match rakeBurst s p h.entry h.tick with
  | none => some true
  | some b =>
    if b.train || !considered s p b h.index then some false
    else if !b.counted then none
    else blockVerdict s p h.entry h.tick h.index

/-- Every buffered block that can be worked on is, those of one ONU in arrival order. -/
def State.drainRake (s : State) (p : Port) : State :=
  if !s.receiving p || (s.port p).rake.buffer = [] then s
  else
    let (s, rest) := (s.port p).rake.buffer.foldl (fun (acc : State × List HeldBlock) h =>
      if acc.2.any (fun x => x.onu == h.onu) then (acc.1, acc.2 ++ [h])
      else match blockReady acc.1 p h with
        | some ex => (acc.1.rakeDone p h ex, acc.2)
        | none => (acc.1, acc.2 ++ [h])) (s, [])
    s.modRake p (fun k => { k with buffer := rest })

/-- RAKE_BLOCK (R128 to R135, R146, R147): a whole block of a received burst reaches the Rake and waits for its verdicts. With 64 blocks in the
buffer, which the spec excludes, it is not taken: a DESIGN CHOICE (log entry 86). -/
def execRakeBlock (port : Port) (block : RakeBlock) (s : State) : Host.Outcome State Fault Refusal :=
  .next (
    match rakeBurst s port block.entry block.tick with
    | none => s
    | some b =>
      if s.fenced port || s.inReset port || !s.receiving port || decide (wholeBlocks s port b ≤ block.index)
          || decide (64 ≤ (s.port port).rake.buffer.length) then s
      else
        let at_ := b.start + 4096 * (burstProfile s port b).sym * block.index
        let h : HeldBlock := { entry := b.entry, tick := b.tick, onu := b.onu, index := block.index, words := rxWords s port (at_ + 49) block.codes }
        ((s.memWrite (dieSpace port) (dieWord port 8 (rakePlace h)) allBytes).modRake port
          (fun k => { k with buffer := k.buffer ++ [h] })).drainRake port)

/-! ### Write-back (R137 to R142) -/

/-- EQZ_LAST_WB takes the write-back just made. -/
def State.lastWb (s : State) (p : Port) (onu result : Nat) (anchored : Bool) (r : Running) (err : Nat) : State :=
  let s := (s.setFld (R.EQZ_LAST_WB_0.result p) result).setFlag (R.EQZ_LAST_WB_0.anchored p) anchored
  let s := (s.setFld (R.EQZ_LAST_WB_0.used_blocks p) (min r.used 4095)).setFld (R.EQZ_LAST_WB_0.onu_id p) onu
  (s.setFld (R.EQZ_LAST_WB_1.err_mean p) err).setFld (R.EQZ_LAST_WB_1.frozen_blocks p) (min r.frozen 4095)

/-- One LSB toward the anchor's value (R141). -/
def toward (c a : Int) : Int := if c < a then c + 1 else if a < c then c - 1 else c

/-- The words of a preset record that a write-back writes: everything but the front end, gen and the reserved rest. -/
def State.writePreset (s : State) (p : Port) (c : Nat) (anchor : Bool) : State :=
  let w := presetWord p c anchor
  ((s.memWrite 0 w (bitsMinus allBytes (2 ^ 6))).memWrite 0 (w + 1) allBytes).memWrite 0 (w + 2) (2 ^ 24 - 1)

/-- The write-back of a running copy whose gen matches (R137, R141, R142, R147). -/
def State.applyWb (s : State) (p : Port) (c : Nat) (x : Staged) (r0 : Running) (fcN : Nat) (failed : Bool) : State :=
  let y := s.ctx p c
  let m := s.mode p
  let rd := s.govOf r0.frame
  let leak := rd (R.EQZ_CTRL.leak_en p) == 1 && fcN % 2 ^ rd (R.EQZ_CTRL.leak_rate p) == 0
  let r := if leak then
      { r0 with
        taps := Vector.ofFn (fun k => if tapUsed m k.val then toward r0.taps[k] x.anchorTaps[k] else r0.taps[k]), cm := toward r0.cm x.anchorCm }
    else r0
  let r := if r.taps ≠ r0.taps || r.cm ≠ r0.cm then { r with touched := true } else r
  let err := if r.used = 0 then s.openNat % 65536 else errMean r.errSum r.used
  let s := if r.used = 0 then s.nextOpen else s
  let clean := !failed && r.used ≠ 0 && decide (err ≤ rd (R.EQZ_TARGET.conv_err p))
  let conv := r.judged = some true
  let run := if clean then min (y.work.anchorRun + 1) 65535 else 0
  let auto := rd (R.EQZ_CTRL.auto_anchor p)
  let doAuto := !conv && auto ≠ 0 && decide (2 ^ auto ≤ run)
  let work : Preset := { y.work with
    taps := Vector.ofFn (fun k => if tapUsed m k.val then r.taps[k] else y.work.taps[k]), cm := r.cm, eqBias := r.eqBias,
    gain := r.gain.getD y.work.gain, trained := r.judged.getD y.work.trained, errMean := err,
    wbCount := min (y.work.wbCount + 1) 65535, lastFrame := fcN % 2 ^ 32, frozenBlocks := min r.frozen 65535,
    usedBlocks := min r.used 65535, anchorRun := if conv || doAuto then 0 else run }
  let anchor : Preset :=
    if conv then { y.anchor with taps := work.taps, cm := work.cm, eqBias := work.eqBias, gain := work.gain, trained := true }
    else if doAuto then { y.anchor with
      cdrPhase := work.cdrPhase, dcLevel := work.dcLevel, gain := work.gain, ctle := work.ctle, cm := work.cm, taps := work.taps }
    else y.anchor
  let s := s.setCtx p c { y with work := work, anchor := anchor }
  let s := s.writePreset p c false
  let s := if conv || doAuto then s.writePreset p c true else s
  let s := s.bumpP p 0x60
  let s := if leak then s.bumpP p 0x65 else s
  let s := if doAuto then (s.bumpP p 0x66).pulseP p 0x45 0 else s
  let s := match Tab.find (s.port p).rake.running y.onuId with
    | some k => if leak && k.frame = r.frame then (s.putRunning p y.onuId { k with taps := r.taps, cm := r.cm, touched := r.touched }).cursorEvent p k r else s
    | none => s
  s.lastWb p y.onuId (match r.judged with | some true => 3 | some false => 4 | none => 0) (conv || doAuto) r err

/-- RAKE_WRITEBACK (R137 to R142): the write-back of the oldest frame before the present one in which the ONU had a burst that allows
adaptation; a write-back that a fence, a reset or the leaving of the receive modes catches is discarded with result 2. EQZ_LAST_WB_1.err_mean of a
discarded write-back is 0, which the spec does not say: DESIGN CHOICE (log entry 105). That a judged training burst without a staged preset has one,
R147 against R94, is a DESIGN CHOICE too (log entry 104). -/
def execRakeWriteback (port : Port) (onu : Nat) (s : State) : Host.Outcome State Fault Refusal :=
  .next (
    let k := (s.port port).rake
    let mine := fun (b : RakeBurst) => b.onu == onu && writesBack s port b
    match k.bursts.find? (fun b => mine b && decide (b.tick < s.tick)) with
    | none => s
    | some b =>
      let all := k.bursts.filter (fun x => mine x && x.tick == b.tick)
      let x := trainBase s port b
      let own := (Tab.find k.closed onu).filter (fun r => r.frame == b.tick)
      let held := own.getD (match Tab.find k.running onu with
        | some r => if r.frame = b.tick then r else r.fresh b.tick
        | none => Running.start x b.tick)
      let s := s.modRake port (fun k => { k with
        bursts := k.bursts.filter (fun x => !(mine x && x.tick == b.tick)), closed := if own.isSome then Tab.del k.closed onu else k.closed,
        running := k.running.map (fun e => if e.1 = onu ∧ e.2.frame = b.tick then (e.1, e.2.fresh b.tick) else e) })
      if s.fenced port || s.inReset port || !s.receiving port then (s.bumpP port 0x61).lastWb port onu 2 false held 0
      else
        match s.slotOf port onu with
        | none => ((s.bumpP port 0x61).pulseP port 0x40 0).lastWb port onu 1 false held 0
        | some c =>
          let w := presetWord port c false
          let s := s.memRead 0 w
          if memPoison s 0 w &&& 2 ^ 6 ≠ 0 then
            (((s.consumePoison 0 w 5).fencePort port [0x06]).bumpP port 0x61).lastWb port onu 2 false held 0
          else if (s.ctx port c).work.gen ≠ held.gen then
            ((s.bumpP port 0x61).pulseP port 0x40 0).lastWb port onu 1 false held 0
          else s.applyWb port c x held ((s.fc + 2 ^ 51 - (s.tick - b.tick)) % 2 ^ 51) (all.any (fun x => x.failed)))

/-! ### Preset commands (R149) -/

/-- A little-endian number of `n` bytes at offset `i` of a buffer. -/
def leAt (b : List Byte) (i n : Nat) : Nat := leNat ((b.drop i).take n)

/-- The tap halfwords of a record extend their sign (Table 5-1). -/
def recordOk (b : List Byte) : Bool :=
  (List.range 31).all (fun k => let h := leAt b (8 + 2 * k) 2; bitsOf h 15 12 == (if bitAt h 11 then 15 else 0))

/-- A preset with bytes 0x00 to 0x47 of a buffer but for gen, valid = 1 (Table 5-3). -/
def presetFrom (b : List Byte) (old : Preset) : Preset :=
  let a := leAt b 0 4
  let c := leAt b 4 4
  { old with
    cdrPhase := bitsOf a 31 26, dcLevel := signedOf 9 (bitsOf a 24 16), gain := bitsOf a 14 8, ctle := bitsOf a 3 0,
    cm := signedOf 8 (bitsOf c 31 24), eqBias := signedOf 8 (bitsOf c 15 8), trained := bitAt c 1, valid := true,
    taps := Vector.ofFn (fun k => signedOf 12 (leAt b (8 + 2 * k.val) 2 % 4096)), wbCount := 0, anchorRun := 0 }

/-- A preset command with the context of its ONU-ID, or its refusal. An ONU-ID is active on the port where any context, of whatever state but FREE, holds it:
DESIGN CHOICE (log entry 106), the spec lists no states. -/
def State.presetCmd (s : State) (iss : Issue) (op0 mask : Nat) (k : State → Nat → State) : State :=
  s.hostCmd iss [(op0, mask)] (fun s =>
    let onu := bitsOf op0 9 0
    match if onu = 1023 then none else s.slotOf iss.port onu with
    | none => s.refuse iss (Config.presetReason 0).toNat
    | some c => k s c)

/-- A preset that is not the Rake's write: gen of the working preset increments, and its write-back count starts again (R136). -/
def OnuCtx.nextGen (x : OnuCtx) : OnuCtx := { x with work := { x.work with gen := (x.work.gen + 1) % 256, wbCount := 0 } }

/-- PRESET_WRITE (R149, Table 5-3). -/
def execPresetWrite (iss : Issue) (op0 : Nat) (record : List Byte) (s : State) : Host.Outcome State Fault Refusal :=
  .next (s.presetCmd iss op0 0x303FF (fun s c =>
    let sel := bitsOf op0 17 16
    if sel = 0 then s.refuse iss 0x10
    else if !recordOk record then s.refuse iss (Config.presetReason 1).toNat
    else
      let s := s.modCtx iss.port c (fun x => ({ x with
        work := if bitAt sel 0 then presetFrom record x.work else x.work,
        anchor := if bitAt sel 1 then presetFrom record x.anchor else x.anchor } : OnuCtx).nextGen)
      let s := if bitAt sel 0 then s.memWriteWords 0 (presetWord iss.port c false) 4 else s
      let s := if bitAt sel 1 then s.memWriteWords 0 (presetWord iss.port c true) 4 else s
      s.succeed iss 0 0))

/-- The four words of one preset record are copied to the other, with their poison (R318). -/
def State.copyPreset (s : State) (p : Port) (c : Nat) (fromAnchor : Bool) : State :=
  let src := presetWord p c fromAnchor
  let dst := presetWord p c (!fromAnchor)
  (List.range 4).foldl (fun s i =>
    let s := (s.memRead 0 (src + i)).memWrite 0 (dst + i) allBytes
    s.setWordErr 0 (dst + i) { WordErr.none with poison := memPoison s 0 (src + i) }) s

/-- PRESET_ANCHOR (R149). -/
def execPresetAnchor (iss : Issue) (op0 : Nat) (s : State) : Host.Outcome State Fault Refusal :=
  .next (s.presetCmd iss op0 0x3FF (fun s c =>
    if !(s.ctx iss.port c).work.valid then s.refuse iss (Config.presetReason 2).toNat
    else
      let s := s.modCtx iss.port c (fun x => ({ x with anchor := x.work } : OnuCtx).nextGen)
      (s.copyPreset iss.port c false).succeed iss 0 0))

/-- PRESET_RESTORE (R149): anchor_run is cleared; gen goes on from the working preset's. -/
def execPresetRestore (iss : Issue) (op0 : Nat) (s : State) : Host.Outcome State Fault Refusal :=
  .next (s.presetCmd iss op0 0x3FF (fun s c =>
    if !(s.ctx iss.port c).anchor.valid then s.refuse iss (Config.presetReason 2).toNat
    else
      let s := s.modCtx iss.port c (fun x => ({ x with
        work := { x.anchor with gen := x.work.gen, anchorRun := 0 } } : OnuCtx).nextGen)
      (s.copyPreset iss.port c true).succeed iss 0 0))

end Sys2Proof.Machine
end

