-- ==== Sys2Proof/Machine/Crystal.lean ====
section
/-!
DEFINITION. The Crystalliser and the LDPC decoders (chapter 6): windows to engines, codewords to decoders, release, audits and
substitution.
-/
namespace Sys2Proof.Machine

/-! ### Units -/

/-- The state field of a unit (Table of XTL_UNIT and XTL_DEC: 0 in service, 1 spare free, 2 spare auditing, 3 to 5 faulty, 6 under
test). -/
def unitState (p : Port) (cls : UnitClass) (u : Nat) : RegField :=
  match cls with
  | .engine => R.XTL_UNIT.state p u
  | .decoder => R.XTL_DEC.state p u

def unitReason (p : Port) (cls : UnitClass) (u : Nat) : RegField :=
  match cls with
  | .engine => R.XTL_UNIT.fail_reason p u
  | .decoder => R.XTL_DEC.fail_reason p u

def unitMismatches (p : Port) (cls : UnitClass) (u : Nat) : RegField :=
  match cls with
  | .engine => R.XTL_UNIT.mismatches p u
  | .decoder => R.XTL_DEC.mismatches p u

/-- The installed units of a class (Table 1-2). -/
def unitCount : UnitClass → Nat
  | .engine => 22
  | .decoder => 9

/-- The code of a class in the repair-map delta. -/
def deltaClass : UnitClass → Nat
  | .engine => 1
  | .decoder => 2

/-- The units of a class in a state. -/
def unitsIn (s : State) (p : Port) (cls : UnitClass) (ok : Nat → Bool) : List Nat :=
  (List.range (unitCount cls)).filter (fun u => ok (s.fld (unitState p cls u)))

/-- The lowest-numbered free spare of a class, auditing or not (R10, R176). -/
def freeSpare (s : State) (p : Port) (cls : UnitClass) : Option Nat :=
  (unitsIn s p cls (fun x => x == 1 || x == 2)).head?

/-- The maps, the counts and the audit_off bits of XTL_STATUS follow the unit states. -/
def State.unitStatus (s : State) (p : Port) : State :=
  let e := unitsIn s p .engine (· == 0)
  let d := unitsIn s p .decoder (· == 0)
  let ef := unitsIn s p .engine (fun x => x == 1 || x == 2)
  let df := unitsIn s p .decoder (fun x => x == 1 || x == 2)
  let s := s.setFld (R.XTL_SPARE_MAP.eng_in_service p) (e.map (2 ^ ·)).sum
  let s := s.setFld (R.XTL_LDPC_MAP.dec_in_service p) (d.map (2 ^ ·)).sum
  let s := (s.setFld (R.XTL_STATUS.eng_active p) e.length).setFld (R.XTL_STATUS.eng_spare_free p) ef.length
  let s := (s.setFld (R.XTL_STATUS.dec_active p) d.length).setFld (R.XTL_STATUS.dec_spare_free p) df.length
  (s.setFlag (R.XTL_STATUS.eng_audit_off p) (ef = [])).setFlag (R.XTL_STATUS.dec_audit_off p) (df = [])

/-- The DSP cycles of one iteration (R167, R174). -/
def iterationCycles (s : State) (p : Port) : Nat := if s.g50 p then 80 else 96

/-- The cycle at which a decoder has done with a codeword. -/
def DecSlot.until_ (x : DecSlot) (cyc : Nat) : Nat := x.start + x.out.iterations * cyc

/-- The codewords a unit holds at a DSP cycle fail with cause 3 (R11): the window in an engine, the codeword a decoder iterates on and the one it
loads. -/
def State.loseHeld (s : State) (p : Port) (cls : UnitClass) (u now : Nat) : State :=
  let cyc := iterationCycles s p
  s.modXtl p (fun x =>
    match cls with
    | .engine =>
      match Tab.find x.engines u with
      | some h => if now < h.2 then { x with engines := Tab.del x.engines u, lost := h.1 :: x.lost } else x
      | none => x
    | .decoder =>
      let l := (Tab.find x.decoders u).getD []
      let held := l.filter (fun d => decide (now < d.until_ cyc))
      if held = [] then x
      else { x with decoders := Tab.put x.decoders u (l.filter (fun d => !held.contains d)), lost := held.map DecSlot.cw ++ x.lost })

/-- The class's substitution counter and event (R10, Table 6-5). -/
def State.countSubstitution (s : State) (p : Port) (cls : UnitClass) : State :=
  (s.bumpP p (match cls with | .engine => 0x79 | .decoder => 0x7A)).pulseP p 0x51 0

/-- No spare is free for a unit that has left service: the class is degraded (R15, R178). -/
def State.degrade (s : State) (p : Port) (cls : UnitClass) : State :=
  (s.setFlag (match cls with | .engine => R.XTL_STATUS.eng_degraded p | .decoder => R.XTL_STATUS.dec_degraded p) true).pulseP p 0x52 0

/-- A unit leaves service at a cycle for state `st` with a fail reason; the lowest-numbered free spare takes its place, or the class is degraded
and the ceiling follows (R10, R11, R15, R16). -/
def State.replaceUnit (s : State) (p : Port) (cls : UnitClass) (u st reason now : Nat) : State :=
  let s := s.loseHeld p cls u now
  let s := (s.setFld (unitState p cls u) st).setFld (unitReason p cls u) reason
  let s := match freeSpare s p cls with
    | some a => (s.setFld (unitState p cls a) 0).countSubstitution p cls
    | none => s.degrade p cls
  (s.unitStatus p).updateCeiling p

/-! ### Codewords -/

/-- The entry of a codeword's burst, in the map of its frame. -/
def cwEntry (s : State) (p : Port) (cw : CwRef) : Option MapEntry :=
  (s.mapAt p cw.tick).entries[cw.entry]?

/-- The symbols or bits of a burst before codeword `i`. -/
def XtlBurst.before_ (x : XtlBurst) (i : Nat) : Nat := (x.spans.take i).sum

/-- A burst is changed. -/
def State.modXtlBurst (s : State) (p : Port) (b : XtlBurst) (f : XtlBurst → XtlBurst) : State :=
  s.modXtl p (fun x => { x with bursts := x.bursts.map (fun y =>
    if y.entry = b.entry ∧ y.tick = b.tick ∧ y.resp = b.resp then f y else y) })

/-- TRACKING_LOAD (R144): at a codeword boundary of a long enough payload the live set takes a running copy that has changed. -/
def State.trackingLoad (s : State) (p : Port) (e : MapEntry) (x : XtlBurst) (at_ : Nat) : State :=
  let onu := burstOnu s p e
  match Tab.find (s.port p).rake.running onu with
  | some r =>
    if s.govOf x.tick (R.EQZ_CTRL.track_en p) = 1 && decide (s.govOf x.tick (R.EQZ_SS.track_min p) ≤ x.total.getD 0) && r.touched then
      ((s.setLive p at_ { taps := usedTaps (s.mode p) r.taps, cm := r.cm, bias := r.eqBias }).modRake p (fun k => { k with
        running := Tab.put k.running onu { r with touched := false } })).bumpP p 0x69
    else s
  | none => s

/-- The audit of a class in progress, and its count of windows or codewords that found the auditor free. -/
def auditJob (x : XtlState) : UnitClass → Option AuditJob
  | .engine => x.engJob
  | .decoder => x.decJob
def auditCount (x : XtlState) : UnitClass → Nat
  | .engine => x.engAudits
  | .decoder => x.decAudits
def auditStage (x : XtlState) : UnitClass → AuditStage
  | .engine => x.engStage
  | .decoder => x.decStage

/-- A window or codeword goes to unit `u` at a cycle for `dur` cycles. Where it finds the auditor free it counts, and every 2^audit_rate-th that
does is processed by the auditor too (R176). -/
def State.auditStart (s : State) (p : Port) (cls : UnitClass) (cw : CwRef) (u now dur : Nat) : State :=
  let x := (s.port p).xtl
  match freeSpare s p cls with
  | none => s
  | some a =>
    let busy := match auditJob x cls with
      | some j => j.auditor == a && decide (now < j.until_)
      | none => false
    if busy then s
    else
      let s := s.setFld (unitState p cls a) 1
      if s.govOf cw.tick (R.XTL_CTRL.audit_en p) = 0 then s
      else
        let n := auditCount x cls + 1
        let s := s.modXtl p (fun x => match cls with
          | .engine => { x with engAudits := n }
          | .decoder => { x with decAudits := n })
        if n % 2 ^ s.govOf cw.tick (R.XTL_CTRL.audit_rate p) ≠ 0 then s
        else
          let j : AuditJob := { cw := cw, unit := u, auditor := a, until_ := now + dur }
          ((s.bumpP p 0x77).setFld (unitState p cls a) 2).modXtl p (fun x => match cls with
            | .engine => { x with engJob := some j }
            | .decoder => { x with decJob := some j })

/-- An audit has ended: its auditor is a free spare that audits nothing. -/
def State.auditEnd (s : State) (p : Port) (cls : UnitClass) (job : Option AuditJob) : State :=
  match job with
  | some j => if s.fld (unitState p cls j.auditor) = 2 then s.setFld (unitState p cls j.auditor) 1 else s
  | none => s

/-- The lowest-numbered in-service engine that is free at a cycle. -/
def freeEngine (s : State) (p : Port) (now : Nat) : Option Nat :=
  (unitsIn s p .engine (· == 0)).find? (fun u =>
    match Tab.find (s.port p).xtl.engines u with
    | some h => decide (h.2 ≤ now)
    | none => true)

/-- An engine is busy with a window of `n` symbols or bits, overlaps included, for a quarter of them and 8 cycles (R166). -/
def windowCycles (n : Nat) : Nat := n / 4 + 8

/-- A window goes to the lowest-numbered in-service engine that is free, and perhaps to the auditor (R166, R176). -/
def State.placeWindow (s : State) (p : Port) (cw : CwRef) (u : Option Nat) (from_ n : Nat) : State :=
  match u with
  | some u =>
    (s.modXtl p (fun t => { t with engines := Tab.put t.engines u (cw, from_ / 64 + windowCycles n) })).auditStart p .engine cw u (from_ / 64)
      (windowCycles n)
  | none => s

/-- The segments of a G50 codeword of `n` bits: at most 2,880 each (R173). -/
def segments (n : Nat) : List Nat :=
  List.replicate (n / 2880) 2880 ++ (if n % 2880 = 0 then [] else [n % 2880])

/-- The overlap of a G50 segment in a port power mode (R173). -/
def g50Lap (mode : Nat) : Nat := if mode = 3 then 32 else 64

/-- The windows that a codeword of `n` symbols or bits puts on engines, each as the symbol time of its left overlap and its length (R166, R173). -/
def engineWindows (s : State) (p : Port) (at_ n stride : Nat) : List (Nat × Nat) :=
  if s.g50 p then
    let lap := g50Lap (s.mode p)
    let l := segments n
    (List.range l.length).map (fun i => (at_ + (l.take i).sum * stride - lap * stride, (l[i]?).getD 0 + 2 * lap))
  else [(at_ - 64, n + 128)]

/-- The symbols or bits of a codeword of a burst: those of the layout (R158), or in G50 mode those of its announced form, its codewords in
order. -/
def cwLength (s : State) (p : Port) (x : XtlBurst) (cw : CwRef) (form : G50Form) : Option Nat :=
  if s.g50 p then (if cw.index = x.spans.length ∧ form.bits ≠ 0 then some form.bits else none) else x.spans[cw.index]?

/-- CODEWORD_WINDOW_START (R144, R166, R173): the codes from 79 symbols before a codeword to 79 after it. The lowest-numbered in-service engine
that is free takes the window. -/
def execCodewordWindowStart (port : Port) (win : WindowStart) (s : State) : Host.Outcome State Fault Refusal :=
  .next (
    match cwEntry s port win.cw, xtlBurst s port win.cw.entry win.cw.tick win.cw.resp with
    | some e, some x =>
      let busy := (s.port port).xtl.windows.any (fun w => w.cw = win.cw) || (cwDecided s port win.cw).isSome
      match cwLength s port x win.cw win.form with
      | none => s
      | some n =>
        if s.fenced port || s.inReset port || busy then s
        else
          let stride := (s.profileOf port win.cw.tick e.profile).sym
          let at_ := x.start + x.before_ win.cw.index * stride
          let from_ := at_ - 64 * stride
          let s := s.settle port from_
          let w : CwWindow := { cw := win.cw, start := from_, n := n, stride := stride,
                                punct := if s.g50 port then win.form.punct else [], words := rxWords s port (from_ + 49) win.codes, sets := [(from_, liveSet s port)] }
          let s := s.modXtl port (fun t => { t with windows := t.windows ++ [w] })
          let x' := if s.g50 port then { x with spans := x.spans ++ [n], total := some win.form.total } else x
          let s := s.modXtlBurst port x (fun _ => x')
          let s := s.trackingLoad port e x' at_
          (engineWindows s port at_ n stride).foldl (fun s i => s.placeWindow port win.cw (freeEngine s port (i.1 / 64)) i.1 i.2) s
    | _, _ => s)

/-! ### Engines and decoders (R162 to R169, R173) -/

/-- The port power mode of the frame that holds the last symbol of a run (R552). -/
def symbolMode (s : State) (p : Port) (symbol : Nat) : Nat :=
  if symbol < frameTime s.tick then (s.port p).xtl.modeWas else s.mode p

/-- The equaliser's outputs over a window, each by the live set in force at its symbol and with that set's cm. -/
def windowOutputs (w : CwWindow) : List (Int × Int) :=
  (List.range (w.n + 128)).map (fun i =>
    let live := (((w.sets.filter (fun e => decide (e.1 ≤ w.start + i * w.stride))).getLast?).map Prod.snd).getD
      { taps := Vector.replicate 31 0, cm := 0, bias := 0 }
    (ffe live.taps live.bias ((w.words.drop (i * w.stride)).take 31), live.cm))

/-- What an engine knows of a window. -/
def engineSetup (s : State) (p : Port) (x : XtlBurst) : EngineSetup :=
  let rd := s.govOf x.tick
  { noise := x.noise, scale := rd (R.XTL_CTRL.llr_scale p), t := rd (R.EQZ_TARGET.t_ p), cm2 := signedOf 8 (rd (R.XTL_G50_CTL.cm2 p)),
    before := x.before, free := s.openNat }

/-- The segments of a G50 codeword from bit `i` on, each with what the one before it left (R162, R173). -/
def g50Segments (cool : Bool) (lap : Nat) (ys : List (Int × Int)) : List Nat → Nat → Option Nat → EngineSetup → EngineRun → EngineRun
  | [], _, _, _, acc => acc
  | n :: l, i, start, g, acc =>
    let r := engineG50 cool lap n start g ((ys.drop (64 + i - lap)).take (n + 2 * lap))
    g50Segments cool lap ys l (i + n) none { g with noise := r.noise, before := r.before }
      { r with soft := acc.soft ++ r.soft, hard := acc.hard.take i ++ r.hard }

/-- What the engines make of a codeword's window. -/
def engineRun (s : State) (p : Port) (x : XtlBurst) (w : CwWindow) (mode : Nat) : EngineRun :=
  let g := engineSetup s p x
  let ys := windowOutputs w
  let first := decide (w.cw.index = 0)
  if s.g50 p then
    let start := if first then some (2 * bit01 (decide (0 ≤ x.lead.1)) + bit01 (decide (0 ≤ x.lead.2))) else none
    g50Segments (mode = 2) (g50Lap mode) ys (segments w.n) 0 start g { soft := [], hard := [], noise := x.noise, before := x.before }
  else engineM200 (mode = 2) (if mode = 3 then 32 else 64) w.n first (decide (x.total = some (w.cw.index + 1))) g ys

/-- A decoder iterates on a codeword at a cycle. -/
def iterating (s : State) (p : Port) (u now : Nat) : Option DecSlot :=
  ((Tab.find (s.port p).xtl.decoders u).getD []).find? (fun d =>
    decide (d.start ≤ now) && decide (now < d.until_ (iterationCycles s p)))

/-- The decoder that takes a codeword (R169): the lowest in-service one not iterating, or the one whose codeword has completed the
most iterations, the lowest on a tie. -/
def pickDecoder (s : State) (p : Port) (now : Nat) : Option Nat :=
  let units := unitsIn s p .decoder (· == 0)
  match units.find? (fun u => (iterating s p u now).isNone) with
  | some u => some u
  | none =>
    let it := fun u => match iterating s p u now with
      | some d => (now - d.start) / iterationCycles s p
      | none => 0
    units.find? (fun u => it u == (units.map it).foldl max 0)

/-- The soft values of a codeword with those of its untransmitted bits before them (R164) and of the bits it punctures, of which nothing is known, in
their places (R173); and how many stand before. -/
def withKnown (punct : List Nat) (soft : List Int) : Nat × List Int :=
  let known := 17280 - soft.length - punct.length
  (known, punct.foldl (fun l i => l.take i ++ 0 :: l.drop i) (List.replicate known 31 ++ soft))

/-- The codeword that a decoder iterates on ends with its current hard decisions (R169). -/
def State.preemptAt (s : State) (p : Port) (u now : Nat) : State :=
  match iterating s p u now with
  | none => s
  | some d =>
    let k := (now - d.start) / iterationCycles s p
    let d' := { d with limit := k, out := ldpcDecode d.offset k false d.soft }
    ((s.bumpP p 0x74).pulseP p 0x54 0).modXtl p (fun x => { x with
      decoders := Tab.put x.decoders u (((Tab.find x.decoders u).getD []).map (fun y => if y.cw = d.cw then d' else y)),
      preempted := d.cw :: x.preempted })

/-- The DSP cycle at which the soft values of a codeword are in a decoder (Table 6-4), `last` being the symbol time behind its last symbol. -/
def loadedAt (s : State) (p : Port) (mode last : Nat) : Nat :=
  let wait := if s.g50 p then 50 + (if mode = 3 then 654 else 685) else 16 + 2199
  ceilDiv last 64 + wait + 8

/-- A codeword is loaded into a decoder and decoded (R167, R169). -/
def State.loadDecoder (s : State) (p : Port) (cw : CwRef) (punct : List Nat) (soft : List Int) (mode now : Nat) : State :=
  let rd := s.govOf cw.tick
  let offset := rd (R.XTL_CTRL.min_sum_offset p)
  match pickDecoder s p now with
  | none => s
  | some u =>
    let s := s.preemptAt p u now
    let (known, all) := withKnown punct soft
    let out := ldpcDecode offset (iterationLimit mode) (rd (R.XTL_CTRL.early_stop p) == 1) all
    let d : DecSlot := {
      cw := cw, start := now, soft := all, known := known, punct := punct, offset := offset, limit := iterationLimit mode, out := out }
    let s := s.modXtl p (fun x => { x with decoders := Tab.put x.decoders u ((Tab.find x.decoders u).getD [] ++ [d]) })
    s.auditStart p .decoder cw u now (out.iterations * iterationCycles s p)

/-- AUDIT_MISMATCH (R177): the event and its count; the auditor goes under test, unless one is under test already (R178). -/
def State.auditMismatch (s : State) (p : Port) (cls : UnitClass) (u a : Nat) : State :=
  if auditStage (s.port p).xtl cls ≠ .none || s.fld (unitState p cls u) ≠ 0 || !(s.fld (unitState p cls a) = 1 || s.fld (unitState p cls a) = 2) then s
  else
    let s := (s.pulseP p 0x50 0).bumpP p 0x78
    let s := (s.addFldSat (unitMismatches p cls u) 1).addFldSat (unitMismatches p cls a) 1
    let s := s.setFld (unitState p cls a) 6
    let s := s.modXtl p (fun x => match cls with
      | .engine => { x with engStage := .testAuditor u a }
      | .decoder => { x with decStage := .testAuditor u a })
    s.unitStatus p

/-- CODEWORD_TO_DECODER (R162 to R169, R173, R176): a codeword's soft values are complete. `fault` is what engines out of order make of it. The
trellis is that of the mode in effect in the frame of its last symbol, and the decisions of a codeword lost with its engine still stand before
its burst's next window: both are DEDUCED (log entry 87). -/
def execCodewordToDecoder (port : Port) (cw : CwRef) (fault : EngineFault) (s : State) : Host.Outcome State Fault Refusal :=
  .next (
    match (s.port port).xtl.windows.find? (fun w => w.cw = cw), xtlBurst s port cw.entry cw.tick cw.resp with
    | some w, some x =>
      if s.fenced port || s.inReset port then s
      else
        let last := w.start + (w.n + 64) * w.stride
        let mode := symbolMode s port (last - 1)
        let r := engineRun s port x w mode
        let s := if x.noise.1 = 0 then s.nextOpen else s
        let out := fault.unit.getD { soft := r.soft, hard := r.hard }
        let lost := (s.port port).xtl.lost.contains cw
        let job := (s.port port).xtl.engJob.filter (fun j => j.cw = cw)
        let s := s.modXtl port (fun t => { t with
          windows := t.windows.filter (fun y => y.cw ≠ cw), engines := t.engines.filter (fun h => h.2.1 ≠ cw),
          decided := t.decided ++ [(cw, out.hard, none)], engJob := if job.isSome then none else t.engJob })
        let s := s.modXtlBurst port x (fun y => { y with noise := r.noise, before := r.before })
        let s := (if lost then s else s.loadDecoder port cw w.punct out.soft mode (loadedAt s port mode last)).auditEnd port .engine job
        match job with
        | some j => if out ≠ fault.auditor.getD { soft := r.soft, hard := r.hard } then s.auditMismatch port .engine j.unit j.auditor else s
        | none => s
    | _, _ => s)

/-! ### Release -/

/-- The cause of a failed codeword as XTL_LAST_FAIL_0 gives it, or none for one that passed (R170, R171, R11). -/
def cwCause (x : XtlState) (cw : CwRef) (poisoned : Bool) (unsat : Nat) : Option Nat :=
  if x.lost.contains cw then some 3
  else if poisoned then some 2
  else if unsat = 0 then none
  else if x.preempted.contains cw then some 1
  else some 0

/-- A failed codeword is recorded (R180). -/
def State.recordFail (s : State) (p : Port) (cw : CwRef) (onu cause unsat : Nat) : State :=
  let s := (s.bumpP p 0x72).modXtl p (fun x => { x with failedNow := x.failedNow + 1 })
  let s := (s.setFld (R.XTL_LAST_FAIL_0.cw_index p) cw.index).setFld (R.XTL_LAST_FAIL_0.cause p) cause
  let s := (s.setFld (R.XTL_LAST_FAIL_0.onu_id p) onu).setFld (R.XTL_LAST_FAIL_1.frame_lo p) (s.fc % 2 ^ 16)
  s.setFld (R.XTL_LAST_FAIL_1.unsat p) (min unsat 2688)

/-- The watch counters count the codewords of one ONU, as its frame's setting names it (R181, R182). -/
def State.watchCount (s : State) (p : Port) (tick onu : Nat) (failed : Bool) (corrected : Nat) : State :=
  if s.govOf tick (R.XTL_WATCH.watch_en p) = 1 && s.govOf tick (R.XTL_WATCH.watch_onu p) = onu then
    let s := s.bumpP p 0x7C
    let s := if failed then s.bumpP p 0x7D else s
    s.bumpBy (portCtr p 0x7E) corrected
  else s

/-- The slots of a released codeword: retired or wasted (R170, R434); in G50 mode they leave the payload counted as tail. -/
def State.acctCodeword (s : State) (p : Port) (e : MapEntry) (tick n : Nat) (failed : Bool) : State :=
  let back := if s.g50 p then n else 0
  s.acctEntry p tick e
    (fun a => { a with
      retired := a.retired + (if failed then 0 else n), failed := a.failed + (if failed then n else 0), tail := a.tail - back })
    (if failed then 0 else n) (((if failed then n else 0 : Nat) : Int) - back)

/-- The whole slots of a codeword of a burst. -/
def cwSlots (stride : Nat) (x : XtlBurst) (i : Nat) : Nat := x.before_ (i + 1) * stride / 64 - x.before_ i * stride / 64

/-- The decoder that holds a codeword, with its slot. -/
def decoderOf (x : XtlState) (cw : CwRef) : Option (Nat × DecSlot) :=
  x.decoders.findSome? (fun e => (e.2.find? (fun d => d.cw = cw)).map (fun d => (e.1, d)))

/-- A released codeword leaves its decoder, and its verdict is known. -/
def State.dropCodeword (s : State) (p : Port) (cw : CwRef) (failed : Bool) : State :=
  s.modXtl p (fun t => { t with
    windows := t.windows.filter (fun y => y.cw ≠ cw), engines := t.engines.filter (fun h => h.2.1 ≠ cw),
    decoders := t.decoders.map (fun e => (e.1, e.2.filter (fun d => d.cw ≠ cw))),
    lost := t.lost.filter (· ≠ cw), preempted := t.preempted.filter (· ≠ cw), decJob := t.decJob.filter (fun j => j.cw ≠ cw),
    decided := if t.decided.any (fun d => d.1 = cw) then t.decided.map (fun d => if d.1 = cw then (d.1, d.2.1, some failed) else d)
      else t.decided ++ [(cw, [], some failed)] })

/-- The seed of a burst's scrambler (R227). -/
def burstSeed (start onu fc : Nat) : Nat := start % 2 ^ 18 * 2 ^ 40 + onu % 2 ^ 10 * 2 ^ 30 + fc % 2 ^ 29 * 2 + 1

/-- The frame counter of the frame that began at a tick not long ago. -/
def fcOf (s : State) (tick : Nat) : Nat := (s.fc + 2 ^ 51 - (s.tick - tick)) % 2 ^ 51

/-- The information bytes of a decoded codeword, descrambled: the scrambler runs through the transmitted information bits of a burst's codewords
in order (R159, R170, R227); in G50 mode it is that of G.9804.2 (R237). -/
def codewordInfo (s : State) (p : Port) (e : MapEntry) (x : XtlBurst) (i known : Nat) (bits : List Bool) : List Byte :=
  let info := (bits.take 14592).drop known
  let n := ((x.spans.take i).map (fun m => 8 * codewordBytes (m / 64))).sum
  let clear := if s.g50 p then info.zipIdx.map (fun b => b.1 != Config.g50Scramble (fcOf s x.tick) true i b.2)
    else (scramble (burstSeed e.start (burstOnu s p e) (fcOf s x.tick)) (List.replicate n false ++ info)).drop n
  bytesOf (clear.length / 8) clear

/-- A codeword that a unit has lost or a buffer has poisoned counts as decoded as any other, with what its decoder made of it: a DESIGN CHOICE
(log entry 87). -/
def State.countCodeword (s : State) (p : Port) (corrected iterations : Nat) : State :=
  let s := (s.bumpP p 0x70).bumpBy (portCtr p 0x73) corrected
  (if corrected = 0 then s else s.bumpP p 0x71).bumpBy (portCtr p 0x76) iterations

/-- CODEWORD_RELEASE (R168, R170, R171, R176, R180): the codeword reaches TC delineation, passed or failed. `fault` is what decoders out of order
make of it, `poisoned` the word of a buffer that yields poison. -/
def execCodewordRelease (port : Port) (cw : CwRef) (obs : ReleaseObs) (s : State) : Host.Outcome State Fault Refusal :=
  .next (
    match cwEntry s port cw, xtlBurst s port cw.entry cw.tick cw.resp with
    | some e, some x =>
      let t := (s.port port).xtl
      let slot := (decoderOf t cw).map Prod.snd
      let known := (slot.isSome || t.lost.contains cw) && ((cwDecided s port cw).bind Prod.snd).isNone
      if s.fenced port || s.inReset port || !known then s
      else
        let onu := burstOnu s port e
        let right := (slot.map DecSlot.out).getD { bits := [], iterations := 0, unsat := 0 }
        let out := obs.fault.unit.getD right
        let corrected := (slot.map (fun d => correctedBits d.known d.punct d.soft out.bits)).getD 0
        let cause := cwCause t cw obs.poisoned.isSome out.unsat
        let n := cwSlots (s.profileOf port cw.tick e.profile).sym x cw.index
        let job := t.decJob.filter (fun j => j.cw = cw)
        let s := (s.dropCodeword port cw cause.isSome).modXtlBurst port x (fun y => { y with left := y.left - n })
        let s := (s.countCodeword port corrected out.iterations).emit
          (.codeword port cw cause.isSome (codewordInfo s port e x cw.index ((slot.map DecSlot.known).getD 0) out.bits))
        let s := match cause with
          | some k => s.recordFail port cw onu k out.unsat
          | none => s
        let s := match cause, obs.poisoned with
          | some 2, some w => (s.bumpP port 0x75).consumePoison (1 + port.val / 4) w 7
          | _, _ => s
        let s := s.watchCount port cw.tick onu cause.isSome corrected
        let s := if cause.isNone then s
          else (if cw.index = 0 && cw.resp = 0 then s.countBurst port cw.entry cw.tick else s).startHunt port e.alloc
        let s := s.acctCodeword port e cw.tick n cause.isSome
        let s := if cause.isNone then s
          else s.modRake port (fun r => { r with bursts := r.bursts.map (fun b =>
            if b.entry = cw.entry ∧ b.tick = cw.tick then { b with failed := true } else b) })
        let s := s.auditEnd port .decoder job
        let s := match job with
          | some j =>
            let check := obs.fault.auditor.getD right
            if out.bits ≠ check.bits || out.iterations ≠ check.iterations then s.auditMismatch port .decoder j.unit j.auditor else s
          | none => s
        s.drainRake port
    | _, _ => s)

/-- The failed codewords of the frame that ends reach fail_thresh (R180); what is left of the frame before it is dropped. -/
def State.failTick (s : State) (p : Port) : State :=
  let n := (s.port p).xtl.failedNow
  let s := s.modXtl p (fun x => { x with
    failedNow := 0, modeWas := s.mode p, bursts := x.bursts.filter (fun b => decide (s.tick ≤ b.tick)),
    windows := x.windows.filter (fun w => decide (s.tick ≤ w.cw.tick)), decided := x.decided.filter (fun d => decide (s.tick ≤ d.1.tick)) })
  if n ≠ 0 && decide (s.gov (R.XTL_FAIL_CTL.fail_thresh p) ≤ n) then s.pulseP p 0x53 0 else s

/-! ### Tests and swaps (R177 to R179) -/

/-- XTL_TEST_FAIL (R179): the named unit leaves service at the next codeword boundary; a number beyond the class is ignored. -/
def execXtlTestFail (src : Nat) (port : Port) (value : Nat) (s : State) : Host.Outcome State Fault Refusal :=
  .next (s.accessed src (R.XTL_TEST_FAIL.addr port) (fun s =>
    let cls : UnitClass := if bitAt value 5 then .decoder else .engine
    let u := bitsOf value 4 0
    if bitAt value 31 && decide (u < unitCount cls) then
      s.modXtl port (fun x => { x with swaps := x.swaps.filter (· ≠ (cls, u)) ++ [(cls, u)] })
    else s))

/-- A unit that XTL_TEST_FAIL has named leaves service, or a spare that it has named is free no longer (R178, R179). -/
def State.swapUnit (s : State) (p : Port) (cls : UnitClass) (u now : Nat) : State :=
  let s := s.modXtl p (fun x => { x with swaps := x.swaps.filter (· ≠ (cls, u)) })
  if s.fld (unitState p cls u) = 0 then s.replaceUnit p cls u 5 3 now
  else if s.fld (unitState p cls u) ≤ 2 then
    let s := (s.setFld (unitState p cls u) 5).setFld (unitReason p cls u) 3
    let s := if (freeSpare s p cls).isNone then s.degrade p cls else s
    (s.unitStatus p).updateCeiling p
  else s

/-- UNIT_SWAP_AT_BOUNDARY (R11, R12, R177, R179): at DSP cycle `cycle` of the frame a test write's unit, or the unit of a confirmed mismatch, leaves
service; test writes that wait for the same boundary are served in ascending unit index. -/
def execUnitSwapAtBoundary (port : Port) (cls : UnitClass) (at_ : UnitAt) (s : State) : Host.Outcome State Fault Refusal :=
  .next (
    let x := (s.port port).xtl
    let now := 194400 * s.tick + at_.cycle
    if x.swaps.contains (cls, at_.unit) then
      ((List.range (at_.unit + 1)).filter (fun u => x.swaps.contains (cls, u))).foldl (fun s u => s.swapUnit port cls u now) s
    else
      match auditStage x cls with
      | .swapDue u a =>
        if u = at_.unit then
          let s := (s.loseHeld port cls u now).setFld (unitState port cls u) 6
          let s := (s.setFld (unitState port cls a) 0).modXtl port (fun x => match cls with
            | .engine => { x with engStage := .testUnit u }
            | .decoder => { x with decStage := .testUnit u })
          (s.unitStatus port).updateCeiling port
        else s
      | _ => s)

/-- A unit is marked faulty by its test after a mismatch: fail_reason 2 and an entry of the delta (R177). -/
def State.markFaulty (s : State) (p : Port) (cls : UnitClass) (u : Nat) : State :=
  ((s.setFld (unitState p cls u) 5).setFld (unitReason p cls u) 2).appendDelta (deltaClass cls) p.val u

/-- KNOWN_ANSWER_TEST_DONE (R177, R178). -/
def execKnownAnswerTestDone (port : Port) (cls : UnitClass) (unit : Nat) (passed : Bool) (s : State) :
    Host.Outcome State Fault Refusal :=
  .next (
    let x := (s.port port).xtl
    let setStage := fun (s : State) (st : AuditStage) => s.modXtl port (fun x => match cls with
      | .engine => { x with engStage := st }
      | .decoder => { x with decStage := st })
    match auditStage x cls with
    | .testAuditor u a =>
      if a ≠ unit then s
      else if passed then setStage s (.swapDue u a)
      else
        let s := (setStage s .none).markFaulty port cls a
        (if (freeSpare s port cls).isNone then s.degrade port cls else s).unitStatus port
    | .testUnit u =>
      if u ≠ unit then s
      else if passed then
        ((((setStage s .none).setFld (unitState port cls u) 1).unitStatus port).bumpP port 0x7B).pulseP port 0x56 0
      else
        let s := ((setStage s .none).markFaulty port cls u).countSubstitution port cls
        let s := s.unitStatus port
        (if (freeSpare s port cls).isNone then s.degrade port cls else s).updateCeiling port
    | _ => s)

/-- The units of a class that serve when nothing has failed. -/
def classSize : UnitClass → Nat
  | .engine => 20
  | .decoder => 8

/-- The degraded bit of a class. -/
def degradedBit (p : Port) : UnitClass → RegField
  | .engine => R.XTL_STATUS.eng_degraded p
  | .decoder => R.XTL_STATUS.dec_degraded p

/-- The known-answer tests of one class (R10, R175, R178, R179): units failed by a test write are good again; the in-service set is the first 20
or 8 units that are not faulty; each unit of it that failed and whose place a unit above takes is a substitution. A class stays degraded, without a new
event, while a faulty unit has no spare. -/
def State.testClass (s : State) (p : Port) (failed : List (UnitClass × Nat)) (cls : UnitClass) : State :=
  let s := (List.range (unitCount cls)).foldl (fun s u =>
    if s.fld (unitReason p cls u) = 3 && s.fld (unitState p cls u) = 5 then
      (s.setFld (unitState p cls u) 1).setFld (unitReason p cls u) 0
    else s) s
  let before := (unitsIn s p cls (fun x => decide (x ≤ 2) || x == 6)).take (classSize cls)
  let bad := (unitsIn s p cls (fun x => decide (x ≤ 2) || x == 6)).filter (fun u => failed.contains (cls, u))
  let s := bad.foldl (fun s u =>
    ((s.setFld (unitState p cls u) 5).setFld (unitReason p cls u) 1).appendDelta (deltaClass cls) p.val u) s
  let good := unitsIn s p cls (fun x => decide (x ≤ 2) || x == 6)
  let n := classSize cls
  let s := (good.take n).foldl (fun s u => s.setFld (unitState p cls u) 0) s
  let s := (good.drop n).foldl (fun s u => s.setFld (unitState p cls u) 1) s
  let s := ((good.take n).filter (fun u => !before.contains u)).foldl (fun s _ => s.countSubstitution p cls) s
  let was := s.flag (degradedBit p cls)
  if (good.length < n && (bad ≠ [] || !was)) || (good.length = n && bad.any (fun u => !before.contains u)) then s.degrade p cls
  else if n < good.length then s.setFlag (degradedBit p cls) false
  else s

/-- The known-answer tests of start-up and warm-up; `failed` lists the units whose test failed, (class, unit). -/
def State.knownAnswerTests (s : State) (p : Port) (failed : List (UnitClass × Nat)) : State :=
  let s := (s.testClass p failed .engine).testClass p failed .decoder
  let s := s.modXtl p (fun x => { x with swaps := [], engStage := .none, decStage := .none, engJob := none, decJob := none })
  s.unitStatus p

end Sys2Proof.Machine
end

