-- ==== Sys2Proof/Machine/Framing.lean ====
section
/-!
DEFINITION. TC framing (chapter 8): PLOAM messages both ways, burst headers, status reports, upstream encapsulations and reassembly,
keys, messages to the host, and the TC commands.
-/
namespace Sys2Proof.Machine

/-- A number as `n` big-endian bytes (R205), and back. -/
def beBytes (n x : Nat) : List Byte := (List.range n).map (fun i => BitVec.ofNat 8 (x / 256 ^ (n - 1 - i)))
def beNat (b : List Byte) : Nat := b.foldl (fun acc x => acc * 256 + x.toNat) 0
/-- A big-endian field of a PLOAM content, by the message's byte number (content starts at byte 4). -/
def ploamField (m : Ploam) (byte n : Nat) : Nat := beNat ((m.content.drop (byte - 4)).take n)

/-- The default MIC key: 32 bytes of 0x55 (R215). -/
def defaultKey : Nat := beNat (List.replicate 32 0x55#8)

/-- The integrity key of an ONU-ID (R215). -/
def micKey (s : State) (p : Port) (onu : Nat) : Nat :=
  if onu = 1023 then defaultKey else (Tab.find (s.port p).tcf.keys (onu * 4 + 3)).getD defaultKey

/-- Bytes 0 to 39 of a message (Table 8-3). -/
def ploamBytes (m : Ploam) (seq : Nat) : List Byte :=
  beBytes 2 (m.onu % 1024) ++ beBytes 1 m.type ++ beBytes 1 seq ++ (m.content ++ List.replicate 36 0#8).take 36

/-- The MIC of a message by its direction (R214, R237). In G50 mode the message has the layout of Table 8-3 and its tag is that of G.9804: PRESUMED
(log entry 89). -/
def micOf (s : State) (p : Port) (up : Bool) (m : Ploam) (seq : Nat) : Nat :=
  (if s.g50 p then Config.g50Mic up (micKey s p m.onu) (ploamBytes m seq) else Config.aesCmac8 (micKey s p m.onu) (ploamBytes m seq)).toNat

/-! ### Messages to the host (R234) -/

/-- The oldest posted buffer takes a message; result0 is that of R353. -/
def State.deliver (s : State) (p : Port) (kind result0 : Nat) (bytes : List Byte) : State :=
  match (s.port p).tcf.rxBufs with
  | [] => (s.bumpP p 0x9E).pulseP p 0x71 0
  | b :: rest =>
    if b.size < bytes.length then (s.bumpP p 0x9F).pulseP p 0x72 0
    else
      let s := (s.modTcf p (fun t => { t with rxBufs := rest })).tcfStatus p
      (s.toHost b.iss.fn (.buffer b.iss.fn b.iss.tag bytes)).succeed b.iss (kind * 2 ^ 30 + result0) (s.fc % 2 ^ 32)

/-- result0 of an ordinary message: ONU-ID and length. -/
def msgResult (onu len : Nat) : Nat := onu % 1024 * 2 ^ 14 + len

/-! ### Upstream bursts (R217, R226 to R229) -/

/-- The entry of a received burst whose payload TC framing may use: the port runs, or has left the receive modes at the tick that ended
the burst's frame (R552), and takes bursts (R407); the burst was received and is not misdirected. -/
def rxEntry (s : State) (p : Port) (entry tick : Nat) : Option MapEntry :=
  if s.fenced p || s.inReset p || !hears s p || (!s.receiving p && s.tick ≠ tick + 1) then none
  else
    match (s.mapAt p tick).entries[entry]? with
    | some e =>
      if isDisc e then some e
      else if (s.port p).rake.bursts.any (fun b => b.entry == entry && b.tick == tick && !b.misdirected) then some e
      else none
    | none => none

/-- The entry of a burst whose first codeword has not failed: its header, PLOAM and status report may be used (R228). -/
def rxHead (s : State) (p : Port) (entry tick : Nat) : Option MapEntry :=
  if (cwDecided s p ⟨entry, tick, 0, 0⟩).bind Prod.snd = some true then none else rxEntry s p entry tick

/-- The entry and the burst that a message came in: the entry's own burst (`resp` 0), or in a quiet window the response of that number from 1 on.
Its first codeword must not have failed. -/
def rxMessage (s : State) (p : Port) (entry tick resp : Nat) : Option (MapEntry × XtlBurst) :=
  match rxEntry s p entry tick, xtlBurst s p entry tick resp with
  | some e, some b => if (cwDecided s p ⟨entry, tick, resp, 0⟩).bind Prod.snd = some true then none else some (e, b)
  | _, _ => none

/-- The arrival position X of a burst's delimiter, in symbols after the tick of its frame (R250, R264). -/
def arrivalOf (s : State) (p : Port) (e : MapEntry) (b : XtlBurst) : Nat := b.start - (s.profileOf p b.tick e.profile).dlm - frameTime b.tick

/-- What a burst header says: the ONU-ID, the Alloc-ID it names if any, plo_pend and dg. A G50 header is G.9804's of 32 bits, ONU-ID, indications
and hec, and names no Alloc-ID: PRESUMED (log entry 89). -/
def headerFields (g50 : Bool) (h : Nat) : Nat × Option Nat × Bool × Bool :=
  if g50 then (bitsOf h 31 22, none, bitAt h 21, bitAt h 13) else (bitsOf h 63 54, some (bitsOf h 53 42), bitAt h 41, bitAt h 40)

/-- BURST_HEADER (R228): `header` is the 64-bit word of Table 8-7. The Rake's blocks of the burst that waited for it are worked on (R132). -/
def execBurstHeader (port : Port) (entry tick header : Nat) (s : State) : Host.Outcome State Fault Refusal :=
  .next (
    match rxHead s port entry tick with
    | none => s
    | some e =>
      let (onu, alloc, pend, dg) := headerFields (s.g50 port) header
      let owner := (s.allocOwner port e.alloc).map Prod.fst
      let ownId := match owner with
        | some c => (s.ctx port c).onuId
        | none => 1023
      if owner.isNone || onu ≠ ownId || alloc.getD e.alloc ≠ e.alloc then
        let s := s.modRake port (fun r => { r with bursts := r.bursts.map (fun b =>
          if b.entry = entry ∧ b.tick = tick then { b with misdirected := true } else b) })
        let s := (s.setFld (R.TCF_LAST_MISDIR.hdr_onu_id port) onu).setFld (R.TCF_LAST_MISDIR.alloc_id port) e.alloc
        (((s.setFld (R.TCF_LAST_MISDIR.owner_onu_id port) ownId).bumpP port 0x9C).pulseP port 0x73 0).drainRake port
      else
        let s := (s.countBurst port entry tick).drainRake port
        if follows s port then s
        else
          let s := match owner with
            | some c => s.modCtx port c (fun x => { x with ploPend := pend, gasp := x.gasp || dg })
            | none => s
          if dg then (s.pulseP port 0x74 0).deliver port 3 (msgResult onu 8) (beBytes 8 header) else s)

/-- The type codes that Table 8-4 and R243 define. -/
def ploamDefined (t : Nat) : Bool :=
  t == 0 || t == 1 || (3 ≤ t && t ≤ 7) || (0x20 ≤ t && t ≤ 0x22) || (0x40 ≤ t && t ≤ 0x43) || 0x80 ≤ t

/-- An upstream message passes its MIC (R217). -/
def micPasses (s : State) (p : Port) (m : UpPloam) : Bool := micOf s p true m.msg m.seq == m.mic

/-- UPSTREAM_PLOAM (R217, R234, R244): in G50 mode the completion of a message of a discovery or ranging allocation holds X (R264). -/
def execUpstreamPloam (port : Port) (entry tick resp : Nat) (msg : UpPloam) (s : State) :
    Host.Outcome State Fault Refusal :=
  .next (
    match rxMessage s port entry tick resp with
    | none => s
    | some (e, b) =>
      if !e.ploamu || msg.msg.type = 0 then s
      else if !micPasses s port msg then (s.bumpP port 0x92).pulseP port 0x70 0
      else
        let s := s.bumpP port 0x91
        let s := if !s.g50 port && !ploamDefined msg.msg.type then s.bumpP port 0xA2 else s
        if follows s port then s
        else
          let s := match s.slotOf port msg.msg.onu with
            | some c => if msg.msg.type = 0x43 && !s.g50 port then s.modCtx port c (fun x => { x with txPresetOut := false }) else s
            | none => s
          let r0 := if s.g50 port && (isDisc e || e.ranging) then 2 ^ 29 + arrivalOf s port e b % 2 ^ 24 else msgResult msg.msg.onu 48
          s.deliver port 1 r0 (ploamBytes msg.msg msg.seq ++ beBytes 8 msg.mic))

/-- CRC-8 of Table 8-8 over all but the low 8 of the `n` bits of a report: x^8 + x^2 + x + 1, register 0, most significant bit first. -/
def crc8 (n word : Nat) : Nat :=
  (List.range (n - 8)).foldl (fun r i =>
    let b := bit01 (bitAt word (n - 1 - i)) ^^^ r / 128
    let r := r * 2 % 256
    if b = 1 then r ^^^ 0x07 else r) 0

/-- What a status report says in units of 64 bytes, occupancy and trend, when its CRC is good. A G50 report is G.9804's DBRu of 32 bits, an occupancy
in units of 4 bytes under the same CRC, which gives no trend: PRESUMED (log entry 89). -/
def reportFields (g50 : Bool) (r : Nat) : Option (Nat × Nat) :=
  if crc8 (if g50 then 32 else 64) r ≠ bitsOf r 7 0 then none
  else if g50 then some (ceilDiv (bitsOf r 31 8) 16, 0x8000) else some (bitsOf r 63 40, bitsOf r 39 24)

/-- STATUS_REPORT (R229, R272). -/
def execStatusReport (port : Port) (entry tick report : Nat) (s : State) : Host.Outcome State Fault Refusal :=
  .next (
    match rxHead s port entry tick with
    | none => s
    | some e =>
      if !e.dbru then s
      else
        match reportFields (s.g50 port) report with
        | none => s.bumpP port 0x9B
        | some (occupancy, trend) =>
          let s := s.bumpP port 0x9A
          if follows s port then s
          else
            match s.allocOwner port e.alloc with
            | some (c, i) => s.modCtx port c (fun x => x.modRec i (fun r => { r with
                occupancy := occupancy, trend := trend, repAge := 0, reported := true, grantedSince := 0, repTick := tick }))
            | none => s)

/-! ### Encapsulations (R220 to R225, R231, R232) -/

/-- The hec of a header checks. -/
def hecOk (w : Nat) : Bool := hecSyndrome w == 0

/-- A header with none, one or two of its bits corrected; none when its syndrome shows more errors (R221). The syndrome is linear: that of
an error pattern is that of the word received. -/
def hecCorrect (w : Nat) : Option (Nat × Bool) :=
  let s := hecSyndrome w
  if s = 0 then some (w, false)
  else
    let syn := (List.range 64).map (fun i => (i, hecSyndrome (2 ^ i)))
    match syn.find? (fun a => a.2 = s) with
    | some a => some (w ^^^ 2 ^ a.1, true)
    | none =>
      (syn.findSome? (fun a => (syn.find? (fun b => decide (b.1 < a.1) && (a.2 ^^^ b.2 == s))).map
        (fun b => w ^^^ 2 ^ a.1 ^^^ 2 ^ b.1))).map (fun x => (x, true))

/-- The counter block of Table 8-9 for block `i`. -/
def ctrBlock (fc flow : Nat) (up : Bool) (start offset i : Nat) : Nat :=
  fc % 2 ^ 48 * 2 ^ 80 + flow % 2 ^ 20 * 2 ^ 60 + bit01 up * 2 ^ 59 + start % 2 ^ 18 * 2 ^ 41 + offset % 2 ^ 19 * 2 ^ 22 + i % 2 ^ 16

/-- A payload XORed with the key stream of its counter blocks (R231), in G50 mode those of G.9804.2 (R237). -/
def cryptBytes (g50 : Bool) (key fc flow : Nat) (up : Bool) (start offset : Nat) (data : List Byte) : List Byte :=
  let blocks := (List.range (ceilDiv data.length 16)).flatMap (fun i =>
    let block := if g50 then Config.g50Counter fc flow up start offset i else ctrBlock fc flow up start offset i
    beBytes 16 (Config.aesBlock key block).toNat)
  List.zipWith (fun a b => a ^^^ b) data blocks

/-- A partial SDU is abandoned (R225). -/
def State.dropPartial (s : State) (p : Port) (alloc : Nat) : State :=
  match Tab.find (s.port p).tcf.partials alloc with
  | some _ => (s.bumpP p 0x98).modTcf p (fun t => { t with partials := Tab.del t.partials alloc })
  | none => s

/-- A fragment or SDU in the clear joins its partial; a whole SDU goes to the hub, or on a STANDBY port nowhere (R225, R415). One whose reassembly buffer
holds poison when it is whole is discarded and counted (R319). -/
def State.takeFragment (s : State) (p : Port) (e : MapEntry) (tick onu flow : Nat) (keyed first last : Bool) (data : List Byte) : State :=
  let s := match Tab.find (s.port p).tcf.partials e.alloc with
    | some x => if !first || x.flow ≠ flow then s.dropPartial p e.alloc else s
    | none => s
  let part := Tab.find (s.port p).tcf.partials e.alloc
  let data := match part with
    | some x => x.data ++ data
    | none => data
  let clear := fun (s : State) => s.modTcf p (fun t => { t with partials := Tab.del t.partials e.alloc })
  if s.govOf tick (R.TCF_SDU.max_sdu p) < data.length then (clear s).bumpP p 0x98
  else if last && part.isSome && dieBad s p 6 e.alloc then (clear (s.useDie p 6 e.alloc 8)).bumpP p 0x98
  else if !last then
    (if part.isSome then s else s.memWrite (dieSpace p) (dieWord p 6 e.alloc) allBytes).modTcf p (fun t => { t with partials := Tab.put t.partials e.alloc { onu := onu, flow := flow, data := data, age := 0 } })
  else
    if follows s p then (clear s).bump (pairCtr p 10)
    else ((clear s).bumpP p 0x96).modTcf p (fun t => { t with upQ := t.upQ ++ [{ alloc := e.alloc, onu := onu, flow := flow, keyed := keyed, data := data }] })

/-- The flow that a header names, none when it is idle: the Flow-ID of Table 8-6, or in G50 mode that of its Port-ID (R238). An XGEM header has its
fields where Table 8-6 has them, the Port-ID in bits 47 to 32: PRESUMED (log entry 89). -/
def headerFlow (s : State) (p : Port) (tick w : Nat) : Option Nat :=
  if s.g50 p then
    if bitsOf w 47 32 = 0xFFFF then none else some (s.govOf tick (R.TCF_G50.flow_base p) * 65536 + bitsOf w 47 32)
  else if bitsOf w 47 28 = 0xFFFFF then none else some (bitsOf w 47 28)

/-- A header that is not rejected: idle, or of a payload within max_sdu and under a key that may be (R221). -/
def headerGood (s : State) (p : Port) (tick w : Nat) : Bool :=
  (headerFlow s p tick w).isNone
    || (bitsOf w 63 50 ≠ 0 && decide (bitsOf w 63 50 ≤ s.govOf tick (R.TCF_SDU.max_sdu p)) && bitsOf w 49 48 ≠ 3)

/-- The keys in effect in the frame of a tick: the present one, or the one before (R233). -/
def keysOf (s : State) (p : Port) (tick : Nat) : Tab Nat := if tick < s.tick then (s.port p).tcf.keysWas else (s.port p).tcf.keys

/-- ENCAPSULATION_HEADER (R221 to R225, R232): a header in sequence, or in a hunt the next word tested. That a word rejected in a hunt is not
counted as a rejected header is a DESIGN CHOICE (log entry 90). -/
def execEncapsulationHeader (port : Port) (encap : EncapRx) (s : State) : Host.Outcome State Fault Refusal :=
  .next (
    match rxEntry s port encap.entry encap.tick with
    | none => s
    | some e =>
      let hunt := (s.port port).tcf.hunting
      let good := headerGood s port encap.tick
      match hecCorrect encap.word with
      | none => (if hunt then s else s.bumpP port 0x94).startHunt port e.alloc
      | some (w, fixed) =>
        if hunt && (fixed || !good w) then s.startHunt port e.alloc
        else
          let s := if fixed then s.bumpP port 0x93 else s
          if !good w then (s.bumpP port 0x94).startHunt port e.alloc
          else
            let s := s.modTcf port (fun t => { t with hunting := false })
            let k := bitsOf w 49 48
            match headerFlow s port encap.tick w with
            | none => if encap.first then s.dropPartial port e.alloc else s
            | some flow =>
              let onu := match entrySlot s port e with
                | some c => (s.ctx port c).onuId
                | none => 1023
              let data := encap.payload.take (bitsOf w 63 50)
              if k = 0 then s.takeFragment port e encap.tick onu flow false encap.first (bitAt w 13) data
              else
                match Tab.find (keysOf s port encap.tick) (onu * 4 + k) with
                | none => ((s.dropPartial port e.alloc).bumpP port 0x9D).pulseP port 0x75 0
                | some key =>
                  let fcN := (s.fc + 2 ^ 51 - (s.tick - encap.tick)) % 2 ^ 51
                  let name := if s.g50 port then bitsOf w 47 32 else flow
                  s.takeFragment port e encap.tick onu flow true encap.first (bitAt w 13)
                    (cryptBytes (s.g50 port) key fcN name true e.start encap.offset data))

/-- REASSEMBLY_TIMEOUT (R225): reasm_frames frames have passed since the fragment. -/
def execReassemblyTimeout (port : Port) (alloc : Nat) (s : State) : Host.Outcome State Fault Refusal :=
  .next (
    match Tab.find (s.port port).tcf.partials alloc with
    | some x => if s.gov (R.TCF_CTRL.reasm_frames port) ≤ x.age then s.dropPartial port alloc else s
    | none => s)

/-! ### Commands (Tables 8-10 and 8-11) -/

/-- The port's role refuses the command with 0x26 (R409). -/
def roleRefuses (s : State) (p : Port) : Bool :=
  match (s.port p).prot.role with
  | .sync | .standby | .blind => true
  | _ => false

/-- A port command that a SYNC, STANDBY or BLIND port refuses (R352, R409). -/
def State.activeCmd (s : State) (iss : Issue) (ops : List (Nat × Nat)) (k : State → State) : State :=
  s.hostCmd iss ops (fun s => if roleRefuses s iss.port then s.refuse iss 0x26 else k s)

/-- A message type that PLOAM_SEND refuses with 0x01 (R244, Table 8-4). -/
def ploamRefused (g50 : Bool) (t : Nat) : Bool :=
  if g50 then t == 0 || !(t ≤ 0x22 || (0x40 ≤ t && t ≤ 0x43) || 0x80 ≤ t)
  else !ploamDefined t || t ≤ 7 || t == 0x40 || t == 0x41 || t == 0x43

/-- PLOAM_SEND (R216). -/
def execPloamSend (iss : Issue) (msg : Ploam) (s : State) : Host.Outcome State Fault Refusal :=
  .next (s.activeCmd iss [] (fun s =>
    let p := iss.port
    if ploamRefused (s.g50 p) msg.type then s.refuse iss 0x01
    else if msg.onu ≠ 1023 && (s.slotOf p msg.onu).isNone then s.refuse iss 0x02
    else if 256 ≤ (s.port p).tcf.hostQ.length then s.refuse iss 0x03
    else s.awaits iss (fun s => (s.modTcf p (fun t => { t with hostQ := t.hostQ ++ [{ iss := iss, msg := msg }] })).tcfStatus p)))

/-- A Flow-ID is a management flow of the port. -/
def mgmtFlow (s : State) (p : Port) (flow : Nat) : Bool :=
  match Tab.find s.flow.flows flow with
  | some f => f.valid && f.mgmt && f.port == p.val
  | none => false

/-- OMCI_SEND (R235). -/
def execOmciSend (iss : Issue) (op0 : Nat) (data : List Byte) (s : State) : Host.Outcome State Fault Refusal :=
  .next (s.activeCmd iss [(op0, 0xFFFFF)] (fun s =>
    let flow := bitsOf op0 19 0
    if !mgmtFlow s iss.port flow then s.refuse iss 0x07
    else if data.length = 0 || 2048 < data.length then s.refuse iss 0x08
    else if Config.omciCapacity ≤ (s.port iss.port).tcf.omciQ.length then s.refuse iss 0x03
    else
      let onu := ((Tab.find s.flow.flows flow).getD .blank).onu
      s.awaits iss (fun s =>
        s.modTcf iss.port (fun t => { t with omciQ := t.omciQ ++ [{ iss := iss, onu := onu, flow := flow, data := data }] }))))

/-- MSG_RX_POST (R234). -/
def execMsgRxPost (iss : Issue) (size : Nat) (s : State) : Host.Outcome State Fault Refusal :=
  .next (s.hostCmd iss [] (fun s =>
    if 1024 ≤ (s.port iss.port).tcf.rxBufs.length then s.refuse iss 0x03
    else if size < 48 || 65535 < size then s.refuse iss 0x08
    else s.awaits iss (fun s =>
      (s.modTcf iss.port (fun t => { t with rxBufs := t.rxBufs ++ [{ iss := iss, size := size }] })).tcfStatus iss.port)))

/-- The transmit slot of an ONU-ID (R233). -/
def txSlotOf (s : State) (p : Port) (onu : Nat) : Nat := Tab.get (fun _ => 0) (s.port p).tcf.txSlot onu

/-- A payload slot is the transmit slot, or the target of a switch that has not applied. -/
def slotBusy (s : State) (p : Port) (onu slot : Nat) : Bool :=
  let t := (s.port p).tcf
  txSlotOf s p onu == slot || (t.newSwitches ++ t.switches).any (fun x => x.onu == onu && x.slot == slot)

/-- KEY_LOAD and KEY_CLEAR: checked now, applied at the next tick (R230, R233, Table 8-11). -/
def State.keyCmd (s : State) (iss : Issue) (op0 : Nat) (key : Option Nat) : State :=
  s.activeCmd iss [(op0, 0x73FF)] (fun s =>
    let p := iss.port
    let onu := bitsOf op0 9 0
    let kind := bitsOf op0 12 12
    let slot := bitsOf op0 14 13
    if onu ≠ 1023 && (s.slotOf p onu).isNone then s.refuse iss 0x02
    else if (kind = 0 && (slot = 0 || slot = 3)) || (kind = 1 && (slot ≠ 0 || onu = 1023)) then s.refuse iss 0x10
    else if kind = 0 && slotBusy s p onu slot then s.refuse iss 0x05
    else s.modTcf p (fun t => { t with pendKeys := t.pendKeys ++ [{ iss := iss, onu := onu, kind := kind, slot := slot, key := key }] }))

/-- KEY_LOAD (R230). -/
def execKeyLoad (iss : Issue) (op0 key : Nat) (s : State) : Host.Outcome State Fault Refusal := .next (s.keyCmd iss op0 (some key))

/-- KEY_CLEAR (R230). -/
def execKeyClear (iss : Issue) (op0 : Nat) (s : State) : Host.Outcome State Fault Refusal := .next (s.keyCmd iss op0 none)

/-- KEY_SWITCH (R233). -/
def execKeySwitch (iss : Issue) (op0 op1 op2 : Nat) (s : State) : Host.Outcome State Fault Refusal :=
  .next (s.activeCmd iss [(op0, 0x63FF), (op2, 0xFFFF)] (fun s =>
    let p := iss.port
    let onu := bitsOf op0 9 0
    let slot := bitsOf op0 14 13
    if onu ≠ 1023 && (s.slotOf p onu).isNone then s.refuse iss 0x02
    else if slot = 3 then s.refuse iss 0x10
    else if slot ≠ 0 && (Tab.find (s.port p).tcf.keys (onu * 4 + slot)).isNone then s.refuse iss 0x06
    else s.modTcf p (fun t => { t with
      newSwitches := t.newSwitches ++ [{ iss := some iss, onu := onu, slot := slot, fc := op1 % 2 ^ 32 + op2 % 2 ^ 16 * 2 ^ 32 }] })))

/-! ### At the tick (R225, R230, R233) -/

/-- Key loads and clears apply and complete (R230); the keys of the frame that ends stay for its encapsulations (R233). -/
def State.applyKeys (s : State) (p : Port) : State :=
  let l := (s.port p).tcf.pendKeys
  let s := s.modTcf p (fun t => { t with pendKeys := [], keysWas := t.keys })
  l.foldl (fun s k =>
    let i := k.onu * 4 + (if k.kind = 1 then 3 else k.slot)
    let s := s.modTcf p (fun t => { t with keys := match k.key with
      | some x => Tab.put t.keys i x
      | none => Tab.del t.keys i })
    s.succeed k.iss 0 0) s

/-- A frame counter lies before another, as 48-bit counts. -/
def fcBefore (a b : Nat) : Bool := let d := (b + 2 ^ 48 - a) % 2 ^ 48; d ≠ 0 && decide (d < 2 ^ 47)

/-- A command that waits, where there is one, succeeds with result1. -/
def State.succeedOpt (s : State) (iss : Option Issue) (r1 : Nat) : State :=
  match iss with
  | some i => s.succeed i 0 r1
  | none => s

/-- Switches are captured, a later one replacing an earlier one of the ONU-ID, and those whose frame begins apply; one whose frame
has already begun applies from the next frame and is late (KEY_SWITCH_APPLY, R233). `s.fc` is the frame that begins. That the command of a switch
that is replaced succeeds when it is replaced is a DESIGN CHOICE (log entry 90). -/
def State.applySwitches (s : State) (p : Port) : State :=
  let new := (s.port p).tcf.newSwitches
  let now := s.fc % 2 ^ 48
  let due := fun (x : PendSwitch) => x.fc == now || fcBefore x.fc now
  let s := (s.port p).tcf.switches.foldl (fun s x =>
    if due x then (s.modTcf p (fun t => { t with txSlot := Tab.set (fun _ => 0) t.txSlot x.onu x.slot })).succeedOpt x.iss (s.fc % 2 ^ 32)
    else s) s
  let s := s.modTcf p (fun t => { t with newSwitches := [], switches := t.switches.filter (fun x => !due x) })
  new.foldl (fun s x =>
    let s := ((s.port p).tcf.switches.filter (fun y => y.onu == x.onu)).foldl (fun s y => s.succeedOpt y.iss (s.fc % 2 ^ 32)) s
    let s := s.modTcf p (fun t => { t with switches := t.switches.filter (fun y => y.onu ≠ x.onu) })
    if x.fc = now then
      (s.modTcf p (fun t => { t with txSlot := Tab.set (fun _ => 0) t.txSlot x.onu x.slot })).succeedOpt x.iss (s.fc % 2 ^ 32)
    else
      let s := if fcBefore x.fc now then (s.bumpP p 0xA1).pulseP p 0x76 0 else s
      s.modTcf p (fun t => { t with switches := t.switches ++ [x] })) s

/-- Partial SDUs grow older by a frame. -/
def State.agePartials (s : State) (p : Port) : State :=
  s.modTcf p (fun t => { t with partials := t.partials.map (fun e => (e.1, { e.2 with age := e.2.age + 1 })) })

/-! ### Flushing (R236) -/

/-- Every queued PLOAM and OMCI command completes with a reason. -/
def State.flushSends (s : State) (p : Port) (reason : Nat) (which : Nat → Bool) : State :=
  let t := (s.port p).tcf
  let s := s.modTcf p (fun t => { t with
    hostQ := t.hostQ.filter (fun x => !which x.msg.onu), omciQ := t.omciQ.filter (fun x => !which x.onu) })
  let s := (t.hostQ.filter (fun x => which x.msg.onu)).foldl (fun s x => s.refuse x.iss reason) s
  ((t.omciQ.filter (fun x => which x.onu)).foldl (fun s x => s.refuse x.iss reason) s).tcfStatus p

/-- Entry to OFF, a cold region reset and a line-mode change flush the queues and the posted buffers. -/
def State.flushTcf (s : State) (p : Port) : State :=
  let bufs := (s.port p).tcf.rxBufs
  let s := s.flushSends p 0x04 (fun _ => true)
  let s := s.modTcf p (fun t => { t with coreQ := [], rxBufs := [] })
  (bufs.foldl (fun s b => s.succeed b.iss 0 (s.fc % 2 ^ 32)) s).tcfStatus p

end Sys2Proof.Machine
end

