-- ==== Sys2Proof/Machine/Tm.lean ====
section
/-!
DEFINITION. The traffic manager (chapter 10): pools, queues, nodes, admission, selection and the queue commands.
-/
namespace Sys2Proof.Machine

/-! ### Queues, nodes and pools (R285, R290 to R292) -/

def State.queue (s : State) (q : Nat) : Queue := Tab.get (fun _ => Queue.blank) s.tm.queues q
def State.setQueue (s : State) (q : Nat) (x : Queue) : State :=
  { s with tm := { s.tm with queues := Tab.set (fun _ => Queue.blank) s.tm.queues q x } }

/-- The key of a node: level 0 the ONU node, level 1 a class node. -/
def nodeKey (p : Port) (node level cls : Nat) : Nat := p.val * 8192 + node * 16 + (if level = 0 then 0 else 8 + cls)
def State.node (s : State) (k : Nat) : Node := Tab.get (fun _ => Node.blank) s.tm.nodes k
def State.setNode (s : State) (k : Nat) (x : Node) : State :=
  { s with tm := { s.tm with nodes := Tab.set (fun _ => Node.blank) s.tm.nodes k x } }

/-- The port of a Queue-ID: bits 17 to 15. -/
def queuePort (q : Nat) : Port := ⟨q / 32768 % 8, Nat.mod_lt _ (by decide)⟩

/-- The word of a queue state record (Table 12-2). -/
def queueWord (q : Nat) : Nat := 2 ^ 20 + q

/-- The cells of an SDU, of a queue, and of an SDU of a length (R289). -/
def QSdu.cells (d : QSdu) : Nat := d.addrs.length
def EgressSdu.cells (d : EgressSdu) : Nat := d.addrs.length
def Queue.cells (q : Queue) : Nat := (q.sdus.map QSdu.cells).sum
def cellsOf (len : Nat) : Nat := ceilDiv (len + 16) 256

/-- The cells allocated in the cut-through pool or the LPDDR6 pool (R292). -/
def poolUsed (s : State) (lp : Bool) : Nat :=
  (s.tm.queues.map (fun e => ((e.2.sdus.filter (fun x => x.lp == lp)).map QSdu.cells).sum)).sum
    + (s.tm.egress.map (fun e => ((e.2.filter (fun x => x.lp == lp)).map EgressSdu.cells).sum)).sum

/-- The cells of the LPDDR6 pool at the capture size in effect (Table 12-3). -/
def lpTotal (s : State) : Nat := (2 ^ 35 - 2 ^ 27 - s.mem.capSize * 2 ^ 28) / 256

/-- The free cells of the pools. -/
def ctFree (s : State) : Nat := 65536 - poolUsed s false
def lpFree (s : State) : Nat := lpTotal s - poolUsed s true

/-- The cells a port's queues hold. -/
def portCells (s : State) (p : Port) : Nat :=
  (s.tm.queues.map (fun e => if queuePort e.1 = p then e.2.cells else 0)).sum

/-- The cells of a pool that hold something. -/
def poolCells (s : State) (lp : Bool) : List Nat :=
  s.tm.queues.flatMap (fun e => (e.2.sdus.filter (fun x => x.lp == lp)).flatMap QSdu.addrs)
    ++ s.tm.egress.flatMap (fun e => (e.2.filter (fun x => x.lp == lp)).flatMap EgressSdu.addrs)

/-- The first cell at or after `k` of a pool of `total` that is not in use. -/
def freshCell (used : List Nat) (total k : Nat) : Nat :=
  (((List.range (used.length + 1)).map (fun i => (k + i) % total)).find? (fun a => !used.contains a)).getD (k % total)

/-- `n` cells of a pool of `total` are taken from its free list. Which ones, the spec leaves to the device: they are open. -/
def State.takeCells (total : Nat) : Nat → List Nat → State → State × List Nat
  | 0, _, s => (s, [])
  | n + 1, used, s =>
    let a := freshCell used total s.openNat
    let (s, l) := State.takeCells total n (a :: used) s.nextOpen
    (s, a :: l)

/-- The cells for an SDU of `n` cells, from one of the pools. -/
def State.allocCells (s : State) (lp : Bool) (n : Nat) : State × List Nat :=
  s.takeCells (if lp then lpTotal s else 65536) n (poolCells s lp)

/-- The memory space of a pool, and the first word of a cell of it (Tables 12-2 and 12-3). -/
def cellSpace (lp : Bool) : Nat := if lp then 3 else 0
def cellWord (lp : Bool) (a : Nat) : Nat := (if lp then 2 ^ 22 else 160 * 8192) + 8 * a

/-- The words that an SDU of `len` bytes uses in its cells after 16 bytes of chain metadata, with the bytes it uses in each. -/
def cellSpans (lp : Bool) (addrs : List Nat) (len : Nat) : List (Nat × Nat) :=
  addrs.zipIdx.flatMap (fun c => (List.range 8).filterMap (fun j =>
    let left := len + 16 - (256 * c.2 + 32 * j)
    if left = 0 then none else some (cellWord lp c.1 + j, 2 ^ min 32 left - 1)))

/-- An SDU is written into its cells. The last word it uses is written whole: DESIGN CHOICE (log entry 99). -/
def State.writeCells (s : State) (lp : Bool) (addrs : List Nat) (len : Nat) : State :=
  (cellSpans lp addrs len).foldl (fun s w => s.memWrite (cellSpace lp) w.1 allBytes) s

/-- A whole SDU is read from its cells before its release, and whether it is poisoned (R319, Table 12-4): `hurt` says that an error in a cell made
it so, where the memory the model holds has none. -/
def State.releaseCells (s : State) (lp : Bool) (addrs : List Nat) (len : Nat) (hurt : Bool) : State × Bool :=
  let spans := cellSpans lp addrs len
  let bad := spans.any (fun w => memPoison s (cellSpace lp) w.1 &&& w.2 ≠ 0)
  let s := spans.foldl (fun s w => s.useWords (cellSpace lp) w.1 1 w.2 1) s
  if hurt && !bad then (s.consumePoison (cellSpace lp) (cellWord lp (addrs.headD 0)) 1, true) else (s, bad)

/-- A queue's state changes: the bytes of `mask` of its record are written (R322). -/
def State.writeQueue (s : State) (q mask : Nat) (x : Queue) : State := (s.memWrite 0 (queueWord q) mask).setQueue q x

/-- The bytes of the queue record (Table 10-4): class, limits, weight and node; head; tail; cells and SDUs; deficit; drops; enq. -/
def qrBind : Nat := 0xF
def qrHead : Nat := 0xF0
def qrTail : Nat := 0xF00
def qrHeld : Nat := 0xFF000
def qrDeficit : Nat := 0xF00000
def qrDrops : Nat := 0xF000000
def qrEnq : Nat := 0xF0000000

/-- The pool registers and the port's TM status follow; the port limit's rise is the event (Table 10-7). -/
def State.tmStatus (s : State) (p : Port) : State :=
  let n := portCells s p
  let full := decide (s.fld (R.DBA_TM_LIMIT.port_max_cells p) ≤ n)
  let was := s.flag (R.DBA_TM_STATUS.at_limit p)
  let s := (s.setFld R.LPD_POOL_CT.free (ctFree s)).setFld R.LPD_POOL_LP.free (lpFree s)
  let s := (s.setFld (R.DBA_TM_STATUS.port_cells p) n).setFlag (R.DBA_TM_STATUS.at_limit p) full
  if full && !was then s.pulseP p 0x94 0 else s

/-- A queue becomes invalid, its cells freed and its SDUs counted as drops (R287, R293, R294). -/
def State.unbind (s : State) (q : Nat) : State :=
  let x := s.queue q
  (s.writeQueue q (qrBind ||| qrHeld ||| qrDrops) { x with valid := false, sdus := [], lp := false, drops := min (x.drops + x.sdus.length) (2 ^ 32 - 1) }).tmStatus
    (queuePort q)

/-- The valid queues of an ONU node. -/
def nodeQueues (s : State) (p : Port) (ok : Nat → Bool) : List Nat :=
  (s.tm.queues.filter (fun e => queuePort e.1 = p && e.2.valid && ok e.2.node)).map Prod.fst

/-- Every queue of some nodes of a port is unbound. -/
def State.unbindNodes (s : State) (p : Port) (ok : Nat → Bool) : State := (nodeQueues s p ok).foldl (fun s q => s.unbind q) s

/-! ### Admission (R289, R290) -/

/-- An SDU is refused: its counter, and drops of a valid queue. -/
def State.refuseSdu (s : State) (q off : Nat) : State :=
  let x := s.queue q
  let s := s.bumpP (queuePort q) off
  if x.valid then s.writeQueue q qrDrops { x with drops := min (x.drops + 1) (2 ^ 32 - 1) } else s

/-- An SDU is linked to the end of a queue (R289). -/
def State.linkSdu (s : State) (q : Nat) (d : QSdu) : State :=
  let x := s.queue q
  let name := fun (a : Nat) => Config.cellRef d.lp a % 2 ^ 32
  s.writeQueue q ((if x.sdus = [] then qrHead else 0) ||| qrTail ||| qrHeld ||| qrEnq) { x with
    head := if x.sdus = [] then name (d.addrs.headD 0) else x.head, tail := name (d.addrs.getLastD 0),
    lp := x.lp || d.lp, enq := (x.enq + 1) % 2 ^ 32, sdus := x.sdus ++ [d] }

/-- A downstream SDU is offered to a queue (SDU_ADMISSION, R289, R290). -/
def State.admitSdu (s : State) (q flow : Nat) (crypt yellow : Bool) (data : List Byte) : State :=
  let p := queuePort q
  let s := s.memRead 0 (queueWord q)
  let bad := memPoison s 0 (queueWord q) ≠ 0
  let x := s.queue q
  if !x.valid then s.refuseSdu q 0xC9
  else if bad then
    let s := s.consumePoison 0 (queueWord q) 4
    (s.refuseSdu q 0xC9).unbind q
  else
    let n := cellsOf data.length
    let held := x.cells + n
    if 16 * s.fld (R.DBA_QLIM.max_cells p x.limProf) < held then s.refuseSdu q 0xCA
    else if yellow && decide (16 * s.fld (R.DBA_QLIM.yellow_cells p x.limProf) < held) then s.refuseSdu q 0xCB
    else if s.fld (R.DBA_TM_LIMIT.port_max_cells p) < portCells s p + n then s.refuseSdu q 0xCC
    else
      let ct := !x.lp && decide (s.fld R.LPD_POOL_CTL.ct_reserve + n < ctFree s) && decide (held ≤ s.fld R.LPD_POOL_CTL.ct_q_max)
      if !ct && (s.hubFenced 1 || decide (lpFree s < n)) then s.refuseSdu q 0xCC
      else
        let (s, addrs) := s.allocCells (!ct) n
        let s := s.writeCells (!ct) addrs data.length
        let s := (s.linkSdu q { flow := flow, crypt := crypt, addrs := addrs, lp := !ct, data := data }).bumpP p 0xC8
        (if ct then s.bumpP p 0xCE else s).tmStatus p

/-! ### Selection (R286) -/

/-- Level units per byte, and the fill of a bucket at rate 1 (250 kbit/s) per information byte of a frame. -/
def levelUnit : Nat := 12607488
def fillPerByte (g50 : Bool) : Nat := if g50 then 75 else 20

/-- A bucket after a fill, up to its depth in bytes. -/
def fillBucket (level : Int) (rate depth n per : Nat) : Int :=
  min (level + (rate * per * n : Nat)) (depth * levelUnit : Nat)

/-- The buckets of a port fill for `n` information bytes of its frame. -/
def State.fillBuckets (s : State) (p : Port) (n : Nat) : State :=
  let per := fillPerByte (s.g50 p)
  let nodes := s.tm.nodes.map (fun e =>
    if e.1 / 8192 = p.val then
      (e.1, { e.2 with
        cirLevel := fillBucket e.2.cirLevel e.2.rates.cir (64 * e.2.rates.cbs) n per,
        pirLevel := fillBucket e.2.pirLevel e.2.rates.pir (64 * e.2.rates.pbs) n per })
    else e)
  let lvl := fillBucket (Tab.get (fun _ => (0 : Int)) s.tm.portBucket p.val) (s.fld (R.DBA_TM_CTRL.port_rate p))
    (4096 * s.fld (R.DBA_TM_CTRL.port_burst p)) n per
  { s with tm := { s.tm with nodes := nodes, portBucket := Tab.set (fun _ => (0 : Int)) s.tm.portBucket p.val lvl } }

/-- A node's buckets are debited by `n` bytes, whatever their rates; a class node has only the one of its PIR (Table 10-6). -/
def Node.debit (x : Node) (onu : Bool) (n : Nat) : Node :=
  { x with cirLevel := if onu then x.cirLevel - (n * levelUnit : Nat) else x.cirLevel, pirLevel := x.pirLevel - (n * levelUnit : Nat) }

/-- Every bucket on the path of a queue is debited by the encapsulation bytes of an SDU (R286). -/
def State.debitPath (s : State) (q n : Nat) : State :=
  let p := queuePort q
  let x := s.queue q
  let a := nodeKey p x.node 0 0
  let b := nodeKey p x.node 1 x.cls
  let s := s.setNode a ((s.node a).debit true n)
  let s := s.setNode b ((s.node b).debit false n)
  let lvl := Tab.get (fun _ => (0 : Int)) s.tm.portBucket p.val - (n * levelUnit : Nat)
  { s with tm := { s.tm with portBucket := Tab.set (fun _ => (0 : Int)) s.tm.portBucket p.val lvl } }

/-- A PIR bucket allows service. -/
def Node.pirOk (x : Node) : Bool := x.rates.pir == 0 || decide (0 ≤ x.pirLevel)

/-- A queue holds an SDU that can be read now: none in the LPDDR6 pool can while the hub memory region is fenced, nor any while the hub data region is
(R19). -/
def readable (s : State) (x : Queue) : Bool :=
  match x.sdus with
  | [] => false
  | d :: _ => !s.hubFenced 0 && !(d.lp && s.hubFenced 1)

/-- The backlogged queues of a port whose class and node may be served. -/
def servable (s : State) (p : Port) : List (Nat × Queue) :=
  s.tm.queues.filter (fun e => queuePort e.1 = p && e.2.valid && readable s e.2
    && (s.node (nodeKey p e.2.node 0 0)).pirOk && (s.node (nodeKey p e.2.node 1 e.2.cls)).pirOk)

/-- One of several that may have the next turn of a round: the spec fixes the weights and not the order within a round, so the choice is open. -/
def State.pick (s : State) (l : List Nat) : State × Option Nat :=
  match l with
  | [] => (s, none)
  | [x] => (s, some x)
  | x :: _ => (s.nextOpen, some ((l[s.openNat % l.length]?).getD x))

/-- The DWRR deficit of a queue or a node, in bytes. -/
def State.deficit (s : State) (k : Nat) : Int := Tab.get (fun _ => (0 : Int)) s.tm.deficits k
def State.setDeficit (s : State) (k : Nat) (x : Int) : State :=
  { s with tm := { s.tm with deficits := Tab.set (fun _ => (0 : Int)) s.tm.deficits k x } }

/-- The deficit's number of a node. -/
def nodeDeficit (k : Nat) : Nat := 2 ^ 18 + k

/-- A round of a DWRR: what it is now, and its replacement. -/
def State.round (s : State) (r : Nat) : Round := (Tab.find s.tm.rounds r).getD ⟨none, []⟩
def State.setRound (s : State) (r : Nat) (x : Round) : State := { s with tm := { s.tm with rounds := Tab.put s.tm.rounds r x } }

/-- Deficit weighted round robin over members with their weights (R286). The member whose turn it is keeps it while its deficit is positive; then
the turn goes to a member that has had none in the round, or begins a new round, and its deficit grows by its quantum of weight × 64 bytes. What
a member sends beyond its deficit it owes, as the signed deficit of Table 10-4 allows: DESIGN CHOICE (log entry 92). -/
def State.dwrr (r : Nat) : Nat → List (Nat × Nat) → State → State × Option Nat
  | 0, l, s => (s, (l.map Prod.fst).head?)
  | n + 1, l, s =>
    let x := s.round r
    match l.find? (fun e => x.turn == some e.1 && decide (0 < s.deficit e.1)) with
    | some e => (s, some e.1)
    | none =>
      let left := l.filter (fun e => !x.done.contains e.1)
      let (cand, past) := if left = [] then (l, []) else (left, x.done)
      match s.pick (cand.map Prod.fst) with
      | (s, none) => (s, none)
      | (s, some k) =>
        let w := ((l.find? (fun e => e.1 == k)).map Prod.snd).getD 1
        State.dwrr r n l ((s.setDeficit k (s.deficit k + (w * 64 : Nat))).setRound r { turn := some k, done := past ++ [k] })

/-- Enough turns for every member to have paid back what the longest SDU of 16,383 bytes can leave it owing. -/
def dwrrTurns (l : List (Nat × Nat)) : Nat := 520 * l.length

/-- The nodes of a port, the classes of a node, or the queues of a class, with their weights, as a DWRR's members. -/
def nodeMembers (s : State) (ks : List Nat) : List (Nat × Nat) := (ks.eraseDups).map (fun k => (nodeDeficit k, (s.node k).rates.weight))

/-- The queue the engine serves next (SDU_SELECTION, R286). -/
def State.selectQueue (s : State) (p : Port) : State × Option Nat :=
  if s.fld (R.DBA_TM_CTRL.port_rate p) ≠ 0 && decide (Tab.get (fun _ => (0 : Int)) s.tm.portBucket p.val < 0) then (s, none)
  else
    let l := servable s p
    let cir := l.filter (fun e => let x := s.node (nodeKey p e.2.node 0 0); x.rates.cir ≠ 0 && decide (0 ≤ x.cirLevel))
    let l := if cir = [] then l else cir
    let nodes := nodeMembers s (l.map (fun e => nodeKey p e.2.node 0 0))
    match s.dwrr (2 ^ 20 + p.val) (dwrrTurns nodes) nodes with
    | (s, none) => (s, none)
    | (s, some nd) =>
      let l := l.filter (fun e => nodeDeficit (nodeKey p e.2.node 0 0) = nd)
      let floor := s.fld (R.DBA_TM_CTRL.sp_floor p)
      let top := (l.map (fun e => e.2.cls)).foldl max 0
      let classes := nodeMembers s (l.map (fun e => nodeKey p e.2.node 1 e.2.cls))
      let node := ((l.map (fun e => e.2.node)).head?).getD 0
      match if floor ≤ top then (s, some (nodeDeficit (nodeKey p node 1 top))) else s.dwrr (nodeKey p node 0 0) (dwrrTurns classes) classes with
      | (s, none) => (s, none)
      | (s, some c) =>
        let l := l.filter (fun e => nodeDeficit (nodeKey p e.2.node 1 e.2.cls) = c)
        let queues := l.map (fun e => (e.1, e.2.weight))
        s.dwrr (c - 2 ^ 18) (dwrrTurns queues) queues

/-- A member's deficit after it has sent `n` bytes: what is left of it, or 0 where it has nothing more to send. -/
def State.spendDeficit (s : State) (k n : Nat) (more : Bool) : State := s.setDeficit k (if more then s.deficit k - n else 0)

/-- The SDUs of a port's queues that match, as a backlog. -/
def backlog (s : State) (p : Port) (ok : Queue → Bool) : Bool :=
  s.tm.queues.any (fun e => queuePort e.1 = p && e.2.valid && ok e.2 && e.2.sdus ≠ [])

/-- Every DWRR that chose the queue is charged: its node, its class where that is below sp_floor, and itself (R286). -/
def State.chargeRounds (s : State) (q n : Nat) : State :=
  let p := queuePort q
  let x := s.queue q
  let s := s.spendDeficit q n (x.sdus ≠ [])
  let s := s.spendDeficit (nodeDeficit (nodeKey p x.node 0 0)) n (backlog s p (fun y => y.node == x.node))
  if s.fld (R.DBA_TM_CTRL.sp_floor p) ≤ x.cls then s
  else s.spendDeficit (nodeDeficit (nodeKey p x.node 1 x.cls)) n (backlog s p (fun y => y.node == x.node && y.cls == x.cls))

/-- The oldest SDU of a queue leaves it. A queue whose state is found poisoned becomes invalid instead, its SDUs dropped (R289, R319). -/
def State.dequeue (s : State) (q : Nat) : State × Option QSdu :=
  let s := s.memRead 0 (queueWord q)
  let x := s.queue q
  match x.sdus with
  | [] => (s, none)
  | d :: rest =>
    if memPoison s 0 (queueWord q) ≠ 0 then ((s.consumePoison 0 (queueWord q) 4).unbind q, none)
    else
    let n := 8 + 8 * ceilDiv d.data.length 8
    let head := match rest with
      | [] => x.head
      | e :: _ => Config.cellRef e.lp (e.addrs.headD 0) % 2 ^ 32
    let s := s.writeQueue q (qrHead ||| qrHeld ||| qrDeficit) { x with head := head, sdus := rest, lp := rest.any QSdu.lp }
    let s := (s.chargeRounds q n).debitPath q n
    let s := (s.bumpP (queuePort q) 0xCD).bumpBy (portCtr (queuePort q) 0xCF) n
    (s.tmStatus (queuePort q), some d)

/-! ### Commands (Table 10-6) -/

/-- The function may name the queue: PF0 any, PF(n+1) those of port n. -/
def ownsQueue (iss : Issue) (q : Nat) : Bool := iss.fn == 0 || queuePort q == iss.port

/-- The ONU node an ONU-ID names. -/
def onuNode (s : State) (p : Port) (onu : Nat) : Option Nat := if onu = 1023 then some 256 else s.slotOf p onu

/-- QUEUE_BIND. The head and the tail of a queue that has held no SDU are open. -/
def execQueueBind (iss : Issue) (op0 op1 : Nat) (s : State) : Host.Outcome State Fault Refusal :=
  .next (
    let q := bitsOf op0 17 0
    s.hostCmdAt iss (queuePort q) [(op0, 0x3FFFF), (op1, 0x0FFF1FFF)] (fun s =>
      if !ownsQueue iss q || (s.queue q).valid then s.refuse iss 0x11
      else
        match onuNode s (queuePort q) (bitsOf op1 9 0) with
        | none => s.refuse iss 0x13
        | some nd =>
          if bitsOf op1 23 16 = 0 then s.refuse iss 0x10
          else
            (s.nextOpen.nextOpen.writeQueue q allBytes { Queue.blank with
              valid := true, cls := bitsOf op1 12 10, limProf := bitsOf op1 27 24, weight := bitsOf op1 23 16, node := nd,
              head := s.openNat % 2 ^ 32, tail := s.nextOpen.openNat % 2 ^ 32 }).setDeficit q 0 |>.succeed iss 0 0))

/-- QUEUE_MODIFY. -/
def execQueueModify (iss : Issue) (op0 op1 : Nat) (s : State) : Host.Outcome State Fault Refusal :=
  .next (
    let q := bitsOf op0 17 0
    s.hostCmdAt iss (queuePort q) [(op0, 0x3FFFF), (op1, 0x0FFF0000)] (fun s =>
      if !ownsQueue iss q || !(s.queue q).valid then s.refuse iss 0x11
      else if bitsOf op1 23 16 = 0 then s.refuse iss 0x10
      else (s.writeQueue q qrBind { s.queue q with limProf := bitsOf op1 27 24, weight := bitsOf op1 23 16 }).succeed iss 0 0))

/-- QUEUE_UNBIND. -/
def execQueueUnbind (iss : Issue) (op0 : Nat) (s : State) : Host.Outcome State Fault Refusal :=
  .next (
    let q := bitsOf op0 17 0
    s.hostCmdAt iss (queuePort q) [(op0, 0x8003FFFF)] (fun s =>
      if !ownsQueue iss q || !(s.queue q).valid then s.refuse iss 0x11
      else if (s.queue q).cells ≠ 0 && !bitAt op0 31 then s.refuse iss 0x12
      else (s.unbind q).succeed iss (s.queue q).sdus.length 0))

/-- The 32 bytes of a queue state record (Table 10-4). -/
def queueRecord (x : Queue) (deficit : Int) : List Byte :=
  leBytes 4 (bit01 x.valid * 2 ^ 31 + x.cls * 2 ^ 28 + x.limProf * 2 ^ 24 + x.weight * 2 ^ 16 + x.node)
    ++ leBytes 4 x.head ++ leBytes 4 x.tail
    ++ leBytes 4 (bit01 x.lp * 2 ^ 31 + x.cells) ++ leBytes 4 x.sdus.length ++ leBytes 4 (codeOf 32 deficit)
    ++ leBytes 4 x.drops ++ leBytes 4 x.enq

/-- QUEUE_READ. -/
def execQueueRead (iss : Issue) (op0 : Nat) (s : State) : Host.Outcome State Fault Refusal :=
  .next (
    let q := bitsOf op0 17 0
    s.hostCmdAt iss (queuePort q) [(op0, 0x3FFFF)] (fun s =>
      if !ownsQueue iss q then s.refuse iss 0x11
      else
        let s := s.memRead 0 (queueWord q)
        let bad := memPoison s 0 (queueWord q)
        let bytes := maskPoison (queueRecord (s.queue q) (s.deficit q)) bad
        (s.toHost iss.fn (.buffer iss.fn iss.tag bytes)).complete iss { Result.ok 0 0 with poison := bad ≠ 0 }))

/-- NODE_SET: the levels at which its buckets start are open, no higher than their depths. -/
def execNodeSet (iss : Issue) (op0 op1 op2 op3 : Nat) (s : State) : Host.Outcome State Fault Refusal :=
  .next (s.hostCmd iss [(op0, 0xFFF3FF), (op1, 0xFFFFF), (op2, 0xFFFFF)] (fun s =>
    let p := iss.port
    match onuNode s p (bitsOf op0 9 0) with
    | none => s.refuse iss 0x13
    | some nd =>
      if bitsOf op0 23 16 = 0 then s.refuse iss 0x10
      else
        let level := bitsOf op0 12 12
        let k := nodeKey p nd level (bitsOf op0 15 13)
        let cir := if level = 0 then bitsOf op1 19 0 else 0
        let cbs := if level = 0 then bitsOf op3 31 16 else 0
        let r : NodeRates :=
          { cir := cir, pir := bitsOf op2 19 0, cbs := cbs, pbs := bitsOf op3 15 0, weight := bitsOf op0 23 16 }
        let x : Node := { rates := r, cirLevel := (64 * r.cbs * levelUnit : Nat) - (s.openNat : Int),
                          pirLevel := (64 * r.pbs * levelUnit : Nat) - (s.nextOpen.openNat : Int) }
        (s.nextOpen.nextOpen.setNode k x).succeed iss 0 0))

/-- NODE_READ. -/
def execNodeRead (iss : Issue) (op0 : Nat) (s : State) : Host.Outcome State Fault Refusal :=
  .next (s.hostCmd iss [(op0, 0xF3FF)] (fun s =>
    let p := iss.port
    match onuNode s p (bitsOf op0 9 0) with
    | none => s.refuse iss 0x13
    | some nd =>
      let x := s.node (nodeKey p nd (bitsOf op0 12 12) (bitsOf op0 15 13))
      let bytes := Config.nodeRecord x.rates.cir x.rates.pir x.rates.cbs x.rates.pbs x.rates.weight (x.cirLevel / levelUnit)
        (x.pirLevel / levelUnit)
      (s.toHost iss.fn (.buffer iss.fn iss.tag bytes.toList)).succeed iss 0 0))

end Sys2Proof.Machine
end

