-- ==== Sys2Proof/Machine/Onu.lean ====
section
/-!
DEFINITION. ONU activation and ranging (chapter 9): contexts, discovery responses, ranging, training, absence, drift and the activation
commands.
-/
namespace Sys2Proof.Machine

/-! ### Guarantees (R283) -/

/-- The guaranteed load of a record: its profile's overhead is read from the registers as they stand (DEDUCED). -/
def recordLoad (s : State) (p : Port) (r : AllocRec) : Nat :=
  if !r.valid || r.pol.fixed + r.pol.assured = 0 then 0
  else ceilDiv (r.pol.fixed + r.pol.assured + (profileBy s s.fld p r.pol.profile).ovh) (max r.pol.period 1)

/-- The guaranteed load of every valid record of a port. -/
def guarSum (s : State) (p : Port) : Nat :=
  ((s.port p).onu.ctx.map (fun e => (e.2.recs.toList.map (recordLoad s p)).sum)).sum

/-- DBA_GUAR_USED follows the records. -/
def State.guarStatus (s : State) (p : Port) : State := s.setFld (R.DBA_GUAR_USED.guar_sum p) (min (guarSum s p) (2 ^ 18 - 1))

/-! ### Messages of the control cores (R216, R243, R264) -/

/-- The control cores queue a message; they send none in G50 mode. -/
def State.coreSend (s : State) (p : Port) (onu type : Nat) (content : List Byte) (stamp : Bool) : State :=
  if s.g50 p then s
  else
    let m : Ploam := { onu := onu, type := type, content := (content ++ List.replicate 36 0#8).take 36 }
    s.modTcf p (fun t => { t with coreQ := t.coreQ ++ [{ msg := m, stamp := stamp }] })

/-- The ONU-ID a message of the control cores concerns: the one assigned, for Assign_ONU_ID. -/
def CorePloam.about (m : CorePloam) : Nat := if m.msg.type = 0x04 then ploamField m.msg 12 2 % 1024 else m.msg.onu

/-- Messages of given types about an ONU-ID leave the queue unsent: their step has been abandoned (DEDUCED). -/
def State.dropCore (s : State) (p : Port) (onu : Nat) (types : List Nat) : State :=
  s.modTcf p (fun t => { t with coreQ := t.coreQ.filter (fun m => !(m.about == onu && types.contains m.msg.type)) })

/-- Deactivate_ONU_ID with a reason. -/
def State.sendDeactivate (s : State) (p : Port) (onu reason : Nat) : State := s.coreSend p onu 0x07 (beBytes 1 reason) false

/-- Assign_ONU_ID with the provisional EqD. -/
def State.sendAssign (s : State) (p : Port) (x : OnuCtx) : State :=
  s.coreSend p 1023 0x04 (beBytes 8 x.serial ++ beBytes 2 x.onuId ++ beBytes 3 x.eqd) false

/-- Ranging_Time; apply_fc is written when the message is sent (R254). -/
def State.sendRangingTime (s : State) (p : Port) (x : OnuCtx) : State :=
  (s.dropCore p x.onuId [0x05]).coreSend p x.onuId 0x05 (beBytes 3 x.eqd ++ beBytes 6 0) true

/-- Train_Result. -/
def State.sendTrainResult (s : State) (p : Port) (x : OnuCtx) (result err used : Nat) : State :=
  s.coreSend p x.onuId 0x41 (beBytes 1 x.requestId ++ beBytes 1 result ++ beBytes 2 err ++ beBytes 2 used) false

/-! ### Creating and freeing contexts (R251, R252, R263) -/

/-- ONU_IDMAP of an ONU-ID. -/
def State.setIdMap (s : State) (p : Port) (onu : Nat) (slot : Option Nat) : State :=
  (s.setFlag (R.ONU_IDMAP.valid p onu) slot.isSome).setFld (R.ONU_IDMAP.slot p onu) (slot.getD 0)

/-- The lowest FREE slot, and the lowest free ONU-ID. -/
def freeSlot (s : State) (p : Port) : Option Nat := (List.range 256).find? (fun c => (s.ctx p c).st = .free)
def freeOnuId (s : State) (p : Port) : Option Nat := (List.range 1023).find? (fun i => (s.slotOf p i).isNone)

/-- Record 0 of a new context: its default Alloc-ID, valid, with all limits 0 (R284). -/
def defaultRec (onu : Nat) : AllocRec :=
  { AllocRec.blank with valid := true, pol := { AllocPolicy.blank with alloc := onu, period := 1, weight := 1 } }

/-- A context is created in ADMITTED with presets from the discovery anchor (R252). -/
def State.createCtx (s : State) (p : Port) (c onu serial caps : Nat) (gain : Option Nat) (origin : RangingOrigin) : State :=
  let d := discPreset s.gov p
  let w : Preset := { d with gain := gain.getD d.gain, gen := ((s.ctx p c).work.gen + 1) % 256 }
  let x : OnuCtx := { OnuCtx.free with
    st := .admitted, onuId := onu, serial := serial, caps := caps, work := w, anchor := w, origin := origin }
  let s := s.memWriteWords 0 (ctxWord p c) 32
  let s := (s.setCtx p c (x.modRec 0 (fun _ => defaultRec onu))).enterOnu p c .admitted
  let s := s.modTcf p (fun t => { t with seqs := Tab.del t.seqs onu })
  ((s.setIdMap p onu (some c)).zeroExt p c).guarStatus p

/-- A context and what belongs to it are freed; gen of its slot goes on (R136, R263, R294). -/
def State.freeCtx (s : State) (p : Port) (c : Nat) : State :=
  let x := s.ctx p c
  let s := s.dropCore p x.onuId [0x04, 0x05, 0x40, 0x41]
  let s := s.flushSends p 0x09 (fun i => i == x.onuId)
  let s := (s.dropRunning p x.onuId).unbindNodes p (fun i => i == c)
  let s := (s.setCtx p c { OnuCtx.free with work := { Preset.blank with gen := x.work.gen } }).onuStatus p
  (s.setIdMap p x.onuId none).guarStatus p

/-- Every context of a port is removed (R42, R259). -/
def State.freeAll (s : State) (p : Port) : State :=
  ((s.port p).onu.ctx.filter (fun e => e.2.st ≠ .free)).foldl (fun s e => s.freeCtx p e.1) s

/-! ### Steps of the activation -/

/-- A tick that no run reaches: what waits for it waits until it is set. -/
def never : Nat := 2 ^ 64

/-- RANGING begins, or begins again, with a measurement (R251, R253): what the context was doing is abandoned. -/
def State.startRanging (s : State) (p : Port) (c rtd eqd : Nat) (origin : RangingOrigin) : State :=
  let s := s.dropCore p (s.ctx p c).onuId [0x04, 0x05, 0x40, 0x41]
  let s := s.modCtx p c (fun x => { x with
    rtd := rtd, eqd := eqd, origin := origin, rngTried := 0, rngLast := 0, rngFrom := never, assignSent := false, unans := 0,
    ncRun := 0, missRun := 0, trainSent := false, trainIssued := false, trainGot := false, report := none, viaStart := false,
    driftSum := 0, driftN := 0, gasp := false })
  (s.enterOnu p c .ranging).sendAssign p (s.ctx p c)

/-- A Train_Request is queued with a new request_id (R256). -/
def State.issueRequest (s : State) (p : Port) (c : Nat) : State :=
  let s := s.modCtx p c (fun x => { x with
    requestId := (x.requestId + 1) % 256, trainSent := false, trainIssued := false, trainGot := false, report := none,
    trainUntil := 0 })
  let x := s.ctx p c
  s.coreSend p x.onuId 0x40 (beBytes 1 x.requestId ++ beBytes 1 (s.gov (R.ONU_TRACK.train_valid p))) false

/-- TRAINING begins. -/
def State.startTraining (s : State) (p : Port) (c : Nat) (viaStart : Bool) : State :=
  let s := s.modCtx p c (fun x => { x with ncRun := 0, unans := 0, viaStart := viaStart })
  (s.enterOnu p c .training).issueRequest p c

/-- ABSENT begins from OPERATION or TRAINING (R257). -/
def State.startAbsent (s : State) (p : Port) (c : Nat) : State :=
  let x := s.ctx p c
  let s := s.dropCore p x.onuId [0x40]
  let s := s.modCtx p c (fun x => { x with
    left := x.st, absentLeft := s.gov (R.ONU_TIMERS.absent_frames p), gasp := false, trainSent := false, trainIssued := false,
    trainGot := false, report := none })
  s.enterOnu p c .absent

/-- DORMANT begins (R258): its messages to come are flushed, its running copy dropped, and Deactivate_ONU_ID sent where a reason is
given. -/
def State.startDormant (s : State) (p : Port) (c : Nat) (reason : Option Nat) : State :=
  let onu := (s.ctx p c).onuId
  let s := s.dropCore p onu [0x04, 0x05, 0x40, 0x41]
  let s := match reason with
    | some r => s.sendDeactivate p onu r
    | none => s
  let s := s.flushSends p 0x09 (fun i => i == onu)
  let s := s.modCtx p c (fun x => { x with
    trainSent := false, trainIssued := false, trainGot := false, report := none, driftSum := 0, driftN := 0, gasp := false })
  s.enterOnu p c .dormant

/-- The activation function of a port runs: not on the standby side of a pair (R261), and its counts stop in a fence, HOLD, OFF and a
region reset (R259), and while the control cores are paused (R33, R511). -/
def activates (s : State) (p : Port) : Bool :=
  !roleRefuses s p && !s.fenced p && !s.inReset p && s.receiving p && coresRun s

/-! ### Events of the activation -/

/-- SERIAL_NUMBER_RESPONSE (R250 to R252): the message of response `resp` of a quiet window. The limits are those of its frame; a new context takes
the gain at the response's delimiter match. -/
def execSerialNumberResponse (port : Port) (entry tick resp : Nat) (msg : Ploam) (tail : PloamTail) (s : State) : Host.Outcome State Fault Refusal :=
  .next (
    match rxMessage s port entry tick resp with
    | none => s
    | some (e, b) =>
      if !isDisc e || msg.type ≠ 0x03 || !micPasses s port (tail.on msg) || roleRefuses s port || s.g50 port then s
      else
        let prof := s.profileOf port tick e.profile
        let late : Int := (arrivalOf s port e b : Int) - (64 * (e.start + ploamField msg 12 2) + prof.guard + prof.pre : Nat)
        let lo := s.govOf tick (R.ONU_RTD_MIN.rtd port)
        let hi := s.govOf tick (R.ONU_RTD_MAX.rtd port)
        if late < 0 || ((hi : Int) - lo) < late then (s.bumpP port 0xB1).pulseP port 0x83 0
        else
          let rtd := lo + late.toNat
          let eqd := 12048384 - rtd
          let serial := ploamField msg 4 8
          let caps := ploamField msg 14 1
          match (s.port port).onu.ctx.find? (fun x => x.2.st ≠ .free && x.2.serial == serial) with
          | some (c, x) =>
            let (s, ok) := s.useCtx port c
            if !ok then s
            else
              let origin : RangingOrigin := match x.st with
                | .admitted => .admitted
                | .ranging => x.origin
                | _ => .returning
              let s := s.modCtx port c (fun y => { y with caps := caps })
              ((s.bumpP port 0xB0).bumpP port 0xB5).startRanging port c rtd eqd origin
          | none =>
            if s.govOf tick (R.ONU_ACT_CTL.auto_admit port) = 0 then s
            else
              match freeSlot s port, freeOnuId s port with
              | some c, some onu =>
                ((s.createCtx port c onu serial caps (some b.gain) .created).bumpP port 0xB0).startRanging port c rtd eqd
                  .created
              | _, _ => (s.bumpP port 0xB2).pulseP port 0x84 0)

/-- The arrival offset d of a received burst (R104). -/
def offsetOf (s : State) (p : Port) (entry tick : Nat) : Int :=
  (((s.port p).rake.bursts.find? (fun b => b.entry == entry && b.tick == tick)).map RakeBurst.offset).getD 0

/-- REGISTRATION (R254): the burst it came in gives d. -/
def execRegistration (port : Port) (entry tick : Nat) (msg : Ploam) (tail : PloamTail) (s : State) : Host.Outcome State Fault Refusal :=
  .next (
    match rxHead s port entry tick with
    | none => s
    | some e =>
      if isDisc e || msg.type ≠ 0x06 || !e.ploamu || !micPasses s port (tail.on msg) || roleRefuses s port || s.g50 port then s
      else
        match s.slotOf port msg.onu with
        | none => s
        | some c =>
          if (s.allocOwner port e.alloc).map Prod.fst ≠ some c || (s.ctx port c).st ≠ .ranging
              || (s.ctx port c).serial ≠ ploamField msg 4 8 then s
          else
            let (s, ok) := s.useCtx port c
            if !ok then s
            else
              let offset := offsetOf s port entry tick
              let s := s.dropCore port (s.ctx port c).onuId [0x04]
              let s := s.modCtx port c (fun x => { x with
                eqd := codeOf 24 (x.eqd - offset), rtd := codeOf 24 (x.rtd + offset), driftSum := 0, driftN := 0, driftFrom := never })
              let s := s.sendRangingTime port (s.ctx port c)
              if s.gov (R.ONU_ACT_CTL.train_on_act port) = 1 && bitAt (s.ctx port c).caps 0 then s.startTraining port c false
              else s.enterOnu port c .operation)

/-- RANGING_FAILED (R255): the frames of rng_tries ranging allocations have passed. -/
def execRangingFailed (port : Port) (slot : Nat) (s : State) : Host.Outcome State Fault Refusal :=
  .next (
    let c := slot % 256
    let x := s.ctx port c
    if x.st ≠ .ranging || !activates s port || x.rngTried < s.gov (R.ONU_TIMERS.rng_tries port) || s.tick ≤ x.rngLast then s
    else
      let (s, ok) := s.useCtx port c
      if !ok then s
      else
        let s := (s.bumpP port 0xB3).pulseP port 0x86 0
        match x.origin with
        | .created => (s.freeCtx port c).sendDeactivate port x.onuId 2
        | .returning => s.startDormant port c (some 2)
        | .admitted => ((s.dropCore port x.onuId [0x04]).enterOnu port c .admitted).sendDeactivate port x.onuId 2)

/-- A request has gone unanswered (R256). The err_mean of Train_Result 2, which no burst gave, is open. -/
def State.unanswered (s : State) (p : Port) (c : Nat) : State :=
  let s := (s.sendTrainResult p (s.ctx p c) 2 (s.openNat % 65536) 0).nextOpen
  let s := (s.modCtx p c (fun x => { x with unans := min (x.unans + 1) 15 })).bumpP p 0xB4
  if s.gov (R.ONU_TIMERS.unans_max p) ≤ (s.ctx p c).unans then s.startAbsent p c else s.issueRequest p c

/-- TRAIN_REQUEST_END (R256): a training burst has been judged, or the validity is over. A burst that was received and not judged leaves
nothing to report, so the request is issued again (DEDUCED). -/
def execTrainRequestEnd (port : Port) (slot : Nat) (s : State) : Host.Outcome State Fault Refusal :=
  .next (
    let c := slot % 256
    let x := s.ctx port c
    if x.st ≠ .training || !x.trainSent || !activates s port || (x.report.isNone && decide (s.tick < x.trainUntil)) then s
    else
      let (s, ok) := s.useCtx port c
      if !ok then s
      else
        match x.report with
        | some r =>
          let s := s.sendTrainResult port x (if r.converged then 0 else 1) r.errMean r.used
          let run := if r.converged then 0 else min (x.ncRun + 1) 255
          let s := s.modCtx port c (fun y => { y with unans := 0, ncRun := run, trainSent := false, report := none })
          if r.converged then s.enterOnu port c .operation
          else if s.gov (R.ONU_TRACK.nc_max port) ≤ run then (s.enterOnu port c .operation).pulseP port 0x85 0
          else s.issueRequest port c
        | none =>
          if x.trainGot then (s.modCtx port c (fun y => { y with unans := 0 })).issueRequest port c
          else if x.trainIssued then s.unanswered port c
          else s.issueRequest port c)

/-- MISS_MAX_REACHED (R257). -/
def execMissMaxReached (port : Port) (slot : Nat) (s : State) : Host.Outcome State Fault Refusal :=
  .next (
    let c := slot % 256
    let x := s.ctx port c
    if x.st ≠ .operation || !activates s port || x.missRun < s.gov (R.ONU_TIMERS.miss_max port) then s
    else
      let (s, ok) := s.useCtx port c
      if ok then s.startAbsent port c else s)

/-- ABSENT_TIMEOUT (R257, R258). -/
def execAbsentTimeout (port : Port) (slot : Nat) (s : State) : Host.Outcome State Fault Refusal :=
  .next (
    let c := slot % 256
    let x := s.ctx port c
    if x.st ≠ .absent || !activates s port || x.absentLeft ≠ 0 then s
    else
      let (s, ok) := s.useCtx port c
      if ok then s.startDormant port c (some 1) else s)

/-- DRIFT_CORRECTION (R261): the mean of the bursts accumulated, 2^drift_avg of them at least, rounded to a whole
symbol. -/
def execDriftCorrection (port : Port) (slot : Nat) (s : State) : Host.Outcome State Fault Refusal :=
  .next (
    let c := slot % 256
    let x := s.ctx port c
    if !(x.st = .operation || x.st = .training) || x.driftN < 2 ^ s.gov (R.ONU_TRACK.drift_avg port) || s.g50 port || roleRefuses s port || s.fenced port then s
    else
      let (s, ok) := s.useCtx port c
      if !ok then s
      else
        let m := roundDiv 1 x.driftSum x.driftN
        let s := s.modCtx port c (fun y => { y with driftSum := 0, driftN := 0 })
        if m.natAbs < s.gov (R.ONU_TRACK.drift_thresh port) then s
        else if (x.eqd : Int) - m < 0 then s.pulseP port 0x83 0
        else
          let s := s.modCtx port c (fun y => { y with eqd := codeOf 24 (y.eqd - m), driftFrom := never })
          (s.sendRangingTime port (s.ctx port c)).bumpP port 0xB6)

/-! ### At the tick (R253, R257, R259) -/

/-- A dying gasp takes a context to ABSENT at the tick after it (R257). -/
def State.gaspTick (s : State) (p : Port) (c : Nat) : State :=
  let x := s.ctx p c
  if !x.gasp then s
  else if x.st = .operation || x.st = .training then s.startAbsent p c
  else s.modCtx p c (fun y => { y with gasp := false })

/-- A context that is in TRAINING with no request sent or queued gets one (R256, R257). -/
def State.requestTick (s : State) (p : Port) (c : Nat) : State :=
  let x := s.ctx p c
  if x.st = .training && !x.trainSent && !(s.port p).tcf.coreQ.any (fun m => m.about == x.onuId && m.msg.type == 0x40) then
    s.issueRequest p c
  else s

/-- The activation function has something to do for a context at a tick: it counts for it, or takes a step. The context is read first (R260). -/
def State.serveCtx (s : State) (p : Port) (c : Nat) : State :=
  let x := s.ctx p c
  if !x.gasp && x.st ≠ .absent && x.st ≠ .training then s
  else
    let (s, ok) := s.useCtx p c
    if ok then (s.gaspTick p c).requestTick p c else s

/-- The contexts of a port at a tick: while its counts run an ABSENT context loses a frame, and while they stop a request's validity
moves on. -/
def State.onuTick (s : State) (p : Port) : State :=
  if roleRefuses s p then s
  else
    let run := activates s p
    let live := (s.port p).onu.ctx.filter (fun e => e.2.st ≠ .free)
    live.foldl (fun s e =>
      let c := e.1
      let s := s.modCtx p c (fun x =>
        if run then { x with absentLeft := if x.st = .absent then x.absentLeft - 1 else x.absentLeft }
        else { x with trainUntil := if x.trainSent then x.trainUntil + 1 else x.trainUntil })
      if run then s.serveCtx p c else s) s

/-- A warm region reset keeps the contexts and restarts the ranging or training step with a new message (R259), but on a standby side, where the
function does not run (R261). -/
def State.onuWarm (s : State) (p : Port) : State :=
  if roleRefuses s p then s
  else (s.port p).onu.ctx.foldl (fun s e =>
    let x := s.ctx p e.1
    match x.st with
    | .ranging => s.startRanging p e.1 x.rtd x.eqd x.origin
    | .training => (s.dropCore p x.onuId [0x40]).issueRequest p e.1
    | _ => s) s

/-- Entry to OFF makes every context DORMANT (R47); its queues are flushed with 0x04 (R236), so no Deactivate_ONU_ID goes. -/
def State.onuOff (s : State) (p : Port) : State :=
  ((s.port p).onu.ctx.filter (fun e => e.2.st ≠ .free && e.2.st ≠ .dormant)).foldl (fun s e => s.startDormant p e.1 none) s

/-! ### Commands (R263, R354) -/

/-- A command of the control cores is refused with 0x2A until the firmware runs (Table 20-2), and waits while an activation window is open
(R511). -/
def State.fwCmd (s : State) (iss : Issue) (k : State → State) : State :=
  if !s.flag R.RST_STATUS.fw_running then s.refuse iss 0x2A
  else if s.fw.actAt.isSome then s.holdBack iss
  else k s

/-- The checks and the effect of both forms of ONU_ADMIT, by op0 bit 31. -/
def State.admitOnu (s : State) (iss : Issue) (op0 op1 op2 op3 : Nat) : State :=
  let g50 := bitAt op0 31
  let p := iss.port
  let onu := bitsOf op0 9 0
  let serial := op1 % 2 ^ 32 * 2 ^ 32 + op2 % 2 ^ 32
  s.activeCmd iss [(op0, 0x800003FF), (op3, if g50 then 0xFFFFFF else 0)] (fun s => s.fwCmd iss (fun s =>
    if g50 then
      match s.slotOf p onu with
      | none => s.refuse iss 0x02
      | some c =>
        let s := (s.useCtx p c).1
        if (s.ctx p c).serial ≠ serial then s.refuse iss 0x0C
        else if (s.ctx p c).st ≠ .admitted || !s.g50 p then s.refuse iss 0x0D
        else ((s.modCtx p c (fun x => { x with eqd := bitsOf op3 23 0 })).enterOnu p c .operation).succeed iss 0 0
    else
      match freeSlot s p with
      | none => s.refuse iss 0x0A
      | some c =>
        if onu = 1023 || (s.slotOf p onu).isSome then s.refuse iss 0x0B
        else if (s.port p).onu.ctx.any (fun e => e.2.st ≠ .free && e.2.serial == serial) then s.refuse iss 0x0C
        else (s.createCtx p c onu serial 0 none .admitted).succeed iss 0 0))

/-- ONU_ADMIT (R263). -/
def execOnuAdmit (iss : Issue) (op0 op1 op2 op3 : Nat) (s : State) : Host.Outcome State Fault Refusal :=
  .next (s.admitOnu iss op0 op1 op2 op3)

/-- ONU_ADMIT, the G50 form (R354). -/
def execOnuAdmitG50 (iss : Issue) (op0 op1 op2 op3 : Nat) (s : State) : Host.Outcome State Fault Refusal :=
  .next (s.admitOnu iss op0 op1 op2 op3)

/-- ONU_REMOVE (R263). A command that finds poison in its context fences the port and goes on (DESIGN CHOICE, log entry 108). -/
def execOnuRemove (iss : Issue) (op0 : Nat) (s : State) : Host.Outcome State Fault Refusal :=
  .next (s.activeCmd iss [(op0, 0x3FF)] (fun s => s.fwCmd iss (fun s =>
    let p := iss.port
    match s.slotOf p (bitsOf op0 9 0) with
    | none => s.refuse iss 0x02
    | some c =>
      let s := (s.useCtx p c).1
      ((s.freeCtx p c).sendDeactivate p (s.ctx p c).onuId 0).succeed iss 0 0)))

/-- TRAIN_START (R256, R263). -/
def execTrainStart (iss : Issue) (op0 : Nat) (s : State) : Host.Outcome State Fault Refusal :=
  .next (s.activeCmd iss [(op0, 0x3FF)] (fun s => s.fwCmd iss (fun s =>
    let p := iss.port
    match s.slotOf p (bitsOf op0 9 0) with
    | none => s.refuse iss 0x02
    | some c =>
      let s := (s.useCtx p c).1
      if (s.ctx p c).st ≠ .operation || s.g50 p then s.refuse iss 0x0D
      else (s.startTraining p c true).succeed iss 0 0)))

end Sys2Proof.Machine
end

