-- ==== Sys2Proof/Machine/Dba.lean ====
section
/-!
DEFINITION. The DBA engine (chapter 10): payload sizes, demand, activation allocations, guaranteed and surplus grants, placement, the
commit of a map, and the Alloc-ID commands.
-/
namespace Sys2Proof.Machine

/-! ### Sizes (R269, R270) -/

/-- The payload slots that `n` information bytes need. -/
def pay (n : Nat) : Nat :=
  let f := n / 1824
  let m := n % 1824
  if m = 0 then 144 * f + 1
  else if m ≤ 1809 then 144 * f + max 24 (ceilDiv (m + 336) 15) + 1
  else 144 * f + 145

/-- The least payload of an entry. -/
def minPay (ploamu : Bool) : Nat := if ploamu then 28 else 25

/-- The information bytes that a payload of `P` slots carries (R158, R159). -/
def payBytes (P : Nat) : Nat := ((codewordSlots P).map codewordBytes).sum

/-! ### Free spans -/

/-- Slots `a` up to but not including `b` leave the free spans. -/
def cutSpans (spans : List (Nat × Nat)) (a b : Nat) : List (Nat × Nat) :=
  spans.flatMap (fun e =>
    if b ≤ e.1 || e.2 ≤ a then [e]
    else (if e.1 < a then [(e.1, a)] else []) ++ (if b < e.2 then [(b, e.2)] else []))

/-- The slots that the spans hold. -/
def freeSlots (spans : List (Nat × Nat)) : Nat := (spans.map (fun e => e.2 - e.1)).sum

/-- An entry put into a list that rises by start_slot. -/
def insertEntry (e : MapEntry) : List MapEntry → List MapEntry
  | [] => [e]
  | x :: t => if e.start < x.start then e :: x :: t else x :: insertEntry e t

/-- The entries in order of start_slot. -/
def sortEntries (l : List MapEntry) : List MapEntry := l.foldl (fun acc e => insertEntry e acc) []

/-! ### The frame a computation governs -/

/-- The port power mode in effect in the frame that begins at a tick, as it is known now (R52). -/
def modeAt (s : State) (p : Port) (tick : Nat) : Nat :=
  match (s.port p).mode.due with
  | some t => if t ≤ tick then (s.port p).mode.cap else s.mode p
  | none => s.mode p

/-- What kind of map a frame gets: none in OFF, in a cold reset and on a port that follows or waits; windows only under a fence or in a
warm reset; empty in HOLD; else the whole computation (R46, R281, R408, R415, R420, R495). -/
inductive MapKind where
  | none
  | empty
  | calOnly
  | normal
  deriving DecidableEq, Repr

def mapKind (s : State) (p : Port) (tick : Nat) : MapKind :=
  let m := modeAt s p tick
  if (s.port p).prot.role = .sync || (s.port p).prot.role = .standby || m = 0 then .none
  else
    match (s.port p).resetReq.active with
    | some true => .none
    | some false => if 2 ≤ m then .calOnly else .empty
    | none =>
      if m = 1 then .empty
      else if s.fenced p then .calOnly
      else .normal

/-- The calibration window due in the governed frame (R71). -/
def calDue (s : State) (p : Port) (fc : Nat) : Option (Nat × Nat) :=
  if fc % max 1 (s.cap (R.CNV_CAL_CTL.cal_period p)) = 0 then
    some (s.cap (R.CNV_CAL_OFFSET.cal_offset p), s.cap (R.CNV_CAL_CTL.cal_len p))
  else none

/-- The discovery entry due in the governed frame; a deferred one keeps its place (R246, R247, R423). -/
def discDue (s : State) (p : Port) (fc : Nat) : Option MapEntry :=
  let due := (s.port p).onu.deferred.isSome || fc % max 1 (s.cap (R.ONU_ACT_CTL.disc_period p)) == 0
  let early := match (s.port p).prot.realignAt with
    | some a => decide (fc < a)
    | none => false
  if s.cap (R.ONU_ACT_CTL.act_en p) = 0 || !due || early then none
  else some { MapEntry.blank with
    alloc := 1023, start := (s.port p).onu.deferred.getD (s.cap (R.DBA_DISC_POS.disc_start p)), slots := s.cap (R.ONU_DISC.disc_len p),
    profile := s.cap (R.SLU_DISC_CTL.disc_profile p), ploamu := true }

/-- Two slot ranges, each as (start, slots), overlap. -/
def rangesMeet (a b : Nat × Nat) : Bool := decide (a.1 < b.1 + b.2) && decide (b.1 < a.1 + a.2)

/-- The slots a realignment keeps unallocated in a frame (R423). -/
def realignCut (s : State) (p : Port) (fc : Nat) (cal : Option (Nat × Nat)) (spans : List (Nat × Nat)) : List (Nat × Nat) :=
  match (s.port p).prot.realignAt with
  | none => spans
  | some a =>
    let sh := (s.port p).prot.shift
    let n := ceilDiv sh.natAbs 64 + 4
    if sh = 0 then spans
    else if fc < a then
      match cal with
      | some c => if 0 < sh then cutSpans spans (c.1 + c.2) (c.1 + c.2 + n) else cutSpans spans (c.1 - n) c.1
      | none => spans
    else if fc = a && decide (0 < sh) then cutSpans spans 0 n
    else spans

/-! ### Activation allocations (R253, R256, R257, R275) -/

/-- One activation allocation wanted: its context slot, kind (0 ranging, 1 probe, 2 training), and the entry but for its place. -/
structure Activation where
  slot : Nat
  kind : Nat
  entry : MapEntry
  deriving DecidableEq, Repr

/-- An ABSENT context has its probe every 8 frames. -/
def probeDue (x : OnuCtx) (fc : Nat) : Bool := decide (x.st = .absent) && fc % 8 == x.onuId % 8

/-- The activation allocations that the contexts of a port want in the frame governed at tick `gov`: ranging first, then probes, then
training. A ranging allocation whose resp_slots is under the least payload has the least payload (R270; DEDUCED, log entry 109). -/
def activations (s : State) (p : Port) (gov fc : Nat) : List Activation :=
  let ovh := fun (k : Nat) => (profileBy s s.cap p k).ovh
  let mk := fun (c kind : Nat) (x : OnuCtx) (prof slots : Nat) =>
    ({ slot := c, kind := kind,
       entry := { MapEntry.blank with
         alloc := x.onuId, slots := slots + ovh prof, profile := prof, ploamu := kind ≠ 2, train := kind = 2,
         ranging := kind = 0, probe := kind = 1 } } : Activation)
  let l := (s.port p).onu.ctx
  let rng := l.filterMap (fun e =>
    if e.2.st = .ranging && !s.g50 p && decide (e.2.rngTried < s.cap (R.ONU_TIMERS.rng_tries p)) && decide (e.2.rngFrom ≤ gov) then
      some (mk e.1 0 e.2 (s.cap (R.SLU_DISC_CTL.disc_profile p)) (max (minPay true) (s.cap (R.SLU_DISC_CTL.resp_slots p))))
    else none)
  let probe := l.filterMap (fun e =>
    if probeDue e.2 fc then some (mk e.1 1 e.2 e.2.recs[0].pol.profile 28) else none)
  let train := l.filterMap (fun e =>
    if e.2.st = .training && e.2.trainSent && !e.2.trainGot && e.2.report.isNone && decide (e.2.trainFrom ≤ gov) && decide (gov ≤ e.2.trainUntil) then
      some (mk e.1 2 e.2 (s.cap (R.DBA_TRAIN.train_profile p)) (s.cap (R.DBA_TRAIN.train_slots p)))
    else none)
  rng ++ probe ++ train

/-- Where an activation allocation of `need` slots goes is open, within the free spans: the span, and the place in it. -/
def State.placeOpen (s : State) (spans : List (Nat × Nat)) (need : Nat) : State × Option Nat :=
  let fits := spans.filter (fun e => decide (e.1 + need ≤ e.2))
  match fits with
  | [] => (s, none)
  | x :: _ =>
    let span := (fits[s.openNat % fits.length]?).getD x
    let s := s.nextOpen
    (s.nextOpen, some (span.1 + s.openNat % (span.2 - span.1 - need + 1)))

/-- What the placement has come to: entries in placement order, free spans, and what was lost. -/
structure Placing where
  entries : List MapEntry
  spans : List (Nat × Nat)
  clipped : Nat
  dropped : Nat
  owed : List Nat
  ranged : List Nat
  trained : List Nat
  deriving DecidableEq, Repr

/-- An activation allocation is placed, never clipped; one that has no room is not issued, and beyond 1,024 entries it is dropped. -/
def State.placeActivation (acc : State × Placing) (a : Activation) : State × Placing :=
  let (s, x) := acc
  let side := if a.kind = 0 then 4 else 0
  if 1024 ≤ x.entries.length then (s, { x with dropped := x.dropped + 1 })
  else
    match s.placeOpen x.spans (a.entry.slots + 2 * side) with
    | (s, none) => (s, x)
    | (s, some at') =>
      (s, { x with
        entries := x.entries ++ [{ a.entry with start := at' + side }],
        spans := cutSpans x.spans at' (at' + a.entry.slots + 2 * side),
        ranged := if a.kind = 0 then x.ranged ++ [a.slot] else x.ranged,
        trained := if a.kind = 2 then x.trained ++ [a.slot] else x.trained })

/-! ### Grants (R271 to R274, R276) -/

/-- A context takes part in the map with its records (R268). -/
def OnuCtx.takesPart (x : OnuCtx) : Bool := x.st = .operation || (x.st = .training && x.viaStart)

/-- The demand of a record in payload slots (R271). -/
def demand (s : State) (p : Port) (r : AllocRec) (gov : Nat) : Nat :=
  if !r.pol.rpt then r.pol.peak
  else
    let quiet := s.cap (R.DBA_CTRL.trend_en p) = 0 || r.trend = 0x8000 || r.repAge = 255 || !r.reported
    let t : Int := if quiet then 0
      else Int.tdiv (signedOf 16 r.trend * 64 * ((gov - r.repTick : Nat) : Int) * (s.cap (R.DBA_CTRL.trend_gain p) : Int)) 8
    let est := ((r.occupancy * 64 : Nat) : Int) + t - (r.grantedSince : Int)
    if est ≤ 0 then 0 else pay (est.toNat + 8 + 8)

/-- One Alloc-ID in the computation: its record, due mark, least payload, demand up to peak, overhead, granted payload slots, and what the
grant is. -/
structure Grant where
  slot : Nat
  idx : Nat
  pol : AllocPolicy
  wasOwed : Bool
  due : Bool
  ploamu : Bool
  want : Nat
  ovh : Nat
  g : Nat
  guar : Bool
  poll : Bool
  plo : Bool
  deriving DecidableEq, Repr

/-- The entry of a default Alloc-ID carries ploamu (R274). -/
def ploamDue (s : State) (p : Port) (x : OnuCtx) : Bool :=
  x.ploPend || x.txPresetOut || decide (s.cap (R.DBA_CTRL.plo_period p) ≤ x.sincePloam + 1)

/-- The guaranteed, poll and PLOAM grants of a record (R273, R274, R276). -/
def grantOf (s : State) (p : Port) (gov fc c i : Nat) (x : OnuCtx) (r : AllocRec) : Grant :=
  let due := r.owed || fc % max 1 r.pol.period == r.pol.phase % max 1 r.pol.period
  let ploamu := decide (i = 0) && ploamDue s p x
  let d := demand s p r gov
  let base := r.pol.fixed + min r.pol.assured (d - r.pol.fixed)
  let g := if due && base ≠ 0 then max base (minPay ploamu) else 0
  let poll := g = 0 && r.pol.rpt && decide (s.cap (R.DBA_CTRL.poll_period p) ≤ r.sinceEntry)
  let plo := g = 0 && !poll && ploamu
  { slot := c, idx := i, pol := r.pol, wasOwed := r.owed, due := due, ploamu := ploamu, want := min d r.pol.peak,
    ovh := (profileBy s s.cap p r.pol.profile).ovh, g := if poll then minPay ploamu else if plo then 28 else g,
    guar := g ≠ 0, poll := poll, plo := plo }

/-- A grant put into a list that rises by Alloc-ID. -/
def insertGrant (g : Grant) : List Grant → List Grant
  | [] => [g]
  | x :: t => if g.pol.alloc < x.pol.alloc then g :: x :: t else x :: insertGrant g t

/-- The grants of every record that takes part, in ascending alloc_id. -/
def grants (s : State) (p : Port) (gov fc : Nat) : List Grant :=
  let l := (s.port p).onu.ctx.flatMap (fun e =>
    if e.2.takesPart then
      (List.finRange 16).filterMap (fun i =>
        let r := e.2.recs[i]
        if r.valid then some (grantOf s p gov fc e.1 i.val e.2 r) else none)
    else [])
  l.foldl (fun acc g => insertGrant g acc) []

/-- The least of some slots. -/
def leastSlot (l : List Nat) : Option Nat := l.foldl (fun m c => some (min (m.getD c) c)) none

/-- An ACTIVE port of a pair, and a BLIND one, whose maps are as in ACTIVE, grants at least one allocation in every frame to an ONU in OPERATION: a
PLOAM grant that rotates over them (R420, R421). With the grants, the slot whose turn it was. -/
def lightGrant (s : State) (p : Port) (l : List Grant) : List Grant × Option Nat :=
  let op := fun (c : Nat) => decide ((s.ctx p c).st = .operation)
  let role := (s.port p).prot.role
  if (role ≠ .active && role ≠ .blind) || s.cap (R.PRT_PROT_CTL.prot_en p) = 0 || l.any (fun g => op g.slot && g.g ≠ 0) then (l, none)
  else
    let cand := (l.filter (fun g => op g.slot && g.idx == 0)).map Grant.slot
    let turn := (s.port p).prot.ploamTurn
    let next := (leastSlot (cand.filter (fun c => turn < c))).or (leastSlot cand)
    (l.map (fun g => if next == some g.slot && g.idx == 0 then { g with g := minPay true, ploamu := true, plo := true } else g), next)

/-- One round of the surplus: each due Alloc-ID that wants more takes its share of `r0` by weight. Answers the grants, what is left, and
whether any took slots. -/
def surplusRound (r0 : Int) (l : List Grant) : List Grant × Int × Bool :=
  let wants := fun (g : Grant) => g.due && decide (g.g < g.want)
  let wsum := ((l.filter wants).map (fun g => g.pol.weight)).sum
  l.foldl (fun (acc : List Grant × Int × Bool) g =>
    let (out, r, took) := acc
    if !wants g then (out ++ [g], r, took)
    else
      let least : Int := minPay g.ploamu
      let s0 := (r0 * g.pol.weight) / (wsum : Int)
      let s1 := if g.g = 0 then s0 - g.ovh else s0
      let s1 := if g.g = 0 && decide (s1 < least) then 0 else s1
      let take := min s1 ((g.want - g.g : Nat) : Int)
      if take ≤ 0 || decide ((g.g : Int) + take < least) then (out ++ [g], r, took)
      else
        (out ++ [{ g with g := g.g + take.toNat }], r - take - (if g.g = 0 then (g.ovh : Int) else 0), true)) ([], r0, false)

/-- Up to `n` rounds of the surplus. -/
def surplus : Nat → Int → List Grant → List Grant
  | 0, _, l => l
  | n + 1, r, l =>
    let (l', r', took) := surplusRound r l
    if !took || decide (r' < 25) then l' else surplus n r' l'

/-! ### First-fit (R277 to R279) -/

/-- A grant is lost: counted, and owed when it was a guaranteed one. -/
def Placing.drop (x : Placing) (g : Grant) : Placing :=
  { x with dropped := x.dropped + 1, owed := if g.guar then x.owed ++ [g.pol.alloc] else x.owed }

/-- The entry of a grant at a place. -/
def Grant.entry (g : Grant) (start slots : Nat) : MapEntry :=
  { MapEntry.blank with
    alloc := g.pol.alloc, start := start, slots := slots, profile := g.pol.profile, ploamu := g.ploamu, dbru := g.pol.rpt }

/-- A grant is placed first-fit, clipped into the last free span, or dropped. -/
def Placing.place (gap : Nat) (x : Placing) (g : Grant) : Placing :=
  if g.g = 0 then x
  else if 1024 ≤ x.entries.length then x.drop g
  else
    let need := gap + g.g + g.ovh
    match x.spans.find? (fun e => decide (e.1 + need ≤ e.2)) with
    | some e => { x with entries := x.entries ++ [g.entry (e.1 + gap) (g.g + g.ovh)], spans := cutSpans x.spans e.1 (e.1 + need) }
    | none =>
      match x.spans.getLast? with
      | none => x.drop g
      | some e =>
        let x := { x with clipped := x.clipped + 1 }
        let room := e.2 - e.1 - gap
        if room < g.ovh + minPay g.ploamu then x.drop g
        else { x with entries := x.entries ++ [g.entry (e.1 + gap) room], spans := cutSpans x.spans e.1 e.2 }

/-! ### A computation (DBA_PASS_START, R276) -/

/-- The windows of a frame: what is reserved, whether the calibration window was skipped, and the place of a discovery entry that is deferred
(R74, R247). -/
def windowsOf (s : State) (p : Port) (kind : MapKind) (fc : Nat) : Option (Nat × Nat) × Option MapEntry × Bool × Option Nat :=
  let cal := if kind = .calOnly || kind = .normal then calDue s p fc else none
  let disc := if kind = .normal then discDue s p fc else none
  match cal, disc with
  | some c, some d =>
    if rangesMeet c (d.start, d.slots) then
      if s.fld (R.CNV_STATUS.skip_run p) < 4 then (none, some d, true, none) else (some c, none, false, some d.start)
    else (some c, some d, false, none)
  | c, d => (c, d, false, none)

/-- The reserved windows as a map. -/
def windowMap (cal : Option (Nat × Nat)) (disc : Option MapEntry) : BwMap :=
  { entries := disc.toList, cal := cal, quiet := disc.map (fun d => (d.start, d.slots)) }

/-- The bytes of a record that the computation uses: all of Table 10-1 but its reserved bytes and last_grant. -/
def recordBytes : Nat := 0x0FCFF7FF

/-- The records the engine reads for a frame, each with the bytes it uses: those that take part, and the profile in record 0 of a context whose probe is
due. -/
def recordsRead (s : State) (p : Port) (fc : Nat) : List (Nat × Nat) :=
  (s.port p).onu.ctx.flatMap (fun e =>
    if e.2.takesPart then
      (List.finRange 16).filterMap (fun i => if e.2.recs[i].valid then some (recordWord p e.1 i.val, recordBytes) else none)
    else if probeDue e.2 fc then [(recordWord p e.1 0, 2 ^ 3)]
    else [])

/-- The engine reads the records, and its own state, whose place in the port's banks of line-die SRAM is open (Table 12-1); poison in what it uses fences
the port with cause 0x05 (R281). -/
def State.readRecords (s : State) (p : Port) (fc : Nat) : State :=
  let ws := recordsRead s p fc
  let s := (ws.foldl (fun s w => s.useWords 0 w.1 1 w.2 5) s).useDie p 4 p.val 6
  if ws.any (fun w => memPoison s 0 w.1 &&& w.2 ≠ 0) || dieBad s p 4 p.val then s.fencePort p [0x05] else s

/-- The map of the frame two ticks on is computed (R276). Nothing but the records' poison and the open places changes until the commit. -/
def State.computeMap (s : State) (p : Port) : State :=
  let gov := s.tick + 2
  let fc := (s.fc + 2) % 2 ^ 51
  let s := if mapKind s p gov = .normal then s.readRecords p fc else s
  let kind := mapKind s p gov
  if kind = .none then s.modDba p (fun d => { d with draft := none })
  else
    let (cal, disc, skipped, defer) := windowsOf s p kind fc
    let spans := match cal with
      | some c => cutSpans [(0, 194400)] c.1 (c.1 + c.2)
      | none => [(0, 194400)]
    let spans := match disc with
      | some d => cutSpans spans d.start (d.start + d.slots)
      | none => spans
    let spans := realignCut s p fc cal spans
    let windows := windowMap cal disc
    let start : Placing :=
      { entries := disc.toList, spans := spans, clipped := 0, dropped := 0, owed := [], ranged := [], trained := [] }
    let grant := kind = .normal && decide ((s.port p).mode.grantFrom ≤ gov)
    let (s, x) := if grant then (activations s p gov fc).foldl State.placeActivation (s, start) else (s, start)
    let (l, light) := if grant then lightGrant s p (grants s p gov fc) else ([], none)
    let r : Int := (freeSlots x.spans : Int) - (((l.filter (fun g => g.g ≠ 0)).map (fun g => g.g + g.ovh)).sum : Nat)
    let l := surplus 4 r l
    let gap := s.cap (R.DBA_CTRL.gap_slots p)
    let x := (l.filter (fun g => g.wasOwed) ++ l.filter (fun g => !g.wasOwed)).foldl (fun x g => Placing.place gap x g) x
    s.modDba p (fun d => { d with draft := some {
      gov := gov, map := { windows with entries := sortEntries x.entries }, windows := windows, normal := grant,
      clipped := x.clipped, dropped := x.dropped, owed := x.owed, polls := (l.filter Grant.poll).length,
      ploams := (l.filter Grant.plo).length, ranged := x.ranged, trained := x.trained, skipped := skipped,
      defer := if kind = .normal then defer else (s.port p).onu.deferred,
      calDue := if kind = .calOnly || kind = .normal then calDue s p fc else none, light := light } })

/-! ### The commit (R246, R272, R276, R280, R282, R410) -/

/-- A map is installed for the frame of a tick, and its frame's slot account opened. -/
def State.installMap (s : State) (p : Port) (tick : Nat) (m : BwMap) : State :=
  let traffic := m.entries.filter (fun e => !isDisc e)
  let disc := ((m.entries.filter isDisc).map MapEntry.slots).sum
  let s := s.modDba p (fun d => { d with maps := Tab.put d.maps tick m })
  let s := s.modAcct p tick (fun a => { a with
    cal := (m.cal.map Prod.snd).getD 0, disc := disc, entries := (traffic.map MapEntry.slots).sum })
  traffic.foldl (fun s e =>
    let owner := (s.allocOwner p e.alloc).map Prod.fst
    s.modAcct p tick (fun a => a.onuAdd owner 0 0 e.slots)) s

/-- Disc_Profile of the discovery entry (R246, Table 9-1): it goes in the next downstream frame, ahead of the messages that wait, in place
of one that could not go. -/
def State.sendDiscProfile (s : State) (p : Port) : State :=
  if s.g50 p || (s.port p).prot.role = .blind then s
  else
    let prof := (List.range 8).flatMap (fun k =>
      let en := s.cap (R.SLU_BPROF.enabled p k) == 1
      beBytes 1 (if en then s.cap (R.SLU_BPROF.guard_slots p k) else 0) ++ beBytes 1 (s.cap (R.SLU_BPROF.pre_slots p k)))
    let c := beBytes 3 (12048384 - s.cap (R.ONU_RTD_MIN.rtd p)) ++ beBytes 1 (s.cap (R.ONU_DISC.disc_rand p)) ++ prof
    let m : Ploam := { onu := 1023, type := 0x01, content := (c ++ List.replicate 36 0#8).take 36 }
    s.modTcf p (fun t => { t with coreQ := { msg := m, stamp := false } :: t.coreQ.filter (fun x => x.msg.type ≠ 0x01) })

/-- The windows of a committed map take effect on the runs that choose them (R74, R247). -/
def State.commitWindows (s : State) (p : Port) (d : Draft) (m : BwMap) : State :=
  let s := s.modOnu p (fun o => { o with deferred := d.defer })
  let s := if d.skipped then s.skipCal p else if m.cal.isSome then s.setFld (R.CNV_STATUS.skip_run p) 0 else s
  if m.quiet.isSome then (s.bumpP p 0xB7).sendDiscProfile p else s

/-- The records of a port after a computed map: entries and capacity granted, owed marks, and the frames since (R272, R273, R274, R279). -/
def State.commitRecords (s : State) (p : Port) (d : Draft) : State :=
  let fc := (s.fc + (d.gov - s.tick)) % 2 ^ 32
  let live := (s.port p).onu.ctx.filter (fun e => e.2.st ≠ .free)
  live.foldl (fun s e =>
    let c := e.1
    let upd := fun (r : AllocRec) =>
      if !r.valid then r
      else
        let own := d.map.entries.filter (fun m => m.alloc = r.pol.alloc)
        let bytes := (own.map (fun m =>
          if m.train then 0
          else payBytes (m.slots - (profileBy s s.cap p m.profile).ovh) - (8 + 48 * bit01 m.ploamu + 8 * bit01 m.dbru))).sum
        { r with
          grantedSince := (r.grantedSince + bytes) % 2 ^ 32, lastGrant := if own = [] then r.lastGrant else fc,
          sinceEntry := if own = [] then r.sinceEntry + 1 else 0,
          owed := if d.owed.contains r.pol.alloc then true else r.owed && !e.2.takesPart,
          repAge := min (r.repAge + 1) 255 }
    let ploam := d.map.entries.any (fun m => m.ploamu && m.alloc == e.2.onuId)
    let tries := fun (x : OnuCtx) => d.ranged.contains c && decide (x.st = .ranging) && decide (x.rngFrom ≤ d.gov)
    let s := s.modCtx p c (fun x => { x with
      recs := x.recs.map upd, sincePloam := if ploam then 0 else x.sincePloam + 1,
      rngTried := if tries x then min (x.rngTried + 1) 15 else x.rngTried, rngLast := if tries x then d.gov else x.rngLast,
      trainIssued := x.trainIssued || (d.trained.contains c && trainsNow x d.gov) })
    (List.finRange 16).foldl (fun s i =>
      if e.2.recs[i].valid && d.map.entries.any (fun m => m.alloc == e.2.recs[i].pol.alloc) then
        s.memWrite 0 (recordWord p c i.val) 0xFF000000
      else s) s) s

/-- The frames since an entry grow for every record of a port, when a map without grants is committed. In a frame whose grants a deadline miss has
lost, the records age too and no grant stays owed (R280); in a fence and in HOLD they stay (R281). -/
def State.passFrame (s : State) (p : Port) (lost : Bool) : State :=
  ((s.port p).onu.ctx.filter (fun e => e.2.st ≠ .free)).foldl (fun s e =>
    s.modCtx p e.1 (fun x => { x with
      recs := x.recs.map (fun r =>
        if !r.valid then r
        else if lost then { r with
          sinceEntry := r.sinceEntry + 1, repAge := min (r.repAge + 1) 255, owed := r.owed && !x.takesPart }
        else { r with sinceEntry := r.sinceEntry + 1 }),
      sincePloam := x.sincePloam + 1 })) s

/-- A map is committed: counters, DBA_STATUS, and the map message of an ACTIVE port (R276, R410). -/
def State.commitMap (s : State) (p : Port) (d : Draft) (m : BwMap) (passUs : Nat) : State :=
  let traffic := m.entries.filter (fun e => !isDisc e)
  let s := ((s.bumpP p 0xC0).bumpBy (portCtr p 0xC1) m.entries.length).bumpBy (portCtr p 0xC2) (traffic.map MapEntry.slots).sum
  let s := (s.setFld (R.DBA_STATUS.entries p) m.entries.length).setFld (R.DBA_STATUS.pass_us p) (min passUs 127)
  let s := (s.modDba p (fun x => { x with draft := none })).installMap p d.gov m
  if (s.port p).prot.role = .active && s.flag R.AQL_PAIR_STATUS.paired then
    s.aqSend 0 (.map p ((s.fc + (d.gov - s.tick)) % 2 ^ 51) m)
  else s

/-- The same occurrence and its counter, `n` times. -/
def State.countEach (s : State) (p : Port) (n ctr src : Nat) : State :=
  (List.range n).foldl (fun s _ => (s.bumpP p ctr).pulseP p src 0) s

/-- What is left of a computation whose port has been fenced since its tick: no entry, and the calibration window due, which no discovery entry
displaces (R281). -/
def Draft.fenced (d : Draft) (deferred : Option Nat) : Draft :=
  let m : BwMap := { BwMap.empty with cal := d.calDue }
  { d with
    map := m, windows := m, normal := false, clipped := 0, dropped := 0, owed := [], polls := 0, ploams := 0, ranged := [], trained := [],
    skipped := false, defer := deferred, light := none }

/-- The computation in progress as its commit finds it. -/
def State.draftNow (s : State) (p : Port) : Option Draft :=
  (s.port p).dba.draft.map (fun d => if s.fenced p then d.fenced (s.port p).onu.deferred else d)

/-- MAP_COMMIT (R276): the pass has ended after `passUs`. -/
def execMapCommit (port : Port) (passUs : Nat) (s : State) : Host.Outcome State Fault Refusal :=
  .next (
    match s.draftNow port with
    | none => s
    | some d =>
      let s := s.commitWindows port d d.map
      let s := if d.normal then s.commitRecords port d else s.passFrame port false
      let s := ((s.countEach port d.clipped 0xC3 0x91).countEach port d.dropped 0xC4 0x92).bumpBy (portCtr port 0xC6) d.polls
      let s := d.owed.foldl (fun s _ => s.pulseP port 0x93 0) (s.bumpBy (portCtr port 0xC7) d.ploams)
      let s := s.modProt port (fun q => { q with ploamTurn := d.light.getD q.ploamTurn })
      s.commitMap port d d.map passUs)

/-- DBA_DEADLINE_MISS (R280): a map of the windows alone. The duration of the pass that has not ended is open. -/
def execDbaDeadlineMiss (port : Port) (s : State) : Host.Outcome State Fault Refusal :=
  .next (
    match s.draftNow port with
    | none => s
    | some d =>
      let us := s.openNat % 128
      let s := (s.nextOpen.commitWindows port d d.windows).passFrame port d.normal
      ((s.bumpP port 0xC5).pulseP port 0x90 0).commitMap port d d.windows us)

/-! ### Alloc-ID commands (R284, Table 10-2) -/

/-- ALLOC_SET: it is checked and applies at the next tick. -/
def execAllocSet (iss : Issue) (op0 op1 op2 op3 op4 : Nat) (s : State) : Host.Outcome State Fault Refusal :=
  .next (s.activeCmd iss [(op0, 0x3FFFFFFF), (op1, 0xFFFFFF), (op2, 0x3FFFF), (op3, 0x3FFFF), (op4, 0x3FFFF)] (fun s =>
    let pol : AllocPolicy :=
      { alloc := bitsOf op0 25 14, rpt := bitAt op0 29, profile := bitsOf op0 28 26, period := bitsOf op1 7 0,
        phase := bitsOf op1 15 8, fixed := bitsOf op2 17 0, assured := bitsOf op3 17 0, peak := bitsOf op4 17 0,
        weight := bitsOf op1 23 16 }
    s.modDba iss.port (fun d => { d with cmds := d.cmds ++ [.set iss (bitsOf op0 9 0) (bitsOf op0 13 10) pol] })))

/-- ALLOC_CLEAR: it is checked and applies at the next tick. -/
def execAllocClear (iss : Issue) (op0 : Nat) (s : State) : Host.Outcome State Fault Refusal :=
  .next (s.activeCmd iss [(op0, 0x3FFF)] (fun s =>
    s.modDba iss.port (fun d => { d with cmds := d.cmds ++ [.clear iss (bitsOf op0 9 0) (bitsOf op0 13 10)] })))

/-- The reason an ALLOC_SET is refused for, in the order of Table 10-2; `limit` is guar_limit. -/
def allocCheck (s : State) (p : Port) (c i onu : Nat) (pol : AllocPolicy) (limit : Nat) : Option Nat :=
  let sum := pol.fixed + pol.assured
  let held := match s.allocOwner p pol.alloc with
    | some o => o ≠ (c, i)
    | none => false
  let old := match (s.ctx p c).recs[i]? with
    | some r => recordLoad s p r
    | none => 0
  let new := recordLoad s p { AllocRec.blank with valid := true, pol := pol }
  if pol.period = 0 || pol.period ≤ pol.phase || pol.weight = 0 || 194387 < pol.fixed || 194387 < pol.assured
      || (sum ≠ 0 && sum < 25) || pol.peak < sum then some 0x10
  else if (i = 0 && pol.alloc ≠ onu) || (i ≠ 0 && pol.alloc < 1024) || held then some 0x0E
  else if limit < guarSum s p - old + new then some 0x0F
  else none

/-- One Alloc-ID command at its tick. -/
def State.applyAlloc (s : State) (p : Port) (cmd : AllocCmd) : State :=
  match cmd with
  | .set iss onu i pol =>
    match s.slotOf p onu with
    | none => s.refuse iss 0x02
    | some c =>
      match allocCheck s p c i onu pol (s.cap (R.DBA_GUAR.guar_limit p)) with
      | some r => s.refuse iss r
      | none =>
        let same := match (s.ctx p c).recs[i]? with
          | some r => r.pol.alloc == pol.alloc
          | none => false
        let s := s.modCtx p c (fun x => x.modRec i (fun r =>
          if same then { r with valid := true, pol := pol } else { AllocRec.blank with valid := true, pol := pol }))
        let s := s.memWrite 0 (recordWord p c i) (if same then 0xFFFF else allBytes)
        (s.guarStatus p).succeed iss 0 0
  | .clear iss onu i =>
    match s.slotOf p onu with
    | none => s.refuse iss 0x02
    | some c =>
      if i = 0 then s.refuse iss 0x10
      else
        let s := s.modCtx p c (fun x => x.modRec i (fun r => { r with valid := false }))
        ((s.memWrite 0 (recordWord p c i) 15).guarStatus p).succeed iss 0 0

/-- The Alloc-ID commands that have been executed are captured and apply, in order. -/
def State.applyAllocs (s : State) (p : Port) : State :=
  let l := (s.port p).dba.cmds
  l.foldl (fun s c => s.applyAlloc p c) (s.modDba p (fun d => { d with cmds := [] }))

end Sys2Proof.Machine
end

