-- ==== Sys2Proof/Machine/Flow.lean ====
section
/-!
DEFINITION. Flow contexts (chapter 11): the image, the checks of a create or modify, meters, the upstream lookup, the downstream
classification, the flow commands, and the egress to the uplink ports.
-/
namespace Sys2Proof.Machine

/-! ### Contexts and their words -/


/-- The contexts with valid = 1. -/
def validFlows (s : State) : Nat := (s.flow.flows.filter (fun e => e.2.valid)).length

/-- The state with a flow context replaced; GLB_FLOW_STATUS follows. -/
def State.setFlow (s : State) (f : Nat) (x : FlowCtx) : State :=
  let s := { s with flow := { s.flow with flows := Tab.put s.flow.flows f x } }
  s.setFld R.GLB_FLOW_STATUS.valid_flows (validFlows s)

/-- The LPDDR6 word and the bytes of the classification entry of a key (Table 12-3). -/
def classWord (key : Nat) : Nat := 2 ^ 20 + key / 8
def classMask (key : Nat) : Nat := 15 * 16 ^ (key % 8)

/-- The value of a classification entry: what a command wrote, or what the last fill over it left (R301, R303). -/
def classEntry (s : State) (key : Nat) : Nat :=
  match Tab.find s.flow.classes key with
  | some v => v
  | none =>
    match s.mem.fills.find? (fun f => decide (f.start ≤ classWord key) && decide (classWord key < f.start + f.words)) with
    | some f => if key % 2 = 0 then f.pattern % 2 ^ 32 else f.pattern / 2 ^ 32 % 2 ^ 32
    | none => 0

/-- A classification entry is written. -/
def State.setClass (s : State) (key v : Nat) : State :=
  ({ s with flow := { s.flow with classes := Tab.put s.flow.classes key v } }).memWrite 3 (classWord key) (classMask key)

/-- The key of a context. -/
def FlowCtx.key (x : FlowCtx) : Nat := x.outer * 4096 + x.inner

/-! ### The image (Table 11-1) -/

/-- The little-endian word at byte offset `i` of an image. -/
def imgWord (b : List Byte) (i : Nat) : Nat := leNat ((b.drop i).take 4)

/-- The reserved bits of an image are 0. -/
def imgReservedOk (b : List Byte) : Bool :=
  !bitAt (imgWord b 0) 24 && imgWord b 0 % 2 ^ 7 == 0 && imgWord b 4 % 2 ^ 14 == 0 && imgWord b 8 % 2 ^ 12 == 0
    && imgWord b 12 % 2 ^ 12 == 0 && bitsOf (imgWord b 0x20) 30 24 == 0 && bitsOf (imgWord b 0x24) 23 12 == 0

/-- The host's fields of an image over a context: everything but valid, poisoned, the buckets and the four counts. -/
def FlowCtx.over (x : FlowCtx) (b : List Byte) : FlowCtx :=
  let a := imgWord b 0
  let k := imgWord b 0x20
  let t := imgWord b 0x24
  { x with
    enabled := bitAt a 30, mgmt := bitAt a 28, encrypt := bitAt a 27, dir := bitsOf a 26 25, port := bitsOf a 23 21,
    onu := bitsOf a 20 11, uplink := bitsOf a 10 7, queue := bitsOf (imgWord b 4) 31 14, cir := bitsOf (imgWord b 8) 31 12,
    pir := bitsOf (imgWord b 12) 31 12, cbs := bitsOf (imgWord b 16) 31 16, pbs := bitsOf (imgWord b 16) 15 0,
    keyValid := bitAt k 31, rsvKey := bitsOf k 30 24, outer := bitsOf k 23 12, inner := bitsOf k 11 0, usOp := bitsOf t 31 30,
    usTpid := bitsOf t 29 29, usPcp := bitsOf t 28 26, dsOp := bitsOf t 25 24, rsvTag := bitsOf t 23 12, usVid := bitsOf t 11 0,
    cookie := imgWord b 0x3C }

/-- The cold half of a context as 32 bytes of LPDDR6 give it. -/
def FlowCtx.coldFrom (x : FlowCtx) (b : List Byte) : FlowCtx :=
  let y := x.over (List.replicate 32 0#8 ++ b)
  { x with
    keyValid := y.keyValid, rsvKey := y.rsvKey, outer := y.outer, inner := y.inner, usOp := y.usOp, usTpid := y.usTpid,
    usPcp := y.usPcp, dsOp := y.dsOp, rsvTag := y.rsvTag, usVid := y.usVid, cookie := y.cookie, sdus := imgWord b 8,
    bytes := imgWord b 12 + imgWord b 16 * 2 ^ 32, redDrops := imgWord b 20, poisonDrops := imgWord b 24 }

/-- A flow context. One that nothing has created or changed has a hot half of zeros (R297), and in its cold half what a fill has left there. -/
def State.flowCtx (s : State) (f : Nat) : FlowCtx :=
  match Tab.find s.flow.flows f with
  | some x => x
  | none =>
    if (fillByte s (32 * f)).isNone then .blank
    else FlowCtx.blank.coldFrom ((List.range 32).map (fun i => (fillByte s (32 * f + i)).getD 0))

/-- The 64 bytes of a context. -/
def FlowCtx.image (x : FlowCtx) : List Byte :=
  leBytes 4 (bit01 x.valid * 2 ^ 31 + bit01 x.enabled * 2 ^ 30 + bit01 x.poisoned * 2 ^ 29 + bit01 x.mgmt * 2 ^ 28
      + bit01 x.encrypt * 2 ^ 27 + x.dir * 2 ^ 25 + x.port * 2 ^ 21 + x.onu * 2 ^ 11 + x.uplink * 2 ^ 7)
    ++ leBytes 4 (x.queue * 2 ^ 14) ++ leBytes 4 (x.cir * 2 ^ 12) ++ leBytes 4 (x.pir * 2 ^ 12)
    ++ leBytes 4 (x.cbs * 2 ^ 16 + x.pbs) ++ leBytes 4 x.tc ++ leBytes 4 x.tp ++ leBytes 4 x.stamp
    ++ leBytes 4 (bit01 x.keyValid * 2 ^ 31 + x.rsvKey * 2 ^ 24 + x.outer * 2 ^ 12 + x.inner)
    ++ leBytes 4 (x.usOp * 2 ^ 30 + x.usTpid * 2 ^ 29 + x.usPcp * 2 ^ 26 + x.dsOp * 2 ^ 24 + x.rsvTag * 2 ^ 12 + x.usVid)
    ++ leBytes 4 x.sdus ++ leBytes 8 x.bytes ++ leBytes 4 x.redDrops ++ leBytes 4 x.poisonDrops ++ leBytes 4 x.cookie

/-! ### The meter (R304) -/

/-- The buckets filled for the time since the last update; `us` is the present time in µs. -/
def FlowCtx.fill (x : FlowCtx) (us : Nat) : FlowCtx :=
  let dt := (us % 2 ^ 32 + 2 ^ 32 - x.stamp % 2 ^ 32) % 2 ^ 32
  { x with tc := min (x.tc + x.cir * dt) (x.cbs * 2048), tp := min (x.tp + x.pir * dt) (x.pbs * 2048), stamp := us % 2 ^ 32 }

/-- The colours of the meter. -/
inductive Colour where
  | green
  | yellow
  | red
  deriving DecidableEq, Repr

/-- The meter at an SDU of `len` bytes. -/
def FlowCtx.meter (x : FlowCtx) (us len : Nat) : FlowCtx × Colour :=
  if x.pir = 0 then (x, .green)
  else
    let x := x.fill us
    let b := 32 * len
    if x.tp < b then (x, .red)
    else if x.tc < b then ({ x with tp := x.tp - b }, .yellow)
    else ({ x with tc := x.tc - b, tp := x.tp - b }, .green)

/-- Full buckets with a stamp (R305). -/
def FlowCtx.full (x : FlowCtx) (us : Nat) : FlowCtx :=
  { x with tc := x.cbs * 2048, tp := x.pbs * 2048, stamp := us % 2 ^ 32 }

/-- An SDU meets the meter of its flow: the buckets are written, and a red SDU counted. Answers the colour. -/
def State.meterFlow (s : State) (f us len : Nat) : State × Colour :=
  let x := s.flowCtx f
  let (y, c) := x.meter us len
  let s := if x.pir = 0 then s else (s.setFlow f y).memWrite 0 f 0xFFF00000
  (if c = .yellow then s.bump 0x2108 else s, c)

/-! ### Counts of a flow (R310) -/

/-- A posted update of a flow's counts in its cold half, in which a poisoned byte counts as 0x00 (R317, R324); lost while the hub memory region is
fenced. -/
def State.countFlow (s : State) (f mask : Nat) (g : FlowCtx → FlowCtx) : State :=
  if s.hubFenced 1 then s.bump 0x210F
  else
    let x := s.flowCtx f
    let bad := memPoison s 3 f &&& mask
    let x := if bad = 0 then x else x.coldFrom (maskPoison (x.image.drop 32) bad)
    (s.setFlow f (g x)).memWrite 3 f mask

/-- SDUs and bytes forwarded. -/
def State.countForwarded (s : State) (f len : Nat) : State :=
  s.countFlow f 0xFFF00 (fun x => { x with sdus := (x.sdus + 1) % 2 ^ 32, bytes := (x.bytes + len) % 2 ^ 64 })
/-- An SDU dropped red. -/
def State.countRed (s : State) (f : Nat) : State :=
  (s.bump 0x2107).countFlow f 0xF00000 (fun x => { x with redDrops := (x.redDrops + 1) % 2 ^ 32 })
/-- An SDU dropped for poison. -/
def State.countPoison (s : State) (f : Nat) : State :=
  s.countFlow f 0xF000000 (fun x => { x with poisonDrops := (x.poisonDrops + 1) % 2 ^ 32 })

/-- Poison of a flow's half is consumed: the flow is disabled by a write of byte 0x03 alone (R309). -/
def State.poisonFlow (s : State) (f : Nat) (cold : Bool) (drop : Bool) : State :=
  let s := s.consumePoison (if cold then 3 else 0) f 2
  let s := if drop then s.countPoison f else s
  let s := s.setFlow f { s.flowCtx f with valid := true, enabled := false, poisoned := true, mgmt := false, encrypt := false, dir := 0 }
  let s := s.memWrite 0 f (2 ^ 3)
  let s := ((s.setFlag R.GLB_FLOW_LAST_POISON.seen true).setFlag R.GLB_FLOW_LAST_POISON.cold cold).setFld
    R.GLB_FLOW_LAST_POISON.flow_id f
  (s.bump 0x210A).pulse 0x1100 0

/-- The bytes of a hot half that a lookup uses: flags, port and ONU-ID; upstream the uplink port, downstream the queue; and of an SDU that is metered
pir, and with it the rates and the buckets where pir is not 0 (R304). -/
def hotUsed (x : FlowCtx) (down : Bool) : Nat :=
  (if down then 0xEE else 0xF)
    ||| (if x.mgmt && !down then 0 else if x.pir = 0 then 0xE000 else 0xFFFFEE00)

/-- What a lookup finds in a hot half (steps 1 to 3 of Table 11-3): the context, or the counter under which its SDU is dropped. Byte 0x03 is
read first, and a flow that it says is poisoned has no other byte read. -/
def State.hotHalf (s : State) (f : Nat) (down : Bool) : State × Option FlowCtx :=
  let s := s.memRead 0 f
  let x := s.flowCtx f
  let bad := memPoison s 0 f &&& hotUsed x down
  if bitAt bad 3 then (s.poisonFlow f false true, none)
  else if !x.valid then (s.bump 0x2102, none)
  else if !x.poisoned && bad ≠ 0 then (s.poisonFlow f false true, none)
  else if x.poisoned || !x.enabled then (s.bump 0x2104, none)
  else (s, some x)

/-- The cold half is read; poison in it disables the flow. -/
def State.coldHalf (s : State) (f : Nat) : State × Bool :=
  let s := s.lpRead f
  if memPoison s 3 f &&& 0xFF = 0 then (s, true) else (s.poisonFlow f true true, false)

/-! ### Tags (R300, R301) -/

/-- A TPID of an outer tag. -/
def outerTpid (s : State) (t : Nat) : Bool :=
  t == 0x88A8 || t == 0x8100 || (s.flag R.GLB_FLOW_CTL.alt_tpid_en && t == s.fld R.GLB_FLOW_CTL.alt_tpid)

/-- The two big-endian bytes at an offset. -/
def be16 (b : List Byte) (i : Nat) : Nat := beNat ((b.drop i).take 2)

/-- The VIDs of the tags a frame carries, outermost first: an outer tag, and an inner tag of TPID 0x8100 directly after it. -/
def tagVids (s : State) (b : List Byte) : List Nat :=
  if !outerTpid s (be16 b 12) then []
  else (be16 b 14 % 4096) :: (if be16 b 16 = 0x8100 then [be16 b 18 % 4096] else [])

/-- The classification key: a tag of VID 0 counts as no tag. -/
def tagKey (l : List Nat) : Nat :=
  match l.filter (· ≠ 0) with
  | [] => 0
  | [v] => v * 4096
  | v :: w :: _ => v * 4096 + w

/-- The outer tag is popped. -/
def popTag (s : State) (b : List Byte) : List Byte := if outerTpid s (be16 b 12) then b.take 12 ++ b.drop 16 else b

/-- The tag operation of an upstream flow (R300): DEI is 1 when the SDU is yellow. -/
def tagSdu (s : State) (x : FlowCtx) (yellow : Bool) (b : List Byte) : List Byte :=
  let tci := beBytes 2 (x.usPcp * 2 ^ 13 + bit01 yellow * 2 ^ 12 + x.usVid)
  if x.usOp = 0 then b
  else if x.usOp = 2 && outerTpid s (be16 b 12) then b.take 14 ++ tci ++ b.drop 16
  else b.take 12 ++ beBytes 2 (if x.usTpid = 1 then 0x8100 else 0x88A8) ++ tci ++ b.drop 12

/-! ### Upstream (R291, R299) -/

/-- An uplink port index is configured: its port is enabled (R386). -/
def uplinkOn (s : State) (k : Nat) : Bool := decide (k < 16) && s.flag (R.ULK_PORT.en k)

/-- An upstream SDU joins the list of its uplink port, in the cut-through pool while that holds more than ct_reserve free cells, else in
the LPDDR6 pool; without room in either it is lost. -/
def State.toEgress (s : State) (k f : Nat) (data : List Byte) : State :=
  let n := cellsOf data.length
  let ct := decide (s.fld R.LPD_POOL_CTL.ct_reserve < ctFree s) && decide (n ≤ ctFree s)
  if !ct && (s.hubFenced 1 || decide (lpFree s < n)) then s
  else
    let l := Tab.get (fun _ => ([] : List EgressSdu)) s.tm.egress k
    let (s, addrs) := s.allocCells (!ct) n
    let s := s.writeCells (!ct) addrs data.length
    let s := { s with tm := { s.tm with
      egress := Tab.set (fun _ => ([] : List EgressSdu)) s.tm.egress k (l ++ [({ flow := f, addrs := addrs, lp := !ct, data := data } : EgressSdu)]) } }
    (s.setFld R.LPD_POOL_CT.free (ctFree s)).setFld R.LPD_POOL_LP.free (lpFree s)

/-- Steps 7 to 10 of Table 11-3. -/
def State.forwardUp (s : State) (f us : Nat) (x : FlowCtx) (data : List Byte) : State :=
  let (s, c) := s.meterFlow f us data.length
  if c = .red then s.countRed f
  else
    let send := fun (s : State) =>
      if !uplinkOn s x.uplink then s.bump 0x210C
      else ((s.bump 0x2100).countForwarded f data.length).toEgress x.uplink f (tagSdu s x (c = .yellow) data)
    if x.usOp = 0 then send s
    else if s.hubFenced 1 then s
    else
      let (s, ok) := s.coldHalf f
      if ok then send s else s

/-- UPSTREAM_LOOKUP (R299): the oldest whole SDU of a port, at time `us`. While the hub data region is fenced it is dropped and counted for the port
(Table 1-6, which names no counter: log entry 103). -/
def execUpstreamLookup (port : Port) (us : Nat) (s : State) : Host.Outcome State Fault Refusal :=
  .next (
    match (s.port port).tcf.upQ with
    | [] => s
    | u :: rest =>
      let s := s.modTcf port (fun t => { t with upQ := rest })
      if s.hubFenced 0 then s.modTcf port (fun t => { t with fencedDrops := t.fencedDrops + 1 })
      else
        match s.hotHalf u.flow false with
        | (s, none) => s
        | (s, some x) =>
          if x.port ≠ port.val || x.onu ≠ u.onu || x.dir % 2 = 0 then s.bump 0x2105
          else if x.encrypt && !u.keyed then s.bump 0x2106
          else if x.mgmt then (s.bump 0x2109).deliver port 2 (msgResult u.onu u.data.length) u.data
          else s.forwardUp u.flow us x u.data)

/-- The counter of an uplink port (Table 15-8). -/
def ulkCtr (k i : Nat) : Nat := 0x2500 + 16 * k + i

/-- UPSTREAM_EGRESS (R291, R319, R388): the oldest SDU of an uplink port's list is read whole and sent with its FCS; `poisoned` says that an error in one
of its cells made it poison. One in the LPDDR6 pool waits while the hub memory region is fenced. -/
def execUpstreamEgress (uplink : Nat) (poisoned : Bool) (s : State) : Host.Outcome State Fault Refusal :=
  .next (
    let k := uplink % 16
    match Tab.get (fun _ => ([] : List EgressSdu)) s.tm.egress k with
    | [] => s
    | d :: rest =>
      if s.hubFenced 0 || (d.lp && s.hubFenced 1) then s
      else
        let s := { s with tm := { s.tm with egress := Tab.set (fun _ => []) s.tm.egress k rest } }
        let s := (s.setFld R.LPD_POOL_CT.free (ctFree s)).setFld R.LPD_POOL_LP.free (lpFree s)
        let (s, bad) := s.releaseCells d.lp d.addrs d.data.length poisoned
        if bad then s.countPoison d.flow
        else if s.fld (R.ULK_PORT_STATUS.state k) ≠ 2 then s.bump (ulkCtr k 8)
        else if s.fld (R.ULK_PORT.max_frame k) < d.data.length + 4 then s.bump (ulkCtr k 7)
        else ((s.bump (ulkCtr k 5)).bumpBy (ulkCtr k 6) (d.data.length + 4)).emit (.uplink k (d.data ++ frameCheck d.data)))

/-! ### Downstream (R301 to R303, R388) -/

/-- DOWNSTREAM_CLASSIFY (R301 to R303): a frame without its FCS. -/
def State.classify (s : State) (us : Nat) (b : List Byte) : State :=
  let vids := tagVids s b
  let key := tagKey vids
  if !s.flag R.GLB_FLOW_CTL.ds_class_en then s.bump 0x2103
  else if s.hubFenced 1 then s.bump 0x210D
  else if vids.contains 4095 then s.bump 0x2103
  else
    let s := s.lpRead (classWord key)
    if memPoison s 3 (classWord key) &&& classMask key ≠ 0 then
      ((s.consumePoison 3 (classWord key) 3).pulse 0x1101 0).bump 0x210B
    else
      let v := classEntry s key
      let f := v % 2 ^ 20
      if !bitAt v 31 then s.bump 0x2103
      else
        match s.hotHalf f true with
        | (s, none) => s
        | (s, some x) =>
          let (s, ok) := s.coldHalf f
          if !ok then s
          else if x.dir / 2 % 2 = 0 then s.bump 0x2105
          else
            let (s, c) := s.meterFlow f us b.length
            if c = .red then s.countRed f
            else
              let data := if x.dsOp = 1 then popTag s b else b
              ((s.bump 0x2101).countForwarded f b.length).admitSdu x.queue f x.encrypt (c = .yellow) data

/-- What the RS decoders of an uplink port report is counted (R387): codewords by port, corrected symbols by lane. -/
def State.countRs (s : State) (k : Nat) (rs : RsReport) : State :=
  let s := (s.bumpBy (ulkCtr k 9) rs.corrected).bumpBy (ulkCtr k 10) rs.uncorrectable
  rs.symbols.zipIdx.foldl (fun s e => s.bumpBy (0x2400 + 8 * ((k + e.2) % 16) + 4) e.1) s

/-- UPLINK_FRAME_RX (R387, R388): a frame with its FCS arrives at an uplink port. One that an uncorrectable codeword touches fails as one whose FCS
is bad. -/
def execUplinkFrameRx (uplink : Nat) (rs : RsReport) (frame : List Byte) (us : Nat) (s : State) :
    Host.Outcome State Fault Refusal :=
  .next (
    let k := uplink % 16
    let s := if s.fld (R.ULK_PORT_STATUS.state k) = 2 then s.countRs k rs else s
    if s.fld (R.ULK_PORT_STATUS.state k) ≠ 2 || s.hubFenced 0 then s
    else if rs.touched || !frameOk frame then s.bump (ulkCtr k 2)
    else if frame.length < 64 || s.fld (R.ULK_PORT.max_frame k) < frame.length then s.bump (ulkCtr k 3)
    else if be16 frame 12 = 0x8808 then s.bump (ulkCtr k 4)
    else ((s.bump (ulkCtr k 0)).bumpBy (ulkCtr k 1) frame.length).classify us (frame.take (frame.length - 4)))

/-- METER_REFRESH (R305): an enabled, metered flow is visited, and of its hot half the flags, the rates and the buckets are used. -/
def execMeterRefresh (flow us : Nat) (s : State) : Host.Outcome State Fault Refusal :=
  .next (
    let f := flow % 2 ^ 20
    let x := s.flowCtx f
    if !x.valid || !x.enabled || x.poisoned || x.pir = 0 || s.hubFenced 0 then s
    else
      let s := s.memRead 0 f
      if memPoison s 0 f &&& 0xFFFFEE08 ≠ 0 then s.poisonFlow f false false
      else (s.setFlow f (x.fill us)).memWrite 0 f 0xFFF00000)

/-! ### The checks of Table 11-2 -/

/-- The queue of a downstream flow lies on the flow's node. -/
def queueFits (s : State) (x : FlowCtx) : Bool :=
  let p : Port := Fin.ofNat 8 x.port
  let node := if x.onu = 1023 then some 256 else s.slotOf p x.onu
  (s.queue x.queue).valid && queuePort x.queue == p && node == some (s.queue x.queue).node

/-- The fields of an image that stand alone: reserved codes and bits, and rates (the first 0x10 row). -/
def fieldsBad (x : FlowCtx) (reservedOk : Bool) : Bool :=
  x.dir = 0 || x.usOp = 3 || 2 ≤ x.dsOp || (x.usOp ≠ 0 && (x.usVid = 0 || x.usVid = 4095)) || !reservedOk
    || (x.pir ≠ 0 && (x.pir < x.cir || x.cbs = 0 || x.pbs < x.cbs))

/-- The combinations that the second and third 0x10 rows refuse. -/
def combinationBad (x : FlowCtx) : Bool :=
  (x.onu = 1023 && x.dir ≠ 2)
    || (x.mgmt && (x.dir ≠ 3 || x.onu = 1023 || x.pir ≠ 0 || x.keyValid || x.encrypt))
    || (!x.mgmt && 2 ≤ x.dir && (!x.keyValid || x.outer = 4095 || x.inner = 4095 || (x.outer = 0 && x.inner ≠ 0)))

/-- The reason for which a create (`old` none) or a modify is refused: the first row of Table 11-2 broken. -/
def flowCheck (s : State) (fn f : Nat) (create : Bool) (x : FlowCtx) (reservedOk : Bool) : Option Nat :=
  let old := s.flowCtx f
  let onu := if x.onu = 1023 then true else (s.slotOf (Fin.ofNat 8 x.port) x.onu).isSome
  if f = 0xFFFFF then some 0x14
  else if create && old.valid then some 0x15
  else if !create && !old.valid then some 0x16
  else if !create && old.poisoned then some 0x1B
  else if (fn ≠ 0 && x.port ≠ fn - 1)
      || (!create && (x.port ≠ old.port || x.onu ≠ old.onu || x.dir ≠ old.dir || x.mgmt ≠ old.mgmt)) then some 0x17
  else if !onu then some 0x13
  else if fieldsBad x reservedOk then some 0x10
  else if combinationBad x then some 0x10
  else if x.keyValid && s.flow.flows.any (fun e => e.1 ≠ f && e.2.valid && e.2.keyValid && e.2.key == x.key) then some 0x19
  else if !x.mgmt && 2 ≤ x.dir && !queueFits s x then some 0x1A
  else if x.dir % 2 = 1 && !uplinkOn s x.uplink then some 0x1C
  else if s.hubFenced 1 then some 0x1E
  else none

/-! ### Commands (R306, R307, R311) -/

/-- A flow command in its turn (R348): reserved bits (R352), then the fence of the hub data region (R311). -/
def State.flowCmd (s : State) (iss : Issue) (ops : List (Nat × Nat)) (k : State → State) : State :=
  if waitsInRing s iss then s.holdBack iss
  else
    let s := s.startCmd iss
    if anyReserved ops || iss.unnamed then s.refuse iss 0x10 else if s.hubFenced 0 then s.refuse iss 0x1E else k s

/-- A context is created whole. -/
def State.createFlow (s : State) (f us : Nat) (x : FlowCtx) : State :=
  let x := { x with valid := true, poisoned := false, sdus := 0, bytes := 0, redDrops := 0, poisonDrops := 0 }
  let s := ((s.setFlow f (x.full us)).memWrite 0 f allBytes).memWrite 3 f allBytes
  if x.keyValid then s.setClass x.key (2 ^ 31 + f) else s

/-- FLOW_CREATE (R298, R306). -/
def execFlowCreate (iss : Issue) (op0 : Nat) (image : List Byte) (us : Nat) (s : State) : Host.Outcome State Fault Refusal :=
  .next (s.flowCmd iss [(op0, 0xFFFFF)] (fun s =>
    let f := bitsOf op0 19 0
    let x := FlowCtx.blank.over image
    match flowCheck s iss.fn f true x (imgReservedOk image) with
    | some r => s.refuse iss r
    | none => (s.createFlow f us x).succeed iss 0 0))

/-- FLOW_MODIFY (R298, R306). -/
def execFlowModify (iss : Issue) (op0 : Nat) (image : List Byte) (s : State) : Host.Outcome State Fault Refusal :=
  .next (s.flowCmd iss [(op0, 0xFFFFF)] (fun s =>
    let f := bitsOf op0 19 0
    let old := s.flowCtx f
    let x := old.over image
    match flowCheck s iss.fn f false x (imgReservedOk image) with
    | some r => s.refuse iss r
    | none =>
      let x := { x with tc := min x.tc (x.cbs * 2048), tp := min x.tp (x.pbs * 2048) }
      let s := ((s.setFlow f x).memWrite 0 f 0xFFFFF).memWrite 3 f 0xF00000FF
      let moved := old.keyValid ≠ x.keyValid || old.key ≠ x.key
      let s := if moved && old.keyValid then s.setClass old.key 0 else s
      (if moved && x.keyValid then s.setClass x.key (2 ^ 31 + f) else s).succeed iss 0 0))

/-- FLOW_DISABLE (R306). Removing needs the key of the cold half, so it is refused while the hub memory region is fenced (DEDUCED). -/
def execFlowDisable (iss : Issue) (op0 : Nat) (s : State) : Host.Outcome State Fault Refusal :=
  .next (s.flowCmd iss [(op0, 0x800FFFFF)] (fun s =>
    let f := bitsOf op0 19 0
    let x := s.flowCtx f
    let remove := bitAt op0 31
    if f = 0xFFFFF then s.refuse iss 0x14
    else if !x.valid then s.refuse iss 0x16
    else if iss.fn ≠ 0 && x.port ≠ iss.fn - 1 then s.refuse iss 0x17
    else if remove && s.hubFenced 1 then s.refuse iss 0x1E
    else
      let s := (s.setFlow f { x with enabled := false, valid := !remove }).memWrite 0 f (2 ^ 3)
      (if remove && x.keyValid then s.setClass x.key 0 else s).succeed iss 0 0))

/-- FLOW_READ (R306): poisoned bytes, and the cold half while the hub memory region is fenced, read 0x00. -/
def execFlowRead (iss : Issue) (op0 : Nat) (s : State) : Host.Outcome State Fault Refusal :=
  .next (s.flowCmd iss [(op0, 0xFFFFF)] (fun s =>
    let f := bitsOf op0 19 0
    let x := s.flowCtx f
    if f = 0xFFFFF then s.refuse iss 0x14
    else if iss.fn ≠ 0 && x.valid && x.port ≠ iss.fn - 1 then s.refuse iss 0x17
    else
      let fenced := s.hubFenced 1
      let s := s.memRead 0 f
      let s := if fenced then s else s.lpRead f
      let hot := memPoison s 0 f
      let cold := if fenced then allBytes else memPoison s 3 f
      let bytes := maskPoison (x.image.take 32) hot ++ maskPoison (x.image.drop 32) cold
      (s.toHost iss.fn (.buffer iss.fn iss.tag bytes)).complete iss { Result.ok 0 0 with poison := hot ≠ 0 || cold ≠ 0 }))

/-- Flows are created in ascending order until one is refused: the number created, and the reason. -/
def State.bulkLoad (fn us : Nat) : State → Nat → List (List Byte) → Nat → State × Nat × Option Nat
  | s, _, [], n => (s, n, none)
  | s, f, b :: t, n =>
    let x := FlowCtx.blank.over b
    match flowCheck s fn (min f 0xFFFFF) true x (imgReservedOk b) with
    | some r => (s, n, some r)
    | none => State.bulkLoad fn us (s.createFlow f us x) (f + 1) t (n + 1)

/-- FLOW_BULK_LOAD (R307). -/
def execFlowBulkLoad (iss : Issue) (op0 op1 : Nat) (images : List Byte) (us : Nat) (s : State) :
    Host.Outcome State Fault Refusal :=
  .next (s.flowCmd iss [(op0, 0xFFFFF), (op1, 0x3FF)] (fun s =>
    let n := bitsOf op1 9 0
    if n = 0 then s.refuse iss 0x10
    else if images.length ≠ 64 * n then s.refuse iss 0x1D
    else
      let l := (List.range n).map (fun i => (images.drop (64 * i)).take 64)
      match s.bulkLoad iss.fn us (bitsOf op0 19 0) l 0 with
      | (s, made, none) => s.succeed iss made 0
      | (s, made, some r) => (s.pulse 0x1102 0).succeed iss made r))

/-! ### Fills and resets -/

/-- A counter as 8 bytes of LPDDR6 give it (R427). -/
def Counter.ofWord (w : Nat) : Counter := { value := w % 2 ^ 56, ovf := bitAt w 63 }

/-- The contents of the words that a fill writes are its pattern: classification entries, cold halves, extended counters and capture pages
(Table 12-3, R321). -/
def State.fillContents (s : State) (f : Fill) : State :=
  let inside := fun (w : Nat) => decide (f.start ≤ w) && decide (w < f.start + f.words)
  let pat := leBytes 8 f.pattern
  let word := pat ++ pat ++ pat ++ pat
  let c := Counter.ofWord f.pattern
  let x : ExtWord := { retired := c, wasted := c, back := c, granted := c, lost := bitAt f.pattern 62, restart := false }
  let lo := max f.start (0x0600_0000 / 32)
  let ext := (List.range (min (f.start + f.words) (0x0600_0000 / 32 + 2048) - lo)).map (fun i => lo + i - 0x0600_0000 / 32)
  let s := { s with flow := {
    classes := s.flow.classes.filter (fun e => !inside (classWord e.1)),
    flows := s.flow.flows.map (fun (e : Nat × FlowCtx) => if inside e.1 then (e.1, e.2.coldFrom word) else e) } }
  let s := { s with capture := { s.capture with pages := s.capture.pages.map (fun (e : Nat × List (Option Byte)) =>
    (e.1, e.2.zipIdx.map (fun b => if inside (128 * e.1 + b.2 / 32) then pat[b.2 % 8]? else b.1))) } }
  ext.foldl (fun s i => s.setExt i x) s

/-- MEM_FILL_DONE (R321): the words of a fill are written, and its command completes. -/
def execMemFillDone (iss : Issue) (s : State) : Host.Outcome State Fault Refusal :=
  .next (
    match s.mem.filling.find? (fun e => e.1 = iss) with
    | none => s
    | some (_, f) =>
      let s := { s with mem := { s.mem with filling := s.mem.filling.filter (fun e => e.1 ≠ iss) } }
      let s := (s.applyFill f).fillContents f
      s.succeed iss f.words 0)

end Sys2Proof.Machine
end

