-- ==== Sys2Proof/Machine/Session.lean ====
section
/-!
DEFINITION. What a firmware session is to the rest of the device (R502, R505): its bundle's header, and how it ends.
-/
namespace Sys2Proof.Machine

/-- A little-endian number of a bundle. -/
def hdr (b : List Byte) (off n : Nat) : Nat := ((b.drop off).take n).foldr (fun x acc => x.toNat + 256 * acc) 0

/-- The bytes are 0. -/
def zeros (b : List Byte) (off n : Nat) : Bool := ((b.drop off).take n).all (· == 0)

/-- The fields of a header (Table 21-2). -/
def hdrVersion (b : List Byte) : Nat := hdr b 0x10 4
def hdrSec (b : List Byte) : Nat := hdr b 0x14 2
def hdrTotal (b : List Byte) : Nat := hdr b 0x1C 4

/-- The bundle digest: the SHA3-512 of header bytes 0 to 0x0B1F (R502). -/
def bundleDigest (b : List Byte) : Nat := (Config.sha3_512 (b.take 0xB20)).toNat

/-- A counter of the firmware loader (Table 21-10). -/
def fwuCtr (i : Nat) : Nat := 0x3C00 + i

/-- The state of the session (Table 21-4). -/
def State.session (s : State) : Nat := s.fld R.FWU_STATUS.state

/-- Forwarding from the staging area goes on. -/
def forwardsSession (s : State) : Bool := s.fw.fwd.any (fun e => e.2.ofSession)

/-- The session is in IDLE, with the reason that ended it: its staged bytes go, and the event; it completes unless a confirmation is pending
(R508). -/
def State.idleSession (s : State) (reason : Nat) : State :=
  let src := s.fld R.FWU_STATUS.source
  let s := ((s.setFld R.FWU_STATUS.state 0).setFld R.FWU_STATUS.source 0).setFld R.FWU_STATUS.last_reason reason
  let s := s.setFld R.FWU_STAGED.staged 0
  let s := { s with fw := { s.fw with
    staged := [], version := 0, secVersion := 0, totalLen := 0, digest := 0, ending := none, cmd := none, actReq := false, actAt := none,
    completed := s.fw.completed || !s.flag R.FWU_STATUS.confirm_pending } }
  s.pulse 0x10D0 (reason % 256 + src * 2 ^ 8)

/-- The session ends, once its forwarding has ended too (R505). -/
def State.endSession (s : State) (reason : Nat) : State :=
  if s.session = 0 then s
  else if forwardsSession s then { s with fw := { s.fw with ending := some reason, cmd := none } }
  else s.idleSession reason

/-- The session ends with forwarding and all: a reset, or the loss of the staging area. -/
def State.killSession (s : State) (reason : Nat) : State :=
  let s := { s with fw := { s.fw with fwd := s.fw.fwd.filter (fun e => !e.2.ofSession) } }
  if s.session = 0 then s else s.idleSession reason

/-- The reason of an end for which Table 21-8 has no code is a free value. -/
def openReason (s : State) : Nat := s.openNat % 256

end Sys2Proof.Machine
end

