-- ==== Sys2Proof/Machine/Hk.lean ====
section
/-!
DEFINITION. The housekeeping converters and the bias DACs (chapter 18).
-/
namespace Sys2Proof.Machine

/-! ### Converters (R447 to R459) -/

/-- A converter. -/
def State.conv (s : State) (d : Nat) : HkaConv := Tab.get (fun _ => HkaConv.reset) s.hk.convs d

/-- The state with a converter replaced; HKA_STATUS follows. -/
def State.setConv (s : State) (d : Nat) (x : HkaConv) : State :=
  let s := { s with hk := { s.hk with convs := Tab.set (fun _ => HkaConv.reset) s.hk.convs d x } }
  (s.setFlag (R.HKA_STATUS.busy d) x.cur.isSome).setFld (R.HKA_STATUS.mq d) x.markers.length

/-- The counter `i` of a converter. -/
def hkaCtr (d i : Nat) : Nat := 0x2900 + 8 * d + i

/-- An input is differential (Table 18-1). -/
def hkaSigned (d input : Nat) : Bool :=
  decide (d < 2) && ((decide (input < 32) && (input % 8 == 1 || input % 8 == 3 || input % 8 == 5))
    || (decide (40 ≤ input) && decide (input < 44)))

/-- The 16-bit result of a voltage in nV, in the format of align (R447, R448). -/
def hkaResult (signed left : Bool) (nv : Int) : Nat :=
  let r := if signed then clampInt (-2048) 2047 (roundDiv 2 (2048 * nv) 600000000) else clampInt 0 4095 (roundDiv 2 (4096 * nv) 1200000000)
  if left then codeOf 16 (16 * r) else codeOf 16 r

/-- A conversion of a list entry with the entry's settings as they stand. -/
def entryConv (s : State) (d e : Nat) (kind : ConvKind) (port : Port) (onu fc : Nat) : Conv :=
  { kind := kind, entry := e, input := s.fld (R.HKA_ENTRY.input d e), toData := s.fld (R.HKA_ENTRY.to_data d e) == 1, port := port,
    onu := onu, fc := fc }

/-- The converter stops its entries: en is 0 (R450). -/
def HkaConv.stop (x : HkaConv) : HkaConv := { x with aborted := none, markers := [], tickRun := [], swRun := [] }

/-- The next conversion starts when none is in progress: markers, the aborted conversion, thermal requests, the tick run, software
entries (R451). -/
def State.hkaStart (s : State) (d : Nat) : State :=
  let x := if s.flag (R.HKA_CTL.en d) then s.conv d else (s.conv d).stop
  if x.cur.isSome || s.flag (R.HKA_STATUS.die_lost d) then s.setConv d x
  else
    match x.markers, x.aborted, x.thermal, x.tickRun, x.swRun with
    | m :: t, _, _, _, _ => s.setConv d { x with cur := some (entryConv s d m.entry .marker m.port m.onu m.fc), markers := t }
    | [], some a, _, _, _ => s.setConv d { x with cur := some a, aborted := none }
    | [], none, i :: t, _, _ => s.setConv d { x with
        cur := some { kind := .thermal, entry := 0, input := i, toData := false, port := 0, onu := 0, fc := 0 }, thermal := t }
    | [], none, [], e :: t, _ => s.setConv d { x with cur := some (entryConv s d e .tick 0 0 0), tickRun := t }
    | [], none, [], [], e :: t => s.setConv d { x with cur := some (entryConv s d e .software 0 0 0), swRun := t }
    | [], none, [], [], [] => s.setConv d x

/-- Entries of a kind are pending or in progress. -/
def HkaConv.runs (x : HkaConv) (kind : ConvKind) (left : List Nat) : Bool :=
  !left.isEmpty || (match x.cur with | some c => c.kind == kind | none => false)
    || (match x.aborted with | some c => c.kind == kind | none => false)

/-- The entries of a trigger, in ascending order. -/
def hkaEntries (s : State) (d trigger : Nat) : List Nat := (List.range 32).filter (fun e => s.fld (R.HKA_ENTRY.trigger d e) == trigger)

/-- HKA_TICK_RUN (R450, R453): at a tick the entries due run, or the run is skipped while the one before is in progress. -/
def State.hkaTick (s : State) (d : Nat) : State :=
  let due := (hkaEntries s d 1).filter (fun e => s.fc % 2 ^ s.fld (R.HKA_ENTRY.div d e) == 0)
  let x := s.conv d
  if due = [] || !s.flag (R.HKA_CTL.en d) || s.flag (R.HKA_STATUS.die_lost d) then s
  else if x.runs .tick x.tickRun then ((s.bump (hkaCtr d 2)).setFlag (R.HKA_STATUS.tick_skipped d) true).pulse 0x1063 d
  else ((s.setConv d { x with tickRun := due }).bump (hkaCtr d 1)).hkaStart d

/-- A write of HKA_CTL_d: en and align, and the software run it asks for (R450, R453). -/
def State.hkaCtlWrite (s : State) (d value : Nat) : State :=
  let s := (s.setFld (R.HKA_CTL.en d) (bitsOf value 31 31)).setFld (R.HKA_CTL.align d) (bitsOf value 0 0)
  let x := s.conv d
  let s := if !bitAt value 30 then s
    else if x.runs .software x.swRun then s.bump (0x2918 + d)
    else s.setConv d { x with swRun := hkaEntries s d 2 }
  s.hkaStart d

/-- HKA_SW_TRIG (R450): a write of HKA_CTL_d with sw_trig. -/
def execHkaSwTrig (src : Nat) (conv value : Nat) (s : State) : Host.Outcome State Fault Refusal := .next (s.accessed src (R.HKA_CTL.addr (conv % 3)) (fun s => s.hkaCtlWrite (conv % 3) value))

/-- A marker is dropped (R450, R452). -/
def State.dropMarker (s : State) (d : Nat) (p : Port) : State := (s.bump (hkaCtr d 4)).pulse 0x1064 p.val

/-- HKA_MARKER (R450 to R452): a marker of a port reaches its line die's converter with its ONU-ID and frame counter. -/
def execHkaMarker (port : Port) (onu fc : Nat) (s : State) : Host.Outcome State Fault Refusal :=
  .next (
    let d := port.val / 4
    let x := s.conv d
    match (hkaEntries s d 3).find? (fun e => s.fld (R.HKA_ENTRY.mport d e) == port.val % 4) with
    | none => s.dropMarker d port
    | some e =>
      let m := entryConv s d e .marker port onu (fc % 2 ^ 16)
      if !s.flag (R.HKA_CTL.en d) || s.flag (R.HKA_STATUS.die_lost d) then s.dropMarker d port
      else
        match x.cur with
        | none => (s.setConv d { x with markers := x.markers ++ [m] }).hkaStart d
        | some c =>
          if c.kind = .marker then
            if 4 ≤ x.markers.length then s.dropMarker d port else s.setConv d { x with markers := x.markers ++ [m] }
          else ((s.setConv d { x with cur := none, aborted := some c, markers := x.markers ++ [m] }).bump (hkaCtr d 7)).hkaStart d)

/-- The data register's code of a trigger. -/
def trigCode : ConvKind → Nat
  | .tick => 0
  | .software => 1
  | .marker => 2
  | .thermal => 3

/-- A result goes to the data register; one that replaces an unconsumed result carries overrun (R455). -/
def State.hkaData (s : State) (d : Nat) (c : Conv) (result : Nat) : State :=
  let again := s.flag (R.HKA_DATA.new d)
  let s := if again then ((s.bump (hkaCtr d 5)).setFlag (R.HKA_STATUS.overrun_seen d) true).pulse (0x1060 + d) 0 else s
  let s := ((s.setFlag (R.HKA_DATA.new d) true).setFlag (R.HKA_DATA.overrun d) again).setFld (R.HKA_DATA.entry d) c.entry
  let s := ((s.setFld (R.HKA_DATA.input d) c.input).setFld (R.HKA_DATA.trig d) (trigCode c.kind)).setFlag (R.HKA_DATA.signed d)
    (hkaSigned d c.input)
  (s.setFld (R.HKA_DATA.result d) result).setConv d { s.conv d with lowRead := false }

/-- A marker's result goes to the RSSI table of its port, or is discarded when its ONU-ID has no context (R458). -/
def State.hkaRssi (s : State) (d : Nat) (c : Conv) (result : Nat) : State :=
  if c.onu < 1023 && s.flag (R.ONU_IDMAP.valid c.port c.onu) then
    let k := s.fld (R.ONU_IDMAP.slot c.port c.onu)
    (s.setFld (R.HKA_RSSI.result c.port.val k) result).setFld (R.HKA_RSSI.frame_lo c.port.val k) c.fc
  else s.bump (hkaCtr d 6)

/-- HKA_CONVERSION_DONE (R447, R454): the conversion in progress ends with the held voltage in nV. -/
def execHkaConversionDone (conv : Nat) (nanovolts : Int) (s : State) : Host.Outcome State Fault Refusal :=
  .next (
    let d := conv % 3
    match (s.conv d).cur with
    | none => s
    | some c =>
      let r := hkaResult (hkaSigned d c.input) (s.flag (R.HKA_CTL.align d)) nanovolts
      let s := (s.setConv d { s.conv d with cur := none }).bump (hkaCtr d 0)
      let s := (s.setFld (R.HKA_VAL.result d c.input) r).setFld (R.HKA_VAL.frame_lo d c.input) (s.fc % 2 ^ 16)
      let s := if c.toData then s.hkaData d c r else s
      let s := if c.kind = .marker then (s.bump (hkaCtr d 3)).hkaRssi d c r else s
      s.hkaStart d)

/-- HKA_DATA_READ (R455): a 4-byte read by a function returns the data register and consumes its result. -/
def execHkaDataRead (fn conv : Nat) (s : State) : Host.Outcome State Fault Refusal :=
  .next (
    let a := R.HKA_DATA.addr (conv % 3)
    if !sees fn a then s.emit (.readData fn a 0)
    else if accessKind s fn a false ≠ 0 then (s.emit (.readData fn a 0)).recordAccess fn a (accessKind s fn a false) false
    else (s.emit (.readData fn a (s.reg a).toNat)).setFlag (R.HKA_DATA.new (conv % 3)) false)

/-- A line die's converter stops, and its registers keep their values (R459). -/
def State.hkaDieLost (s : State) (d : Nat) : State :=
  (s.setConv d { ({ s.conv d with cur := none, thermal := [] } : HkaConv).stop with cur := none }).setFlag (R.HKA_STATUS.die_lost d) true

/-- A line-die reset clears the converter's data register, values and RSSI tables, and keeps its configuration (R459). -/
def State.hkaDieReset (s : State) (d : Nat) : State :=
  let s := s.setReg (R.HKA_DATA.addr d) 0
  let s := (List.range 48).foldl (fun s i => s.setReg (R.HKA_VAL.addr d i) 0) s
  let s := (List.range 4).foldl (fun s p => (List.range 256).foldl (fun s c => s.setReg (R.HKA_RSSI.addr (4 * d + p) c) 0) s) s
  (s.setConv d .reset).setFlag (R.HKA_STATUS.die_lost d) false

/-! ### Bias DACs (R460 to R465) -/

/-- An output's code moves toward a target at a slew, for a number of µs; slew 0 is unlimited. -/
def slewed (out target slew us : Nat) : Nat :=
  if slew = 0 then target
  else if out ≤ target then min target (out + 16 * slew * us) else max target (out - 16 * slew * us)

/-- The time in µs since power-on from which an output's move or hold counts. -/
def bdaSince (s : State) (k : Nat) : Nat := Tab.get (fun _ => 0) s.hk.bdaAt k

/-- An output's move or hold counts from here. -/
def State.bdaFrom (s : State) (k now : Nat) : State := { s with hk := { s.hk with bdaAt := Tab.set (fun _ => 0) s.hk.bdaAt k now } }

/-- A slewing output is followed up to a time in µs since power-on; a hold keeps its own time. -/
def State.bdaSettle (s : State) (k now : Nat) : State :=
  let us := now - bdaSince s k
  let s := if s.fld (R.BDA_STAT.phase k) = 1 then s else s.bdaFrom k now
  if s.fld (R.BDA_STAT.phase k) ≠ 2 then s
  else
    let t := s.fld (R.BDA_CODE.code k)
    let o := slewed (s.fld (R.BDA_STAT.out_code k)) t (s.fld (R.BDA_CFG.slew k)) us
    (s.setFld (R.BDA_STAT.out_code k) o).setFld (R.BDA_STAT.phase k) (if o = t then 0 else 2)

/-- The output starts to move toward its code (R462). -/
def State.bdaSlew (s : State) (k : Nat) : State :=
  let t := s.fld (R.BDA_CODE.code k)
  if s.fld (R.BDA_CFG.slew k) = 0 then (s.setFld (R.BDA_STAT.out_code k) t).setFld (R.BDA_STAT.phase k) 0
  else s.setFld (R.BDA_STAT.phase k) (if s.fld (R.BDA_STAT.out_code k) = t then 0 else 2)

/-- The step from the present output to the code is major. -/
def bdaMajor (s : State) (k : Nat) : Bool :=
  decide (s.fld (R.BDA_CFG.step_thresh k)
    < ((s.fld (R.BDA_CODE.code k) : Int) - (s.fld (R.BDA_STAT.out_code k) : Int)).natAbs)

/-- The output follows a written code: a hold on a major step, else a move from here (R462, R463). -/
def State.bdaMove (s : State) (k now : Nat) : State :=
  if s.fld (R.BDA_STAT.phase k) = 1 && bdaMajor s k then s
  else if bdaMajor s k && s.fld (R.BDA_CFG.hold k) ≠ 0 then (s.bdaFrom k now).setFld (R.BDA_STAT.phase k) 1
  else (s.bdaFrom k now).bdaSlew k

/-- The time in µs since power-on of a point of the present frame, whose first 125 µs it lies in. -/
def nowUs (s : State) (us : Nat) : Nat := 125 * s.tick + us % 125

/-- The output is kept at its safe code: by ot_hold, or while the package is fenced (R464, R465). -/
def bdaKept (s : State) (k : Nat) : Bool :=
  s.fld (R.BDA_STAT.phase k) == 3 && (s.flag (R.BDA_SAFE.ot_hold k) || s.flag R.GLB_STATUS.pkg_fenced)

/-- BDA_CODE_WRITE (R462, R463): a write of BDA_CODE_k, `us` µs into the frame. -/
def execBdaCodeWrite (src : Nat) (output value us : Nat) (s : State) : Host.Outcome State Fault Refusal :=
  .next (s.accessed src (R.BDA_CODE.addr (output % 32)) (fun s =>
    let k := output % 32
    let s := s.bdaSettle k (nowUs s us)
    let s := (s.setFld (R.BDA_CODE.en k) (bitsOf value 31 31)).setFld (R.BDA_CODE.code k) (bitsOf value 15 0)
    if bdaKept s k then s else s.bdaMove k (nowUs s us)))

/-- BDA_HOLD_EXPIRED (R462): the hold of the output has run to its end, from which it moves. -/
def execBdaHoldExpired (output us : Nat) (s : State) : Host.Outcome State Fault Refusal :=
  .next (
    let k := output % 32
    let ends := bdaSince s k + s.fld (R.BDA_CFG.hold k)
    if s.fld (R.BDA_STAT.phase k) = 1 && decide (ends ≤ nowUs s us) then ((s.bdaFrom k ends).bdaSlew k).bdaSettle k (nowUs s us) else s)

/-- The output goes to its safe code at once. -/
def State.bdaSafe (s : State) (k : Nat) : State :=
  (s.setFld (R.BDA_STAT.out_code k) (s.fld (R.BDA_SAFE.safe_code k))).setFld (R.BDA_STAT.phase k) 3

/-- The outputs of a port with ot set, as a mask. -/
def otMask (s : State) (n : Nat) : Nat := ((List.range 4).map (fun j => bit01 (s.flag (R.BDA_STAT.ot (4 * n + j))) * 2 ^ j)).sum

/-- BDA_OVER_TEMP (R464): an output's over-temperature flag rises, or falls again. -/
def execBdaOverTemp (output us : Nat) (flag : Bool) (s : State) : Host.Outcome State Fault Refusal :=
  .next (
    let k := output % 32
    let rise := flag && !s.flag (R.BDA_STAT.ot k)
    let s := s.setFlag (R.BDA_STAT.ot k) flag
    let s := if rise then s.bump (0x2920 + k) else s
    let s := if rise && s.flag (R.BDA_SAFE.ot_action k) then
        ((s.bdaSettle k (nowUs s us)).bdaSafe k).setFlag (R.BDA_SAFE.ot_hold k) true
      else s
    let m := otMask s (k / 4)
    s.level (0x1068 + k / 4) (m ≠ 0) m)

/-- A write of BDA_SAFE_k: every field takes what is written (R6, Table 0-5). ot_hold written 0 with the flag clear releases a held output, and with
the flag set leaves the hold standing (R464); written 1 it sets the field, which moves nothing by itself. -/
def State.bdaSafeWrite (s : State) (k value now : Nat) : State :=
  let s := (s.setFld (R.BDA_SAFE.ot_action k) (bitsOf value 16 16)).setFld (R.BDA_SAFE.safe_code k) (bitsOf value 15 0)
  if bitAt value 17 then s.setFlag (R.BDA_SAFE.ot_hold k) true
  else if !s.flag (R.BDA_SAFE.ot_hold k) || s.flag (R.BDA_STAT.ot k) then s
  else (((s.setFlag (R.BDA_SAFE.ot_hold k) false).bdaSettle k now).setFld (R.BDA_STAT.phase k) 0).bdaMove k now

/-- OT_HOLD_RELEASE (R464): a write of BDA_SAFE_k with ot_hold 0. -/
def execOtHoldRelease (src : Nat) (output value us : Nat) (s : State) : Host.Outcome State Fault Refusal :=
  .next (s.accessed src (R.BDA_SAFE.addr (output % 32)) (fun s => s.bdaSafeWrite (output % 32) value (nowUs s us)))

/-- Every enabled output goes to its safe code when the package is fenced (R465). -/
def State.bdaPackage (s : State) : State :=
  (List.range 32).foldl (fun s k => if s.flag (R.BDA_CODE.en k) then s.bdaSafe k else s) s

/-- The slewing outputs are followed up to a tick. -/
def State.bdaTick (s : State) : State :=
  (List.range 32).foldl (fun s k => if s.fld (R.BDA_STAT.phase k) = 2 then s.bdaSettle k (125 * s.tick) else s) s

end Sys2Proof.Machine
end

