-- ==== Sys2Proof/Machine/Modes.lean ====
section
/-!
DEFINITION. Line modes and port power modes (chapter 2), the framer that drives a port (R193), host fences, and the die-to-die links
(chapter 1).
-/
namespace Sys2Proof.Machine

/-! ### Mode changes (R43 to R48, R51) -/

/-- The port's mode-change event (Table 14-3). -/
def State.modeEvent (s : State) (p : Port) : State := s.pulseP p 1 (s.mode p * 2 ^ 24 + bit01 (s.g50 p) * 2 ^ 8)

/-- The receive machinery stops: the Sluice halts, running copies and partial SDUs go, substitutions end (R82, R111, R140, R225). Codewords
already in the decoders are still delivered (R552). -/
def State.leaveReceive (s : State) (p : Port) : State :=
  let s := (s.haltSluice p false).modRake p (fun r => { r with running := [], closed := [], buffer := [] })
  ((s.setFld (R.EQZ_STATUS.running p) 0).dropPartials p).endSubstitutions p

/-- The receive machinery starts: both channels are IDLE. -/
def State.enterReceive (s : State) (p : Port) : State :=
  (s.setChan p .a { SluChan.reset with st := .idle }).setChan p .b { SluChan.reset with st := .idle }

/-- A port enters OFF: framer off, TX_DISABLE_N low, ONUs DORMANT, queues flushed (R47, R236). -/
def State.goOff (s : State) (p : Port) : State :=
  let s := ((s.setFramer p .none).modMode p (fun m => { m with holdLeft := none, txStart := false, txWarm := false })).setDisCause p 0 true
  (s.flushTcf p).onuOff p

/-- The effective port power mode changes. -/
def State.setMode (s : State) (p : Port) (m : Nat) : State :=
  let old := s.mode p
  if m = old then s
  else
    let s := s.setFld (R.PRT_MODE_STATUS.eff_power_mode p) m
    let s := if 2 ≤ old && decide (m < 2) then s.leaveReceive p else if old < 2 && decide (2 ≤ m) then s.enterReceive p else s
    let s := if m = 0 then s.goOff p else s
    ((s.modeEvent p).linkPower (p.val / 4)).protStatus p

/-- The change_pending, warmup and queued bits follow the pipeline (R53 to R55); warmup reads 1 until the effective mode changes. -/
def State.modeStatus (s : State) (p : Port) : State :=
  let m := (s.port p).mode
  let up := m.rxWarm || m.txWarm || m.rxQueued || m.txStart || m.rxDone
  let s := (s.setFlag (R.PRT_MODE_STATUS.change_pending p) (m.due.isSome || up)).setFlag (R.PRT_MODE_STATUS.warmup p)
    (m.rxWarm || m.txWarm || m.rxDone)
  s.setFlag (R.PRT_MODE_STATUS.queued p) m.rxQueued

/-- A line-mode change clears the port's contexts, Alloc-ID records and DBA state, unbinds the queues of its nodes 0 to 255, and flushes its
TC queues (R42, R236). -/
def State.lineModeChange (s : State) (p : Port) : State :=
  let s := ((s.flushTcf p).freeAll p).unbindNodes p (fun i => decide (i < 256))
  let s := s.modDba p (fun d => { d with
    maps := d.maps.filter (fun e => decide (e.1 < s.tick)), draft := none, acct := d.acct.filter (fun e => decide (e.1 < s.tick)) })
  let s := (s.modOnu p (fun o => { o with deferred := none })).setFld (R.CNV_STATUS.skip_run p) 0
  (s.setFld (R.PRT_MODE_STATUS.eff_line_mode p) (s.fld (R.PRT_MODE_CTL.req_line_mode p))).modeEvent p

/-- The receive mode of a warm-up that completes at tick `w` takes effect, at the lower of the captured mode and the ceiling; the first map
with allocations governs the frame that begins at w + 2 (R54). -/
def State.warmEnter (s : State) (p : Port) (w : Nat) : State :=
  let m := (s.port p).mode
  let s := s.modMode p (fun m => { m with
    lvl := m.cap, rxWarm := false, rxDone := false, rxQueued := false, fullAt := none, due := none, grantFrom := w + 2 })
  (s.setMode p (min m.cap (s.fld (R.PRT_MODE_STATUS.ceiling p)))).setFramer p .full

/-! ### At the tick (R46, R51 to R55, R193) -/

/-- The heartbeat starts at the tick after TX calibration has ended (R195, Table 2-3): the encoder is in state 0 (R156), a port on its way to
HOLD is in HOLD, and a port whose RX warm-up ended first enters its receive mode. -/
def State.txStartTick (s : State) (p : Port) : State :=
  if !(s.port p).mode.txStart then s
  else
    let s := (s.modMode p (fun m => { m with txStart := false })).setFramer p .heartbeat
    let s := ((s.modTxp p (fun t => { t with encState := 0 })).setDisCause p 0 false).setDisCause p 5 false
    match (s.port p).resetReq.active with
    | some _ => s.modReset p (fun r => { r with doneAt := s.tick })
    | none =>
      let m := (s.port p).mode
      if s.mode p = 0 && m.cap = 1 && m.due = none then (s.modMode p (fun m => { m with lvl := 1 })).setMode p 1
      else if m.rxDone then s.warmEnter p s.tick
      else s

/-- Changes that fall due at a tick take effect: a captured request, a new ceiling (R16, R51, R52). -/
def State.modeEffect (s : State) (p : Port) : State :=
  let m := (s.port p).mode
  let due := m.due = some s.tick
  let s := if due then s.modMode p (fun m => { m with lvl := m.cap, due := none, fullAt := none }) else s
  let lvl := (s.port p).mode.lvl
  let tgt := min lvl (s.fld (R.PRT_MODE_STATUS.ceiling p))
  if due && lvl = 0 then (if s.mode p = 0 then s.goOff p else s.setMode p 0)
  else if due && (decide (tgt ≤ 1) || decide (2 ≤ s.mode p)) then s.setMode p tgt
  else if 2 ≤ s.mode p && tgt ≠ s.mode p then s.setMode p tgt
  else s

/-- The request captured at a tick: the lower of the host's and the thermal mode. Before the firmware has run a port stays in OFF (Table
20-2). -/
def modeRequest (s : State) (p : Port) : Nat :=
  let r := min (s.fld (R.PRT_MODE_CTL.req_power_mode p)) (s.fld (R.PRT_MODE_STATUS.thermal_mode p))
  if !s.flag R.RST_STATUS.fw_running && s.mode p = 0 && (s.port p).mode.cap = 0 then 0 else r

/-- A new request starts on its way (R52 to R54, Table 2-3). That a request for HOLD or OFF that replaces a warm-up from HOLD ends R193's exception at its
capture tick, so that the heartbeat framer returns there, is a DESIGN CHOICE (log entry 98). -/
def State.modeCapture (s : State) (p : Port) : State :=
  let r := modeRequest s p
  let m := (s.port p).mode
  let e := s.mode p
  if r = m.cap then s
  else
    let tx := decide (e = 0) && decide (m.framer = .none) && !m.txStart
    let s := s.modMode p (fun m =>
      if 2 ≤ r && decide (e < 2) then
        { m with cap := r, due := none, txWarm := m.txWarm || tx, rxQueued := m.rxQueued || !(m.rxWarm || m.rxDone),
                 fullAt := if e = 1 && m.fullAt.isNone then some (s.tick + 2) else m.fullAt }
      else if r = 1 && e = 0 then
        { m with cap := r, rxWarm := false, rxQueued := false, rxDone := false, fullAt := none, txWarm := m.txWarm || tx,
                 due := if m.framer = .none then none else some (s.tick + 2) }
      else
        { m with cap := r, rxWarm := false, rxQueued := false, rxDone := false, due := some (s.tick + 2),
                 txWarm := m.txWarm && r ≠ 0, txStart := m.txStart && r ≠ 0 })
    s.linkPower (p.val / 4)

/-- The framer of a frame that begins at a tick (R193). -/
def framerOf (s : State) (p : Port) : Framer :=
  let m := (s.port p).mode
  if m.framer = .none then .none
  else if s.fenced p || s.inReset p then .heartbeat
  else if 2 ≤ s.mode p then .full
  else
    match m.fullAt with
    | some t => if s.mode p = 1 && decide (t ≤ s.tick) then .full else .heartbeat
    | none => .heartbeat

/-- A hold after a fence loses a frame (R21); the heartbeat goes on through a region reset (R194). -/
def State.holdTick (s : State) (p : Port) : State :=
  if s.inReset p then s else s.modMode p (fun m => { m with holdLeft := m.holdLeft.map (fun n => n - 1) })

/-- The modes of a port at a tick: an accepted line-mode change applies first, whatever mode the port has taken since (R42). A fenced port and
one in region reset change no power mode (R23, R24). -/
def State.modeTick (s : State) (p : Port) : State :=
  let s := if s.fld (R.PRT_MODE_CTL.req_line_mode p) ≠ s.fld (R.PRT_MODE_STATUS.eff_line_mode p) && !s.fenced p && !s.inReset p
    then s.lineModeChange p else s
  let s := s.txStartTick p
  let s := if s.fenced p || s.inReset p then s else (s.modeEffect p).modeCapture p
  let s := s.holdTick p
  let f := framerOf s p
  if f = (s.port p).mode.framer then s else s.setFramer p f

/-- The RX warm-ups that wait start, at most two of a line die at one tick, in ascending port order (R55). -/
def State.warmStarts (s : State) (die : Nat) : State :=
  let begun := ((List.finRange 8).filter (fun p => p.val / 4 = die && (s.port p).mode.warmAt == some s.tick)).length
  let l := ((List.finRange 8).filter (fun p => p.val / 4 = die && (s.port p).mode.rxQueued)).take (2 - begun)
  l.foldl (fun s p => (s.modMode p (fun m => { m with rxQueued := false, rxWarm := true, warmAt := some s.tick })).startFg p) s

/-- MODE_CAPTURE and MODE_CHANGE_EFFECTIVE of every port. -/
def State.modesTick (s : State) : State :=
  let s := s.forPorts State.modeTick
  let s := (s.warmStarts 0).warmStarts 1
  s.forPorts State.modeStatus

/-! ### Commands and events -/

/-- PRT_MODE_CTL_WRITE (R41, R49): refused whole with its code, or recorded for the next tick. The spec does not say which code a write gets
that breaks both rules: it gets 0x01 (DESIGN CHOICE, log entry 81). -/
def execPrtModeCtlWrite (src : Nat) (port : Port) (value : Nat) (s : State) : Host.Outcome State Fault Refusal :=
  .next (s.accessed src (R.PRT_MODE_CTL.addr port) (fun s =>
    let m := bitsOf value 26 24
    let l := bitsOf value 16 16
    if 4 < m then s.setFld (R.PRT_MODE_STATUS.refuse_code port) 0x01
    else if l ≠ s.fld (R.PRT_MODE_CTL.req_line_mode port) && s.mode port ≠ 0 then s.setFld (R.PRT_MODE_STATUS.refuse_code port) 0x02
    else (s.setFld (R.PRT_MODE_CTL.req_power_mode port) m).setFld (R.PRT_MODE_CTL.req_line_mode port) l))

/-- FENCE_REQ (R21): a write of PRT_FENCE_CTL. -/
def execFenceReq (src : Nat) (port : Port) (value : Nat) (s : State) : Host.Outcome State Fault Refusal :=
  .next (s.accessed src (R.PRT_FENCE_CTL.addr port) (fun s =>
    let s := s.setFld (R.PRT_FENCE_CTL.hold_frames port) (bitsOf value 15 0)
    if bitAt value 31 then s.fencePort port [0x0B] else s))

/-- HEARTBEAT_HOLD_EXPIRED (R21): the tick that ends the last held frame has come. -/
def execHeartbeatHoldExpired (port : Port) (s : State) : Host.Outcome State Fault Refusal :=
  .next (
    if (s.port port).mode.holdLeft = some 0 && !s.inReset port && !handsOver s port then
      ((s.setFramer port .none).modMode port (fun m => { m with holdLeft := none })).setDisCause port 3 true
    else s)

/-- TX_CAL_DONE (R190, R195): TX calibration ends; a failed sub-DAC fences the TX cluster. -/
def execTxCalDone (port : Port) (failed : Bool) (s : State) : Host.Outcome State Fault Refusal :=
  .next (
    if !(s.port port).mode.txWarm then s
    else
      let s := s.modMode port (fun m => { m with txWarm := false, txStart := !failed })
      if failed then s.fencePort port [0x08] else (s.linkPower (port.val / 4)).modeStatus port)

/-- WARMUP_COMPLETE (R54, R69, R175): the RX warm-up of a port ends with its foreground calibration (`units`, where it has not been
presented already) and known-answer tests (`failed`). The row stands just before its tick w, the next one. With the TX warm-up complete too the
port is in its receive mode, the frame that begins at w is the full framer's, and the map of the frame that begins at w + 2 may carry grants. -/
def execWarmupComplete (port : Port) (units : List FgUnit) (failed : List (UnitClass × Nat)) (s : State) :
    Host.Outcome State Fault Refusal :=
  .next (
    if !(s.port port).mode.rxWarm then s
    else
      let s := if (s.port port).cnv.fgRun then s.foreground port units else s
      let s := (s.knownAnswerTests port failed).updateCeiling port
      let m := (s.port port).mode
      if !m.rxWarm then s
      else if m.framer = .none then (s.modMode port (fun m => { m with rxWarm := false, rxDone := true })).modeStatus port
      else (s.warmEnter port (s.tick + 1)).modeStatus port)

/-! ### Die-to-die links (R28 to R30, R39) -/

/-- The ports of a line die. -/
def diePorts (die : Nat) : List Port := (List.finRange 8).filter (fun p => p.val / 4 = die)

/-- GLB_STATUS and RST_STATUS hold the lost dies, and source 0x1004 follows. -/
def State.setDieLost (s : State) (die : Nat) (b : Bool) : State :=
  let m := withBit (s.fld R.GLB_STATUS.die_lost) die b
  ((s.setFld R.GLB_STATUS.die_lost m).setFld R.RST_STATUS.die_lost m).level 0x1004 (m ≠ 0) m

/-- A line die is lost: its four port regions are fenced with a cause (0x0A, or 0x0C for its control channel), its converter stops
(R29, R30, R459). -/
def State.loseDie (s : State) (die cause : Nat) : State :=
  let s := (s.setDieLost die true).hkaDieLost die
  (diePorts die).foldl (fun s p => s.fencePort p [cause]) s

/-- LINE_DIE_LOST (R29). -/
def execLineDieLost (die : Nat) (s : State) : Host.Outcome State Fault Refusal := .next (s.loseDie (die % 2) 0x0A)

/-- The key of a die-to-die lane, 0 to 64, lane 64 the spare. -/
def laneKey (link direction lane : Nat) : Nat := link * 256 + direction * 128 + lane

/-- The data lanes of a direction that are down and not served by its spare. -/
def shortLanes (s : State) (link direction : Nat) : List Nat :=
  let x := 2 * link + direction
  (List.range 64).filter (fun i => s.rst.laneDown.contains (laneKey link direction i)
    && !(s.flag (R.GLB_D2D_LANE_MAP.spare_used x) && !s.rst.laneDown.contains (laneKey link direction 64)
      && s.fld (R.GLB_D2D_LANE_MAP.replaced x) == i))

/-- D2D_LANE_FAIL (R10, R11, R28): the spare lane takes its place where there is one, and the direction retrains; an unused spare that fails
needs no retrain. -/
def execD2dLaneFail (link direction lane : Nat) (s : State) : Host.Outcome State Fault Refusal :=
  .next (
    let l := link % 2
    let d := direction % 2
    let x := 2 * l + d
    let key := laneKey l d lane
    if 64 < lane || s.rst.laneDown.contains key then s
    else
      let s := { s with rst := { s.rst with laneDown := s.rst.laneDown ++ [key] } }
      let used := s.flag (R.GLB_D2D_LANE_MAP.spare_used x)
      let retrain := fun (s : State) => { s with rst := { s.rst with retrain := s.rst.retrain.filter (· ≠ x) ++ [x] } }
      if lane = 64 then (if used then retrain s else s)
      else if !used && !s.rst.laneDown.contains (laneKey l d 64) then
        let s := (s.setFlag (R.GLB_D2D_LANE_MAP.spare_used x) true).setFld (R.GLB_D2D_LANE_MAP.replaced x) lane
        let s := { s with rst := { s.rst with laneSubsts := s.rst.laneSubsts + 1 } }
        retrain ((s.appendDelta 4 x lane).pulse 0x1002 (l + 2 * d))
      else retrain s)

/-- D2D_RETRAIN_DONE (R28): the direction has retrained; at half width the two highest-numbered ports of the die are fenced. -/
def execD2dRetrainDone (link direction : Nat) (s : State) : Host.Outcome State Fault Refusal :=
  .next (
    let l := link % 2
    let d := direction % 2
    let x := 2 * l + d
    if !s.rst.retrain.contains x then s
    else
      let s := { s with rst := { s.rst with retrain := s.rst.retrain.filter (· ≠ x) } }
      let s := s.addFldSat (R.GLB_D2D_LANE_MAP.retrains x) 1
      if shortLanes s l d = [] then s
      else
        let s := s.setFlag (R.GLB_D2D_LANE_MAP.half_width x) true
        let s := (s.setFld R.GLB_STATUS.d2d_half (withBit (s.fld R.GLB_STATUS.d2d_half) l true)).pulse 0x1002 (l + 2 * d + 4)
        (((diePorts l).drop 2).foldl (fun s p => s.fencePort p [0x09]) s))

end Sys2Proof.Machine
end

