-- ==== Sys2Proof/Machine/Pair.lean ====
section
/-!
DEFINITION. The protection pair and the chain (chapter 16): roles, the mirror stream, handover and takeover, and the time-of-day messages.
-/
namespace Sys2Proof.Machine

/-! ### Roles (R407) -/

/-- The code of a role (Table 16-1). -/
def roleCode : Role → Nat
  | .unprot => 0
  | .active => 1
  | .sync => 2
  | .standby => 3
  | .blind => 4

/-- The role holds TX_DISABLE_N low (Table 7-1, cause 1). -/
def roleDisables : Role → Bool
  | .sync | .standby | .blind => true
  | .unprot | .active => false

/-- A handover that has been asked for or captured is discarded: counted, and PAIR_SWITCH refused (R418). -/
def State.dropHandover (s : State) (p : Port) : State :=
  let q := (s.port p).prot
  let iss := match q.handover with
    | some (_, _, i) => i
    | none => q.switchReq
  let s := s.modProt p (fun q => { q with handover := none, switchReq := none })
  let s := if q.handover.isSome || q.switchReq.isSome then s.bump (pairCtr p 7) else s
  match iss with
  | some i => s.refuse i 0x27
  | none => s

/-- What a role leaves behind and what it begins with: a port that leaves ACTIVE completes its queued sends with 0x26 and computes no more
maps (R409); a new ACTIVE one notes its frame counter, and the frame that begins is its own (R435); SYNC waits for a copy and BLIND counts from the
next tick (R420), and both take no more of the upstream (R407; that what is in the receive path then is dropped is DEDUCED, log entry 95). -/
def State.roleEnds (s : State) (p : Port) (old new : Role) : State :=
  let s := if old = .active then
      ((s.flushSends p 0x26 (fun _ => true)).modTcf p (fun t => { t with coreQ := [] })).modDba p (fun d => { d with draft := none })
    else s
  let s := if new = .sync || new = .blind then s.deafen p else if new = .active then s.modDba p (fun d => { d with unmapped := false }) else s
  s.modProt p (fun q => { q with
    activeSince := if new = .active then s.fc else q.activeSince,
    sent := if new = .active then q.applied else q.sent, acked := if new = .active then q.applied else q.acked,
    copying := true, bulkSent := false, bulkOpen := false, pendDelta := none, deltaBad := false, deltaSeen := false,
    blindFrom := s.tick + 1, losReq := false, fenceReq := false })

/-- The role of a port changes, with the cause its event carries (0 resolution, 1 LOS, 2 fence, 3 command, 4 takeover, 5 resync). -/
def State.setRole (s : State) (p : Port) (r : Role) (cause : Nat) : State :=
  let old := (s.port p).prot.role
  if r = old then s
  else
    let s := (s.roleEnds p old r).modProt p (fun q => { q with role := r })
    let s := (s.setFld (R.PRT_PROT_STATUS.role p) (roleCode r)).setFld (R.PRT_PROT_STATUS.dark_run p) 0
    ((s.setDisCause p 1 (roleDisables r)).pulse (0x10C0 + p.val) (roleCode r + 2 ^ 8 * cause)).protStatus p

/-- A warm region reset of a standby fenced with cause 0x04 alone begins: the port enters SYNC (R413). -/
def State.warmResync (s : State) (p : Port) : State :=
  if (s.port p).prot.role = .standby && s.fld (R.PRT_FENCE_STATUS.cause_mask p) = 2 ^ 4 && s.flag R.AQL_PAIR_CTL.auto_resync then
    (s.setRole p .sync 5).bump (pairCtr p 3)
  else s

/-! ### The pair (R408, R414) -/

/-- The check value of the pair key: the first 4 bytes of the encryption of a zero block; 0 with no key. -/
def keyCheck (s : State) : Nat :=
  match s.pair.key with
  | some k => (Config.aesBlock k 0).toNat / 2 ^ 96
  | none => 0

/-- key_match, and rank_clash with its source, follow the partner's last heartbeat. -/
def State.pairStatus (s : State) : State :=
  match s.pair.partner with
  | none => ((s.setFlag R.AQL_PAIR_STATUS.key_match false).setFlag R.AQL_PAIR_STATUS.rank_clash false).level 0x10CA false 0
  | some h =>
    let clash := s.paired && s.cap R.AQL_PAIR_CTL.pair_rank == h.rank
    let s := s.setFlag R.AQL_PAIR_STATUS.key_match (s.pair.key.isSome && keyCheck s == h.keyCheck)
    (s.setFlag R.AQL_PAIR_STATUS.rank_clash clash).level 0x10CA clash 0

/-- The pair is lost: SYNC and STANDBY ports enter BLIND, and a handover in waiting is discarded (R34, R407). The event of the change carries
cause 0. -/
def State.pairLost (s : State) : State :=
  if !s.paired then s
  else
    let s := { s with pair := { s.pair with hbRun := 0 } }
    let s := ((s.setFlag R.AQL_PAIR_STATUS.paired false).level 0x10C8 true 0).pairStatus
    s.forPorts (fun s p =>
      let s := s.dropHandover p
      match (s.port p).prot.role with
      | .sync | .standby => (s.setRole p .blind 0).protStatus p
      | _ => s.protStatus p)

/-- PAIR_LOST (R34): Aqand port A went down, or heartbeats failed. -/
def execPairLost (s : State) : Host.Outcome State Fault Refusal := .next s.pairLost

/-- The pair forms once port A is UP and the last 3 ticks have had a heartbeat; every port is resolved at the next tick. -/
def State.pairForms (s : State) : State :=
  if s.paired || s.pair.hbRun < 3 || s.fld (R.AQL_PORT_STATUS.state 0) ≠ 2 then s
  else
    ((s.setFlag R.AQL_PAIR_STATUS.paired true).level 0x10C8 false 0).forPorts (fun s p =>
      s.modProt p (fun q => { q with resolveDue := true }))

/-- HEARTBEAT_RX (R414): a heartbeat of the partner; one whose message fails its CRC is discarded and counted. -/
def execHeartbeatRx (hb : Heartbeat) (good : Bool) (s : State) : Host.Outcome State Fault Refusal :=
  .next (
    if !good then s.bump 0x2780
    else
      let old := s.pair.partner
      let run := if s.pair.hbTick = s.tick + 1 then s.pair.hbRun else if s.pair.hbTick = s.tick then min 3 (s.pair.hbRun + 1) else 1
      let s := { s with pair := { s.pair with partner := some hb, hbRun := run, hbTick := s.tick + 1 } }
      let s := (s.setFld R.AQL_PAIR_STATUS.hb_missed 0).pairForms.pairStatus
      s.forPorts (fun s p =>
        let was := match old with
          | some h => h.ports[p].protEn
          | none => false
        (s.modProt p (fun q => { q with
          resolveDue := q.resolveDue || (hb.ports[p].protEn && !was),
          bulkSent := q.bulkSent && hb.ports[p].role == .sync })).protStatus p))

/-- HEARTBEAT_MISSED (R414): the window has passed without one; the third miss loses the pair. -/
def execHeartbeatMissed (s : State) : Host.Outcome State Fault Refusal :=
  .next (
    let s := ({ s with pair := { s.pair with hbRun := 0 } } : State).bump 0x2782
    let s := s.setFld R.AQL_PAIR_STATUS.hb_missed (min 3 (s.fld R.AQL_PAIR_STATUS.hb_missed + 1))
    if s.fld R.AQL_PAIR_STATUS.hb_missed = 3 then s.pairLost else s)

/-- The heartbeat of a tick (R414). -/
def heartbeatOf (s : State) : Heartbeat :=
  { ports := Vector.ofFn (fun p =>
      { role := (s.port p).prot.role, protEn := s.cap (R.PRT_PROT_CTL.prot_en p) == 1, pref := s.cap (R.PRT_PROT_CTL.pref p) == 1,
        los := s.flag (R.SLU_STATUS.los p), fenced := s.fenced p, mode := s.mode p, activeSince := (s.port p).prot.activeSince }),
    rank := s.cap R.AQL_PAIR_CTL.pair_rank, keyCheck := keyCheck s, serial := Config.fusedSerial }

/-! ### The mirror (Table 16-2) -/

/-- The mirrored fields of a context. -/
def mirrorCtx (c : Nat) (x : OnuCtx) : MirrorCtx :=
  { slot := c, st := x.st, onuId := x.onuId, unans := x.unans, rngTried := x.rngTried, ncRun := x.ncRun, requestId := x.requestId,
    eqd := x.eqd, serial := x.serial, rtd := x.rtd, missRun := x.missRun, lastD := x.lastD, stateFc := x.stateFc,
    absentLeft := x.absentLeft, caps := x.caps, recs := x.recs }

/-- The whole mirrored state of a port; keys, transmit slots and pending switches go wrapped, and none goes without a pair key (Table 16-2, R412). -/
def mirrorNow (s : State) (p : Port) : Mirror :=
  let t := (s.port p).tcf
  { ctxs := ((s.port p).onu.ctx.filter (fun e => e.2.st ≠ .free)).map (fun e => mirrorCtx e.1 e.2),
    keys := match s.pair.key with
      | some k => t.keys.map (fun e => (e.1, some (Config.keyWrap k e.2)))
      | none => [],
    txSlots := match s.pair.key with
      | some k => t.txSlot.map (fun e => (e.1, some (Config.keyWrap k e.2)))
      | none => [],
    switches := match s.pair.key with
      | some k => t.switches.map (fun x => (x.onu, Config.keyWrap k (x.slot * 2 ^ 51 + x.fc % 2 ^ 51)))
      | none => [],
    seqs := t.seqs }

/-- The entries of a table that differ from what they were, and those that are gone at their unlisted value. -/
def tabDiff {α : Type} [DecidableEq α] (gone : α) (old new : List (Nat × α)) : List (Nat × α) :=
  new.filter (fun e => !old.contains e) ++ (old.filter (fun e => !new.any (fun x => x.1 == e.1))).map (fun e => (e.1, gone))

/-- The mirrored fields that have changed (R411). The pending switches go as one field, whole. -/
def mirrorDiff (old new : Mirror) : Mirror :=
  { ctxs := new.ctxs.filter (fun e => !old.ctxs.contains e)
      ++ (old.ctxs.filter (fun e => !new.ctxs.any (fun x => x.slot == e.slot))).map (fun e => mirrorCtx e.slot .free),
    keys := tabDiff none old.keys new.keys, txSlots := tabDiff none old.txSlots new.txSlots, switches := new.switches,
    seqs := tabDiff 0 old.seqs new.seqs }

/-- The standby's delay offset of a slot starts at up_delta, or goes with its context (R416). -/
def State.startOffset (s : State) (p : Port) (c : Nat) (held : Bool) : State :=
  let s := s.modProt p (fun q => { q with offN := Tab.set (fun _ => 0) q.offN c 0, offSum := Tab.set (fun _ => 0) q.offSum c 0 })
  (s.setFlag (R.PRT_PROT_OFF.valid p c) held).setFld (R.PRT_PROT_OFF.offset p c)
    (if held then s.cap (R.PRT_PROT_UP.up_delta p) else 0)

/-- A mirrored context takes the place of a slot's, whose own presets stay while the slot keeps its ONU; another ONU's start under a new gen
(R136). The running copy of an ONU that is dormant, or no longer there, is dropped (R140). -/
def State.applyCtx (s : State) (p : Port) (copy : Bool) (m : MirrorCtx) : State :=
  let x := s.ctx p m.slot
  let same := x.st ≠ .free && x.onuId == m.onuId && x.serial == m.serial
  let s := if x.st ≠ .free && x.onuId ≠ m.onuId then s.setIdMap p x.onuId none else s
  let s := s.memWriteWords 0 (ctxWord p m.slot) 8
  let s := s.memWriteWords 0 (ctxWord p m.slot + 16) 16
  let free := m.st = .free
  let gen := { Preset.blank with gen := if same || free then x.work.gen else (x.work.gen + 1) % 256 }
  let s := if x.st ≠ .free && (!same || m.st = .dormant) then s.dropRunning p x.onuId else s
  let base : OnuCtx := if same then x else { OnuCtx.free with work := gen, anchor := gen, rngFrom := never, driftFrom := never }
  let y : OnuCtx := { base with
    st := m.st, onuId := m.onuId, unans := m.unans, rngTried := m.rngTried, ncRun := m.ncRun, requestId := m.requestId,
    eqd := m.eqd, serial := m.serial, rtd := m.rtd, missRun := m.missRun, lastD := m.lastD, stateFc := m.stateFc,
    absentLeft := m.absentLeft, caps := m.caps, recs := m.recs }
  let s := s.setCtx p m.slot (if free then { OnuCtx.free with work := gen } else y)
  let s := if free then (if x.st ≠ .free then s.setIdMap p x.onuId none else s) else s.setIdMap p m.onuId (some m.slot)
  if free then s.startOffset p m.slot false else if copy || !same then s.startOffset p m.slot true else s

/-- A mirrored field that travels wrapped under pair key `k` enters a table, or leaves it (R412). -/
def unwrapInto (k : Nat) (put : Tab Nat → Nat → Nat → Tab Nat) (t : Tab Nat) (e : Nat × Option (List Byte)) : Tab Nat :=
  match e.2 with
  | some w => (match Config.keyUnwrap k w with
    | some x => put t e.1 x
    | none => t)
  | none => Tab.del t e.1

/-- Mirrored fields are applied. What travels wrapped is discarded without a matching pair key (R412). -/
def State.applyMirror (s : State) (p : Port) (copy : Bool) (m : Mirror) : State :=
  let s := m.ctxs.foldl (fun s x => s.applyCtx p copy x) s
  let s := match s.pair.key, s.flag R.AQL_PAIR_STATUS.key_match with
    | some k, true => s.modTcf p (fun t => { t with
        keys := m.keys.foldl (unwrapInto k Tab.put) t.keys,
        txSlot := m.txSlots.foldl (unwrapInto k (Tab.set (fun _ => 0))) t.txSlot,
        switches := m.switches.filterMap (fun (x : Nat × List Byte) => (Config.keyUnwrap k x.2).map (fun v =>
          { iss := none, onu := x.1, slot := v / 2 ^ 51, fc := v % 2 ^ 51 })) })
    | _, _ => s
  let s := s.modTcf p (fun t => { t with
    seqs := m.seqs.foldl (fun a (e : Nat × Nat) => Tab.set (fun _ => 0) a e.1 e.2) t.seqs })
  (s.onuStatus p).guarStatus p

/-! ### Deltas and copies (R411, R413) -/

/-- Sequence numbers count modulo 2^32. -/
def seqNext (n : Nat) : Nat := (n + 1) % 2 ^ 32
def seqAhead (a b : Nat) : Nat := (a + 2 ^ 32 - b) % 2 ^ 32

/-- DELTA_RX (R411): a delta `us` µs after its tick. The next in order waits for the tick and is acknowledged; any other fails the standby's
ledger. -/
def execDeltaRx (port : Port) (seq : Nat) (mirror : Mirror) (us : Nat) (good : Bool) (s : State) :
    Host.Outcome State Fault Refusal :=
  .next (
    let q := (s.port port).prot
    if !good then s.bump 0x2780
    else
      match q.role with
      | .standby =>
        if seq = seqNext q.applied && us ≤ 60 && q.pendDelta.isNone then
          (s.modProt port (fun q => { q with pendDelta := some (seq, mirror), deltaSeen := true })).aqSend 0 (.ack port seq)
        else ((s.bump (pairCtr port 2)).modProt port (fun q => { q with deltaBad := true, deltaSeen := true })).protStatus port
      | .sync => s.bump (pairCtr port 2)
      | _ => s)

/-- DELTA_TIMEOUT (R411): a heartbeat has arrived, and its delta has not within 60 µs of the tick. -/
def execDeltaTimeout (port : Port) (s : State) : Host.Outcome State Fault Refusal :=
  .next (
    if (s.port port).prot.role = .standby && s.pair.hbTick = s.tick + 1 && !(s.port port).prot.deltaSeen then
      (s.modProt port (fun q => { q with deltaBad := true })).protStatus port
    else s)

/-- ACK_RX (R413). -/
def execAckRx (port : Port) (seq : Nat) (good : Bool) (s : State) : Host.Outcome State Fault Refusal :=
  .next (
    let q := (s.port port).prot
    if !good then s.bump 0x2780
    else if q.role = .active && decide (seqAhead q.sent seq ≤ seqAhead q.sent q.acked) then
      s.modProt port (fun q => { q with acked := seq })
    else s)

/-- The resync order of an ACTIVE port in place of a delta. -/
def State.sendResync (s : State) (p : Port) : State :=
  ((s.modProt p (fun q => { q with copying := true, bulkSent := false })).bump (pairCtr p 3)).aqSend 0 (.resync p)

/-- RESYNC_ORDER (R413): the standby enters SYNC; an ACTIVE port with two deltas unacknowledged sends the order. -/
def execResyncOrder (port : Port) (s : State) : Host.Outcome State Fault Refusal :=
  .next (
    let q := (s.port port).prot
    match q.role with
    | .standby => ((s.setRole port .sync 5).bump (pairCtr port 3)).protStatus port
    | .active => if !q.copying && decide (2 ≤ seqAhead q.sent q.acked) then s.sendResync port else s
    | _ => s)

/-- The bulk copy of an ACTIVE port: every mirrored field, its sequence number, and its working presets with their poison. The copy goes as
one message (its pacing is left out). -/
def State.sendBulk (s : State) (p : Port) : State :=
  let m := mirrorNow s p
  let presets := ((s.port p).onu.ctx.filter (fun e => e.2.st ≠ .free)).map (fun e =>
    (e.1, e.2.work, anyPoison s 0 (presetWord p e.1 false) 3 allBytes))
  let q := (s.port p).prot
  (s.modProt p (fun q => { q with acked := q.sent, copying := false, bulkSent := true, mirrored := m })).aqSend 0
    (.bulk p q.sent true m presets)

/-- A copied preset of a slot whose own working preset is not valid (R413, R136, R318). -/
def State.bulkPreset (s : State) (p : Port) (c : Nat) (x : Preset) (poisoned : Bool) : State :=
  if (s.ctx p c).work.valid || (s.ctx p c).st = .free then s
  else
    let s := s.modCtx p c (fun y =>
      let w := { x with gen := (y.work.gen + 1) % 256 }
      { y with work := w, anchor := w })
    let s := s.memWriteWords 0 (presetWord p c false) 8
    if poisoned then
      ([0, 1, 2, 4, 5, 6].map (fun i => presetWord p c false + i)).foldl (fun s w =>
        s.setWordErr 0 w { s.wordErr 0 w with poison := allBytes }) s
    else s

/-- BULK_COPY_RX (R413): a message of the copy is applied; the first puts aside what was mirrored before, and the last moves the port to
STANDBY. -/
def execBulkCopyRx (port : Port) (seq : Nat) (last : Bool) (mirror : Mirror) (presets : List (Nat × Preset × Bool)) (good : Bool)
    (s : State) : Host.Outcome State Fault Refusal :=
  .next (
    if !good then s.bump 0x2780
    else if (s.port port).prot.role ≠ .sync then s
    else
      let s := if (s.port port).prot.bulkOpen then s
        else
          let gone := ((s.port port).onu.ctx.filter (fun e => e.2.st ≠ .free && !mirror.ctxs.any (fun m => m.slot == e.1))).map Prod.fst
          let s := gone.foldl (fun s c => s.applyCtx port true (mirrorCtx c .free)) s
          let held := s.pair.key.isSome && s.flag R.AQL_PAIR_STATUS.key_match
          (s.modTcf port (fun t => { t with
            keys := if held then [] else t.keys, txSlot := if held then [] else t.txSlot, seqs := [] })).modProt port (fun q => { q with bulkOpen := true })
      let s := s.applyMirror port true mirror
      let s := presets.foldl (fun s e => s.bulkPreset port e.1 e.2.1 e.2.2) s
      if !last then s
      else
        let s := s.modProt port (fun q => { q with applied := seq % 2 ^ 32 })
        let s := (s.setRole port .standby 5).modProt port (fun q => { q with applied := seq % 2 ^ 32 })
        s.protStatus port)

/-- MAP_MESSAGE_RX (R410, R76, R415): a STANDBY or SYNC port takes the map of a frame that has not begun. -/
def execMapMessageRx (port : Port) (fc : Nat) (map : BwMap) (good : Bool) (s : State) : Host.Outcome State Fault Refusal :=
  .next (
    let ahead := (fc + 2 ^ 51 - s.fc % 2 ^ 51) % 2 ^ 51
    let follows := (s.port port).prot.role = .standby || (s.port port).prot.role = .sync
    if !good then s.bump 0x2780
    else if !follows || ahead = 0 || 4 < ahead then s
    else s.installMap port (s.tick + ahead) map)

/-- The standby side at a tick: a delta in waiting is applied whole (R411). -/
def State.deltaTick (s : State) (p : Port) : State :=
  match (s.port p).prot.pendDelta with
  | some (n, m) =>
    ((s.applyMirror p false m).bump (pairCtr p 1)).modProt p (fun q => { q with applied := n, pendDelta := none })
  | none => s

/-- The standby's ledger of deltas fails (R411): cause 0x04 at this tick. -/
def deltaFails (s : State) (p : Port) : Bool := (s.port p).prot.deltaBad && decide ((s.port p).prot.role = .standby)

/-- After the ledgers: the deltas of the next frame start clean, and a standby fenced with cause 0x04 alone asks for the warm reset of
auto_resync (R413). -/
def State.deltaAfter (s : State) (p : Port) (failed : Bool) : State :=
  let s := s.modProt p (fun q => { q with deltaSeen := false, deltaBad := false })
  if failed && s.cap R.AQL_PAIR_CTL.auto_resync = 1 && s.fld (R.PRT_FENCE_STATUS.cause_mask p) = 2 ^ 4 then
    s.modReset p (fun r => { r with warmReq := true })
  else s

/-- The active side at a tick: a bulk copy to a partner in SYNC, the delta of the frame just ended, or the resync order in place of the third
unacknowledged one (MIRROR_DELTA_SEND, R411, R413). -/
def State.sendMirror (s : State) (p : Port) : State :=
  let q := (s.port p).prot
  match decide (q.role = .active), partnerPort s p with
  | true, some x =>
    if x.role = .sync && !q.bulkSent then s.sendBulk p
    else if q.copying then s
    else if 2 ≤ seqAhead q.sent q.acked then s.sendResync p
    else
      let m := mirrorNow s p
      let n := seqNext q.sent
      ((s.modProt p (fun q => { q with sent := n, mirrored := m })).bump (pairCtr p 0)).aqSend 0 (.delta p n (mirrorDiff q.mirrored m))
  | _, _ => s

/-! ### Handover (R418, R419) -/

/-- PAIR_SWITCH (R418): it waits for the tick that captures it. -/
def execPairSwitch (iss : Issue) (op0 : Nat) (s : State) : Host.Outcome State Fault Refusal :=
  .next (
    let p : Port := Fin.ofNat 8 (bitsOf op0 2 0)
    s.hostCmdAt iss p [(op0, 7)] (fun s => s.fwCmd iss (fun s =>
      let q := (s.port p).prot
      if !s.paired || !(q.role = .active || q.role = .standby) then s.refuse iss 0x27
      else if q.switchReq.isSome || q.handover.isSome then s.refuse iss 0x28
      else s.modProt p (fun q => { q with switchReq := some iss }))))

/-- PAIR_KEY (R412): it loads at the next tick. -/
def execPairKey (iss : Issue) (key : List Byte) (s : State) : Host.Outcome State Fault Refusal :=
  .next (s.pf0Cmd iss [] (fun s =>
    if key.length ≠ 32 then s.refuse iss 0x29
    else { s with pair := { s.pair with keyDue := s.pair.keyDue ++ [(iss, beNat key)] } }))

/-- Pair keys load at the tick. -/
def State.pairKeyTick (s : State) : State :=
  let l := s.pair.keyDue
  let s := { s with pair := { s.pair with keyDue := [] } }
  (l.foldl (fun s e => ({ s with pair := { s.pair with key := some e.2 } } : State).succeed e.1 0 0) s).pairStatus

/-- The triggers of Table 16-4 at a tick: the command, LOS that the standby does not report, a fence of the active region. A handover is
captured for two ticks on when the standby is eligible, and discarded otherwise; one that is pending keeps others out (R418). -/
def State.captureHandover (s : State) (p : Port) : State :=
  let q := (s.port p).prot
  let act := decide (q.role = .active)
  let los := act && s.flag (R.SLU_STATUS.los p) && (match partnerPort s p with
    | some x => !x.los
    | none => false)
  let fence := act && s.fenced p
  let cause : Option Nat := if q.switchReq.isSome then some 3 else if los && !q.losReq then some 1
    else if fence && !q.fenceReq && s.paired then some 2 else none
  let s := s.modProt p (fun q => { q with losReq := los, fenceReq := fence })
  match cause, q.handover with
  | some k, none =>
    if s.paired && handoverOk s p then
      s.modProt p (fun q => { q with handover := some (s.tick + 2, k, q.switchReq), switchReq := none })
    else
      let s := (s.modProt p (fun q => { q with switchReq := none })).bump (pairCtr p 7)
      match q.switchReq with
      | some i => s.refuse i 0x27
      | none => s
  | _, _ => s

/-! ### Realignment (R423) -/

/-- S_c of a context: o_c and the downstream differential. -/
def shiftOf (s : State) (p : Port) (c : Nat) : Int :=
  let o := signedOf 24 (s.fld (R.PRT_PROT_OFF.offset p c))
  o + (if s.cap (R.PRT_PROT_CTL.dn_sym p) = 1 then o else signedOf 24 (s.cap (R.PRT_PROT_DN.dn_delta p)))

/-- One ONU is realigned: its new EqD and one Ranging_Time for apply_fc `a`, or Deactivate_ONU_ID when the EqD would leave its range. -/
def State.realignOnu (s : State) (p : Port) (a : Nat) (c : Nat) : State :=
  let x := s.ctx p c
  let e : Int := (x.eqd : Int) - shiftOf s p c
  if e < 0 || 12048384 < e then s.startDormant p c (some 2)
  else
    let s := s.modCtx p c (fun y => { y with
      eqd := e.toNat, driftSum := 0, driftN := 0, driftFrom := s.tick + (a + 2 ^ 51 - s.fc % 2 ^ 51) % 2 ^ 51 })
    let s := s.modProt p (fun q => { q with shifts := Tab.set (fun _ => 0) q.shifts c (shiftOf s p c) })
    (s.dropCore p x.onuId [0x05]).coreSend p x.onuId 0x05 (beBytes 3 e.toNat ++ beBytes 6 a) false

/-- A new active port realigns its ONUs from the frame that begins at this tick, and restarts rangings in progress (R423); an ONU without a held offset
has o_c 0 (log entry 60). -/
def State.realign (s : State) (p : Port) : State :=
  let live := (s.port p).onu.ctx
  let l := (live.filter (fun e => e.2.st = .operation || e.2.st = .training || e.2.st = .absent)).map Prod.fst
  let a := (s.fc + 4 + ceilDiv l.length (max 1 (s.gov (R.TCF_CTRL.ploam_max p)))) % 2 ^ 51
  let big := l.foldl (fun (m : Int) c => if m.natAbs < (shiftOf s p c).natAbs then shiftOf s p c else m) 0
  let s := s.modProt p (fun q => { q with realignAt := some a, shifts := [], shift := big })
  let s := l.foldl (fun s c => s.realignOnu p a c) s
  let s := (live.filter (fun e => e.2.st = .ranging)).foldl (fun s e => s.startRanging p e.1 e.2.rtd e.2.eqd e.2.origin) s
  s.protStatus p

/-- A realignment ends with the tick of apply_fc. -/
def State.realignTick (s : State) (p : Port) : State :=
  match (s.port p).prot.realignAt with
  | some a => if a ≤ s.fc then (s.modProt p (fun q => { q with realignAt := none, shifts := [], shift := 0 })).protStatus p else s
  | none => s

/-! ### Resolution (R407, R408) -/

/-- The role that the rule of R408 gives a port against its partner's; none where equal ranks decide nothing. Of two ports of which neither
is ACTIVE, equal ranks let none in, whatever pref says. -/
def resolved (s : State) (p : Port) (h : Heartbeat) : Option Role :=
  let x := h.ports[p]
  let q := (s.port p).prot
  let mine := s.cap R.AQL_PAIR_CTL.pair_rank
  let byRank : Option Role := if mine < h.rank then some .active else if h.rank < mine then some .sync else none
  match decide (q.role = .active), decide (x.role = .active) with
  | true, false => some .active
  | false, true => some .sync
  | true, true =>
    if q.activeSince < x.activeSince then some .active else if x.activeSince < q.activeSince then some .sync else byRank
  | false, false =>
    if mine = h.rank then none
    else
      match s.cap (R.PRT_PROT_CTL.pref p) == 1, x.pref with
      | true, false => some .active
      | false, true => some .sync
      | _, _ => byRank

/-- PAIR_RESOLUTION of a port at a tick (R408): prot_en 0 or G50 gives UNPROT; with a partner the rule of R408; with none, a port that turns its
protection on enters ACTIVE by pref, or BLIND. A port that has not transmitted realigns its ONUs when it enters ACTIVE (R423). -/
def State.resolveTick (s : State) (p : Port) : State :=
  let q := (s.port p).prot
  if s.cap (R.PRT_PROT_CTL.prot_en p) = 0 || s.g50 p then
    let s := if q.role = .unprot then s else s.dropHandover p
    s.setRole p .unprot 0
  else if q.role ≠ .unprot && !q.resolveDue then s
  else
    match partnerPort s p, s.pair.partner with
    | some _, some h =>
      match resolved s p h with
      | some r =>
        let s := s.modProt p (fun q => { q with resolveDue := false })
        if r = .active && roleDisables q.role then (s.setRole p r 0).realign p else s.setRole p r 0
      | none => s
    | _, _ =>
      let s := s.modProt p (fun q => { q with resolveDue := false })
      if q.role ≠ .unprot then s
      else if s.cap (R.PRT_PROT_CTL.pref p) = 1 then s.setRole p .active 0
      else s.setRole p .blind 0

/-! ### A new active port (R418, R419) -/

/-- The port is ACTIVE from this tick by a handover or a takeover: it computes from this tick on and realigns its ONUs (R418, R420, R423). -/
def State.becomeActive (s : State) (p : Port) (cause : Nat) : State :=
  ((s.setRole p .active cause).realign p).computeMap p

/-- The port hands its activity over: it enters SYNC, and a fenced one's heartbeat ends (R418, R419). -/
def State.handOff (s : State) (p : Port) (cause : Nat) : State :=
  let s := s.setRole p .sync cause
  if s.fenced p then (s.setFramer p .none).modMode p (fun m => { m with holdLeft := none }) else s

/-- HANDOVER (R418, R419): the tick h of a handover captured here, or by the partner with the cause given. In a role that has no part in it the
handover is discarded. -/
def execHandover (port : Port) (cause : Nat) (s : State) : Host.Outcome State Fault Refusal :=
  .next (
    let q := (s.port port).prot
    let due := match q.handover with
      | some (h, _, _) => decide (h ≤ s.tick)
      | none => s.paired
    let k := match q.handover with
      | some (_, k, _) => k
      | none => cause % 8
    let done := fun (s : State) =>
      let s := (s.modProt port (fun q => { q with handover := none, switchReq := none })).bump (pairCtr port 4)
      let s := match q.handover with
        | some (_, _, some i) => s.succeed i 0 0
        | _ => s
      s.protStatus port
    if !due then s
    else
      match q.role with
      | .active => done (s.handOff port k)
      | .standby => done (s.becomeActive port k)
      | _ => s.dropHandover port)

/-! ### Takeover (R420, R422) -/

/-- A frame has light (R420): 16 consecutive DSP cycles (1,024 words) whose mean absolute corrected word reaches light_thresh or, with sd_gate,
SD_INn high for 16 cycles. -/
def hasLight (s : State) (x : LightTerms) : Bool :=
  decide (4 * 1024 * s.cap (R.PRT_PROT_CTL.light_thresh x.port) ≤ x.sum)
    || (s.cap (R.SLU_CTRL.sd_gate x.port) == 1 && decide (16 ≤ x.sd))

/-- The light check at a tick: the frame just ended was dark or had light. Outside a receive mode nothing is counted, and the run starts again (R420). -/
def State.lightTick (s : State) (p : Port) (light : Bool) : State :=
  let q := (s.port p).prot
  if q.role ≠ .blind then s
  else if !s.receiving p then s.setFld (R.PRT_PROT_STATUS.dark_run p) 0
  else if s.tick < q.blindFrom + 1 then s
  else if light then ((s.setFld (R.PRT_PROT_STATUS.dark_run p) 0).bump (pairCtr p 6)).pulse 0x10C9 p.val
  else s.setFld (R.PRT_PROT_STATUS.dark_run p) (min 3 (s.fld (R.PRT_PROT_STATUS.dark_run p) + 1))

/-- TAKEOVER (R420, R422): dark_frames dark frames have been counted. -/
def execTakeover (port : Port) (s : State) : Host.Outcome State Fault Refusal :=
  .next (
    if (s.port port).prot.role ≠ .blind || !s.receiving port
        || s.fld (R.PRT_PROT_STATUS.dark_run port) < s.cap (R.PRT_PROT_CTL.dark_frames port) then s
    else
      let s := s.modTcf port (fun t => { t with
        seqs := (List.range 1023).foldl (fun a i => Tab.set (fun _ => 0) a i ((Tab.get (fun _ => 0) a i + 1) % 256)) t.seqs })
      (s.bump (pairCtr port 5)).becomeActive port 4)

/-! ### Time of day on the chain (R425, R532) -/

/-- The device is the time-of-day source of its chain, as captured at the last tick (R425, R426). -/
def todSource (s : State) : Bool := s.cap R.AQL_PAIR_CTL.tod_src == 1

/-- The device takes its timing from 1PPS. -/
def usesPps (s : State) : Bool :=
  s.flag R.TOD_CTRL.pps_en && (todSource s
    || (s.fld (R.AQL_PORT_STATUS.state 0) ≠ 2 && s.fld (R.AQL_PORT_STATUS.state 1) ≠ 2))

/-- The device takes its timing from the chain, or is in want of it. -/
def usesChain (s : State) : Bool := !todSource s && !usesPps s

/-- TOD_MESSAGE_RX (R425): the message with the fewest hops of a frame, from port A on a tie, is followed and forwarded. -/
def execTodMessageRx (side : Nat) (msg : TodMsg) (good : Bool) (s : State) : Host.Outcome State Fault Refusal :=
  .next (
    let side := side % 2
    if !good then s.bump 0x2780
    else if todSource s then s
    else
      let better := match s.pair.todBest with
        | none => true
        | some (d, m) => decide (msg.hops < m.hops) || (decide (msg.hops = m.hops) && decide (side < d))
      if !better then s
      else
        let s := { s with pair := { s.pair with todBest := some (side, msg) } }
        if msg.hops ≤ 14 then s.aqSend (1 - side) (.tod { msg with hops := msg.hops + 1 }) else s)

/-- TOD_HOLDOVER (R425): 8 frames have passed without a message. -/
def execTodHoldover (s : State) : Host.Outcome State Fault Refusal :=
  .next (
    if !usesChain s || s.pair.todMiss < 8 || s.flag R.AQL_PAIR_STATUS.holdover then s
    else (((s.setFlag R.AQL_PAIR_STATUS.holdover true).level 0x10CB true 0).bump 0x2783).setFld R.AQL_PAIR_STATUS.tod_hops 15)

/-- What the chain gives a tick: the frame counter and the time of day of the tick before, when a message was followed in the frame just
ended. Holdover ends with it. -/
def State.chainTick (s : State) : State × Option TodMsg :=
  let chain := usesChain s
  let s := s.setFlag R.TOD_STATUS.follower (chain && (s.fld (R.AQL_PORT_STATUS.state 0) == 2 || s.fld (R.AQL_PORT_STATUS.state 1) == 2))
  match chain, s.pair.todBest with
  | true, some (_, m) =>
    let s := { s with pair := { s.pair with todBest := none, todMiss := 0 } }
    (((s.setFlag R.AQL_PAIR_STATUS.holdover false).level 0x10CB false 0).setFld R.AQL_PAIR_STATUS.tod_hops (min 15 m.hops), some m)
  | true, none => ({ s with pair := { s.pair with todMiss := s.pair.todMiss + 1 } }, none)
  | false, _ =>
    let s := { s with pair := { s.pair with todBest := none, todMiss := 0 } }
    (((s.setFlag R.AQL_PAIR_STATUS.holdover false).level 0x10CB false 0).setFld R.AQL_PAIR_STATUS.tod_hops
      (if todSource s then 0 else 15), none)

/-- The source of the chain sends its time of day on both ports at each tick. -/
def State.sendTod (s : State) : State :=
  if !todSource s then s
  else
    let m : TodMsg := { sec := s.fld R.TOD_TICK_SEC_1.sec_hi * 2 ^ 32 + s.fld R.TOD_TICK_SEC_0.sec_lo, ns := s.fld R.TOD_TICK_NS.ns,
                        fc := s.fc, hops := 1 }
    (s.aqSend 0 (.tod m)).aqSend 1 (.tod m)

/-! ### At the tick -/

/-- What ends with a frame on the pair's side before the ledgers are checked: keys and deltas in waiting. -/
def State.pairApply (s : State) : State := s.pairKeyTick.forPorts State.deltaTick

/-- The pair at the tick, after the ledgers: the light check of the frame just ended (`light` tells whether it had light), resolution,
handover requests, the end of a realignment. -/
def State.pairTick (s : State) (light : Port → Bool) : State :=
  s.forPorts (fun s p => ((((s.lightTick p (light p)).resolveTick p).captureHandover p).realignTick p).protStatus p)

/-- What the device sends its partner after a tick: the heartbeat, and each ACTIVE port's delta. -/
def State.pairSend (s : State) : State :=
  ((s.aqSend 0 (.heartbeat (heartbeatOf s))).forPorts (fun s p => (s.sendMirror p).protStatus p)).sendTod

end Sys2Proof.Machine
end

