-- ==== Sys2Proof/Machine/Lanes.lean ====
section
/-!
DEFINITION. The uplink and Aqand lanes and the ports built from them (chapter 15). Lanes 0 to 15 are the uplink's and 16 to 23 the Aqand's;
ports 0 to 15 are the uplink's by first lane, 16 is Aqand A and 17 Aqand B.
-/
namespace Sys2Proof.Machine

/-! ### Lanes and ports by number (R384, R386) -/

/-- A lane's register field, of the uplink's table or the Aqand's. -/
def laneField (u a : Nat → RegField) (l : Nat) : RegField := if l < 16 then u l else a (l - 16)

def laneTxReq (l : Nat) : RegField := laneField R.ULK_LANE_CTL.tx_quiet_req R.AQL_LANE_CTL.tx_quiet_req l
def laneRxReq (l : Nat) : RegField := laneField R.ULK_LANE_CTL.rx_quiet_req R.AQL_LANE_CTL.rx_quiet_req l
def laneLoop (l : Nat) : RegField := laneField R.ULK_LANE_CTL.loopback R.AQL_LANE_CTL.loopback l
def laneGen (l : Nat) : RegField := laneField R.ULK_LANE_PRBS.gen_en R.AQL_LANE_PRBS.gen_en l
def laneChk (l : Nat) : RegField := laneField R.ULK_LANE_PRBS.chk_en R.AQL_LANE_PRBS.chk_en l
def laneGenPoly (l : Nat) : RegField := laneField R.ULK_LANE_PRBS.gen_poly R.AQL_LANE_PRBS.gen_poly l
def laneChkPoly (l : Nat) : RegField := laneField R.ULK_LANE_PRBS.chk_poly R.AQL_LANE_PRBS.chk_poly l
def laneTxInv (l : Nat) : RegField := laneField R.ULK_LANE_CTL.tx_invert R.AQL_LANE_CTL.tx_invert l
def laneRxInv (l : Nat) : RegField := laneField R.ULK_LANE_CTL.rx_invert R.AQL_LANE_CTL.rx_invert l
def laneBurst (l : Nat) : RegField := laneField R.ULK_LANE_INJ.burst_len R.AQL_LANE_INJ.burst_len l
/-- The address of a lane's injection register. -/
def laneInjAddr (l : Nat) : Nat := (laneBurst (l % 24)).addr
def laneCdr (l : Nat) : RegField := laneField R.ULK_LANE_STATUS.cdr_lock R.AQL_LANE_STATUS.cdr_lock l
def laneBlock (l : Nat) : RegField := laneField R.ULK_LANE_STATUS.block_lock R.AQL_LANE_STATUS.block_lock l
def laneFrozen (l : Nat) : RegField := laneField R.ULK_LANE_STATUS.adapt_frozen R.AQL_LANE_STATUS.adapt_frozen l
def laneTxQuiet (l : Nat) : RegField := laneField R.ULK_LANE_STATUS.tx_quiet R.AQL_LANE_STATUS.tx_quiet l
def laneRxQuiet (l : Nat) : RegField := laneField R.ULK_LANE_STATUS.rx_quiet R.AQL_LANE_STATUS.rx_quiet l
def lanePrbsLock (l : Nat) : RegField := laneField R.ULK_LANE_STATUS.prbs_lock R.AQL_LANE_STATUS.prbs_lock l
def lanePowered (l : Nat) : RegField := laneField R.ULK_LANE_STATUS.powered R.AQL_LANE_STATUS.powered l
def laneLogical (l : Nat) : RegField := laneField R.ULK_LANE_STATUS.logical R.AQL_LANE_STATUS.logical l
def lanePrbsErr (l : Nat) : RegField := laneField R.ULK_LANE_PRBS_ERR.errors R.AQL_LANE_PRBS_ERR.errors l

/-- A lane's counter, and a port's (Table 15-8). -/
def laneCtr (l i : Nat) : Nat := 0x2400 + 8 * l + i
def lanePortCtr (P i : Nat) : Nat := if P < 16 then 0x2500 + 16 * P + i else 0x2600 + 8 * (P - 16) + i

/-- A port's enable bit, state, lock bits and retry count. -/
def portEnField (P : Nat) : RegField := if P < 16 then R.ULK_PORT.en P else R.AQL_PORT.en (P - 16)
def portStateField (P : Nat) : RegField := if P < 16 then R.ULK_PORT_STATUS.state P else R.AQL_PORT_STATUS.state (P - 16)
def portLockedField (P : Nat) : RegField := if P < 16 then R.ULK_PORT_STATUS.locked P else R.AQL_PORT_STATUS.locked (P - 16)
def portRetriesField (P : Nat) : RegField := if P < 16 then R.ULK_PORT_STATUS.retries P else R.AQL_PORT_STATUS.retries (P - 16)

/-- The lanes a port occupies. -/
def portLanes (s : State) (P : Nat) : List Nat :=
  if P < 16 then (List.range (2 ^ s.fld (R.ULK_PORT.width P))).map (· + P) else (List.range 4).map (· + (16 + 4 * (P - 16)))

/-- A port's state (Table 15-4). -/
def portSt (s : State) (P : Nat) : Nat := s.fld (portStateField P)

/-- The enabled port that a lane belongs to. -/
def laneOwner (s : State) (l : Nat) : Option Nat :=
  (List.range 18).find? (fun P => s.flag (portEnField P) && (portLanes s P).contains l)

/-- The lane runs a test (R404). -/
def laneTests (s : State) (l : Nat) : Bool := s.flag (laneGen l) || s.flag (laneChk l) || s.fld (laneLoop l) ≠ 0

/-- The lane is in a quiet state. -/
def laneQuiet (s : State) (l : Nat) : Bool := s.flag (laneTxQuiet l) || s.flag (laneRxQuiet l)

/-- The uplink lanes that the captured profile powers (R384). -/
def poweredLanes (s : State) : Nat := 2 ^ (4 - s.cap R.GLB_PROFILE.uplink_lanes)

/-! ### Port states (R392 to R394) -/

/-- The level source of a port: enabled and not UP, for an Aqand port not UP or QUIET (Table 15-7). -/
def State.portLevel (s : State) (P : Nat) : State :=
  let st := portSt s P
  let on := s.flag (portEnField P)
  if P < 16 then s.level (0x1080 + P) (on && st ≠ 2) st else s.level (0x1090 + (P - 16)) (on && st ≠ 2 && st ≠ 4) st

/-- Adaptation freezes while a lane is RX-quiet, in near-end loopback or in DOWN (R396). -/
def State.laneFreeze (s : State) (l : Nat) : State :=
  let down := match laneOwner s l with
    | some P => portSt s P == 3
    | none => false
  s.setFlag (laneFrozen l) (s.flag (laneRxQuiet l) || s.fld (laneLoop l) == 1 || down)

/-- A port enters a state. An Aqand port that leaves UP and QUIET sets rx_ready no more (R391) and counts a link-down, and port A's loses the pair
(R34, R394). -/
def State.setPortSt (s : State) (P st : Nat) : State :=
  let old := portSt s P
  let s := if st = 2 || st = 4 then s
    else { s with lanes := { s.lanes with rxReady := s.lanes.rxReady.filter (fun q => 16 + q ≠ P) } }
  let s := (s.setFld (portStateField P) st).portLevel P
  let s := (portLanes s P).foldl State.laneFreeze s
  if 16 ≤ P && (old = 2 || old = 4) && st ≠ 2 && st ≠ 4 then
    let s := s.bump (lanePortCtr P 0)
    if P = 16 then s.pairLost else s
  else s

/-- Every quiet state of a port's lanes ends; requests stay as they are. -/
def State.endQuiet (s : State) (P : Nat) : State :=
  let ls := portLanes s P
  let s := ls.foldl (fun s l => (s.setFlag (laneTxQuiet l) false).setFlag (laneRxQuiet l) false) s
  let s := { s with lanes := { s.lanes with
    follow := s.lanes.follow.filter (fun l => !ls.contains l), waking := s.lanes.waking.filter (fun l => !ls.contains l) } }
  if P < 16 then s else s.setFlag (R.AQL_PORT_STATUS.partner_quiet (P - 16)) false

/-- A port enters TRAINING: one attempt on every lane (R393). -/
def State.trainPort (s : State) (P : Nat) : State :=
  let s := (s.endQuiet P).setPortSt P 1
  (portLanes s P).foldl (fun s l => s.bump (laneCtr l 0)) s

/-- A port goes OFF: its lanes send nothing and hold no lock. -/
def State.stopPort (s : State) (P : Nat) : State :=
  let s := (s.endQuiet P).setPortSt P 0
  let s := (portLanes s P).foldl (fun s l => (s.setFlag (laneCdr l) false).setFlag (laneBlock l) false) s
  let s := s.setFld (portLockedField P) 0
  if P < 16 then s else s.setFlag (R.AQL_PORT_STATUS.partner_ready (P - 16)) false

/-- A test on any lane of an enabled port holds it in TEST, and the end of the last one starts training (R404). -/
def State.portTests (s : State) (P : Nat) : State :=
  let t := (portLanes s P).any (laneTests s)
  let st := portSt s P
  if st = 0 then s
  else if t && st ≠ 5 then (s.endQuiet P).setPortSt P 5
  else if !t && st = 5 then s.trainPort P
  else s

/-- A port that has been enabled starts. -/
def State.startPort (s : State) (P : Nat) : State :=
  let s := (s.setFld (portRetriesField P) 0).trainPort P
  s.portTests P

/-- The lock bits of a port's lanes, by lane, and for an Aqand port its logical lanes in lane order. -/
def State.setLocks (s : State) (P mask : Nat) (order : List Nat) : State :=
  let ls := portLanes s P
  let s := (ls.zipIdx).foldl (fun s e =>
    let on := bitAt mask e.2
    let s := (s.setFlag (laneCdr e.1) on).setFlag (laneBlock e.1) on
    if P < 16 then s else s.setFld (laneLogical e.1) (order.getD e.2 e.2 % 4)) s
  let m := if P < 16 then mask % 2 ^ ls.length
    else ((ls.zipIdx).map (fun e => if bitAt mask e.2 then 2 ^ s.fld (laneLogical e.1) else 0)).foldl (fun a b => a ||| b) 0
  s.setFld (portLockedField P) m

/-! ### Quiet states (R397 to R400) -/

/-- The requests of an UP port's lanes take effect: the lanes go quiet and the port enters QUIET; an Aqand port announces TX-quiet. -/
def State.enterQuiet (s : State) (P : Nat) : State :=
  let ls := portLanes s P
  if portSt s P ≠ 2 || !ls.any (fun l => s.flag (laneTxReq l) || s.flag (laneRxReq l)) then s
  else
    let s := if 16 ≤ P && ls.any (fun l => s.flag (laneTxReq l)) then s.bump (lanePortCtr P 3) else s
    let s := ls.foldl (fun s l =>
      let s := if s.flag (laneTxReq l) then (s.setFlag (laneTxQuiet l) true).bump (laneCtr l 5) else s
      if s.flag (laneRxReq l) then (s.setFlag (laneRxQuiet l) true).bump (laneCtr l 6) else s) s
    s.setPortSt P 4

/-- Quiet states whose request has gone end; with the last of them an Aqand port returns to UP, where held requests
apply (R400), and an uplink port trains (R398). -/
def State.leaveQuiet (s : State) (P : Nat) : State :=
  if portSt s P ≠ 4 then s
  else
    let ls := portLanes s P
    let s := ls.foldl (fun s l =>
      let s := if s.flag (laneTxReq l) then s else s.setFlag (laneTxQuiet l) false
      let s := if s.flag (laneRxReq l) || s.lanes.follow.contains l then s else s.setFlag (laneRxQuiet l) false
      s.laneFreeze l) s
    if ls.any (laneQuiet s) || ls.any (fun l => s.lanes.waking.contains l) then s
    else if P < 16 then s.trainPort P
    else ((s.setFlag (R.AQL_PORT_STATUS.partner_quiet (P - 16)) false).setPortSt P 2).enterQuiet P

/-- QUIET_ANNOUNCE_RX (R399). -/
def execQuietAnnounceRx (side : Nat) (s : State) : Host.Outcome State Fault Refusal :=
  .next (
    let P := 16 + side % 2
    let s := s.bump (lanePortCtr P 4)
    if portSt s P = 2 || portSt s P = 4 then s.setFlag (R.AQL_PORT_STATUS.partner_quiet (P - 16)) true else s)

/-- The bit of a port's locked field that a lane of it has: the lane's place in an uplink port, its logical lane in an Aqand port. -/
def lockBit (s : State) (P l : Nat) : Nat := if P < 16 then l - P else s.fld (laneLogical l)

/-- A lane's PCS lane lock or marker lock shows no more in its port's status. -/
def State.clearLocked (s : State) (P l : Nat) : State :=
  s.setFld (portLockedField P) (withBit (s.fld (portLockedField P)) (lockBit s P l) false)

/-- FOLLOW_SIGNAL_CHANGE (R399): after the announce an Aqand lane loses signal and follows, with no lock; or its signal returns and it wakes, and a
request made meanwhile waits for the entry to UP (R400). A receiver that is quiet already has no signal to lose. -/
def execFollowSignalChange (lane : Nat) (signal : Bool) (s : State) : Host.Outcome State Fault Refusal :=
  .next (
    let l := 16 + lane % 8
    let P := 16 + lane % 8 / 4
    if !(portSt s P = 2 || portSt s P = 4) then s
    else if !signal then
      if !s.flag (R.AQL_PORT_STATUS.partner_quiet (P - 16)) || s.flag (laneRxQuiet l) then s
      else
        let s := { s with lanes := { s.lanes with follow := s.lanes.follow ++ [l], waking := s.lanes.waking.filter (· ≠ l) } }
        let s := (s.setFlag (laneRxQuiet l) true).bump (laneCtr l 6)
        (((s.setFlag (laneCdr l) false).setFlag (laneBlock l) false).clearLocked P l).setPortSt P 4
    else if !s.lanes.follow.contains l then s
    else
      let s := { s with lanes := { s.lanes with follow := s.lanes.follow.filter (· ≠ l), waking := s.lanes.waking ++ [l] } }
      (s.setFlag (laneRxQuiet l) false).laneFreeze l)

/-- FOLLOW_LOCK_TIMEOUT (R399): 1 ms after its signal returned a lane has no block lock. -/
def execFollowLockTimeout (lane : Nat) (s : State) : Host.Outcome State Fault Refusal :=
  .next (if s.lanes.waking.contains (16 + lane % 8) then s.trainPort (16 + lane % 8 / 4) else s)

/-! ### Training (R393, R394) -/

/-- The logical lane numbers of an Aqand port's lanes do not repeat, so the lanes can be deskewed (R391). -/
def deskews (order : List Nat) : Bool := order.length == 4 && (List.range 4).all order.contains

/-- PORT_UP (R391, R393): a training port meets its up condition, or an Aqand port whose followed lanes have woken is up again (R399). `order` are
the logical lanes of an Aqand port; where they repeat it has not deskewed, which is counted. Held quiet requests apply (R400). -/
def execPortUp (port : Nat) (order : List Nat) (s : State) : Host.Outcome State Fault Refusal :=
  .next (
    let P := port % 18
    let woken := portSt s P = 4 && decide (16 ≤ P) && !(portLanes s P).any (laneQuiet s)
    if portSt s P ≠ 1 && !woken then s
    else if 16 ≤ P && !deskews order then s.bump (lanePortCtr P 2)
    else
      let s := (s.endQuiet P).setLocks P (2 ^ (portLanes s P).length - 1) order
      let s := if P < 16 then s
        else
          let t := s.setFlag (R.AQL_PORT_STATUS.partner_ready (P - 16)) true
          { t with lanes := { t.lanes with rxReady := t.lanes.rxReady.filter (· ≠ P - 16) ++ [P - 16] } }
      let s := (s.setPortSt P 2).pairForms
      s.enterQuiet P)

/-- TRAINING_TIMEOUT (R393): 100 ms have passed; `locked` has a bit for each lane that has locked. -/
def execTrainingTimeout (port locked : Nat) (order : List Nat) (s : State) : Host.Outcome State Fault Refusal :=
  .next (
    let P := port % 18
    if portSt s P ≠ 1 then s
    else
      let ls := portLanes s P
      let s := s.setLocks P locked order
      let un := ((List.range ls.length).map (fun i => bit01 (!bitAt locked i) * 2 ^ i)).sum
      let s := (ls.zipIdx).foldl (fun s e => if bitAt locked e.2 then s else s.bump (laneCtr e.1 1)) s
      (s.setPortSt P 3).pulse 0x1092 (P + 2 ^ 8 * un))

/-- TRAINING_RETRY (R393): a retry time of the cadence that runs from the entry to DOWN. -/
def execTrainingRetry (port : Nat) (s : State) : Host.Outcome State Fault Refusal :=
  .next (
    let P := port % 18
    if portSt s P = 3 then (s.addFldSat (portRetriesField P) 1).trainPort P else s)

/-- LANE_LOCK_LOSS (R391, R394): a lane loses block or PCS lane lock (cause 0), or marker lock alone (1); its port receives local fault (2), or
rx_ready = 0 without an announce (3), or a deskew failure (4), which is counted. A lane that is RX-quiet has no lock to lose. -/
def execLaneLockLoss (lane cause : Nat) (s : State) : Host.Outcome State Fault Refusal :=
  .next (
    let l := lane % 24
    match laneOwner s l with
    | none => s
    | some P =>
      if cause = 4 then (if P < 16 then s else s.bump (lanePortCtr P 2))
      else if cause ≤ 1 && s.flag (laneRxQuiet l) then s
      else
        let s := if cause ≤ 1 then
            let s := s.bump (laneCtr l 2)
            (if cause = 0 || P < 16 then s.setFlag (laneBlock l) false else s).clearLocked P l
          else s
        let s := if cause = 1 && 16 ≤ P then s.bump (lanePortCtr P 1) else s
        let s := if cause = 3 && 16 ≤ P then s.setFlag (R.AQL_PORT_STATUS.partner_ready (P - 16)) false else s
        if portSt s P = 2 || portSt s P = 4 then
          (if P < 16 then s.bump (lanePortCtr P 11) else s).trainPort P
        else s)

/-! ### Tests and injections (R401 to R404) -/

/-- The lane sends symbols. -/
def laneSends (s : State) (l : Nat) : Bool :=
  s.flag (lanePowered l) && !s.flag (laneTxQuiet l) && ((laneOwner s l).isSome || laneTests s l)

/-- A refused write of a ULK or AQL register (R406). -/
def State.refuseLane (s : State) (uplink : Bool) : State :=
  (s.setFlag (if uplink then R.ULK_STATUS.cfg_err else R.AQL_STATUS.cfg_err) true).pulse 0x1093 0

/-- The lane's own generator reaches its own checker: near-end loopback (R403) with the generator on (R401). -/
def laneOwnPrbs (s : State) (l : Nat) : Bool := s.fld (laneLoop l) == 1 && s.flag (laneGen l)

/-- Symbols whose inversion is still to come on a lane in near-end loopback. -/
def lanePending (s : State) (l : Nat) : Nat := Tab.get (fun _ => 0) s.lanes.inj l

/-- An injection alters `n` symbols: they are counted, and in near-end loopback the generator's next `n` are inverted. -/
def State.inject (s : State) (l n : Nat) : State :=
  let s := s.bumpBy (laneCtr l 7) n
  if laneOwnPrbs s l then { s with lanes := { s.lanes with inj := Tab.set (fun _ => 0) s.lanes.inj l (lanePending s l + n) } } else s

/-- A write of LANE_INJ: burst_len, then one symbol or a burst. One that arrives while an injection runs is ignored and counted; the spec gives that
count no register (log entry 59). A write with both bits is a burst. -/
def State.injWrite (s : State) (l value : Nat) (running : Bool) : State :=
  let n := bitsOf value 7 0
  if running || lanePending s l ≠ 0 then
    { s with lanes := { s.lanes with ignored := Tab.set (fun _ => 0) s.lanes.ignored l (Tab.get (fun _ => 0) s.lanes.ignored l + 1) } }
  else if n = 0 then s.refuseLane (decide (l < 16))
  else
    let s := s.setFld (laneBurst l) n
    if !laneSends s l then s
    else if bitAt value 30 then s.inject l n
    else if bitAt value 31 then s.inject l 1
    else s

/-- LANE_INJ_SINGLE (R402): a write of LANE_INJ with single = 1. -/
def execLaneInjSingle (src : Nat) (lane value : Nat) (running : Bool) (s : State) : Host.Outcome State Fault Refusal :=
  .next (s.accessed src (laneInjAddr lane) (fun s => s.injWrite (lane % 24) value running))

/-- LANE_INJ_BURST (R402): a write of LANE_INJ with burst = 1. -/
def execLaneInjBurst (src : Nat) (lane value : Nat) (running : Bool) (s : State) : Host.Outcome State Fault Refusal :=
  .next (s.accessed src (laneInjAddr lane) (fun s => s.injWrite (lane % 24) value running))

/-- `n` bits of a lane's own generator as its receiver has them: the symbols of injections in waiting inverted (R402), and all of them where the polarity is
inverted in one direction (R385): both invert the more significant bit of a symbol, by the Gray code of R88. -/
def State.ownBits (s : State) (l n : Nat) : State × List Bool :=
  let g := prbsBits (s.fld (laneGenPoly l)) n (Tab.get (fun _ => 1) s.lanes.gen l)
  let k := min (lanePending s l) (n / 2)
  let sent := invertSymbols k g.2
  let got := if s.flag (laneTxInv l) != s.flag (laneRxInv l) then invertSymbols n sent else sent
  ({ s with lanes := { s.lanes with
      gen := Tab.put s.lanes.gen l g.1, inj := Tab.set (fun _ => 0) s.lanes.inj l (lanePending s l - k) } }, got)

/-- PRBS_CHECKER_LOCK (R401, R403): received bits of a lane go through its checker: `bits` from its pins, or `own` many of its own generator in near-end
loopback. It locks and unlocks by them, and counts the errors while locked. -/
def execPrbsCheckerLock (lane : Nat) (bits : List Bool) (own : Nat) (s : State) : Host.Outcome State Fault Refusal :=
  .next (
    let l := lane % 24
    if !s.flag (laneChk l) then s
    else
      let (s, got) := if laneOwnPrbs s l then s.ownBits l own else (s, bits)
      let y := (Tab.get (fun _ => PrbsCheck.reset) s.lanes.chk l).over (s.fld (laneChkPoly l)) (s.flag (lanePrbsLock l)) got
      let s := { s with lanes := { s.lanes with chk := Tab.put s.lanes.chk l y.1 } }
      ((s.addFldSat (lanePrbsErr l) y.2.2).bumpBy (laneCtr l 3) y.2.2).setFlag (lanePrbsLock l) y.2.1)

/-! ### Register writes (R386, R395, R400, R403, R404, R406) -/

/-- A write of ULK_PORT_p. -/
def State.ulkPortWrite (s : State) (p value : Nat) : State :=
  let en := bitAt value 31
  let w := bitsOf value 30 29
  let mf := bitsOf value 13 0
  let on := s.flag (R.ULK_PORT.en p)
  let change := w ≠ s.fld (R.ULK_PORT.width p) || mf ≠ s.fld (R.ULK_PORT.max_frame p)
  let ls := (List.range (2 ^ w)).map (· + p)
  let n := min (poweredLanes s) (2 ^ (4 - s.fld R.GLB_PROFILE.uplink_lanes))
  let bad := p % 2 ^ w ≠ 0 || ls.any (fun l => decide (n ≤ l) || (laneOwner s l).isSome)
  if mf < 64 || (on && change) || (en && !on && bad) then s.refuseLane true
  else
    let s := if on && !en then (s.setFlag (R.ULK_PORT.en p) false).stopPort p else s
    let s := ((s.setFlag (R.ULK_PORT.en p) en).setFld (R.ULK_PORT.width p) w).setFld (R.ULK_PORT.max_frame p) mf
    if en && !on then s.startPort p else s.portLevel p

/-- A write of AQL_PORT_q. -/
def State.aqlPortWrite (s : State) (q value : Nat) : State :=
  let en := bitAt value 31
  let on := s.flag (R.AQL_PORT.en q)
  let s := if on && !en then (s.setFlag (R.AQL_PORT.en q) false).stopPort (16 + q) else s
  let s := s.setFlag (R.AQL_PORT.en q) en
  if en && !on then s.startPort (16 + q) else s.portLevel (16 + q)

/-- A write of LANE_CTL. -/
def State.laneCtlWrite (s : State) (l value : Nat) : State :=
  if bitsOf value 29 28 = 3 then s.refuseLane (decide (l < 16))
  else
    let s := ((s.setFlag (laneTxReq l) (bitAt value 31)).setFlag (laneRxReq l) (bitAt value 30)).setFld (laneLoop l) (bitsOf value 29 28)
    let s := ((s.setFlag (laneRxInv l) (bitAt value 1)).setFlag (laneTxInv l) (bitAt value 0)).laneFreeze l
    match laneOwner s l with
    | some P => ((s.portTests P).enterQuiet P).leaveQuiet P
    | none => s

/-- A write of LANE_TXEQ: the taps' magnitudes sum to at most 64 and c0 is at least 32 (R395). -/
def State.laneTxeqWrite (s : State) (l value : Nat) : State :=
  let c0 := signedOf 7 (bitsOf value 13 7)
  let mag := (signedOf 7 (bitsOf value 27 21)).natAbs + (signedOf 7 (bitsOf value 20 14)).natAbs + c0.natAbs
    + (signedOf 7 (bitsOf value 6 0)).natAbs
  if 64 < mag || c0 < 32 then s.refuseLane (decide (l < 16))
  else s.setReg ((laneField R.ULK_LANE_TXEQ.c0 R.AQL_LANE_TXEQ.c0 l).addr) (BitVec.ofNat 32 (value % 2 ^ 28))

/-- A lane's generator starts: the state it starts from, not 0, is open. -/
def State.seedGen (s : State) (l poly : Nat) : State :=
  ({ s with lanes := { s.lanes with
    gen := Tab.put s.lanes.gen l (s.openNat % (2 ^ (prbsTaps poly).1 - 1) + 1), inj := Tab.set (fun _ => 0) s.lanes.inj l 0 } } : State).nextOpen

/-- A write of LANE_PRBS. -/
def State.lanePrbsWrite (s : State) (l value : Nat) : State :=
  if 6 ≤ bitsOf value 30 28 || 6 ≤ bitsOf value 14 12 then s.refuseLane (decide (l < 16))
  else
    let old := s.flag (laneChk l)
    let fresh := bitAt value 31 && (!s.flag (laneGen l) || s.fld (laneGenPoly l) ≠ bitsOf value 30 28)
    let s := if fresh then s.seedGen l (bitsOf value 30 28) else s
    let s := (s.setFlag (laneGen l) (bitAt value 31)).setFld (laneGenPoly l) (bitsOf value 30 28)
    let s := (s.setFlag (laneChk l) (bitAt value 15)).setFld (laneChkPoly l) (bitsOf value 14 12)
    let s := if bitAt value 15 && !old then
        let t := s.setFld (lanePrbsErr l) 0
        { t with lanes := { t.lanes with chk := Tab.put t.lanes.chk l .reset } }
      else s
    let s := if bitAt value 15 && old then s else s.setFlag (lanePrbsLock l) false
    match laneOwner s l with
    | some P => s.portTests P
    | none => s

/-! ### At the tick (R59, R60) -/

/-- A lane follows the captured profile; one that goes down stops its tests (R404). -/
def State.powerLane (s : State) (l : Nat) : State :=
  let on := decide (16 ≤ l) || decide (l < poweredLanes s)
  if on = s.flag (lanePowered l) then s
  else
    let s := s.setFlag (lanePowered l) on
    if on then s
    else ((((s.setFld (laneLoop l) 0).setFlag (laneGen l) false).setFlag (laneChk l) false).setFlag (lanePrbsLock l) false).laneFreeze l

/-- The lanes at a tick. -/
def State.lanesTick (s : State) : State := (List.range 24).foldl State.powerLane s

end Sys2Proof.Machine
end

