-- ==== Sys2Proof/Machine/Transmit.lean ====
section
/-!
DEFINITION. The transmit path (chapter 7): commits of staging sets, mapper and filters, the spectral mask monitor and what a tick does to them.
-/
namespace Sys2Proof.Machine

/-! ### Staging sets (R202) -/

/-- The staging registers of both filters, as (staging word, live word) addresses. -/
def coefRegs (p : Port) : List (Nat × Nat) :=
  (List.range 6).map (fun j => (R.TXP_FFE_STG.addr p j, R.TXP_FFE_LIVE.addr p j))
    ++ (List.range 16).map (fun j => (R.TXP_SHP_STG.addr p j, R.TXP_SHP_LIVE.addr p j))

/-- coef_pending and mask_pending read 1 from the commit until the set applies. -/
def State.commitStatus (s : State) (p : Port) : State :=
  let x := (s.port p).txp
  (s.setFlag (R.TXP_STATUS.coef_pending p) (x.coefReq || x.coefSets ≠ [])).setFlag (R.TXP_STATUS.mask_pending p)
    (x.maskReq || x.maskSets ≠ [])

/-- A write of TXP_CTRL: dac_swing and force_off, and the commits it asks for (R202, R203). -/
def State.txpCtrlWrite (s : State) (p : Port) (value : Nat) : State :=
  let s := (s.setFld (R.TXP_CTRL.dac_swing p) (bitsOf value 11 8)).setFld (R.TXP_CTRL.force_off p) (bitsOf value 0 0)
  let s := s.modTxp p (fun x => { x with coefReq := x.coefReq || bitAt value 31, maskReq := x.maskReq || bitAt value 30 })
  s.commitStatus p

/-- COEF_COMMIT (R202): a write of TXP_CTRL with coef_commit. -/
def execCoefCommit (src : Nat) (port : Port) (value : Nat) (s : State) : Host.Outcome State Fault Refusal := .next (s.accessed src (R.TXP_CTRL.addr port) (fun s => s.txpCtrlWrite port value))

/-- MASK_COMMIT (R202): a write of TXP_CTRL with mask_commit. -/
def execMaskCommit (src : Nat) (port : Port) (value : Nat) (s : State) : Host.Outcome State Fault Refusal := .next (s.accessed src (R.TXP_CTRL.addr port) (fun s => s.txpCtrlWrite port value))

/-- A tick captures the committed staging sets, live two ticks later, and puts in force the sets now due (R202). `s.tick` is the tick. -/
def State.txpSets (s : State) (p : Port) : State :=
  let x := (s.port p).txp
  let stg := (coefRegs p).map (fun a => s.reg a.1)
  let tpl := (List.range 32).map (fun m => s.reg (R.TXP_MASK_STG.addr p m))
  let coefs := x.coefSets ++ if x.coefReq then [(s.tick + 2, stg)] else []
  let masks := x.maskSets ++ if x.maskReq then [(s.tick + 2, tpl)] else []
  let s := match coefs.find? (fun e => e.1 = s.tick) with
    | some e => (((coefRegs p).zip e.2).foldl (fun (s : State) (w : (Nat × Nat) × Word) => s.setReg w.1.2 w.2) s).bumpP p 0x86
    | none => s
  let s := match masks.find? (fun e => e.1 = s.tick) with
    | some e => (s.modTxp p (fun x => { x with
        liveMask := (List.range 32).foldl (fun t m => Tab.set (fun _ => 0xFFFFFFFF#32) t m ((e.2[m]?).getD 0xFFFFFFFF#32)) x.liveMask
        })).bumpP p 0x86
    | none => s
  let s := s.modTxp p (fun x => { x with
    coefReq := false, maskReq := false, coefSets := coefs.filter (fun e => e.1 ≠ s.tick),
    maskSets := masks.filter (fun e => e.1 ≠ s.tick) })
  s.commitStatus p

/-! ### Mapper and filters (R184 to R187, R204) -/

/-- The level of a symbol (R184). -/
def levelOf (s : State) (p : Port) (a : Int) : Int :=
  signedOf 7 (s.gov (if a = 3 then R.TXP_LEVELS.lvl_p3 p else if a = 1 then R.TXP_LEVELS.lvl_p1 p else if a = -1 then R.TXP_LEVELS.lvl_m1 p
    else R.TXP_LEVELS.lvl_m3 p))

/-- The greatest level a port drives. -/
def levelBound (s : State) (p : Port) : Nat := ([-3, -1, 1, 3].map (fun a => (levelOf s p a).natAbs)).foldl max 0

/-- The live taps of the FFE or of the shaping filter: two to a word, the lower halfword first. -/
def filterTaps (s : State) (p : Port) (shaping : Bool) : List Int :=
  (List.range (if shaping then 31 else 11)).map (fun k =>
    let w := (s.reg (if shaping then R.TXP_SHP_LIVE.addr p (k / 2) else R.TXP_FFE_LIVE.addr p (k / 2))).toNat
    signedOf 12 (bitsOf w (16 * (k % 2) + 11) (16 * (k % 2))))

/-- A measurement runs in the present frame (R196). -/
def measures (s : State) (p : Port) : Bool :=
  s.gov (R.TXP_MASK_CTL.mon_en p) == 1 && s.fc % s.gov (R.TXP_MASK_CTL.mask_period p) == 0

/-- The code of the DAC for sample `n` of the present frame: 0 while TX_DISABLE_N is low, and where no framer runs (R191). -/
def dacCode (s : State) (p : Port) (n : Nat) : Int := if s.txEnabled p then (((s.port p).txp.line)[n]?).getD 0 else 0

/-- A frame's symbols go through mapper and filters, `wide` samples to each. Where no sum can pass a bound nothing saturates. -/
def State.drive (s : State) (p : Port) (wide : Nat) (symbols : List Int) : State :=
  let x := (s.port p).txp
  let f := filterTaps s p false
  let g := filterTaps s p true
  let r := shape f g x.mapped x.filtered (symbols.flatMap (fun a => List.replicate wide (levelOf s p a)))
  let quiet := inBounds f g x.mapped x.filtered (levelBound s p)
  s.modTxp p (fun t => { t with
    mapped := r.mapped, filtered := r.filtered, clipped := if quiet then 0 else r.clipped, saturated := if quiet then 0 else r.saturated,
    psd := if measures s p then binCodes r.out else [], line := r.out })

/-- No framer runs: the filters are empty. -/
def State.driveNone (s : State) (p : Port) : State :=
  s.modTxp p (fun t => { t with mapped := [], filtered := [], clipped := 0, saturated := 0, psd := [], line := [] })

/-! ### The spectral mask monitor (R196 to R201) -/

/-- The template byte of a bin that is live. -/
def liveTemplate (s : State) (p : Port) (k : Nat) : Nat :=
  wordField (Tab.get (fun _ => 0xFFFFFFFF#32) (s.port p).txp.liveMask (k / 4)) (8 * (k % 4) + 7) (8 * (k % 4))

/-- The bin violates its template (R198). -/
def violates (template code : Nat) : Bool := template ≠ 255 && decide (code < template)

/-- A bin takes its measured code: its run, and its flag at persist (R199, R201). That the host's clearing of a flag leaves the run as it is, so that a
bin that goes on violating is flagged again at its next measurement, is a DESIGN CHOICE (log entry 98). -/
def State.maskBin (s : State) (p : Port) (k code : Nat) : State :=
  let f : RegField := ⟨R.TXP_VIOL.addr p (k / 32), k % 32, k % 32⟩
  if !violates (liveTemplate s p k) code then
    s.modTxp p (fun x => { x with runs := Tab.set (fun _ => 0) x.runs k 0 })
  else
    let n := Tab.get (fun _ => 0) (s.port p).txp.runs k + 1
    let s := s.modTxp p (fun x => { x with runs := Tab.set (fun _ => 0) x.runs k (min n 15) })
    if n < s.gov (R.TXP_MASK_CTL.persist p) || s.flag f then s
    else
      let s := ((s.setFlag f true).bumpP p 0x82).pulseP p 0x60 0
      if s.gov (R.TXP_MASK_CTL.mask_action p) = 1 && !s.flag (R.TXP_CTRL.force_off p) then
        ((s.setFlag (R.TXP_CTRL.force_off p) true).setFlag (R.TXP_STATUS.muted p) true).pulseP p 0x61 0
      else s

/-- MASK_MEASUREMENT (R196, R200): the measurement of the frame that ends, posted with the registers and the template of that frame. -/
def State.maskMeasure (s : State) (p : Port) : State :=
  if !measures s p || (s.port p).txp.lowInFrame then s
  else
    let code := fun k => (((s.port p).txp.psd)[k]?).getD 255
    let bad := (List.range 128).filter (fun k => violates (liveTemplate s p k) (code k))
    let s := (List.range 128).foldl (fun s k =>
      s.setFld ⟨R.TXP_PSD.addr p (k / 4), 8 * (k % 4) + 7, 8 * (k % 4)⟩ (code k)) s
    let s := (s.setFld (R.TXP_STATUS.viol_bins p) bad.length).bumpP p 0x80
    let s := if bad = [] then s else s.bumpP p 0x81
    (List.range 128).foldl (fun s k => s.maskBin p k (code k)) s

/-- What the tick that ends a frame does first: clipping of the frame, and its measurement (R185, R186, R200). -/
def State.txpEnd (s : State) (p : Port) : State :=
  let x := (s.port p).txp
  let s := (s.bumpBy (portCtr p 0x83) x.clipped).bumpBy (portCtr p 0x84) x.saturated
  (if x.clipped = 0 then s else s.pulseP p 0x63 0).maskMeasure p

/-- The tick that begins a frame: force_off is captured (Table 7-1), staging sets move on, and the pin's history starts again. -/
def State.txpBegin (s : State) (p : Port) : State :=
  let s := s.setDisCause p 4 (s.cap (R.TXP_CTRL.force_off p) == 1)
  let s := s.txpSets p
  s.modTxp p (fun x => { x with lowInFrame := !s.txEnabled p })

end Sys2Proof.Machine
end

