-- ==== Sys2Proof/Machine/Reset.lean ====
section
/-!
DEFINITION. Start-up and reset (chapter 20), the reset pin and the supplies (chapter 23).
-/
namespace Sys2Proof.Machine

/-! ### Requests (R495, R496, R499) -/

/-- A counter of the RST block. -/
def rstCtr (i : Nat) : Nat := 0x2B00 + i

/-- A reset request is ignored and counted (R496). -/
def State.ignoreReset (s : State) : State := (s.bump (rstCtr 5)).pulse 0x100A 0

/-- A keyed write of the RST block: with a wrong key it is ignored and counted; with go it acts (R499). -/
def State.keyed (s : State) (value key : Nat) (k : State → State) : State :=
  if bitsOf value 7 0 ≠ key then s.bump (rstCtr 5) else if bitAt value 31 then k s else s

/-- The register a source asks for region resets by, and the ports it can name: PRT_REGION_RESET of its own port for a port function. -/
def resetReqAddr (src : Nat) : Nat := if 1 ≤ src && src ≤ 8 then R.PRT_REGION_RESET.addr (fnPort src) else R.RST_PORT_RESET.addr
def resetReqMask (src mask : Nat) : Nat :=
  if 1 ≤ src && src ≤ 8 then (if bitAt mask (src - 1) then 2 ^ (src - 1) else 0) else mask

/-- Requests of warm or cold resets of the ports of a mask wait for the tick. -/
def State.requestRegion (s : State) (mask : Nat) (cold : Bool) : State :=
  s.forPorts (fun s p =>
    if bitAt mask p.val then s.modReset p (fun r => if cold then { r with coldReq := true } else { r with warmReq := true }) else s)

/-- WARM_REGION_RESET_REQ (R495): a write of RST_PORT_RESET or PRT_REGION_RESET with cold 0. -/
def execWarmRegionResetReq (src mask : Nat) (s : State) : Host.Outcome State Fault Refusal :=
  .next (s.accessed src (resetReqAddr src) (fun s => s.requestRegion (resetReqMask src mask) false))

/-- COLD_REGION_RESET_REQ (R495): the same with cold 1. -/
def execColdRegionResetReq (src mask : Nat) (s : State) : Host.Outcome State Fault Refusal :=
  .next (s.accessed src (resetReqAddr src) (fun s => s.requestRegion (resetReqMask src mask) true))

/-! ### Region resets at the tick (R495) -/

/-- RST_PORT_STATUS follows a port. -/
def State.resetStatus (s : State) (p : Port) : State :=
  let a := (s.port p).resetReq.active
  (s.setFld R.RST_PORT_STATUS.in_reset (withBit (s.fld R.RST_PORT_STATUS.in_reset) p.val a.isSome)).setFld R.RST_PORT_STATUS.cold
    (withBit (s.fld R.RST_PORT_STATUS.cold) p.val (a = some true))

/-- A line-die SRAM word number of a port's four (Table 12-1). -/
def ownsSram (p : Port) (key : Nat) : Bool := decide (key / 2 ^ 31 = 1 + p.val / 4) && decide (key % 2 ^ 31 / 65536 = p.val % 4)

/-- The port's line-die SRAM is initialised (R495): its errors, and the DBA state held there, go. -/
def State.initSram (s : State) (p : Port) : State :=
  let s := { s with mem := { s.mem with
    errs := s.mem.errs.filter (fun e => !ownsSram p e.1), trk := s.mem.trk.filter (fun e => !ownsSram p e.1),
    untracked := s.mem.untracked.filter (fun k => !ownsSram p k) } }
  let s := ((s.port p).onu.ctx.map Prod.fst).foldl (fun s c =>
    s.modCtx p c (fun x => { x with recs := Vector.map (fun r => { r with owed := false }) x.recs })) s
  ((s.modOnu p (fun o => { o with deferred := none })).modDba p (fun d => { d with draft := none })).setFld (R.CNV_STATUS.skip_run p) 0

/-- The receive path stops for a reset: the Sluice is HALTED, running copies, codewords and partial SDUs go, substitutions end, those of a warm
reset until it is over (R82, R140, R225). -/
def State.stopReceive (s : State) (p : Port) (cold : Bool) : State :=
  let s := ((s.haltSluice p false).dropReceive p).dropPartials p
  (if cold then s.endSubstitutions p else s.suspendSubstitutions p).cancelChange p

/-- The latched sets of a port's blocks are forgotten with their reset (R526). -/
def State.forgetLatches (s : State) (p : Port) : State :=
  { s with path := { s.path with latches := s.path.latches.filter (fun e => addrPort (e.1 % 2 ^ 26) ≠ some p.val) } }

/-- A warm reset begins at tick k; it completes at k + 2. -/
def State.startWarm (s : State) (p : Port) : State :=
  let s := s.modReset p (fun r => { r with active := some false, doneAt := s.tick + 2 })
  (((((s.stopReceive p false).initSram p).onuWarm p).warmResync p).resetStatus p).forgetLatches p

/-- The substitution maps and unit states of a port, which every region reset keeps (Table 20-4). -/
def unitReg (a : Nat) : Bool :=
  match regAt a with
  | some (d, _, _) => (addrPort a).isSome && (d.name == "CNV_UNIT" || d.name == "CNV_SPARE_MAP" || d.name == "XTL_UNIT"
      || d.name == "XTL_DEC" || d.name == "XTL_SPARE_MAP" || d.name == "XTL_LDPC_MAP")
  | none => false

/-- The registers of the blocks CNV to DBA and the ONU window of a port return to reset. -/
def State.resetBlocks (s : State) (p : Port) : State :=
  { s with regs := s.regs.filter (fun e => addrPort e.1 ≠ some p.val || addrBlock e.1 = 0 || unitReg e.1) }

/-- The status registers of a port that follow state which a reset keeps or clears; a failed sensor goes on holding the reference trim (R85). -/
def State.refreshPort (s : State) (p : Port) : State :=
  (((((((s.showFc p).setFlag (R.CNV_STATUS.ref_hold p) (refSensorFailed s p)).unitStatus p).cnvStatus p).onuStatus p).guarStatus p).tcfStatus p).tmStatus
    p |>.commitStatus p

/-- What a cold region reset and a line-die reset clear of a port: contexts, queues of nodes 0 to 255, queued messages, registers of its
blocks; TX_DISABLE_N goes low with a cause. Keys, transmit slots and sequence numbers are not among what Table 20-4 clears. -/
def State.clearPort (s : State) (p : Port) (cause : Nat) : State :=
  let s := ((((s.clearLos p s.tick).stopReceive p true).initSram p).flushTcf p).freeAll p
  let s := (s.unbindNodes p (fun i => decide (i < 256))).setMode p 0
  let s := (s.setFramer p .none).modMode p (fun m => { m with cap := 0, lvl := 0, holdLeft := none, txStart := false, txWarm := false })
  let s := ((s.linkPower (p.val / 4)).setDisCause p cause true).setDisCause p 0 true
  let causes := withBit (s.fld (R.TXP_STATUS.dis_cause p)) 4 false
  let s := (s.resetBlocks p).forgetLatches p
  let s := s.modPort p (fun x => { x with
    cnv := .reset, slu := .reset, rake := .reset, xtl := .reset, txp := { TxpState.reset with encState := x.txp.encState } })
  ((s.setFld (R.TXP_STATUS.dis_cause p) causes).setFlag (R.TXP_STATUS.tx_enabled p) false).refreshPort p

/-- A cold reset begins at its capture tick; TX calibration runs (R195). -/
def State.startCold (s : State) (p : Port) : State :=
  let s := s.modReset p (fun r => { r with active := some true, doneAt := never })
  ((s.clearPort p 5).modMode p (fun m => { m with txWarm := true })).resetStatus p

/-- The requests of a port at a tick, resolved by R496. -/
def State.resetTick (s : State) (p : Port) : State :=
  let r := (s.port p).resetReq
  if !r.warmReq && !r.coldReq then s
  else
    let s := s.modReset p (fun r => { r with warmReq := false, coldReq := false })
    if dieGone s (p.val / 4) then (s.ignoreReset).setFlr (p.val + 1) false
    else
      match r.coldReq, r.active with
      | true, some true => s.ignoreReset
      | true, _ => s.startCold p
      | false, some _ => s.ignoreReset
      | false, none => s.startWarm p

/-- The fence of a port is left, with the ledger terms held for it (R39). -/
def State.clearFence (s : State) (p : Port) : State :=
  let s := { s with rst := { s.rst with ledgers := s.rst.ledgers.filter (fun e => e.1 / 16 ≠ p.val) } }
  let s := (s.setFlag (R.PRT_FENCE_STATUS.fenced p) false).setFld (R.PRT_FENCE_STATUS.first_cause p) 0
  let s := s.setFld (R.PRT_FENCE_STATUS.cause_mask p) 0
  (s.setFld R.GLB_STATUS.port_fenced (withBit (s.fld R.GLB_STATUS.port_fenced) p.val false)).level (portSrc p 0) false 0

/-- The causes that a reset of a kind leaves in place (Table 20-5). -/
def causePersists (cold : Bool) (c : Nat) : Bool :=
  c == 0x09 || c == 0x0A || c == 0x0C || (!cold && (c == 0x06 || c == 0x07 || c == 0x08))

/-- A port starts from HOLD when its heartbeat runs and from OFF when it does not; the fence's causes on TX_DISABLE_N go (R56). -/
def State.restart (s : State) (p : Port) : State :=
  let m := if (s.port p).mode.framer = .none then 0 else 1
  let s := if m = 0 then s.setDisCause p 0 true else s
  let s := if s.mode p = m then s else s.setMode p m
  let s := (s.setDisCause p 2 false).setDisCause p 3 false
  (s.modMode p (fun x => { x with cap := m, lvl := m, holdLeft := none })).linkPower (p.val / 4)

/-- REGION_RESET_COMPLETE (R24, R56, R495, R497): the reset of a port ends at its tick; a cause that persists fences the region again, and the
recorded request applies through Table 2-3. -/
def execRegionResetComplete (port : Port) (s : State) : Host.Outcome State Fault Refusal :=
  .next (
    let r := (s.port port).resetReq
    match r.active with
    | none => s
    | some cold =>
      if s.tick < r.doneAt then s
      else
        let again := (List.range 16).filter (fun c => bitAt (s.fld (R.PRT_FENCE_STATUS.cause_mask port)) c && causePersists cold c)
        let s := ((s.modReset port (fun r => { r with active := none, doneAt := 0 })).resetStatus port).clearFence port
        let s := s.modDba port (fun d => { d with unmapped := false })
        let s := (s.restart port).setFld (R.PRT_MODE_STATUS.ceiling port) (modeCeiling s port)
        let s := (s.setFlr (port.val + 1) false).bump (rstCtr (bit01 cold))
        let s := s.pulseP port 3 (bit01 cold)
        if again ≠ [] then (s.fencePort port again).modeStatus port
        else ((s.modeCapture port).warmStarts (port.val / 4)).modeStatus port)

/-! ### Hub region resets (R493, R494) -/

/-- The SDUs of a queue are dropped, and counted in it; its cells are freed. -/
def State.emptyQueue (s : State) (q : Nat) : State :=
  let x := s.queue q
  s.writeQueue q (qrHeld ||| qrDrops) { x with sdus := [], lp := false, drops := min (x.drops + x.sdus.length) (2 ^ 32 - 1) }

/-- The hub data region is reset: every cell of both pools is freed and its SDU counted as dropped; the transport queues are emptied (R405,
R494). -/
def State.resetData (s : State) : State :=
  let s := s.tm.queues.foldl (fun (s : State) (e : Nat × Queue) => s.emptyQueue e.1) s
  ({ s with tm := { s.tm with egress := [] } } : State).forPorts State.tmStatus

/-- The hub memory region is reset: the queues that hold an LPDDR6 cell are emptied. -/
def State.resetMemory (s : State) : State :=
  let s := s.tm.queues.foldl (fun (s : State) (e : Nat × Queue) => if e.2.sdus.any QSdu.lp then s.emptyQueue e.1 else s) s
  let s := { s with tm := { s.tm with egress := s.tm.egress.map (fun (e : Nat × List EgressSdu) => (e.1, e.2.filter (fun x => !x.lp))) } }
  (s.setFld R.LPD_STATUS.ch_up 0).forPorts State.tmStatus

/-- A command in execution ends with ABORTED. -/
def State.abortCmd (s : State) (i : Issue) : State := s.complete i { Result.ok 0 0 with status := .aborted }

/-- The hub control region is reset: PF0's rings go, commands of the others in execution are ABORTED, the event queues follow R381, and the
control cores stop until an image runs; a firmware session ends at once (R505). -/
def State.resetControl (s : State) : State :=
  let s := s.flrCommands 0
  let live := (s.hif.inFlight.filter (fun f => f.iss.fn ≠ 0)).map InFlight.iss
  let s := (s.forPorts (fun s p => s.withdraw p (fun _ => true))).disown (fun _ => true)
  let s := live.foldl State.abortCmd s
  let s := if s.session = 0 then s else s.nextOpen.killSession (openReason s)
  let s := { s with fw := { s.fw with
    cmd := none, actReq := false, actAt := none, restore := none, run := none, prev := none, fwd := [] } }
  (s.setFlag R.RST_STATUS.fw_running false).eventsHubReset

/-- HUB_REGION_RESET (R494): a write of RST_HUB_RESET. -/
def execHubRegionReset (src value : Nat) (s : State) : Host.Outcome State Fault Refusal :=
  .next (s.accessed src R.RST_HUB_RESET.addr (fun s => s.keyed value 0xC3 (fun s =>
    let m := bitsOf value 10 8
    let s := { s with rst := { s.rst with ledgers := s.rst.ledgers.filter (fun e => !(128 ≤ e.1 && e.1 < 131 && bitAt m (e.1 - 128))) } }
    let s := s.setFld R.RST_HUB_STATUS.hub_in_reset (s.fld R.RST_HUB_STATUS.hub_in_reset ||| m)
    let s := if bitAt m 0 then s.resetData else s
    let s := if bitAt m 1 then s.resetMemory else s
    if bitAt m 2 then s.resetControl else s)))

/-- Every flow's buckets are full, at the time in µs at which the reset of the data region completes: their bytes are written (R311, R322). -/
def State.fillMeters (s : State) (us : Nat) : State :=
  s.flow.flows.foldl (fun (s : State) (e : Nat × FlowCtx) =>
    if e.2.valid then (s.setFlow e.1 (e.2.full us)).memWrite 0 e.1 0xFFF00000 else s) s

/-- LPDDR6 channels have trained, bit c channel c (step 5 of Table 20-1); of the 32 GiB each of the 16 channels holds 2 GiB (Table 12-1). -/
def State.channelsTrain (s : State) (up : Nat) : State :=
  (s.setFld R.LPD_STATUS.ch_up up).setFld R.GLB_CAP.lpd_gib (2 * ((List.range 16).filter (fun c => bitAt up c)).length)

/-- A reset of the memory region ends with its channels trained again (R494); which of them trained is open. -/
def State.retrain (s : State) : State := s.nextOpen.channelsTrain s.openNat

/-- Fewer than eight good queue engines fence the hub data region (R17). -/
def State.engineFence (s : State) : State := if 1 < popCount 9 (s.fld R.GLB_QE_STATE.faulty) then s.fenceHub 0 else s

/-- HUB_REGION_RESET_DONE (R493): resets of hub regions end; that of the control region with the firmware running again. A cause that
persists fences the region again (R24): too few queue engines. -/
def execHubRegionResetDone (regions us : Nat) (s : State) : Host.Outcome State Fault Refusal :=
  .next (
    let m := regions &&& s.fld R.RST_HUB_STATUS.hub_in_reset
    let m := if s.flag R.RST_STATUS.fw_running then m else withBit m 2 false
    if m = 0 then s
    else
      let s := s.setFld R.RST_HUB_STATUS.hub_in_reset (s.fld R.RST_HUB_STATUS.hub_in_reset - m)
      let f := s.fld R.GLB_STATUS.hub_fenced
      let f := f - (f &&& m)
      let s := (s.setFld R.GLB_STATUS.hub_fenced f).level 0x1000 (f ≠ 0) f
      let s := if bitAt m 0 then s.fillMeters us else s
      let s := if bitAt m 1 then s.retrain else s
      let s := if bitAt m 0 then s.engineFence else s
      (s.bump (rstCtr 2)).pulse 0x1008 m)

/-! ### Line-die resets (R493, R496) -/

/-- A line-die reset begins for one die: it absorbs the port resets of the die, and its ports and converter are cleared; the link trains
again. -/
def State.startDieReset (s : State) (die : Nat) : State :=
  let s := s.setFld R.RST_HUB_STATUS.die_in_reset (withBit (s.fld R.RST_HUB_STATUS.die_in_reset) die true)
  let s := (diePorts die).foldl (fun s p =>
    let s := (s.modReset p (fun _ => { warmReq := false, coldReq := false, active := some true, doneAt := never })).clearPort p 2
    let s := s.setFld R.RST_PORT_STATUS.in_reset (withBit (s.fld R.RST_PORT_STATUS.in_reset) p.val false)
    s.setFld R.RST_PORT_STATUS.cold (withBit (s.fld R.RST_PORT_STATUS.cold) p.val false)) s
  let s := s.hkaDieReset die
  let s := { s with rst := { s.rst with
    ledgers := s.rst.ledgers.filter (fun e => e.1 ≠ 136 + die),
    laneDown := s.rst.laneDown.filter (fun k => k / 256 ≠ die || (s.flag (R.GLB_D2D_LANE_MAP.spare_used (k / 128))
      && s.fld (R.GLB_D2D_LANE_MAP.replaced (k / 128)) == k % 128)),
    retrain := s.rst.retrain.filter (fun x => x / 2 ≠ die) } }
  let s := (s.setFlag (R.GLB_D2D_LANE_MAP.half_width (2 * die)) false).setFlag (R.GLB_D2D_LANE_MAP.half_width (2 * die + 1)) false
  s.setFld R.GLB_STATUS.d2d_half (withBit (s.fld R.GLB_STATUS.d2d_half) die false)

/-- LINE_DIE_RESET (R493): a write of RST_DIE_RESET. -/
def execLineDieReset (src value : Nat) (s : State) : Host.Outcome State Fault Refusal :=
  .next (s.accessed src R.RST_DIE_RESET.addr (fun s => s.keyed value 0xC3 (fun s =>
    let s := if bitAt value 8 then s.startDieReset 0 else s
    if bitAt value 9 then s.startDieReset 1 else s)))

/-- LINE_DIE_RESET_DONE (R493): the die is up again with its ports in OFF and unfenced, or it has failed and is lost. -/
def execLineDieResetDone (die : Nat) (failed : Bool) (s : State) : Host.Outcome State Fault Refusal :=
  .next (
    let d := die % 2
    if !bitAt (s.fld R.RST_HUB_STATUS.die_in_reset) d then s
    else
      let s := s.setFld R.RST_HUB_STATUS.die_in_reset (withBit (s.fld R.RST_HUB_STATUS.die_in_reset) d false)
      let s := (diePorts d).foldl (fun s p =>
        let s := ((s.modReset p (fun r => { r with active := none, doneAt := 0 })).clearFence p).restart p
        (s.setFld (R.PRT_MODE_STATUS.ceiling p) (modeCeiling s p)).setFlr (p.val + 1) false) s
      let s := if failed then s.loseDie d 0x0A else s.setDieLost d false
      (s.bump (rstCtr 3)).pulse 0x1009 (2 ^ d + 2 ^ 8 * bit01 failed))

/-! ### The repair-map delta (R498) -/

/-- DELTA_CLEAR (R498): a write of RST_DELTA_CLR; the delta is erased at the next tick. -/
def execDeltaClear (src value : Nat) (s : State) : Host.Outcome State Fault Refusal :=
  .next (s.accessed src R.RST_DELTA_CLR.addr (fun s =>
    s.keyed value 0x96 (fun s => s.setFlag R.RST_DELTA_STATUS.clear_pending true)))

/-- The delta is erased at the tick; substitutions in force stay. -/
def State.deltaClearTick (s : State) : State :=
  if !s.flag R.RST_DELTA_STATUS.clear_pending then s
  else
    let s := { s with rst := { s.rst with delta := [] } }
    ((s.setFlag R.RST_DELTA_STATUS.clear_pending false).setFld R.RST_DELTA_STATUS.entries 0).bump (rstCtr 6)

/-! ### Resets of the package (Tables 20-3 and 20-4) -/

/-- The register words of the record store. -/
def recordReg (a : Nat) : Bool := a == R.THM_SD_0.addr || a == R.THM_SD_1.addr || a == R.THM_SD_2.addr

/-- The register words that a device soft reset keeps beside these: HKA, BDA, TOD and the event controller's owners, the Bittern's state,
substitution maps and unit states, the scratch word, and the device-wide profile. -/
def softReg (a : Nat) : Bool :=
  ((addrPort a).isNone && (addrBlock a == 3 || addrBlock a == 4 || addrBlock a == 5 || addrBlock a == 13))
    || a == R.MEM_BTN_STATUS.addr || a == R.GLB_SCRATCH.addr || a == R.GLB_PROFILE.addr || a == R.GLB_QE_SPARE_MAP.addr
    || a == R.GLB_QE_STATE.addr || (R.GLB_D2D_LANE_MAP.addr 0 ≤ a && a ≤ R.GLB_D2D_LANE_MAP.addr 3) || unitReg a

/-- The failed sensors, which a soft reset keeps (R467). -/
def State.keepSensors (s old : State) : State :=
  (List.range 30).foldl (fun s i =>
    if old.flag (R.THM_SENSOR.failed i) then
      (s.setFlag (R.THM_SENSOR.failed i) true).setFld (R.THM_SENSOR.fail_why i) (old.fld (R.THM_SENSOR.fail_why i))
    else s) s

/-- The level inputs of blocks that a soft reset clears go inactive; the shutdown record and the bias outputs keep theirs. -/
def State.dropLevels (s : State) : State :=
  s.listedSources.foldl (fun s id =>
    if levelListed id && id ≠ 0x1049 && !(0x1068 ≤ id && id < 0x1070) && (s.src id).input then s.sourceInput id false 0 else s) s

/-- The firmware loader after a reset of the package: the flash stays; the measurement register and the count of activations as R520 and
R522 state. -/
def FwState.afterReset (w : FwState) (k : ResetKind) : FwState :=
  { FwState.reset with
    slots := w.slots, copies := w.copies, measure := if k = .soft then w.measure else 0,
    activations := if k = .powerOn then 0 else w.activations }

/-- The last_reset code of a kind. -/
def resetCode : ResetKind → Nat
  | .powerOn => 0
  | .resetN => 1
  | .soft => 2

/-- The remap words that start-up does not replace by a spare row: those of words that a full delta does not list. They stay until the next power-on or
RESET_N (R13, R329). -/
def keptRemaps (s : State) : Tab Nat := s.mem.remap.filter (fun e => !s.rst.delta.contains ⟨5, e.1 / 8, e.2⟩)

/-- MEM_REMAP_FREE follows the remap words. -/
def State.remapStatus (s : State) : State :=
  (s.setFld R.MEM_REMAP_FREE.free_words (2048 - s.mem.remap.length)).setFld R.MEM_REMAP_FREE.full_banks
    (min 255 ((List.range 256).filter (fun b => (freeRemap s b).isNone)).length)

/-- What is left of the device after a reset of the package of a kind: the record store and the flash, and for a soft reset what Table 20-4
keeps. -/
def packageBase (s : State) (k : ResetKind) : State :=
  let soft := k = .soft
  let regs := s.regs.filter (fun e => recordReg e.1 || (decide soft && softReg e.1))
  { State.reset with
    pending := s.pending, regs := regs, snap0 := regs, snap1 := regs, snap2 := regs, snap3 := regs, tick := s.tick, out := s.out, freeCtr := s.freeCtr,
    fc := if soft then s.fc else 0, ev := if soft then s.ev else .reset,
    ctr := if soft then { CtrState.reset with counters := s.ctr.counters } else .reset,
    hif := if soft then { HifState.reset with bme := s.hif.bme } else .reset,
    mem := match k with
      | .soft => { MemState.reset with bittern := s.mem.bittern, btnSeq := s.mem.btnSeq, remap := keptRemaps s }
      | .resetN => { MemState.reset with btnSeq := s.mem.btnSeq }
      | .powerOn => .reset,
    rst := { RstState.reset with
      delta := s.rst.delta, inForce := if soft then s.rst.inForce else [], laneDown := if soft then s.rst.laneDown else [],
      resetLow := s.rst.resetLow, refValid := s.rst.refValid },
    hk := if soft then s.hk else .reset, tod := if soft then s.tod else .reset,
    path := { PathState.reset with latches := if soft then s.path.latches.filter (fun e => addrBlock (e.1 % 2 ^ 26) = 13
      && (addrPort (e.1 % 2 ^ 26)).isNone) else [] },
    thm := if soft then { ThmState.reset with devRun := s.thm.devRun } else .reset, fw := s.fw.afterReset k }

/-- The package is reset: start-up is at step 2 unless RESET_N is low (Table 20-3). -/
def State.packageReset (old : State) (k : ResetKind) : State :=
  let s := packageBase old k
  let s := if k = .soft then (((s.remapStatus.keepSensors old).eventsHubReset).dropLevels).forPorts (fun s p =>
    (s.showFc p).setFlag (R.CNV_STATUS.ref_hold p) (refSensorFailed s p)) else s
  let s := (s.setFld R.RST_DELTA_STATUS.entries s.rst.delta.length).setFlag R.THM_STATUS.sd_record (old.flag R.THM_STATUS.sd_record)
  let s := (s.setFld R.RST_STATUS.last_reset (resetCode k)).setFld R.FWU_STATUS.floor (old.fld R.FWU_STATUS.floor)
  let s := if k = .soft then s else s.level 0x1049 (s.flag R.THM_STATUS.sd_record) (s.fld R.THM_SD_0.cause)
  s.setFld R.RST_STATUS.stage (if s.rst.resetLow then 0 else 1)

/-- The package is in thermal shutdown and still too hot to leave it (R479). -/
def tooHot (s : State) : Bool :=
  s.flag R.GLB_STATUS.pkg_fenced && decide ((8 * (s.fld (R.THM_THR.theta 2) : Int) - 8 * (s.fld (R.THM_THR.hyst 2) : Int))
    ≤ signedOf 12 (s.fld R.THM_STATUS.tmax))

/-- A reset of the package arrives: it is performed, or held while the package is too hot (R479). -/
def State.resetPackage (s : State) (k : ResetKind) : State :=
  if tooHot s then ({ s with thm := { s.thm with heldReset := some k } } : State).setFlag R.RST_STATUS.shutdown_hold true
  else s.packageReset k

/-- DEVICE_SOFT_RESET (R358): a write of HIF_SOFT_RESET. Every function undergoes steps 1 to 4 of R356, and keeps Bus Master Enable. A wrong
key counts with the writes that PF0's host interface ignores. -/
def execDeviceSoftReset (src value : Nat) (s : State) : Host.Outcome State Fault Refusal :=
  .next (s.accessed src R.HIF_SOFT_RESET.addr (fun s =>
    if bitsOf value 7 0 ≠ 0xD5 then s.bump (hifCtr 0 7)
    else if !bitAt value 31 then s
    else
      let bme := s.hif.bme
      let s := (List.range 9).foldl (fun s f => (s.flrCommands f).resetMsix f) s
      let s := ({ s with hif := { s.hif with bme := bme } } : State).bump (rstCtr 4)
      s.resetPackage .soft))

/-- POWER_ON (R488): the supplies have become valid. -/
def execPowerOn (s : State) : Host.Outcome State Fault Refusal := .next (s.resetPackage .powerOn)

/-- RESET_N (R543): the pin has been low for 1 µs. -/
def execResetN (s : State) : Host.Outcome State Fault Refusal :=
  .next (({ s with rst := { s.rst with resetLow := true } } : State).resetPackage .resetN)

/-- RESET_N_RELEASE (R543): the pin rises, and start-up goes on from step 2, or stays held by R479. -/
def execResetNRelease (s : State) : Host.Outcome State Fault Refusal :=
  .next (
    if !s.rst.resetLow then s
    else
      let s := { s with rst := { s.rst with resetLow := false } }
      if s.flag R.RST_STATUS.shutdown_hold || s.fld R.RST_STATUS.stage ≠ 0 then s else s.setFld R.RST_STATUS.stage 1)

/-- AON_BROWNOUT (R542): a power-on reset at once, since the always-on domain has lost what R479 measures; start-up waits in step 1 for
POWER_ON. -/
def execAonBrownout (s : State) : Host.Outcome State Fault Refusal := .next ((s.packageReset .powerOn).setFld R.RST_STATUS.stage 0)

/-! ### Start-up (R487 to R491) -/

/-- A hub step has failed: the device stays at that step (R490). -/
def startHeld (s : State) : Bool :=
  let c := s.fld R.RST_STATUS.fail_code
  c == 1 || c == 3 || c == 4

/-- A queue engine is out of service: each port it served is served by a good engine that serves none (R10, R11). -/
def qeField (n : Nat) : RegField := ⟨R.GLB_QE_SPARE_MAP.addr, 4 * n + 3, 4 * n⟩
def State.mapEngines (s : State) : State :=
  let faulty := s.fld R.GLB_QE_STATE.faulty
  let s := (List.range 8).foldl (fun (s : State) n =>
    if !bitAt faulty (s.fld (qeField n)) then s
    else
      match (List.range 9).find? (fun e => !bitAt faulty e && !(List.range 8).any (fun m => s.fld (qeField m) == e)) with
      | some e => s.setFld (qeField n) e
      | none => s) s
  s.setFld R.GLB_QE_STATE.in_service
    ((List.range 9).foldl (fun m e =>
      withBit m e (!bitAt faulty e && (List.range 8).any (fun n => s.fld (qeField n) == e))) 0)

/-- An entry of the repair maps is applied at start-up: `st` is the unit state 3 for a fuse and 4 for the delta (R9). Rows of SRAM are replaced
without a register of their own (R329). -/
def State.applyEntry (s : State) (st : Nat) (e : DeltaEntry) : State :=
  let p : Port := Fin.ofNat 8 e.scope
  let s := { s with rst := { s.rst with inForce := s.rst.inForce.filter (· ≠ e) ++ [e] } }
  match e.cls with
  | 0 => s.setFld (R.CNV_UNIT.state p (e.unit % 36)) st
  | 1 => s.setFld (unitState p .engine (e.unit % 22)) st
  | 2 => s.setFld (unitState p .decoder (e.unit % 9)) st
  | 3 => (s.setFld R.GLB_QE_STATE.faulty (withBit (s.fld R.GLB_QE_STATE.faulty) (e.unit % 9) true)).mapEngines
  | 4 =>
    let s := (s.setFlag (R.GLB_D2D_LANE_MAP.spare_used (e.scope % 4)) true).setFld (R.GLB_D2D_LANE_MAP.replaced (e.scope % 4)) e.unit
    { s with rst := { s.rst with laneDown := s.rst.laneDown ++ [e.scope % 4 * 128 + e.unit] } }
  | _ => s

/-- Step 3: the fuse maps, then the delta (R9). A soft reset finds the substitutions of the maps in force already. -/
def State.repairMaps (s : State) (fused : List DeltaEntry) : State :=
  let new := fun (s : State) (e : DeltaEntry) => !s.rst.inForce.contains e
  let s := fused.foldl (fun s e => if new s e then s.applyEntry 3 e else s) s
  (s.rst.delta.foldl (fun s e => if new s e then s.applyEntry 4 e else s) s).engineFence

/-- Step 4: the line dies calibrate their ports and run the known-answer tests; a die that fails is lost (R69, R175, R490). -/
def State.selfCalibrate (s : State) (obs : StartObs) : State :=
  s.forPorts (fun s p =>
    if bitAt (s.fld R.GLB_STATUS.die_lost) (p.val / 4) then s
    else
      let units := ((obs.cal.find? (fun e => e.1 = p)).map Prod.snd).getD []
      let failed := ((obs.kat.find? (fun e => e.1 = p)).map Prod.snd).getD []
      (((s.startFg p).foreground p units).knownAnswerTests p failed).updateCeiling p)

/-- STARTUP_STEP_COMPLETE (R487, R490): a step of Table 20-1 ends with what it found. -/
def execStartupStepComplete (obs : StartObs) (s : State) : Host.Outcome State Fault Refusal :=
  .next (
    let stage := s.fld R.RST_STATUS.stage
    let hub := obs.fail == 1 || obs.fail == 3 || obs.fail == 4
    if s.rst.resetLow || s.flag R.RST_STATUS.shutdown_hold || startHeld s || stage = 0 || 5 ≤ stage
        || (stage = 3 && s.flag R.RST_STATUS.ref_missing) then s
    else if hub then s.setFld R.RST_STATUS.fail_code obs.fail
    else
      let s := s.setFld R.RST_STATUS.stage (stage + 1)
      let s := if obs.fail = 5 then (s.setFld R.RST_STATUS.fail_code 5).loseDie 0 0x0A
        else if obs.fail = 6 then (s.setFld R.RST_STATUS.fail_code 6).loseDie 1 0x0A else s
      if stage = 2 then
        let s := s.repairMaps obs.fused
        if obs.refValid then { s with rst := { s.rst with refValid := true } }
        else (({ s with rst := { s.rst with refValid := false } } : State).setFlag R.RST_STATUS.ref_missing true).setFld
          R.RST_STATUS.fail_code 2
      else if stage = 3 then s.selfCalibrate obs
      else if stage = 4 then s.channelsTrain obs.lpdUp
      else s)

/-- DEVICE_READY (R489): the pin and device_ready, `ms` after the supplies became valid. -/
def execDeviceReady (ms : Nat) (s : State) : Host.Outcome State Fault Refusal :=
  .next (
    if s.fld R.RST_STATUS.stage ≠ 5 || s.flag R.GLB_STATUS.pkg_fenced then s
    else
      let s := ((s.setFlag R.RST_STATUS.device_ready true).setFld R.RST_STATUS.stage 6).setFld R.RST_START_TIME.ready_ms (min ms 65535)
      (s.linkPower 0).linkPower 1)

/-- REFCLK_LOSS (R546): after start-up ref_missing reads 1; during it, step 4 waits (R489). -/
def execRefclkLoss (s : State) : Host.Outcome State Fault Refusal :=
  .next (
    let s := { s with rst := { s.rst with refValid := false } }
    if s.ready then s.setFlag R.RST_STATUS.ref_missing true else s)

/-- REFCLK_VALID (R489): start-up leaves its wait at step 4. After start-up ref_missing stays until the reset that R546 asks for. -/
def execRefclkValid (s : State) : Host.Outcome State Fault Refusal :=
  .next (
    let s := { s with rst := { s.rst with refValid := true } }
    if s.fld R.RST_STATUS.stage = 3 && s.flag R.RST_STATUS.ref_missing then
      let s := s.setFlag R.RST_STATUS.ref_missing false
      if s.fld R.RST_STATUS.fail_code = 2 then s.setFld R.RST_STATUS.fail_code 0 else s
    else s)

end Sys2Proof.Machine
end

