-- ==== Sys2Proof/Machine/Thermal.lean ====
section
/-!
DEFINITION. Temperature, voltage and power management (chapter 19).
-/
namespace Sys2Proof.Machine

/-- A counter of the thermal block (Table 19-5). -/
def thmCtr (i : Nat) : Nat := 0x2A00 + i

/-- A list in order, equal elements in the order they had. -/
def insertBy {α : Type} (le : α → α → Bool) (x : α) : List α → List α
  | [] => [x]
  | y :: t => if le x y then x :: y :: t else y :: insertBy le x t
def sortBy {α : Type} (le : α → α → Bool) (l : List α) : List α := l.foldr (insertBy le) []

/-- The signed reading of a 12-bit field, in 1/8 °C. -/
def State.eighths (s : State) (f : RegField) : Int := signedOf 12 (s.fld f)

/-- The die of a sensor (R466): 0 L0, 1 L1, 2 hub. -/
def sensorDie (i : Nat) : Nat := if i < 12 then 0 else if i < 24 then 1 else 2

/-! ### THERM_ALERT_N and the levels (R481, Table 19-5) -/

/-- The alert conditions, as THM_ALERT_MASK numbers them. -/
def alertConditions (s : State) : Nat :=
  bit01 (s.flag R.THM_STATUS.warning) + 2 * bit01 (s.flag R.THM_STATUS.throttle) + 4 * bit01 (s.fld R.THM_STATUS.blind ≠ 0)
    + 8 * bit01 ((List.range 30).any (fun i => s.flag (R.THM_SENSOR.failed i))) + 16 * bit01 (s.fld R.THM_STATUS.phase ≠ 0)

/-- THERM_ALERT_N follows. -/
def State.alertPin (s : State) : State :=
  { s with thm := { s.thm with
    alertLow := s.flag R.GLB_STATUS.pkg_fenced || (alertConditions s &&& s.fld R.THM_ALERT_MASK.mask) ≠ 0 } }

/-- The level sources of the thermal block follow, and THM_ENF. -/
def State.thmLevels (s : State) : State :=
  let t := s.fld R.THM_STATUS.tmax
  let ph := s.fld R.THM_STATUS.phase
  let low := s.thm.lowered.foldl (fun m (p : Port) => withBit m p.val true) 0
  let held := s.thm.lowered.foldl (fun m (p : Port) => withBit m p.val (s.fld (R.PRT_MODE_STATUS.thermal_mode p) == 1)) 0
  let s := (s.setFld R.THM_ENF.lowered low).setFld R.THM_ENF.held held
  let s := s.setFld R.THM_ENF.grace_left (if ph = 1 then ceilDiv (s.thm.graceEnd - s.tick) 8 else 0)
  let s := ((s.level 0x1040 (s.flag R.THM_STATUS.warning) t).level 0x1041 (ph == 1) t).level 0x1042 (ph ≠ 0) (ph + 2 ^ 8 * low)
  (s.level 0x1044 (s.fld R.THM_STATUS.blind ≠ 0) (s.fld R.THM_STATUS.blind)).alertPin

/-! ### Shutdown (R32, R478, R480) -/

/-- The shutdown record takes a shutdown: what it holds stays, and its count rises. -/
def State.writeRecordSd (s : State) (cause source reading : Nat) : State :=
  let s := if s.flag R.THM_STATUS.sd_record then s
    else
      let s := ((s.setFld R.THM_SD_0.cause cause).setFld R.THM_SD_0.source source).setFld R.THM_SD_0.reading reading
      ((s.setFld R.THM_SD_1.fc_lo s.fc).setFld R.THM_SD_2.fc_hi (s.fc / 2 ^ 32)).setFlag R.THM_STATUS.sd_record true
  (s.addFldSat R.THM_SD_2.count 1).level 0x1049 true (s.fld R.THM_SD_0.cause)

/-- A port of a fenced package: no light, no reception, and its region reset is overridden (R32, R496). -/
def State.packagePort (s : State) (p : Port) : State :=
  let s := ((s.setDisCause p 6 true).setFramer p .none).haltSluice p true
  ((s.modMode p (fun m => { m with holdLeft := none, txStart := false, txWarm := false })).modReset p (fun _ =>
    { warmReq := false, coldReq := false, active := none, doneAt := 0 })).resetStatus p

/-- The package is fenced (R32): TX_DISABLE_N low on every port, DEVICE_READY low, the record written, the bias outputs safe. -/
def State.packageFence (s : State) (cause source reading : Nat) : State :=
  let s := (s.setFlag R.GLB_STATUS.pkg_fenced true).setFlag R.RST_STATUS.device_ready false
  let s := (s.forPorts State.packagePort).bdaPackage
  let s := (s.setFld R.RST_HUB_STATUS.die_in_reset 0).setFld R.RST_HUB_STATUS.hub_in_reset 0
  ((s.writeRecordSd cause source reading).bump (thmCtr 11)).alertPin

/-- THM_SD_CLR (R480): a keyed write clears the record with its count. -/
def execThmSdClr (src value : Nat) (s : State) : Host.Outcome State Fault Refusal :=
  .next (s.accessed src R.THM_SD_CLR.addr (fun s =>
    if bitsOf value 7 0 ≠ 0x5A || !bitAt value 31 then s
    else
      let s := ((s.setReg R.THM_SD_0.addr 0).setReg R.THM_SD_1.addr 0).setReg R.THM_SD_2.addr 0
      (s.setFlag R.THM_STATUS.sd_record false).level 0x1049 false 0))

/-! ### Sensors (R467 to R469) -/

/-- The median of a list, the mean of the middle two of an even number; none of an empty list. In 1/16 °C, to stay whole. -/
def median16 (l : List Int) : Option Int :=
  let l := sortBy (fun a b => decide (a ≤ b)) l
  match l[(l.length - 1) / 2]?, l[l.length / 2]? with
  | some a, some b => some (a + b)
  | _, _ => none

/-- The failures of a reading that need no other sensor (codes 1 and 2). -/
def sensorCode (x : Bool × Int) : Nat := if x.1 then 1 else if x.2 < -400 || 1200 < x.2 then 2 else 0

/-- A sensor that has not failed, with its reading. -/
def goodSensors (s : State) (l : List (Bool × Int)) : List (Nat × Int) :=
  (l.take 30).zipIdx.filterMap (fun e =>
    if s.flag (R.THM_SENSOR.failed e.2) || sensorCode e.1 ≠ 0 then none else some (e.2, e.1.2))

/-- The reading is more than 20 °C from the median of the other valid sensors of its die. -/
def deviates (good : List (Nat × Int)) (i : Nat) (x : Int) : Bool :=
  match median16 ((good.filter (fun e => e.1 ≠ i && sensorDie e.1 = sensorDie i)).map Prod.snd) with
  | some m => decide (320 < (2 * x - m).natAbs)
  | none => false

/-- A sensor fails: its flag, the event, and the trim of the ports it is assigned to is held (R85). -/
def State.sensorFails (s : State) (i code : Nat) : State :=
  let s := ((s.setFlag (R.THM_SENSOR.failed i) true).setFld (R.THM_SENSOR.fail_why i) code).setFlag (R.THM_SENSOR.valid i) false
  let s := (s.bump (thmCtr 6)).pulse 0x1043 i
  s.forPorts (fun s p => if s.fld (R.CNV_REF_TRIM.sensor_id p) = i then s.holdTrim p true else s)

/-- One sensor of a measurement. -/
def State.sensor (s : State) (good : List (Nat × Int)) (i : Nat) (x : Bool × Int) : State :=
  if s.flag (R.THM_SENSOR.failed i) then s
  else
    let c := sensorCode x
    let run := if c = 0 && deviates good i x.2 then Tab.get (fun _ => 0) s.thm.devRun i + 1 else 0
    let s := { s with thm := { s.thm with devRun := Tab.set (fun _ => 0) s.thm.devRun i run } }
    if c ≠ 0 then s.sensorFails i c
    else if 3 ≤ run then s.sensorFails i 3
    else (s.setFlag (R.THM_SENSOR.valid i) true).setFld (R.THM_SENSOR.reading i) (codeOf 12 x.2)

/-- The binary logarithm of `m / 2^60`, which lies in [1, 2), by `n` binary places. -/
def log2Frac : Nat → Nat → Nat
  | 0, _ => 0
  | n + 1, m =>
    let q := m * m / 2 ^ 60
    if 2 ^ 61 ≤ q then 2 ^ n + log2Frac n (q / 2) else log2Frac n q

/-- The natural logarithm of a positive quotient, in 1/2^40. -/
def lnRatio (a b : Nat) : Int :=
  let e : Int := (Nat.log2 (2 ^ 64 * a / b) : Int) - 64
  let m := if 0 ≤ e then a * 2 ^ 60 / (b * 2 ^ e.toNat) else a * 2 ^ (60 + e.natAbs) / b
  (e * 2 ^ 40 + (log2Frac 40 m : Int)) * 762123384786 / 2 ^ 40

/-- The reading of a fall-back channel in 1/8 °C from its voltages in nV and its param (Table 19-1): a remote diode by the mean of its pairs, a
thermistor by its divider. None where the formula gives no temperature. The rounding to 1/8 °C and the 40 binary places of the logarithm are a
DESIGN CHOICE (log entry 93). -/
def fallbackReading (f param : Nat) (v : List Int) : Option Int :=
  let β : Int := param
  if f < 8 then
    let n : Int := v.length
    if param = 0 || v = [] then none
    else some (roundDiv 2 (800000 * v.sum - 21852 * n * β * 238900) (10 * v.length * param * 238900))
  else
    match v with
    | [x] =>
      if param = 0 || x ≤ 0 || 1200000000 ≤ x then none
      else
        let d := 100 * β * 2 ^ 40 + 29815 * lnRatio x.toNat (1200000000 - x).toNat
        if d ≤ 0 then none else some (roundDiv 2 (80 * 29815 * β * 2 ^ 40 - 21852 * d) (10 * d.toNat))
    | _ => none

/-- One fall-back channel of a measurement (R468): one that was valid and gives no voltages has failed. Voltages to which Table 19-1 gives no
temperature leave a free value. -/
def State.fallback (s : State) (f : Nat) (x : Option (List Int)) : State :=
  let was := s.flag (R.THM_FB_VAL.valid f)
  match s.flag (R.THM_FB_CFG.en f), x with
  | true, some v =>
    let s := s.setFlag (R.THM_FB_VAL.valid f) true
    match fallbackReading f (s.fld (R.THM_FB_CFG.param f)) v with
    | some r => s.setFld (R.THM_FB_VAL.reading f) (codeOf 12 (clampInt (-2048) 2047 r))
    | none => s.nextOpen.setFld (R.THM_FB_VAL.reading f) s.openNat
  | en, _ =>
    let s := s.setFlag (R.THM_FB_VAL.valid f) false
    if en && was then s.pulse 0x1043 (32 + f) else s

/-- The readings that count, as (source, die, reading): sensors 0 to 29, then 32 + f. -/
def readings (s : State) : List (Nat × Nat × Int) :=
  ((List.range 30).filter (fun i => s.flag (R.THM_SENSOR.valid i))).map (fun i => (i, sensorDie i, s.eighths (R.THM_SENSOR.reading i)))
    ++ ((List.range 16).filter (fun f => s.flag (R.THM_FB_VAL.valid f))).map (fun f =>
      (32 + f, s.fld (R.THM_FB_CFG.die f), s.eighths (R.THM_FB_VAL.reading f)))

/-- The highest reading and the lowest-numbered source that gives it. -/
def highest (l : List (Nat × Nat × Int)) : Option (Nat × Int) :=
  l.foldl (fun (m : Option (Nat × Int)) e => match m with
    | some x => if x.2 < e.2.2 then some (e.1, e.2.2) else m
    | none => some (e.1, e.2.2)) none

/-- The blind dies (R469), as a mask. -/
def blindMask (l : List (Nat × Nat × Int)) : Nat :=
  (List.range 3).foldl (fun m d => withBit m d (!l.any (fun e => e.2.1 == d))) 0

/-- The sensors and channels are read, and T_max and the blind dies follow. Where no die gives a reading and blind_action is 0, the spec
gives no T_max: a free value. -/
def State.readSensors (s : State) (obs : ThermObs) : State :=
  let good := goodSensors s obs.sensors
  let s := (List.range 30).foldl (fun s i => match obs.sensors[i]? with
    | some x => s.sensor good i x
    | none => s) s
  let s := (List.range 16).foldl (fun s f => s.fallback f ((obs.fallbacks[f]?).getD none)) s
  let l := readings s
  let blind := blindMask l
  let s := s.setFld R.THM_STATUS.blind blind
  let atThrottle := blind ≠ 0 && s.flag R.THM_CTRL.blind_action
  let θ : Int := 8 * (s.fld (R.THM_THR.theta 1) : Int)
  match highest l, atThrottle with
  | some x, true => s.setFld R.THM_STATUS.tmax (codeOf 12 (max x.2 θ))
  | some x, false => s.setFld R.THM_STATUS.tmax (codeOf 12 x.2)
  | none, true => s.setFld R.THM_STATUS.tmax (codeOf 12 θ)
  | none, false => s.nextOpen.setFld R.THM_STATUS.tmax s.openNat

/-! ### Thresholds and cadence (R470, R471) -/

/-- A threshold and its clearing point, in 1/8 °C. -/
def threshold (s : State) (t : Nat) : Int := 8 * (s.fld (R.THM_THR.theta t) : Int)
def clearing (s : State) (t : Nat) : Int := threshold s t - 8 * (s.fld (R.THM_THR.hyst t) : Int)

/-- The state of a threshold. -/
def thrState (s : State) (t : Nat) : Bool :=
  match t with
  | 0 => s.flag R.THM_STATUS.warning
  | 1 => s.flag R.THM_STATUS.throttle
  | _ => s.thm.shutdown

/-- The state a threshold takes at a measurement. -/
def thrNext (s : State) (t : Nat) : Bool :=
  let x := s.eighths R.THM_STATUS.tmax
  if threshold s t ≤ x then true else if x < clearing s t then false else thrState s t

/-- T_max lies within 5 °C of a threshold, by the state that the threshold has before the measurement evaluates it. -/
def nearThreshold (s : State) (t : Nat) : Bool :=
  let x := s.eighths R.THM_STATUS.tmax
  if thrState s t then decide (x < clearing s t + 40) else decide (threshold s t - 40 ≤ x)

/-- The cadence and the three states. -/
def State.thresholds (s : State) : State :=
  let near := (List.range 3).any (nearThreshold s)
  let far := if near then 0 else s.thm.farRun + 1
  let fast := near || (s.flag R.THM_STATUS.fast && decide (far < 8))
  let w := thrNext s 0
  let h := thrNext s 1
  let d := thrNext s 2
  let s := { s with thm := { s.thm with farRun := min far 8, shutdown := d } }
  ((s.setFlag R.THM_STATUS.fast fast).setFlag R.THM_STATUS.warning w).setFlag R.THM_STATUS.throttle h

/-! ### Native throttle (R473 to R476) -/

/-- The ports in rank order. -/
def rankOf (s : State) (p : Port) : Nat := bitsOf (s.reg R.THM_PRIO.addr).toNat (4 * p.val + 2) (4 * p.val)
def byRank (s : State) : List Port := sortBy (fun p q => decide (rankOf s p ≤ rankOf s q)) (List.finRange 8)

/-- A lowering target for a mode. -/
def lowerable (s : State) (m : Nat) (p : Port) : Bool :=
  !s.fenced p && !s.inReset p && !bitAt (s.fld R.GLB_STATUS.die_lost) (p.val / 4) && decide (m < s.mode p)
    && decide (m < s.fld (R.PRT_MODE_STATUS.thermal_mode p))

/-- One step of LOWERING: the next port of the pass to COOL, else of the pass to HOLD; none is left, nothing. The next is due enf_step frames
on. -/
def State.lowerStep (s : State) : State :=
  let target := match (byRank s).find? (lowerable s 2), (byRank s).find? (lowerable s 1) with
    | some p, _ => some (p, 2)
    | none, some p => some (p, 1)
    | none, none => none
  let s := { s with thm := { s.thm with stepDue := some (s.tick + s.fld R.THM_CTRL.enf_step) } }
  match target with
  | some (p, m) =>
    let s := { s with thm := { s.thm with lowered := s.thm.lowered.filter (· ≠ p) ++ [p] } }
    (s.setFld (R.PRT_MODE_STATUS.thermal_mode p) m).bump (thmCtr 4)
  | none => s

/-- One release, of the port lowered last; with none left enforcement is IDLE. -/
def State.releaseStep (s : State) : State :=
  let s := { s with thm := { s.thm with stepDue := some (s.tick + s.fld R.THM_CTRL.enf_step) } }
  let s := match s.thm.lowered.getLast? with
    | some p =>
      let s := { s with thm := { s.thm with lowered := s.thm.lowered.dropLast } }
      (s.setFld (R.PRT_MODE_STATUS.thermal_mode p) 4).bump (thmCtr 5)
    | none => s
  if s.thm.lowered = [] then
    ({ s with thm := { s.thm with stepDue := none } } : State).setFld R.THM_STATUS.phase 0
  else s

/-- Enforcement at a measurement (Table 19-3). -/
def State.enforce (s : State) : State :=
  let hot := s.flag R.THM_STATUS.throttle
  match s.fld R.THM_STATUS.phase, hot with
  | 0, true =>
    let s := { s with thm := { s.thm with graceEnd := s.tick + 8 * s.fld R.THM_CTRL.grace_ms, stepDue := none } }
    (s.setFld R.THM_STATUS.phase 1).bump (thmCtr 2)
  | 1, false => (s.setFld R.THM_STATUS.phase 0).bump (thmCtr 3)
  | 2, true => if s.thm.stepDue.isNone then s.lowerStep else s
  | 2, false =>
    ({ s with thm := { s.thm with stepDue := none, holdEnd := s.tick + s.fld R.THM_RELEASE.release_frames } } : State).setFld
      R.THM_STATUS.phase 3
  | 3, true => (s.setFld R.THM_STATUS.phase 2).lowerStep
  | 4, true => (s.setFld R.THM_STATUS.phase 2).lowerStep
  | _, _ => s

/-- GRACE_EXPIRED (R473): the timer ends in GRACE; the first step comes with the next measurement. -/
def execGraceExpired (s : State) : Host.Outcome State Fault Refusal :=
  .next (
    if s.fld R.THM_STATUS.phase ≠ 1 || s.tick < s.thm.graceEnd || s.flag R.GLB_STATUS.pkg_fenced then s
    else (({ s with thm := { s.thm with stepDue := none } } : State).setFld R.THM_STATUS.phase 2).thmLevels)

/-- ENFORCEMENT_STEP (R473): a step of LOWERING or a release is due. -/
def execEnforcementStep (s : State) : Host.Outcome State Fault Refusal :=
  .next (
    let due := match s.thm.stepDue with
      | some t => decide (t ≤ s.tick)
      | none => false
    if !due || s.flag R.GLB_STATUS.pkg_fenced then s
    else
      match s.fld R.THM_STATUS.phase with
      | 2 => s.lowerStep.thmLevels
      | 4 => s.releaseStep.thmLevels
      | _ => s)

/-- HOLDING_EXPIRED (R473): RELEASING begins, with a release at once (Table 19-4). -/
def execHoldingExpired (s : State) : Host.Outcome State Fault Refusal :=
  .next (
    if s.fld R.THM_STATUS.phase ≠ 3 || s.tick < s.thm.holdEnd || s.flag R.GLB_STATUS.pkg_fenced then s
    else ((s.setFld R.THM_STATUS.phase 4).releaseStep).thmLevels)

/-! ### Compatibility throttle (R477) -/

/-- The limit code moves. -/
def State.compatCode (s : State) (c : Nat) : State :=
  if c = s.fld R.THM_COMPAT.code then s else ((s.setFld R.THM_COMPAT.code c).bump (thmCtr 7)).pulse 0x1045 c

/-- The throttle state sets at a measurement: the code rises, and every 64 frames from here. -/
def State.compatSet (s : State) : State :=
  ({ s with thm := { s.thm with compatDue := s.tick + 64 } } : State).compatCode (min 15 (s.fld R.THM_COMPAT.code + 1))

/-- COMPAT_CODE_STEP (R477): 64 frames have passed. -/
def execCompatCodeStep (s : State) : Host.Outcome State Fault Refusal :=
  .next (
    let c := s.fld R.THM_COMPAT.code
    if !s.flag R.THM_CTRL.compat_en || s.tick < s.thm.compatDue || s.flag R.GLB_STATUS.pkg_fenced then s
    else
      let s := { s with thm := { s.thm with compatDue := s.tick + 64 } }
      s.compatCode (if s.flag R.THM_STATUS.throttle then min 15 (c + 1) else c - 1))

/-! ### Speed monitors and AVS (R483 to R485) -/

/-- A monitor counts: its region is not in OFF or HOLD, nor on a lost die. -/
def monitored (s : State) (m : Nat) : Bool :=
  if h : m < 16 then
    let p : Port := ⟨m / 2, by omega⟩
    s.receiving p && !bitAt (s.fld R.GLB_STATUS.die_lost) (p.val / 4)
  else true

/-- The rail of a monitor. -/
def railOf (m : Nat) : Nat := if m < 8 then 0 else if m < 16 then 1 else 2

/-- The monitors show their margins. -/
def State.monitors (s : State) (margins : List Int) : State :=
  (margins.take 22).zipIdx.foldl (fun (s : State) (e : Int × Nat) =>
    (s.setFlag (R.THM_PMON.included e.2) (monitored s e.2)).setFld (R.THM_PMON.margin e.2) (codeOf 8 e.1)) s

/-- The lowest margin of a rail. -/
def lowMargin (s : State) (r : Nat) (margins : List Int) : Option Int :=
  (((margins.take 22).zipIdx.filter (fun e => railOf e.2 = r && monitored s e.2)).map Prod.fst).min?

/-- The target a rail takes: up 5 mV below margin_lo, down above margin_hi, from 650 to 850 mV. -/
def avsTarget (s : State) (r : Nat) (margins : List Int) : Nat :=
  let t := s.fld (R.THM_AVS_TARGET.target_mv r)
  if s.thm.avsOff.contains r then t
  else
    match lowMargin s r margins with
    | none => t
    | some m =>
      if m < (s.fld (R.THM_AVS_MARGIN.margin_lo r) : Int) then max t (min 850 (t + 5))
      else if (s.fld (R.THM_AVS_MARGIN.margin_hi r) : Int) < m then min t (max 650 (t - 5))
      else t

/-- at_min and at_max of a rail follow its target. -/
def State.avsEnds (s : State) (r : Nat) : State :=
  let t := s.fld (R.THM_AVS_TARGET.target_mv r)
  (s.setFlag (R.THM_AVS_STATUS.at_min r) (t ≤ 650)).setFlag (R.THM_AVS_STATUS.at_max r) (850 ≤ t)

/-- A voltage write leaves on the AVSBus; the target counts as acknowledged until AVS_WRITE_FAILED says otherwise. -/
def State.avsWrite (s : State) (r mv : Nat) : State :=
  let s := { s with thm := { s.thm with avsPrev := Tab.set (fun _ => 0) s.thm.avsPrev r (s.fld (R.THM_AVS_TARGET.target_mv r)) } }
  (((s.setFld (R.THM_AVS_TARGET.target_mv r) mv).avsEnds r).bump (thmCtr 8)).emit (.avs r mv)

/-- Monitors below 0 for 8 consecutive measurements of the slow cadence (R485). -/
def State.negativeMargins (s : State) (margins : List Int) : State :=
  (margins.take 22).zipIdx.foldl (fun (s : State) (e : Int × Nat) =>
    let n := if e.1 < 0 && monitored s e.2 then Tab.get (fun _ => 0) s.thm.negRun e.2 + 1 else 0
    let s := { s with thm := { s.thm with negRun := Tab.set (fun _ => 0) s.thm.negRun e.2 (min n 9) } }
    if n = 8 then (s.bump (thmCtr 9)).pulse 0x1047 (railOf e.2) else s) s

/-- AVS at a measurement of the slow cadence: low margins, then rises, then falls (R484). -/
def State.avsTick (s : State) (margins : List Int) : State :=
  let s := (List.range 3).foldl (fun s r => match lowMargin s r margins with
    | some m => s.setFld (R.THM_AVS_STATUS.low_margin r) (codeOf 8 m)
    | none => s) s
  let s := s.negativeMargins margins
  if !s.flag R.THM_CTRL.avs_en || !s.ready then s
  else
    let l := (List.range 3).map (fun r => (r, avsTarget s r margins, s.fld (R.THM_AVS_TARGET.target_mv r)))
    let s := (l.filter (fun e => e.2.2 < e.2.1)).foldl (fun s e => s.avsWrite e.1 e.2.1) s
    (l.filter (fun e => e.2.1 < e.2.2)).foldl (fun s e => s.avsWrite e.1 e.2.1) s

/-- AVS_WRITE_FAILED (R485): the last acknowledged target is held, and the rail's AVS is faulted. -/
def execAvsWriteFailed (rail : Nat) (s : State) : Host.Outcome State Fault Refusal :=
  .next (
    let r := rail % 3
    let old := Tab.get (fun _ => 0) s.thm.avsPrev r
    if old = 0 then s
    else
      let s := { s with thm := { s.thm with
        avsPrev := Tab.set (fun _ => 0) s.thm.avsPrev r 0, avsOff := s.thm.avsOff.filter (· ≠ r) ++ [r] } }
      let s := ((s.setFld (R.THM_AVS_TARGET.target_mv r) old).avsEnds r).setFlag (R.THM_AVS_STATUS.fault r) true
      (s.bump (thmCtr 9)).pulse 0x1047 r)

/-! ### A measurement (R470) -/

/-- A reset held by R479 proceeds at the first measurement below the clearing point of the shutdown threshold. -/
def State.releaseReset (s : State) : State :=
  match s.thm.heldReset with
  | some k => if tooHot s then s else s.packageReset k
  | none => s

/-- A measurement falls due at this tick: the fast cadence, every 8th frame, or the always-on timer of a fenced package (R470, R479). -/
def measureDue (s : State) : Bool := s.flag R.THM_STATUS.fast || s.fc % 8 == 0 || s.flag R.GLB_STATUS.pkg_fenced

/-- THERMAL_MEASUREMENT (R470): sensors and channels, T_max, cadence, thresholds, enforcement or the limit code, AVS, trim limits. In a package
fence only the readings, the thresholds and a held reset go on (R479). -/
def execThermalMeasurement (obs : ThermObs) (s : State) : Host.Outcome State Fault Refusal :=
  .next (if !measureDue s then s else
    let s := s.bump (thmCtr 0)
    let s := if s.flag R.THM_STATUS.fast then s.bump (thmCtr 1) else s
    let s := s.readSensors obs
    let was := s.flag R.THM_STATUS.throttle
    let s := s.thresholds
    if s.flag R.GLB_STATUS.pkg_fenced then (s.thmLevels).releaseReset
    else
      let s := s.monitors obs.margins
      let s := if s.flag R.THM_CTRL.compat_en then (if s.flag R.THM_STATUS.throttle && !was then s.compatSet else s) else s.enforce
      let s := if s.fc % 8 = 0 then s.avsTick obs.margins else s
      let s := obs.pllLimit.foldl (fun s i => s.pulse 0x1048 i) s
      let s := s.thmLevels
      if s.thm.shutdown then
        let src := ((highest (readings s)).map Prod.fst).getD 0
        s.packageFence 1 src (s.fld R.THM_STATUS.tmax)
      else s)

/-! ### Supplies (R482, R542) -/

/-- The nominal voltage of a rail in mV, and its operating range in % (Table 23-1): rails 0 to 2 are those of AVS, at their targets; 3 VDDA_LN,
4 VDD_SD, 5 VDD_LP, 6 VDDQ_LP, 7 VDD_AON, 8 VDDIO_AON, 9 VDDIO, in the table's order (the numbers are a DESIGN CHOICE, log entry 93). -/
def railNominal (s : State) (rail : Nat) : Nat × Nat :=
  if rail < 3 then (s.fld (R.THM_AVS_TARGET.target_mv rail), 3)
  else ([(900, 3), (800, 3), (750, 3), (500, 3), (800, 5), (1800, 5)])[rail - 3]?.getD (1800, 5)

/-- A sample of a rail in mV lies outside a window of `pct` % about the rail's nominal value. -/
def railOutside (s : State) (rail pct mv : Nat) : Bool :=
  let n := (railNominal s rail).1
  decide (pct * n < 100 * ((mv : Int) - (n : Int)).natAbs)

/-- VOLTAGE_WARNING (R482): a sample of a rail, which raises the event outside the window of warn_pct. -/
def execVoltageWarning (sample : RailSample) (s : State) : Host.Outcome State Fault Refusal :=
  .next (
    if railOutside s sample.rail (s.fld R.THM_VMON_CTL.warn_pct) sample.mv then (s.bump (thmCtr 10)).pulse 0x1046 (sample.rail % 256) else s)

/-- RAIL_FAULT (R482, R542): the last 8 samples of a rail by a die's monitor. Before DEVICE_READY a rail outside its operating range returns start-up
to step 1; after it 8 samples outside the window of fault_pct are a fault: a rail of a line die loses the die, and a rail of the hub (die 2) fences
the package with cause 2. -/
def execRailFault (rail : Nat) (run : RailRun) (s : State) : Host.Outcome State Fault Refusal :=
  .next (
    if s.flag R.GLB_STATUS.pkg_fenced then s
    else if !s.ready then
      if run.samples.any (railOutside s rail (railNominal s rail).2) then s.setFld R.RST_STATUS.stage 0 else s
    else if run.samples.length < 8 || !run.samples.all (railOutside s rail (s.fld R.THM_VMON_CTL.fault_pct)) then s
    else if run.die < 2 then s.loseDie run.die 0x0A
    else s.packageFence 2 (rail % 64) (s.fld R.THM_STATUS.tmax))

end Sys2Proof.Machine
end

