-- ==== Sys2Proof/Machine/Fw.lean ====
section
/-!
DEFINITION. Firmware, update and attestation (chapter 21).
-/
namespace Sys2Proof.Machine

/-! ### Verification (R502 to R504, Table 21-3) -/

/-- The sections of a bundle, as (offset, length, kind, digest). -/
def sections (b : List Byte) : List (Nat × Nat × Nat × List Byte) :=
  [(hdr b 0x20 4, hdr b 0x24 4, 1, (b.drop 0x30).take 64), (hdr b 0x28 4, hdr b 0x2C 4, 2, (b.drop 0x70).take 64)]

/-- The header is well formed (the first row of Table 21-3, without the fill). -/
def headerOk (b : List Byte) : Bool :=
  let total := hdrTotal b
  let ho := hdr b 0x20 4
  let hl := hdr b 0x24 4
  let lo := hdr b 0x28 4
  let ll := hdr b 0x2C 4
  decide (8192 ≤ b.length) && hdr b 0 4 == 0x48464C48 && hdr b 4 2 == 1 && zeros b 7 1 && decide (hdr b 0x16 2 < 4) && zeros b 0x1A 2
    && decide (16384 ≤ total) && decide (total ≤ 16777216) && zeros b 0xB0 80 && zeros b 0x1D33 717
    && (sections b).all (fun x => x.1 % 4096 == 0 && decide (8192 ≤ x.1) && decide (16 ≤ x.2.1) && decide (x.1 + x.2.1 ≤ total))
    && decide (hl ≤ 2 ^ 21) && decide (ll ≤ 2 ^ 18) && (decide (ho + hl ≤ lo) || decide (lo + ll ≤ ho))

/-- Every byte in neither the header nor a section is 0. -/
def fillOk (b : List Byte) : Bool :=
  (b.zipIdx.drop 8192).all (fun e => e.1 == 0 || (sections b).any (fun x => decide (x.1 ≤ e.2) && decide (e.2 < x.1 + x.2.1)))

/-- The bytes of a section. -/
def sectionBytes (b : List Byte) (x : Nat × Nat × Nat × List Byte) : List Byte := (b.drop x.1).take x.2.1

/-- A 64-byte digest as it stands in a bundle. -/
def digestBytes (d : BitVec 512) : List Byte := beBytes 64 d.toNat

/-- The key is the fused one and not revoked, and the signature is valid. -/
def signatureOk (b : List Byte) : Bool :=
  let k := hdr b 6 1
  let pk := (b.drop 0x100).take 2592
  decide (k < 4) && Config.sha3_512 pk == Config.fusedKeyDigest k && !Config.fusedKeyRevoked k
    && Config.mldsaVerify pk (b.take 0xB20) ((b.drop 0xB20).take 4627)

/-- The sections carry the bundle_id of the header, with their kind and length. -/
def sectionsMatch (b : List Byte) : Bool :=
  (sections b).all (fun x => let y := sectionBytes b x
    hdr y 0 8 == hdr b 8 8 && hdr y 8 4 == x.2.2.1 && hdr y 12 4 == x.2.1)

/-- The first check of Table 21-3 that a bundle fails, with its reason; `poison` says that a staged byte read as poison. -/
def verifyCode (floor : Nat) (b : List Byte) (poison : Bool) : Option Nat :=
  if !headerOk b || hdrTotal b ≠ b.length || !fillOk b then some 0x2D
  else if hdrSec b < floor then some 0x2E
  else if !signatureOk b then some 0x2F
  else if poison || !(sections b).all (fun x => digestBytes (Config.sha3_512 (sectionBytes b x)) == x.2.2.2) then some 0x30
  else if !sectionsMatch b then some 0x31
  else none

/-- The stepping of the device is listed (R504). -/
def steppingOk (b : List Byte) : Bool := bitAt (hdr b 0x16 2) (Config.fusedStepping)

/-- The first word of the staging area (R501). -/
def stagingWord : Nat := 0x0700_0000 / 32

/-! ### Offers, conflicts (R506, R507) -/

/-- An offer is recorded for a source (0 host, 1 port A, 2 port B), in place of an earlier one. -/
def State.recordOffer (s : State) (i version sec total digest : Nat) : State :=
  let s := (s.setFld (R.FWU_OFFER_0.fw_version i) version).setFld (R.FWU_OFFER_1.sec_version i) sec
  let s := s.setFlag (R.FWU_OFFER_1.valid i) true
  { s with fw := { s.fw with offers := Tab.put s.fw.offers i { digest := digest, totalLen := total } } }

/-- An offer record is cleared. -/
def State.clearOffer (s : State) (i : Nat) : State :=
  let s := (s.setReg (R.FWU_OFFER_0.addr i) 0).setReg (R.FWU_OFFER_1.addr i) 0
  { s with fw := { s.fw with offers := Tab.del s.fw.offers i } }

/-- The version and digest of the running bundle. -/
def running (s : State) : Option (Nat × Nat) := s.fw.run.map (fun r => (hdrVersion r.image, bundleDigest r.image))

/-- The version and digest of the session's bundle, as its offer or its header named them. -/
def sessionBundle (s : State) : Option (Nat × Nat) := if s.session = 0 then none else some (s.fw.version, s.fw.digest)

/-- The same version with a different digest. -/
def conflicts (s : State) (version digest : Nat) : Bool :=
  [running s, sessionBundle s].any (fun x => match x with
    | some (v, d) => v == version && d ≠ digest
    | none => false)

/-- A conflict is logged, with its source as event 0x10D3 numbers it. -/
def State.logConflict (s : State) (src version : Nat) : State :=
  ((s.setFld R.FWU_CONFLICT.fw_version version).bump (fwuCtr 5)).pulse 0x10D3 (src * 2 ^ 8)

/-- The digest is that of the running bundle. -/
def alreadyRuns (s : State) (digest : Nat) : Bool :=
  match running s with
  | some (_, d) => d == digest
  | none => false

/-- A message of channel 6 leaves on a side. -/
def State.fwSend (s : State) (side : Nat) (m : FwMsg) : State := s.aqSend side (.firmware m)

/-- A session opens in STAGING for a source (1 host, 2 port A, 3 port B). -/
def State.openSession (s : State) (src version sec total digest : Nat) : State :=
  let s := { s with fw := { s.fw with staged := [], version := version, secVersion := sec, totalLen := total, digest := digest, ending := none, cmd := none } }
  (((s.setFld R.FWU_STATUS.state 1).setFld R.FWU_STATUS.source src).setFld R.FWU_STAGED.staged 0).bump (fwuCtr 0)

/-- Bytes are staged behind those staged already. -/
def State.stage (s : State) (data : List Byte) : State :=
  let n := s.fw.staged.length
  let s := (List.range ((n + data.length + 31) / 32 - n / 32)).foldl (fun s i =>
    s.memWrite 3 (stagingWord + n / 32 + i) allBytes) s
  (({ s with fw := { s.fw with staged := s.fw.staged ++ data } } : State)).setFld R.FWU_STAGED.staged (n + data.length)

/-- A chain session in STAGING gives way to the host: its sender receives ABORT and its offer is recorded (R506). -/
def State.preempt (s : State) : State :=
  let i := s.fld R.FWU_STATUS.source - 1
  let d := s.fw.digest
  let s := s.fwSend (i - 1) (.abort 0x3A d)
  let s := s.recordOffer i s.fw.version s.fw.secVersion s.fw.totalLen d
  s.killSession 0x3A

/-- FW_OPEN (R506, R507): a session opens with the header as bytes 0 to 8,191. -/
def execFwOpen (iss : Issue) (header : List Byte) (s : State) : Host.Outcome State Fault Refusal :=
  .next (s.pf0Cmd iss [] (fun s =>
    let v := hdrVersion header
    let d := bundleDigest header
    let chain := decide (2 ≤ s.fld R.FWU_STATUS.source) && s.session == 1
    let opened := fun (s : State) => ((s.openSession 1 v (hdrSec header) (hdrTotal header) d).stage header).succeed iss 0 0
    if s.hubFenced 1 then s.refuse iss 0x1E
    else if header.length ≠ 8192 || !headerOk header then s.refuse iss 0x2D
    else if conflicts s v d then (s.logConflict 1 v).refuse iss 0x33
    else if alreadyRuns s d then s.refuse iss 0x34
    else if s.flag R.FWU_STATUS.confirm_pending then s.refuse iss 0x36
    else if s.session = 0 then opened s
    else if chain then opened s.preempt
    else ((s.recordOffer 0 v (hdrSec header) (hdrTotal header) d).bump (fwuCtr 1)).refuse iss 0x2B))

/-- A command of the host's session: refused with 0x1E while the hub memory region is fenced, and with 0x2C outside the states it takes. -/
def State.sessionCmd (s : State) (iss : Issue) (ops : List (Nat × Nat)) (ok : State → Bool) (k : State → State) : State :=
  s.pf0Cmd iss ops (fun s =>
    if s.hubFenced 1 then s.refuse iss 0x1E else if !ok s || s.fw.ending.isSome then s.refuse iss 0x2C else k s)

/-- The host's session is in STAGING. -/
def hostStaging (s : State) : Bool := s.session == 1 && s.fld R.FWU_STATUS.source == 1

/-- FW_WRITE (R505): bytes in strict order of offset. -/
def execFwWrite (iss : Issue) (op0 : Nat) (data : List Byte) (s : State) : Host.Outcome State Fault Refusal :=
  .next (s.sessionCmd iss [] hostStaging (fun s =>
    let n := s.fw.staged.length
    if op0 % 2 ^ 32 ≠ n || s.fw.totalLen < n + data.length then s.refuse iss 0x35
    else (s.stage data).succeed iss 0 0))

/-- FW_VERIFY (R503): verification starts; the command completes with it. -/
def execFwVerify (iss : Issue) (s : State) : Host.Outcome State Fault Refusal :=
  .next (s.sessionCmd iss [] hostStaging (fun s =>
    if s.fw.staged.length ≠ s.fw.totalLen then s.refuse iss 0x35
    else ({ s with fw := { s.fw with cmd := some iss } } : State).setFld R.FWU_STATUS.state 2))

/-- The command that waits for the session, if any, is refused, or succeeds. -/
def State.refuseCmd (s : State) (reason : Nat) : State :=
  match s.fw.cmd with
  | some i => ({ s with fw := { s.fw with cmd := none } } : State).refuse i reason
  | none => s
def State.succeedCmd (s : State) (r0 : Nat) : State :=
  match s.fw.cmd with
  | some i => ({ s with fw := { s.fw with cmd := none } } : State).succeed i r0 0
  | none => s

/-- A bundle is offered on a side that is UP, and forwarded from there on (R509). -/
def State.offerOn (s : State) (side : Nat) (b : List Byte) (ofSession : Bool) : State :=
  if s.fld (R.AQL_PORT_STATUS.state side) ≠ 2 then s
  else
    let s := s.fwSend side (.offer (hdrVersion b) (hdrSec b) (hdrTotal b) (bundleDigest b))
    { s with fw := { s.fw with fwd := Tab.put s.fw.fwd side { image := b, ofSession := ofSession, accepted := false } } }

/-- A verified bundle is offered on every side but the one it came from. -/
def State.forward (s : State) : State :=
  if !s.flag R.FWU_CTL.fwd_en then s
  else [0, 1].foldl (fun s side => if s.fld R.FWU_STATUS.source = side + 2 then s else s.offerOn side s.fw.staged true) s

/-- A verified bundle is on its way to activation at the next tick (R510). -/
def State.askActivation (s : State) (iss : Option Issue) : State :=
  ({ s with fw := { s.fw with cmd := iss, actReq := true } } : State).setFld R.FWU_STATUS.state 4

/-- VERIFY_DONE (R503, R504, R509): the checks pass or fail; a verified bundle is offered on the chain, and a chain session with chain_act
activates it at once, or ends with 0x32 when its stepping is not listed. -/
def execVerifyDone (s : State) : Host.Outcome State Fault Refusal :=
  .next (
    if s.session ≠ 2 then s
    else
      let b := s.fw.staged
      let poison := anyPoison s 3 stagingWord ((b.length + 31) / 32) allBytes
      match verifyCode (s.fld R.FWU_STATUS.floor) b poison with
      | some r => ((s.bump (fwuCtr 2)).refuseCmd r).endSession r
      | none =>
        let s := ((s.setFld R.FWU_STATUS.state 3).succeedCmd 0).forward
        if s.fld R.FWU_STATUS.source = 1 then s
        else if !steppingOk b then s.endSession 0x32
        else if s.flag R.FWU_CTL.chain_act then s.askActivation none
        else s)

/-- FW_ACTIVATE (R504, R510): captured at the next tick; it completes at the end of the activation. -/
def execFwActivate (iss : Issue) (s : State) : Host.Outcome State Fault Refusal :=
  .next (s.sessionCmd iss [] (fun s => s.session == 3) (fun s =>
    if !steppingOk s.fw.staged then s.refuse iss 0x32 else s.askActivation (some iss)))

/-- FW_ABORT (R505): a session in STAGING, VERIFYING or VERIFIED ends; Table 21-8 has no reason for it. A FW_VERIFY that waits is ABORTED. -/
def execFwAbort (iss : Issue) (s : State) : Host.Outcome State Fault Refusal :=
  .next (s.pf0Cmd iss [] (fun s =>
    if s.session = 0 || 3 < s.session || s.fw.ending.isSome then s.refuse iss 0x2C
    else
      let r := openReason s
      let s := match s.fw.cmd with
        | some i => s.abortCmd i
        | none => s
      (s.nextOpen.endSession r).succeed iss 0 0))

/-! ### Settings copies (R518) -/

/-- The current copy: the valid one of the higher generation. -/
def currentCopy (w : FwState) : Option Nat :=
  if w.copies[0].valid && (!w.copies[1].valid || decide (w.copies[1].gen ≤ w.copies[0].gen)) then some 0
  else if w.copies[1].valid then some 1 else none

/-- The loader with one copy changed. -/
def FwState.modCopy (w : FwState) (i : Nat) (f : Settings → Settings) : FwState :=
  { w with copies := Vector.ofFn (fun k => if k.val = i then f w.copies[k] else w.copies[k]) }

/-- The current copy is frozen and write-protected. -/
def FwState.freeze (w : FwState) : FwState :=
  match currentCopy w with
  | some i => w.modCopy i (fun c => { c with frozen := true, protect := true })
  | none => w

/-- The freeze and the protection are lifted. -/
def FwState.unfreeze (w : FwState) : FwState :=
  { w with copies := Vector.map (fun c => { c with frozen := false, protect := false }) w.copies }

/-- A copy still marked frozen is erased (R515, R517). -/
def FwState.eraseFrozen (w : FwState) : FwState :=
  { w with copies := Vector.map (fun c => if c.frozen then Settings.erased else { c with protect := false }) w.copies }

/-- Beside a frozen copy the other one, of the new format, is erased (R516). -/
def FwState.eraseNew (w : FwState) : FwState :=
  if w.copies[0].frozen then w.modCopy 1 (fun _ => .erased)
  else if w.copies[1].frozen then w.modCopy 0 (fun _ => .erased) else w

/-- The new HCF writes the other copy in its own format. -/
def FwState.writeNew (w : FwState) (fmt : Nat) (record : List Byte) : FwState :=
  let cur := currentCopy w
  let gen := match cur with
    | some i => if i = 0 then w.copies[0].gen else w.copies[1].gen
    | none => 0
  w.modCopy (match cur with | some i => 1 - i | none => 0) (fun _ =>
    { valid := true, fmt := fmt, frozen := false, gen := (gen + 1) % 2 ^ 32, protect := false, record := record })

/-! ### The pair that runs (R512, R513) -/

/-- The loader with one flash slot changed. -/
def FwState.modSlot (w : FwState) (i : Nat) (f : FlashSlot → FlashSlot) : FwState :=
  { w with slots := Vector.ofFn (fun k => if k.val = i then f w.slots[k] else w.slots[k]) }

/-- A slot's state is programmed. -/
def FlashSlot.program (x : FlashSlot) (st : SlotMark) : FlashSlot := { x with mark := x.mark.map (fun m => (m.1, st, m.2.2)) }

/-- The registers of the running bundle. -/
def State.runRegs (s : State) : State :=
  match s.fw.run with
  | some r =>
    let s := (s.setFld R.FWU_RUN_0.fw_version (hdrVersion r.image)).setFld R.FWU_RUN_1.sec_version (hdrSec r.image)
    (s.setFld R.FWU_RUN_2.id_lo (hdr r.image 8 4)).setFld R.FWU_RUN_3.id_hi (hdr r.image 12 4)
  | none =>
    (((s.setFld R.FWU_RUN_0.fw_version 0).setFld R.FWU_RUN_1.sec_version 0).setFld R.FWU_RUN_2.id_lo 0).setFld R.FWU_RUN_3.id_hi 0

/-- A pair runs from this tick: M is extended with its digest, and the sections are measured as loaded (R513). -/
def State.runPair (s : State) (r : RunBundle) : State :=
  let m := (Config.sha3_512 (beBytes 64 s.fw.measure ++ beBytes 64 (bundleDigest r.image))).toNat
  let meas := (sections r.image).map (fun x => (Config.sha3_512 (sectionBytes r.image x)).toNat)
  let s := { s with fw := { s.fw with
    run := some r, runFrom := s.tick, measure := m, hcf := (meas[0]?).getD 0, lmc := (meas[1]?).getD 0,
    activations := (s.fw.activations + 1) % 2 ^ 32 } }
  (s.setFlag R.RST_STATUS.fw_running true).runRegs

/-- confirm_pending and its source. -/
def State.confirmPending (s : State) (b : Bool) : State := (s.setFlag R.FWU_STATUS.confirm_pending b).level 0x10D5 b 0

/-- The floor rises to a sec_version. -/
def State.raiseFloor (s : State) (sec : Nat) : State :=
  if s.fld R.FWU_STATUS.floor < sec then (s.setFld R.FWU_STATUS.floor sec).bump (fwuCtr 9) else s

/-- The slot that does not run. -/
def inactiveSlot (s : State) : Nat := 1 - s.fld R.FWU_STATUS.active_slot

/-- A restoration that falls due at a tick (R512, R516): the previous pair runs, or none where there was none; a trial slot is rejected with
its settings; the session that was activating ends. -/
def State.restorePair (s : State) (r : Restore) : State :=
  let s := { s with fw := { s.fw with restore := none, prev := none, actAt := none, actReq := false } }
  let s := match r.bundle with
    | some b => (s.runPair b).setFld R.FWU_STATUS.active_slot b.slot
    | none => (({ s with fw := { s.fw with run := none } } : State).setFlag R.RST_STATUS.fw_running false).runRegs
  let s := (s.bump (fwuCtr 4)).pulse 0x10D2 r.reason
  let s := if r.reject then
      let w := ((s.fw.modSlot (inactiveSlot s) (fun x => x.program .rejected)).eraseNew).unfreeze
      (({ s with fw := { w with completed := true } } : State)).confirmPending false
    else { s with fw := s.fw.unfreeze }
  let s := match r.iss with
    | some i => s.succeed i 0 0
    | none => s
  if s.session = 4 || s.session = 5 then (s.refuseCmd r.reason).endSession r.reason else s

/-- A restoration waits for the next tick. -/
def State.askRestore (s : State) (r : Restore) : State := { s with fw := { s.fw with restore := some r } }

/-! ### The activation window (R510 to R512) -/

/-- HCF_READY (R510): the new HCF writes ready, at the latest before tick k + 16, with the settings copy it has written, if any. -/
def execHcfReady (settings : Option (Nat × List Byte)) (s : State) : Host.Outcome State Fault Refusal :=
  .next (
    match s.fw.actAt with
    | some k =>
      if s.tick < k + 1 || k + 16 ≤ s.tick || s.fw.restore.isSome then s
      else
        let s := match settings with
          | some (fmt, rec') => { s with fw := s.fw.writeNew fmt rec' }
          | none => s
        s.setFlag R.FWU_CORE.ready true
    | none => s)

/-- A fall-back onto the image of the other slot, which is verified first; a slot without a verified image counts (R516). -/
def State.restoreSlot (s : State) (i : Nat) (x : FlashSlot) : State :=
  match x.mark with
  | some m =>
    if verifyCode (s.fld R.FWU_STATUS.floor) x.image false = none && steppingOk x.image then
      s.askRestore { reason := 0x39, bundle := some { slot := i, seq := m.1, image := x.image }, iss := none, reject := true }
    else s.bump (fwuCtr 11)
  | none => s.bump (fwuCtr 11)

/-- A fall-back while a confirmation is pending: onto the pair that ran before, or onto the other slot. -/
def State.restorePrev (s : State) : State :=
  match s.fw.prev with
  | some b => s.askRestore { reason := 0x39, bundle := some b, iss := none, reject := true }
  | none => s.restoreSlot (inactiveSlot s) (if inactiveSlot s = 0 then s.fw.slots[0] else s.fw.slots[1])

/-- HCF_FALLBACK_REQ (R512, R516): in the window before ready, or while a confirmation is pending. -/
def execHcfFallbackReq (s : State) : Host.Outcome State Fault Refusal :=
  .next (
    let s := s.setFlag R.FWU_CORE.fallback_req true
    if s.fw.restore.isSome then s
    else if s.fw.actAt.isSome then
      if s.flag R.FWU_CORE.ready then s
      else s.askRestore { reason := 0x39, bundle := s.fw.run, iss := none, reject := false }
    else if !s.flag R.FWU_STATUS.confirm_pending then s
    else s.restorePrev)

/-- ACTIVATION_TIMEOUT (R512): tick k + 16 has come without ready. -/
def execActivationTimeout (s : State) : Host.Outcome State Fault Refusal :=
  .next (
    match s.fw.actAt with
    | some k =>
      if s.tick < k + 16 || s.flag R.FWU_CORE.ready || s.fw.restore.isSome then s
      else s.askRestore { reason := 0x38, bundle := s.fw.run, iss := none, reject := false }
    | none => s)

/-- A captured activation at its tick k: the cores stop, the current settings copy is frozen, FWU_CORE is clear (R510, R518). -/
def State.captureActivation (s : State) : State :=
  let s := s.setReg R.FWU_CORE.addr 0
  { s with fw := { s.fw.freeze with actReq := false, actAt := some s.tick, actFc := s.fc } }

/-- The activation succeeds at a tick: the new pair runs, the old one is held, and the inactive slot is erased for it (R510, R514). -/
def State.activationDone (s : State) : State :=
  let old := s.fw.run
  let i := if old.isSome then inactiveSlot s else s.fld R.FWU_STATUS.active_slot
  let seq := (match old with | some r => r.seq | none => 0) + 1
  let s := { s with fw := { s.fw with prev := old, actAt := none } }
  let s := s.runPair { slot := i, seq := seq, image := s.fw.staged }
  let s := { s with fw := s.fw.modSlot i (fun _ => { mark := none, image := [] }) }
  let s := if s.ready && s.fld R.RST_STATUS.stage = 6 then s.setFld R.RST_STATUS.stage 7 else s
  let s := ((s.setFld R.FWU_STATUS.state 5).bump (fwuCtr 3)).pulse 0x10D1 (hdrVersion s.fw.staged)
  s.succeedCmd (s.fw.actFc % 2 ^ 32)

/-- A fence of the hub memory region ends the use of the staging area (R501, R505, R512, R514). -/
def State.stagingLost (s : State) : State :=
  let st := s.session
  if st = 5 then
    (if s.fw.restore.isSome then s else s.askRestore { reason := 0x1E, bundle := s.fw.prev, iss := none, reject := false })
  else if st = 4 && s.fw.actAt.isSome then s
  else if st = 0 then s
  else (s.refuseCmd 0x1E).killSession 0x1E

/-- The firmware loader at a tick. -/
def State.fwTick (s : State) : State :=
  let due := s.fw.restore
  let s := if s.hubFenced 1 then s.stagingLost else s
  match due, s.fw.actAt with
  | some r, _ => s.restorePair r
  | none, some k => if s.flag R.FWU_CORE.ready && decide (s.tick ≤ k + 16) then s.activationDone else s
  | none, none => if s.fw.actReq then s.captureActivation else s

/-- PERSIST_DONE (R514): the slot has its trial record and the session ends; or the write has failed. -/
def execPersistDone (ok : Bool) (s : State) : Host.Outcome State Fault Refusal :=
  .next (
    match s.session, s.fw.run with
    | 5, some r =>
      if s.fw.restore.isSome || s.fw.ending.isSome then s
      else if !ok then s.askRestore { reason := 0x3B, bundle := s.fw.prev, iss := none, reject := false }
      else
        let s := { s with fw := s.fw.modSlot r.slot (fun _ =>
          { mark := some (r.seq, .trial, bundleDigest r.image), image := r.image }) }
        ((s.setFld R.FWU_STATUS.active_slot r.slot).confirmPending true).endSession 0
    | _, _ => s)

/-! ### Confirmation and fall-back (R515, R516) -/

/-- The trial slot that runs is confirmed, in the order of R515. -/
def State.confirm (s : State) : State :=
  let s := { s with fw := s.fw.modSlot (s.fld R.FWU_STATUS.active_slot) (fun x => x.program .confirmed) }
  let s := s.raiseFloor (s.fld R.FWU_RUN_1.sec_version)
  let s := { s with fw := { s.fw.eraseFrozen with prev := none, completed := true } }
  s.confirmPending false

/-- FW_CONFIRM (R515). -/
def execFwConfirm (iss : Issue) (s : State) : Host.Outcome State Fault Refusal :=
  .next (s.pf0Cmd iss [] (fun s =>
    if !s.flag R.FWU_STATUS.confirm_pending || s.fw.restore.isSome then s.refuse iss 0x37 else s.confirm.succeed iss 0 0))

/-- AUTO_CONFIRM (R515): confirm_frames frames of running have passed. -/
def execAutoConfirm (s : State) : Host.Outcome State Fault Refusal :=
  .next (
    let n := s.fld R.FWU_CTL.confirm_frames
    if !s.flag R.FWU_STATUS.confirm_pending || n = 0 || s.fw.restore.isSome || s.tick < s.fw.runFrom + n then s else s.confirm)

/-- FW_FALLBACK (R516): the previous pair comes back at the next tick, from memory or, verified first, from the other slot. The reason in
event 0x10D2 is open. -/
def execFwFallback (iss : Issue) (s : State) : Host.Outcome State Fault Refusal :=
  .next (s.pf0Cmd iss [] (fun s =>
    if !s.flag R.FWU_STATUS.confirm_pending || s.fw.restore.isSome then s.refuse iss 0x37
    else
      let r := openReason s
      match s.fw.prev with
      | some b => s.nextOpen.askRestore { reason := r, bundle := some b, iss := some iss, reject := true }
      | none =>
        let i := inactiveSlot s
        let x := if i = 0 then s.fw.slots[0] else s.fw.slots[1]
        if s.hubFenced 1 then s.refuse iss 0x1E
        else
          match x.mark, verifyCode (s.fld R.FWU_STATUS.floor) x.image false with
          | some m, none =>
            if !steppingOk x.image then (s.bump (fwuCtr 11)).refuse iss 0x32
            else s.nextOpen.askRestore { reason := r, bundle := some { slot := i, seq := m.1, image := x.image }, iss := some iss,
                                         reject := true }
          | _, some c => (s.bump (fwuCtr 11)).refuse iss c
          | none, none => (s.bump (fwuCtr 11)).refuse iss 0x37))

/-! ### Boot (R491, R517) -/

/-- A slot can be tried at boot. -/
def bootable (x : FlashSlot) : Bool :=
  match x.mark with
  | some (_, .rejected, _) => false
  | some _ => true
  | none => false

def slotSeq (x : FlashSlot) : Nat :=
  match x.mark with
  | some m => m.1
  | none => 0

/-- The slots to try, in descending seq. -/
def bootOrder (w : FwState) : List (Nat × FlashSlot) :=
  (if slotSeq w.slots[0] < slotSeq w.slots[1] then [(1, w.slots[1]), (0, w.slots[0])] else [(0, w.slots[0]), (1, w.slots[1])]).filter
    (fun e => bootable e.2)

/-- The slots are tried in turn: a trial slot that fails is rejected, and the first that passes boots. -/
def State.boot : List (Nat × FlashSlot) → State → State × Bool
  | [], s => (s, false)
  | (i, x) :: t, s =>
    let trial := match x.mark with
      | some (_, .trial, _) => true
      | _ => false
    if verifyCode (s.fld R.FWU_STATUS.floor) x.image false = none && steppingOk x.image then
      let s := (s.runPair { slot := i, seq := slotSeq x, image := x.image }).setFld R.FWU_STATUS.active_slot i
      if trial then (s.confirmPending true, true)
      else (({ (s.raiseFloor (hdrSec x.image)) with fw := s.fw.eraseFrozen } : State).confirmPending false, true)
    else State.boot t (if trial then { s with fw := s.fw.modSlot i (fun x => x.program .rejected) } else s)

/-- FW_RUNNING (R491, R517): step 7 of start-up, or a hub control region reset, boots a slot `ms` after the supplies became valid; when none
verifies, fail_code reads 7. -/
def execFwRunning (ms : Nat) (s : State) : Host.Outcome State Fault Refusal :=
  .next (
    if !s.ready || s.flag R.RST_STATUS.fw_running || s.fld R.RST_STATUS.stage < 6 then s
    else
      let (s, up) := State.boot (bootOrder s.fw) s
      if up then (s.setFld R.RST_STATUS.stage 7).setFld R.RST_START_TIME.fw_ms (min ms 65535)
      else s.setFld R.RST_STATUS.fail_code 7)

/-! ### Identity and attestation (R519 to R521) -/

/-- The report of Table 21-6 without its signature. -/
def attestReport (s : State) (nonce : List Byte) : List Byte :=
  let img := (s.fw.run.map RunBundle.image).getD []
  let flags := bit01 (s.flag R.FWU_STATUS.confirm_pending) + 2 * s.fld R.FWU_STATUS.active_slot + 4 * bit01 (s.session ≠ 0)
  (nonce ++ List.replicate 32 0).take 32 ++ leBytes 8 Config.fusedSerial ++ leBytes 1 Config.fusedStepping ++ leBytes 1 flags
    ++ leBytes 2 (s.fld R.FWU_STATUS.floor) ++ leBytes 4 (s.fld R.FWU_RUN_0.fw_version) ++ leBytes 2 (s.fld R.FWU_RUN_1.sec_version)
    ++ leBytes 6 0 ++ leBytes 4 (s.fld R.FWU_RUN_2.id_lo) ++ leBytes 4 (s.fld R.FWU_RUN_3.id_hi)
    ++ beBytes 64 (if s.fw.run.isSome then bundleDigest img else 0) ++ beBytes 64 s.fw.hcf ++ beBytes 64 s.fw.lmc ++ beBytes 64 s.fw.measure
    ++ leBytes 4 s.fw.activations ++ leBytes 8 (s.fc % 2 ^ 51) ++ leBytes 180 0

/-- FW_ATTEST (R520): a report over the nonce; in a window it waits for the window's end. -/
def execFwAttest (iss : Issue) (nonce : List Byte) (s : State) : Host.Outcome State Fault Refusal :=
  .next (s.pf0Cmd iss [] (fun s =>
    if s.fw.actAt.isSome then s.holdBack iss
    else
      let body := attestReport s nonce
      let report := body ++ (Config.attestSign body).toList
      ((s.toHost iss.fn (.buffer iss.fn iss.tag (report ++ List.replicate (8192 - report.length) 0))).bump (fwuCtr 8)).succeed iss 0 0))

/-- FW_ID_READ (R521): the public key and the certificate chain; a shorter buffer is refused with the length needed. -/
def execFwIdRead (iss : Issue) (length : Nat) (s : State) : Host.Outcome State Fault Refusal :=
  .next (s.pf0Cmd iss [] (fun s =>
    let b := Config.identityPublicKey.toList ++ Config.identityChain
    if length < b.length then s.complete iss { Result.refuse 0x3C with result0 := b.length }
    else (s.toHost iss.fn (.buffer iss.fn iss.tag b)).succeed iss b.length 0))

/-! ### The chain (R506 to R509) -/

/-- OFFER_RX (R506, R507): a chain offer is compared, recorded and answered, or opens a session. While the hub memory region is fenced none
opens; whether its answer is busy or declined is open. -/
def execOfferRx (side version secVersion totalLen digest : Nat) (good : Bool) (s : State) : Host.Outcome State Fault Refusal :=
  .next (
    let side := side % 2
    let reply := fun (s : State) (code : Nat) => s.fwSend side (.reply code 0 digest)
    let above := match running s with
      | some (v, _) => decide (v < version)
      | none => true
    if !good then s.bump 0x2780
    else if !s.flag R.FWU_CTL.chain_en then reply s 2
    else if s.hubFenced 1 then reply s.nextOpen (1 + s.openNat % 2)
    else if conflicts s version digest then reply (s.logConflict (side + 2) version) 3
    else if alreadyRuns s digest then reply s 2
    else if s.session ≠ 0 || s.flag R.FWU_STATUS.confirm_pending then
      reply ((s.recordOffer (side + 1) version secVersion totalLen digest).bump (fwuCtr 1)) 1
    else if !above || secVersion < s.fld R.FWU_STATUS.floor then reply s 2
    else reply (s.openSession (side + 2) version secVersion totalLen digest) 0)

/-- The DATA messages of a bundle from an offset on. -/
def State.sendData (s : State) (side : Nat) (b : List Byte) (off : Nat) : State :=
  (List.range ((b.length - off + 65527) / 65528)).foldl (fun s i =>
    s.fwSend side (.data (off + 65528 * i) ((b.drop (off + 65528 * i)).take 65528))) s

/-- Forwarding on a side ends; a session that waited only for it ends too. -/
def State.endForward (s : State) (side : Nat) : State :=
  let s := { s with fw := { s.fw with fwd := Tab.del s.fw.fwd side } }
  match s.fw.ending with
  | some r => if forwardsSession s then s else s.idleSession r
  | none => s

/-- REPLY_RX (R509): accepted, the bundle goes; 5 resumes it; any other code ends forwarding on the port. -/
def execReplyRx (side code offset digest : Nat) (good : Bool) (s : State) : Host.Outcome State Fault Refusal :=
  .next (
    let side := side % 2
    if !good then s.bump 0x2780
    else
      match Tab.find s.fw.fwd side with
      | none => s
      | some f =>
        if bundleDigest f.image ≠ digest then s
        else if code = 0 then
          ({ s with fw := { s.fw with fwd := Tab.put s.fw.fwd side { f with accepted := true } } } : State).sendData side f.image 0
        else if code = 5 then s.sendData side f.image offset
        else s.endForward side)

/-- DATA_RX (R509): bytes at the staged length are staged, and the last byte starts verification; at another offset, or past the end, the
sender is told where to resume. -/
def execDataRx (side offset : Nat) (bytes : List Byte) (good : Bool) (s : State) : Host.Outcome State Fault Refusal :=
  .next (
    let side := side % 2
    let n := s.fw.staged.length
    if !good then s.bump 0x2780
    else if s.session ≠ 1 || s.fld R.FWU_STATUS.source ≠ side + 2 || s.hubFenced 1 then s
    else if offset ≠ n || s.fw.totalLen < n + bytes.length then s.fwSend side (.reply 5 n s.fw.digest)
    else
      let s := s.stage bytes
      if s.fw.staged.length = s.fw.totalLen then s.setFld R.FWU_STATUS.state 2 else s)

/-- ABORT_RX (R506): the chain session or the forwarding that it names ends. -/
def execAbortRx (side reason digest : Nat) (good : Bool) (s : State) : Host.Outcome State Fault Refusal :=
  .next (
    let side := side % 2
    let mine := s.session ≠ 0 && s.session ≤ 3 && s.fld R.FWU_STATUS.source == side + 2 && s.fw.digest == digest
    let fwd := match Tab.find s.fw.fwd side with
      | some f => bundleDigest f.image == digest
      | none => false
    if !good then s.bump 0x2780
    else if mine then s.endSession (reason % 256)
    else if fwd then s.endForward side
    else s)

/-- PULL_RX (R508): the running bundle is offered when its digest is the one asked for, and declined otherwise. -/
def execPullRx (side digest : Nat) (good : Bool) (s : State) : Host.Outcome State Fault Refusal :=
  .next (
    let side := side % 2
    if !good then s.bump 0x2780
    else
      match s.fw.run with
      | some r => if bundleDigest r.image = digest then s.offerOn side r.image false else s.fwSend side (.reply 2 0 digest)
      | none => s.fwSend side (.reply 2 0 digest))

/-- SESSION_COMPLETE (R508): the offer records of a version above the running one are acted on and cleared: PULL on the port of the highest,
A on a tie, and the host-offer event. -/
def execSessionComplete (s : State) : Host.Outcome State Fault Refusal :=
  .next (
    if !s.fw.completed then s
    else
      let s := { s with fw := { s.fw with completed := false } }
      let v := fun i => s.fld (R.FWU_OFFER_0.fw_version i)
      let above := fun i => s.flag (R.FWU_OFFER_1.valid i) && (match running s with
        | some (r, _) => decide (r < v i)
        | none => true)
      let best := if above 1 && (!above 2 || decide (v 2 ≤ v 1)) then some 1 else if above 2 then some 2 else none
      let host := above 0
      let s := match best with
        | some i =>
          let d := ((Tab.find s.fw.offers i).map Offer.digest).getD 0
          ((s.fwSend (i - 1) (.pull d)).bump (fwuCtr 7)).clearOffer i
        | none => s
      if host then (s.pulse 0x10D4 0).clearOffer 0 else s)

/-- CHAIN_DATA_TIMEOUT (R505): 100 ms without data end a chain session in STAGING; Table 21-8 has no reason for it. -/
def execChainDataTimeout (s : State) : Host.Outcome State Fault Refusal :=
  .next (
    if s.session = 1 && 2 ≤ s.fld R.FWU_STATUS.source then s.nextOpen.endSession (openReason s) else s)

/-- FORWARD_TIMEOUT (R509): 100 ms without a REPLY. -/
def execForwardTimeout (side : Nat) (s : State) : Host.Outcome State Fault Refusal :=
  .next (if (Tab.find s.fw.fwd (side % 2)).isSome then (s.bump (fwuCtr 10)).endForward (side % 2) else s)

/-- FORWARDING_END (R505): the last DATA message of a bundle has been sent and replied. -/
def execForwardingEnd (side : Nat) (s : State) : Host.Outcome State Fault Refusal :=
  .next (
    match Tab.find s.fw.fwd (side % 2) with
    | some f => if f.accepted then (s.bump (fwuCtr 6)).endForward (side % 2) else s
    | none => s)

end Sys2Proof.Machine
end

