-- ==== Sys2Proof/Machine/Tod.lean ====
section
/-!
DEFINITION. The time of day, 1PPS and the frame counter (chapter 22, R532 to R537).
-/
namespace Sys2Proof.Machine

/-- A counter of the access path and the TOD block. -/
def todCtr (i : Nat) : Nat := 0x2C00 + i

/-- Every port is OFF. -/
def allOff (s : State) : Bool := (List.finRange 8).all (fun p => s.mode p == 0)

/-- A TOD write is refused whole (R537). -/
def State.refuseTod (s : State) : State := s.setFlag R.TOD_STATUS.cfg_err true

/-- A write of TOD_CTRL: the enable, the tracking and the tolerance, and the alignment and arming it asks for (R533, R536, R537). `aligned`
and the first-edge rule of R534 start anew with a change of pps_en. -/
def State.todCtrlWrite (s : State) (value : Nat) : State :=
  let en := bitAt value 31
  let align := bitAt value 29
  if bitsOf value 15 0 = 0 || (align && !(allOff s && usesPps s)) then s.refuseTod
  else
    let change := en ≠ s.flag R.TOD_CTRL.pps_en
    let s := ((s.setFlag R.TOD_CTRL.pps_en en).setFlag R.TOD_CTRL.pps_track (bitAt value 30)).setFld R.TOD_CTRL.pps_tol (bitsOf value 15 0)
    let s := if change then
        ({ s with tod := { s.tod with first := true } } : State).setFlag R.TOD_STATUS.aligned false
      else s
    { s with tod := { s.tod with alignDue := s.tod.alignDue || align, armed := s.tod.armed || bitAt value 28 } }

/-- TOD_ALIGN (R533): a write of TOD_CTRL with align. -/
def execTodAlign (src value : Nat) (s : State) : Host.Outcome State Fault Refusal :=
  .next (s.accessed src R.TOD_CTRL.addr (fun s => s.todCtrlWrite value))

/-- TOD_ARM_SEC (R536): a write of TOD_CTRL with arm_sec. -/
def execTodArmSec (src value : Nat) (s : State) : Host.Outcome State Fault Refusal :=
  .next (s.accessed src R.TOD_CTRL.addr (fun s => s.todCtrlWrite value))

/-- A write of TOD_FC_SET_1; with go it is refused unless every port is OFF and the device is no chain follower (R535). -/
def State.todFcSet (s : State) (value : Nat) : State :=
  let go := bitAt value 31
  if go && !(allOff s && !usesChain s) then s.refuseTod
  else
    let s := s.setFld R.TOD_FC_SET_1.set_hi (bitsOf value 18 0)
    if go then ({ s with tod := { s.tod with fcDue := true } } : State).setFlag R.TOD_STATUS.fc_pending true else s

/-- TOD_FC_SET (R535): a write of TOD_FC_SET_1 with go. -/
def execTodFcSet (src value : Nat) (s : State) : Host.Outcome State Fault Refusal :=
  .next (s.accessed src R.TOD_FC_SET_1.addr (fun s => s.todFcSet value))

/-! ### 1PPS edges (R532 to R536) -/

/-- The time in ns from an aligning edge to its tick: phase cycles, within one cycle either way, which the spec leaves open (R533). -/
def alignNs (phase openValue : Nat) : Int :=
  let lo : Int := (((phase : Int) - 1) * 125000) / 19440 + 1
  let hi : Int := (((phase : Int) + 1) * 125000) / 19440
  lo + ((openValue % ((hi - lo).toNat + 1) : Nat) : Int)

/-- The seconds armed are the time of day at the edge (R536). `afterTick` is the time in ns from the last tick to the edge. -/
def State.armedEdge (s : State) (afterTick : Nat) : State :=
  if !s.tod.armed then s
  else
    let sec := s.fld R.TOD_NEXT_SEC_1.sec_hi * 2 ^ 32 + s.fld R.TOD_NEXT_SEC_0.sec_lo
    { s with tod := { s.tod with armed := false, time := (sec * 1000000000 : Nat) - (afterTick : Int) } }

/-- The edge aligns the tick count: the next tick falls phase cycles after it (R533). -/
def State.alignEdge (s : State) (afterTick : Nat) : State :=
  let d := alignNs (s.fld R.TOD_PHASE.phase) s.openNat
  let s := { s.nextOpen with tod := { s.tod with alignDue := false, time := s.tod.time + afterTick + d - 125000 } }
  (s.setFlag R.TOD_STATUS.aligned true).bump (todCtr 6)

/-- The edge is measured against its expected time, in ns, late when positive (R533). -/
def State.measureEdge (s : State) (err : Int) : State :=
  let w := (err % 2 ^ 24).toNat
  let s := s.setFld R.TOD_STATUS.pps_err w
  if s.fld R.TOD_CTRL.pps_tol < err.natAbs then (s.bump (todCtr 4)).pulse 0x1011 w else s

/-- PPS_EDGE (R532 to R536): a rising edge of PPS_IN, `interval` ns after the edge accepted before, `err` ns after its expected time, and
`afterTick` ns after the last tick. A device that does not take its timing from 1PPS ignores it. -/
def execPpsEdge (interval : Nat) (err : Int) (afterTick : Nat) (s : State) : Host.Outcome State Fault Refusal :=
  .next (
    if !usesPps s then s
    else if !s.tod.first && (interval < 999000000 || 1001000000 < interval) then s.bump (todCtr 3)
    else
      let s := { s with tod := { s.tod with first := false } }
      let s := (s.setFlag R.TOD_STATUS.pps_lost false).level 0x1010 false 0
      let s := s.armedEdge afterTick
      if s.tod.alignDue then s.alignEdge afterTick
      else if s.flag R.TOD_STATUS.aligned then s.measureEdge err
      else s)

/-- PPS_LOST (R534): no edge has been accepted for 2 s. -/
def execPpsLost (s : State) : Host.Outcome State Fault Refusal :=
  .next (
    if !usesPps s then s
    else
      let s := { s with tod := { s.tod with first := true } }
      (s.setFlag R.TOD_STATUS.pps_lost true).level 0x1010 true 0)

/-! ### At the tick -/

/-- The frame counter of a tick: set by TOD_FC_SET, following the chain, or one more than before (R206, R425, R535). The time of day
advances by a frame, or is the chain's of the tick before and a frame. -/
def State.todTick (s : State) : State :=
  let (s, msg) := s.chainTick
  let s : State := match msg with
    | some m => { s with fc := m.fc % 2 ^ 51, tod := { s.tod with time := ((m.sec * 1000000000 + m.ns : Nat) : Int) } }
    | none => s
  let before : Int := s.tod.time
  let s := { s with fc := (s.fc + 1) % 2 ^ 51, tick := s.tick + 1, tod := { s.tod with time := before + 125000 } }
  let s := if s.tod.fcDue then
      (({ s with fc := s.fld R.TOD_FC_SET_1.set_hi * 2 ^ 32 + s.fld R.TOD_FC_SET_0.set_lo,
                 tod := { s.tod with fcDue := false } } : State).setFlag R.TOD_STATUS.fc_pending false).bump (todCtr 5)
    else s
  let s := ((s.setFld R.TOD_FC_0.fc_lo (s.fc % 2 ^ 32)).setFld R.TOD_FC_1.fc_hi (s.fc / 2 ^ 32)).forPorts State.showFc
  let t : Int := s.tod.time
  let sec := (t / 1000000000).toNat
  let s := ((s.setFld R.TOD_TICK_NS.ns (t % 1000000000).toNat).setFld R.TOD_TICK_SEC_0.sec_lo (sec % 2 ^ 32)).setFld
    R.TOD_TICK_SEC_1.sec_hi (sec / 2 ^ 32)
  if before / 1000000000 < t / 1000000000 then s.emit (.pps sec) else s

end Sys2Proof.Machine
end

