-- ==== Sys2Proof/Machine/Regs.lean ====
section
/-!
DEFINITION. The register access path (chapter 22, R523 to R530): writes of registers that have no row of their own, the routing of
every write to its register, latched sets, and the halves of the management sideband.
-/
namespace Sys2Proof.Machine

/-- The port of a port-window address. -/
def portAt (a : Nat) : Option Port := (addrPort a).map (Fin.ofNat 8)

/-! ### The fields a write changes (Table 0-5, R7, R549) -/

/-- A field after a write of the value: RW takes its bits, RW1C clears the bits written 1, RO and WO keep theirs. -/
def mergeField (value : Nat) (w : Word) (f : Nat × Nat × Access) : Word :=
  let old := wordField w f.1 f.2.1
  let new := bitsOf value f.1 f.2.1
  match f.2.2 with
  | .rw => wordSetField w f.1 f.2.1 new
  | .rw1c => wordSetField w f.1 f.2.1 (old - (old &&& new))
  | .ro => w
  | .wo => w

/-- The value as a register takes it: the last tap words keep their upper halves reserved, but for cm. -/
def liveValue (a value : Nat) : Nat :=
  match addrPort a, addrBlock a, addrOff a with
  | some _, 3, 0x13C => value % 2 ^ 24
  | some _, 5, 0x114 => value % 2 ^ 16
  | some _, 5, 0x17C => value % 2 ^ 16
  | _, _, _ => value

/-- The word a register would hold after the write. -/
def writtenWord (s : State) (a value : Nat) : Word :=
  match regAt a with
  | none => s.reg a
  | some (d, _, _) => d.fields.foldl (mergeField (liveValue a value)) (s.reg a)

/-! ### Ranges (R71, R96, R118, R150, R182, R204, R239, R249, R265, R295, R360, R406, R426, R446, R457, R472, R522, R537) -/

/-- A value lies in a range. -/
def within (x lo hi : Nat) : Bool := decide (lo ≤ x) && decide (x ≤ hi)

/-- The last DSP cycle at which a pulse to the optics ends; 0 when both are off (R96). -/
def pulseEnd (t : State) (p : Port) : Nat :=
  let e := fun (start width : Nat) => if width = 0 then 0 else start + width
  max (e (t.fld (R.SLU_PULSE.rst_start p)) (t.fld (R.SLU_PULSE.rst_width p)))
    (e (t.fld (R.SLU_PULSE.lvl_start p)) (t.fld (R.SLU_PULSE.lvl_width p)))

/-- The pulses end inside the guard of every enabled burst profile (R96). -/
def pulsesFit (t : State) (p : Port) : Bool :=
  let e := pulseEnd t p
  e == 0 || ((List.range 8).all (fun k => !t.flag (R.SLU_BPROF.enabled p k) || decide (e + 1 ≤ t.fld (R.SLU_BPROF.guard_slots p k)))
    && (List.range 4).all (fun k => !t.flag (R.SLU_G50_BP_CTL.enabled p k)
      || decide (e + 1 ≤ t.fld (R.SLU_G50_BP_CTL.guard_bits p k) * g50Sym (t.fld (R.SLU_G50_BP_CTL.rate p k)) / 64)))

/-- The discovery window holds every response (R249); it is checked while act_en is 1, in effect or as written. -/
def discFits (s t : State) (p : Port) : Bool :=
  let k := t.fld (R.SLU_DISC_CTL.disc_profile p)
  let resp := t.fld (R.SLU_DISC_CTL.resp_slots p)
  let need := t.fld (R.SLU_BPROF.guard_slots p k) + t.fld (R.SLU_BPROF.pre_slots p k) + 1 + resp
    + ceilDiv (t.fld (R.ONU_RTD_MAX.rtd p) - t.fld (R.ONU_RTD_MIN.rtd p)) 64 + t.fld (R.ONU_DISC.disc_rand p)
  !(t.flag (R.ONU_ACT_CTL.act_en p) || s.cap (R.ONU_ACT_CTL.act_en p) == 1)
    || (decide (need ≤ t.fld (R.ONU_DISC.disc_len p)) && (t.g50 p || decide (28 ≤ resp)))

/-- The halfwords of a tap word carry their sign in bits [15:12] (R204); an upper half that is reserved is not looked at. The register table calls
these bits reserved, which R7 would ignore: that R204 refuses them is a DESIGN CHOICE between the two (log entry 91). -/
def tapWordOk (a value : Nat) : Bool :=
  let half := fun (h : Nat) => bitsOf h 15 12 == 15 * bitsOf h 11 11
  half (value % 2 ^ 16) && (addrOff a == 0x114 || addrOff a == 0x17C || half (value / 2 ^ 16 % 2 ^ 16))

/-- The registers of a port's Sluice. -/
def sluOk (s t : State) (p : Port) (off : Nat) : Bool :=
  if off = 0x00 then within (t.fld (R.SLU_CTRL.los_frames p)) 1 64
  else if off = 0x04 then within (t.fld (R.SLU_WINDOW.w p)) 8 256
  else if off = 0x08 then decide (t.fld (R.SLU_DETECT.dlm_err p) ≤ 12) && decide (t.fld (R.SLU_DETECT.takeover_margin p) ≤ 48)
    && decide (1 ≤ t.fld (R.SLU_DETECT.det_thresh p))
  else if off = 0x0C then within (t.fld (R.SLU_AGC.agc_range p)) 1 48 && within (t.fld (R.SLU_AGC.agc_target p)) 2 127
    && within (t.fld (R.SLU_AGC.agc_floor p)) 1 126 && decide (t.fld (R.SLU_AGC.agc_floor p) < t.fld (R.SLU_AGC.agc_target p))
  else if off = 0x10 then pulsesFit t p
  else if off < 0x40 then
    let k := (off - 0x20) / 4
    within (t.fld (R.SLU_BPROF.pre_slots p k)) 2 64 && within (t.fld (R.SLU_BPROF.guard_slots p k)) 1 64 && pulsesFit t p
      && (t.fld (R.SLU_DISC_CTL.disc_profile p) ≠ k || discFits s t p)
  else if off < 0x180 then
    let k := (off - 0x100) / 32
    (off - 0x100) % 32 ≠ 0 || (t.fld (R.SLU_G50_BP_CTL.rate p k) ≠ 3 && within (t.fld (R.SLU_G50_BP_CTL.guard_bits p k)) 64 4095
      && within (t.fld (R.SLU_G50_BP_CTL.pre_reps p k)) 2 255
      && (t.fld (R.SLU_G50_BP_CTL.dlm_bytes p k) == 4 || t.fld (R.SLU_G50_BP_CTL.dlm_bytes p k) == 8) && pulsesFit t p)
  else if off = 0x204 then within (t.fld (R.SLU_DISC_CTL.resp_slots p)) 1 511 && discFits s t p
  else if off = 0x210 then t.fld (R.SLU_RSSI_CTL.mark_mode p) ≠ 3 && t.fld (R.SLU_RSSI_CTL.mark_onu p) ≠ 1023
  else true

/-- The registers of a port's equaliser. -/
def eqzOk (t : State) (p : Port) (off : Nat) : Bool :=
  if off = 0x04 then decide (t.fld (R.EQZ_RICH.level_min p) ≤ 1024)
  else if off = 0x08 then within (t.fld (R.EQZ_SS.track_min p)) 1 255
  else if off = 0x0C then within (t.fld (R.EQZ_TARGET.conv_err p)) 1 4095 && within (t.fld (R.EQZ_TARGET.t_ p)) 48 120
    && t.fld (R.EQZ_TARGET.t_ p) % 3 == 0
  else if off = 0x10 then within (t.fld (R.EQZ_TRAIN.train_gear p)) 1 15 && decide (t.fld (R.EQZ_TRAIN.train_mu0 p) ≤ 5)
  else true

/-- The registers of a port's transmitter. -/
def txpOk (t : State) (p : Port) (a value : Nat) : Bool :=
  let off := addrOff a
  if off = 0x04 then
    let l := fun f => signedOf 7 (t.fld f)
    decide (l (R.TXP_LEVELS.lvl_m3 p) < l (R.TXP_LEVELS.lvl_m1 p)) && decide (l (R.TXP_LEVELS.lvl_m1 p) < l (R.TXP_LEVELS.lvl_p1 p))
      && decide (l (R.TXP_LEVELS.lvl_p1 p) < l (R.TXP_LEVELS.lvl_p3 p))
  else if off = 0x08 then within (t.fld (R.TXP_MASK_CTL.persist p)) 1 15 && within (t.fld (R.TXP_MASK_CTL.mask_period p)) 1 64
  else if 0x100 ≤ off && off < 0x180 then tapWordOk a value
  else true

/-- The registers of a port's framing. -/
def tcfOk (t : State) (p : Port) (off : Nat) : Bool :=
  if off = 0x00 then within (t.fld (R.TCF_CTRL.ploam_max p)) 1 16 && within (t.fld (R.TCF_CTRL.reasm_frames p)) 1 255
  else if off = 0x04 then within (t.fld (R.TCF_SDU.max_sdu p)) 64 16383
  else if off = 0x08 then within (t.fld (R.TCF_MGMT.mgmt_max p)) 2112 65535
  else true

/-- The registers of a port's DBA engine and traffic manager. -/
def dbaOk (s t : State) (p : Port) (off : Nat) : Bool :=
  if off = 0x00 then decide (t.fld (R.DBA_CTRL.trend_gain p) ≤ 8) && within (t.fld (R.DBA_CTRL.poll_period p)) 1 255
    && within (t.fld (R.DBA_CTRL.plo_period p)) 1 255
  else if off = 0x04 then within (t.fld (R.DBA_GUAR.guar_limit p)) (guarSum s p) 194400
  else if off = 0x08 then decide (t.fld (R.DBA_DISC_POS.disc_start p) + t.fld (R.ONU_DISC.disc_len p) ≤ 194400)
  else if off = 0x0C then within (t.fld (R.DBA_TRAIN.train_slots p)) 1024 16384
    && decide (13 ≤ t.fld (R.SLU_BPROF.pre_slots p (t.fld (R.DBA_TRAIN.train_profile p))))
  else if off = 0x100 then within (t.fld (R.DBA_TM_CTRL.port_burst p)) 1 255
  else if 0x200 ≤ off && off < 0x240 then
    let k := (off - 0x200) / 4
    decide (1 ≤ t.fld (R.DBA_QLIM.max_cells p k)) && decide (t.fld (R.DBA_QLIM.yellow_cells p k) ≤ t.fld (R.DBA_QLIM.max_cells p k))
  else true

/-- The activation registers of a port; offsets count from the ONU window. -/
def onuOk (s t : State) (p : Port) (off : Nat) : Bool :=
  if off = 0x40000 then within (t.fld (R.ONU_ACT_CTL.disc_period p)) 1 255 && discFits s t p
  else if off = 0x40004 then decide (t.fld (R.ONU_DISC.disc_len p) ≤ 150000)
    && decide (t.fld (R.DBA_DISC_POS.disc_start p) + t.fld (R.ONU_DISC.disc_len p) ≤ 194400) && discFits s t p
  else if off = 0x40008 || off = 0x4000C then decide (t.fld (R.ONU_RTD_MAX.rtd p) ≤ 12048384)
    && decide (t.fld (R.ONU_RTD_MIN.rtd p) ≤ t.fld (R.ONU_RTD_MAX.rtd p)) && discFits s t p
  else if off = 0x40010 then decide (1 ≤ t.fld (R.ONU_TIMERS.unans_max p)) && decide (1 ≤ t.fld (R.ONU_TIMERS.rng_tries p))
    && decide (1 ≤ t.fld (R.ONU_TIMERS.miss_max p)) && decide (1 ≤ t.fld (R.ONU_TIMERS.absent_frames p))
  else if off = 0x40014 then decide (1 ≤ t.fld (R.ONU_TRACK.train_valid p)) && decide (1 ≤ t.fld (R.ONU_TRACK.nc_max p))
    && decide (t.fld (R.ONU_TRACK.drift_avg p) ≤ 10) && decide (1 ≤ t.fld (R.ONU_TRACK.drift_thresh p))
  else true

/-- A port register's new contents break no range or limit. `t` is the state as the write would leave it. -/
def portOk (s t : State) (p : Port) (a value : Nat) : Bool :=
  let off := addrOff a
  match addrBlock a with
  | 0 => off ≠ 0x100 || (within (t.fld (R.PRT_PROT_CTL.dark_frames p)) 1 2 && within (t.fld (R.PRT_PROT_CTL.light_thresh p)) 1 127)
  | 1 =>
    !(off = 0x04 || off = 0x08) || (within (t.fld (R.CNV_CAL_CTL.cal_period p)) 1 64 && within (t.fld (R.CNV_CAL_CTL.cal_len p)) 256 8192
      && decide (t.fld (R.CNV_CAL_OFFSET.cal_offset p) + t.fld (R.CNV_CAL_CTL.cal_len p) ≤ 194400))
  | 2 => sluOk s t p off
  | 3 => eqzOk t p off
  | 4 => (off ≠ 0x04 || decide (1 ≤ t.fld (R.XTL_FAIL_CTL.fail_thresh p))) && (off ≠ 0x0C || t.fld (R.XTL_WATCH.watch_onu p) ≠ 1023)
  | 5 => txpOk t p a value
  | 6 => tcfOk t p off
  | 7 => dbaOk s t p off
  | 8 => onuOk s t p off
  | _ => true

/-- The thermal registers (Table 19-2, R471, R472, R477, R482). -/
def thmOk (s t : State) (off : Nat) : Bool :=
  let th := fun k => t.fld (R.THM_THR.theta k)
  if off = 0x00 then decide (1 ≤ t.fld R.THM_CTRL.enf_step) && within (t.fld R.THM_CTRL.grace_ms) 10 10000
    && (t.fld R.THM_CTRL.compat_en == s.fld R.THM_CTRL.compat_en || (s.fld R.THM_STATUS.phase == 0 && s.fld R.THM_COMPAT.code == 0))
  else if off = 0x04 then decide (1 ≤ t.fld R.THM_RELEASE.release_frames)
  else if 0x10 ≤ off && off < 0x1C then
    let k := (off - 0x10) / 4
    decide (1 ≤ t.fld (R.THM_THR.hyst k)) && within (th k) 60 125 && decide (th 0 < th 1) && decide (th 1 < th 2)
  else if off = 0x20 then
    (List.finRange 8).all (fun p => (List.finRange 8).all (fun q => p == q || rankOf t p ≠ rankOf t q))
  else if off = 0x40 then within (t.fld R.THM_COMPAT.i_base) 60 255
  else if 0x200 ≤ off && off < 0x280 then off % 8 ≠ 0 || t.fld (R.THM_FB_CFG.die ((off - 0x200) / 8)) ≠ 3
  else if off % 16 = 4 && 0x404 ≤ off && off < 0x434 then
    let r := (off - 0x400) / 16
    decide (t.fld (R.THM_AVS_MARGIN.margin_lo r) < t.fld (R.THM_AVS_MARGIN.margin_hi r))
  else if off = 0x500 then within (t.fld R.THM_VMON_CTL.fault_pct) 3 15 && within (t.fld R.THM_VMON_CTL.warn_pct) 1 10
    && decide (t.fld R.THM_VMON_CTL.warn_pct < t.fld R.THM_VMON_CTL.fault_pct)
  else true

/-- A Harvest set's registers (R438, R446). -/
def harvestOk (t : State) (off : Nat) : Bool :=
  let i := (off - 0x1000) / 32
  let k := (off - 0x1000) % 32
  let count := t.fld (R.CTR_HV_SRC.count i)
  let span := decide (t.fld (R.CTR_HV_SRC.first i) + count ≤ if t.fld (R.CTR_HV_CFG.space i) = 0 then 16384 else 2048)
  if k = 8 then within (t.fld (R.CTR_HV_CFG.slots_code i)) 1 12 && decide (1 ≤ t.fld (R.CTR_HV_CFG.period i)) && span
  else if k = 0xC then within count 1 16384 && span
  else true

/-- The lanes that stay powered, and the policy, leave every configured uplink port its lanes (R60, Table 2-4). -/
def profileOk (t : State) : Bool :=
  let n := 2 ^ (4 - t.fld R.GLB_PROFILE.uplink_lanes)
  t.fld R.GLB_PROFILE.lpd_policy ≠ 3 && (List.range 16).all (fun P => !t.flag (R.ULK_PORT.en P) || (portLanes t P).all (fun l => decide (l < n)))

/-- A hub register's new contents break no range or limit. -/
def hubOk (s t : State) (a : Nat) : Bool :=
  let off := addrOff a
  match addrBlock a with
  | 0 => off ≠ 0x80 || profileOk t
  | 2 => thmOk s t off
  | 3 =>
    let d := off / 0x1000
    let e := (off % 0x1000 - 0x100) / 4
    !(decide (d < 3) && within (off % 0x1000) 0x100 0x17C) || (decide (t.fld (R.HKA_ENTRY.input d e) ≤ if d = 2 then 15 else 47)
      && !(d == 2 && t.fld (R.HKA_ENTRY.trigger d e) == 3))
  | 6 => off < 0x1000 || harvestOk t off
  | 7 =>
    if off = 0x00 then within (t.fld R.MEM_CTRL.scrub_share) 1 8 && within (t.fld R.MEM_CTRL.fill_share) 1 12
    else off ≠ 0x04 || (within (t.fld R.MEM_TRK.trk_window) 16 24 && within (t.fld R.MEM_TRK.trk_threshold) 2 15
      && within (t.fld R.MEM_TRK.watch) 20 28)
  | 8 =>
    if off = 0x00 then decide (t.fld R.LPD_CTRL.capture_size ≤ 16)
      && (t.fld R.LPD_CTRL.capture_size == s.fld R.LPD_CTRL.capture_size || (poolUsed s true == 0 && !s.capture.running))
    else off ≠ 0x800 || decide (1 ≤ t.fld R.LPD_POOL_CTL.ct_q_max)
  | 13 => off ≠ 0x04 || decide (t.fld R.TOD_PHASE.phase ≤ 19439)
  | _ => true

/-! ### A refused write -/

/-- The block's cfg_err, and its "configuration refused" event where its tables list one. -/
def State.refuseWrite (s : State) (a : Nat) : State :=
  match portAt a, addrBlock a with
  | some _, 0 => s.setFlag R.AQL_PAIR_STATUS.cfg_err true
  | some p, 1 => s.setFlag (R.CNV_STATUS.cfg_err p) true
  | some p, 2 => (s.setFlag (R.SLU_STATUS.cfg_err p) true).pulseP p 0x34 0
  | some p, 3 => (s.setFlag (R.EQZ_STATUS.cfg_err p) true).pulseP p 0x46 0
  | some p, 4 => (s.setFlag (R.XTL_STATUS.cfg_err p) true).pulseP p 0x55 0
  | some p, 5 => (s.setFlag (R.TXP_STATUS.cfg_err p) true).pulseP p 0x64 0
  | some p, 6 => (s.setFlag (R.TCF_STATUS.cfg_err p) true).pulseP p 0x77 0
  | some p, 7 => (s.setFlag (R.DBA_STATUS.cfg_err p) true).pulseP p 0x95 0
  | some p, _ => (s.setFlag (R.ONU_STATUS.cfg_err p) true).pulseP p 0x87 0
  | none, 0 => s.setFlag R.GLB_PROFILE.profile_err true
  | none, 2 => (s.setFlag R.THM_STATUS.cfg_err true).pulse 0x104A 0
  | none, 3 => (s.setFlag (R.HKA_STATUS.cfg_err (addrOff a / 0x1000)) true).pulse 0x1065 0
  | none, 6 => s.setFlag R.CTR_STATUS.cfg_err true
  | none, 7 => s.setFlag R.MEM_WARN.cfg_err true
  | none, 8 => s.setFlag R.MEM_WARN.cfg_err true
  | none, 13 => s.refuseTod
  | none, _ => s

/-! ### A write with no row of its own -/

/-- What a write does at once beside setting its register: avs_en set again revives the rails (R485), a capture size waits for its
tick (R313), and a port's cells are held against its new limit (R295). -/
def State.afterWrite (s t : State) (a : Nat) : State :=
  if a = R.THM_CTRL.addr && t.flag R.THM_CTRL.avs_en && !s.flag R.THM_CTRL.avs_en then
    let t := { t with thm := { t.thm with avsOff := [] } }
    (List.range 3).foldl (fun (t : State) r => t.setFlag (R.THM_AVS_STATUS.fault r) false) t
  else if a = R.LPD_CTRL.addr && t.fld R.LPD_CTRL.capture_size ≠ s.fld R.LPD_CTRL.capture_size then
    { t with mem := { t.mem with capSizeDue := some (t.fld R.LPD_CTRL.capture_size) } }
  else
    match portAt a with
    | some p => if a = (R.DBA_TM_LIMIT.port_max_cells p).addr then t.tmStatus p else t
    | none => t

/-- The function whose ring set-up registers an address belongs to, if any. -/
def ringOwner (a : Nat) : Option Nat :=
  match portAt a with
  | some p => if addrBlock a = 0 && within (addrOff a) 0x800 0x818 then some (p.val + 1) else none
  | none => if addrBlock a = 9 && within (addrOff a) 0x800 0x818 then some 0 else none

/-- A write is checked against its register's ranges and limits, and applied or refused whole (R549). Ring set-up is closed while an
operation runs (R341); a bias output is followed up to a change of its rates. -/
def State.plainWrite (s : State) (a value us : Nat) : State :=
  match ringOwner a with
  | some fn => if ringBusy s fn then s.bump (hifCtr fn 7) else s.setReg a (writtenWord s a value)
  | none =>
    let s := if addrPort a = none && addrBlock a = 4 && decide (0x100 ≤ addrOff a) then
        s.bdaSettle ((addrOff a - 0x100) / 16 % 32) (nowUs s us)
      else s
    let t := s.setReg a (writtenWord s a value)
    let ok := match portAt a with
      | some p => portOk s t p a value
      | none => hubOk s t a
    if ok then s.afterWrite t a else s.refuseWrite a

/-! ### Routing -/

/-- The state a meaning leaves; the meanings of the write rows always answer one. -/
def landed (s : State) : Host.Outcome State Fault Refusal → State
  | .next t => t
  | _ => s

/-- A write to a function's view of the event controller, at an offset of the EVC block for PF0, of the PRT block for a port function
(Table 14-7). -/
def State.viewWrite (s : State) (fn off value : Nat) : State :=
  let cfg := if fn = 0 then 0 else 0x8000
  let mask := if fn = 0 then 0x8000 else 0xA000
  let span := if fn = 0 then 0x400 else 0x100
  let eqs := if fn = 0 then 0xA000 else 0xB000
  let word := (off - mask) % span / 4
  if cfg ≤ off && off < mask then s.srcCfgWrite fn ((off - cfg) / 4) value
  else if mask ≤ off && off < mask + span then landed s (execMaskSet fn word value s)
  else if mask ≤ off && off < mask + 2 * span then landed s (execMaskClr fn word value s)
  else if mask ≤ off && off < mask + 3 * span then landed s (execPendSet fn word value s)
  else if mask ≤ off && off < mask + 4 * span then landed s (execPendClr fn word value s)
  else if off = (if fn = 0 then 0x9800 else 0xA600) then landed s (execEventComplete fn value s)
  else if eqs ≤ off && off < eqs + 0x800 then
    if off % 32 = 8 then landed s (execEqEnable fn ((off - eqs) / 32) value s)
    else s.eqWordWrite fn ((off - eqs) / 32) (off % 32 / 4) value
  else s

/-- A write of RING_OP: create or delete, or one that is ignored and counted while an operation runs (R339, R341). -/
def State.ringOp (s : State) (fn value : Nat) : State :=
  if ringBusy s fn then s.bump (hifCtr fn 7)
  else if !bitAt value 31 then s
  else if bitsOf value 30 29 = 0 then landed s (execRingCreate fn s)
  else if bitsOf value 30 29 = 1 then landed s (execRingDelete fn s)
  else s

/-- A reset request of a register of the RST or PRT block (R495). -/
def State.resetWrite (s : State) (mask value : Nat) : State :=
  if bitAt value 31 then s.requestRegion mask (bitAt value 30) else s

/-- The registers of a port window whose writes have a row of their own, and the port function's event view. -/
def State.portWrite (s : State) (src : Nat) (p : Port) (a value : Nat) : Option State :=
  match addrBlock a, addrOff a with
  | 0, 0x10 => some (landed s (execPrtModeCtlWrite src p value s))
  | 0, 0x44 => some (landed s (execFenceReq src p value s))
  | 0, 0x48 => some (s.accessed src a (fun s => s.resetWrite (2 ^ p.val) value))
  | 0, 0x814 => some (s.accessed src a (fun s => s.ringOp (p.val + 1) value))
  | 0, 0xA604 => none
  | 0, off => if 0x8000 ≤ off then some (s.accessed src a (fun s => s.viewWrite (p.val + 1) off value)) else none
  | 1, 0x00 => some (landed s (execFgCalReq src p value s))
  | 1, 0x30 => some (landed s (execCnvTestFail src p value s))
  | 4, 0x30 => some (landed s (execXtlTestFail src p value s))
  | 5, 0x00 => some (s.accessed src a (fun s => s.txpCtrlWrite p value))
  | _, _ => none

/-- The lane a lane register of the ULK or AQL block belongs to, by its offset, and the register's offset among them. -/
def laneReg (uplink : Bool) (off : Nat) : Option (Nat × Nat) :=
  let l := (off - 0x1000) / 64
  if 0x1000 ≤ off && decide (l < if uplink then 16 else 8) && decide (off % 64 ≤ 0xC) then
    some (if uplink then l else 16 + l, off % 64)
  else none

/-- A write of a lane register. -/
def State.laneWrite (s : State) (l k value : Nat) : State :=
  if k = 0 then s.laneCtlWrite l value
  else if k = 4 then s.laneTxeqWrite l value
  else if k = 8 then s.lanePrbsWrite l value
  else s.injWrite l value false

/-- The registers of the hub whose writes have a row of their own, or more of an effect than their fields. -/
def State.hubWrite (s : State) (src a value us : Nat) : Option State :=
  let off := addrOff a
  match addrBlock a with
  | 1 =>
    if off = 0x10 then some (s.accessed src a (fun s => s.resetWrite (bitsOf value 7 0) value))
    else if off = 0x20 then some (landed s (execHubRegionReset src value s))
    else if off = 0x24 then some (landed s (execLineDieReset src value s))
    else if off = 0x30 then some (landed s (execDeltaClear src value s))
    else none
  | 2 => if off = 0x310 then some (landed s (execThmSdClr src value s)) else none
  | 3 => if off % 0x1000 = 0 && off / 0x1000 < 3 then some (s.accessed src a (fun s => s.hkaCtlWrite (off / 0x1000) value)) else none
  | 4 =>
    let k := (off - 0x100) / 16
    if 0x100 ≤ off && k < 32 && off % 16 = 0 then some (landed s (execBdaCodeWrite src k value us s))
    else if 0x100 ≤ off && k < 32 && off % 16 = 8 then some (landed s (execOtHoldRelease src k value us s))
    else none
  | 5 =>
    if off = 0x9804 then none
    else if 0xB000 ≤ off && off < 0xB020 then some (s.accessed src a (fun s => s.ownerWrite ((off - 0xB000) / 4) value))
    else some (s.accessed src a (fun s => s.viewWrite 0 off value))
  | 7 => if off = 0x50 then some (landed s (execMemInject src value s)) else none
  | 9 =>
    if off < 0x24 then some (s.accessed src a (fun s => s.quotaWrite (off / 4) value))
    else if off = 0x84 then some (landed s (execDeviceSoftReset src value s))
    else if off = 0x814 then some (s.accessed src a (fun s => s.ringOp 0 value))
    else none
  | 10 =>
    if off < 0x40 then some (s.accessed src a (fun s => s.ulkPortWrite (off / 4) value))
    else (laneReg true off).map (fun x => s.accessed src a (fun s => s.laneWrite x.1 x.2 value))
  | 11 =>
    if off < 0x08 then some (s.accessed src a (fun s => s.aqlPortWrite (off / 4) value))
    else (laneReg false off).map (fun x => s.accessed src a (fun s => s.laneWrite x.1 x.2 value))
  | 12 => if off = 0x50 then some (s.accessed src a (fun s => s.bump (rstCtr 5))) else none
  | 13 =>
    if off = 0x00 then some (landed s (execTodAlign src value s))
    else if off = 0x24 then some (landed s (execTodFcSet src value s))
    else none
  | _ => none

/-- One 4-byte write of a source at a device address, `us` µs into the frame. An address of no register takes nothing (R336). -/
def State.write4 (s : State) (src a value us : Nat) : State :=
  let own := match portAt a with
    | some p => s.portWrite src p a value
    | none => s.hubWrite src a value us
  match own with
  | some t => t
  | none => s.accessed src a (fun s => if (regAt a).isSome then s.plainWrite a value us else s)

/-- REGISTER_WRITE (R525, R527): a write of `size` bytes by a function at a device address. An aligned 8-byte write is two writes; a write
of any other size or alignment, or with partial byte enables, is ignored, counted and recorded. -/
def execRegisterWrite (src addr size enables value us : Nat) (s : State) : Host.Outcome State Fault Refusal :=
  .next (
    if 9 ≤ src || !sees src addr then s
    else if (size = 4 || size = 8) && addr % size = 0 && enables % 2 ^ size = 2 ^ size - 1 then
      let s := s.write4 src addr (value % 2 ^ 32) us
      if size = 8 then s.write4 src (addr + 4) (value / 2 ^ 32 % 2 ^ 32) us else s
    else s.recordAccess src addr 1 true)

/-! ### Latched sets (R526) -/

/-- The other registers of the set whose first register an address is. -/
def setOf (a : Nat) : Option (List Nat) :=
  match addrPort a, addrBlock a, addrOff a with
  | some _, 2, 0x310 => some [a + 4]
  | some _, 3, 0x210 => some [a + 4]
  | some _, 4, 0x40 => some [a + 4]
  | some _, 6, 0x30 => some [a + 4]
  | none, 13, 0x10 => some [R.TOD_FC_1.addr, R.TOD_TICK_NS.addr, R.TOD_TICK_SEC_0.addr, R.TOD_TICK_SEC_1.addr]
  | _, _, _ => none

/-- The key of a reader's latch of the set that begins at an address. -/
def latchKey (src a : Nat) : Nat := src * 2 ^ 26 + a

/-- What a reader sees of the `i`-th other register of a set: the word latched by its last read of the first register, or the live one
before any. -/
def latchedWord (s : State) (src first i : Nat) (live : Word) : Word :=
  match Tab.find s.path.latches (latchKey src first) with
  | some l => l.getD i live
  | none => live

/-- LATCHED_SET_READ (R526): a read of the first register of a set. -/
def execLatchedSetRead (src addr : Nat) (s : State) : Host.Outcome State Fault Refusal :=
  .next (
    match setOf addr with
    | none => s
    | some l =>
      if !sees src addr then s.emit (.readData src addr 0)
      else
        let k := accessKind s src addr false
        if k ≠ 0 then (s.emit (.readData src addr 0)).recordAccess src addr k false
        else
          let s := s.emit (.readData src addr (s.reg addr).toNat)
          { s with path := { s.path with latches := Tab.put s.path.latches (latchKey src addr) (l.map s.reg) } })

/-! ### The management sideband (R455, R456, R529, R530) -/

/-- The sideband reaches a register: identification and status of GLB for reading, and RST, THM, HKA and BDA. -/
def sidebandReach (a : Nat) (write : Bool) : Bool :=
  (addrPort a).isNone && ((!write && a < 0x40) || within (addrBlock a) 1 4)

/-- Why a sideband access is not acted on: 0 it is, 1 alignment, 4 range, or the reasons of every access. -/
def sidebandKind (s : State) (a : Nat) (write : Bool) : Nat :=
  if a % 2 ≠ 0 then 1 else if !sidebandReach a write then 4 else accessKind s 15 a write

/-- The converter whose shadow serves an HKA register: its own block, or its port's RSSI table. -/
def hkaConvOf (off : Nat) : Nat := if off < 0x4000 then off / 0x1000 % 3 else (off - 0x4000) / 0x400 / 4 % 3

/-- The shadow that serves a register, and the state with it replaced. -/
def State.shadowOf (s : State) (a : Nat) : Option (Nat × Nat) :=
  if addrBlock a = 3 then (s.conv (hkaConvOf (addrOff a))).shadow else s.path.shadow
def State.setShadow (s : State) (a : Nat) (x : Option (Nat × Nat)) : State :=
  if addrBlock a = 3 then s.setConv (hkaConvOf (addrOff a)) { s.conv (hkaConvOf (addrOff a)) with shadow := x }
  else { s with path := { s.path with shadow := x } }

/-- The converter whose data register an address is. -/
def dataConv (a : Nat) : Option Nat := (List.range 3).find? (fun d => R.HKA_DATA.addr d == a)

/-- The low half of a data register has been read, or its high half after it, which consumes the result (R455). -/
def State.dataHalf (s : State) (a : Nat) (high : Bool) : State :=
  match dataConv a with
  | none => s
  | some d =>
    let x := s.conv d
    if !high then s.setConv d { x with lowRead := true }
    else if x.lowRead then (s.setConv d { x with lowRead := false }).setFlag (R.HKA_DATA.new d) false
    else s

/-- SIDEBAND_READ_HALF (R456, R530): a low half latches its high half in the shadow; a high half comes from the shadow that holds it, which
it empties, and is live otherwise. -/
def execSidebandReadHalf (addr : Nat) (s : State) : Host.Outcome State Fault Refusal :=
  .next (
    let k := sidebandKind s addr false
    if k ≠ 0 then (s.emit (.readData 15 addr 0)).recordAccess 15 addr k false
    else
      let a := addr - addr % 4
      let w := (s.reg a).toNat
      if addr % 4 = 0 then
        ((s.emit (.readData 15 addr (w % 2 ^ 16))).setShadow a (some (a, w / 2 ^ 16))).dataHalf a false
      else
        match s.shadowOf a with
        | some (b, h) =>
          if b = a then ((s.emit (.readData 15 addr h)).setShadow a none).dataHalf a true
          else (s.emit (.readData 15 addr (w / 2 ^ 16))).dataHalf a true
        | none => (s.emit (.readData 15 addr (w / 2 ^ 16))).dataHalf a true)

/-- A held low half of another register is dropped and counted. -/
def State.dropHeld (s : State) (a : Nat) : State :=
  match s.path.held with
  | some (b, _) => if b = a then s else ({ s with path := { s.path with held := none } } : State).bump (todCtr 2)
  | none => s

/-- SIDEBAND_WRITE_HALF (R530): a low half is held; a high half writes its register with the held low half, or with the low half as it
reads. -/
def execSidebandWriteHalf (addr value us : Nat) (s : State) : Host.Outcome State Fault Refusal :=
  .next (
    let k := sidebandKind s addr true
    if k ≠ 0 then s.recordAccess 15 addr k true
    else
      let a := addr - addr % 4
      let s := s.dropHeld a
      if addr % 4 = 0 then { s with path := { s.path with held := some (a, value % 2 ^ 16) } }
      else
        let low := match s.path.held with
          | some (_, h) => h
          | none => (s.reg a).toNat % 2 ^ 16
        ({ s with path := { s.path with held := none } } : State).write4 15 a (value % 2 ^ 16 * 2 ^ 16 + low) us)

end Sys2Proof.Machine
end

