-- ==== Sys2Proof/Machine/Frame.lean ====
section
/-!
DEFINITION. The downstream frame that begins at a tick (R207, R216, R224, R231): the choice of PLOAM messages, the map it carries, the
encapsulations of its payload, its bytes, and the symbols they are sent as (R152 to R157, R172).
-/
namespace Sys2Proof.Machine

/-! ### PLOAM messages (R216) -/

/-- The frame's messages so far. -/
structure PloamPick where
  st : State
  sent : List SentPloam
  deriving Repr

/-- What sending a message of the control cores starts (R253, R254, R256, R261). -/
def State.coreSent (s : State) (p : Port) (m : CorePloam) : State :=
  match s.slotOf p m.about with
  | none => s
  | some c =>
    if m.msg.type = 0x04 then
      if (s.ctx p c).st = .ranging then s.modCtx p c (fun x => { x with assignSent := true, rngFrom := s.tick + 3 }) else s
    else if m.msg.type = 0x05 && m.stamp then s.modCtx p c (fun x => { x with driftFrom := s.tick + 2 })
    else if m.msg.type = 0x40 then
      s.modCtx p c (fun x => { x with trainSent := true, trainFrom := s.tick + 2, trainUntil := s.tick + ploamField m.msg 5 1 })
    else s

/-- The message as it goes: apply_fc of a stamped Ranging_Time is the frame counter of this frame plus 2 (R254). -/
def CorePloam.final (m : CorePloam) (fc : Nat) : Ploam :=
  if m.stamp then { m.msg with content := m.msg.content.take 3 ++ beBytes 6 ((fc + 2) % 2 ^ 51) ++ m.msg.content.drop 9 } else m.msg

/-- The seq of the next message to an ONU-ID; for 1,023 it is 0. -/
def State.ploamSeq (s : State) (p : Port) (onu : Nat) : Nat :=
  if onu = 1023 then 0 else Tab.get (fun _ => 0) (s.port p).tcf.seqs onu

/-- A message is sent: its seq and MIC, and the count of its ONU-ID goes on. -/
def State.sendPloam (s : State) (p : Port) (m : Ploam) : State × SentPloam :=
  let n := s.ploamSeq p m.onu
  let out : SentPloam := { msg := m, seq := n, mic := micOf s p false m n }
  let s := if m.onu = 1023 then s
    else s.modTcf p (fun t => { t with seqs := Tab.set (fun _ => 0) t.seqs m.onu ((n + 1) % 256) })
  (s.bumpP p 0x90, out)

/-- A message may go: there is room, and its ONU-ID has none in the frame. -/
def PloamPick.room (x : PloamPick) (max onu : Nat) : Bool := decide (x.sent.length < max) && !x.sent.any (fun y => y.msg.onu == onu)

/-- The messages of the control cores, in queue order; one that may not go keeps its place. -/
def pickCore (p : Port) (max : Nat) : List CorePloam → PloamPick → PloamPick
  | [], x => x
  | m :: rest, x =>
    if x.room max m.msg.onu then
      let (s, out) := x.st.sendPloam p (m.final x.st.fc)
      pickCore p max rest { st := s.coreSent p m, sent := x.sent ++ [out] }
    else
      pickCore p max rest { x with st := x.st.modTcf p (fun t => { t with coreQ := t.coreQ ++ [m] }) }

/-- The messages of the host; PLOAM_SEND completes with seq and the frame counter, and a Tx_Preset awaits its answer (R219, R274). -/
def pickHost (p : Port) (max : Nat) : List HostPloam → PloamPick → PloamPick
  | [], x => x
  | m :: rest, x =>
    if x.room max m.msg.onu then
      let (s, out) := x.st.sendPloam p m.msg
      let s := s.succeed m.iss out.seq (s.fc % 2 ^ 32)
      let s := match s.slotOf p m.msg.onu with
        | some c => if m.msg.type = 0x42 && !s.g50 p then s.modCtx p c (fun y => { y with txPresetOut := true }) else s
        | none => s
      pickHost p max rest { st := s, sent := x.sent ++ [out] }
    else
      pickHost p max rest { x with st := x.st.modTcf p (fun t => { t with hostQ := t.hostQ ++ [m] }) }

/-- The PLOAM messages of the frame: none while TX_DISABLE_N is low or goes low at this tick (R191, R216, R418). -/
def State.framePloams (s : State) (p : Port) (quiet : Bool) : State × List SentPloam :=
  if quiet then (s, [])
  else
    let t := (s.port p).tcf
    let max := min 16 (s.gov (R.TCF_CTRL.ploam_max p))
    let s := s.modTcf p (fun t => { t with coreQ := [], hostQ := [] })
    let x := pickHost p max t.hostQ (pickCore p max t.coreQ { st := s, sent := [] })
    (x.st.tcfStatus p, x.sent)

/-! ### The payload (R220 to R224, R231) -/

/-- The information bytes of a downstream frame: 1,350 codewords, in G50 mode 360 (R193). -/
def frameBytes (g50 : Bool) : Nat := (if g50 then 360 else 1350) * 1824

/-- The frame as far as its payload has come: where the next header stands, in bytes, and the encapsulations so far. -/
structure Payload where
  st : State
  pos : Nat
  out : List EncapTx
  deriving Repr

/-- The bytes an encapsulation of `n` payload bytes takes. -/
def encapBytes (n : Nat) : Nat := 8 + 8 * ceilDiv n 8

/-- The header word of an encapsulation (Table 8-6): pli, key_idx, the number of its flow and lf. In G50 mode that is an XGEM header, with the Port-ID
and 16 bits more in the place of the Flow-ID: PRESUMED (log entry 89). -/
def headerWord (g50 : Bool) (pli key name : Nat) (last : Bool) : Nat :=
  withHec (pli % 2 ^ 14 * 2 ^ 50 + key % 4 * 2 ^ 48 + (if g50 then name % 2 ^ 16 * 2 ^ 32 else name % 2 ^ 20 * 2 ^ 28) + bit01 last * 2 ^ 13)

/-- An encapsulation is put at the present place, under the transmit slot of its ONU when it is to be encrypted (R231, R302). -/
def Payload.put (x : Payload) (p : Port) (flow onu : Nat) (crypt last : Bool) (data : List Byte) : Payload :=
  let g50 := x.st.g50 p
  let name := if g50 then flow % 65536 else flow
  let slot := if crypt then txSlotOf x.st p onu else 0
  let (k, bytes) := match slot, Tab.find (x.st.port p).tcf.keys (onu * 4 + slot) with
    | 0, _ => (0, data)
    | k, some key => (k, cryptBytes g50 key x.st.fc name false 0 (x.pos / 8) data)
    | _, none => (0, data)
  let n := encapBytes data.length
  { st := x.st.fillBuckets p n, pos := x.pos + n,
    out := x.out ++ [{ word := x.pos / 8, head := headerWord g50 data.length k name last, flow := flow, key := k, last := last, data := bytes }] }

/-- An SDU, or what is left of one, goes whole or as a fragment that fills the frame, its rest becoming the continuation; a frame with only
8 bytes left takes an idle header, and the SDU waits as the continuation. -/
def Payload.send (x : Payload) (p : Port) (d : DsCont) : Payload :=
  let left := frameBytes (x.st.g50 p) - x.pos
  if encapBytes d.data.length ≤ left then
    let x := x.put p d.flow d.onu d.crypt true d.data
    match d.mgmt with
    | some iss => { x with st := (x.st.bumpP p 0xA0).succeed iss 0 (x.st.fc % 2 ^ 32) }
    | none => x
  else if 16 ≤ left then
    let x := x.put p d.flow d.onu d.crypt false (d.data.take (left - 8))
    { x with st := x.st.modTcf p (fun t => { t with cont := some { d with data := d.data.drop (left - 8) } }) }
  else { x with st := x.st.modTcf p (fun t => { t with cont := some d }) }

/-- The frame has room for another encapsulation. -/
def Payload.open (x : Payload) (p : Port) : Bool :=
  decide (x.pos + 16 ≤ frameBytes (x.st.g50 p)) && (x.st.port p).tcf.cont.isNone

/-- A frame of a port in G50 mode names the flows of its window only (R238): an SDU of another is discarded, uncounted, a DESIGN CHOICE (log
entry 90). -/
def outside (s : State) (p : Port) (flow : Nat) : Bool :=
  s.g50 p && (flow / 65536 ≠ s.gov (R.TCF_G50.flow_base p) || flow % 65536 == 65535)

/-- Management SDUs, up to mgmt_max bytes of encapsulations. One longer than max_sdu is discarded and counted; that its command completes with
0x08 is a DESIGN CHOICE (log entry 90), and that one whose flow has no XGEM Port-ID here completes with 0x07 (log entry 98). -/
def payloadMgmt (p : Port) (max : Nat) : List OmciSdu → Nat → Payload → Payload
  | [], _, x => x
  | d :: rest, used, x =>
    let n := encapBytes d.data.length
    if x.st.gov (R.TCF_SDU.max_sdu p) < d.data.length then payloadMgmt p max rest used { x with st := (x.st.bumpP p 0x97).refuse d.iss 0x08 }
    else if outside x.st p d.flow then payloadMgmt p max rest used { x with st := x.st.refuse d.iss 0x07 }
    else if !x.open p || decide (max < used + n) then { x with st := x.st.modTcf p (fun t => { t with omciQ := t.omciQ ++ (d :: rest) }) }
    else payloadMgmt p max rest (used + n) (x.send p { flow := d.flow, onu := d.onu, crypt := false, data := d.data, mgmt := some d.iss })

/-- SDUs of the traffic manager, up to `n` turns. The cells of an SDU are read as it is taken, and one with a poisoned cell is dropped (R290); `bad` names
the queues whose oldest SDU has one besides what the memory's own errors tell, once each. While nothing is eligible idle fill goes, and the buckets fill. -/
def payloadSdus (p : Port) : Nat → List Nat → Payload → Payload
  | 0, _, x => x
  | n + 1, bad, x =>
    if !x.open p || servableNone x.st p then x
    else
      let (s, q) := x.st.selectQueue p
      match q with
      | none =>
        let left := frameBytes (s.g50 p) - x.pos
        let m := min 16384 left
        payloadSdus p n bad { x with st := s.fillBuckets p m, pos := x.pos + m }
      | some q =>
        let (s, d) := s.dequeue q
        match d with
        | none => payloadSdus p n bad { x with st := s }
        | some d =>
          let (s, poisoned) := s.releaseCells d.lp d.addrs d.data.length (bad.contains q)
          let bad := bad.erase q
          if poisoned then payloadSdus p n bad { x with st := s.countPoison d.flow }
          else if s.gov (R.TCF_SDU.max_sdu p) < d.data.length then payloadSdus p n bad { x with st := s.bumpP p 0x97 }
          else if outside s p d.flow then payloadSdus p n bad { x with st := s }
          else
            let onu := (s.flowCtx d.flow).onu
            payloadSdus p n bad
              (({ x with st := s } : Payload).send p { flow := d.flow, onu := onu, crypt := d.crypt, data := d.data, mgmt := none })
where
  /-- No queue of the port holds an SDU. -/
  servableNone (s : State) (p : Port) : Bool := (nodeQueues s p (fun _ => true)).all (fun q => (s.queue q).sdus == [])

/-- The payload of the full framer, from byte `h`. While the pin is low no SDU of OMCI_SEND goes, a begun one neither (R191); while the hub data region is
fenced nothing is forwarded, what is left of an SDU neither (R19). -/
def State.framePayload (s : State) (p : Port) (h : Nat) (quiet : Bool) (bad : List Nat) : State × List EncapTx :=
  let x : Payload := { st := s.fillBuckets p h, pos := h, out := [] }
  let waits := match (s.port p).tcf.cont with
    | some d => if d.mgmt.isSome then quiet else s.hubFenced 0
    | none => false
  let x := match (s.port p).tcf.cont with
    | some d => if waits then x else ({ x with st := x.st.modTcf p (fun t => { t with cont := none }) } : Payload).send p d
    | none => x
  let x := if quiet then x
    else
      let q := (x.st.port p).tcf.omciQ
      payloadMgmt p (x.st.gov (R.TCF_MGMT.mgmt_max p)) q 0 { x with st := x.st.modTcf p (fun t => { t with omciQ := [] }) }
  let x := payloadSdus p 200000 bad x
  let left := frameBytes (s.g50 p) - x.pos
  ((x.st.fillBuckets p left).tcfStatus p, x.out)

/-! ### The frame (R193, R207, R224) -/

/-- A continuation is abandoned; the command of a management SDU completes with 0x04. -/
def State.dropCont (s : State) (p : Port) (count : Bool) : State :=
  match (s.port p).tcf.cont with
  | none => s
  | some d =>
    let s := (if count then s.bumpP p 0x99 else s).modTcf p (fun t => { t with cont := none })
    (match d.mgmt with
      | some iss => s.refuse iss 0x04
      | none => s).tcfStatus p

/-- A handover captured here takes effect at this tick. -/
def handoverDue (s : State) (p : Port) : Bool :=
  match (s.port p).prot.handover with
  | some (h, _, _) => h == s.tick
  | none => false

/-- The port becomes ACTIVE at this tick, by a handover or by a takeover: its frame carries no PLOAM message (R418), and what waits goes under the seq that
a takeover moves on (R422). -/
def takesOver (s : State) (p : Port) : Bool :=
  let q := (s.port p).prot
  (handoverDue s p && decide (q.role = .standby))
    || (q.role = .blind && s.receiving p && decide (s.cap (R.PRT_PROT_CTL.dark_frames p) ≤ s.fld (R.PRT_PROT_STATUS.dark_run p)))

/-- TX_DISABLE_N is low, or goes low within 12 DSP cycles of this tick as a handover takes effect (R191, R418). -/
def frameQuiet (s : State) (p : Port) : Bool :=
  if takesOver s p then decide (withBit (s.fld (R.TXP_STATUS.dis_cause p)) 1 false ≠ 0)
  else !s.txEnabled p || (handoverDue s p && decide ((s.port p).prot.role = .active))

/-! ### The bytes of a frame (R205, R207, R212, R220, R222) -/

/-- The word of a map entry (Table 8-2). -/
def mapWord (e : MapEntry) : Nat :=
  e.alloc % 2 ^ 12 * 2 ^ 52 + e.start % 2 ^ 18 * 2 ^ 34 + e.slots % 2 ^ 18 * 2 ^ 16 + e.profile % 8 * 2 ^ 13 + bit01 e.ploamu * 2 ^ 12
    + bit01 e.dbru * 2 ^ 11 + bit01 e.train * 2 ^ 10

/-- The bytes of the map and the messages of a frame. -/
def mapBytes (map : List MapEntry) (ploams : List SentPloam) : List Byte :=
  map.flatMap (fun e => beBytes 8 (mapWord e)) ++ ploams.flatMap (fun m => ploamBytes m.msg m.seq ++ beBytes 8 m.mic)

/-- The header of a Mimbium-200 frame (Table 8-1). -/
def frameHeader (fc : Nat) (map : List MapEntry) (ploams : List SentPloam) : List Byte :=
  let body := beBytes 8 (fc % 2 ^ 51 * 2 ^ 13) ++ beBytes 8 (map.length % 2 ^ 11 * 2 ^ 53 + ploams.length % 2 ^ 5 * 2 ^ 48) ++ mapBytes map ploams
  beBytes 8 0x4B2DE87193A60F5C ++ body ++ beBytes 4 (crc32 (byteBits body)) ++ List.replicate 4 0#8

/-- The bytes of an encapsulation. -/
def encapLine (head : Nat) (data : List Byte) : List Byte :=
  beBytes 8 head ++ data ++ List.replicate (8 * ceilDiv data.length 8 - data.length) 0#8

/-- Idle encapsulations over `n` bytes (R222). -/
def idleFill (g50 : Bool) (n : Nat) : List Byte :=
  let one := fun pli => encapLine (headerWord g50 pli 0 0xFFFFF true) (List.replicate pli 0#8)
  (List.replicate (n / 16384) (one 16376)).flatten ++ if n % 16384 = 0 then [] else one (n % 16384 - 8)

/-- The payload from byte `pos` to byte `size`: encapsulations with idle fill between and after them. -/
def payloadLine (g50 : Bool) (size : Nat) : Nat → List EncapTx → List Byte
  | pos, [] => idleFill g50 (size - pos)
  | pos, e :: l => idleFill g50 (8 * e.word - pos) ++ encapLine e.head e.data ++ payloadLine g50 size (8 * e.word + encapBytes e.data.length) l

/-! ### The symbols of a frame (R152 to R157, R172, R209) -/

/-- The information bits of a Mimbium-200 frame, scrambled from byte 8 on (R209). -/
def scrambled (fc : Nat) (bytes : List Byte) : List Bool :=
  byteBits (bytes.take 8) ++ scramble (0x2A5 * 2 ^ 48 + fc % 2 ^ 48) (byteBits (bytes.drop 8))

/-- The codewords of a frame's information bits, `n` of them one behind the other (R152, R157). -/
def codewordBits (n : Nat) (info : List Bool) : List Bool :=
  (List.range n).flatMap (fun c => ldpcEncode ((info.drop (14592 * c)).take 14592))

/-- A frame's bytes are encoded and driven: the encoder goes on from where it stands (R156); in G50 mode each bit is sent as it is (R172). -/
def State.transmit (s : State) (p : Port) (bytes : List Byte) : State :=
  if s.g50 p then
    let info := (byteBits bytes).zipIdx.map (fun e => e.1 != Config.g50Scramble s.fc false 0 e.2)
    s.drive p 2 (outerLevels (codewordBits 360 info))
  else
    let bits := codewordBits 1350 (scrambled s.fc bytes)
    let x := (s.port p).txp.encState
    (s.drive p 1 (convSymbols x bits)).modTxp p (fun t => { t with encState := convState x bits })

/-- The header of a frame: in G50 mode that of G.9804.2, in whole words (R237). -/
def State.headerOf (s : State) (p : Port) (map : List MapEntry) (ploams : List SentPloam) : List Byte :=
  if s.g50 p then
    let l := Config.g50Header s.fc (s.gov (R.TCF_G50_PONID.pon_id p)) (mapBytes map ploams)
    l.take (8 * (min l.length 8992 / 8))
  else frameHeader s.fc map ploams

/-- A frame goes out: its header, and its payload with idle fill. -/
def State.emitFrame (s : State) (p : Port) (full : Bool) (header : List Byte) (map : List MapEntry) (ploams : List SentPloam)
    (encaps : List EncapTx) : State :=
  (s.transmit p (header ++ payloadLine (s.g50 p) (frameBytes (s.g50 p)) header.length encaps)).emit
    (.frame p s.fc full header map ploams encaps)

/-- The frame that begins at the present tick (HEARTBEAT_FRAME, DOWNSTREAM_FRAME). -/
def State.sendFrame (s : State) (p : Port) (bad : List Nat) : State :=
  match (s.port p).mode.framer with
  | .none => (s.dropCont p false).driveNone p
  | .heartbeat =>
    if (s.port p).mode.holdLeft = some 0 && !s.inReset p && !handsOver s p then (s.dropCont p true).driveNone p
    else ((s.dropCont p true).bumpP p 0x85).emitFrame p false (s.headerOf p [] []) [] [] []
  | .full =>
    let quiet := frameQuiet s p
    let mute := quiet || takesOver s p
    let map := (s.mapAt p (s.tick + 1)).entries
    let (s, ploams) := s.framePloams p mute
    let header := s.headerOf p map ploams
    let (s, encaps) := s.framePayload p header.length quiet bad
    s.emitFrame p true header map ploams encaps

end Sys2Proof.Machine
end

