-- ==== Sys2Proof/Machine/Tick.lean ====
section
/-!
DEFINITION. The frame tick (R37, Table 1-7) and its ledgers (R38, R39, R550).
-/
namespace Sys2Proof.Machine

/-! ### The frame that ends -/

/-- The map of a frame that is not accounted goes with it. -/
def State.dropMap (s : State) (p : Port) : State :=
  if (s.port p).dba.unmapped then s.modDba p (fun d => { d with maps := Tab.del d.maps s.tick }) else s

/-- What ends with a port's frame: what the Sluice's channels have come to, transmitter measurements, training bursts without a whole block, the samples of the converters, the count of failed codewords, the loss-of-signal run, the steps of the
activation function, the age of partial SDUs, and the bursts of the frame before it. -/
def State.endPort (s : State) (p : Port) : State :=
  let s := s.dropMap p
  let s := ((s.settle p (frameTime (s.tick + 1))).judgeTick p).txpEnd p
  let s := s.modRake p (fun r => { r with bursts := r.bursts.filter (fun b => decide (s.tick ≤ b.tick)) })
  ((((s.failTick p).losTick p).onuTick p).agePartials p).cnvTick p (s.mapCal p)

/-! ### Capture -/

/-- The register words captured at this tick, and those of the three ticks before. What the device writes at the tick itself is captured at the
next (R52, R201). -/
def State.captureRegs (s : State) (words : Tab Word) : State := { s with snap0 := words, snap1 := s.snap0, snap2 := s.snap1, snap3 := s.snap2 }

/-- A capture size that waits applies: the pools use the new total, and the capture engine holds no pages (R313, Table 17-8). -/
def State.capSizeTick (s : State) : State :=
  match s.mem.capSizeDue with
  | none => s
  | some n =>
    let s := ({ s with mem := { s.mem with capSize := n, capSizeDue := none } } : State).captureIdle
    s.setFld R.LPD_POOL_LP.free (lpFree s)

/-- A queue engine serves a port. -/
def engineServes (s : State) (e : Nat) : Bool := (List.range 8).any (fun n => s.fld (qeField n) == e)

/-- A queue engine has failed: it is marked, and where it serves a port and the spare is free, the spare takes its place: the substitution is
recorded, counted and raised (R10, R11). With no spare its port has no engine. Fewer than eight good engines fence the hub data region (R17). -/
def State.engineFails (s : State) (e : Nat) : State :=
  if 8 < e || bitAt (s.fld R.GLB_QE_STATE.faulty) e then s
  else
    let serves := engineServes s e
    let s := s.setFld R.GLB_QE_STATE.faulty (withBit (s.fld R.GLB_QE_STATE.faulty) e true)
    let spare := (List.range 9).any (fun x => !bitAt (s.fld R.GLB_QE_STATE.faulty) x && !engineServes s x)
    let s :=
      if serves && spare then
        let s := { s with rst := { s.rst with qeSubsts := s.rst.qeSubsts + 1 } }
        ((s.appendDelta 3 0 e).mapEngines).pulse 0x1001 e
      else s.mapEngines
    s.engineFence

/-! ### The ledgers (Table 1-8) -/

/-- The terms of the grant-slot ledger (R282): of the map committed in the frame just ended, the allocation slots, and the overhead slots of its
discovery entry and its calibration window. -/
def grantTerms (s : State) (p : Port) : Nat × Nat :=
  let m := s.mapAt p (s.tick + 1)
  (((m.entries.filter (fun e => !isDisc e)).map MapEntry.slots).sum,
    ((m.entries.filter isDisc).map MapEntry.slots).sum + (match m.cal with
      | some c => c.2
      | none => 0))

/-- The slots that the map reserves in all. -/
def grantSlots (s : State) (p : Port) : Nat := (grantTerms s p).1 + (grantTerms s p).2

/-- The terms of a failing ledger are held until its owner's reset (R39). -/
def State.holdTerms (s : State) (key : Nat) (terms : List Nat) : State :=
  { s with rst := { s.rst with ledgers := Tab.put s.rst.ledgers key terms } }

/-- The terms of a credit ledger as they are held. -/
def creditList (x : CreditTerms) : List Nat := [x.free, x.held, x.flight, x.allot, bit01 x.old]

/-- The fence causes of a port's failing ledgers, one for each ledger: that of every SQ is one (R347, R550). A region that is fenced, in reset or powered down has none checked (R38). -/
def portCauses (obs : TickObs) (s : State) (p : Port) : List Nat :=
  if s.fenced p || s.inReset p || s.mode p = 0 then []
  else
    (if 194400 < grantSlots s p then [0x01] else []) ++ List.replicate (failingRings s (p.val + 1)).length 0x02
      ++ List.replicate (obs.credits.filter (fun x => x.owner = p.val && !x.balanced)).length 0x03 ++ (if deltaFails s p then [0x04] else [])

/-- A function's last failing ring is held in its snapshot registers (R347). -/
def State.holdRings (s : State) (fn : Nat) : State :=
  match (failingRings s fn).getLast? with
  | some (i, q) => s.holdLedger fn i q
  | none => s

/-- The terms of a port's failing ledgers are held: its rings' in HIF_LEDGER (R347), the last failing credit ledger's, the grant slots' and the
mirror's numbers (R39). -/
def State.holdPort (obs : TickObs) (s : State) (p : Port) (l : List Nat) : State :=
  let q := (s.port p).prot
  let s := if l.contains 0x02 then s.holdRings (p.val + 1) else s
  let s := if l.contains 0x01 then s.holdTerms (16 * p.val + 1) [(grantTerms s p).1, (grantTerms s p).2] else s
  let s := match (obs.credits.filter (fun x => x.owner = p.val && !x.balanced)).getLast? with
    | some x => if l.contains 0x03 then s.holdTerms (16 * p.val + 3) (creditList x) else s
    | none => s
  if l.contains 0x04 then s.holdTerms (16 * p.val + 4) [q.sent, q.acked, q.applied] else s

/-- A port's ledgers, with the causes its terms gave when they were sampled (R39). -/
def State.portLedgers (s : State) (p : Port) (l : List Nat) : State :=
  let s := if l = [] then s else s.ledgerFail p l
  s.deltaAfter p (l.contains 0x04)

/-- A hub region is fenced or in reset: its ledgers are not checked (R38). -/
def hubSkips (s : State) (bit : Nat) : Bool := s.hubFenced bit || bitAt (s.fld R.RST_HUB_STATUS.hub_in_reset) bit

/-- A hub region's failing ledgers: its fence and its counter, 0x2000 data, 0x2001 memory, 0x2002 control (R39, R550). -/
def State.hubLedger (s : State) (bit fails : Nat) : State :=
  if fails = 0 then s else (s.fenceHub bit).bumpBy (0x2000 + bit) fails

/-- The failing credit ledgers of VC8 of a line die: the die's four port regions are fenced with cause 0x0C. -/
def State.dieLedger (s : State) (die fails : Nat) : State :=
  if fails = 0 then s else (s.loseDie die 0x0C).bumpBy (0x2003 + die) fails

/-- The credit ledgers of VC8 of a die that fail; a die that is lost or in reset, or whose link sleeps, has none checked (R38). -/
def failingVc8 (obs : TickObs) (s : State) (die : Nat) : List CreditTerms :=
  if dieGone s die || s.rst.linkSleep.contains die then [] else obs.vc8.filter (fun x => x.owner = die && !x.balanced)

/-- A cell pool of `total` cells fails its ledger: the terms. -/
def failingPool (s : State) (bit total : Nat) : Option PoolTerms → List PoolTerms
  | some x => if hubSkips s bit || x.free + x.alloc + x.flight = total then [] else [x]
  | none => []

/-- What the ledgers come to at a tick, as sampled when the frame begins: the causes of each port, and how many fail of the rings of PF0, the
two pools and each die's VC8. -/
structure LedgerCheck where
  ports : Vector (List Nat) 8
  rings : Nat
  ct : Nat
  lp : Nat
  vc8 : Vector Nat 2
  deriving Repr

/-- The terms of a die's failing VC8 ledgers are held. -/
def State.holdVc8 (obs : TickObs) (s : State) (die : Nat) : State :=
  match (failingVc8 obs s die).getLast? with
  | some x => s.holdTerms (136 + die) (creditList x)
  | none => s

/-- The terms are sampled (Table 1-7), and those of failing ledgers held. -/
def State.sampleLedgers (obs : TickObs) (s : State) : State × LedgerCheck :=
  let ct := failingPool s 0 65536 obs.ctCells
  let lp := failingPool s 1 (lpTotal s) obs.lpCells
  let rings := if hubSkips s 2 then 0 else (failingRings s 0).length
  let check : LedgerCheck := { ports := Vector.ofFn (portCauses obs s), rings := rings, ct := ct.length, lp := lp.length,
                               vc8 := Vector.ofFn (fun d => (failingVc8 obs s d.val).length) }
  let s := if rings = 0 then s else s.holdRings 0
  let s := ct.foldl (fun s x => s.holdTerms 128 [x.free, x.alloc, x.flight, 65536]) s
  let s := lp.foldl (fun s x => s.holdTerms 129 [x.free, x.alloc, x.flight, lpTotal s]) s
  let s := (s.holdVc8 obs 0).holdVc8 obs 1
  (s.forPorts (fun s p => s.holdPort obs p check.ports[p]), check)

/-- The check is complete: any mismatch fences its owner. -/
def State.applyLedgers (s : State) (x : LedgerCheck) : State :=
  let s := s.forPorts (fun s p => s.portLedgers p x.ports[p])
  let s := ((s.hubLedger 2 x.rings).hubLedger 0 x.ct).hubLedger 1 x.lp
  (s.dieLedger 0 x.vc8[0]).dieLedger 1 x.vc8[1]

/-! ### The frame that begins -/

/-- The fall-back channel of a thermal input, as (converter, input) (Table 18-1). -/
def thermalInput (f : Nat) : Nat × Nat :=
  if f < 4 then (0, 40 + f) else if f < 8 then (1, 36 + f) else if f < 12 then (0, 36 + f) else (1, 32 + f)

/-- A measurement starts at this tick (R470): a conversion of every enabled fall-back channel is asked for (R468). -/
def State.thermalTick (s : State) : State :=
  if s.fc % 8 ≠ 0 && !s.flag R.THM_STATUS.fast then s
  else
    let on := (List.range 16).filter (fun f => s.flag (R.THM_FB_CFG.en f))
    let s := on.foldl (fun s f =>
      let (d, i) := thermalInput f
      s.setConv d { s.conv d with thermal := (s.conv d).thermal.filter (· ≠ i) ++ [i] }) s
    (s.hkaStart 0).hkaStart 1

/-- A frame that begins in SYNC, in BLIND or in a region reset is not accounted (R435), unless the port leaves that state at the very tick
that begins it: a takeover, a resolution or the end of the reset then takes the mark away. -/
def State.markFrame (s : State) (p : Port) : State :=
  s.modDba p (fun d => { d with unmapped :=
    (s.port p).prot.role = .sync || (s.port p).prot.role = .blind || s.inReset p })

/-- A port's frame begins: the presets staged for it are its bursts' (R92), and it is sent. -/
def State.beginPort (obs : TickObs) (s : State) (p : Port) : State :=
  let s := s.modSlu p (fun u => { u with staged := u.stagedNext, stagedNext := [] })
  ((s.txpBegin p).sendFrame p obs.poisoned).markFrame p

/-! ### The tick -/

/-- What a tick captures and applies before the ledgers are checked: resets, keys, switches and Alloc-ID commands of every port; modes; keys
and deltas of the pair; the capture size; and failed queue engines. -/
def State.tickCapture (obs : TickObs) (s : State) : State :=
  let s := s.forPorts (fun s p => (((s.resetTick p).applyKeys p).applySwitches p).applyAllocs p)
  let s := (s.modesTick.pairApply).capSizeTick
  ((List.range 9).filter (fun e => obs.engines.contains e)).foldl State.engineFails s

/-- The frame begins (t = 0 of Table 1-7): the Harvest snapshot, which the counts of the frame that begins do not enter (R433), the pair's side of the
tick, and the frames. -/
def State.tickBegin (obs : TickObs) (s : State) : State :=
  let s := ((s.forPorts State.slotAccounting).harvestTick).extCapture
  let s := s.pairTick (fun p => obs.light.any (fun x => x.port == p && hasLight s x))
  s.forPorts (State.beginPort obs)

/-- What follows the ledger check: the control cores run on their memory, whose poison fences the hub control region (R19); the DBA engine computes the map
of the frame two ticks on; what the pair sends, and the blocks of the hub. -/
def State.tickRest (s : State) : State :=
  let s := if coresRun s then s.useHub 5 s.tick else s
  let s := (s.forPorts State.computeMap).pairSend
  let s := (((s.hkaTick 0).hkaTick 1).hkaTick 2).thermalTick
  ((s.bdaTick.lanesTick).fwTick).deltaClearTick

/-- FRAME_TICK (R36, R37, Table 1-7): the frame that ends, the counters and the time of day, the captures; the ledger terms are sampled, the
frame begins, and the check that ends within 2 µs fences what does not balance. A fenced package keeps its time and does nothing else (R32). -/
def execFrameTick (obs : TickObs) (s : State) : Host.Outcome State Fault Refusal :=
  .next (
    if s.flag R.GLB_STATUS.pkg_fenced then s.todTick.captureRegs s.regs
    else
      let s := ((s.forPorts State.endPort).todTick.captureRegs s.regs).tickCapture obs
      let (s, check) := s.sampleLedgers obs
      ((s.tickBegin obs).applyLedgers check).tickRest)

end Sys2Proof.Machine
end

