-- ==== Sys2Proof/Machine/Dispatch.lean ====
section
/-!
DEFINITION. One arm per command: the command's meaning, or its rejection by name.
-/
namespace Sys2Proof.Machine

/-- The effect of a command on everything but the queue. -/
def exec (i : Instr) (s : State) : Host.Outcome State Fault Refusal :=
  match i with
  | .frameTick obs => Sys2Proof.Machine.execFrameTick obs s
  | .harvestDumpDone set => Sys2Proof.Machine.execHarvestDumpDone set s
  | .handover port cause => Sys2Proof.Machine.execHandover port cause s
  | .mapCommit port passUs => Sys2Proof.Machine.execMapCommit port passUs s
  | .dbaDeadlineMiss port => Sys2Proof.Machine.execDbaDeadlineMiss port s
  | .presetStaging port => Sys2Proof.Machine.execPresetStaging port s
  | .thermalMeasurement obs => Sys2Proof.Machine.execThermalMeasurement obs s
  | .avsWriteFailed rail => Sys2Proof.Machine.execAvsWriteFailed rail s
  | .graceExpired => Sys2Proof.Machine.execGraceExpired s
  | .enforcementStep => Sys2Proof.Machine.execEnforcementStep s
  | .holdingExpired => Sys2Proof.Machine.execHoldingExpired s
  | .compatCodeStep => Sys2Proof.Machine.execCompatCodeStep s
  | .railFault rail run => Sys2Proof.Machine.execRailFault rail run s
  | .heartbeatHoldExpired port => Sys2Proof.Machine.execHeartbeatHoldExpired port s
  | .fenceReq src port value => Sys2Proof.Machine.execFenceReq src port value s
  | .prtModeCtlWrite src port value => Sys2Proof.Machine.execPrtModeCtlWrite src port value s
  | .d2dLaneFail link direction lane => Sys2Proof.Machine.execD2dLaneFail link direction lane s
  | .lineDieLost die => Sys2Proof.Machine.execLineDieLost die s
  | .unitFaultDetected port unit criteria => Sys2Proof.Machine.execUnitFaultDetected port unit criteria s
  | .calWindowUpdate port obs => Sys2Proof.Machine.execCalWindowUpdate port obs s
  | .fgCalReq src port value => Sys2Proof.Machine.execFgCalReq src port value s
  | .fgCalDone port units => Sys2Proof.Machine.execFgCalDone port units s
  | .cnvTestFail src port value => Sys2Proof.Machine.execCnvTestFail src port value s
  | .xtlTestFail src port value => Sys2Proof.Machine.execXtlTestFail src port value s
  | .warmupComplete port units failed => Sys2Proof.Machine.execWarmupComplete port units failed s
  | .txCalDone port failed => Sys2Proof.Machine.execTxCalDone port failed s
  | .burstGuardStart port index => Sys2Proof.Machine.execBurstGuardStart port index s
  | .agcCommand port chan cycle codes => Sys2Proof.Machine.execAgcCommand port chan cycle codes s
  | .primaryDetection port chan position codes sdLow => Sys2Proof.Machine.execPrimaryDetection port chan position codes sdLow s
  | .preambleTakeover port chan position codes sdLow => Sys2Proof.Machine.execPreambleTakeover port chan position codes sdLow s
  | .delimiterMatch port chan position codes => Sys2Proof.Machine.execDelimiterMatch port chan position codes s
  | .falseLock port block => Sys2Proof.Machine.execFalseLock port block s
  | .windowClose port chan => Sys2Proof.Machine.execWindowClose port chan s
  | .rssiMarker port chan => Sys2Proof.Machine.execRssiMarker port chan s
  | .losDeclared port => Sys2Proof.Machine.execLosDeclared port s
  | .codewordWindowStart port win => Sys2Proof.Machine.execCodewordWindowStart port win s
  | .codewordToDecoder port cw fault => Sys2Proof.Machine.execCodewordToDecoder port cw fault s
  | .codewordRelease port cw obs => Sys2Proof.Machine.execCodewordRelease port cw obs s
  | .unitSwapAtBoundary port cls at_ => Sys2Proof.Machine.execUnitSwapAtBoundary port cls at_ s
  | .burstHeader port entry tick header => Sys2Proof.Machine.execBurstHeader port entry tick header s
  | .upstreamPloam port entry tick resp msg => Sys2Proof.Machine.execUpstreamPloam port entry tick resp msg s
  | .serialNumberResponse port entry tick resp msg tail => Sys2Proof.Machine.execSerialNumberResponse port entry tick resp msg tail s
  | .registration port entry tick msg tail => Sys2Proof.Machine.execRegistration port entry tick msg tail s
  | .statusReport port entry tick report => Sys2Proof.Machine.execStatusReport port entry tick report s
  | .encapsulationHeader port encap => Sys2Proof.Machine.execEncapsulationHeader port encap s
  | .reassemblyTimeout port alloc => Sys2Proof.Machine.execReassemblyTimeout port alloc s
  | .upstreamLookup port us => Sys2Proof.Machine.execUpstreamLookup port us s
  | .uplinkFrameRx uplink rs frame us => Sys2Proof.Machine.execUplinkFrameRx uplink rs frame us s
  | .meterRefresh flow us => Sys2Proof.Machine.execMeterRefresh flow us s
  | .rakeBlock port block => Sys2Proof.Machine.execRakeBlock port block s
  | .rakeWriteback port onu => Sys2Proof.Machine.execRakeWriteback port onu s
  | .trainRequestEnd port slot => Sys2Proof.Machine.execTrainRequestEnd port slot s
  | .rangingFailed port slot => Sys2Proof.Machine.execRangingFailed port slot s
  | .missMaxReached port slot => Sys2Proof.Machine.execMissMaxReached port slot s
  | .absentTimeout port slot => Sys2Proof.Machine.execAbsentTimeout port slot s
  | .driftCorrection port slot => Sys2Proof.Machine.execDriftCorrection port slot s
  | .flowCreate iss op0 image us => Sys2Proof.Machine.execFlowCreate iss op0 image us s
  | .flowModify iss op0 image => Sys2Proof.Machine.execFlowModify iss op0 image s
  | .flowDisable iss op0 => Sys2Proof.Machine.execFlowDisable iss op0 s
  | .flowRead iss op0 => Sys2Proof.Machine.execFlowRead iss op0 s
  | .flowBulkLoad iss op0 op1 images us => Sys2Proof.Machine.execFlowBulkLoad iss op0 op1 images us s
  | .queueBind iss op0 op1 => Sys2Proof.Machine.execQueueBind iss op0 op1 s
  | .queueModify iss op0 op1 => Sys2Proof.Machine.execQueueModify iss op0 op1 s
  | .queueUnbind iss op0 => Sys2Proof.Machine.execQueueUnbind iss op0 s
  | .queueRead iss op0 => Sys2Proof.Machine.execQueueRead iss op0 s
  | .nodeSet iss op0 op1 op2 op3 => Sys2Proof.Machine.execNodeSet iss op0 op1 op2 op3 s
  | .nodeRead iss op0 => Sys2Proof.Machine.execNodeRead iss op0 s
  | .ploamSend iss msg => Sys2Proof.Machine.execPloamSend iss msg s
  | .omciSend iss op0 data => Sys2Proof.Machine.execOmciSend iss op0 data s
  | .msgRxPost iss size => Sys2Proof.Machine.execMsgRxPost iss size s
  | .keyLoad iss op0 key => Sys2Proof.Machine.execKeyLoad iss op0 key s
  | .keySwitch iss op0 op1 op2 => Sys2Proof.Machine.execKeySwitch iss op0 op1 op2 s
  | .keyClear iss op0 => Sys2Proof.Machine.execKeyClear iss op0 s
  | .onuAdmit iss op0 op1 op2 op3 => Sys2Proof.Machine.execOnuAdmit iss op0 op1 op2 op3 s
  | .onuAdmitG50 iss op0 op1 op2 op3 => Sys2Proof.Machine.execOnuAdmitG50 iss op0 op1 op2 op3 s
  | .onuRemove iss op0 => Sys2Proof.Machine.execOnuRemove iss op0 s
  | .trainStart iss op0 => Sys2Proof.Machine.execTrainStart iss op0 s
  | .allocSet iss op0 op1 op2 op3 op4 => Sys2Proof.Machine.execAllocSet iss op0 op1 op2 op3 op4 s
  | .allocClear iss op0 => Sys2Proof.Machine.execAllocClear iss op0 s
  | .presetWrite iss op0 record => Sys2Proof.Machine.execPresetWrite iss op0 record s
  | .presetAnchor iss op0 => Sys2Proof.Machine.execPresetAnchor iss op0 s
  | .presetRestore iss op0 => Sys2Proof.Machine.execPresetRestore iss op0 s
  | .pairSwitch iss op0 => Sys2Proof.Machine.execPairSwitch iss op0 s
  | .pairKey iss key => Sys2Proof.Machine.execPairKey iss key s
  | .memScrub iss op0 op1 op2 op3 => Sys2Proof.Machine.execMemScrub iss op0 op1 op2 op3 s
  | .memScrubDone space checked narrowed => Sys2Proof.Machine.execMemScrubDone space checked narrowed s
  | .memFill iss op0 op1 op2 op3 op4 op5 => Sys2Proof.Machine.execMemFill iss op0 op1 op2 op3 op4 op5 s
  | .memRemapRead iss op0 op1 length => Sys2Proof.Machine.execMemRemapRead iss op0 op1 length s
  | .bitternRead iss op0 length => Sys2Proof.Machine.execBitternRead iss op0 length s
  | .demandScrub space w concurrent => Sys2Proof.Machine.execDemandScrub space w concurrent s
  | .hardFault space w => Sys2Proof.Machine.execHardFault space w s
  | .trackerWindowExpired space w => Sys2Proof.Machine.execTrackerWindowExpired space w s
  | .watchExpired space w => Sys2Proof.Machine.execWatchExpired space w s
  | .memInject src value => Sys2Proof.Machine.execMemInject src value s
  | .fwOpen iss header => Sys2Proof.Machine.execFwOpen iss header s
  | .fwWrite iss op0 data => Sys2Proof.Machine.execFwWrite iss op0 data s
  | .fwVerify iss => Sys2Proof.Machine.execFwVerify iss s
  | .verifyDone => Sys2Proof.Machine.execVerifyDone s
  | .fwActivate iss => Sys2Proof.Machine.execFwActivate iss s
  | .hcfReady settings => Sys2Proof.Machine.execHcfReady settings s
  | .hcfFallbackReq => Sys2Proof.Machine.execHcfFallbackReq s
  | .activationTimeout => Sys2Proof.Machine.execActivationTimeout s
  | .persistDone ok => Sys2Proof.Machine.execPersistDone ok s
  | .fwAbort iss => Sys2Proof.Machine.execFwAbort iss s
  | .fwConfirm iss => Sys2Proof.Machine.execFwConfirm iss s
  | .autoConfirm => Sys2Proof.Machine.execAutoConfirm s
  | .fwFallback iss => Sys2Proof.Machine.execFwFallback iss s
  | .fwAttest iss nonce => Sys2Proof.Machine.execFwAttest iss nonce s
  | .fwIdRead iss length => Sys2Proof.Machine.execFwIdRead iss length s
  | .offerRx side version secVersion totalLen digest good => Sys2Proof.Machine.execOfferRx side version secVersion totalLen digest good s
  | .replyRx side code offset digest good => Sys2Proof.Machine.execReplyRx side code offset digest good s
  | .dataRx side offset bytes good => Sys2Proof.Machine.execDataRx side offset bytes good s
  | .abortRx side reason digest good => Sys2Proof.Machine.execAbortRx side reason digest good s
  | .pullRx side digest good => Sys2Proof.Machine.execPullRx side digest good s
  | .sessionComplete => Sys2Proof.Machine.execSessionComplete s
  | .chainDataTimeout => Sys2Proof.Machine.execChainDataTimeout s
  | .forwardTimeout side => Sys2Proof.Machine.execForwardTimeout side s
  | .capArm iss op0 op1 op3 => Sys2Proof.Machine.execCapArm iss op0 op1 op3 s
  | .capStop iss pages => Sys2Proof.Machine.execCapStop iss pages s
  | .capRead iss op1 op2 length => Sys2Proof.Machine.execCapRead iss op1 op2 length s
  | .capStatus iss => Sys2Proof.Machine.execCapStatus iss s
  | .captureTrigger pages => Sys2Proof.Machine.execCaptureTrigger pages s
  | .captureEnd cause pages => Sys2Proof.Machine.execCaptureEnd cause pages s
  | .ringCreate fn => Sys2Proof.Machine.execRingCreate fn s
  | .ringDelete fn => Sys2Proof.Machine.execRingDelete fn s
  | .ringDeleteDone fn => Sys2Proof.Machine.execRingDeleteDone fn s
  | .sqDoorbell fn ring value => Sys2Proof.Machine.execSqDoorbell fn ring value s
  | .cqDoorbell fn ring value => Sys2Proof.Machine.execCqDoorbell fn ring value s
  | .descriptorFetch fn sq outcome => Sys2Proof.Machine.execDescriptorFetch fn sq outcome s
  | .functionLevelReset port => Sys2Proof.Machine.execFunctionLevelReset port s
  | .pf0FunctionLevelReset => Sys2Proof.Machine.execPf0FunctionLevelReset s
  | .deviceSoftReset src value => Sys2Proof.Machine.execDeviceSoftReset src value s
  | .eventSourceInput source input info => Sys2Proof.Machine.execEventSourceInput source input info s
  | .sourceDeassert source => Sys2Proof.Machine.execSourceDeassert source s
  | .eventCapture queue tickOffset => Sys2Proof.Machine.execEventCapture queue tickOffset s
  | .eqModerationTimer queue => Sys2Proof.Machine.execEqModerationTimer queue s
  | .eqDoorbell fn queue value => Sys2Proof.Machine.execEqDoorbell fn queue value s
  | .maskSet fn word value => Sys2Proof.Machine.execMaskSet fn word value s
  | .maskClr fn word value => Sys2Proof.Machine.execMaskClr fn word value s
  | .pendSet fn word value => Sys2Proof.Machine.execPendSet fn word value s
  | .pendClr fn word value => Sys2Proof.Machine.execPendClr fn word value s
  | .eventComplete fn value => Sys2Proof.Machine.execEventComplete fn value s
  | .senseChange fn index value => Sys2Proof.Machine.execSenseChange fn index value s
  | .sourceRetarget fn index value => Sys2Proof.Machine.execSourceRetarget fn index value s
  | .eqEnable fn queue value => Sys2Proof.Machine.execEqEnable fn queue value s
  | .counterWrite fn offset size value => Sys2Proof.Machine.execCounterWrite fn offset size value s
  | .counterSplitRead fn read => Sys2Proof.Machine.execCounterSplitRead fn read s
  | .latchedSetRead src addr => Sys2Proof.Machine.execLatchedSetRead src addr s
  | .hkaDataRead fn conv => Sys2Proof.Machine.execHkaDataRead fn conv s
  | .sidebandReadHalf addr => Sys2Proof.Machine.execSidebandReadHalf addr s
  | .sidebandWriteHalf addr value us => Sys2Proof.Machine.execSidebandWriteHalf addr value us s
  | .registerWrite src addr size enables value us => Sys2Proof.Machine.execRegisterWrite src addr size enables value us s
  | .coefCommit src port value => Sys2Proof.Machine.execCoefCommit src port value s
  | .maskCommit src port value => Sys2Proof.Machine.execMaskCommit src port value s
  | .hkaSwTrig src conv value => Sys2Proof.Machine.execHkaSwTrig src conv value s
  | .hkaMarker port onu fc => Sys2Proof.Machine.execHkaMarker port onu fc s
  | .hkaConversionDone conv nanovolts => Sys2Proof.Machine.execHkaConversionDone conv nanovolts s
  | .bdaCodeWrite src output value us => Sys2Proof.Machine.execBdaCodeWrite src output value us s
  | .bdaHoldExpired output us => Sys2Proof.Machine.execBdaHoldExpired output us s
  | .bdaOverTemp output us flag => Sys2Proof.Machine.execBdaOverTemp output us flag s
  | .otHoldRelease src output value us => Sys2Proof.Machine.execOtHoldRelease src output value us s
  | .thmSdClr src value => Sys2Proof.Machine.execThmSdClr src value s
  | .warmRegionResetReq src mask => Sys2Proof.Machine.execWarmRegionResetReq src mask s
  | .coldRegionResetReq src mask => Sys2Proof.Machine.execColdRegionResetReq src mask s
  | .regionResetComplete port => Sys2Proof.Machine.execRegionResetComplete port s
  | .hubRegionReset src value => Sys2Proof.Machine.execHubRegionReset src value s
  | .hubRegionResetDone regions us => Sys2Proof.Machine.execHubRegionResetDone regions us s
  | .lineDieReset src value => Sys2Proof.Machine.execLineDieReset src value s
  | .lineDieResetDone die failed => Sys2Proof.Machine.execLineDieResetDone die failed s
  | .deltaClear src value => Sys2Proof.Machine.execDeltaClear src value s
  | .powerOn => Sys2Proof.Machine.execPowerOn s
  | .resetN => Sys2Proof.Machine.execResetN s
  | .aonBrownout => Sys2Proof.Machine.execAonBrownout s
  | .startupStepComplete obs => Sys2Proof.Machine.execStartupStepComplete obs s
  | .deviceReady ms => Sys2Proof.Machine.execDeviceReady ms s
  | .fwRunning ms => Sys2Proof.Machine.execFwRunning ms s
  | .refclkLoss => Sys2Proof.Machine.execRefclkLoss s
  | .laneLockLoss lane cause => Sys2Proof.Machine.execLaneLockLoss lane cause s
  | .portUp port order => Sys2Proof.Machine.execPortUp port order s
  | .trainingTimeout port locked order => Sys2Proof.Machine.execTrainingTimeout port locked order s
  | .trainingRetry port => Sys2Proof.Machine.execTrainingRetry port s
  | .quietAnnounceRx side => Sys2Proof.Machine.execQuietAnnounceRx side s
  | .followLockTimeout lane => Sys2Proof.Machine.execFollowLockTimeout lane s
  | .laneInjSingle src lane value running => Sys2Proof.Machine.execLaneInjSingle src lane value running s
  | .laneInjBurst src lane value running => Sys2Proof.Machine.execLaneInjBurst src lane value running s
  | .heartbeatRx hb good => Sys2Proof.Machine.execHeartbeatRx hb good s
  | .heartbeatMissed => Sys2Proof.Machine.execHeartbeatMissed s
  | .pairLost => Sys2Proof.Machine.execPairLost s
  | .mapMessageRx port fc map good => Sys2Proof.Machine.execMapMessageRx port fc map good s
  | .deltaRx port seq mirror us good => Sys2Proof.Machine.execDeltaRx port seq mirror us good s
  | .deltaTimeout port => Sys2Proof.Machine.execDeltaTimeout port s
  | .ackRx port seq good => Sys2Proof.Machine.execAckRx port seq good s
  | .resyncOrder port => Sys2Proof.Machine.execResyncOrder port s
  | .bulkCopyRx port seq last mirror presets good => Sys2Proof.Machine.execBulkCopyRx port seq last mirror presets good s
  | .takeover port => Sys2Proof.Machine.execTakeover port s
  | .todMessageRx side msg good => Sys2Proof.Machine.execTodMessageRx side msg good s
  | .todHoldover => Sys2Proof.Machine.execTodHoldover s
  | .ppsEdge interval err afterTick => Sys2Proof.Machine.execPpsEdge interval err afterTick s
  | .ppsLost => Sys2Proof.Machine.execPpsLost s
  | .todAlign src value => Sys2Proof.Machine.execTodAlign src value s
  | .todArmSec src value => Sys2Proof.Machine.execTodArmSec src value s
  | .todFcSet src value => Sys2Proof.Machine.execTodFcSet src value s
  | .memFillDone iss => Sys2Proof.Machine.execMemFillDone iss s
  | .upstreamEgress uplink poisoned => Sys2Proof.Machine.execUpstreamEgress uplink poisoned s
  | .forwardingEnd side => Sys2Proof.Machine.execForwardingEnd side s
  | .refclkValid => Sys2Proof.Machine.execRefclkValid s
  | .resetNRelease => Sys2Proof.Machine.execResetNRelease s
  | .voltageWarning sample => Sys2Proof.Machine.execVoltageWarning sample s
  | .prbsCheckerLock lane bits own => Sys2Proof.Machine.execPrbsCheckerLock lane bits own s
  | .followSignalChange lane signal => Sys2Proof.Machine.execFollowSignalChange lane signal s
  | .d2dRetrainDone link direction => Sys2Proof.Machine.execD2dRetrainDone link direction s
  | .knownAnswerTestDone port cls unit passed => Sys2Proof.Machine.execKnownAnswerTestDone port cls unit passed s
  | .busMasterEnableChange fn on => Sys2Proof.Machine.execBusMasterEnableChange fn on s
  | .msixUnmask fn mask => Sys2Proof.Machine.execMsixUnmask fn mask s

end Sys2Proof.Machine
end

