-- ==== Sys2Proof/Machine/Views.lean ====
section
/-!
DEFINITION. What the host reads where no register of the map lies: the event controller's views (Table 14-7), the ONU window (Tables
9-6, 5-1 and 10-1), and BAR2 with its doorbell pages and MSI-X structures (R336, R337, R376).
-/
namespace Sys2Proof.Machine

/-! ### The event controller's views (R365, R369, R372, R383) -/

/-- One bit for each of the 32 sources of word `w` of a function's view; a source that does not exist reads 0. -/
def State.viewBits (s : State) (fn w : Nat) (f : Src → Bool) : Nat :=
  (List.range 32).foldl (fun n b =>
    n + (match viewSource s fn (32 * w + b) with | some id => bit01 (f (s.src id)) * 2 ^ b | none => 0)) 0

/-- EVC_SRC_CFG of the `i`-th source of a view. -/
def State.srcCfgWord (s : State) (fn i : Nat) : Nat :=
  match viewSource s fn i with
  | some id => (s.src id).queue % 2 ^ 6 * 2 ^ 16 + (s.src id).sense % 2 ^ 3 * 2 ^ 8
  | none => 0

/-- A word of an event queue's block: EQ_ADDR_LO, EQ_ADDR_HI, EQ_CFG, EQ_MOD, EQ_STATUS and EQ_HEAD. -/
def EvQueue.word (q : EvQueue) (k : Nat) : Nat :=
  match k with
  | 0 => q.addrLo % 2 ^ 20 * 2 ^ 12
  | 1 => q.addrHi % 2 ^ 32
  | 2 => bit01 q.en * 2 ^ 31 + q.vector % 2 ^ 6 * 2 ^ 24 + q.sizeCode % 2 ^ 5 * 2 ^ 16
  | 3 => q.modUsec % 2 ^ 16 * 2 ^ 16 + q.modCount % 2 ^ 16
  | 4 => q.statusWord
  | 5 => q.head % 2 ^ 16
  | _ => 0

/-- A function reads a queue's block: PF0 reads every queue, a port function its own, and 0 elsewhere (Table 14-7). -/
def State.eqRead (s : State) (fn q k : Nat) : Nat :=
  if fn = 0 || s.queueOwner q == fn then (s.evQueue q).word k else 0

/-- A read of a function's view at an offset of the EVC block for PF0, of the PRT block for a port function (Table 14-7). EVC_EQ_OWNER stands
in the register map. -/
def State.viewRead (s : State) (fn off : Nat) : Nat :=
  let cfg := if fn = 0 then 0 else 0x8000
  let mask := if fn = 0 then 0x8000 else 0xA000
  let span := if fn = 0 then 0x400 else 0x100
  let eqs := if fn = 0 then 0xA000 else 0xB000
  let word := (off - mask) % span / 4
  if off < cfg then 0
  else if off < mask then s.srcCfgWord fn ((off - cfg) / 4)
  else if off < mask + 2 * span then s.viewBits fn word (fun x => x.masked)
  else if off < mask + 4 * span then s.viewBits fn word (fun x => x.st = .pending)
  else if off < mask + 5 * span then s.viewBits fn word (fun x => x.input)
  else if off < mask + 6 * span then s.viewBits fn word (fun x => x.st = .inService)
  else if off = mask + 6 * span + 4 then bit01 (s.flag (viewErr fn)) * 2 ^ 31
  else if eqs ≤ off && off < eqs + 0x800 then s.eqRead fn ((off - eqs) / 32) (off % 32 / 4)
  else if fn = 0 && off = 0xB040 then s.fullQueues
  else 0

/-! ### The ONU window (R126, R267) -/

/-- A signed number in an `n`-bit field. -/
def signedField (n : Nat) (x : Int) : Nat := (BitVec.ofInt n x).toNat

/-- The code of a context's state (Table 9-2). -/
def onuCode : OnuState → Nat
  | .free => 0
  | .admitted => 1
  | .ranging => 2
  | .training => 3
  | .operation => 4
  | .absent => 5
  | .dormant => 6

/-- A word of an ONU context (Table 9-6). -/
def ctxImage (x : OnuCtx) (k : Nat) : Nat :=
  match k with
  | 0 => onuCode x.st * 2 ^ 28 + x.onuId % 2 ^ 10 * 2 ^ 16 + x.unans % 2 ^ 4 * 2 ^ 12 + x.rngTried % 2 ^ 4 * 2 ^ 8 + x.ncRun % 2 ^ 8
  | 1 => x.requestId % 2 ^ 8 * 2 ^ 24 + x.eqd % 2 ^ 24
  | 2 => x.serial % 2 ^ 32
  | 3 => x.serial / 2 ^ 32 % 2 ^ 32
  | 4 => x.rtd % 2 ^ 24
  | 5 => x.missRun % 2 ^ 16 * 2 ^ 16 + signedField 16 x.lastD
  | 6 => x.stateFc % 2 ^ 32
  | 7 => x.absentLeft % 2 ^ 16
  | 8 => x.caps % 2 ^ 8
  | _ => 0

/-- A word of a preset record (Table 5-1). -/
def presetImage (x : Preset) (k : Nat) : Nat :=
  let tap := fun (i : Nat) => signedField 16 (x.taps.toList.getD i 0)
  if k = 0 then x.cdrPhase % 2 ^ 6 * 2 ^ 26 + signedField 9 x.dcLevel * 2 ^ 16 + x.gain % 2 ^ 7 * 2 ^ 8 + x.ctle % 2 ^ 4
  else if k = 1 then
    signedField 8 x.cm * 2 ^ 24 + x.gen % 2 ^ 8 * 2 ^ 16 + signedField 8 x.eqBias * 2 ^ 8 + bit01 x.trained * 2 + bit01 x.valid
  else if k < 18 then tap (2 * (k - 2) + 1) * 2 ^ 16 + tap (2 * (k - 2))
  else if k = 18 then x.errMean % 2 ^ 16 * 2 ^ 16 + x.wbCount % 2 ^ 16
  else if k = 19 then x.lastFrame % 2 ^ 32
  else if k = 20 then x.frozenBlocks % 2 ^ 16 * 2 ^ 16 + x.usedBlocks % 2 ^ 16
  else if k = 21 then x.anchorRun % 2 ^ 16 * 2 ^ 16
  else 0

/-- A word of an Alloc-ID record (Table 10-1). -/
def recordImage (x : AllocRec) (k : Nat) : Nat :=
  let p := x.pol
  match k with
  | 0 => bit01 x.valid * 2 ^ 31 + bit01 p.rpt * 2 ^ 30 + p.profile % 2 ^ 3 * 2 ^ 27 + p.alloc % 2 ^ 12 * 2 ^ 12 + p.period % 2 ^ 8
  | 1 => p.phase % 2 ^ 8 * 2 ^ 24 + p.fixed % 2 ^ 18
  | 2 => p.assured % 2 ^ 18
  | 3 => p.weight % 2 ^ 8 * 2 ^ 24 + p.peak % 2 ^ 18
  | 4 => x.repAge % 2 ^ 8 * 2 ^ 24 + x.occupancy % 2 ^ 24
  | 5 => x.trend % 2 ^ 16 * 2 ^ 16
  | 6 => x.grantedSince % 2 ^ 32
  | 7 => x.lastGrant % 2 ^ 32
  | _ => 0

/-- A read of the ONU window at a context's offset: the context, its working and anchor preset, its 16 Alloc-ID records. -/
def windowImage (x : OnuCtx) (off : Nat) : Nat :=
  if off < 0x100 then ctxImage x (off / 4)
  else if off < 0x180 then presetImage x.work ((off - 0x100) / 4)
  else if off < 0x200 then presetImage x.anchor ((off - 0x180) / 4)
  else recordImage (x.recs.toList.getD ((off - 0x200) / 32) AllocRec.blank) (off % 32 / 4)

/-- A read of a port's ONU window at its offset; the contexts fill the first 256 KiB. -/
def State.onuWindow (s : State) (p : Port) (off : Nat) : Nat := windowImage (s.ctx p (off / 0x400)) (off % 0x400)

/-! ### A register read (R336, R492, R526, R528) -/

/-- The first register of the set that an address, other than the first's, belongs to, and its place in the set. -/
def setFirst (a : Nat) : Option (Nat × Nat) :=
  ([4, 8, 12, 16].filter (· ≤ a)).findSome? (fun d =>
    match setOf (a - d) with
    | some l => if l.contains a then some (a - d, l.findIdx (· == a)) else none
    | none => none)

/-- What a 4-byte read of a source returns at a device address: 0 where the source does not see it or the access is not acted on, and the latched
word of a set whose first register the source has read. -/
def State.readWord (s : State) (src a : Nat) : Word :=
  if !sees src a || accessKind s src a false ≠ 0 then 0
  else
    match portAt a with
    | some p =>
      if addrBlock a = 0 && 0x8000 ≤ addrOff a then BitVec.ofNat 32 (s.viewRead (p.val + 1) (addrOff a))
      else if addrBlock a = 8 && addrOff a < 0x40000 then BitVec.ofNat 32 (s.onuWindow p (addrOff a))
      else
        match setFirst a with
        | some (first, i) => latchedWord s src first i (s.reg a)
        | none => s.reg a
    | none =>
      if addrBlock a = 5 && !(within (addrOff a) 0xB000 0xB01F) then BitVec.ofNat 32 (s.viewRead 0 (addrOff a))
      else
        match setFirst a with
        | some (first, i) => latchedWord s src first i (s.reg a)
        | none => s.reg a

/-! ### The BARs (R336, R337, R376, R523) -/

/-- The size of a function's BAR in bytes (Table 13-2). -/
def barSize (fn bar : Nat) : Nat := if bar = 2 || (bar = 0 && fn = 0) then 0x1000000 else 0x100000

/-- The device address at an offset of a function's BAR0: the hub blocks and, from 0x80_0000, the eight port windows for PF0; its port's window for a
port function (R523). -/
def bar0Addr (fn off : Nat) : Nat :=
  if fn = 0 then if off < 0x800000 then off else off + 0x800000 else 0x1000000 + (fn - 1) * 0x100000 + off

/-- A place of BAR2. -/
inductive Bar2At where
  | sqDoorbell (ring at_ : Nat)
  | cqDoorbell (ring at_ : Nat)
  | eqDoorbell (queue at_ : Nat)
  | msixEntry (vec word : Nat)
  | msixPba (word : Nat)
  | nothing
  deriving DecidableEq, Repr

/-- What lies at an offset of BAR2 (Table 13-2, R376): doorbell pages of 4 KiB, the 64 16-byte entries of the MSI-X table, and its Pending Bit Array. -/
def bar2At (off : Nat) : Bar2At :=
  if off < 0x400000 then .sqDoorbell (off / 0x1000) (off % 0x1000)
  else if off < 0x800000 then .cqDoorbell ((off - 0x400000) / 0x1000) (off % 0x1000)
  else if off < 0x800400 then .msixEntry ((off - 0x800000) / 16) (off % 16 / 4)
  else if 0x801000 ≤ off && off < 0x801008 then .msixPba ((off - 0x801000) / 4)
  else if 0xC00000 ≤ off && off < 0xC40000 then .eqDoorbell ((off - 0xC00000) / 0x1000) (off % 0x1000)
  else .nothing

/-- A word of a vector's entry in the MSI-X table: address low and high, data, and vector control with the mask in bit 0. -/
def State.msixWord (s : State) (fn vec k : Nat) : Nat :=
  if k = 3 then bit01 (Tab.get (fun _ => true) s.ev.vecMask (fn * 64 + vec))
  else Tab.get (fun _ => 0) s.ev.msixTable ((fn * 64 + vec) * 4 + k)

/-- A word of a function's Pending Bit Array. -/
def State.pbaWord (s : State) (fn k : Nat) : Nat :=
  (List.range 32).foldl (fun n b => n + bit01 (Tab.get (fun _ => false) s.ev.msixPend (fn * 64 + 32 * k + b)) * 2 ^ b) 0

/-- A 4-byte read of BAR2: doorbells and unassigned offsets read 0. -/
def State.bar2Read (s : State) (fn off : Nat) : Nat :=
  match bar2At off with
  | .msixEntry vec k => s.msixWord fn vec k
  | .msixPba k => s.pbaWord fn k
  | _ => 0

/-- A write of a word of a vector's MSI-X entry. Clearing the mask is MSIX_UNMASK. -/
def State.msixWrite (s : State) (fn vec k value : Nat) : State :=
  if k = 3 then
    if bitAt value 0 then { s with ev := { s.ev with vecMask := Tab.set (fun _ => true) s.ev.vecMask (fn * 64 + vec) true } }
    else landed s (execMsixUnmask fn (.vector vec) s)
  else { s with ev := { s.ev with
      msixTable := Tab.set (fun _ => 0) s.ev.msixTable ((fn * 64 + vec) * 4 + k) (if k = 0 then value / 4 * 4 else value) } }

/-- The value of a doorbell that a write carries: the 4 bytes at offset 0 of the page, alone or as part of a larger write (R337). -/
def doorbellValue (pageOff : Nat) (bytes : List Byte) : Option Nat :=
  if pageOff = 0 && 4 ≤ bytes.length then some (leNat (bytes.take 4)) else none

/-- A doorbell page takes the doorbell that a write carries, and nothing else. -/
def State.ringDoorbell (s : State) (pageOff : Nat) (bytes : List Byte) (f : State → Nat → State) : State :=
  match doorbellValue pageOff bytes with
  | some v => f s v
  | none => s

/-- A write of bytes to an offset of a function's BAR2. A write of a doorbell page is the doorbell's row; the MSI-X table takes aligned words; the
Pending Bit Array and unassigned offsets take nothing. -/
def State.bar2Write (s : State) (fn off : Nat) (bytes : List Byte) : State :=
  match bar2At off with
  | .sqDoorbell r at_ => s.ringDoorbell at_ bytes (fun s v => landed s (execSqDoorbell fn r v s))
  | .cqDoorbell r at_ => s.ringDoorbell at_ bytes (fun s v => landed s (execCqDoorbell fn r v s))
  | .eqDoorbell q at_ => s.ringDoorbell at_ bytes (fun s v => landed s (execEqDoorbell fn q v s))
  | .msixEntry vec k =>
    if off % 4 = 0 && bytes.length % 4 = 0 && k + bytes.length / 4 ≤ 4 then
      (List.range (bytes.length / 4)).foldl (fun s i => s.msixWrite fn vec (k + i) (leNat ((bytes.drop (4 * i)).take 4))) s
    else s
  | .msixPba _ => s
  | .nothing => s

end Sys2Proof.Machine
end

