-- ==== Sys2Proof/Safety.lean ====
section
/-!
DEFINITION. The invariant of the device that every step keeps, and the commands that move its time.
-/
namespace Sys2Proof.Machine

/-- The register file and its captured copies are in canonical form, so that equal registers are equal data; so are the counters, each of
which holds 56 bits (R427, R428); and the frame counter holds 51 bits (R206). -/
structure State.Inv (s : State) : Prop where
  regs : Tab.wf resetWord s.regs
  snap0 : Tab.wf resetWord s.snap0
  snap1 : Tab.wf resetWord s.snap1
  snap2 : Tab.wf resetWord s.snap2
  snap3 : Tab.wf resetWord s.snap3
  counters : Tab.wf (fun _ => Counter.zero) s.ctr.counters
  values : ∀ e ∈ s.ctr.counters, e.2.value < 2 ^ 56
  fc : s.fc < 2 ^ 51

/-- The frame ticks a command brings. -/
def ticksOf : Instr → Nat
  | .frameTick _ => 1
  | _ => 0

/-- The commands after which the frame counter can read otherwise: the tick, and those that may reset the package. -/
def movesFc : Instr → Bool
  | .frameTick _ => true
  | .thermalMeasurement _ => true
  | .deviceSoftReset _ _ => true
  | .sidebandWriteHalf _ _ _ => true
  | .registerWrite _ _ _ _ _ _ => true
  | .powerOn => true
  | .resetN => true
  | .aonBrownout => true
  | _ => false

/-- The write reaches the register of the address: its source sees the address, and neither start-up, a lost die nor its kind turns it
away (R336, R492, R525, R528). -/
abbrev Reaches (s : State) (src a : Nat) : Prop := sees src a = true ∧ accessKind s src a true = 0

/-- Every operand bit that is set is one that Table 13-6 names for the command (R352). -/
abbrev Named (iss : Issue) (ops : List (Nat × Nat)) : Prop := anyReserved ops = false ∧ iss.unnamed = false

/-- A command on a port starts: it waits neither for a reset (R349) nor for a command before it in its ring (R348), and no reserved operand bit
is set (R352). -/
abbrev Starts (s : State) (iss : Issue) (p : Port) (ops : List (Nat × Nat)) : Prop :=
  waitsForReset s iss p = false ∧ waitsInRing s iss = false ∧ Named iss ops

/-- A command of the hub starts: it comes from PF0, waits for no command before it in its ring (R348), and no reserved operand bit is set. -/
abbrev HubStarts (s : State) (iss : Issue) (ops : List (Nat × Nat)) : Prop := iss.fn = 0 ∧ waitsInRing s iss = false ∧ Named iss ops

end Sys2Proof.Machine
end

