-- ==== Sys2Proof/Certificates/Slice0/Obligations.lean ====
section
/-!
DEFINITION. The statements about the device, one definition each.
-/
open Sys2Proof Sys2Proof.Machine

/-- A step of a state whose queue has a command in front runs that command on the state with the rest of the queue. The queue is the model's own
(notes/assumptions/1.md). -/
def Obligations.StepRunsTheFrontCommand : Prop :=
  ∀ (c : Instr) (rest : List Instr) (s : State),
    step { s with pending := c :: rest } = exec c { s with pending := rest }

/-- With no command waiting the block idles. -/
def Obligations.AnEmptyQueueIdles : Prop :=
  ∀ s : State, s.pending = [] → step s = .next s

/-- The machine at power-on (R432, R368, R372, R492): registers at their reset words, counters at 0, sources masked and IDLE, queue ownership, DEVICE_READY
low, every port in OFF, no ring. -/
def Obligations.ResetLeaves : Prop :=
  (∀ a, State.reset.reg a = resetWord a) ∧
  (∀ i, State.reset.counter i = { value := 0, ovf := false }) ∧
  (∀ i, (State.reset.src i).masked = true ∧ (State.reset.src i).st = .idle) ∧
  (∀ q, q < 16 → State.reset.queueOwner q = 0) ∧
  (∀ k, k < 8 → ∀ j, j < 6 → State.reset.queueOwner (16 + 6 * k + j) = k + 1) ∧
  State.reset.ready = false ∧
  (∀ p, State.reset.mode p = 0) ∧
  (∀ fn i, State.reset.sq? fn i = none ∧ State.reset.cq? fn i = none)

/-- The invariant holds at reset. -/
def Obligations.ResetMeetsTheInvariant : Prop := State.reset.Inv

/-- The invariant (R206, R427, R428: the widths of the frame counter and of a counter) is kept by every step from every state that meets it. -/
def Obligations.EveryStepKeepsTheInvariant : Prop :=
  ∀ s t : State, s.Inv → step s = .next t → t.Inv

/-- No command stops the machine: a command that is turned away completes with a status or is ignored and counted, as its rule says (R350, R336). -/
def Obligations.NoCommandStopsTheMachine : Prop :=
  ∀ (c : Instr) (s : State), ∃ t, exec c s = .next t

/-- A frame tick advances the tick number by one, and no other command moves it. -/
def Obligations.OnlyTheTickAdvancesTheTickNumber : Prop :=
  ∀ (c : Instr) (s t : State), s.Inv → exec c s = .next t → t.tick = s.tick + ticksOf c

/-- The frame counter increments at the tick (R206); besides, only a reset of the package, or a command that may let one happen, changes it. -/
def Obligations.TheFrameCounterMovesOnlyWhereItMay : Prop :=
  ∀ (c : Instr) (s t : State), s.Inv → movesFc c = false → exec c s = .next t → t.fc = s.fc

/-- No command touches the queue of waiting commands. -/
def Obligations.CommandsLeaveTheQueue : Prop :=
  ∀ (c : Instr) (s t : State), s.Inv → exec c s = .next t → t.pending = s.pending

/-- Writes of the mask and pending addresses act on the sources of their 1 bits, and their reads return the mask and the pending state.
It concludes exec = next, under conditions on the state and the operands alone, for: MASK_SET, MASK_CLR, PEND_SET, PEND_CLR. -/
def Obligations.MaskAndPendingWritesActOnTheSourcesTheyName : Prop :=
  ∀ (s : State) (fn w v : Nat),
    (Reaches s fn (viewAddr fn (0x8000 + 4 * w) (0xA000 + 4 * w)) →
      exec (.maskSet fn w v) s = .next (s.overBits fn w v State.maskSource)) ∧
    (Reaches s fn (viewAddr fn (0x8400 + 4 * w) (0xA100 + 4 * w)) →
      exec (.maskClr fn w v) s = .next (s.overBits fn w v State.unmaskSource)) ∧
    (Reaches s fn (viewAddr fn (0x8800 + 4 * w) (0xA200 + 4 * w)) →
      exec (.pendSet fn w v) s = .next (s.overBits fn w v State.pendSource)) ∧
    (Reaches s fn (viewAddr fn (0x8C00 + 4 * w) (0xA300 + 4 * w)) →
      exec (.pendClr fn w v) s = .next (s.overBits fn w v State.unpendSource)) ∧
    (w < 256 → ∀ k, k < 2 →
      s.viewRead 0 (0x8000 + 0x400 * k + 4 * w) = s.viewBits 0 w (fun x => x.masked) ∧
      s.viewRead 0 (0x8800 + 0x400 * k + 4 * w) = s.viewBits 0 w (fun x => x.st = .pending)) ∧
    (w < 64 → fn ≠ 0 → ∀ k, k < 2 →
      s.viewRead fn (0xA000 + 0x100 * k + 4 * w) = s.viewBits fn w (fun x => x.masked) ∧
      s.viewRead fn (0xA200 + 0x100 * k + 4 * w) = s.viewBits fn w (fun x => x.st = .pending)) ∧
    (∀ (f : Src → Bool) (b : Nat), b < 32 →
      (s.viewBits fn w f).testBit b = match viewSource s fn (32 * w + b) with | some id => f (s.src id) | none => false)

/-- What masking, unmasking, pending and clearing do to one source. -/
def Obligations.MaskingAndUnmaskingASource : Prop :=
  ∀ (s : State) (id : Nat),
    ((s.maskSource id).src id = { s.src id with masked := true } ∧
      s.maskSource id = { s with ev := (s.maskSource id).ev } ∧
      ((s.src id).masked = false → (s.src id).st = .pending →
        ((s.maskSource id).evQueue (s.src id).queue).list = ((s.evQueue (s.src id).queue).list).filter (fun e => e ≠ .source id))) ∧
    ((s.unmaskSource id).src id = { s.src id with masked := false } ∧
      s.unmaskSource id = { s with ev := (s.unmaskSource id).ev } ∧
      ((s.src id).masked = true → (s.src id).st = .pending →
        ((s.unmaskSource id).evQueue (s.src id).queue).list = (s.evQueue (s.src id).queue).list ++ [.source id])) ∧
    ((s.src id).st = .idle → (s.pendSource id).src id = { s.src id with st := .pending, count := 0, sw := true, times := (s.src id).times + 1 }) ∧
    ((s.src id).st = .pending → s.pendSource id = s.setSrc id { s.src id with sw := true }) ∧
    ((s.src id).st = .inService → s.pendSource id = s.bump 0x230A) ∧
    ((s.src id).st = .pending → levelSense (s.src id).sense = false →
      (s.unpendSource id).src id = { s.src id with st := .idle, count := 0, sw := false } ∧
      ((s.src id).masked = false →
        ((s.unpendSource id).evQueue (s.src id).queue).list = ((s.evQueue (s.src id).queue).list).filter (fun e => e ≠ .source id))) ∧
    ((s.src id).st ≠ .pending → s.unpendSource id = s)

/-- An input of a source moves it through the states of Table 14-5.
It concludes exec = next, under conditions on the state and the operands alone, for: EVENT_SOURCE_INPUT, SOURCE_DEASSERT. -/
def Obligations.SourceInputsFollowTheStateTable : Prop :=
  ∀ (s : State) (id info : Nat) (b : Bool), sourceExists id = true →
    (∃ t, exec (.eventSourceInput id b info) s = .next t ∧ t = { s with regs := t.regs, ev := t.ev, ctr := t.ctr } ∧
      (b = false ∨ (s.src id).input = true ∨ mirrorBit id = none → t.regs = s.regs) ∧
      (∀ a i, b = true → (s.src id).input = false → mirrorBit id = some (a, i) → t.regs = (s.setReg a (wordSetField (s.reg a) i i 1)).regs) ∧
      (t.src id).input = b ∧ (t.src id).info = info % 2 ^ 32 ∧
      (levelSense (s.src id).sense = true → (s.src id).st = .idle → assertedAt (s.src id).sense b = true →
        (t.src id).st = .pending ∧ (t.src id).count = 0) ∧
      (levelSense (s.src id).sense = true → (s.src id).st = .pending → (s.src id).sw = false → assertedAt (s.src id).sense b = false →
        (t.src id).st = .idle ∧ t.counter 0x2305 = (s.counter 0x2305).add 1) ∧
      (levelSense (s.src id).sense = true → (s.src id).st = .inService → assertedAt (s.src id).sense b = false →
        (t.src id).st = .idle) ∧
      (levelSense (s.src id).sense = false → edgeAt (s.src id).sense (s.src id).input b = true → (s.src id).st = .idle →
        (t.src id).st = .pending ∧ (t.src id).count = 0) ∧
      (levelSense (s.src id).sense = false → edgeAt (s.src id).sense (s.src id).input b = true → (s.src id).st = .pending →
        (t.src id).st = .pending ∧ (t.src id).count = min ((s.src id).count + 1) 255 ∧
        t.counter 0x2304 = (s.counter 0x2304).add 1) ∧
      (levelSense (s.src id).sense = false → edgeAt (s.src id).sense (s.src id).input b = false →
        (t.src id).st = (s.src id).st ∧ (t.src id).count = (s.src id).count)) ∧
    (levelSense (s.src id).sense = true →
      exec (.sourceDeassert id) s = .next (s.sourceInput id ((s.src id).sense == 1) (s.src id).info))

/-- EVENT_CAPTURE writes the record at the head of the list, and a full queue writes none.
It concludes exec = next, under conditions on the state and the operands alone, for: EVENT_CAPTURE. -/
def Obligations.AnEventQueueCapturesItsHead : Prop :=
  ∀ (x : State) (q tickOffset : Nat), q < 64 → canCapture x q = true → ∀ s, s = x.useHub 1 q →
    (canCapture s q = false → exec (.eventCapture q tickOffset) x = .next s) ∧ (canCapture s q = true →
    (∀ id rest, (s.evQueue q).list = .source id :: rest → (s.evQueue q).full = false →
      exec (.eventCapture q tickOffset) x
        = .next ((((s.writeRecord q (sourceRecord s q id tickOffset)).afterCapture id).bump 0x2300).moderate q false)) ∧
    (∀ id new rest, (s.evQueue q).list = .marker id new :: rest → (s.evQueue q).full = false →
      exec (.eventCapture q tickOffset) x
        = .next (((s.writeRecord q (markerRecord s q id new tickOffset)).bump 0x2301).moderate q false)) ∧
    (∀ e rest, (s.evQueue q).list = e :: rest → (s.evQueue q).full = true →
      exec (.eventCapture q tickOffset) x = .next (s.bump 0x2306)) ∧
    (∀ r, ((s.writeRecord q r).evQueue q).list = (s.evQueue q).list.tail ∧
      (s.writeRecord q r).out = .busWrite (s.queueOwner q) (((s.evQueue q).addrHi * 2 ^ 32 + (s.evQueue q).addrLo * 2 ^ 12) + 16 * (s.evQueue q).wr) r.bytes
        :: .eventRecord q (s.evQueue q).wr r :: s.out ∧ r.bytes.length = 16) ∧
    (∀ id, ((s.afterCapture id).src id).st
      = if levelSense (s.src id).sense && assertedAt (s.src id).sense (s.src id).input then .inService else .idle))

/-- A queue's doorbell, its moderation window and its vector.
It concludes exec = next, under conditions on the state and the operands alone, for: EQ_MODERATION_TIMER, EQ_DOORBELL. -/
def Obligations.EventQueueDoorbellsAndTimers : Prop :=
  ∀ (s : State) (fn q v : Nat), q < 64 →
    (s.ready = true → s.queueOwner q = fn → (s.evQueue q).en = true → bitsOf v 29 16 = 0 → bitsOf v 15 0 < 2 ^ (s.evQueue q).sizeCode →
      (bitsOf v 15 0 + 2 ^ (s.evQueue q).sizeCode - (s.evQueue q).head) % 2 ^ (s.evQueue q).sizeCode ≤ (s.evQueue q).unconsumed →
      exec (.eqDoorbell fn q v) s
        = .next ((s.setEvQueue q { s.evQueue q with
            head := bitsOf v 15 0, armed := (s.evQueue q).armed || bitAt v 31,
            idleHint := if bitAt v 31 then bitAt v 30 else (s.evQueue q).idleHint }).moderate q false)) ∧
    (s.ready = false ∨ s.queueOwner q ≠ fn ∨ (s.evQueue q).en = false ∨ bitsOf v 29 16 ≠ 0 ∨ 2 ^ (s.evQueue q).sizeCode ≤ bitsOf v 15 0 ∨
      (s.evQueue q).unconsumed < (bitsOf v 15 0 + 2 ^ (s.evQueue q).sizeCode - (s.evQueue q).head) % 2 ^ (s.evQueue q).sizeCode →
      exec (.eqDoorbell fn q v) s = .next (s.bump 0x2309)) ∧
    ((s.evQueue q).window = true → exec (.eqModerationTimer q) s = .next (s.moderate q true)) ∧
    (∀ timer, (s.evQueue q).armed = true → (s.evQueue q).unconsumed ≠ 0 → s.hubControlFenced = false →
      ((s.evQueue q).modUsec = 0 ∨ (s.evQueue q).idleHint = true ∨ max (s.evQueue q).modCount 1 ≤ (s.evQueue q).unconsumed ∨
        (timer = true ∧ (s.evQueue q).window = true)) →
      s.moderate q timer = s.raiseVector q) ∧
    ((s.raiseVector q).evQueue q = { s.evQueue q with armed := false, idleHint := false, window := false } ∧
      (s.raiseVector q).counter 0x2307 = (s.counter 0x2307).add 1) ∧
    (∀ vec, Tab.get (fun _ => false) s.ev.fnMask fn = false → Tab.get (fun _ => true) s.ev.vecMask (fn * 64 + vec) = false → masters s fn = true →
      s.message fn vec = s.emit (.interrupt fn vec (s.msixWord fn vec 1 * 2 ^ 32 + s.msixWord fn vec 0) (s.msixWord fn vec 2))) ∧
    (∀ vec, Tab.get (fun _ => false) s.ev.fnMask fn = true ∨ Tab.get (fun _ => true) s.ev.vecMask (fn * 64 + vec) = true ∨ masters s fn = false →
      Tab.get (fun _ => false) (s.message fn vec).ev.msixPend (fn * 64 + vec) = true ∧ (s.message fn vec).out = s.out)

/-- COMPLETE, a change of sense and a retarget.
It concludes exec = next, under conditions on the state and the operands alone, for: EVENT_COMPLETE, SENSE_CHANGE, SOURCE_RETARGET. -/
def Obligations.CompletionSenseAndRetarget : Prop :=
  ∀ (s : State) (fn i v id : Nat),
    (Reaches s fn (viewAddr fn 0x9800 0xA600) → viewSource s fn (bitsOf v 12 0) = some id →
      ((s.src id).st = .inService → exec (.eventComplete fn v) s = .next ((s.makePending id false).bump 0x2302)) ∧
      ((s.src id).st ≠ .inService → exec (.eventComplete fn v) s = .next (s.bump 0x2303))) ∧
    (Reaches s fn (viewAddr fn (4 * i) (0x8000 + 4 * i)) → viewSource s fn i = some id → bitsOf v 10 8 ≤ 4 →
      (fn = 0 ∨ s.queueOwner (bitsOf v 21 16) = fn) →
      (bitsOf v 10 8 ≠ (s.src id).sense → bitsOf v 21 16 = (s.src id).queue → levelSense (bitsOf v 10 8) = false →
        ∃ t, exec (.senseChange fn i v) s = .next t ∧ t = { s with ev := t.ev } ∧
          (t.src id).sense = bitsOf v 10 8 ∧ (t.src id).st = .idle ∧ (t.src id).input = (s.src id).input) ∧
      (bitsOf v 10 8 = (s.src id).sense → bitsOf v 21 16 ≠ (s.src id).queue →
        ∃ t, exec (.sourceRetarget fn i v) s = .next t ∧ t = { s with ev := t.ev } ∧
          t.src id = { s.src id with queue := bitsOf v 21 16 } ∧
          ((s.src id).st = .pending → (s.src id).masked = false →
            (t.evQueue (bitsOf v 21 16)).list = (s.evQueue (bitsOf v 21 16)).list ++ [.source id] ∧
            (t.evQueue (s.src id).queue).list
              = (s.evQueue (s.src id).queue).list.filter (fun e => e ≠ .source id) ++ [.marker id (bitsOf v 21 16)])))

/-- A write that names the present queue of a source changes nothing.
It concludes exec = next, under conditions on the state and the operands alone, for: SOURCE_RETARGET. -/
def Obligations.AWriteThatNamesTheSourcesQueueChangesNothing : Prop :=
  ∀ (s : State) (fn i v id : Nat), Reaches s fn (viewAddr fn (4 * i) (0x8000 + 4 * i)) → viewSource s fn i = some id →
    bitsOf v 10 8 = (s.src id).sense → bitsOf v 10 8 ≤ 4 → (fn = 0 ∨ s.queueOwner (bitsOf v 21 16) = fn) →
    (bitsOf v 21 16 = (s.src id).queue → exec (.sourceRetarget fn i v) s = .next s) ∧
    (bitsOf v 21 16 ≠ (s.src id).queue → exec (.sourceRetarget fn i v) s = .next (s.retarget id (bitsOf v 21 16)))

/-- A port function's write that names a queue it does not own is refused whole.
It concludes exec = next, under conditions on the state and the operands alone, for: SENSE_CHANGE, SOURCE_RETARGET. -/
def Obligations.APortViewTargetsOnlyItsOwnQueues : Prop :=
  ∀ (s : State) (fn i v id : Nat), Reaches s fn (viewAddr fn (4 * i) (0x8000 + 4 * i)) → viewSource s fn i = some id →
    (fn ≠ 0 → s.queueOwner (bitsOf v 21 16) ≠ fn →
      ∃ t, exec (.sourceRetarget fn i v) s = .next t ∧ exec (.senseChange fn i v) s = .next t ∧
        t = { s with regs := t.regs, ctr := t.ctr } ∧ (∀ a, a ≠ (viewErr fn).addr → t.reg a = s.reg a) ∧
        t.flag (viewErr fn) = true) ∧
    (fn = 0 → bitsOf v 10 8 = (s.src id).sense → bitsOf v 10 8 ≤ 4 → bitsOf v 21 16 ≠ (s.src id).queue →
      ∃ t, exec (.sourceRetarget fn i v) s = .next t ∧ (t.src id).queue = bitsOf v 21 16)

/-- EQ_CFG starts and stops a queue, a vector is unmasked, and Bus Master Enable changes.
It concludes exec = next, under conditions on the state and the operands alone, for: EQ_ENABLE, BUS_MASTER_ENABLE_CHANGE, MSIX_UNMASK. -/
def Obligations.EnablingAQueueAndUnmaskingVectors : Prop :=
  ∀ (s : State) (fn q v : Nat), q < 64 →
    (Reaches s fn (viewAddr fn (0xA000 + 32 * q + 8) (0xB000 + 32 * q + 8)) → s.queueOwner q = fn →
      (4 ≤ bitsOf v 20 16 → bitsOf v 20 16 ≤ 16 → bitAt v 31 = true → (s.evQueue q).en = false →
        exec (.eqEnable fn q v) s = .next (s.setEvQueue q { s.evQueue q with
          en := true, vector := bitsOf v 29 24,
          sizeCode := bitsOf v 20 16, head := 0, wr := 0, phase := true, armed := true, idleHint := false, window := false })) ∧
      ((s.evQueue q).en = true → (bitsOf v 29 24 ≠ (s.evQueue q).vector ∨ bitsOf v 20 16 ≠ (s.evQueue q).sizeCode) →
        exec (.eqEnable fn q v) s = .next (s.refuseView fn)) ∧
      (4 ≤ bitsOf v 20 16 → bitsOf v 20 16 ≤ 16 → bitsOf v 29 24 = (s.evQueue q).vector → bitsOf v 20 16 = (s.evQueue q).sizeCode →
        bitAt v 31 = false → exec (.eqEnable fn q v) s = .next (s.setEvQueue q { s.evQueue q with en := false }))) ∧
    (∀ vec, vec < 64 → Tab.get (fun _ => false) s.ev.msixPend (fn * 64 + vec) = true → Tab.get (fun _ => false) s.ev.fnMask fn = false →
      masters s fn = true →
      ∃ t, exec (.msixUnmask fn (.vector vec)) s = .next t ∧
        t = { s with ev := t.ev, out := .interrupt fn vec (s.msixWord fn vec 1 * 2 ^ 32 + s.msixWord fn vec 0) (s.msixWord fn vec 2) :: s.out } ∧
        t.ev.srcs = s.ev.srcs ∧ t.ev.queues = s.ev.queues ∧ Tab.get (fun _ => true) t.ev.vecMask (fn * 64 + vec) = false ∧
        Tab.get (fun _ => false) t.ev.msixPend (fn * 64 + vec) = false) ∧
    (∀ on (t : State), t = { s with hif := { s.hif with bme := Tab.set (fun _ => false) s.hif.bme fn on } } →
      (masters t fn = on ∧ ∀ f, f ≠ fn → masters t f = masters s f) ∧
      (on = false → exec (.busMasterEnableChange fn on) s = .next t) ∧
      (on = true → exec (.busMasterEnableChange fn on) s
        = .next ((List.range 64).foldl (fun s v => s.sendPending fn v)
            ((s.late.filter (fun x => x.fn == fn)).foldl State.sendLate { t with late := s.late.filter (fun x => x.fn ≠ fn) }))))

/-- RING_CREATE makes a ring ACTIVE with head and tail at entry 0, and RING_DELETE takes it away.
It concludes exec = next, under conditions on the state and the operands alone, for: RING_CREATE, RING_DELETE, RING_DELETE_DONE. -/
def Obligations.RingsAreCreatedAndDeleted : Prop :=
  ∀ (s : State) (fn : Nat),
    (Reaches s fn (ringField fn ⟨R.HIF_RING_OP.addr, 31, 31⟩).addr →
      (ringBusy s fn = true →
        exec (.ringCreate fn) s = .next (s.bump (hifCtr fn 7)) ∧ exec (.ringDelete fn) s = .next (s.bump (hifCtr fn 7))) ∧
      (ringBusy s fn = false → ringCheck s fn ≠ 0 → exec (.ringCreate fn) s = .next (s.setRingResult fn (ringCheck s fn))) ∧
      (ringBusy s fn = false → ringCheck s fn = 0 →
        ∃ t, exec (.ringCreate fn) s = .next t ∧ t = { s with regs := (s.setRingResult fn 0).regs, hif := t.hif } ∧
          ((s.setRingResult fn 0).ring fn R.HIF_RING_CFG.kind = 1 →
            ∃ q, t.cq? fn ((s.setRingResult fn 0).ring fn R.HIF_RING_CFG.index) = some q ∧ q.head = 0 ∧ q.wr = 0 ∧ q.phase = true ∧
              q.reserved = 0 ∧ q.sizeCode = (s.setRingResult fn 0).ring fn R.HIF_RING_CFG.size_code) ∧
          ((s.setRingResult fn 0).ring fn R.HIF_RING_CFG.kind ≠ 1 →
            ∃ q, t.sq? fn ((s.setRingResult fn 0).ring fn R.HIF_RING_CFG.index) = some q ∧ q.tail = 0 ∧ q.fetchHead = 0 ∧
              q.error = false ∧ q.cq = (s.setRingResult fn 0).ring fn R.HIF_RING_PARAM.cq ∧
              q.sizeCode = (s.setRingResult fn 0).ring fn R.HIF_RING_CFG.size_code)) ∧
      (ringBusy s fn = false → s.ring fn R.HIF_RING_CFG.kind = 1 →
        (s.cq? fn (s.ring fn R.HIF_RING_CFG.index) = none → exec (.ringDelete fn) s = .next (s.setRingResult fn 2)) ∧
        (s.cq? fn (s.ring fn R.HIF_RING_CFG.index) ≠ none →
          s.hif.sqs.any (fun e => decide (e.1 / 1024 = fn) && decide (e.2.cq = s.ring fn R.HIF_RING_CFG.index)) = true →
          exec (.ringDelete fn) s = .next (s.setRingResult fn 5)) ∧
        (s.cq? fn (s.ring fn R.HIF_RING_CFG.index) ≠ none →
          s.hif.sqs.any (fun e => decide (e.1 / 1024 = fn) && decide (e.2.cq = s.ring fn R.HIF_RING_CFG.index)) = false →
          exec (.ringDelete fn) s = .next ((s.dropCq fn (s.ring fn R.HIF_RING_CFG.index)).setRingResult fn 0))) ∧
      (ringBusy s fn = false → s.ring fn R.HIF_RING_CFG.kind ≠ 1 → s.sq? fn (s.ring fn R.HIF_RING_CFG.index) = none →
        exec (.ringDelete fn) s = .next (s.setRingResult fn 2))) ∧
    (∀ q, s.sq? fn (s.ring fn R.HIF_RING_CFG.index) = some q → q.deleting = true →
      s.hif.inFlight.any (fun f => decide (f.iss.fn = fn) && decide (f.iss.sq = s.ring fn R.HIF_RING_CFG.index)) = false →
      exec (.ringDeleteDone fn) s = .next ((({ s with hif := { s.hif with
        sqs := Tab.del s.hif.sqs (ringKey fn (s.ring fn R.HIF_RING_CFG.index)) } } : State).setFld
          (ringField fn R.HIF_RING_STATUS.busy) 0).setRingResult fn 0))

/-- SQ and CQ doorbells move a ring's tail and head, or are counted and leave the ring.
It concludes exec = next, under conditions on the state and the operands alone, for: SQ_DOORBELL, CQ_DOORBELL. -/
def Obligations.DoorbellsPostAndConsume : Prop :=
  ∀ (s : State) (fn i v : Nat),
    (s.sq? fn i = none → exec (.sqDoorbell fn i v) s = .next (s.bump (hifCtr fn 7))) ∧
    (s.cq? fn i = none → exec (.cqDoorbell fn i v) s = .next (s.bump (hifCtr fn 7))) ∧
    (∀ q, s.sq? fn i = some q → q.deleting = false → s.inFlr fn = false → s.ready = true →
      (bitsOf v 31 16 = 0 → bitsOf v 15 0 < 2 ^ q.sizeCode →
        (bitsOf v 15 0 + 2 ^ q.sizeCode - q.tail) % 2 ^ q.sizeCode
          ≤ 2 ^ q.sizeCode - 1 - (q.tail + 2 ^ q.sizeCode - q.fetchHead) % 2 ^ q.sizeCode →
        exec (.sqDoorbell fn i v) s = .next (s.setSq fn i { q with
          tail := bitsOf v 15 0,
          posted := (q.posted + (bitsOf v 15 0 + 2 ^ q.sizeCode - q.tail) % 2 ^ q.sizeCode) % 2 ^ 32 })) ∧
      (bitsOf v 31 16 ≠ 0 ∨ 2 ^ q.sizeCode ≤ bitsOf v 15 0 ∨
        2 ^ q.sizeCode - 1 - (q.tail + 2 ^ q.sizeCode - q.fetchHead) % 2 ^ q.sizeCode
          < (bitsOf v 15 0 + 2 ^ q.sizeCode - q.tail) % 2 ^ q.sizeCode →
        exec (.sqDoorbell fn i v) s = .next (s.badDoorbell fn))) ∧
    (∀ q, s.cq? fn i = some q → s.inFlr fn = false → s.ready = true →
      (bitsOf v 31 16 = 0 → bitsOf v 15 0 < 2 ^ q.sizeCode →
        (bitsOf v 15 0 + 2 ^ q.sizeCode - q.head) % 2 ^ q.sizeCode ≤ (q.wr + 2 ^ q.sizeCode - q.head) % 2 ^ q.sizeCode →
        exec (.cqDoorbell fn i v) s = .next ((s.setCq fn i { q with head := bitsOf v 15 0 }).notifyCq fn i)) ∧
      (bitsOf v 31 16 ≠ 0 ∨ 2 ^ q.sizeCode ≤ bitsOf v 15 0 ∨
        (q.wr + 2 ^ q.sizeCode - q.head) % 2 ^ q.sizeCode < (bitsOf v 15 0 + 2 ^ q.sizeCode - q.head) % 2 ^ q.sizeCode →
        exec (.cqDoorbell fn i v) s = .next (s.badDoorbell fn))) ∧
    (s.badDoorbell fn = { s with regs := (s.badDoorbell fn).regs, ev := (s.badDoorbell fn).ev, ctr := (s.badDoorbell fn).ctr })

/-- DESCRIPTOR_FETCH reserves a completion entry, takes the descriptor and checks it.
It concludes exec = next, under conditions on the state and the operands alone, for: DESCRIPTOR_FETCH. -/
def Obligations.DescriptorsAreFetchedAndChecked : Prop :=
  ∀ (s u : State) (fn i : Nat) (q : Sq) (c : Cq) (bytes : List Byte) (d : Descriptor) (bad : Bool), d = descriptorOf bytes →
    s.hubFenced 2 = false → u = s.useHub 0 (fn % 9 * 1024 + i % 1024) →
    u.sq? fn i = some q → u.cq? fn q.cq = some c → q.error = false → q.deleting = false → q.tail ≠ q.fetchHead →
    Tab.get (fun _ => false) u.hif.bme fn = true → u.hubFenced 2 = false → u.inFlr fn = false → u.ready = true →
    (2 ^ c.sizeCode ≤ (c.wr + 2 ^ c.sizeCode - c.head) % 2 ^ c.sizeCode + c.reserved + 1 →
      ∀ o, exec (.descriptorFetch fn i o) s = .next (u.bump (hifCtr fn 4))) ∧
    ((c.wr + 2 ^ c.sizeCode - c.head) % 2 ^ c.sizeCode + c.reserved + 1 < 2 ^ c.sizeCode →
      (nextTurn u (ringKey fn i) q.weight = none → ∀ o, exec (.descriptorFetch fn i o) s = .next u) ∧
      (∀ n served v iss, nextTurn u (ringKey fn i) q.weight = some (n, served) →
        v = { u with hif := { u.hif with turn := n, served := served }, out := .busRead fn (q.base + 32 * q.fetchHead) 32 :: u.out } →
        iss = ({ fn := fn, sq := i, tag := d.tag, port := commandPort fn d, unnamed := wordsUnnamed d } : Issue) →
        (descriptorCheck d q.bufSize bad = none →
          ∃ t, exec (.descriptorFetch fn i (if bad then .badBuffer bytes else .good bytes)) s = .next t ∧
            t = { u with ctr := (u.bump (hifCtr fn 0)).ctr, hif := t.hif, out := v.out } ∧ t.hif.turn = n ∧ t.hif.served = served ∧
            t.sq? fn i = some { q with fetchHead := (q.fetchHead + 1) % 2 ^ q.sizeCode, fetched := (q.fetched + 1) % 2 ^ 32 } ∧
            t.cq? fn q.cq = some { c with reserved := c.reserved + 1 } ∧
            t.hif.inFlight = u.hif.inFlight ++ [{ iss := iss, opcode := d.opcode, ops := descriptorWords d, fence := d.fence, started := false }]) ∧
        (∀ st, descriptorCheck d q.bufSize bad = some st →
          exec (.descriptorFetch fn i (if bad then .badBuffer bytes else .good bytes)) s
            = .next (({ v.fetched fn i q c with hif := { (v.fetched fn i q c).hif with
                inFlight := u.hif.inFlight ++ [{ iss := iss, opcode := d.opcode, ops := descriptorWords d, fence := d.fence, started := false }] } } :
                State).complete iss { Result.ok 0 0 with status := st })) ∧
        exec (.descriptorFetch fn i .failed) s
          = .next (((((v.setSq fn i { q with error := true }).bump (hifCtr fn 5)).setFlag (R.HIF_RING_ERR.err fn) true).setFld
              (R.HIF_RING_ERR.sq fn) i).pulse (0x1300 + fn) 0)))

/-- Function-level resets and the device soft reset.
It concludes exec = next, under conditions on the state and the operands alone, for: FUNCTION_LEVEL_RESET, PF0_FUNCTION_LEVEL_RESET, DEVICE_SOFT_RESET. -/
def Obligations.FunctionLevelResetsWithdrawAndAskForARegionReset : Prop :=
  ∀ (s : State) (p : Port) (src v : Nat),
    (∃ t, exec (.functionLevelReset p) s = .next t ∧
      t = { (((s.setFlr (p.val + 1) true).flrCommands (p.val + 1)).resetMsix (p.val + 1)).eventsFlr (p.val + 1) with ports := t.ports } ∧
      ((t.port p).resetReq.coldReq = true ↔
        (((((s.setFlr (p.val + 1) true).flrCommands (p.val + 1)).resetMsix (p.val + 1)).eventsFlr (p.val + 1)).port p).resetReq.coldReq = true ∨
        bitAt (s.fld R.HIF_FLR_CTL.cold_on_flr) p.val = true) ∧
      ((t.port p).resetReq.warmReq = true ↔
        (((((s.setFlr (p.val + 1) true).flrCommands (p.val + 1)).resetMsix (p.val + 1)).eventsFlr (p.val + 1)).port p).resetReq.warmReq = true ∨
        bitAt (s.fld R.HIF_FLR_CTL.cold_on_flr) p.val = false)) ∧
    exec .pf0FunctionLevelReset s = .next (((s.flrCommands 0).resetMsix 0).eventsFlr 0) ∧
    (Reaches s src R.HIF_SOFT_RESET.addr →
      (bitsOf v 7 0 ≠ 0xD5 → exec (.deviceSoftReset src v) s = .next (s.bump (hifCtr 0 7))) ∧
      (bitsOf v 7 0 = 0xD5 → bitAt v 31 = false → exec (.deviceSoftReset src v) s = .next s) ∧
      (bitsOf v 7 0 = 0xD5 → bitAt v 31 = true →
        ∃ u, u = (List.range 9).foldl (fun s f => (s.flrCommands f).resetMsix f) s ∧
          exec (.deviceSoftReset src v) s
            = .next ((({ u with hif := { u.hif with bme := s.hif.bme } } : State).bump (rstCtr 4)).resetPackage .soft)))

/-- An increment adds modulo 2^56 and sets the sticky flag on a wrap.
It concludes exec = next, under conditions on the state and the operands alone, for: POWER_ON, RESET_N. -/
def Obligations.CountersCountModulo2To56 : Prop :=
  (∀ (s : State) (i k : Nat),
    ((s.bumpBy i k).counter i).value = ((s.counter i).value + k) % 2 ^ 56 ∧
    (((s.bumpBy i k).counter i).ovf = true ↔ (s.counter i).ovf = true ∨ 2 ^ 56 ≤ (s.counter i).value + k) ∧
    (∀ j, j ≠ i → (s.bumpBy i k).counter j = s.counter j) ∧
    s.bumpBy i k = { s with ctr := { s.ctr with counters := (s.bumpBy i k).ctr.counters } } ∧
    (∀ m, (s.counter i).value < 2 ^ 56 → ((s.bumpBy i k).bumpBy i m).counter i = (s.bumpBy i (k + m)).counter i)) ∧
  (∀ s : State, tooHot s = false →
    (∃ t, exec .powerOn s = .next t ∧ ∀ i, t.counter i = { value := 0, ovf := false }) ∧
    (∃ t, exec .resetN s = .next t ∧ ∀ i, t.counter i = { value := 0, ovf := false }))

/-- BAR4 counter writes, 4-byte reads and the end of a dump.
It concludes exec = next, under conditions on the state and the operands alone, for: HARVEST_DUMP_DONE, COUNTER_WRITE, COUNTER_SPLIT_READ. -/
def Obligations.CounterWritesAndSplitReads : Prop :=
  ∀ (s : State) (fn off size v : Nat),
    (s.ready = true → size = 8 → off % 8 = 0 → fn = 0 → off / 8 < 0x3C00 → counterAssigned (off / 8) = true →
      exec (.counterWrite fn off size v) s = .next (s.setCounter (off / 8) { value := v % 2 ^ 56, ovf := bitAt v 63 })) ∧
    (s.ready = false ∨ size ≠ 8 ∨ off % 8 ≠ 0 ∨ fn ≠ 0 ∨ 0x3C00 ≤ off / 8 ∨ counterAssigned (off / 8) = false →
      exec (.counterWrite fn off size v) s = .next (s.bump 0x2806)) ∧
    (off % 4 ≠ 0 ∨ (size ≠ 4 ∧ (size ≠ 8 ∨ off % 8 ≠ 0)) →
      exec (.counterSplitRead fn ⟨off, size⟩) s = .next ((s.emit (.readData fn off 0)).bump 0x2807)) ∧
    (∀ k, off % 8 = 0 → bar4Counter fn off = some k → counterAssigned k = true →
      exec (.counterSplitRead fn ⟨off, 8⟩) s = .next (s.emit (.readData fn off (s.counter k).word))) ∧
    (∀ k, off % 8 = 0 → bar4Counter fn off = some k → counterAssigned k = true →
      ∃ t, exec (.counterSplitRead fn ⟨off, 4⟩) s = .next t ∧ t.out = .readData fn off ((s.counter k).word % 2 ^ 32) :: s.out ∧
        t = { s with out := t.out, ctr := { s.ctr with shadows := t.ctr.shadows } } ∧
        Tab.find t.ctr.shadows (shadowKey fn off) = some (k, (s.counter k).word / 2 ^ 32)) ∧
    (∀ k hi, off % 8 = 4 → bar4Counter fn off = some k → counterAssigned k = true →
      (Tab.find s.ctr.shadows (shadowKey fn off) = some (k, hi) →
        exec (.counterSplitRead fn ⟨off, 4⟩) s = .next (({ s with ctr := { s.ctr with
          shadows := Tab.del s.ctr.shadows (shadowKey fn off) } } : State).emit (.readData fn off hi))) ∧
      (Tab.find s.ctr.shadows (shadowKey fn off) = none →
        exec (.counterSplitRead fn ⟨off, 4⟩) s = .next (s.emit (.readData fn off ((s.counter k).word / 2 ^ 32))))) ∧
    (∀ i, i < 32 → s.flag (R.CTR_HV_STATUS.busy i) = true →
      exec (.harvestDumpDone i) s
        = .next ((((({ s with ctr := { s.ctr with dumped := withBit s.ctr.dumped i true } } : State).setFlag
            (R.CTR_HV_STATUS.busy i) false).setFld R.CTR_STATUS.busy_sets
            (s.fld R.CTR_STATUS.busy_sets - 1)).bump 0x2800).pulse 0x10F0 (withBit s.ctr.dumped i true)))

/-- The capture engine's commands and happenings.
It concludes exec = next, under conditions on the state and the operands alone, for: CAP_ARM, CAP_STOP, CAP_READ, CAP_STATUS, CAPTURE_TRIGGER, CAPTURE_END. -/
def Obligations.CapturesAreArmedTriggeredAndRead : Prop :=
  ∀ (s : State) (iss : Issue) (op0 op1 op2 op3 length cause : Nat) (pages : List CapPage),
    (HubStarts s iss [(op0, 0x3FF7177), (op3, 0x7FFFFF)] → s.capture.running = false → capPages s ≠ 0 → bitsOf op3 22 0 ≠ 0 →
      bitsOf op3 22 0 ≤ capPages s * 4 → bitsOf op0 6 4 ≤ 4 → bitsOf op0 14 12 ≤ 4 → (bitsOf op0 14 12 = 4 → op1 ≤ 0x1FFF) →
      (bitsOf op0 6 4 < 4 → 2 ≤ s.mode (Fin.ofNat 8 (bitsOf op0 2 0))) → s.mode (Fin.ofNat 8 (bitsOf op0 2 0)) ≠ 0 → s.hubFenced 1 = false →
      ∃ u x, u = (blocksOf (128 * capBase s) (128 * capPages s)).foldl (fun s b => s.touch (2048 * b)) (s.startCmd iss) ∧
        x = ({ u with capture := { u.capture with
              st := .armed, port := Fin.ofNat 8 (bitsOf op0 2 0), point := bitsOf op0 6 4, ring := bitAt op0 8,
              trigger := bitsOf op0 14 12, filter := bitsOf op0 25 16, trigValue := op1, postKib := bitsOf op3 22 0, written := 0,
              wrapped := false, trigPage := 0, endCause := 0, trigFc := 0, armedAt := u.tick, trigAt := 0, hit := false,
              armedTimes := (u.src op1).times } } : State) ∧
        exec (.capArm iss op0 op1 op3) s = .next ((x.bump 0x2808).succeed iss (capPages x) 0)) ∧
    (s.capture.st = .armed → triggered s = true →
      ∃ u, u = (if s.capture.ring = true then s.writePages pages else s) ∧
        exec (.captureTrigger pages) s
          = .next (({ u with capture := { u.capture with
              st := .capturing, trigFc := u.fc, trigAt := u.capture.written,
              trigPage := if u.capture.ring = true then u.capture.written % max 1 (capPages u) else 0 } } : State).pulse 0x10E0
                (u.capture.port.val + u.capture.point * 16))) ∧
    ((s.capture.trigger = 0 → (triggered s = true ↔ s.capture.armedAt < s.tick)) ∧
      (s.capture.trigger = 1 → (triggered s = true ↔ s.capture.armedAt < s.tick ∧ s.fc % 2 ^ 32 = s.capture.trigValue)) ∧
      (s.capture.trigger = 2 ∨ s.capture.trigger = 3 → triggered s = s.capture.hit) ∧
      (s.capture.trigger = 4 → (triggered s = true ↔ s.capture.armedTimes < (s.src s.capture.trigValue).times))) ∧
    (s.capture.st = .armed → triggered s = false → exec (.captureTrigger pages) s = .next s) ∧
    (s.capture.running = true → endsBy (s.writePages pages) cause = true →
      exec (.captureEnd cause pages) s = .next ((s.writePages pages).endCapture cause)) ∧
    (∀ t : State,
      (endsBy t 0 = true ↔ t.capture.st = .capturing ∧ t.capture.postKib ≤ 4 * (t.capture.written - t.capture.trigAt)) ∧
      (endsBy t 1 = true ↔ t.capture.ring = false ∧ capPages t ≤ t.capture.written) ∧ endsBy t 2 = false ∧
      (t.capture.point < 4 →
        (endsBy t 4 = true ↔ t.mode t.capture.port < 2 ∨ t.fenced t.capture.port = true ∨ t.inReset t.capture.port = true)) ∧
      (4 ≤ t.capture.point → (endsBy t 4 = true ↔ t.mode t.capture.port = 0 ∨ t.inReset t.capture.port = true)) ∧
      (endsBy t 5 = true ↔ t.hubFenced 1 = true ∨ bitAt (t.fld R.RST_HUB_STATUS.hub_in_reset) 1 = true)) ∧
    (HubStarts s iss [] → s.capture.running = true →
      exec (.capStop iss pages) s
        = .next ((((s.startCmd iss).writePages pages).endCapture 2).succeed iss
            (((s.startCmd iss).writePages pages).endCapture 2).capture.written 0)) ∧
    (∀ t : State, ∃ u, u = t.endCapture cause ∧ u.capture.st = .done ∧ u.capture.endCause = cause) ∧
    (HubStarts s iss [(op2, 1)] → s.capture.st = .done → ∀ off, off = op1 % 2 ^ 32 + bitsOf op2 0 0 * 2 ^ 32 → off % 32 = 0 →
      off + length ≤ 4096 * capPages s →
      ∃ (v : State) (bytes : List (Option Byte)), v = (s.startCmd iss).lpCopy (128 * capBase s + off / 32) (ceilDiv length 32) ∧
        bytes.length = length ∧
        (∀ k, k < length → bytes[k]? = some (if bitAt (memPoison v 3 (128 * capBase v + (off + k) / 32)) ((off + k) % 32) then none
          else ((pageImage v (capBase v + (off + k) / 4096))[(off + k) % 4096]?).getD none)) ∧
        exec (.capRead iss op1 op2 length) s
          = .next ((v.toHost iss.fn (.buffer iss.fn iss.tag (bytes.map (fun b => b.getD 0)))).complete iss
              { Result.ok 0 0 with poison := bytes.any Option.isNone })) ∧
    (HubStarts s iss [] →
      ∃ bytes : List Byte, bytes.length = 32 ∧
        exec (.capStatus iss) s = .next (((s.startCmd iss).toHost iss.fn (.buffer iss.fn iss.tag bytes)).succeed iss 0 0)) ∧
    (∀ (t : State) o, (masters t iss.fn = true → t.toHost iss.fn o = t.emit o) ∧
      (masters t iss.fn = false → t.toHost iss.fn o = { t with late := t.late ++ [.send iss.fn o] })) ∧
    (iss.fn ≠ 0 → waitsInRing s iss = false →
      exec (.capStatus iss) s = .next ((s.startCmd iss).refuse iss 0x20) ∧
      exec (.capStop iss pages) s = .next ((s.startCmd iss).refuse iss 0x20) ∧
      exec (.capArm iss op0 op1 op3) s = .next ((s.startCmd iss).refuse iss 0x20) ∧
      exec (.capRead iss op1 op2 length) s = .next ((s.startCmd iss).refuse iss 0x20))

/-- The demand scrub starts a watch, the expiries free an entry, and a hard fault is remapped or recorded.
It concludes exec = next, under conditions on the state and the operands alone, for: DEMAND_SCRUB, HARD_FAULT, TRACKER_WINDOW_EXPIRED, WATCH_EXPIRED. -/
def Obligations.RepeatTrackersAndHardFaults : Prop :=
  ∀ (s : State) (space w concurrent : Nat) (t : TrkEntry), Tab.find s.mem.trk (wordKey space w) = some t →
    (s.flag R.MEM_CTRL.trk_en = false →
      exec (.demandScrub space w concurrent) s = .next s ∧ exec (.trackerWindowExpired space w) s = .next s ∧
      exec (.watchExpired space w) s = .next s ∧ exec (.hardFault space w) s = .next s) ∧
    (s.flag R.MEM_CTRL.trk_en = true →
    (t.stage = .ordered →
      ∃ m e fixed kept, m = s.memRead space w ∧ e = m.wordErr space w ∧
        fixed = (if space = 3 then if e.poison = 0 && lpBad e = 1 then e.single ||| e.double else 0 else bitsMinus e.single e.poison) ∧
        kept = bitsMinus fixed concurrent ∧
        exec (.demandScrub space w concurrent) s = .next ((((if fixed &&& concurrent = 0 then m else m.bump 0x380F).setWordErr space w
          { e with single := bitsMinus e.single kept, double := if space = 3 then bitsMinus e.double kept else e.double,
                   check := if space = 3 && e.poison = 0 && lpBad e = 1 then 0 else e.check }).bump 0x3807).setTrk
          (wordKey space w) { t with stage := .watching, bytes := fixed })) ∧
    (t.stage = .counting →
      exec (.trackerWindowExpired space w) s = .next { s with mem := { s.mem with trk := Tab.del s.mem.trk (wordKey space w) } }) ∧
    (t.stage = .watching →
      exec (.watchExpired space w) s = .next { s with mem := { s.mem with trk := Tab.del s.mem.trk (wordKey space w) } }) ∧
    (t.stage = .watching ∨ t.stage = .hard →
      ∃ m u, m = (if space = 0 then s.useHub 3 (w / 8192) else s) ∧
        exec (.hardFault space w) s = .next u ∧ Tab.find u.mem.trk (wordKey space w) = none ∧
        (∀ k, k ≠ wordKey space w → Tab.find u.mem.trk k = Tab.find m.mem.trk k) ∧
        (∀ i, space = 0 → freeRemap m (w / 8192) = some i →
          Tab.find u.mem.remap (w / 8192 * 8 + i) = some (w % 8192) ∧ (u.wordErr space w).single = 0 ∧
          u.mem.untracked = m.mem.untracked) ∧
        (space ≠ 0 ∨ freeRemap m (w / 8192) = none →
          u.mem.remap = m.mem.remap ∧ wordKey space w ∈ u.mem.untracked ∧ u.mem.errs = m.mem.errs ∧ u.rst = m.rst))) ∧
    (t.stage ≠ .counting → exec (.trackerWindowExpired space w) s = .next s) ∧
    (t.stage ≠ .watching → exec (.watchExpired space w) s = .next s) ∧
    (t.stage ≠ .ordered → exec (.demandScrub space w concurrent) s = .next s) ∧
    (t.stage = .counting ∨ t.stage = .ordered → exec (.hardFault space w) s = .next s)

/-- MEM_SCRUB starts one pass of a space, MEM_SCRUB_DONE ends it and completes the command, MEM_INJECT alters a word.
It concludes exec = next, under conditions on the state and the operands alone, for: MEM_SCRUB, MEM_SCRUB_DONE, MEM_INJECT. -/
def Obligations.ScrubsAndInjections : Prop :=
  ∀ (s : State) (iss : Issue) (op0 op1 op2 op3 src v space checked narrowed : Nat),
    (HubStarts s iss [(op0, 0xF), (op3, 0x7FFFFFFF)] →
      (badRange (bitsOf op0 3 0) (op1 + op2 * 2 ^ 32) (bitsOf op3 30 0) = true →
        exec (.memScrub iss op0 op1 op2 op3) s = .next ((s.startCmd iss).refuse iss 0x21)) ∧
      (badRange (bitsOf op0 3 0) (op1 + op2 * 2 ^ 32) (bitsOf op3 30 0) = false →
        Tab.find s.mem.scrubs (bitsOf op0 3 0) ≠ none → exec (.memScrub iss op0 op1 op2 op3) s = .next ((s.startCmd iss).refuse iss 0x22)) ∧
      (badRange (bitsOf op0 3 0) (op1 + op2 * 2 ^ 32) (bitsOf op3 30 0) = false →
        Tab.find s.mem.scrubs (bitsOf op0 3 0) = none → (bitsOf op0 3 0 = 3 → s.hubFenced 1 = false) →
        ∃ u, exec (.memScrub iss op0 op1 op2 op3) s = .next u ∧
          Tab.find u.mem.scrubs (bitsOf op0 3 0) =
            some { iss := iss, start := op1 + op2 * 2 ^ 32, words := bitsOf op3 30 0, truncated := false } ∧
          (∀ k, k ≠ bitsOf op0 3 0 → Tab.find u.mem.scrubs k = Tab.find s.mem.scrubs k) ∧
          u.fld R.MEM_SCRUB_STATUS.active =
            withBit (s.fld R.MEM_SCRUB_STATUS.active) (bitsOf op0 3 0) true % 2 ^ (R.MEM_SCRUB_STATUS.active.hi + 1 - R.MEM_SCRUB_STATUS.active.lo) ∧
          u = { s.startCmd iss with regs := u.regs, mem := { s.mem with scrubs := u.mem.scrubs } })) ∧
    (Tab.find s.mem.scrubs space = none → exec (.memScrubDone space checked narrowed) s = .next s) ∧
    (∀ sc n, Tab.find s.mem.scrubs space = some sc → n = (if sc.truncated then min checked sc.words else sc.words) →
      ∃ u corr unc rem, exec (.memScrubDone space checked narrowed) s
          = .next ((u.toHost sc.iss.fn (.buffer sc.iss.fn sc.iss.tag (leBytes 4 n ++ leBytes 4 corr ++ leBytes 4 unc ++ leBytes 4 rem))).succeed
              sc.iss (bit01 sc.truncated) 0) ∧
        Tab.find u.mem.scrubs space = none ∧
        (s.mem.errs = [] → (space = 3 → untouchedWords s (sc.start / 32) n = 0) → corr = 0 ∧ unc = 0 ∧ rem = 0 ∧
          u = ({ s.bumpBy 0x380F narrowed with mem := { s.mem with scrubs := Tab.del s.mem.scrubs space } } : State).setFld
            R.MEM_SCRUB_STATUS.active (withBit (s.fld R.MEM_SCRUB_STATUS.active) space false))) ∧
    (Reaches s src R.MEM_INJECT_0.addr →
      (bitAt v 31 = false ∨ spaceWords (bitsOf v 25 24) ≤ s.fld R.MEM_INJECT_1.address → exec (.memInject src v) s = .next s) ∧
      (bitAt v 31 = true → s.fld R.MEM_INJECT_1.address < spaceWords (bitsOf v 25 24) →
        ∀ x y, x = s.wordErr (bitsOf v 25 24) (s.fld R.MEM_INJECT_1.address) → y = 2 ^ bitsOf v 4 0 →
        ∃ e, (bitsOf v 27 26 ≠ 0 ∨ bitsOf v 25 24 = 3 ∨ x.poison &&& y = 0 → bitsOf v 27 26 ≠ 3 →
            exec (.memInject src v) s = .next (s.setWordErr (bitsOf v 25 24) (s.fld R.MEM_INJECT_1.address) e)) ∧
          (bitsOf v 27 26 = 0 → bitsOf v 25 24 ≠ 3 → x.poison &&& y ≠ 0 → exec (.memInject src v) s = .next s) ∧
          (bitsOf v 27 26 = 0 → bitsOf v 25 24 = 3 ∨ x.poison &&& y = 0 → x.single &&& y = 0 → e = { x with single := x.single ||| y }) ∧
          (bitsOf v 27 26 = 1 → e = { x with single := bitsMinus x.single y, double := x.double ||| y,
                                             poison := if bitsOf v 25 24 = 3 then x.poison else bitsMinus x.poison y }) ∧
          (bitsOf v 27 26 = 2 → bitsOf v 25 24 = 3 → e = { single := 0, double := 0, poison := allBytes }) ∧
          (bitsOf v 27 26 = 2 → bitsOf v 25 24 ≠ 3 →
            e = { x with single := bitsMinus x.single y, double := bitsMinus x.double y, poison := x.poison ||| y })))

/-- MEM_FILL is accepted and MEM_FILL_DONE writes it, BITTERN_READ and MEM_REMAP_READ return records.
It concludes exec = next, under conditions on the state and the operands alone, for: MEM_FILL, MEM_REMAP_READ, BITTERN_READ, MEM_FILL_DONE. -/
def Obligations.FillsAndLogReads : Prop :=
  ∀ (s : State) (iss : Issue) (op0 op1 op2 op3 op4 op5 length : Nat),
    (HubStarts s iss [(op0, 0xF), (op3, 0x7FFFFFFF)] →
      (badRange (bitsOf op0 3 0) (op1 + op2 * 2 ^ 32) (bitsOf op3 30 0) = true →
        exec (.memFill iss op0 op1 op2 op3 op4 op5) s = .next ((s.startCmd iss).refuse iss 0x21)) ∧
      (badRange (bitsOf op0 3 0) (op1 + op2 * 2 ^ 32) (bitsOf op3 30 0) = false → bitsOf op0 3 0 ≠ 3 →
        exec (.memFill iss op0 op1 op2 op3 op4 op5) s = .next ((s.startCmd iss).refuse iss 0x23)) ∧
      (badRange (bitsOf op0 3 0) (op1 + op2 * 2 ^ 32) (bitsOf op3 30 0) = false → bitsOf op0 3 0 = 3 → s.hubFenced 1 = false →
        exec (.memFill iss op0 op1 op2 op3 op4 op5) s = .next { s.startCmd iss with mem := { s.mem with
          filling := s.mem.filling ++ [(iss, { start := (op1 + op2 * 2 ^ 32) / 32, words := bitsOf op3 30 0,
                                               pattern := op4 % 2 ^ 32 + op5 % 2 ^ 32 * 2 ^ 32 })] } })) ∧
    (∀ f : Fill, s.mem.filling.find? (fun e => e.1 = iss) = some (iss, f) →
      ∃ u v, exec (.memFillDone iss) s = .next v ∧ v = u.succeed iss f.words 0 ∧
        u.mem.filling = s.mem.filling.filter (fun e => e.1 ≠ iss) ∧
        (∀ w, f.start ≤ w → w < f.start + f.words → w < 2 ^ 31 →
          lpWritten u w = true ∧ (∀ e ∈ u.mem.errs, e.1 ≠ wordKey 3 w) ∧ (∀ e ∈ u.mem.sump, e.1 ≠ w)) ∧
        (∀ e ∈ s.mem.errs, (e.1 / 2 ^ 31 ≠ 3 ∧ ∀ b, e.1 ≠ wordKey 0 (tableWord 2 b)) ∨
            (e.1 / 2 ^ 31 = 3 ∧ Tab.get (fun _ => false) s.mem.touched (e.1 % 2 ^ 31 / 2048) = true ∧ (e.1 % 2 ^ 31 < f.start ∨ f.start + f.words ≤ e.1 % 2 ^ 31)) → e ∈ u.mem.errs)) ∧
    (HubStarts s iss [(op0, 0x800001FF)] →
      (bitsOf op0 8 0 = 0 ∨ 256 < bitsOf op0 8 0 ∨ length ≠ 16 * bitsOf op0 8 0 →
        exec (.bitternRead iss op0 length) s = .next ((s.startCmd iss).refuse iss 0x25)) ∧
      (bitsOf op0 8 0 ≠ 0 → bitsOf op0 8 0 ≤ 256 → length = 16 * bitsOf op0 8 0 →
        ∃ recs r, recs = s.mem.bittern.take (bitsOf op0 8 0) ∧ r = (s.startCmd iss).toHost iss.fn (.buffer iss.fn iss.tag (recs.flatMap btnBytes)) ∧
        (bitAt op0 31 = false ∨ s.mem.bittern = [] →
          exec (.bitternRead iss op0 length) s = .next (r.succeed iss recs.length 0)) ∧
        (bitAt op0 31 = true → s.mem.bittern ≠ [] →
          exec (.bitternRead iss op0 length) s
            = .next (((({ r with mem := { r.mem with bittern := s.mem.bittern.drop (bitsOf op0 8 0) } } : State).btnStatus).setFld
                R.MEM_BTN_STATUS.lost 0).succeed iss recs.length 0)))) ∧
    (HubStarts s iss [(op0, 0xFF), (op1, 0x1FF)] →
      (bitsOf op1 8 0 = 0 ∨ 256 < bitsOf op0 7 0 + bitsOf op1 8 0 →
        exec (.memRemapRead iss op0 op1 length) s = .next ((s.startCmd iss).refuse iss 0x24)) ∧
      (bitsOf op1 8 0 ≠ 0 → bitsOf op0 7 0 + bitsOf op1 8 0 ≤ 256 → length ≠ 32 * bitsOf op1 8 0 →
        exec (.memRemapRead iss op0 op1 length) s = .next ((s.startCmd iss).refuse iss 0x25)) ∧
      (bitsOf op1 8 0 ≠ 0 → bitsOf op0 7 0 + bitsOf op1 8 0 ≤ 256 → length = 32 * bitsOf op1 8 0 →
        ∃ (m : State) (bad : Nat → Nat) (bytes : List Byte),
          m = (List.range (bitsOf op1 8 0)).foldl (fun s k => s.memRead 0 (tableWord 3 (k + bitsOf op0 7 0))) (s.startCmd iss) ∧
          bad = (fun k => memPoison m 0 (tableWord 3 (k + bitsOf op0 7 0))) ∧ bytes.length = length ∧
          (∀ k i j, k < bitsOf op1 8 0 → i < 8 → j < 4 → bytes[32 * k + 4 * i + j]? = some
            (if bitAt (bad k) (4 * i + j) then 0#8 else
              BitVec.ofNat 8 (((Tab.find m.mem.remap ((k + bitsOf op0 7 0) * 8 + i)).elim 0 (fun x => 2 ^ 31 + x)) / 256 ^ j))) ∧
          exec (.memRemapRead iss op0 op1 length) s
            = .next ((m.toHost iss.fn (.buffer iss.fn iss.tag bytes)).complete iss
                { Result.ok 0 0 with poison := (List.range (bitsOf op1 8 0)).any (fun k => bad k ≠ 0) })))

/-- A failing active sub-ADC is replaced by the lowest-numbered free spare, and its fault is counted.
It concludes exec = next, under conditions on the state and the operands alone, for: UNIT_FAULT_DETECTED, CNV_TEST_FAIL. -/
def Obligations.UnitFaultsTakeASpare : Prop :=
  ∀ (s : State) (p : Port) (u criteria src v : Nat),
    (∀ r, r < 8 → bitAt (criteriaNow s p criteria) r = (bitAt criteria r &&
      (if r < 4 then bitAt (s.fld (R.CNV_CTRL.bg_en p)) r else if r = 6 then s.flag (R.CNV_CTRL.stage_cal_en p) else true))) ∧
    (u < 36 → s.receiving p = true → s.inReset p = false → criteriaNow s p criteria ≠ 0 →
      (cnvUnit s p u = 0 → exec (.unitFaultDetected p u criteria) s
        = .next (((((s.countFault p (criteriaNow s p criteria)).setFld (R.CNV_UNIT.fail_reason p u)
            (lowestReason (criteriaNow s p criteria))).serveFault p u).cnvStatus p).updateCeiling p)) ∧
      (cnvUnit s p u = 1 → exec (.unitFaultDetected p u criteria) s
        = .next ((((s.countFault p (criteriaNow s p criteria)).cnvFaulty p u
            (lowestReason (criteriaNow s p criteria))).cnvStatus p).updateCeiling p)) ∧
      (cnvUnit s p u = 2 → exec (.unitFaultDetected p u criteria) s
        = .next (((s.spareFailed p u (criteriaNow s p criteria)).cnvStatus p).updateCeiling p)) ∧
      (2 < cnvUnit s p u → exec (.unitFaultDetected p u criteria) s = .next s)) ∧
    (36 ≤ u ∨ s.receiving p = false ∨ s.inReset p = true ∨ criteriaNow s p criteria = 0 →
      exec (.unitFaultDetected p u criteria) s = .next s) ∧
    (Reaches s src (R.CNV_TEST_FAIL.addr p) →
      (bitAt v 31 = true → bitsOf v 5 0 < 36 → cnvUnit s p (bitsOf v 5 0) ≤ 2 →
        exec (.cnvTestFail src p v) s = .next ((s.modCnv p (fun c => { c with
          testFailed := c.testFailed.filter (· ≠ bitsOf v 5 0) ++ [bitsOf v 5 0] })).failUnit p (bitsOf v 5 0) (2 ^ 7))) ∧
      (bitAt v 31 = false ∨ 36 ≤ bitsOf v 5 0 ∨ 2 < cnvUnit s p (bitsOf v 5 0) → exec (.cnvTestFail src p v) s = .next s)) ∧
    (s.countFault p criteria = if bitAt criteria 5 then (s.bumpP p 0x42).bumpP p 0x47 else s.bumpP p 0x42) ∧
    (∀ q, q = (s.setFld (R.CNV_UNIT.state p u) 6).modCnv p (fun c => { c with faultsNow := c.faultsNow.filter (· ≠ u) ++ [u] }) →
      (cnvRuns q p = false → (∃ a, a < 36 ∧ cnvUnit q p a = 1) → s.serveFault p u = q) ∧
      (cnvRuns q p = false → (∀ a, a < 36 → cnvUnit q p a ≠ 1) → s.serveFault p u = q.noSpare p u) ∧
      (cnvRuns q p = true → failedNow q p = [u] → untrimmed q p = [] →
        (∀ a, a < 36 → cnvUnit q p a = 1 → (∀ b, b < a → cnvUnit q p b ≠ 1) →
          s.serveFault p u = (q.takeSpare p (q.fld (R.CNV_UNIT.phase p u)) a).pulseP p 0x20 0) ∧
        ((∀ a, a < 36 → cnvUnit q p a ≠ 1) → s.serveFault p u = q.noSpare p u))) ∧
    (∀ phase a, a < 36 → cnvUnit s p a = 1 → (∀ b, b < a → cnvUnit s p b ≠ 1) →
      s.startSpare p phase = (((s.setFld (R.CNV_UNIT.state p a) 2).setFld (R.CNV_UNIT.phase p a) phase).setFld
        (R.CNV_UNIT.subst_windows p a) 0).pulseP p 0x20 0) ∧
    (∀ phase, (∀ b, b < 36 → cnvUnit s p b ≠ 1) →
      s.startSpare p phase = (s.setFlag (R.CNV_STATUS.degraded p) true).pulseP p 0x23 0)

/-- Calibration windows update coefficients within their limits; foreground calibration needs a fenced receiving port.
It concludes exec = next, under conditions on the state and the operands alone, for: CAL_WINDOW_UPDATE, FG_CAL_REQ, FG_CAL_DONE. -/
def Obligations.CalibrationRunsInItsWindowsAndInTheForeground : Prop :=
  ∀ (s : State) (p : Port) (obs : CalObs) (units : List FgUnit) (src v : Nat),
    (s.mapCal p = none ∨ s.receiving p = false ∨ s.inReset p = true → exec (.calWindowUpdate p obs) s = .next s) ∧
    (∀ start len, s.mapCal p = some (start, len) → s.receiving p = true → s.inReset p = false →
      ∃ b, b = (if (s.port p).prot.role = .standby then
          ((s.bumpP p 0x43).qualify p 0 (2 * (start + 4))).setFld (R.CNV_STATUS.skip_run p) 0
          else (s.bumpP p 0x43).qualify p 0 (2 * (start + 4))).followStages p obs.stages ∧
        (bitAt (s.fld (R.PRT_FENCE_STATUS.cause_mask p)) 7 = true → exec (.calWindowUpdate p obs) s = .next b) ∧
        (bitAt (s.fld (R.PRT_FENCE_STATUS.cause_mask p)) 7 = false → exec (.calWindowUpdate p obs) s = .next (b.calibrate p obs))) ∧
    (∀ u est m n, est < 4 → n = Tab.get (fun _ => 0) (s.port p).cnv.samples (u * 4 + est) →
      (bitAt (s.fld (R.CNV_CTRL.bg_en p)) est = false → s.estimate p u est m = s) ∧
      (bitAt (s.fld (R.CNV_CTRL.bg_en p)) est = true → est < 3 → n < 2 ^ 20 → s.estimate p u est m = s.bumpP p 0x46) ∧
      (bitAt (s.fld (R.CNV_CTRL.bg_en p)) est = true → est = 3 ∨ 2 ^ 20 ≤ n →
        ∃ t, t = s.modCnv p (fun c => { c with samples := Tab.set (fun _ => 0) c.samples (u * 4 + est) 0 }) ∧
          (m = 0 → s.estimate p u est m = t) ∧
          (m ≠ 0 → ∀ y : Int, y = coef t p u est - m.sign * (if est = 2 then (2 : Int) ^ t.fld (R.CNV_CTRL.skew_step p) else 1) →
            ((coefLimits est).1 ≤ y → y ≤ (coefLimits est).2 → s.estimate p u est m = t.setCoef p u est y) ∧
            (y < (coefLimits est).1 ∨ (coefLimits est).2 < y →
              s.estimate p u est m = (if coef t p u est = (coefLimits est).1 ∨ coef t p u est = (coefLimits est).2 then
                t.modCnv p (fun c => { c with
                  limitRun := Tab.set (fun _ => 0) c.limitRun (u * 4 + est) (Tab.get (fun _ => 0) c.limitRun (u * 4 + est) + 1) })
                else t))))) ∧
    (∀ a, cnvUnit s p a = 2 → ∃ w, w = s.setFld (R.CNV_UNIT.subst_windows p a) (s.fld (R.CNV_UNIT.subst_windows p a) + 1) ∧
      (∀ m t, obs.spares.find? (fun x => x.1.unit == a) = some (m, t) →
        (converged (w.trimSpare p m) p a t = true →
          s.spareWindow p obs a = (w.trimSpare p m).switchPhase p ((w.trimSpare p m).fld (R.CNV_UNIT.phase p a)) a) ∧
        (converged (w.trimSpare p m) p a t = false → m.fails ≠ 0 → s.spareWindow p obs a = (w.trimSpare p m).spareFailed p a m.fails) ∧
        (converged (w.trimSpare p m) p a t = false → m.fails = 0 →
          s.spareWindow p obs a = (if 4 ≤ s.fld (R.CNV_UNIT.subst_windows p a) + 1 then (w.trimSpare p m).spareFailed p a (2 ^ 8)
            else w.trimSpare p m)))) ∧
    (∀ i, i = s.fld (R.CNV_REF_TRIM.sensor_id p) →
      (s.flag (R.THM_SENSOR.failed i) = true → s.refTrim p = s.holdTrim p true) ∧
      (s.flag (R.THM_SENSOR.failed i) = false → s.flag (R.CNV_CTRL.temp_comp_en p) = true → s.flag (R.THM_SENSOR.valid i) = true →
        s.refTrim p = s.setFld (R.CNV_REF_TRIM.ref_trim p) (codeOf 16 (Config.refTrim p.val (signedOf 12 (s.fld (R.THM_SENSOR.reading i)))))) ∧
      (s.flag (R.THM_SENSOR.failed i) = false → s.flag (R.CNV_CTRL.temp_comp_en p) = false → s.refTrim p = s)) ∧
    (Reaches s src (R.CNV_CTRL.addr p) →
      ∃ t, t = (((s.setFld (R.CNV_CTRL.skew_step p) (bitsOf v 21 20)).setFld (R.CNV_CTRL.stage_cal_en p) (bitsOf v 9 9)).setFld
          (R.CNV_CTRL.temp_comp_en p) (bitsOf v 8 8)).setFld (R.CNV_CTRL.bg_en p) (bitsOf v 3 0) ∧
        (bitAt v 31 = false → exec (.fgCalReq src p v) s = .next t) ∧
        (bitAt v 31 = true → s.fenced p = true → s.receiving p = true →
          exec (.fgCalReq src p v) s = .next ((t.startFg p).modCnv p (fun c => { c with resume := [] }))) ∧
        (bitAt v 31 = true → s.fenced p = false ∨ s.receiving p = false →
          exec (.fgCalReq src p v) s = .next (t.setFlag (R.CNV_STATUS.fg_refused p) true))) ∧
    (∀ t : State, t.startFg p = ((t.endSubstitutions p).modCnv p (fun c => { c with fgRun := true })).setFlag
      (R.CNV_STATUS.fg_done p) false) ∧
    ((s.port p).cnv.fgRun = false → exec (.fgCalDone p units) s = .next s) ∧
    ((s.port p).cnv.fgRun = true → ∃ t : State, exec (.fgCalDone p units) s = .next ((t.cnvStatus p).updateCeiling p) ∧
      t.flag (R.CNV_STATUS.fg_done p) = true ∧ t.flag (R.CNV_STATUS.fg_fail p) = t.flag (R.CNV_STATUS.degraded p) ∧
      ((t.port p).cnv.fgRun = false ∧ (t.port p).cnv.testFailed = [] ∧ (t.port p).cnv.limitRun = [] ∧ (t.port p).cnv.samples = [] ∧
        (t.port p).cnv.resume = []))

/-- A guard start puts the next channel in PRESET with the staged preset of the ONU, and the discovery preset where none is staged.
It concludes exec = next, under conditions on the state and the operands alone, for: PRESET_STAGING, BURST_GUARD_START. -/
def Obligations.BurstsArmAChannelWithTheirPreset : Prop :=
  ∀ (s : State) (p : Port) (i : Nat),
    ((s.mapNow p).entries[i]? = none → exec (.burstGuardStart p i) s = .next s) ∧
    (∀ e start u c, (s.mapNow p).entries[i]? = some e → start = guardStart s p s.tick e → u = s.settle p start →
      c = nextChan u p →
      (sluiceRuns u p = false ∨ hears u p = false ∨ (u.chan p c).st = .halted ∨ ((u.chan p c).st ≠ .idle ∧ (u.chan p c).st ≠ .payload) ∨
          (isDisc e = true ∧ (u.profile p e.profile).enabled = false) → exec (.burstGuardStart p i) s = .next u) ∧
      (sluiceRuns u p = true → hears u p = true → (u.chan p c).st = .idle ∨ (u.chan p c).st = .payload →
        (isDisc e = true → (u.profile p e.profile).enabled = true →
          exec (.burstGuardStart p i) s = .next (u.beginBurst p c { SluChan.reset with
            st := .preset, entry := e, index := i, tick := u.tick, onu := 1023, quiet := true, start := start } (discPreset u.gov p) false)) ∧
        (isDisc e = false → ∀ s1 base, s1 = (u.bumpP p 0x50).modSlu p (fun u => { u with expected := true }) →
          base = { SluChan.reset with
            st := .preset, entry := e, index := i, tick := u.tick, onu := burstOnu s1 p e, quiet := false, start := start } →
          ((u.profile p e.profile).enabled = false →
            exec (.burstGuardStart p i) s
              = .next (((((s1.bumpP p 0x5D).acctEntry p s1.tick e (fun a => { a with disabled := a.disabled + e.slots }) 0 0).setChan
                  p c { base with st := .idle }).modSlu p (fun u => { u with last := c })).lastBurst p base 3 0)) ∧
          ((u.profile p e.profile).enabled = true →
            (∀ x k, Tab.find (s1.port p).slu.staged (burstOnu s1 p e) = some x → x.work.valid = true → x.poisoned = false →
              k = (entrySlot s1 p e).getD 0 →
              (dieBad s1 p 7 k = false → exec (.burstGuardStart p i) s = .next (s1.beginBurst p c base x.work false)) ∧
              (dieBad s1 p 7 k = true →
                exec (.burstGuardStart p i) s
                  = .next ((((((s1.useDie p 7 k 8).bumpP p 0x5E).acctEntry p s1.tick e (fun a => { a with
                      notRecv := a.notRecv + e.slots }) 0 0).setChan p c { base with st := .idle }).modSlu p (fun u => { u with
                      last := c })).lastBurst p base 4 0))) ∧
            (Tab.find (s1.port p).slu.staged (burstOnu s1 p e) = none →
              exec (.burstGuardStart p i) s
                = .next (((s1.beginBurst p c base (discPreset s1.gov p) true).bumpP p 0x57).pulseP p 0x32 0)) ∧
            (∀ x, Tab.find (s1.port p).slu.staged (burstOnu s1 p e) = some x → x.poisoned = true →
              exec (.burstGuardStart p i) s
                = .next (((s1.consumePoison 0 (presetWord p ((entrySlot s1 p e).getD 0) false) 5).setChan p c base).fencePort p [0x06])))))) ∧
    (∀ (c : Chan) (base : SluChan) (preset : Preset) (missed : Bool) (E w : Int), E = expectedArrival s p base →
      w = s.gov (R.SLU_WINDOW.w p) → base.quiet = false →
      s.beginBurst p c base preset missed = ((((s.setChan p c { base with
          unstaged := missed, applied := preset, gain := preset.gain, openAt := (E - w).toNat, evalFrom := (E - w).toNat,
          lastPos := (E + w).toNat }).modSlu p (fun u => { u with last := c })).loadLive p (base.start / 64 * 64) preset).pulsePins p).settle p base.start) ∧
    (∀ e tick, (s.port p).prot.role ≠ .standby → (s.port p).prot.realignAt = none → s.g50 p = false →
      guardStart s p tick e = frameTime tick + 64 * e.start) ∧
    (∀ (c : Chan) (now : Nat) (x : SluChan), x = s.chan p c →
      (x.st = .payload → x.quiet = false → x.start + x.endAt ≤ now →
        ((s.settleChan p now c).chan p c).st = .idle) ∧
      (x.st = .preset → x.start + x.openAt ≤ now → s.settleChan p now c = s.setChan p c { x with st := .armed }) ∧
      (x.st ≠ .payload → x.st ≠ .preset → s.settleChan p now c = s)) ∧
    (∀ m e c w a r, Tab.find (s.port p).dba.maps (s.tick + 1) = some m → m.entries = [e] → entrySlot s p e = some c →
      w = presetWord p c false → a = presetWord p c true →
      r = [w, w + 1, w + 2, a, a + 1, a + 2].foldl (fun s i => s.memRead 0 i) s →
      exec (.presetStaging p) s = .next ((r.memWrite (dieSpace p) (dieWord p 7 c) allBytes).modSlu p (fun u => { u with
        stagedNext := Tab.put u.stagedNext (r.ctx p c).onuId (stagedOf r p c) }))) ∧
    (Tab.find (s.port p).dba.maps (s.tick + 1) = none → exec (.presetStaging p) s = .next s)

/-- The AGC, the primary detection, the takeover and the delimiter match drive a channel from ARMED to PAYLOAD.
It concludes exec = next, under conditions on the state and the operands alone, for: AGC_COMMAND, PRIMARY_DETECTION, PREAMBLE_TAKEOVER, DELIMITER_MATCH. -/
def Obligations.DetectionTakeoverAndMatch : Prop :=
  ∀ (s : State) (p : Port) (c : Chan) (pos cycle : Nat) (codes : List Int) (sd : Bool),
    (∀ u x y m v, u = s.settleAt p c (pos + 64 * (s.profileOf p (s.chan p c).tick (s.chan p c).entry.profile).sym) → x = u.chan p c →
      y = burstOutputs u p x (x.start + pos) 64 codes → m = blockMetric u p x pos y → v = u.spendMetric y →
      (sluiceRuns u p = true → x.st = .armed → x.evalFrom ≤ pos → pos ≤ x.lastPos →
        (m < u.govOf x.tick (R.SLU_DETECT.det_thresh p) → exec (.primaryDetection p c pos codes sd) s = .next v) ∧
        (u.govOf x.tick (R.SLU_DETECT.det_thresh p) ≤ m →
          (u.govOf x.tick (R.SLU_CTRL.sd_gate p) ≠ 1 ∨ sd = false →
            exec (.primaryDetection p c pos codes sd) s = .next (v.setChan p c { x with
              st := .locked, pos := pos, metric := m,
              deadline := pos + 64 * (u.profileOf p x.tick x.entry.profile).sym + (u.profileOf p x.tick x.entry.profile).pre + 128,
              evalFrom := pos + 1 })) ∧
          (u.govOf x.tick (R.SLU_CTRL.sd_gate p) = 1 → sd = true →
            exec (.primaryDetection p c pos codes sd) s
              = .next ((v.setChan p c { x with evalFrom := pos + 1 }).bumpBurst p x 0x56)))) ∧
      (sluiceRuns u p = false ∨ x.st ≠ .armed ∨ pos < x.evalFrom ∨ x.lastPos < pos →
        exec (.primaryDetection p c pos codes sd) s = .next u) ∧
      (sluiceRuns u p = true → x.st = .locked →
        (takeoverDue u p x pos y = true → matchDue u p x pos y = false →
          (u.govOf x.tick (R.SLU_CTRL.sd_gate p) ≠ 1 ∨ sd = false →
            exec (.preambleTakeover p c pos codes sd) s = .next ((v.setChan p c { x with
              pos := pos, metric := m, gain := x.applied.gain, takeovers := x.takeovers + 1,
              deadline := pos + 64 * (u.profileOf p x.tick x.entry.profile).sym + (u.profileOf p x.tick x.entry.profile).pre + 128,
              evalFrom := pos + 1 }).bumpBurst p x 0x55)) ∧
          (u.govOf x.tick (R.SLU_CTRL.sd_gate p) = 1 → sd = true →
            exec (.preambleTakeover p c pos codes sd) s
              = .next ((v.setChan p c { x with evalFrom := pos + 1 }).bumpBurst p x 0x56))) ∧
        (takeoverDue u p x pos y = false ∨ matchDue u p x pos y = true → exec (.preambleTakeover p c pos codes sd) s = .next v)) ∧
      (takeoverDue u p x pos y = true ↔ x.pos < pos ∧ pos ≤ x.lastPos ∧ x.evalFrom ≤ pos ∧
        pos + 64 * (u.profileOf p x.tick x.entry.profile).sym ≤ x.deadline ∧
        x.metric + u.govOf x.tick (R.SLU_DETECT.takeover_margin p) ≤ m) ∧
      (sluiceRuns u p = false ∨ x.st ≠ .locked → exec (.preambleTakeover p c pos codes sd) s = .next u)) ∧
    (∀ prof u x n y at_ noise, prof = s.profileOf p (s.chan p c).tick (s.chan p c).entry.profile → u = s.settleAt p c (pos + prof.dlm) →
      x = u.chan p c → n = prof.pre / prof.sym →
      y = burstOutputs u p x (x.start + pos - prof.pre) (n + prof.dlm / prof.sym) codes → at_ = x.start + (pos + prof.dlm) →
      noise = (squaredErrors (u.govOf x.tick (R.EQZ_TARGET.t_ p)) (u.port p).rake.liveCm ((y.take n).map (32 * ·))
        (List.replicate (n / 64) (burstPreamble u p x)).flatten, n - 1) →
      (sluiceRuns u p = true → x.st = .locked → x.pos ≤ pos → pos + prof.dlm ≤ x.deadline →
        signDiffs (y.drop n) (burstDelimiter u p x) ≤ u.govOf x.tick (R.SLU_DETECT.dlm_err p) →
        (x.quiet = false → ∀ d : Int, d = (pos : Int) - prof.pre - expectedArrival u p x →
          exec (.delimiterMatch p c pos codes) s
            = .next ((u.receiveEntry p x d at_ noise).setChan p c { x with
                st := .payload, delta := d, nth := (u.port p).slu.marks + 1, endAt := pos + prof.dlm + 64 * (x.entry.slots - prof.ovh) })) ∧
        (x.quiet = true →
          exec (.delimiterMatch p c pos codes) s = .next ((u.receiveResponse p x pos at_ noise).setChan p c { x with
            st := .payload, delta := 0, respTail := responseTail u p x pos,
            respEnd := pos / 64 + u.govOf x.tick (R.SLU_DISC_CTL.resp_slots p) + 1,
            endAt := pos + prof.dlm + 64 * u.govOf x.tick (R.SLU_DISC_CTL.resp_slots p),
            evalFrom := pos + prof.dlm + 64 * u.govOf x.tick (R.SLU_DISC_CTL.resp_slots p) }))) ∧
      (sluiceRuns u p = false ∨ x.st ≠ .locked ∨ pos < x.pos ∨ x.deadline < pos + prof.dlm ∨
          u.govOf x.tick (R.SLU_DETECT.dlm_err p) < signDiffs (y.drop n) (burstDelimiter u p x) →
        exec (.delimiterMatch p c pos codes) s = .next u)) ∧
    (∀ u x level, u = s.settle p (64 * ((s.chan p c).start / 64 + cycle) + 64) → x = u.chan p c → level = cycleLevel u p x cycle codes →
      (sluiceRuns u p = false ∨ x.st ≠ .armed ∨ u.govOf x.tick (R.SLU_CTRL.agc_en p) = 0 ∨ cycle < x.agcFrom ∨ cycleInWindow u p x cycle = false ∨
          level < 256 * u.govOf x.tick (R.SLU_AGC.agc_floor p) ∨ level = 0 ∨
          (x.quiet = false ∧ (x.start + (u.profileOf p x.tick x.entry.profile).guard + (u.profileOf p x.tick x.entry.profile).pre) / 64
            ≤ x.start / 64 + cycle + 12) →
        exec (.agcCommand p c cycle codes) s = .next u) ∧
      (∀ g, sluiceRuns u p = true → x.st = .armed → u.govOf x.tick (R.SLU_CTRL.agc_en p) ≠ 0 → x.agcFrom ≤ cycle →
        cycleInWindow u p x cycle = true → 256 * u.govOf x.tick (R.SLU_AGC.agc_floor p) ≤ level → level ≠ 0 →
        (x.quiet = false → x.start / 64 + cycle + 12
          < (x.start + (u.profileOf p x.tick x.entry.profile).guard + (u.profileOf p x.tick x.entry.profile).pre) / 64) →
        g = clampInt 0 127 (clampInt ((x.applied.gain : Int) - u.govOf x.tick (R.SLU_AGC.agc_range p))
          (x.applied.gain + u.govOf x.tick (R.SLU_AGC.agc_range p))
          ((x.gain : Int) + agcSteps (256 * u.govOf x.tick (R.SLU_AGC.agc_target p)) level)) →
        exec (.agcCommand p c cycle codes) s
          = .next (if g.toNat = x.gain then u else u.setChan p c { x with gain := g.toNat, agcFrom := cycle + 12 })) ∧
      (cycleInWindow u p x cycle = true ↔ x.start + x.openAt < 64 * (x.start / 64 + cycle) + 64 ∧
        64 * (x.start / 64 + cycle) < x.start + x.lastPos + 64 * (u.profileOf p x.tick x.entry.profile).sym))

/-- False locks re-arm the channel or miss the burst, closed windows miss it, markers and loss of signal follow.
It concludes exec = next, under conditions on the state and the operands alone, for: FALSE_LOCK, WINDOW_CLOSE, RSSI_MARKER, LOS_DECLARED. -/
def Obligations.MissingBurstsMarkersAndLossOfSignal : Prop :=
  ∀ (s : State) (p : Port) (c : Chan) (codes : List Int) (sd : Bool),
    (∀ u x sym block y, u = s.settleAt p c (s.chan p c).deadline → x = u.chan p c →
      sym = (u.profileOf p x.tick x.entry.profile).sym → block = x.deadline - 64 * sym →
      y = burstOutputs u p x (x.start + block) 64 codes →
      (sluiceRuns u p = true → x.st = .locked → x.quiet = false → matchDue u p x block y = false →
        (takeoverDue u p x block y = false ∨ (u.govOf x.tick (R.SLU_CTRL.sd_gate p) = 1 ∧ sd = true)) →
        ∀ x', x' = { x with falseLocks := x.falseLocks + 1, gain := x.applied.gain, evalFrom := block + 1, agcFrom := 0 } →
        (block + 1 ≤ x.lastPos →
          exec (.falseLock p ⟨c, codes, sd⟩) s
            = .next (((u.bumpP p 0x54).setChan p c { x' with st := .armed }).loadLive p (x.start + x.deadline) x.applied)) ∧
        (x.lastPos < block + 1 →
          exec (.falseLock p ⟨c, codes, sd⟩) s = .next (((u.bumpP p 0x54).burstMissing p x' 2).setChan p c { x' with st := .idle }))) ∧
      (sluiceRuns u p = true → x.st = .locked → x.quiet = true → matchDue u p x block y = false →
        (takeoverDue u p x block y = false ∨ (u.govOf x.tick (R.SLU_CTRL.sd_gate p) = 1 ∧ sd = true)) →
        ∀ x', x' = { x with falseLocks := x.falseLocks + 1, gain := x.applied.gain, evalFrom := block + 1, agcFrom := 0 } →
        exec (.falseLock p ⟨c, codes, sd⟩) s = .next ((u.setChan p c x').rearm p c x.deadline .armed) ∧
        ((((u.setChan p c x').rearm p c x.deadline .armed).chan p c).st = if block + 1 ≤ x.lastPos then .armed else .idle)) ∧
      (sluiceRuns u p = true → x.st = .locked →
        matchDue u p x block y = true ∨ (takeoverDue u p x block y = true ∧ (u.govOf x.tick (R.SLU_CTRL.sd_gate p) ≠ 1 ∨ sd = false)) →
        exec (.falseLock p ⟨c, codes, sd⟩) s = .next u) ∧
      (sluiceRuns u p = false ∨ x.st ≠ .locked → exec (.falseLock p ⟨c, codes, sd⟩) s = .next u)) ∧
    (∀ u x, u = s.settleAt p c ((s.chan p c).lastPos + 64 * (s.profileOf p (s.chan p c).tick (s.chan p c).entry.profile).sym) →
      x = u.chan p c →
      (sluiceRuns u p = true → x.st = .armed →
        (x.quiet = false → exec (.windowClose p c) s = .next ((u.burstMissing p x 1).setChan p c { x with st := .idle })) ∧
        (x.quiet = true → exec (.windowClose p c) s = .next (u.setChan p c { x with st := .idle }))) ∧
      (sluiceRuns u p = false ∨ x.st ≠ .armed → exec (.windowClose p c) s = .next u)) ∧
    (∀ x, x = s.chan p c →
      (marks s p x = true →
        (s.govOf x.tick (R.SLU_RSSI_CTL.mark_delay p) + 16 ≤ x.entry.slots - (s.profileOf p x.tick x.entry.profile).ovh →
          exec (.rssiMarker p c) s = .next ((s.bumpP p 0x5A).emit (.marker p x.onu s.fc))) ∧
        (x.entry.slots - (s.profileOf p x.tick x.entry.profile).ovh < s.govOf x.tick (R.SLU_RSSI_CTL.mark_delay p) + 16 →
          exec (.rssiMarker p c) s = .next ((s.bumpP p 0x5B).pulseP p 0x33 0))) ∧
      (marks s p x = false → exec (.rssiMarker p c) s = .next s) ∧
      (s.govOf x.tick (R.SLU_RSSI_CTL.mark_en p) = 1 → x.st = .payload → x.quiet = false →
        (s.govOf x.tick (R.SLU_RSSI_CTL.mark_mode p) = 0 → marks s p x = true) ∧
        (s.govOf x.tick (R.SLU_RSSI_CTL.mark_mode p) = 1 →
          (marks s p x = true ↔ x.nth % 2 ^ s.govOf x.tick (R.SLU_RSSI_CTL.mark_div p) = 0)) ∧
        (s.govOf x.tick (R.SLU_RSSI_CTL.mark_mode p) = 2 →
          (marks s p x = true ↔ x.onu = s.govOf x.tick (R.SLU_RSSI_CTL.mark_onu p))))) ∧
    (s.flag (R.SLU_STATUS.los p) = false → s.gov (R.SLU_CTRL.los_frames p) ≤ (s.port p).slu.losRun → sluiceRuns s p = true →
      exec (.losDeclared p) s
        = .next ((((s.setFlag (R.SLU_STATUS.los p) true).level (portSrc p 0x30) true 0).bumpP p 0x5C).protStatus p)) ∧
    (s.flag (R.SLU_STATUS.los p) = true ∨ (s.port p).slu.losRun < s.gov (R.SLU_CTRL.los_frames p) ∨ sluiceRuns s p = false →
      exec (.losDeclared p) s = .next s)

/-- Codewords take the lowest free engine, a decoder, and reach delineation passed or failed.
It concludes exec = next, under conditions on the state and the operands alone, for: CODEWORD_WINDOW_START, CODEWORD_TO_DECODER, CODEWORD_RELEASE. -/
def Obligations.CodewordsAreDecodedAndReleased : Prop :=
  ∀ (s : State) (p : Port) (cw : CwRef) (form : G50Form) (codes : List Int) (f : EngineFault) (g : DecoderFault) (bad : Option Nat),
    (cwEntry s p cw = none ∨ xtlBurst s p cw.entry cw.tick cw.resp = none →
      exec (.codewordWindowStart p ⟨cw, form, codes⟩) s = .next s ∧ exec (.codewordRelease p cw ⟨bad, g⟩) s = .next s) ∧
    (s.fenced p = true ∨ s.inReset p = true →
      exec (.codewordWindowStart p ⟨cw, form, codes⟩) s = .next s ∧ exec (.codewordToDecoder p cw f) s = .next s ∧
      exec (.codewordRelease p cw ⟨bad, g⟩) s = .next s) ∧
    ((s.port p).xtl.windows.find? (fun w => w.cw = cw) = none → exec (.codewordToDecoder p cw f) s = .next s) ∧
    (s.fenced p = false → s.inReset p = false → ∀ e x, cwEntry s p cw = some e → xtlBurst s p cw.entry cw.tick cw.resp = some x →
      (∀ n stride at_ u w x' v t k, cwLength s p x cw form = some n → (s.port p).xtl.windows.any (fun w => w.cw = cw) = false →
        cwDecided s p cw = none → stride = (s.profileOf p cw.tick e.profile).sym → at_ = x.start + (x.spans.take cw.index).sum * stride →
        u = s.settle p (at_ - 64 * stride) →
        w = { cw := cw, start := at_ - 64 * stride, n := n, stride := stride, punct := if u.g50 p then form.punct else [], words := rxWords u p (at_ - 64 * stride + 49) codes,
              sets := [(at_ - 64 * stride, liveSet u p)] } →
        x' = (if u.g50 p = true then { x with spans := x.spans ++ [n], total := some form.total } else x) →
        v = ((u.modXtl p (fun t => { t with windows := t.windows ++ [w] })).modXtlBurst p x (fun _ => x')).trackingLoad p e x' at_ →
        exec (.codewordWindowStart p ⟨cw, form, codes⟩) s
          = .next ((engineWindows v p at_ n stride).foldl (fun s i => s.placeWindow p cw (freeEngine s p (i.1 / 64)) i.1 i.2) v) ∧
        (v.g50 p = false → freeEngine v p ((at_ - 64) / 64) = some k →
          t = v.modXtl p (fun t => { t with engines := Tab.put t.engines k (cw, (at_ - 64) / 64 + ((n + 128) / 4 + 8)) }) →
          exec (.codewordWindowStart p ⟨cw, form, codes⟩) s = .next (t.auditStart p .engine cw k ((at_ - 64) / 64) ((n + 128) / 4 + 8)))) ∧
      (∀ w last mode r u out t, (s.port p).xtl.windows.find? (fun w => w.cw = cw) = some w → last = w.start + (w.n + 64) * w.stride →
        mode = symbolMode s p (last - 1) → r = engineRun s p x w mode → u = (if x.noise.1 = 0 then s.nextOpen else s) →
        out = f.unit.getD { soft := r.soft, hard := r.hard } → (s.port p).xtl.engJob = none →
        t = (u.modXtl p (fun t => { t with
          windows := t.windows.filter (fun y => y.cw ≠ cw), engines := t.engines.filter (fun h => h.2.1 ≠ cw),
          decided := t.decided ++ [(cw, out.hard, none)], engJob := none })).modXtlBurst p x (fun y => { y with noise := r.noise, before := r.before }) →
        ((s.port p).xtl.lost.contains cw = true → exec (.codewordToDecoder p cw f) s = .next t) ∧
        ((s.port p).xtl.lost.contains cw = false →
          exec (.codewordToDecoder p cw f) s = .next (t.loadDecoder p cw w.punct out.soft mode (loadedAt t p mode last)))) ∧
      (∀ k d n corr, decoderOf (s.port p).xtl cw = some (k, d) → (cwDecided s p cw).bind Prod.snd = none → g = { unit := none, auditor := none } →
        (s.port p).xtl.lost.contains cw = false → (s.port p).xtl.decJob = none →
        n = cwSlots (s.profileOf p cw.tick e.profile).sym x cw.index → corr = correctedBits d.known d.punct d.soft d.out.bits →
        (d.out.unsat = 0 → bad = none →
          exec (.codewordRelease p cw ⟨bad, g⟩) s
            = .next (((((((s.dropCodeword p cw false).modXtlBurst p x (fun y => { y with left := y.left - n })).countCodeword p corr
                d.out.iterations).emit (.codeword p cw false (codewordInfo ((s.dropCodeword p cw false).modXtlBurst p x (fun y => { y with left := y.left - n })) p e x
                  cw.index d.known d.out.bits))).watchCount p cw.tick (burstOnu s p e) false corr).acctCodeword p e cw.tick n false).drainRake p)) ∧
        (d.out.unsat ≠ 0 → bad = none → cw.index ≠ 0 →
          ∃ t : State, exec (.codewordRelease p cw ⟨bad, g⟩) s = .next (t.drainRake p) ∧
            t = ((((((((s.dropCodeword p cw true).modXtlBurst p x (fun y => { y with left := y.left - n })).countCodeword p corr
              d.out.iterations).emit (.codeword p cw true (codewordInfo ((s.dropCodeword p cw true).modXtlBurst p x (fun y => { y with left := y.left - n })) p e x
                cw.index d.known d.out.bits))).recordFail p cw (burstOnu s p e)
                (if (s.port p).xtl.preempted.contains cw then 1 else 0) d.out.unsat).watchCount p cw.tick (burstOnu s p e) true corr).startHunt p
                e.alloc).acctCodeword p e cw.tick n true).modRake p (fun q => { q with bursts := q.bursts.map (fun b =>
                  if b.entry = cw.entry ∧ b.tick = cw.tick then { b with failed := true } else b) }))) ∧
      (decoderOf (s.port p).xtl cw = none → (s.port p).xtl.lost.contains cw = false → exec (.codewordRelease p cw ⟨bad, g⟩) s = .next s)) ∧
    (∀ now k, k < 22 → s.fld (R.XTL_UNIT.state p k) = 0 → (∀ h, Tab.find (s.port p).xtl.engines k = some h → h.2 ≤ now) →
      (∀ j, j < k → s.fld (R.XTL_UNIT.state p j) = 0 → ∃ h, Tab.find (s.port p).xtl.engines j = some h ∧ now < h.2) →
      freeEngine s p now = some k) ∧
    (∀ at_ n stride, s.g50 p = false → engineWindows s p at_ n stride = [(at_ - 64, n + 128)]) ∧
    (∀ now k, k < 9 → s.fld (R.XTL_DEC.state p k) = 0 → iterating s p k now = none →
      (∀ j, j < k → s.fld (R.XTL_DEC.state p j) = 0 → iterating s p j now ≠ none) → pickDecoder s p now = some k) ∧
    (∀ punct soft mode now k off, off = s.govOf cw.tick (R.XTL_CTRL.min_sum_offset p) → pickDecoder s p now = some k →
      ∃ v d, v = s.preemptAt p k now ∧
        d = { cw := cw, start := now, soft := (withKnown punct soft).2, known := (withKnown punct soft).1, punct := punct, offset := off,
              limit := if mode = 4 then 12 else if mode = 3 then 10 else 6, out := ldpcDecode off (if mode = 4 then 12 else if mode = 3 then 10 else 6)
                (s.govOf cw.tick (R.XTL_CTRL.early_stop p) == 1) (withKnown punct soft).2 } ∧
        s.loadDecoder p cw punct soft mode now
          = (v.modXtl p (fun x => { x with decoders := Tab.put x.decoders k ((Tab.find x.decoders k).getD [] ++ [d]) })).auditStart p .decoder cw k
              now (d.out.iterations * iterationCycles (v.modXtl p (fun x => { x with
                decoders := Tab.put x.decoders k ((Tab.find x.decoders k).getD [] ++ [d]) })) p)) ∧
    (∀ k now, (iterating s p k now = none → s.preemptAt p k now = s) ∧
      (∀ d, iterating s p k now = some d → ∃ n, n = (now - d.start) / iterationCycles s p ∧
        s.preemptAt p k now = ((s.bumpP p 0x74).pulseP p 0x54 0).modXtl p (fun x => { x with
          decoders := Tab.put x.decoders k (((Tab.find x.decoders k).getD []).map (fun y =>
            if y.cw = d.cw then { d with limit := n, out := ldpcDecode d.offset n false d.soft } else y)),
          preempted := d.cw :: x.preempted }))) ∧
    (∀ (x : XtlState) (b : Bool) (unsat : Nat),
      (x.lost.contains cw = true → cwCause x cw b unsat = some 3) ∧
      (x.lost.contains cw = false → b = true → cwCause x cw b unsat = some 2) ∧
      (x.lost.contains cw = false → b = false → unsat = 0 → cwCause x cw b unsat = none) ∧
      (x.lost.contains cw = false → b = false → unsat ≠ 0 →
        cwCause x cw b unsat = some (if x.preempted.contains cw then 1 else 0)))

/-- A unit under a test write or a confirmed mismatch leaves service; the lowest-numbered free spare takes its place.
It concludes exec = next, under conditions on the state and the operands alone, for: XTL_TEST_FAIL, UNIT_SWAP_AT_BOUNDARY, KNOWN_ANSWER_TEST_DONE. -/
def Obligations.EngineAndDecoderSwaps : Prop :=
  ∀ (s : State) (p : Port) (cls : UnitClass) (u cycle src v : Nat) (passed : Bool),
    (Reaches s src (R.XTL_TEST_FAIL.addr p) →
      (bitAt v 31 = true → bitsOf v 4 0 < unitCount (if bitAt v 5 then .decoder else .engine) →
        exec (.xtlTestFail src p v) s = .next (s.modXtl p (fun x => { x with
          swaps := x.swaps.filter (· ≠ ((if bitAt v 5 then .decoder else .engine), bitsOf v 4 0))
            ++ [((if bitAt v 5 then .decoder else .engine), bitsOf v 4 0)] }))) ∧
      (bitAt v 31 = false ∨ unitCount (if bitAt v 5 then .decoder else .engine) ≤ bitsOf v 4 0 →
        exec (.xtlTestFail src p v) s = .next s)) ∧
    (∀ now, now = 194400 * s.tick + cycle →
      ((s.port p).xtl.swaps.contains (cls, u) = true →
        exec (.unitSwapAtBoundary p cls ⟨u, cycle⟩) s
          = .next (((List.range (u + 1)).filter (fun u => (s.port p).xtl.swaps.contains (cls, u))).foldl (fun s u => s.swapUnit p cls u now) s)) ∧
      (∀ t, t = s.modXtl p (fun x => { x with swaps := x.swaps.filter (· ≠ (cls, u)) }) →
        (t.fld (unitState p cls u) = 0 → s.swapUnit p cls u now = t.replaceUnit p cls u 5 3 now) ∧
        (∀ r, t.fld (unitState p cls u) = 1 ∨ t.fld (unitState p cls u) = 2 →
          r = (t.setFld (unitState p cls u) 5).setFld (unitReason p cls u) 3 →
          s.swapUnit p cls u now = ((if freeSpare r p cls = none then r.degrade p cls else r).unitStatus p).updateCeiling p) ∧
        (2 < t.fld (unitState p cls u) → s.swapUnit p cls u now = t)) ∧
      ((s.port p).xtl.swaps.contains (.engine, u) = false → ∀ a, (s.port p).xtl.engStage = .swapDue u a →
        exec (.unitSwapAtBoundary p .engine ⟨u, cycle⟩) s
          = .next ((((((s.loseHeld p .engine u now).setFld (R.XTL_UNIT.state p u) 6).setFld (R.XTL_UNIT.state p a) 0).modXtl p (fun x => { x with
              engStage := .testUnit u })).unitStatus p).updateCeiling p)) ∧
      ((s.port p).xtl.swaps.contains (.decoder, u) = false → ∀ a, (s.port p).xtl.decStage = .swapDue u a →
        exec (.unitSwapAtBoundary p .decoder ⟨u, cycle⟩) s
          = .next ((((((s.loseHeld p .decoder u now).setFld (R.XTL_DEC.state p u) 6).setFld (R.XTL_DEC.state p a) 0).modXtl p (fun x => { x with
              decStage := .testUnit u })).unitStatus p).updateCeiling p)) ∧
      (∀ t st reason, t = ((s.loseHeld p cls u now).setFld (unitState p cls u) st).setFld (unitReason p cls u) reason →
        (∀ a, freeSpare t p cls = some a →
          s.replaceUnit p cls u st reason now
            = ((((t.setFld (unitState p cls a) 0).bumpP p (if cls = .engine then 0x79 else 0x7A)).pulseP p 0x51 0).unitStatus p).updateCeiling p) ∧
        (freeSpare t p cls = none → s.replaceUnit p cls u st reason now = ((t.degrade p cls).unitStatus p).updateCeiling p)) ∧
      (∀ h, Tab.find (s.port p).xtl.engines u = some h →
        (now < h.2 → s.loseHeld p .engine u now = s.modXtl p (fun x => { x with engines := Tab.del x.engines u, lost := h.1 :: x.lost })))) ∧
    (∀ a, (s.port p).xtl.decStage = .testAuditor u a →
      exec (.knownAnswerTestDone p .decoder a true) s = .next (s.modXtl p (fun x => { x with decStage := .swapDue u a })) ∧
      (∀ z, z = (((s.modXtl p (fun x => { x with decStage := .none })).setFld (R.XTL_DEC.state p a) 5).setFld (R.XTL_DEC.fail_reason p a) 2).appendDelta
          2 p.val a →
        exec (.knownAnswerTestDone p .decoder a false) s = .next ((if freeSpare z p .decoder = none then z.degrade p .decoder else z).unitStatus p)) ∧
      (∀ b, b ≠ a → exec (.knownAnswerTestDone p .decoder b passed) s = .next s)) ∧
    ((s.port p).xtl.engStage = .testUnit u →
      exec (.knownAnswerTestDone p .engine u true) s
        = .next (((((s.modXtl p (fun x => { x with engStage := .none })).setFld (R.XTL_UNIT.state p u) 1).unitStatus p).bumpP p 0x7B).pulseP p
            0x56 0) ∧
      (∀ z, z = (((((s.modXtl p (fun x => { x with engStage := .none })).setFld (R.XTL_UNIT.state p u) 5).setFld
          (R.XTL_UNIT.fail_reason p u) 2).appendDelta 1 p.val u).countSubstitution p .engine).unitStatus p →
        exec (.knownAnswerTestDone p .engine u false) s
          = .next ((if freeSpare z p .engine = none then z.degrade p .engine else z).updateCeiling p))) ∧
    (∀ cw now dur, (freeSpare s p cls = none → s.auditStart p cls cw u now dur = s) ∧
      (∀ a n, freeSpare s p cls = some a → (∀ j, auditJob (s.port p).xtl cls = some j → j.auditor = a → j.until_ ≤ now) →
        n = auditCount (s.port p).xtl cls + 1 →
        (s.govOf cw.tick (R.XTL_CTRL.audit_en p) = 0 → s.auditStart p cls cw u now dur = s.setFld (unitState p cls a) 1) ∧
        (s.govOf cw.tick (R.XTL_CTRL.audit_en p) ≠ 0 → n % 2 ^ s.govOf cw.tick (R.XTL_CTRL.audit_rate p) = 0 →
          ∃ t, t = (s.setFld (unitState p cls a) 1).modXtl p (fun x => match cls with
            | .engine => { x with engAudits := n }
            | .decoder => { x with decAudits := n }) ∧
          s.auditStart p cls cw u now dur = ((t.bumpP p 0x77).setFld (unitState p cls a) 2).modXtl p (fun x => match cls with
            | .engine => { x with engJob := some { cw := cw, unit := u, auditor := a, until_ := now + dur } }
            | .decoder => { x with decJob := some { cw := cw, unit := u, auditor := a, until_ := now + dur } }))))

/-- Burst headers, PLOAM messages and status reports reach their context or the host only when they check.
It concludes exec = next, under conditions on the state and the operands alone, for: BURST_HEADER, UPSTREAM_PLOAM, STATUS_REPORT, REASSEMBLY_TIMEOUT. -/
def Obligations.UpstreamMessagesAndReports : Prop :=
  ∀ (s : State) (p : Port) (entry tick x resp : Nat) (m : UpPloam),
    (rxHead s p entry tick = none →
      exec (.burstHeader p entry tick x) s = .next s ∧ exec (.statusReport p entry tick x) s = .next s) ∧
    ((cwDecided s p ⟨entry, tick, 0, 0⟩).bind Prod.snd = some true → rxHead s p entry tick = none) ∧
    (rxMessage s p entry tick resp = none → exec (.upstreamPloam p entry tick resp m) s = .next s) ∧
    (headerFields false x = (bitsOf x 63 54, some (bitsOf x 53 42), bitAt x 41, bitAt x 40)) ∧
    (reportFields false x = if crc8 64 x ≠ bitsOf x 7 0 then none else some (bitsOf x 63 40, bitsOf x 39 24)) ∧
    (∀ e, rxHead s p entry tick = some e →
      (∀ c i onu alloc pend dg, s.allocOwner p e.alloc = some (c, i) → headerFields (s.g50 p) x = (onu, alloc, pend, dg) →
        (∀ t, onu = (s.ctx p c).onuId → alloc = none ∨ alloc = some e.alloc → t = (s.countBurst p entry tick).drainRake p →
          (follows t p = true → exec (.burstHeader p entry tick x) s = .next t) ∧
          (follows t p = false → ∀ u, u = t.modCtx p c (fun y => { y with ploPend := pend, gasp := y.gasp || dg }) →
            exec (.burstHeader p entry tick x) s
              = .next (if dg = true then (u.pulseP p 0x74 0).deliver p 3 (msgResult onu 8) (beBytes 8 x) else u))) ∧
        (onu ≠ (s.ctx p c).onuId ∨ (alloc ≠ none ∧ alloc ≠ some e.alloc) →
          exec (.burstHeader p entry tick x) s = .next (((((((s.modRake p (fun r => { r with bursts := r.bursts.map (fun b =>
            if b.entry = entry ∧ b.tick = tick then { b with misdirected := true } else b) })).setFld
            (R.TCF_LAST_MISDIR.hdr_onu_id p) onu).setFld (R.TCF_LAST_MISDIR.alloc_id p) e.alloc).setFld
            (R.TCF_LAST_MISDIR.owner_onu_id p) (s.ctx p c).onuId).bumpP p 0x9C).pulseP p 0x73 0).drainRake p)) ∧
        (∀ occ tr, e.dbru = true → reportFields (s.g50 p) x = some (occ, tr) →
          (follows s p = false →
            exec (.statusReport p entry tick x) s = .next ((s.bumpP p 0x9A).modCtx p c (fun y => y.modRec i (fun r => { r with
              occupancy := occ, trend := tr, repAge := 0, reported := true, grantedSince := 0, repTick := tick })))) ∧
          (follows s p = true → exec (.statusReport p entry tick x) s = .next (s.bumpP p 0x9A)))) ∧
      (e.dbru = true → reportFields (s.g50 p) x = none → exec (.statusReport p entry tick x) s = .next (s.bumpP p 0x9B)) ∧
      (e.dbru = false → exec (.statusReport p entry tick x) s = .next s)) ∧
    (∀ e b, rxMessage s p entry tick resp = some (e, b) →
      (e.ploamu = false ∨ m.msg.type = 0 → exec (.upstreamPloam p entry tick resp m) s = .next s) ∧
      (e.ploamu = true → m.msg.type ≠ 0 → micPasses s p m = false →
        exec (.upstreamPloam p entry tick resp m) s = .next ((s.bumpP p 0x92).pulseP p 0x70 0)) ∧
      (e.ploamu = true → m.msg.type ≠ 0 → micPasses s p m = true →
        ((s.port p).prot.role = .standby → s.g50 p = true ∨ ploamDefined m.msg.type = true →
          exec (.upstreamPloam p entry tick resp m) s = .next (s.bumpP p 0x91)) ∧
        (s.g50 p = false → ploamDefined m.msg.type = true → m.msg.type ≠ 0x43 → (s.port p).prot.role ≠ .standby →
          exec (.upstreamPloam p entry tick resp m) s
            = .next ((s.bumpP p 0x91).deliver p 1 (msgResult m.msg.onu 48) (ploamBytes m.msg m.seq ++ beBytes 8 m.mic))) ∧
        (s.g50 p = false → ploamDefined m.msg.type = false → (s.port p).prot.role ≠ .standby →
          exec (.upstreamPloam p entry tick resp m) s
            = .next (((s.bumpP p 0x91).bumpP p 0xA2).deliver p 1 (msgResult m.msg.onu 48) (ploamBytes m.msg m.seq ++ beBytes 8 m.mic))) ∧
        (s.g50 p = true → isDisc e = true ∨ e.ranging = true → (s.port p).prot.role ≠ .standby →
          exec (.upstreamPloam p entry tick resp m) s
            = .next ((s.bumpP p 0x91).deliver p 1 (2 ^ 29 + arrivalOf s p e b % 2 ^ 24) (ploamBytes m.msg m.seq ++ beBytes 8 m.mic))))) ∧
    (∀ q, Tab.find (s.port p).tcf.partials x = some q →
      (s.gov (R.TCF_CTRL.reasm_frames p) ≤ q.age →
        exec (.reassemblyTimeout p x) s = .next ((s.bumpP p 0x98).modTcf p (fun t => { t with partials := Tab.del t.partials x }))) ∧
      (q.age < s.gov (R.TCF_CTRL.reasm_frames p) → exec (.reassemblyTimeout p x) s = .next s)) ∧
    (Tab.find (s.port p).tcf.partials x = none → exec (.reassemblyTimeout p x) s = .next s)

/-- An encapsulation header that checks gives its payload to the flow; one that fails starts a hunt.
It concludes exec = next, under conditions on the state and the operands alone, for: ENCAPSULATION_HEADER. -/
def Obligations.EncapsulationsAreDelineated : Prop :=
  ∀ (s : State) (p : Port) (x : EncapRx),
    (rxEntry s p x.entry x.tick = none → exec (.encapsulationHeader p x) s = .next s) ∧
    (∀ e, rxEntry s p x.entry x.tick = some e →
      (hecCorrect x.word = none → (s.port p).tcf.hunting = true → exec (.encapsulationHeader p x) s = .next (s.startHunt p e.alloc)) ∧
      (hecCorrect x.word = none → (s.port p).tcf.hunting = false →
        exec (.encapsulationHeader p x) s = .next ((s.bumpP p 0x94).startHunt p e.alloc)) ∧
      (∀ w fixed t, hecCorrect x.word = some (w, fixed) → t = (if fixed = true then s.bumpP p 0x93 else s) →
        ((s.port p).tcf.hunting = true → fixed = true ∨ headerGood s p x.tick w = false →
          exec (.encapsulationHeader p x) s = .next (s.startHunt p e.alloc)) ∧
        ((s.port p).tcf.hunting = false → headerGood s p x.tick w = false →
          exec (.encapsulationHeader p x) s = .next ((t.bumpP p 0x94).startHunt p e.alloc)) ∧
        (∀ u onu, headerGood s p x.tick w = true → (s.port p).tcf.hunting = false ∨ fixed = false →
          u = t.modTcf p (fun t => { t with hunting := false }) →
          onu = (match entrySlot u p e with
            | some c => (u.ctx p c).onuId
            | none => 1023) →
          (headerFlow s p x.tick w = none →
            exec (.encapsulationHeader p x) s = .next (if x.first = true then u.dropPartial p e.alloc else u)) ∧
          (∀ flow, headerFlow s p x.tick w = some flow →
            (bitsOf w 49 48 = 0 →
              exec (.encapsulationHeader p x) s
                = .next (u.takeFragment p e x.tick onu flow false x.first (bitAt w 13) (x.payload.take (bitsOf w 63 50)))) ∧
            (bitsOf w 49 48 ≠ 0 → Tab.find (keysOf s p x.tick) (onu * 4 + bitsOf w 49 48) = none →
              exec (.encapsulationHeader p x) s = .next (((u.dropPartial p e.alloc).bumpP p 0x9D).pulseP p 0x75 0)) ∧
            (∀ key, bitsOf w 49 48 ≠ 0 → Tab.find (keysOf s p x.tick) (onu * 4 + bitsOf w 49 48) = some key →
              exec (.encapsulationHeader p x) s
                = .next (u.takeFragment p e x.tick onu flow true x.first (bitAt w 13)
                    (cryptBytes (s.g50 p) key ((s.fc + 2 ^ 51 - (s.tick - x.tick)) % 2 ^ 51) (if s.g50 p = true then bitsOf w 47 32 else flow)
                      true e.start x.offset (x.payload.take (bitsOf w 63 50))))))))) ∧
    (∀ tick w, s.g50 p = false →
      (headerFlow s p tick w = if bitsOf w 47 28 = 0xFFFFF then none else some (bitsOf w 47 28)) ∧
      (headerGood s p tick w = true ↔ bitsOf w 47 28 = 0xFFFFF ∨
        (bitsOf w 63 50 ≠ 0 ∧ bitsOf w 63 50 ≤ s.govOf tick (R.TCF_SDU.max_sdu p) ∧ bitsOf w 49 48 ≠ 3))) ∧
    (∀ (e : MapEntry) (tick onu flow : Nat) (keyed first : Bool) (data : List Byte), Tab.find (s.port p).tcf.partials e.alloc = none →
      (data.length ≤ s.govOf tick (R.TCF_SDU.max_sdu p) →
        (s.takeFragment p e tick onu flow keyed first false data = (s.memWrite (dieSpace p) (dieWord p 6 e.alloc) allBytes).modTcf p (fun t => { t with
          partials := Tab.put t.partials e.alloc { onu := onu, flow := flow, data := data, age := 0 } })) ∧
        (∀ u, u = s.modTcf p (fun t => { t with partials := Tab.del t.partials e.alloc }) →
          (follows s p = true → s.takeFragment p e tick onu flow keyed first true data = u.bump (0x270A + 16 * p.val)) ∧
          (follows s p = false → s.takeFragment p e tick onu flow keyed first true data = (u.bumpP p 0x96).modTcf p (fun t => { t with
            upQ := t.upQ ++ [{ alloc := e.alloc, onu := onu, flow := flow, keyed := keyed, data := data }] })))) ∧
      (s.govOf tick (R.TCF_SDU.max_sdu p) < data.length → ∀ last,
        s.takeFragment p e tick onu flow keyed first last data
          = (s.modTcf p (fun t => { t with partials := Tab.del t.partials e.alloc })).bumpP p 0x98)) ∧
    (∀ (e : MapEntry) (tick onu flow : Nat) (keyed : Bool) (data : List Byte) (q : Partial), Tab.find (s.port p).tcf.partials e.alloc = some q → q.flow = flow →
      (q.data ++ data).length ≤ s.govOf tick (R.TCF_SDU.max_sdu p) →
      (dieBad s p 6 e.alloc = true → s.takeFragment p e tick onu flow keyed true true data
        = ((s.useDie p 6 e.alloc 8).modTcf p (fun t => { t with partials := Tab.del t.partials e.alloc })).bumpP p 0x98) ∧
      (dieBad s p 6 e.alloc = false → follows s p = false → s.takeFragment p e tick onu flow keyed true true data
        = ((s.modTcf p (fun t => { t with partials := Tab.del t.partials e.alloc })).bumpP p 0x96).modTcf p (fun t => { t with
            upQ := t.upQ ++ [{ alloc := e.alloc, onu := onu, flow := flow, keyed := keyed, data := q.data ++ data }] }))) ∧
    (∀ alloc t, t = (if (Tab.find (s.port p).tcf.partials alloc).isSome = true then
        (s.bumpP p 0x98).modTcf p (fun t => { t with partials := Tab.del t.partials alloc }) else s) →
      ((s.port p).tcf.hunting = true → s.startHunt p alloc = t) ∧
      ((s.port p).tcf.hunting = false → s.startHunt p alloc = (t.bumpP p 0x95).modTcf p (fun t => { t with hunting := true })))

/-- PLOAM, OMCI, key and receive-buffer commands are refused by the first broken row of their table, else queued.
It concludes exec = next, under conditions on the state and the operands alone, for: PLOAM_SEND, OMCI_SEND, MSG_RX_POST, KEY_LOAD, KEY_SWITCH, KEY_CLEAR. -/
def Obligations.TcCommandsAreCheckedAndQueued : Prop :=
  ∀ (s : State) (iss : Issue) (m : Ploam) (op0 op1 op2 key size : Nat) (data : List Byte) (t : State) (p : Port),
    p = iss.port → t = s.startCmd iss →
    (∀ (q : Sq) (k : State → State), t.sq? iss.fn iss.sq = some q →
      (q.deleting = true → t.awaits iss k = (t.complete iss { Result.ok 0 0 with status := .aborted }).bump (hifCtr iss.fn 6)) ∧
      (q.deleting = false → t.awaits iss k = k t)) ∧
    (∀ k : State → State, t.sq? iss.fn iss.sq = none → t.awaits iss k = k t) ∧
    (Starts s iss p [] → roleRefuses t p = true → exec (.ploamSend iss m) s = .next (t.refuse iss 0x26)) ∧
    (Starts s iss p [] → roleRefuses t p = false →
      (ploamRefused (t.g50 p) m.type = true → exec (.ploamSend iss m) s = .next (t.refuse iss 0x01)) ∧
      (ploamRefused (t.g50 p) m.type = false → m.onu ≠ 1023 → t.slotOf p m.onu = none →
        exec (.ploamSend iss m) s = .next (t.refuse iss 0x02)) ∧
      (ploamRefused (t.g50 p) m.type = false → m.onu = 1023 ∨ t.slotOf p m.onu ≠ none →
        (256 ≤ (t.port p).tcf.hostQ.length → exec (.ploamSend iss m) s = .next (t.refuse iss 0x03)) ∧
        ((t.port p).tcf.hostQ.length < 256 →
          exec (.ploamSend iss m) s = .next (t.awaits iss (fun t => (t.modTcf p (fun x => { x with hostQ := x.hostQ ++ [{ iss := iss, msg := m }] })).tcfStatus p))))) ∧
    (Starts s iss p [(op0, 0xFFFFF)] → roleRefuses t p = false →
      (mgmtFlow t p (bitsOf op0 19 0) = false → exec (.omciSend iss op0 data) s = .next (t.refuse iss 0x07)) ∧
      (mgmtFlow t p (bitsOf op0 19 0) = true → data.length = 0 ∨ 2048 < data.length →
        exec (.omciSend iss op0 data) s = .next (t.refuse iss 0x08)) ∧
      (mgmtFlow t p (bitsOf op0 19 0) = true → data.length ≠ 0 → data.length ≤ 2048 → Config.omciCapacity ≤ (t.port p).tcf.omciQ.length →
        exec (.omciSend iss op0 data) s = .next (t.refuse iss 0x03)) ∧
      (mgmtFlow t p (bitsOf op0 19 0) = true → data.length ≠ 0 → data.length ≤ 2048 → (t.port p).tcf.omciQ.length < Config.omciCapacity →
        exec (.omciSend iss op0 data) s = .next (t.awaits iss (fun u => u.modTcf p (fun x => { x with
          omciQ := x.omciQ ++ [{ iss := iss, onu := ((Tab.find t.flow.flows (bitsOf op0 19 0)).getD .blank).onu,
                                 flow := bitsOf op0 19 0, data := data }] }))))) ∧
    (Starts s iss p [] →
      (1024 ≤ (t.port p).tcf.rxBufs.length → exec (.msgRxPost iss size) s = .next (t.refuse iss 0x03)) ∧
      ((t.port p).tcf.rxBufs.length < 1024 → size < 48 ∨ 65535 < size → exec (.msgRxPost iss size) s = .next (t.refuse iss 0x08)) ∧
      ((t.port p).tcf.rxBufs.length < 1024 → 48 ≤ size → size ≤ 65535 →
        exec (.msgRxPost iss size) s
          = .next (t.awaits iss (fun t => (t.modTcf p (fun x => { x with rxBufs := x.rxBufs ++ [{ iss := iss, size := size }] })).tcfStatus p)))) ∧
    (Starts s iss p [(op0, 0x73FF)] → roleRefuses t p = false → bitsOf op0 9 0 = 1023 ∨ t.slotOf p (bitsOf op0 9 0) ≠ none →
      bitsOf op0 12 12 = 0 →
      (bitsOf op0 14 13 = 0 ∨ bitsOf op0 14 13 = 3 →
        exec (.keyLoad iss op0 key) s = .next (t.refuse iss 0x10) ∧ exec (.keyClear iss op0) s = .next (t.refuse iss 0x10)) ∧
      (bitsOf op0 14 13 = 1 ∨ bitsOf op0 14 13 = 2 → slotBusy t p (bitsOf op0 9 0) (bitsOf op0 14 13) = true →
        exec (.keyLoad iss op0 key) s = .next (t.refuse iss 0x05) ∧ exec (.keyClear iss op0) s = .next (t.refuse iss 0x05)) ∧
      (bitsOf op0 14 13 = 1 ∨ bitsOf op0 14 13 = 2 → slotBusy t p (bitsOf op0 9 0) (bitsOf op0 14 13) = false →
        exec (.keyLoad iss op0 key) s = .next (t.modTcf p (fun x => { x with
          pendKeys := x.pendKeys ++ [{ iss := iss, onu := bitsOf op0 9 0, kind := 0, slot := bitsOf op0 14 13, key := some key }] })) ∧
        exec (.keyClear iss op0) s = .next (t.modTcf p (fun x => { x with
          pendKeys := x.pendKeys ++ [{ iss := iss, onu := bitsOf op0 9 0, kind := 0, slot := bitsOf op0 14 13, key := none }] })))) ∧
    (Starts s iss p [(op0, 0x63FF), (op2, 0xFFFF)] → roleRefuses t p = false →
      bitsOf op0 9 0 = 1023 ∨ t.slotOf p (bitsOf op0 9 0) ≠ none →
      (bitsOf op0 14 13 = 3 → exec (.keySwitch iss op0 op1 op2) s = .next (t.refuse iss 0x10)) ∧
      (bitsOf op0 14 13 ≠ 3 → bitsOf op0 14 13 ≠ 0 → Tab.find (t.port p).tcf.keys (bitsOf op0 9 0 * 4 + bitsOf op0 14 13) = none →
        exec (.keySwitch iss op0 op1 op2) s = .next (t.refuse iss 0x06)) ∧
      (bitsOf op0 14 13 ≠ 3 → bitsOf op0 14 13 = 0 ∨ Tab.find (t.port p).tcf.keys (bitsOf op0 9 0 * 4 + bitsOf op0 14 13) ≠ none →
        exec (.keySwitch iss op0 op1 op2) s = .next (t.modTcf p (fun x => { x with
          newSwitches := x.newSwitches ++ [{ iss := some iss, onu := bitsOf op0 9 0, slot := bitsOf op0 14 13,
                                             fc := op1 % 2 ^ 32 + op2 % 2 ^ 16 * 2 ^ 32 }] })))) ∧
    (roleRefuses t p = true ↔
      (t.port p).prot.role = .sync ∨ (t.port p).prot.role = .standby ∨ (t.port p).prot.role = .blind)

/-- The queue commands bind, modify, unbind and read a queue, the node commands set and read a node.
It concludes exec = next, under conditions on the state and the operands alone, for: QUEUE_BIND, QUEUE_MODIFY, QUEUE_UNBIND, QUEUE_READ, NODE_SET, NODE_READ. -/
def Obligations.QueuesAndNodesAreSetByCommand : Prop :=
  ∀ (s : State) (iss : Issue) (op0 op1 op2 op3 : Nat) (t : State) (q : Nat) (p : Port),
    t = s.startCmd iss → q = bitsOf op0 17 0 → p = iss.port →
    (Starts s iss (queuePort q) [(op0, 0x3FFFF), (op1, 0x0FFF1FFF)] →
      (ownsQueue iss q = false ∨ (t.queue q).valid = true → exec (.queueBind iss op0 op1) s = .next (t.refuse iss 0x11)) ∧
      (ownsQueue iss q = true → (t.queue q).valid = false → onuNode t (queuePort q) (bitsOf op1 9 0) = none →
        exec (.queueBind iss op0 op1) s = .next (t.refuse iss 0x13)) ∧
      (∀ nd, ownsQueue iss q = true → (t.queue q).valid = false → onuNode t (queuePort q) (bitsOf op1 9 0) = some nd →
        (bitsOf op1 23 16 = 0 → exec (.queueBind iss op0 op1) s = .next (t.refuse iss 0x10)) ∧
        (bitsOf op1 23 16 ≠ 0 →
          exec (.queueBind iss op0 op1) s = .next ((((t.nextOpen.nextOpen).writeQueue q allBytes { Queue.blank with
            valid := true, cls := bitsOf op1 12 10, limProf := bitsOf op1 27 24, weight := bitsOf op1 23 16, node := nd,
            head := t.openNat % 2 ^ 32, tail := t.nextOpen.openNat % 2 ^ 32 }).setDeficit q 0).succeed iss 0 0)))) ∧
    (Starts s iss (queuePort q) [(op0, 0x3FFFF), (op1, 0x0FFF0000)] → ownsQueue iss q = true → (t.queue q).valid = true →
      (bitsOf op1 23 16 = 0 → exec (.queueModify iss op0 op1) s = .next (t.refuse iss 0x10)) ∧
      (bitsOf op1 23 16 ≠ 0 →
        exec (.queueModify iss op0 op1) s
          = .next ((t.writeQueue q 0xF { t.queue q with limProf := bitsOf op1 27 24, weight := bitsOf op1 23 16 }).succeed iss 0 0))) ∧
    (Starts s iss (queuePort q) [(op0, 0x8003FFFF)] → ownsQueue iss q = true → (t.queue q).valid = true →
      ((t.queue q).cells ≠ 0 → bitAt op0 31 = false → exec (.queueUnbind iss op0) s = .next (t.refuse iss 0x12)) ∧
      ((t.queue q).cells = 0 ∨ bitAt op0 31 = true →
        exec (.queueUnbind iss op0) s = .next ((t.unbind q).succeed iss (t.queue q).sdus.length 0))) ∧
    (Starts s iss (queuePort q) [(op0, 0x3FFFF)] → ownsQueue iss q = true → ∀ r, r = t.memRead 0 (2 ^ 20 + q) →
      exec (.queueRead iss op0) s
        = .next ((r.toHost iss.fn (.buffer iss.fn iss.tag
            (maskPoison (queueRecord (r.queue q) (r.deficit q)) (memPoison r 0 (2 ^ 20 + q))))).complete iss
            { Result.ok 0 0 with poison := memPoison r 0 (2 ^ 20 + q) ≠ 0 })) ∧
    (∀ nd, onuNode t p (bitsOf op0 9 0) = some nd →
      (Starts s iss p [(op0, 0xFFF3FF), (op1, 0xFFFFF), (op2, 0xFFFFF)] →
        (bitsOf op0 23 16 = 0 → exec (.nodeSet iss op0 op1 op2 op3) s = .next (t.refuse iss 0x10)) ∧
        (bitsOf op0 23 16 ≠ 0 → ∀ r : NodeRates, r = {
            cir := if bitsOf op0 12 12 = 0 then bitsOf op1 19 0 else 0, pir := bitsOf op2 19 0,
            cbs := if bitsOf op0 12 12 = 0 then bitsOf op3 31 16 else 0, pbs := bitsOf op3 15 0, weight := bitsOf op0 23 16 } →
          exec (.nodeSet iss op0 op1 op2 op3) s
            = .next ((t.nextOpen.nextOpen.setNode (nodeKey p nd (bitsOf op0 12 12) (bitsOf op0 15 13)) {
                rates := r, cirLevel := (64 * r.cbs * levelUnit : Nat) - (t.openNat : Int),
                pirLevel := (64 * r.pbs * levelUnit : Nat) - (t.nextOpen.openNat : Int) }).succeed iss 0 0))) ∧
      (Starts s iss p [(op0, 0xF3FF)] → ∀ x, x = t.node (nodeKey p nd (bitsOf op0 12 12) (bitsOf op0 15 13)) →
        exec (.nodeRead iss op0) s
          = .next ((t.toHost iss.fn (.buffer iss.fn iss.tag (Config.nodeRecord x.rates.cir x.rates.pir x.rates.cbs x.rates.pbs x.rates.weight
              (x.cirLevel / levelUnit) (x.pirLevel / levelUnit)).toList)).succeed iss 0 0))) ∧
    (onuNode t p (bitsOf op0 9 0) = none →
      (Starts s iss p [(op0, 0xFFF3FF), (op1, 0xFFFFF), (op2, 0xFFFFF)] →
        exec (.nodeSet iss op0 op1 op2 op3) s = .next (t.refuse iss 0x13)) ∧
      (Starts s iss p [(op0, 0xF3FF)] → exec (.nodeRead iss op0) s = .next (t.refuse iss 0x13)))

/-- Whole upstream SDUs meet their flow and leave by their uplink; uplink frames are checked and classified.
It concludes exec = next, under conditions on the state and the operands alone, for: UPSTREAM_LOOKUP, UPLINK_FRAME_RX, METER_REFRESH, UPSTREAM_EGRESS. -/
def Obligations.UpstreamSdusAreLookedUpAndSent : Prop :=
  ∀ (s : State) (p : Port) (us k flow : Nat) (rs : RsReport) (poisoned : Bool) (frame : List Byte),
    ((s.port p).tcf.upQ = [] → exec (.upstreamLookup p us) s = .next s) ∧
    (∀ u rest t, (s.port p).tcf.upQ = u :: rest → t = s.modTcf p (fun x => { x with upQ := rest }) →
      (t.hubFenced 0 = true → exec (.upstreamLookup p us) s = .next (t.modTcf p (fun x => { x with fencedDrops := x.fencedDrops + 1 }))) ∧
      (∀ r, t.hubFenced 0 = false → t.hotHalf u.flow false = (r, none) → exec (.upstreamLookup p us) s = .next r) ∧
      (∀ r x, t.hubFenced 0 = false → t.hotHalf u.flow false = (r, some x) →
        (x.port ≠ p.val ∨ x.onu ≠ u.onu ∨ x.dir % 2 = 0 → exec (.upstreamLookup p us) s = .next (r.bump 0x2105)) ∧
        (x.port = p.val → x.onu = u.onu → x.dir % 2 ≠ 0 → x.encrypt = true → u.keyed = false →
          exec (.upstreamLookup p us) s = .next (r.bump 0x2106)) ∧
        (x.port = p.val → x.onu = u.onu → x.dir % 2 ≠ 0 → x.encrypt = false ∨ u.keyed = true →
          (x.mgmt = true →
            exec (.upstreamLookup p us) s
              = .next ((r.bump 0x2109).deliver p 2 (msgResult u.onu u.data.length) u.data)) ∧
          (x.mgmt = false → exec (.upstreamLookup p us) s = .next (r.forwardUp u.flow us x u.data))))) ∧
    (∀ f r down, s.memRead 0 f = r → memPoison r 0 f &&& hotUsed (r.flowCtx f) down = 0 →
      ((r.flowCtx f).valid = false → s.hotHalf f down = (r.bump 0x2102, none)) ∧
      ((r.flowCtx f).valid = true → (r.flowCtx f).poisoned = true ∨ (r.flowCtx f).enabled = false →
        s.hotHalf f down = (r.bump 0x2104, none)) ∧
      ((r.flowCtx f).valid = true → (r.flowCtx f).poisoned = false → (r.flowCtx f).enabled = true →
        s.hotHalf f down = (r, some (r.flowCtx f))) ∧
      (∀ x, memPoison x 0 f &&& hotUsed (x.flowCtx f) down ≠ 0 → x = s.memRead 0 f → (x.flowCtx f).valid = true → (x.flowCtx f).poisoned = false →
        s.hotHalf f down = (x.poisonFlow f false true, none))) ∧
    (Tab.get (fun _ => ([] : List EgressSdu)) s.tm.egress (k % 16) = [] ∨ s.hubFenced 0 = true ∨
      (s.hubFenced 1 = true ∧ ∃ d rest, Tab.get (fun _ => ([] : List EgressSdu)) s.tm.egress (k % 16) = d :: rest ∧ d.lp = true) →
      exec (.upstreamEgress k poisoned) s = .next s) ∧
    (∀ d rest t, Tab.get (fun _ => ([] : List EgressSdu)) s.tm.egress (k % 16) = d :: rest → s.hubFenced 0 = false →
      d.lp = false ∨ s.hubFenced 1 = false →
      t = { s with tm := { s.tm with egress := Tab.set (fun _ => ([] : List EgressSdu)) s.tm.egress (k % 16) rest } } →
      ∀ (r : State) (bad : Bool), ((t.setFld R.LPD_POOL_CT.free (ctFree t)).setFld R.LPD_POOL_LP.free (lpFree t)).releaseCells d.lp d.addrs
          d.data.length poisoned = (r, bad) →
        (bad = true → exec (.upstreamEgress k poisoned) s = .next (r.countPoison d.flow)) ∧
        (bad = false → r.fld (R.ULK_PORT_STATUS.state (k % 16)) ≠ 2 →
          exec (.upstreamEgress k poisoned) s = .next (r.bump (ulkCtr (k % 16) 8))) ∧
        (bad = false → r.fld (R.ULK_PORT_STATUS.state (k % 16)) = 2 → r.fld (R.ULK_PORT.max_frame (k % 16)) < d.data.length + 4 →
          exec (.upstreamEgress k poisoned) s = .next (r.bump (ulkCtr (k % 16) 7))) ∧
        (bad = false → r.fld (R.ULK_PORT_STATUS.state (k % 16)) = 2 → d.data.length + 4 ≤ r.fld (R.ULK_PORT.max_frame (k % 16)) →
          exec (.upstreamEgress k poisoned) s
            = .next (((r.bump (ulkCtr (k % 16) 5)).bumpBy (ulkCtr (k % 16) 6) (d.data.length + 4)).emit (.uplink (k % 16) (d.data ++ frameCheck d.data))))) ∧
    (s.fld (R.ULK_PORT_STATUS.state (k % 16)) ≠ 2 → exec (.uplinkFrameRx k rs frame us) s = .next s) ∧
    (∀ u, s.fld (R.ULK_PORT_STATUS.state (k % 16)) = 2 → u = s.countRs (k % 16) rs → u.fld (R.ULK_PORT_STATUS.state (k % 16)) = 2 →
      (u.hubFenced 0 = true → exec (.uplinkFrameRx k rs frame us) s = .next u) ∧
      (u.hubFenced 0 = false → rs.touched = true ∨ frameOk frame = false →
        exec (.uplinkFrameRx k rs frame us) s = .next (u.bump (ulkCtr (k % 16) 2))) ∧
      (u.hubFenced 0 = false → rs.touched = false → frameOk frame = true → frame.length < 64 ∨ u.fld (R.ULK_PORT.max_frame (k % 16)) < frame.length →
        exec (.uplinkFrameRx k rs frame us) s = .next (u.bump (ulkCtr (k % 16) 3))) ∧
      (u.hubFenced 0 = false → rs.touched = false → frameOk frame = true → 64 ≤ frame.length → frame.length ≤ u.fld (R.ULK_PORT.max_frame (k % 16)) →
        (be16 frame 12 = 0x8808 → exec (.uplinkFrameRx k rs frame us) s = .next (u.bump (ulkCtr (k % 16) 4))) ∧
        (be16 frame 12 ≠ 0x8808 →
          exec (.uplinkFrameRx k rs frame us) s
            = .next (((u.bump (ulkCtr (k % 16) 0)).bumpBy (ulkCtr (k % 16) 1) frame.length).classify us
                (frame.take (frame.length - 4)))))) ∧
    (∀ f x, f = flow % 2 ^ 20 → x = s.flowCtx f →
      (x.valid = false ∨ x.enabled = false ∨ x.poisoned = true ∨ x.pir = 0 ∨ s.hubFenced 0 = true →
        exec (.meterRefresh flow us) s = .next s) ∧
      (x.valid = true → x.enabled = true → x.poisoned = false → x.pir ≠ 0 → s.hubFenced 0 = false → memPoison (s.memRead 0 f) 0 f &&& 0xFFFFEE08 = 0 →
        exec (.meterRefresh flow us) s = .next (((s.memRead 0 f).setFlow f (x.fill us)).memWrite 0 f 0xFFF00000))) ∧
    (∀ x : FlowCtx, (x.fill us).tc ≤ x.cbs * 2048 ∧ (x.fill us).tp ≤ x.pbs * 2048 ∧ (x.fill us).stamp = us % 2 ^ 32)

/-- FLOW_CREATE, MODIFY, DISABLE, READ and BULK_LOAD are refused by the first broken row of Table 11-2, else done.
It concludes exec = next, under conditions on the state and the operands alone, for: FLOW_CREATE, FLOW_MODIFY, FLOW_DISABLE, FLOW_READ, FLOW_BULK_LOAD. -/
def Obligations.FlowCommandsFollowTheirChecks : Prop :=
  ∀ (s t : State) (iss : Issue) (op0 op1 us f : Nat) (img : List Byte), waitsInRing s iss = false → t = s.startCmd iss → f = bitsOf op0 19 0 →
    (t.hubFenced 0 = true → Named iss [(op0, 0xFFFFF)] →
      exec (.flowCreate iss op0 img us) s = .next (t.refuse iss 0x1E) ∧ exec (.flowModify iss op0 img) s = .next (t.refuse iss 0x1E) ∧
      exec (.flowRead iss op0) s = .next (t.refuse iss 0x1E)) ∧
    (t.hubFenced 0 = false → Named iss [(op0, 0xFFFFF)] →
      (∀ r, flowCheck t iss.fn f true (FlowCtx.blank.over img) (imgReservedOk img) = some r →
        exec (.flowCreate iss op0 img us) s = .next (t.refuse iss r)) ∧
      (∀ x, flowCheck t iss.fn f true (FlowCtx.blank.over img) (imgReservedOk img) = none →
        x = { FlowCtx.blank.over img with valid := true, poisoned := false, sdus := 0, bytes := 0, redDrops := 0, poisonDrops := 0 } →
        ∀ u, u = ((t.setFlow f (x.full us)).memWrite 0 f allBytes).memWrite 3 f allBytes →
        (x.keyValid = true → exec (.flowCreate iss op0 img us) s = .next ((u.setClass x.key (2 ^ 31 + f)).succeed iss 0 0)) ∧
        (x.keyValid = false → exec (.flowCreate iss op0 img us) s = .next (u.succeed iss 0 0))) ∧
      (∀ r, flowCheck t iss.fn f false ((t.flowCtx f).over img) (imgReservedOk img) = some r →
        exec (.flowModify iss op0 img) s = .next (t.refuse iss r)) ∧
      (∀ x y u v, flowCheck t iss.fn f false ((t.flowCtx f).over img) (imgReservedOk img) = none → x = (t.flowCtx f).over img →
        y = { x with tc := min x.tc (x.cbs * 2048), tp := min x.tp (x.pbs * 2048) } →
        u = ((t.setFlow f y).memWrite 0 f 0xFFFFF).memWrite 3 f 0xF00000FF →
        ((t.flowCtx f).keyValid = x.keyValid → (t.flowCtx f).key = x.key →
          exec (.flowModify iss op0 img) s = .next (u.succeed iss 0 0)) ∧
        ((t.flowCtx f).keyValid ≠ x.keyValid ∨ (t.flowCtx f).key ≠ x.key →
          v = (if (t.flowCtx f).keyValid = true then u.setClass (t.flowCtx f).key 0 else u) →
          exec (.flowModify iss op0 img) s = .next ((if x.keyValid = true then v.setClass x.key (2 ^ 31 + f) else v).succeed iss 0 0))) ∧
      (f = 0xFFFFF → exec (.flowRead iss op0) s = .next (t.refuse iss 0x14)) ∧
      (f ≠ 0xFFFFF → iss.fn ≠ 0 → (t.flowCtx f).valid = true → (t.flowCtx f).port ≠ iss.fn - 1 →
        exec (.flowRead iss op0) s = .next (t.refuse iss 0x17)) ∧
      (f ≠ 0xFFFFF → iss.fn = 0 ∨ (t.flowCtx f).valid = false ∨ (t.flowCtx f).port = iss.fn - 1 →
        (t.hubFenced 1 = false → ∀ r, r = (t.memRead 0 f).lpRead f →
          exec (.flowRead iss op0) s
            = .next ((r.toHost iss.fn (.buffer iss.fn iss.tag (maskPoison ((t.flowCtx f).image.take 32) (memPoison r 0 f)
                ++ maskPoison ((t.flowCtx f).image.drop 32) (memPoison r 3 f)))).complete iss
                { Result.ok 0 0 with poison := memPoison r 0 f ≠ 0 || memPoison r 3 f ≠ 0 })) ∧
        (t.hubFenced 1 = true → ∀ r, r = t.memRead 0 f →
          exec (.flowRead iss op0) s
            = .next ((r.toHost iss.fn (.buffer iss.fn iss.tag (maskPoison ((t.flowCtx f).image.take 32) (memPoison r 0 f)
                ++ maskPoison ((t.flowCtx f).image.drop 32) allBytes))).complete iss { Result.ok 0 0 with poison := true })))) ∧
    (t.hubFenced 0 = false → Named iss [(op0, 0x800FFFFF)] →
      (f = 0xFFFFF → exec (.flowDisable iss op0) s = .next (t.refuse iss 0x14)) ∧
      (f ≠ 0xFFFFF → (t.flowCtx f).valid = false → exec (.flowDisable iss op0) s = .next (t.refuse iss 0x16)) ∧
      (f ≠ 0xFFFFF → (t.flowCtx f).valid = true → iss.fn ≠ 0 → (t.flowCtx f).port ≠ iss.fn - 1 →
        exec (.flowDisable iss op0) s = .next (t.refuse iss 0x17)) ∧
      (f ≠ 0xFFFFF → (t.flowCtx f).valid = true → iss.fn = 0 ∨ (t.flowCtx f).port = iss.fn - 1 →
        (bitAt op0 31 = false →
          exec (.flowDisable iss op0) s
            = .next (((t.setFlow f { t.flowCtx f with enabled := false, valid := true }).memWrite 0 f 8).succeed iss 0 0)) ∧
        (bitAt op0 31 = true → t.hubFenced 1 = true → exec (.flowDisable iss op0) s = .next (t.refuse iss 0x1E)) ∧
        (∀ u, bitAt op0 31 = true → t.hubFenced 1 = false →
          u = (t.setFlow f { t.flowCtx f with enabled := false, valid := false }).memWrite 0 f 8 →
          exec (.flowDisable iss op0) s
            = .next ((if (t.flowCtx f).keyValid = true then u.setClass (t.flowCtx f).key 0 else u).succeed iss 0 0)))) ∧
    (t.hubFenced 0 = false → Named iss [(op0, 0xFFFFF), (op1, 0x3FF)] →
      (bitsOf op1 9 0 = 0 → exec (.flowBulkLoad iss op0 op1 img us) s = .next (t.refuse iss 0x10)) ∧
      (bitsOf op1 9 0 ≠ 0 → img.length ≠ 64 * bitsOf op1 9 0 → exec (.flowBulkLoad iss op0 op1 img us) s = .next (t.refuse iss 0x1D)) ∧
      (∀ u n, bitsOf op1 9 0 ≠ 0 → img.length = 64 * bitsOf op1 9 0 →
        (t.bulkLoad iss.fn us f ((List.range (bitsOf op1 9 0)).map (fun i => (img.drop (64 * i)).take 64)) 0 = (u, n, none) →
          exec (.flowBulkLoad iss op0 op1 img us) s = .next (u.succeed iss n 0)) ∧
        (∀ r, t.bulkLoad iss.fn us f ((List.range (bitsOf op1 9 0)).map (fun i => (img.drop (64 * i)).take 64)) 0 = (u, n, some r) →
          exec (.flowBulkLoad iss op0 op1 img us) s = .next ((u.pulse 0x1102 0).succeed iss n r)))) ∧
    (∀ l n g u m r, t.bulkLoad iss.fn us g l n = (u, m, r) → n ≤ m ∧ m ≤ n + l.length ∧ (r = none ↔ m = n + l.length))

/-- A serial number response admits or ranges an ONU, its registration ends ranging, and rng_tries without one fail it.
It concludes exec = next, under conditions on the state and the operands alone, for: SERIAL_NUMBER_RESPONSE, REGISTRATION, RANGING_FAILED. -/
def Obligations.DiscoveryAndRanging : Prop :=
  ∀ (s : State) (p : Port) (entry tick resp slot : Nat) (m : UpPloam),
    (rxMessage s p entry tick resp = none → exec (.serialNumberResponse p entry tick resp m.msg ⟨m.seq, m.mic⟩) s = .next s) ∧
    (rxHead s p entry tick = none → exec (.registration p entry tick m.msg ⟨m.seq, m.mic⟩) s = .next s) ∧
    (∀ e b late lo hi rtd, rxMessage s p entry tick resp = some (e, b) → isDisc e = true → m.msg.type = 0x03 → micPasses s p m = true →
      roleRefuses s p = false → s.g50 p = false → lo = s.govOf tick (R.ONU_RTD_MIN.rtd p) → hi = s.govOf tick (R.ONU_RTD_MAX.rtd p) →
      late = (arrivalOf s p e b : Int)
        - (64 * (e.start + ploamField m.msg 12 2) + (s.profileOf p tick e.profile).guard + (s.profileOf p tick e.profile).pre : Nat) →
      rtd = lo + late.toNat →
      (late < 0 ∨ (hi : Int) - lo < late →
        exec (.serialNumberResponse p entry tick resp m.msg ⟨m.seq, m.mic⟩) s = .next ((s.bumpP p 0xB1).pulseP p 0x83 0)) ∧
      (0 ≤ late → late ≤ (hi : Int) - lo →
        (∀ c x t, (s.port p).onu.ctx.find? (fun x => x.2.st ≠ .free && x.2.serial == ploamField m.msg 4 8) = some (c, x) →
          s.useCtx p c = (t, true) →
          exec (.serialNumberResponse p entry tick resp m.msg ⟨m.seq, m.mic⟩) s
            = .next ((((t.modCtx p c (fun y => { y with caps := ploamField m.msg 14 1 })).bumpP p 0xB0).bumpP p 0xB5).startRanging p c rtd
                (12048384 - rtd) (match x.st with
                  | .admitted => .admitted
                  | .ranging => x.origin
                  | _ => .returning))) ∧
        ((s.port p).onu.ctx.find? (fun x => x.2.st ≠ .free && x.2.serial == ploamField m.msg 4 8) = none →
          (s.govOf tick (R.ONU_ACT_CTL.auto_admit p) = 0 → exec (.serialNumberResponse p entry tick resp m.msg ⟨m.seq, m.mic⟩) s = .next s) ∧
          (∀ c onu, s.govOf tick (R.ONU_ACT_CTL.auto_admit p) ≠ 0 → freeSlot s p = some c → freeOnuId s p = some onu →
            exec (.serialNumberResponse p entry tick resp m.msg ⟨m.seq, m.mic⟩) s
              = .next (((s.createCtx p c onu (ploamField m.msg 4 8) (ploamField m.msg 14 1) (some b.gain) .created).bumpP p
                  0xB0).startRanging p c rtd (12048384 - rtd) .created)) ∧
          (s.govOf tick (R.ONU_ACT_CTL.auto_admit p) ≠ 0 → freeSlot s p = none →
            exec (.serialNumberResponse p entry tick resp m.msg ⟨m.seq, m.mic⟩) s = .next ((s.bumpP p 0xB2).pulseP p 0x84 0))))) ∧
    (∀ e c t x off, rxHead s p entry tick = some e → isDisc e = false → m.msg.type = 0x06 → e.ploamu = true → micPasses s p m = true →
      roleRefuses s p = false → s.g50 p = false → s.slotOf p m.msg.onu = some c →
      (s.allocOwner p e.alloc).map Prod.fst = some c → (s.ctx p c).st = .ranging → (s.ctx p c).serial = ploamField m.msg 4 8 →
      s.useCtx p c = (t, true) → off = offsetOf t p entry tick →
      x = (t.dropCore p (t.ctx p c).onuId [0x04]).modCtx p c (fun y => { y with
        eqd := codeOf 24 (y.eqd - off), rtd := codeOf 24 (y.rtd + off), driftSum := 0, driftN := 0, driftFrom := never }) →
      ∀ z : State, z = x.sendRangingTime p (x.ctx p c) →
      (z.gov (R.ONU_ACT_CTL.train_on_act p) = 1 → bitAt (z.ctx p c).caps 0 = true →
        exec (.registration p entry tick m.msg ⟨m.seq, m.mic⟩) s = .next (z.startTraining p c false)) ∧
      (z.gov (R.ONU_ACT_CTL.train_on_act p) ≠ 1 ∨ bitAt (z.ctx p c).caps 0 = false →
        exec (.registration p entry tick m.msg ⟨m.seq, m.mic⟩) s = .next (z.enterOnu p c .operation))) ∧
    (∀ b, (s.port p).rake.bursts.find? (fun b => b.entry == entry && b.tick == tick) = some b → offsetOf s p entry tick = b.offset) ∧
    ((s.ctx p (slot % 256)).st ≠ .ranging ∨ activates s p = false ∨
        (s.ctx p (slot % 256)).rngTried < s.gov (R.ONU_TIMERS.rng_tries p) ∨ s.tick ≤ (s.ctx p (slot % 256)).rngLast →
      exec (.rangingFailed p slot) s = .next s) ∧
    (∀ c x t z, c = slot % 256 → x = s.ctx p c → x.st = .ranging → activates s p = true → s.gov (R.ONU_TIMERS.rng_tries p) ≤ x.rngTried →
      x.rngLast < s.tick → s.useCtx p c = (t, true) → z = (t.bumpP p 0xB3).pulseP p 0x86 0 →
      exec (.rangingFailed p slot) s = .next (match x.origin with
        | .created => (z.freeCtx p c).sendDeactivate p x.onuId 2
        | .returning => z.startDormant p c (some 2)
        | .admitted => ((z.dropCore p x.onuId [0x04]).enterOnu p c .admitted).sendDeactivate p x.onuId 2))

/-- Training ends by its report, missed bursts lead to ABSENT and then DORMANT, and drift corrects EqD.
It concludes exec = next, under conditions on the state and the operands alone, for: TRAIN_REQUEST_END, MISS_MAX_REACHED, ABSENT_TIMEOUT, DRIFT_CORRECTION. -/
def Obligations.TrainingAbsenceAndDrift : Prop :=
  ∀ (s : State) (p : Port) (slot c : Nat) (x : OnuCtx) (t : State), c = slot % 256 → x = s.ctx p c → s.useCtx p c = (t, true) →
    (x.st ≠ .training ∨ x.trainSent = false ∨ activates s p = false ∨ (x.report = none ∧ s.tick < x.trainUntil) →
      exec (.trainRequestEnd p slot) s = .next s) ∧
    (x.st = .training → x.trainSent = true → activates s p = true →
      (∀ r a, x.report = some r → a = (t.sendTrainResult p x (if r.converged then 0 else 1) r.errMean r.used).modCtx p c (fun y => { y with
          unans := 0, ncRun := if r.converged then 0 else min (x.ncRun + 1) 255, trainSent := false, report := none }) →
        (r.converged = true → exec (.trainRequestEnd p slot) s = .next (a.enterOnu p c .operation)) ∧
        (r.converged = false → a.gov (R.ONU_TRACK.nc_max p) ≤ min (x.ncRun + 1) 255 →
          exec (.trainRequestEnd p slot) s = .next ((a.enterOnu p c .operation).pulseP p 0x85 0)) ∧
        (r.converged = false → min (x.ncRun + 1) 255 < a.gov (R.ONU_TRACK.nc_max p) →
          exec (.trainRequestEnd p slot) s = .next (a.issueRequest p c))) ∧
      (x.report = none → x.trainUntil ≤ s.tick →
        (x.trainGot = true → exec (.trainRequestEnd p slot) s = .next ((t.modCtx p c (fun y => { y with unans := 0 })).issueRequest p c)) ∧
        (x.trainGot = false → x.trainIssued = true → exec (.trainRequestEnd p slot) s = .next (t.unanswered p c)) ∧
        (x.trainGot = false → x.trainIssued = false → exec (.trainRequestEnd p slot) s = .next (t.issueRequest p c)))) ∧
    (x.st ≠ .operation ∨ activates s p = false ∨ x.missRun < s.gov (R.ONU_TIMERS.miss_max p) →
      exec (.missMaxReached p slot) s = .next s) ∧
    (x.st = .operation → activates s p = true → s.gov (R.ONU_TIMERS.miss_max p) ≤ x.missRun →
      exec (.missMaxReached p slot) s = .next (t.startAbsent p c)) ∧
    (x.st ≠ .absent ∨ activates s p = false ∨ x.absentLeft ≠ 0 → exec (.absentTimeout p slot) s = .next s) ∧
    (x.st = .absent → activates s p = true → x.absentLeft = 0 → exec (.absentTimeout p slot) s = .next (t.startDormant p c (some 1))) ∧
    ((x.st ≠ .operation ∧ x.st ≠ .training) ∨ x.driftN < 2 ^ s.gov (R.ONU_TRACK.drift_avg p) ∨ s.g50 p = true ∨ roleRefuses s p = true ∨
        s.fenced p = true → exec (.driftCorrection p slot) s = .next s) ∧
    (x.st = .operation ∨ x.st = .training → 2 ^ s.gov (R.ONU_TRACK.drift_avg p) ≤ x.driftN → s.g50 p = false → roleRefuses s p = false →
      s.fenced p = false → ∀ a : State, ∀ m : Int, m = roundDiv 1 x.driftSum x.driftN →
      a = t.modCtx p c (fun y => { y with driftSum := 0, driftN := 0 }) →
      (m.natAbs < a.gov (R.ONU_TRACK.drift_thresh p) → exec (.driftCorrection p slot) s = .next a) ∧
      (a.gov (R.ONU_TRACK.drift_thresh p) ≤ m.natAbs → (x.eqd : Int) < m → exec (.driftCorrection p slot) s = .next (a.pulseP p 0x83 0)) ∧
      (a.gov (R.ONU_TRACK.drift_thresh p) ≤ m.natAbs → m ≤ x.eqd →
        ∀ b : State, b = a.modCtx p c (fun y => { y with eqd := codeOf 24 (y.eqd - m), driftFrom := never }) →
        exec (.driftCorrection p slot) s = .next ((b.sendRangingTime p (b.ctx p c)).bumpP p 0xB6)))

/-- ONU_ADMIT, ONU_REMOVE and TRAIN_START act on the context of an ONU-ID; ALLOC_SET and ALLOC_CLEAR wait for the tick.
It concludes exec = next, under conditions on the state and the operands alone, for: ONU_ADMIT, ONU_ADMIT_G50, ONU_REMOVE, TRAIN_START, ALLOC_SET, ALLOC_CLEAR. -/
def Obligations.ActivationAndAllocationCommands : Prop :=
  ∀ (s : State) (iss : Issue) (op0 op1 op2 op3 op4 : Nat) (t : State) (p : Port), t = s.startCmd iss → p = iss.port → roleRefuses t p = false →
    (t.flag R.RST_STATUS.fw_running = false → Starts s iss p [(op0, 0x3FF)] →
      exec (.onuRemove iss op0) s = .next (t.refuse iss 0x2A) ∧ exec (.trainStart iss op0) s = .next (t.refuse iss 0x2A)) ∧
    (t.flag R.RST_STATUS.fw_running = true → t.fw.actAt = none →
      (bitAt op0 31 = false → Starts s iss p [(op0, 0x800003FF), (op3, 0)] →
        (freeSlot t p = none → exec (.onuAdmit iss op0 op1 op2 op3) s = .next (t.refuse iss 0x0A)) ∧
        (∀ c, freeSlot t p = some c →
          (bitsOf op0 9 0 = 1023 ∨ t.slotOf p (bitsOf op0 9 0) ≠ none →
            exec (.onuAdmit iss op0 op1 op2 op3) s = .next (t.refuse iss 0x0B)) ∧
          (bitsOf op0 9 0 ≠ 1023 → t.slotOf p (bitsOf op0 9 0) = none →
            (t.port p).onu.ctx.any (fun e => e.2.st ≠ .free && e.2.serial == op1 % 2 ^ 32 * 2 ^ 32 + op2 % 2 ^ 32) = true →
            exec (.onuAdmit iss op0 op1 op2 op3) s = .next (t.refuse iss 0x0C)) ∧
          (bitsOf op0 9 0 ≠ 1023 → t.slotOf p (bitsOf op0 9 0) = none →
            (t.port p).onu.ctx.any (fun e => e.2.st ≠ .free && e.2.serial == op1 % 2 ^ 32 * 2 ^ 32 + op2 % 2 ^ 32) = false →
            exec (.onuAdmit iss op0 op1 op2 op3) s
              = .next ((t.createCtx p c (bitsOf op0 9 0) (op1 % 2 ^ 32 * 2 ^ 32 + op2 % 2 ^ 32) 0 none .admitted).succeed iss 0 0)))) ∧
      (bitAt op0 31 = true → Starts s iss p [(op0, 0x800003FF), (op3, 0xFFFFFF)] →
        (t.slotOf p (bitsOf op0 9 0) = none → exec (.onuAdmitG50 iss op0 op1 op2 op3) s = .next (t.refuse iss 0x02)) ∧
        (∀ c, t.slotOf p (bitsOf op0 9 0) = some c →
          ∀ u, u = (t.useCtx p c).1 →
          ((u.ctx p c).serial ≠ op1 % 2 ^ 32 * 2 ^ 32 + op2 % 2 ^ 32 →
            exec (.onuAdmitG50 iss op0 op1 op2 op3) s = .next (u.refuse iss 0x0C)) ∧
          ((u.ctx p c).serial = op1 % 2 ^ 32 * 2 ^ 32 + op2 % 2 ^ 32 → (u.ctx p c).st ≠ .admitted ∨ u.g50 p = false →
            exec (.onuAdmitG50 iss op0 op1 op2 op3) s = .next (u.refuse iss 0x0D)) ∧
          ((u.ctx p c).serial = op1 % 2 ^ 32 * 2 ^ 32 + op2 % 2 ^ 32 → (u.ctx p c).st = .admitted → u.g50 p = true →
            exec (.onuAdmitG50 iss op0 op1 op2 op3) s
              = .next (((u.modCtx p c (fun x => { x with eqd := bitsOf op3 23 0 })).enterOnu p c .operation).succeed iss 0 0)))) ∧
      (Starts s iss p [(op0, 0x3FF)] →
        (t.slotOf p (bitsOf op0 9 0) = none →
          exec (.onuRemove iss op0) s = .next (t.refuse iss 0x02) ∧ exec (.trainStart iss op0) s = .next (t.refuse iss 0x02)) ∧
        (∀ c, t.slotOf p (bitsOf op0 9 0) = some c →
          ∀ u, u = (t.useCtx p c).1 →
          exec (.onuRemove iss op0) s = .next (((u.freeCtx p c).sendDeactivate p (u.ctx p c).onuId 0).succeed iss 0 0) ∧
          ((u.ctx p c).st = .operation → u.g50 p = false →
            exec (.trainStart iss op0) s = .next ((u.startTraining p c true).succeed iss 0 0)) ∧
          ((u.ctx p c).st ≠ .operation ∨ u.g50 p = true → exec (.trainStart iss op0) s = .next (u.refuse iss 0x0D))))) ∧
    (Starts s iss p [(op0, 0x3FFFFFFF), (op1, 0xFFFFFF), (op2, 0x3FFFF), (op3, 0x3FFFF), (op4, 0x3FFFF)] →
      exec (.allocSet iss op0 op1 op2 op3 op4) s = .next (t.modDba p (fun d => { d with
        cmds := d.cmds ++ [.set iss (bitsOf op0 9 0) (bitsOf op0 13 10) {
          alloc := bitsOf op0 25 14, rpt := bitAt op0 29, profile := bitsOf op0 28 26, period := bitsOf op1 7 0,
          phase := bitsOf op1 15 8, fixed := bitsOf op2 17 0, assured := bitsOf op3 17 0, peak := bitsOf op4 17 0,
          weight := bitsOf op1 23 16 }] }))) ∧
    (Starts s iss p [(op0, 0x3FFF)] →
      exec (.allocClear iss op0) s = .next (t.modDba p (fun d => { d with
        cmds := d.cmds ++ [.clear iss (bitsOf op0 9 0) (bitsOf op0 13 10)] })))

/-- A pass commits its map, a missed deadline the windows alone; the Rake takes blocks in order and writes back once a frame.
It concludes exec = next, under conditions on the state and the operands alone, for: MAP_COMMIT, DBA_DEADLINE_MISS, RAKE_BLOCK, RAKE_WRITEBACK. -/
def Obligations.MapsAreCommittedAndTheRakeAdapts : Prop :=
  ∀ (s : State) (p : Port) (us onu : Nat) (blk : RakeBlock),
    ((s.port p).dba.draft = none → exec (.mapCommit p us) s = .next s ∧ exec (.dbaDeadlineMiss p) s = .next s) ∧
    (∀ d0 d, (s.port p).dba.draft = some d0 → d = (if s.fenced p = true then d0.fenced (s.port p).onu.deferred else d0) →
      (∀ a b c : State, a = s.commitWindows p d d.map → b = (if d.normal = true then a.commitRecords p d else a.passFrame p false) →
        c = ((b.countEach p d.clipped 0xC3 0x91).countEach p d.dropped 0xC4 0x92).bumpBy (portCtr p 0xC6) d.polls →
        ∀ e : State, e = d.owed.foldl (fun s _ => s.pulseP p 0x93 0) (c.bumpBy (portCtr p 0xC7) d.ploams) →
        (∀ z, z = e.modProt p (fun q => { q with ploamTurn := d.light.getD q.ploamTurn }) →
          exec (.mapCommit p us) s = .next (z.commitMap p d d.map us))) ∧
      exec (.dbaDeadlineMiss p) s = .next ((((((s.nextOpen.commitWindows p d d.windows).passFrame p d.normal).bumpP p 0xC5).pulseP p 0x90 0)).commitMap
        p d d.windows (s.openNat % 128)) ∧
      (s.fenced p = true → d.map.entries = [] ∧ d.map.cal = d0.calDue)) ∧
    (∀ (t : State) d m, (t.port p).prot.role ≠ .active →
      t.commitMap p d m us = (((((((t.bumpP p 0xC0).bumpBy (portCtr p 0xC1) m.entries.length).bumpBy (portCtr p 0xC2)
        ((m.entries.filter (fun e => !isDisc e)).map MapEntry.slots).sum).setFld (R.DBA_STATUS.entries p) m.entries.length).setFld
        (R.DBA_STATUS.pass_us p) (min us 127)).modDba p (fun x => { x with draft := none })).installMap p d.gov m)) ∧
    (rakeBurst s p blk.entry blk.tick = none → exec (.rakeBlock p blk) s = .next s) ∧
    (∀ b, rakeBurst s p blk.entry blk.tick = some b →
      (s.fenced p = true ∨ s.inReset p = true ∨ s.receiving p = false ∨ wholeBlocks s p b ≤ blk.index ∨ 64 ≤ (s.port p).rake.buffer.length →
        exec (.rakeBlock p blk) s = .next s) ∧
      (s.fenced p = false → s.inReset p = false → s.receiving p = true → blk.index < wholeBlocks s p b → (s.port p).rake.buffer.length < 64 →
        ∀ h : HeldBlock, h = { entry := b.entry, tick := b.tick, onu := b.onu, index := blk.index,
                               words := rxWords s p (b.start + 4096 * (burstProfile s p b).sym * blk.index + 49) blk.codes } →
        exec (.rakeBlock p blk) s = .next (((s.memWrite (dieSpace p) (dieWord p 8 (4096 * h.entry + h.index)) allBytes).modRake p
          (fun k => { k with buffer := k.buffer ++ [h] })).drainRake p))) ∧
    (∀ h : HeldBlock, s.receiving p = true → (s.port p).rake.buffer = [h] →
      (blockReady s p h = none → s.drainRake p = s.modRake p (fun k => { k with buffer := [h] })) ∧
      (∀ ex, blockReady s p h = some ex → s.drainRake p = (s.rakeDone p h ex).modRake p (fun k => { k with buffer := [] }))) ∧
    (∀ (h : HeldBlock) ex, (rakeBurst s p h.entry h.tick = none → s.rakeDone p h ex = s) ∧
      (∀ b, rakeBurst s p h.entry h.tick = some b →
        (considered s p b h.index = false → b.train = false → s.rakeDone p h ex = s) ∧
        (∀ x, considered s p b h.index = true → b.staged = some x → b.train = false → ∀ w u, w = 4096 * h.entry + h.index →
          u = (s.useDie p 8 w 8).rakeAdapt p b x (ex || dieBad s p 8 w) h → (∀ y, rakeBurst u p h.entry h.tick = some y → y.train = false) →
          s.rakeDone p h ex = u) ∧
        (considered s p b h.index = false → b.train = true → h.index + 1 = wholeBlocks s p b → b.judged = false →
          s.rakeDone p h ex = s.judge p b (wholeBlocks s p b)))) ∧
    (∀ mine : RakeBurst → Bool, mine = (fun b => b.onu == onu && writesBack s p b) →
      ((s.port p).rake.bursts.find? (fun b => mine b && decide (b.tick < s.tick)) = none → exec (.rakeWriteback p onu) s = .next s) ∧
      (∀ b own h (t : State), (s.port p).rake.bursts.find? (fun b => mine b && decide (b.tick < s.tick)) = some b →
        own = (Tab.find (s.port p).rake.closed onu).filter (fun r => r.frame == b.tick) →
        h = own.getD (match Tab.find (s.port p).rake.running onu with
          | some r => if r.frame = b.tick then r else r.fresh b.tick
          | none => Running.start (trainBase s p b) b.tick) →
        t = s.modRake p (fun k => { k with
          bursts := k.bursts.filter (fun x => !(mine x && x.tick == b.tick)), closed := if own.isSome = true then Tab.del k.closed onu else k.closed,
          running := k.running.map (fun e => if e.1 = onu ∧ e.2.frame = b.tick then (e.1, e.2.fresh b.tick) else e) }) →
        (t.fenced p = true ∨ t.inReset p = true ∨ t.receiving p = false →
          exec (.rakeWriteback p onu) s = .next ((t.bumpP p 0x61).lastWb p onu 2 false h 0)) ∧
        (t.fenced p = false → t.inReset p = false → t.receiving p = true →
          (t.slotOf p onu = none →
            exec (.rakeWriteback p onu) s = .next (((t.bumpP p 0x61).pulseP p 0x40 0).lastWb p onu 1 false h 0)) ∧
          (∀ c w u, t.slotOf p onu = some c → w = presetWord p c false → u = t.memRead 0 w →
            (memPoison u 0 w &&& 2 ^ 6 ≠ 0 →
              exec (.rakeWriteback p onu) s
                = .next ((((u.consumePoison 0 w 5).fencePort p [0x06]).bumpP p 0x61).lastWb p onu 2 false h 0)) ∧
            (memPoison u 0 w &&& 2 ^ 6 = 0 → (u.ctx p c).work.gen ≠ h.gen →
              exec (.rakeWriteback p onu) s = .next (((u.bumpP p 0x61).pulseP p 0x40 0).lastWb p onu 1 false h 0)) ∧
            (memPoison u 0 w &&& 2 ^ 6 = 0 → (u.ctx p c).work.gen = h.gen →
              exec (.rakeWriteback p onu) s
                = .next (u.applyWb p c (trainBase s p b) h ((u.fc + 2 ^ 51 - (u.tick - b.tick)) % 2 ^ 51)
                    (((s.port p).rake.bursts.filter (fun x => mine x && x.tick == b.tick)).any (fun x => x.failed))))))))

/-- PRESET_WRITE, PRESET_ANCHOR and PRESET_RESTORE act on the working preset and the anchor of an ONU-ID.
It concludes exec = next, under conditions on the state and the operands alone, for: PRESET_WRITE, PRESET_ANCHOR, PRESET_RESTORE. -/
def Obligations.PresetCommandsSetTheRecords : Prop :=
  ∀ (s : State) (iss : Issue) (op0 : Nat) (rec' : List Byte) (t : State) (p : Port), t = s.startCmd iss → p = iss.port →
    (Starts s iss p [(op0, 0x303FF)] → bitsOf op0 9 0 = 1023 ∨ t.slotOf p (bitsOf op0 9 0) = none →
      exec (.presetWrite iss op0 rec') s = .next (t.refuse iss (Config.presetReason 0).toNat)) ∧
    (∀ c, bitsOf op0 9 0 ≠ 1023 → t.slotOf p (bitsOf op0 9 0) = some c →
      (Starts s iss p [(op0, 0x303FF)] →
        (bitsOf op0 17 16 = 0 → exec (.presetWrite iss op0 rec') s = .next (t.refuse iss 0x10)) ∧
        (bitsOf op0 17 16 ≠ 0 → recordOk rec' = false →
          exec (.presetWrite iss op0 rec') s = .next (t.refuse iss (Config.presetReason 1).toNat)) ∧
        (recordOk rec' = true →
          (bitsOf op0 17 16 = 1 → exec (.presetWrite iss op0 rec') s = .next (((t.modCtx p c (fun x =>
            ({ x with work := presetFrom rec' x.work } : OnuCtx).nextGen)).memWriteWords 0 (presetWord p c false) 4).succeed iss 0 0)) ∧
          (bitsOf op0 17 16 = 2 → exec (.presetWrite iss op0 rec') s = .next (((t.modCtx p c (fun x =>
            ({ x with anchor := presetFrom rec' x.anchor } : OnuCtx).nextGen)).memWriteWords 0 (presetWord p c true) 4).succeed iss 0 0)) ∧
          (bitsOf op0 17 16 = 3 → exec (.presetWrite iss op0 rec') s = .next ((((t.modCtx p c (fun x =>
            ({ x with work := presetFrom rec' x.work, anchor := presetFrom rec' x.anchor } : OnuCtx).nextGen)).memWriteWords 0
            (presetWord p c false) 4).memWriteWords 0 (presetWord p c true) 4).succeed iss 0 0)))) ∧
      (Starts s iss p [(op0, 0x3FF)] →
        ((t.ctx p c).work.valid = true →
          exec (.presetAnchor iss op0) s = .next (((t.modCtx p c (fun x =>
            ({ x with anchor := x.work } : OnuCtx).nextGen)).copyPreset p c false).succeed iss 0 0)) ∧
        ((t.ctx p c).work.valid = false → exec (.presetAnchor iss op0) s = .next (t.refuse iss (Config.presetReason 2).toNat)) ∧
        ((t.ctx p c).anchor.valid = true →
          exec (.presetRestore iss op0) s = .next (((t.modCtx p c (fun x =>
            ({ x with work := { x.anchor with gen := x.work.gen, anchorRun := 0 } } : OnuCtx).nextGen)).copyPreset p c true).succeed iss 0 0)) ∧
        ((t.ctx p c).anchor.valid = false → exec (.presetRestore iss op0) s = .next (t.refuse iss (Config.presetReason 2).toNat)))) ∧
    (∀ x : OnuCtx, x.nextGen.work.gen = (x.work.gen + 1) % 256 ∧ x.nextGen.work.wbCount = 0 ∧ x.nextGen.anchor = x.anchor)

/-- Housekeeping conversions start in the order of Rule R451, a marker aborts or waits or is dropped, and a result takes its code and its places.
It concludes exec = next, under conditions on the state and the operands alone, for: HKA_DATA_READ, HKA_SW_TRIG, HKA_MARKER, HKA_CONVERSION_DONE. -/
def Obligations.HousekeepingConversionsFollowTheirTriggers : Prop :=
  ∀ (s : State) (d : Nat), d < 3 →
    (∀ src v t, Reaches s src (R.HKA_CTL.addr d) →
      t = (s.setFld (R.HKA_CTL.en d) (bitsOf v 31 31)).setFld (R.HKA_CTL.align d) (bitsOf v 0 0) →
      (bitAt v 30 = false → exec (.hkaSwTrig src d v) s = .next (t.hkaStart d)) ∧
      (bitAt v 30 = true → ((t.conv d).swRun ≠ [] ∨ (∃ c, (t.conv d).cur = some c ∧ c.kind = .software) ∨
          (∃ c, (t.conv d).aborted = some c ∧ c.kind = .software)) → exec (.hkaSwTrig src d v) s = .next ((t.bump (0x2918 + d)).hkaStart d)) ∧
      (bitAt v 30 = true → (t.conv d).swRun = [] → (∀ c, (t.conv d).cur = some c → c.kind ≠ .software) →
        (∀ c, (t.conv d).aborted = some c → c.kind ≠ .software) →
        exec (.hkaSwTrig src d v) s
          = .next ((t.setConv d { t.conv d with swRun := (List.range 32).filter (fun e => t.fld (R.HKA_ENTRY.trigger d e) == 2) }).hkaStart d))) ∧
    (s.flag (R.HKA_CTL.en d) = true → s.flag (R.HKA_STATUS.die_lost d) = false → (s.conv d).cur = none → ∀ x, x = s.conv d →
      (∀ m l, x.markers = m :: l →
        s.hkaStart d = s.setConv d { x with cur := some (entryConv s d m.entry .marker m.port m.onu m.fc), markers := l }) ∧
      (∀ a, x.markers = [] → x.aborted = some a → s.hkaStart d = s.setConv d { x with cur := some a, aborted := none }) ∧
      (∀ i l, x.markers = [] → x.aborted = none → x.thermal = i :: l →
        ∃ c, c.kind = .thermal ∧ c.input = i ∧ c.toData = false ∧ s.hkaStart d = s.setConv d { x with cur := some c, thermal := l }) ∧
      (∀ e l, x.markers = [] → x.aborted = none → x.thermal = [] → x.tickRun = e :: l →
        s.hkaStart d = s.setConv d { x with cur := some (entryConv s d e .tick 0 0 0), tickRun := l }) ∧
      (∀ e l, x.markers = [] → x.aborted = none → x.thermal = [] → x.tickRun = [] → x.swRun = e :: l →
        s.hkaStart d = s.setConv d { x with cur := some (entryConv s d e .software 0 0 0), swRun := l }) ∧
      (x.markers = [] → x.aborted = none → x.thermal = [] → x.tickRun = [] → x.swRun = [] → s.hkaStart d = s.setConv d x)) ∧
    (∀ (p : Port) (onu fc : Nat), p.val / 4 = d → ∀ mine, mine = (List.range 32).filter (fun e =>
        s.fld (R.HKA_ENTRY.trigger d e) == 3 && s.fld (R.HKA_ENTRY.mport d e) == p.val % 4) →
      ∀ drop, drop = (s.bump (0x2900 + 8 * d + 4)).pulse 0x1064 p.val →
      (mine = [] ∨ s.flag (R.HKA_CTL.en d) = false ∨ s.flag (R.HKA_STATUS.die_lost d) = true → exec (.hkaMarker p onu fc) s = .next drop) ∧
      (∀ e l m, mine = e :: l → m = entryConv s d e .marker p onu (fc % 2 ^ 16) →
        s.flag (R.HKA_CTL.en d) = true → s.flag (R.HKA_STATUS.die_lost d) = false →
        ((s.conv d).cur = none → exec (.hkaMarker p onu fc) s
          = .next ((s.setConv d { s.conv d with markers := (s.conv d).markers ++ [m] }).hkaStart d)) ∧
        (∀ c, (s.conv d).cur = some c → c.kind = .marker → (s.conv d).markers.length < 4 →
          exec (.hkaMarker p onu fc) s = .next (s.setConv d { s.conv d with markers := (s.conv d).markers ++ [m] })) ∧
        (∀ c, (s.conv d).cur = some c → c.kind = .marker → 4 ≤ (s.conv d).markers.length → exec (.hkaMarker p onu fc) s = .next drop) ∧
        (∀ c, (s.conv d).cur = some c → c.kind ≠ .marker →
          exec (.hkaMarker p onu fc) s
            = .next (((s.setConv d { s.conv d with cur := none, aborted := some c, markers := (s.conv d).markers ++ [m] }).bump
                (0x2900 + 8 * d + 7)).hkaStart d)))) ∧
    (∀ nv : Int, ((s.conv d).cur = none → exec (.hkaConversionDone d nv) s = .next s) ∧
      (∀ c k r t, (s.conv d).cur = some c → k = (if s.flag (R.HKA_CTL.align d) then 16 else 1) →
        r = (if hkaSigned d c.input then codeOf 16 (k * clampInt (-2048) 2047 (roundDiv 2 (2048 * nv) 600000000))
          else codeOf 16 (k * clampInt 0 4095 (roundDiv 2 (4096 * nv) 1200000000))) →
        t = (((s.setConv d { s.conv d with cur := none }).bump (0x2900 + 8 * d)).setFld (R.HKA_VAL.result d c.input) r).setFld
          (R.HKA_VAL.frame_lo d c.input) (((s.setConv d { s.conv d with cur := none }).bump (0x2900 + 8 * d)).fc % 2 ^ 16) →
        (c.kind ≠ .marker → c.toData = false → exec (.hkaConversionDone d nv) s = .next (t.hkaStart d)) ∧
        (c.kind ≠ .marker → c.toData = true → exec (.hkaConversionDone d nv) s = .next ((t.hkaData d c r).hkaStart d)) ∧
        (c.kind = .marker → c.toData = false →
          exec (.hkaConversionDone d nv) s = .next (((t.bump (0x2900 + 8 * d + 3)).hkaRssi d c r).hkaStart d)))) ∧
    (∀ fn, sees fn (R.HKA_DATA.addr d) = true → accessKind s fn (R.HKA_DATA.addr d) false = 0 →
      exec (.hkaDataRead fn d) s
        = .next ((s.emit (.readData fn (R.HKA_DATA.addr d) (s.reg (R.HKA_DATA.addr d)).toNat)).setFlag (R.HKA_DATA.new d) false))

/-- A bias output holds on a major step and slews otherwise, and an over-temperature flag drives it to its safe code until the host releases it.
It concludes exec = next, under conditions on the state and the operands alone, for: BDA_CODE_WRITE, BDA_HOLD_EXPIRED, BDA_OVER_TEMP, OT_HOLD_RELEASE. -/
def Obligations.BiasOutputsFollowTheirCodes : Prop :=
  ∀ (s : State) (k us : Nat), k < 32 → ∀ now, now = 125 * s.tick + us % 125 →
    (∀ src v t, Reaches s src (R.BDA_CODE.addr k) →
      t = ((s.bdaSettle k now).setFld (R.BDA_CODE.en k) (bitsOf v 31 31)).setFld (R.BDA_CODE.code k) (bitsOf v 15 0) →
      ∀ major : Prop, (major ↔ t.fld (R.BDA_CFG.step_thresh k) < ((t.fld (R.BDA_CODE.code k) : Int) - t.fld (R.BDA_STAT.out_code k)).natAbs) →
      (t.fld (R.BDA_STAT.phase k) = 3 → t.flag (R.BDA_SAFE.ot_hold k) = true ∨ t.flag R.GLB_STATUS.pkg_fenced = true →
        exec (.bdaCodeWrite src k v us) s = .next t) ∧
      (t.fld (R.BDA_STAT.phase k) ≠ 3 ∨ (t.flag (R.BDA_SAFE.ot_hold k) = false ∧ t.flag R.GLB_STATUS.pkg_fenced = false) →
        t.fld (R.BDA_STAT.phase k) ≠ 1 → major → t.fld (R.BDA_CFG.hold k) ≠ 0 →
        exec (.bdaCodeWrite src k v us) s = .next ((t.bdaFrom k now).setFld (R.BDA_STAT.phase k) 1)) ∧
      (t.fld (R.BDA_STAT.phase k) = 1 → major → exec (.bdaCodeWrite src k v us) s = .next t) ∧
      (t.fld (R.BDA_STAT.phase k) ≠ 3 ∨ (t.flag (R.BDA_SAFE.ot_hold k) = false ∧ t.flag R.GLB_STATUS.pkg_fenced = false) →
        ¬ major ∨ (t.fld (R.BDA_STAT.phase k) ≠ 1 ∧ t.fld (R.BDA_CFG.hold k) = 0) →
        exec (.bdaCodeWrite src k v us) s = .next ((t.bdaFrom k now).bdaSlew k))) ∧
    (∀ ends, ends = bdaSince s k + s.fld (R.BDA_CFG.hold k) →
      (s.fld (R.BDA_STAT.phase k) = 1 → ends ≤ now →
        exec (.bdaHoldExpired k us) s = .next (((s.bdaFrom k ends).bdaSlew k).bdaSettle k now)) ∧
      (s.fld (R.BDA_STAT.phase k) ≠ 1 ∨ now < ends → exec (.bdaHoldExpired k us) s = .next s)) ∧
    (s.fld (R.BDA_STAT.phase k) = 2 → ∀ o,
      o = slewed (s.fld (R.BDA_STAT.out_code k)) (s.fld (R.BDA_CODE.code k)) (s.fld (R.BDA_CFG.slew k)) (now - bdaSince s k) →
      s.bdaSettle k now = ((s.bdaFrom k now).setFld (R.BDA_STAT.out_code k) o).setFld (R.BDA_STAT.phase k)
        (if o = s.fld (R.BDA_CODE.code k) then 0 else 2)) ∧
    (s.fld (R.BDA_CFG.slew k) = 0 →
      s.bdaSlew k = (s.setFld (R.BDA_STAT.out_code k) (s.fld (R.BDA_CODE.code k))).setFld (R.BDA_STAT.phase k) 0) ∧
    (s.fld (R.BDA_CFG.slew k) ≠ 0 → s.fld (R.BDA_STAT.out_code k) ≠ s.fld (R.BDA_CODE.code k) →
      s.bdaSlew k = s.setFld (R.BDA_STAT.phase k) 2) ∧
    (∀ t, t = (s.setFlag (R.BDA_STAT.ot k) true).bump (0x2920 + k) → s.flag (R.BDA_STAT.ot k) = false →
      (t.flag (R.BDA_SAFE.ot_action k) = false →
        exec (.bdaOverTemp k us true) s = .next (t.level (0x1068 + k / 4) (otMask t (k / 4) ≠ 0) (otMask t (k / 4)))) ∧
      (t.flag (R.BDA_SAFE.ot_action k) = true → ∀ x y, x = t.bdaSettle k (125 * t.tick + us % 125) →
        y = ((x.setFld (R.BDA_STAT.out_code k) (x.fld (R.BDA_SAFE.safe_code k))).setFld (R.BDA_STAT.phase k) 3).setFlag (R.BDA_SAFE.ot_hold k) true →
        exec (.bdaOverTemp k us true) s = .next (y.level (0x1068 + k / 4) (otMask y (k / 4) ≠ 0) (otMask y (k / 4))))) ∧
    (∀ t, t = s.setFlag (R.BDA_STAT.ot k) false →
      exec (.bdaOverTemp k us false) s = .next (t.level (0x1068 + k / 4) (otMask t (k / 4) ≠ 0) (otMask t (k / 4)))) ∧
    (∀ src v t, Reaches s src (R.BDA_SAFE.addr k) →
      t = (s.setFld (R.BDA_SAFE.ot_action k) (bitsOf v 16 16)).setFld (R.BDA_SAFE.safe_code k) (bitsOf v 15 0) →
      (bitAt v 17 = false → t.flag (R.BDA_SAFE.ot_hold k) = true → t.flag (R.BDA_STAT.ot k) = false →
        exec (.otHoldRelease src k v us) s
          = .next ((((t.setFlag (R.BDA_SAFE.ot_hold k) false).bdaSettle k now).setFld (R.BDA_STAT.phase k) 0).bdaMove k now)) ∧
      (bitAt v 17 = true → exec (.otHoldRelease src k v us) s = .next (t.setFlag (R.BDA_SAFE.ot_hold k) true)) ∧
      (bitAt v 17 = false → t.flag (R.BDA_SAFE.ot_hold k) = false ∨ t.flag (R.BDA_STAT.ot k) = true →
        exec (.otHoldRelease src k v us) s = .next t))

/-- A mode request is recorded or refused whole, a fence request fences, warm-up ends, and lanes and line dies are lost as Chapter 1 says.
It concludes exec = next, under conditions on the state and the operands alone, for: HEARTBEAT_HOLD_EXPIRED, FENCE_REQ, PRT_MODE_CTL_WRITE, D2D_LANE_FAIL, LINE_DIE_LOST, WARMUP_COMPLETE, TX_CAL_DONE, D2D_RETRAIN_DONE. -/
def Obligations.ModesFencesAndLinksFollowTheirCommands : Prop :=
  ∀ (s : State) (p : Port) (src v : Nat),
    (Reaches s src (R.PRT_MODE_CTL.addr p) →
      (4 < bitsOf v 26 24 → exec (.prtModeCtlWrite src p v) s = .next (s.setFld (R.PRT_MODE_STATUS.refuse_code p) 0x01)) ∧
      (bitsOf v 26 24 ≤ 4 → bitsOf v 16 16 ≠ s.fld (R.PRT_MODE_CTL.req_line_mode p) → s.mode p ≠ 0 →
        exec (.prtModeCtlWrite src p v) s = .next (s.setFld (R.PRT_MODE_STATUS.refuse_code p) 0x02)) ∧
      (bitsOf v 26 24 ≤ 4 → bitsOf v 16 16 = s.fld (R.PRT_MODE_CTL.req_line_mode p) ∨ s.mode p = 0 →
        exec (.prtModeCtlWrite src p v) s
          = .next ((s.setFld (R.PRT_MODE_CTL.req_power_mode p) (bitsOf v 26 24)).setFld (R.PRT_MODE_CTL.req_line_mode p) (bitsOf v 16 16)))) ∧
    (Reaches s src (R.PRT_FENCE_CTL.addr p) → ∀ t, t = s.setFld (R.PRT_FENCE_CTL.hold_frames p) (bitsOf v 15 0) →
      (bitAt v 31 = true → exec (.fenceReq src p v) s = .next (t.fencePort p [0x0B])) ∧
      (bitAt v 31 = false → exec (.fenceReq src p v) s = .next t)) ∧
    ((s.port p).mode.holdLeft = some 0 → s.inReset p = false → handsOver s p = false →
      exec (.heartbeatHoldExpired p) s
        = .next (((s.setFramer p .none).modMode p (fun m => { m with holdLeft := none })).setDisCause p 3 true)) ∧
    ((s.port p).mode.holdLeft ≠ some 0 ∨ s.inReset p = true ∨ handsOver s p = true → exec (.heartbeatHoldExpired p) s = .next s) ∧
    ((s.port p).mode.txWarm = false → ∀ failed, exec (.txCalDone p failed) s = .next s) ∧
    ((s.port p).mode.txWarm = true →
      exec (.txCalDone p true) s = .next ((s.modMode p (fun m => { m with txWarm := false, txStart := false })).fencePort p [0x08]) ∧
      exec (.txCalDone p false) s
        = .next (((s.modMode p (fun m => { m with txWarm := false, txStart := true })).linkPower (p.val / 4)).modeStatus p)) ∧
    (∀ units failed,
      ((s.port p).mode.rxWarm = false → exec (.warmupComplete p units failed) s = .next s) ∧
      ((s.port p).mode.rxWarm = true → ∀ t, t = ((if (s.port p).cnv.fgRun then s.foreground p units else s).knownAnswerTests p failed).updateCeiling p →
        (t.port p).mode.rxWarm = true →
        ((t.port p).mode.framer = .none →
          exec (.warmupComplete p units failed) s
            = .next ((t.modMode p (fun m => { m with rxWarm := false, rxDone := true })).modeStatus p)) ∧
        ((t.port p).mode.framer ≠ .none →
          exec (.warmupComplete p units failed) s = .next ((t.warmEnter p (t.tick + 1)).modeStatus p))) ∧
      ((s.port p).mode.rxWarm = true → ∀ t, t = ((if (s.port p).cnv.fgRun then s.foreground p units else s).knownAnswerTests p failed).updateCeiling p →
        (t.port p).mode.rxWarm = false → exec (.warmupComplete p units failed) s = .next t)) ∧
    (∀ (l dir lane x : Nat), l < 2 → dir < 2 → x = 2 * l + dir →
      (64 < lane ∨ laneKey l dir lane ∈ s.rst.laneDown → exec (.d2dLaneFail l dir lane) s = .next s) ∧
      (lane < 64 → laneKey l dir lane ∉ s.rst.laneDown → laneKey l dir 64 ∉ s.rst.laneDown → s.flag (R.GLB_D2D_LANE_MAP.spare_used x) = false →
        ∀ t : State, t = ((({ s with rst := { s.rst with laneDown := s.rst.laneDown ++ [laneKey l dir lane] } } : State).setFlag
            (R.GLB_D2D_LANE_MAP.spare_used x) true).setFld (R.GLB_D2D_LANE_MAP.replaced x) lane) →
        ∀ z, z = (({ t with rst := { t.rst with laneSubsts := t.rst.laneSubsts + 1 } } : State).appendDelta 4 x lane).pulse 0x1002 (l + 2 * dir) →
        exec (.d2dLaneFail l dir lane) s = .next { z with rst := { z.rst with retrain := z.rst.retrain.filter (· ≠ x) ++ [x] } }) ∧
      (lane < 64 → laneKey l dir lane ∉ s.rst.laneDown → laneKey l dir 64 ∉ s.rst.laneDown → s.flag (R.GLB_D2D_LANE_MAP.spare_used x) = true →
        exec (.d2dLaneFail l dir lane) s = .next { s with rst := { s.rst with
          laneDown := s.rst.laneDown ++ [laneKey l dir lane], retrain := s.rst.retrain.filter (· ≠ x) ++ [x] } }) ∧
      (laneKey l dir 64 ∉ s.rst.laneDown → ∀ t : State, t = { s with rst := { s.rst with laneDown := s.rst.laneDown ++ [laneKey l dir 64] } } →
        (s.flag (R.GLB_D2D_LANE_MAP.spare_used x) = false → exec (.d2dLaneFail l dir 64) s = .next t) ∧
        (s.flag (R.GLB_D2D_LANE_MAP.spare_used x) = true →
          exec (.d2dLaneFail l dir 64) s = .next { t with rst := { t.rst with retrain := t.rst.retrain.filter (· ≠ x) ++ [x] } })) ∧
      (x ∉ s.rst.retrain → exec (.d2dRetrainDone l dir) s = .next s) ∧
      (x ∈ s.rst.retrain → ∀ t : State, t = ({ s with rst := { s.rst with retrain := s.rst.retrain.filter (· ≠ x) } } : State).addFldSat
          (R.GLB_D2D_LANE_MAP.retrains x) 1 →
        (shortLanes t l dir = [] → exec (.d2dRetrainDone l dir) s = .next t) ∧
        (shortLanes t l dir ≠ [] → ∀ z y, z = t.setFlag (R.GLB_D2D_LANE_MAP.half_width x) true →
          y = (z.setFld R.GLB_STATUS.d2d_half (withBit (z.fld R.GLB_STATUS.d2d_half) l true)).pulse 0x1002 (l + 2 * dir + 4) →
          (l = 0 → exec (.d2dRetrainDone l dir) s = .next ((y.fencePort 2 [0x09]).fencePort 3 [0x09])) ∧
          (l = 1 → exec (.d2dRetrainDone l dir) s = .next ((y.fencePort 6 [0x09]).fencePort 7 [0x09]))))) ∧
    exec (.lineDieLost 0) s = .next (((((((s.setDieLost 0 true).hkaDieLost 0).fencePort 0 [0x0A]).fencePort 1 [0x0A]).fencePort 2 [0x0A]).fencePort 3 [0x0A])) ∧
    exec (.lineDieLost 1) s = .next (((((((s.setDieLost 1 true).hkaDieLost 1).fencePort 4 [0x0A]).fencePort 5 [0x0A]).fencePort 6 [0x0A]).fencePort 7 [0x0A]))

/-- A marker that arrives while a marker conversion runs waits in a queue of 4, and is dropped, counted and told when the queue is full.
It concludes exec = next, under conditions on the state and the operands alone, for: HKA_MARKER. -/
def Obligations.MarkersWaitInAQueueOfFour : Prop :=
  ∀ (s : State) (p : Port) (onu fc e : Nat) (c : Conv),
    (s.conv (p.val / 4)).cur = some c → c.kind = .marker →
    s.flag (R.HKA_CTL.en (p.val / 4)) = true → s.flag (R.HKA_STATUS.die_lost (p.val / 4)) = false →
    e < 32 → s.fld (R.HKA_ENTRY.trigger (p.val / 4) e) = 3 → s.fld (R.HKA_ENTRY.mport (p.val / 4) e) = p.val % 4 →
    (∀ e2, e2 < e → s.fld (R.HKA_ENTRY.trigger (p.val / 4) e2) ≠ 3 ∨ s.fld (R.HKA_ENTRY.mport (p.val / 4) e2) ≠ p.val % 4) →
    ((s.conv (p.val / 4)).markers.length < 4 → ∀ m : Conv, m.kind = .marker → m.entry = e → m.port = p → m.onu = onu → m.fc = fc % 2 ^ 16 →
      m.input = s.fld (R.HKA_ENTRY.input (p.val / 4) e) → m.toData = (s.fld (R.HKA_ENTRY.to_data (p.val / 4) e) == 1) →
      exec (.hkaMarker p onu fc) s
        = .next (s.setConv (p.val / 4) { s.conv (p.val / 4) with markers := (s.conv (p.val / 4)).markers ++ [m] })) ∧
    (4 ≤ (s.conv (p.val / 4)).markers.length →
      exec (.hkaMarker p onu fc) s = .next ((s.bump (0x2900 + 8 * (p.val / 4) + 4)).pulse 0x1064 p.val))

/-- Ports train, go quiet and lose lock as Table 15-4 says, tests check their lanes, and an Aqand port's blocks are scrambled, striped and marked.
It concludes exec = next, under conditions on the state and the operands alone, for: LANE_LOCK_LOSS, PORT_UP, TRAINING_TIMEOUT, TRAINING_RETRY, QUIET_ANNOUNCE_RX, FOLLOW_LOCK_TIMEOUT, LANE_INJ_SINGLE, LANE_INJ_BURST, PRBS_CHECKER_LOCK, FOLLOW_SIGNAL_CHANGE. -/
def Obligations.LanesTrainGoQuietAndLoseLock : Prop :=
  ∀ (s : State) (P : Nat), P < 18 →
    (∀ order t, t = (s.endQuiet P).setLocks P (2 ^ (portLanes s P).length - 1) order →
      (portSt s P = 1 → P < 16 → exec (.portUp P order) s = .next (((t.setPortSt P 2).pairForms).enterQuiet P)) ∧
      (portSt s P = 1 ∨ (portSt s P = 4 ∧ (portLanes s P).any (laneQuiet s) = false) → 16 ≤ P →
        (deskews order = false → exec (.portUp P order) s = .next (s.bump (lanePortCtr P 2))) ∧
        (deskews order = true → ∀ u z : State, u = t.setFlag (R.AQL_PORT_STATUS.partner_ready (P - 16)) true →
          z = { u with lanes := { u.lanes with rxReady := u.lanes.rxReady.filter (· ≠ P - 16) ++ [P - 16] } } →
          exec (.portUp P order) s = .next (((z.setPortSt P 2).pairForms).enterQuiet P))) ∧
      (portSt s P ≠ 1 → portSt s P ≠ 4 ∨ P < 16 ∨ (portLanes s P).any (laneQuiet s) = true → exec (.portUp P order) s = .next s) ∧
      (∀ locked, portSt s P ≠ 1 → exec (.trainingTimeout P locked order) s = .next s) ∧
      (∀ locked t u, portSt s P = 1 → t = s.setLocks P locked order →
        u = ((portLanes s P).zipIdx).foldl (fun x e => if bitAt locked e.2 then x else x.bump (laneCtr e.1 1)) t →
        exec (.trainingTimeout P locked order) s = .next ((u.setPortSt P 3).pulse 0x1092 (P + 2 ^ 8 *
          ((List.range (portLanes s P).length).map (fun i => if bitAt locked i then 0 else 2 ^ i)).sum)))) ∧
    (portSt s P = 3 → exec (.trainingRetry P) s = .next ((s.addFldSat (portRetriesField P) 1).trainPort P)) ∧
    (portSt s P ≠ 3 → exec (.trainingRetry P) s = .next s) ∧
    (∀ side, P = 16 + side % 2 → ∀ t, t = s.bump (lanePortCtr P 4) →
      (portSt t P = 2 ∨ portSt t P = 4 → exec (.quietAnnounceRx side) s = .next (t.setFlag (R.AQL_PORT_STATUS.partner_quiet (side % 2)) true)) ∧
      (portSt t P ≠ 2 → portSt t P ≠ 4 → exec (.quietAnnounceRx side) s = .next t)) ∧
    (∀ k l, k < 8 → l = 16 + k → P = 16 + k / 4 →
      (portSt s P ≠ 2 → portSt s P ≠ 4 → ∀ b, exec (.followSignalChange k b) s = .next s) ∧
      (portSt s P = 2 ∨ portSt s P = 4 →
        ((s.flag (R.AQL_PORT_STATUS.partner_quiet (k / 4)) = false ∨ s.flag (laneRxQuiet l) = true) →
          exec (.followSignalChange k false) s = .next s) ∧
        (s.flag (R.AQL_PORT_STATUS.partner_quiet (k / 4)) = true → s.flag (laneRxQuiet l) = false →
          ∀ t u : State, t = { s with lanes := { s.lanes with follow := s.lanes.follow ++ [l], waking := s.lanes.waking.filter (· ≠ l) } } →
          u = ((((t.setFlag (laneRxQuiet l) true).bump (laneCtr l 6)).setFlag (laneCdr l) false).setFlag (laneBlock l) false) →
          exec (.followSignalChange k false) s = .next ((u.clearLocked P l).setPortSt P 4)) ∧
        (l ∉ s.lanes.follow → exec (.followSignalChange k true) s = .next s) ∧
        (l ∈ s.lanes.follow → ∀ t : State, t = { s with lanes := { s.lanes with
            follow := s.lanes.follow.filter (· ≠ l), waking := s.lanes.waking ++ [l] } } →
          exec (.followSignalChange k true) s = .next ((t.setFlag (laneRxQuiet l) false).laneFreeze l))) ∧
      (l ∈ s.lanes.waking → exec (.followLockTimeout k) s = .next (s.trainPort P)) ∧
      (l ∉ s.lanes.waking → exec (.followLockTimeout k) s = .next s)) ∧
    (∀ l, l < 24 →
      (∀ c, laneOwner s l = none → exec (.laneLockLoss l c) s = .next s) ∧
      (∀ c, laneOwner s l = some P → c ≤ 1 → s.flag (laneRxQuiet l) = true → exec (.laneLockLoss l c) s = .next s) ∧
      (∀ c, laneOwner s l = some P → P < 16 → c ≤ 1 → s.flag (laneRxQuiet l) = false →
        ∀ t u, t = (s.bump (laneCtr l 2)).setFlag (laneBlock l) false →
        u = t.setFld (portLockedField P) (withBit (t.fld (portLockedField P)) (l - P) false) →
        (portSt u P = 2 ∨ portSt u P = 4 → exec (.laneLockLoss l c) s = .next ((u.bump (lanePortCtr P 11)).trainPort P)) ∧
        (portSt u P ≠ 2 → portSt u P ≠ 4 → exec (.laneLockLoss l c) s = .next u)) ∧
      (laneOwner s l = some P → 16 ≤ P → s.flag (laneRxQuiet l) = false → ∀ t u, t = s.bump (laneCtr l 2) →
        u = (t.setFld (portLockedField P) (withBit (t.fld (portLockedField P)) (t.fld (laneLogical l)) false)).bump (lanePortCtr P 1) →
        (portSt u P = 2 ∨ portSt u P = 4 → exec (.laneLockLoss l 1) s = .next (u.trainPort P)) ∧
        (portSt u P ≠ 2 → portSt u P ≠ 4 → exec (.laneLockLoss l 1) s = .next u)) ∧
      (laneOwner s l = some P → portSt s P = 2 ∨ portSt s P = 4 →
        (P < 16 → exec (.laneLockLoss l 2) s = .next ((s.bump (lanePortCtr P 11)).trainPort P)) ∧
        (16 ≤ P → exec (.laneLockLoss l 2) s = .next (s.trainPort P))) ∧
      (laneOwner s l = some P → 16 ≤ P → exec (.laneLockLoss l 4) s = .next (s.bump (lanePortCtr P 2))) ∧
      (∀ src v, Reaches s src (laneInjAddr l) →
        (∀ b, b = true ∨ lanePending s l ≠ 0 → ∀ t : State, t = { s with lanes := { s.lanes with
            ignored := Tab.set (fun _ => 0) s.lanes.ignored l (Tab.get (fun _ => 0) s.lanes.ignored l + 1) } } →
          exec (.laneInjSingle src l v b) s = .next t ∧ exec (.laneInjBurst src l v b) s = .next t) ∧
        (lanePending s l = 0 → bitsOf v 7 0 = 0 → exec (.laneInjSingle src l v false) s = .next (s.refuseLane (decide (l < 16))) ∧
          exec (.laneInjBurst src l v false) s = .next (s.refuseLane (decide (l < 16)))) ∧
        (lanePending s l = 0 → bitsOf v 7 0 ≠ 0 → ∀ t, t = s.setFld (laneBurst l) (bitsOf v 7 0) →
          (laneSends t l = false → exec (.laneInjSingle src l v false) s = .next t ∧ exec (.laneInjBurst src l v false) s = .next t) ∧
          (laneSends t l = true → bitAt v 30 = false → bitAt v 31 = true → exec (.laneInjSingle src l v false) s = .next (t.inject l 1)) ∧
          (laneSends t l = true → bitAt v 30 = true → exec (.laneInjBurst src l v false) s = .next (t.inject l (bitsOf v 7 0))))) ∧
      (∀ n, (laneOwnPrbs s l = false → s.inject l n = s.bumpBy (laneCtr l 7) n)) ∧
      (∀ bits n, (s.flag (laneChk l) = false → exec (.prbsCheckerLock l bits n) s = .next s) ∧
        (s.flag (laneChk l) = true → ∀ (t u : State) got y, (t, got) = (if laneOwnPrbs s l = true then s.ownBits l n else (s, bits)) →
          y = (Tab.get (fun _ => PrbsCheck.reset) t.lanes.chk l).over (t.fld (laneChkPoly l)) (t.flag (lanePrbsLock l)) got →
          u = { t with lanes := { t.lanes with chk := Tab.put t.lanes.chk l y.1 } } →
          exec (.prbsCheckerLock l bits n) s
            = .next (((u.addFldSat (lanePrbsErr l) y.2.2).bumpBy (laneCtr l 3) y.2.2).setFlag (lanePrbsLock l) y.2.1)))) ∧
    (∀ (poly : Nat) (x : PrbsCheck) (b bad : Bool), bad = (prbsNext poly x.reg != b) →
      (x.step poly true b).2 = (decide (x.errs + (if bad = true then 1 else 0) < 128), bad) ∧
      (x.step poly false b).2 = (decide ((prbsTaps poly).1 ≤ x.seen) && !bad && decide (x.run + 1 = 1024), false)) ∧
    (∀ r payload y, y = (scramble58 r payload).2 → ∀ i, i < 64 →
      bitAt y i = ((bitAt payload i != (if i < 39 then bitAt r (38 - i) else bitAt y (i - 39)))
        != (if i < 58 then bitAt r (57 - i) else bitAt y (i - 58)))) ∧
    (∀ (x : AqLine) ready ann, (x.pos < 16383 → x.marker ready ann = (x, [])) ∧
      (16383 ≤ x.pos → (x.marker ready ann).2.map (fun b => (b.1, b.2.1)) = [(0, 2), (1, 2), (2, 2), (3, 2)] ∧
        (x.marker ready ann).1.count = (x.count + 1) % 2 ^ 16 ∧ (x.marker ready ann).1.pos = 0) ∧
      (∀ out h, x.pos < 16383 ∨ x.lane ≠ 0 → ∃ y pay, AqLine.send ready ann (x, out) h = (y, out ++ [(x.lane, h.1, pay)]) ∧ y.lane = (x.lane + 1) % 4 ∧
        pay = (scramble58 (x.scr.getD x.lane 0) h.2).2))

/-- Heartbeats, maps, deltas, acknowledgements and copies are taken as the roles and the sequence numbers say, and a bad message is counted.
It concludes exec = next, under conditions on the state and the operands alone, for: HEARTBEAT_RX, HEARTBEAT_MISSED, PAIR_LOST, MAP_MESSAGE_RX, DELTA_RX, DELTA_TIMEOUT, ACK_RX, RESYNC_ORDER, BULK_COPY_RX. -/
def Obligations.PairMessagesMoveTheMirror : Prop :=
  ∀ (s : State) (p : Port) (hb : Heartbeat) (fc seq us : Nat) (map : BwMap) (mir : Mirror) (last : Bool) (pre : List (Nat × Preset × Bool)),
    (exec (.heartbeatRx hb false) s = .next (s.bump 0x2780) ∧ exec (.mapMessageRx p fc map false) s = .next (s.bump 0x2780) ∧
      exec (.deltaRx p seq mir us false) s = .next (s.bump 0x2780) ∧ exec (.ackRx p seq false) s = .next (s.bump 0x2780) ∧
      exec (.bulkCopyRx p seq last mir pre false) s = .next (s.bump 0x2780)) ∧
    (∀ (run : Nat) (t : State), (s.pair.hbTick = s.tick + 1 → run = s.pair.hbRun) → (s.pair.hbTick = s.tick → run = min 3 (s.pair.hbRun + 1)) →
      (s.pair.hbTick ≠ s.tick + 1 → s.pair.hbTick ≠ s.tick → run = 1) →
      t = { s with pair := { s.pair with partner := some hb, hbRun := run, hbTick := s.tick + 1 } } →
      exec (.heartbeatRx hb true) s = .next (((t.setFld R.AQL_PAIR_STATUS.hb_missed 0).pairForms.pairStatus).forPorts (fun x q =>
        (x.modProt q (fun y => { y with
          resolveDue := y.resolveDue || (hb.ports[q].protEn && !(match s.pair.partner with
            | some h => h.ports[q].protEn
            | none => false)),
          bulkSent := y.bulkSent && hb.ports[q].role == .sync })).protStatus q))) ∧
    (s.paired = false → s.pair.hbRun = 3 → s.fld (R.AQL_PORT_STATUS.state 0) = 2 →
      s.pairForms = ((s.setFlag R.AQL_PAIR_STATUS.paired true).level 0x10C8 false 0).forPorts (fun x q =>
        x.modProt q (fun y => { y with resolveDue := true }))) ∧
    (s.paired = true ∨ s.pair.hbRun < 3 ∨ s.fld (R.AQL_PORT_STATUS.state 0) ≠ 2 → s.pairForms = s) ∧
    (∀ t : State, t = ({ s with pair := { s.pair with hbRun := 0 } } : State).bump 0x2782 →
      (t.fld R.AQL_PAIR_STATUS.hb_missed < 2 → ∀ u, u = t.setFld R.AQL_PAIR_STATUS.hb_missed (t.fld R.AQL_PAIR_STATUS.hb_missed + 1) →
        exec .heartbeatMissed s = .next (if u.fld R.AQL_PAIR_STATUS.hb_missed = 3 then u.pairLost else u)) ∧
      (2 ≤ t.fld R.AQL_PAIR_STATUS.hb_missed → ∀ u, u = t.setFld R.AQL_PAIR_STATUS.hb_missed 3 → u.fld R.AQL_PAIR_STATUS.hb_missed = 3 →
        exec .heartbeatMissed s = .next u.pairLost)) ∧
    (s.paired = false → exec .pairLost s = .next s) ∧
    (s.paired = true → exec .pairLost s = .next (((({ s with pair := { s.pair with hbRun := 0 } } : State).setFlag
        R.AQL_PAIR_STATUS.paired false).level 0x10C8 true 0).pairStatus.forPorts (fun x q =>
          if ((x.dropHandover q).port q).prot.role = .sync ∨ ((x.dropHandover q).port q).prot.role = .standby
          then ((x.dropHandover q).setRole q .blind 0).protStatus q else (x.dropHandover q).protStatus q))) ∧
    (∀ ahead, ahead = (fc + 2 ^ 51 - s.fc % 2 ^ 51) % 2 ^ 51 →
      ((s.port p).prot.role = .standby ∨ (s.port p).prot.role = .sync → 1 ≤ ahead → ahead ≤ 4 →
        exec (.mapMessageRx p fc map true) s = .next (s.installMap p (s.tick + ahead) map)) ∧
      (((s.port p).prot.role ≠ .standby ∧ (s.port p).prot.role ≠ .sync) ∨ ahead = 0 ∨ 4 < ahead →
        exec (.mapMessageRx p fc map true) s = .next s)) ∧
    ((s.port p).prot.role = .standby →
      (seq = ((s.port p).prot.applied + 1) % 2 ^ 32 → us ≤ 60 → (s.port p).prot.pendDelta = none →
        exec (.deltaRx p seq mir us true) s
          = .next ((s.modProt p (fun y => { y with pendDelta := some (seq, mir), deltaSeen := true })).aqSend 0 (.ack p seq))) ∧
      (seq ≠ ((s.port p).prot.applied + 1) % 2 ^ 32 ∨ 60 < us ∨ (s.port p).prot.pendDelta ≠ none →
        exec (.deltaRx p seq mir us true) s
          = .next (((s.bump (0x2702 + 16 * p.val)).modProt p (fun y => { y with deltaBad := true, deltaSeen := true })).protStatus p)) ∧
      (s.pair.hbTick = s.tick + 1 → (s.port p).prot.deltaSeen = false →
        exec (.deltaTimeout p) s = .next ((s.modProt p (fun y => { y with deltaBad := true })).protStatus p)) ∧
      exec (.resyncOrder p) s = .next (((s.setRole p .sync 5).bump (0x2703 + 16 * p.val)).protStatus p)) ∧
    ((s.port p).prot.role = .active →
      ((s.port p).prot.copying = false → 2 ≤ seqAhead (s.port p).prot.sent (s.port p).prot.acked →
        exec (.resyncOrder p) s = .next ((((s.modProt p (fun y => { y with copying := true, bulkSent := false })).bump
          (0x2703 + 16 * p.val)).aqSend 0 (.resync p)))) ∧
      ((s.port p).prot.copying = true ∨ seqAhead (s.port p).prot.sent (s.port p).prot.acked < 2 → exec (.resyncOrder p) s = .next s)) ∧
    ((s.port p).prot.role ≠ .standby → (s.port p).prot.role ≠ .active → exec (.resyncOrder p) s = .next s) ∧
    ((s.port p).prot.role ≠ .standby → (s.port p).prot.role ≠ .sync → exec (.deltaRx p seq mir us true) s = .next s) ∧
    ((s.port p).prot.role = .sync → exec (.deltaRx p seq mir us true) s = .next (s.bump (0x2702 + 16 * p.val))) ∧
    ((s.port p).prot.role ≠ .standby ∨ s.pair.hbTick ≠ s.tick + 1 ∨ (s.port p).prot.deltaSeen = true →
      exec (.deltaTimeout p) s = .next s) ∧
    ((s.port p).prot.role = .active →
      (seqAhead (s.port p).prot.sent seq ≤ seqAhead (s.port p).prot.sent (s.port p).prot.acked →
        exec (.ackRx p seq true) s = .next (s.modProt p (fun y => { y with acked := seq }))) ∧
      (seqAhead (s.port p).prot.sent (s.port p).prot.acked < seqAhead (s.port p).prot.sent seq → exec (.ackRx p seq true) s = .next s)) ∧
    ((s.port p).prot.role ≠ .active → exec (.ackRx p seq true) s = .next s) ∧
    ((s.port p).prot.role ≠ .sync → exec (.bulkCopyRx p seq last mir pre true) s = .next s) ∧
    ((s.port p).prot.role = .sync → (s.port p).prot.bulkOpen = false → ∀ gone g held o t,
      gone = ((s.port p).onu.ctx.filter (fun e => e.2.st ≠ .free && !mir.ctxs.any (fun m => m.slot == e.1))).map Prod.fst →
      g = gone.foldl (fun x c => x.applyCtx p true (mirrorCtx c .free)) s →
      held = (g.pair.key.isSome && g.flag R.AQL_PAIR_STATUS.key_match) →
      o = (g.modTcf p (fun t => { t with
        keys := if held = true then [] else t.keys, txSlot := if held = true then [] else t.txSlot, seqs := [] })).modProt p
        (fun q => { q with bulkOpen := true }) →
      t = pre.foldl (fun x e => x.bulkPreset p e.1 e.2.1 e.2.2) (o.applyMirror p true mir) →
      exec (.bulkCopyRx p seq false mir pre true) s = .next t ∧
      exec (.bulkCopyRx p seq true mir pre true) s
        = .next ((((t.modProt p (fun y => { y with applied := seq % 2 ^ 32 })).setRole p .standby 5).modProt p
            (fun y => { y with applied := seq % 2 ^ 32 })).protStatus p)) ∧
    ((s.port p).prot.role = .sync → (s.port p).prot.bulkOpen = true → ∀ t, t = pre.foldl (fun x e => x.bulkPreset p e.1 e.2.1 e.2.2) (s.applyMirror p true mir) →
      exec (.bulkCopyRx p seq false mir pre true) s = .next t ∧
      exec (.bulkCopyRx p seq true mir pre true) s
        = .next ((((t.modProt p (fun y => { y with applied := seq % 2 ^ 32 })).setRole p .standby 5).modProt p
            (fun y => { y with applied := seq % 2 ^ 32 })).protStatus p))

/-- A handover is done at its tick and a takeover after enough dark frames; PAIR_SWITCH and PAIR_KEY wait for their ticks.
It concludes exec = next, under conditions on the state and the operands alone, for: HANDOVER, PAIR_SWITCH, PAIR_KEY, TAKEOVER. -/
def Obligations.HandoversTakeoversAndPairCommands : Prop :=
  ∀ (s : State) (p : Port) (cause : Nat) (iss : Issue) (op0 : Nat) (key : List Byte),
    (∀ fin : State → State, fin = (fun t => (t.modProt p (fun y => { y with handover := none, switchReq := none })).bump (0x2704 + 16 * p.val)) →
      (∀ h k i, (s.port p).prot.handover = some (h, k, i) →
        (s.tick < h → exec (.handover p cause) s = .next s) ∧
        (h ≤ s.tick → (s.port p).prot.role = .active →
          (i = none → exec (.handover p cause) s = .next ((fin (s.handOff p k)).protStatus p)) ∧
          (∀ c, i = some c → exec (.handover p cause) s = .next (((fin (s.handOff p k)).succeed c 0 0).protStatus p))) ∧
        (h ≤ s.tick → (s.port p).prot.role = .standby →
          (i = none → exec (.handover p cause) s = .next ((fin (((s.setRole p .active k).realign p).computeMap p)).protStatus p)) ∧
          (∀ c, i = some c →
            exec (.handover p cause) s = .next (((fin (((s.setRole p .active k).realign p).computeMap p)).succeed c 0 0).protStatus p)))) ∧
      ((s.port p).prot.handover = none → s.paired = false → exec (.handover p cause) s = .next s) ∧
      ((s.port p).prot.handover = none → s.paired = true → (s.port p).prot.role = .active →
        exec (.handover p cause) s = .next ((fin (s.handOff p (cause % 8))).protStatus p)) ∧
      ((s.port p).prot.handover = none → s.paired = true → (s.port p).prot.role = .standby →
        exec (.handover p cause) s = .next ((fin (((s.setRole p .active (cause % 8)).realign p).computeMap p)).protStatus p))) ∧
    ((s.port p).prot.role ≠ .active → (s.port p).prot.role ≠ .standby →
      (∀ h k i, (s.port p).prot.handover = some (h, k, i) → (s.tick < h → exec (.handover p cause) s = .next s) ∧
        (h ≤ s.tick → exec (.handover p cause) s = .next (s.dropHandover p))) ∧
      ((s.port p).prot.handover = none → s.paired = true → exec (.handover p cause) s = .next (s.dropHandover p))) ∧
    ((s.port p).prot.role ≠ .blind ∨ s.receiving p = false ∨
        s.fld (R.PRT_PROT_STATUS.dark_run p) < s.cap (R.PRT_PROT_CTL.dark_frames p) → exec (.takeover p) s = .next s) ∧
    ((s.port p).prot.role = .blind → s.receiving p = true → s.cap (R.PRT_PROT_CTL.dark_frames p) ≤ s.fld (R.PRT_PROT_STATUS.dark_run p) →
      exec (.takeover p) s = .next (((((s.modTcf p (fun t => { t with
        seqs := (List.range 1023).foldl
          (fun a i => Tab.set (fun _ => 0) a i ((Tab.get (fun _ => 0) a i + 1) % 256)) t.seqs })).bump (0x2705 + 16 * p.val)).setRole p .active
          4).realign p).computeMap p)) ∧
    (p.val = bitsOf op0 2 0 → Starts s iss p [(op0, 7)] → ∀ t, t = s.startCmd iss →
      (t.flag R.RST_STATUS.fw_running = false → exec (.pairSwitch iss op0) s = .next (t.refuse iss 0x2A)) ∧
      (t.flag R.RST_STATUS.fw_running = true → t.fw.actAt = none →
        (t.paired = false ∨ ((t.port p).prot.role ≠ .active ∧ (t.port p).prot.role ≠ .standby) →
          exec (.pairSwitch iss op0) s = .next (t.refuse iss 0x27)) ∧
        (t.paired = true → (t.port p).prot.role = .active ∨ (t.port p).prot.role = .standby →
          ((t.port p).prot.switchReq ≠ none ∨ (t.port p).prot.handover ≠ none → exec (.pairSwitch iss op0) s = .next (t.refuse iss 0x28)) ∧
          ((t.port p).prot.switchReq = none → (t.port p).prot.handover = none →
            exec (.pairSwitch iss op0) s = .next (t.modProt p (fun y => { y with switchReq := some iss })))))) ∧
    (waitsInRing s iss = false → iss.fn ≠ 0 → exec (.pairKey iss key) s = .next ((s.startCmd iss).refuse iss 0x20)) ∧
    (HubStarts s iss [] → ∀ t : State, t = s.startCmd iss →
      (key.length ≠ 32 → exec (.pairKey iss key) s = .next (t.refuse iss 0x29)) ∧
      (key.length = 32 →
        exec (.pairKey iss key) s = .next { t with pair := { t.pair with keyDue := t.pair.keyDue ++ [(iss, beNat key)] } }))

/-- A frame tick runs its phases in order and moves the frame counter and the time of day; edges, messages and writes set them as Chapter 22 says.
It concludes exec = next, under conditions on the state and the operands alone, for: FRAME_TICK, TOD_MESSAGE_RX, TOD_HOLDOVER, PPS_EDGE, PPS_LOST, TOD_ALIGN, TOD_ARM_SEC, TOD_FC_SET. -/
def Obligations.TheFrameTickAndTheTimeOfDay : Prop :=
  ∀ (s : State) (obs : TickObs) (side : Nat) (msg : TodMsg) (interval after : Nat) (err : Int) (src v : Nat),
    (s.flag R.GLB_STATUS.pkg_fenced = true → exec (.frameTick obs) s = .next (s.todTick.captureRegs s.regs)) ∧
    (s.flag R.GLB_STATUS.pkg_fenced = false → ∀ c l k, c = ((s.forPorts State.endPort).todTick.captureRegs s.regs).tickCapture obs →
      c.sampleLedgers obs = (l, k) → exec (.frameTick obs) s = .next (((l.tickBegin obs).applyLedgers k).tickRest)) ∧
    (∀ (k : LedgerCheck) (c : State), (k = (c.sampleLedgers obs).2) →
      (∀ p, c.fenced p = true ∨ c.inReset p = true ∨ c.mode p = 0 → k.ports[p] = []) ∧
      (∀ p, 194400 < grantSlots c p → c.fenced p = false → c.inReset p = false → c.mode p ≠ 0 → 0x01 ∈ k.ports[p])) ∧
    (∀ c m, s.chainTick = (c, m) → s.todTick.tick = c.tick + 1 ∧
      (m = none → s.todTick.tod.time = c.tod.time + 125000 ∧ (c.tod.fcDue = false → s.todTick.fc = (c.fc + 1) % 2 ^ 51)) ∧
      (∀ x, m = some x → s.todTick.tod.time = (x.sec * 1000000000 + x.ns : Nat) + 125000 ∧
        (c.tod.fcDue = false → s.todTick.fc = (x.fc % 2 ^ 51 + 1) % 2 ^ 51)) ∧
      (c.tod.fcDue = true → s.todTick.fc = c.fld R.TOD_FC_SET_1.set_hi * 2 ^ 32 + c.fld R.TOD_FC_SET_0.set_lo ∧ s.todTick.tod.fcDue = false)) ∧
    exec (.todMessageRx side msg false) s = .next (s.bump 0x2780) ∧
    (s.cap R.AQL_PAIR_CTL.tod_src = 1 → exec (.todMessageRx side msg true) s = .next s) ∧
    (s.cap R.AQL_PAIR_CTL.tod_src ≠ 1 →
      (∀ d m, s.pair.todBest = some (d, m) → m.hops < msg.hops ∨ (msg.hops = m.hops ∧ d ≤ side % 2) →
        exec (.todMessageRx side msg true) s = .next s) ∧
      (∀ t : State, t = { s with pair := { s.pair with todBest := some (side % 2, msg) } } →
        (s.pair.todBest = none ∨ ∃ d m, s.pair.todBest = some (d, m) ∧ (msg.hops < m.hops ∨ (msg.hops = m.hops ∧ side % 2 < d))) →
        (msg.hops ≤ 14 → exec (.todMessageRx side msg true) s = .next (t.aqSend (1 - side % 2) (.tod { msg with hops := msg.hops + 1 }))) ∧
        (14 < msg.hops → exec (.todMessageRx side msg true) s = .next t))) ∧
    (usesChain s = true → 8 ≤ s.pair.todMiss → s.flag R.AQL_PAIR_STATUS.holdover = false →
      exec .todHoldover s = .next ((((s.setFlag R.AQL_PAIR_STATUS.holdover true).level 0x10CB true 0).bump 0x2783).setFld R.AQL_PAIR_STATUS.tod_hops 15)) ∧
    (usesChain s = false ∨ s.pair.todMiss < 8 ∨ s.flag R.AQL_PAIR_STATUS.holdover = true → exec .todHoldover s = .next s) ∧
    (usesPps s = false → exec (.ppsEdge interval err after) s = .next s ∧ exec .ppsLost s = .next s) ∧
    (usesPps s = true →
      exec .ppsLost s = .next ((({ s with tod := { s.tod with first := true } } : State).setFlag R.TOD_STATUS.pps_lost true).level 0x1010 true 0) ∧
      (s.tod.first = false → interval < 999000000 ∨ 1001000000 < interval → exec (.ppsEdge interval err after) s = .next (s.bump 0x2C03)) ∧
      (s.tod.first = true ∨ (999000000 ≤ interval ∧ interval ≤ 1001000000) →
        ∀ t u : State, t = (({ s with tod := { s.tod with first := false } } : State).setFlag R.TOD_STATUS.pps_lost false).level 0x1010 false 0 →
        (t.tod.armed = false → u = t) →
        (t.tod.armed = true → u = { t with tod := { t.tod with
          armed := false,
          time := ((t.fld R.TOD_NEXT_SEC_1.sec_hi * 2 ^ 32 + t.fld R.TOD_NEXT_SEC_0.sec_lo) * 1000000000 : Nat) - (after : Int) } }) →
        (u.tod.alignDue = true → exec (.ppsEdge interval err after) s = .next ((({ u.nextOpen with tod := { u.tod with
          alignDue := false, time := u.tod.time + after + alignNs (u.fld R.TOD_PHASE.phase) u.openNat - 125000 } } : State).setFlag
            R.TOD_STATUS.aligned true).bump 0x2C06)) ∧
        (u.tod.alignDue = false → u.flag R.TOD_STATUS.aligned = true → ∀ x, x = u.setFld R.TOD_STATUS.pps_err (err % 2 ^ 24).toNat →
          (u.fld R.TOD_CTRL.pps_tol < err.natAbs → x.fld R.TOD_CTRL.pps_tol = u.fld R.TOD_CTRL.pps_tol →
            exec (.ppsEdge interval err after) s = .next ((x.bump 0x2C04).pulse 0x1011 (err % 2 ^ 24).toNat)) ∧
          (err.natAbs ≤ u.fld R.TOD_CTRL.pps_tol → x.fld R.TOD_CTRL.pps_tol = u.fld R.TOD_CTRL.pps_tol →
            exec (.ppsEdge interval err after) s = .next x)) ∧
        (u.tod.alignDue = false → u.flag R.TOD_STATUS.aligned = false → exec (.ppsEdge interval err after) s = .next u))) ∧
    (∀ phase o : Nat, (((phase : Int) - 1) * 125000) / 19440 < alignNs phase o ∧ alignNs phase o ≤ (((phase : Int) + 1) * 125000) / 19440) ∧
    (Reaches s src R.TOD_CTRL.addr →
      (bitsOf v 15 0 = 0 ∨ (bitAt v 29 = true ∧ (allOff s = false ∨ usesPps s = false)) → ∀ t, t = s.setFlag R.TOD_STATUS.cfg_err true →
        exec (.todAlign src v) s = .next t ∧ exec (.todArmSec src v) s = .next t) ∧
      (bitsOf v 15 0 ≠ 0 → bitAt v 29 = false ∨ (allOff s = true ∧ usesPps s = true) →
        ∀ t u : State, t = ((s.setFlag R.TOD_CTRL.pps_en (bitAt v 31)).setFlag R.TOD_CTRL.pps_track (bitAt v 30)).setFld R.TOD_CTRL.pps_tol (bitsOf v 15 0) →
        (bitAt v 31 = s.flag R.TOD_CTRL.pps_en → u = t) →
        (bitAt v 31 ≠ s.flag R.TOD_CTRL.pps_en → u = ({ t with tod := { t.tod with first := true } } : State).setFlag R.TOD_STATUS.aligned false) →
        ∀ r : State, r = { u with tod := { u.tod with alignDue := u.tod.alignDue || bitAt v 29, armed := u.tod.armed || bitAt v 28 } } →
          exec (.todAlign src v) s = .next r ∧ exec (.todArmSec src v) s = .next r)) ∧
    (Reaches s src R.TOD_FC_SET_1.addr →
      (bitAt v 31 = true → allOff s = false ∨ usesChain s = true → exec (.todFcSet src v) s = .next (s.setFlag R.TOD_STATUS.cfg_err true)) ∧
      (bitAt v 31 = true → allOff s = true → usesChain s = false → ∀ t, t = s.setFld R.TOD_FC_SET_1.set_hi (bitsOf v 18 0) →
        exec (.todFcSet src v) s = .next (({ t with tod := { t.tod with fcDue := true } } : State).setFlag R.TOD_STATUS.fc_pending true)) ∧
      (bitAt v 31 = false → exec (.todFcSet src v) s = .next (s.setFld R.TOD_FC_SET_1.set_hi (bitsOf v 18 0))))

/-- Region resets wait for the tick and end with what their causes leave; hub and line-die resets and the delta's clearing take their keys.
It concludes exec = next, under conditions on the state and the operands alone, for: WARM_REGION_RESET_REQ, COLD_REGION_RESET_REQ, REGION_RESET_COMPLETE, HUB_REGION_RESET, HUB_REGION_RESET_DONE, LINE_DIE_RESET, LINE_DIE_RESET_DONE, DELTA_CLEAR. -/
def Obligations.RegionResetsRunFromTheirRequests : Prop :=
  ∀ (s : State) (p : Port) (src v : Nat),
    ((src = 0 ∨ 8 < src) → Reaches s src R.RST_PORT_RESET.addr →
      exec (.warmRegionResetReq src v) s = .next (s.forPorts (fun t q => if bitAt v q.val then t.modReset q (fun r => { r with warmReq := true }) else t)) ∧
      exec (.coldRegionResetReq src v) s = .next (s.forPorts (fun t q => if bitAt v q.val then t.modReset q (fun r => { r with coldReq := true }) else t))) ∧
    (∀ m, Reaches s (p.val + 1) (R.PRT_REGION_RESET.addr p) → m = (if bitAt v p.val then 2 ^ p.val else 0) →
      exec (.warmRegionResetReq (p.val + 1) v) s = .next (s.requestRegion m false) ∧
      exec (.coldRegionResetReq (p.val + 1) v) s = .next (s.requestRegion m true)) ∧
    ((s.port p).resetReq.active = none → exec (.regionResetComplete p) s = .next s) ∧
    (∀ cold, (s.port p).resetReq.active = some cold →
      (s.tick < (s.port p).resetReq.doneAt → exec (.regionResetComplete p) s = .next s) ∧
      (s.tick ≥ (s.port p).resetReq.doneAt → ∀ again a t u,
        again = (List.range 16).filter (fun c => bitAt (s.fld (R.PRT_FENCE_STATUS.cause_mask p)) c &&
          (c == 0x09 || c == 0x0A || c == 0x0C || (!cold && (c == 0x06 || c == 0x07 || c == 0x08)))) →
        a = (((s.modReset p (fun r => { r with active := none, doneAt := 0 })).resetStatus p).clearFence p).modDba p (fun d => { d with unmapped := false }) →
        t = (a.restart p).setFld (R.PRT_MODE_STATUS.ceiling p) (modeCeiling a p) →
        u = ((t.setFlr (p.val + 1) false).bump (if cold then 0x2B01 else 0x2B00)).pulseP p 3 (if cold then 1 else 0) →
        (again ≠ [] → exec (.regionResetComplete p) s = .next ((u.fencePort p again).modeStatus p)) ∧
        (again = [] → exec (.regionResetComplete p) s = .next (((u.modeCapture p).warmStarts (p.val / 4)).modeStatus p)))) ∧
    (Reaches s src R.RST_HUB_RESET.addr →
      (bitsOf v 7 0 ≠ 0xC3 → exec (.hubRegionReset src v) s = .next (s.bump 0x2B05)) ∧
      (bitsOf v 7 0 = 0xC3 → bitAt v 31 = false → exec (.hubRegionReset src v) s = .next s) ∧
      (bitsOf v 7 0 = 0xC3 → bitAt v 31 = true →
        ∀ t : State, t = (({ s with rst := { s.rst with
            ledgers := s.rst.ledgers.filter (fun e => !(128 ≤ e.1 && e.1 < 131 && bitAt (bitsOf v 10 8) (e.1 - 128))) } } : State).setFld
          R.RST_HUB_STATUS.hub_in_reset (s.fld R.RST_HUB_STATUS.hub_in_reset ||| bitsOf v 10 8)) →
        (bitsOf v 10 8 = 1 → exec (.hubRegionReset src v) s = .next t.resetData) ∧
        (bitsOf v 10 8 = 2 → exec (.hubRegionReset src v) s = .next t.resetMemory) ∧
        (bitsOf v 10 8 = 4 → exec (.hubRegionReset src v) s = .next t.resetControl) ∧
        (bitsOf v 10 8 = 7 → exec (.hubRegionReset src v) s = .next t.resetData.resetMemory.resetControl))) ∧
    (∀ regions us m, m = (if s.flag R.RST_STATUS.fw_running then regions &&& s.fld R.RST_HUB_STATUS.hub_in_reset
        else withBit (regions &&& s.fld R.RST_HUB_STATUS.hub_in_reset) 2 false) →
      (m = 0 → exec (.hubRegionResetDone regions us) s = .next s) ∧
      (m ≠ 0 → ∀ t f u, t = s.setFld R.RST_HUB_STATUS.hub_in_reset (s.fld R.RST_HUB_STATUS.hub_in_reset - m) →
        f = t.fld R.GLB_STATUS.hub_fenced - (t.fld R.GLB_STATUS.hub_fenced &&& m) →
        u = (t.setFld R.GLB_STATUS.hub_fenced f).level 0x1000 (f ≠ 0) f →
        (bitAt m 0 = false → bitAt m 1 = false → exec (.hubRegionResetDone regions us) s = .next ((u.bump 0x2B02).pulse 0x1008 m)) ∧
        (bitAt m 0 = true → bitAt m 1 = false →
          exec (.hubRegionResetDone regions us) s = .next (((u.fillMeters us).engineFence.bump 0x2B02).pulse 0x1008 m)) ∧
        (bitAt m 0 = false → bitAt m 1 = true → exec (.hubRegionResetDone regions us) s = .next ((u.retrain.bump 0x2B02).pulse 0x1008 m)) ∧
        (bitAt m 0 = true → bitAt m 1 = true →
          exec (.hubRegionResetDone regions us) s = .next (((u.fillMeters us).retrain.engineFence.bump 0x2B02).pulse 0x1008 m)))) ∧
    ((1 < popCount 9 (s.fld R.GLB_QE_STATE.faulty) → s.engineFence = s.fenceHub 0) ∧
      (popCount 9 (s.fld R.GLB_QE_STATE.faulty) ≤ 1 → s.engineFence = s)) ∧
    (Reaches s src R.RST_DIE_RESET.addr →
      (bitsOf v 7 0 ≠ 0xC3 → exec (.lineDieReset src v) s = .next (s.bump 0x2B05)) ∧
      (bitsOf v 7 0 = 0xC3 → bitAt v 31 = true →
        (bitAt v 8 = true → bitAt v 9 = false → exec (.lineDieReset src v) s = .next (s.startDieReset 0)) ∧
        (bitAt v 8 = false → bitAt v 9 = true → exec (.lineDieReset src v) s = .next (s.startDieReset 1)) ∧
        (bitAt v 8 = true → bitAt v 9 = true → exec (.lineDieReset src v) s = .next ((s.startDieReset 0).startDieReset 1)))) ∧
    (∀ d, d < 2 →
      (bitAt (s.fld R.RST_HUB_STATUS.die_in_reset) d = false → ∀ f, exec (.lineDieResetDone d f) s = .next s) ∧
      (bitAt (s.fld R.RST_HUB_STATUS.die_in_reset) d = true → ∀ t,
        t = (diePorts d).foldl (fun s q =>
          ((((s.modReset q (fun r => { r with active := none, doneAt := 0 })).clearFence q).restart q).setFld (R.PRT_MODE_STATUS.ceiling q)
            (modeCeiling (((s.modReset q (fun r => { r with active := none, doneAt := 0 })).clearFence q).restart q) q)).setFlr (q.val + 1) false)
          (s.setFld R.RST_HUB_STATUS.die_in_reset (withBit (s.fld R.RST_HUB_STATUS.die_in_reset) d false)) →
        exec (.lineDieResetDone d false) s = .next (((t.setDieLost d false).bump 0x2B03).pulse 0x1009 (2 ^ d)) ∧
        exec (.lineDieResetDone d true) s = .next (((t.loseDie d 0x0A).bump 0x2B03).pulse 0x1009 (2 ^ d + 2 ^ 8)))) ∧
    (Reaches s src R.RST_DELTA_CLR.addr →
      (bitsOf v 7 0 ≠ 0x96 → exec (.deltaClear src v) s = .next (s.bump 0x2B05)) ∧
      (bitsOf v 7 0 = 0x96 → bitAt v 31 = true → exec (.deltaClear src v) s = .next (s.setFlag R.RST_DELTA_STATUS.clear_pending true)))

/-- Start-up goes stage by stage, waits for the reference and the pin, and holds where a hub step fails; a brown-out resets at once.
It concludes exec = next, under conditions on the state and the operands alone, for: AON_BROWNOUT, STARTUP_STEP_COMPLETE, DEVICE_READY, FW_RUNNING, REFCLK_LOSS, REFCLK_VALID, RESET_N_RELEASE. -/
def Obligations.StartUpRunsItsStages : Prop :=
  ∀ (s : State) (obs : StartObs) (ms : Nat),
    (∀ st, st = s.fld R.RST_STATUS.stage →
      (s.rst.resetLow = true ∨ s.flag R.RST_STATUS.shutdown_hold = true ∨ s.fld R.RST_STATUS.fail_code = 1 ∨ s.fld R.RST_STATUS.fail_code = 3 ∨
          s.fld R.RST_STATUS.fail_code = 4 ∨ st = 0 ∨ 5 ≤ st ∨ (st = 3 ∧ s.flag R.RST_STATUS.ref_missing = true) →
        exec (.startupStepComplete obs) s = .next s) ∧
      (s.rst.resetLow = false → s.flag R.RST_STATUS.shutdown_hold = false → s.fld R.RST_STATUS.fail_code ≠ 1 → s.fld R.RST_STATUS.fail_code ≠ 3 →
        s.fld R.RST_STATUS.fail_code ≠ 4 → 1 ≤ st → st ≤ 4 → (st = 3 → s.flag R.RST_STATUS.ref_missing = false) →
        (obs.fail = 1 ∨ obs.fail = 3 ∨ obs.fail = 4 → exec (.startupStepComplete obs) s = .next (s.setFld R.RST_STATUS.fail_code obs.fail)) ∧
        (obs.fail ≠ 1 → obs.fail ≠ 3 → obs.fail ≠ 4 → ∀ b t, b = s.setFld R.RST_STATUS.stage (st + 1) →
          (obs.fail = 5 → t = (b.setFld R.RST_STATUS.fail_code 5).loseDie 0 0x0A) →
          (obs.fail = 6 → t = (b.setFld R.RST_STATUS.fail_code 6).loseDie 1 0x0A) →
          (obs.fail ≠ 5 → obs.fail ≠ 6 → t = b) →
          (st = 1 → exec (.startupStepComplete obs) s = .next t) ∧
          (st = 2 → ∀ r, r = t.repairMaps obs.fused →
            (obs.refValid = true → exec (.startupStepComplete obs) s = .next { r with rst := { r.rst with refValid := true } }) ∧
            (obs.refValid = false → exec (.startupStepComplete obs) s = .next ((({ r with rst := { r.rst with refValid := false } } : State).setFlag
              R.RST_STATUS.ref_missing true).setFld R.RST_STATUS.fail_code 2))) ∧
          (st = 3 → exec (.startupStepComplete obs) s = .next (t.selfCalibrate obs)) ∧
          (st = 4 → exec (.startupStepComplete obs) s = .next ((t.setFld R.LPD_STATUS.ch_up obs.lpdUp).setFld R.GLB_CAP.lpd_gib
            (2 * ((List.range 16).filter (fun c => bitAt obs.lpdUp c)).length))))) ∧
      (st = 5 → s.flag R.GLB_STATUS.pkg_fenced = false → exec (.deviceReady ms) s
        = .next (((((s.setFlag R.RST_STATUS.device_ready true).setFld R.RST_STATUS.stage 6).setFld R.RST_START_TIME.ready_ms (min ms 65535)).linkPower
          0).linkPower 1)) ∧
      (st ≠ 5 ∨ s.flag R.GLB_STATUS.pkg_fenced = true → exec (.deviceReady ms) s = .next s) ∧
      (∀ t : State, t = { s with rst := { s.rst with refValid := true } } → t.fld R.RST_STATUS.stage = st →
        (st = 3 → t.flag R.RST_STATUS.ref_missing = true → ∀ u, u = t.setFlag R.RST_STATUS.ref_missing false →
          (u.fld R.RST_STATUS.fail_code = 2 → exec .refclkValid s = .next (u.setFld R.RST_STATUS.fail_code 0)) ∧
          (u.fld R.RST_STATUS.fail_code ≠ 2 → exec .refclkValid s = .next u)) ∧
        (st ≠ 3 ∨ t.flag R.RST_STATUS.ref_missing = false → exec .refclkValid s = .next t)) ∧
      (∀ t : State, s.rst.resetLow = true → t = { s with rst := { s.rst with resetLow := false } } → t.fld R.RST_STATUS.stage = st →
        (t.flag R.RST_STATUS.shutdown_hold = false → st = 0 → exec .resetNRelease s = .next (t.setFld R.RST_STATUS.stage 1)) ∧
        (t.flag R.RST_STATUS.shutdown_hold = true ∨ st ≠ 0 → exec .resetNRelease s = .next t))) ∧
    (s.rst.resetLow = false → exec .resetNRelease s = .next s) ∧
    (∀ t : State, t = { s with rst := { s.rst with refValid := false } } →
      (t.ready = true → exec .refclkLoss s = .next (t.setFlag R.RST_STATUS.ref_missing true)) ∧
      (t.ready = false → exec .refclkLoss s = .next t)) ∧
    exec .aonBrownout s = .next ((s.packageReset .powerOn).setFld R.RST_STATUS.stage 0) ∧
    (s.ready = false ∨ s.flag R.RST_STATUS.fw_running = true ∨ s.fld R.RST_STATUS.stage < 6 → exec (.fwRunning ms) s = .next s) ∧
    (∀ t b, s.ready = true → s.flag R.RST_STATUS.fw_running = false → 6 ≤ s.fld R.RST_STATUS.stage → State.boot (bootOrder s.fw) s = (t, b) →
      exec (.fwRunning ms) s = .next (if b then (t.setFld R.RST_STATUS.stage 7).setFld R.RST_START_TIME.fw_ms (min ms 65535)
        else t.setFld R.RST_STATUS.fail_code 7))

/-- A measurement reads, sets the thresholds' states and drives enforcement, the limit code and shutdown; timers, rails and the record follow.
It concludes exec = next, under conditions on the state and the operands alone, for: THERMAL_MEASUREMENT, AVS_WRITE_FAILED, GRACE_EXPIRED, ENFORCEMENT_STEP, HOLDING_EXPIRED, COMPAT_CODE_STEP, RAIL_FAULT, THM_SD_CLR, VOLTAGE_WARNING. -/
def Obligations.ThermalMeasurementsEnforceAndShutDown : Prop :=
  ∀ (s : State) (obs : ThermObs) (src v rail die mv : Nat) (samples : List Nat),
    (measureDue s = false → exec (.thermalMeasurement obs) s = .next s) ∧
    (measureDue s = true → ∀ c r t, c = s.bump 0x2A00 → r = ((if c.flag R.THM_STATUS.fast then c.bump 0x2A01 else c).readSensors obs) → t = r.thresholds →
      (t.flag R.GLB_STATUS.pkg_fenced = true → exec (.thermalMeasurement obs) s = .next t.thmLevels.releaseReset) ∧
      (t.flag R.GLB_STATUS.pkg_fenced = false → ∀ m e a z, m = t.monitors obs.margins →
        (m.flag R.THM_CTRL.compat_en = false → e = m.enforce) →
        (m.flag R.THM_CTRL.compat_en = true → m.flag R.THM_STATUS.throttle = true → r.flag R.THM_STATUS.throttle = false → e = m.compatSet) →
        (m.flag R.THM_CTRL.compat_en = true → m.flag R.THM_STATUS.throttle = false ∨ r.flag R.THM_STATUS.throttle = true → e = m) →
        a = (if e.fc % 8 = 0 then e.avsTick obs.margins else e) → z = (obs.pllLimit.foldl (fun s i => s.pulse 0x1048 i) a).thmLevels →
        (z.thm.shutdown = false → exec (.thermalMeasurement obs) s = .next z) ∧
        (z.thm.shutdown = true → exec (.thermalMeasurement obs) s
          = .next (z.packageFence 1 (((highest (readings z)).map Prod.fst).getD 0) (z.fld R.THM_STATUS.tmax))))) ∧
    (∀ k x, x = signedOf 12 (s.fld R.THM_STATUS.tmax) →
      (8 * (s.fld (R.THM_THR.theta k) : Int) ≤ x → thrNext s k = true) ∧
      (x < 8 * (s.fld (R.THM_THR.theta k) : Int) - 8 * (s.fld (R.THM_THR.hyst k) : Int) → thrNext s k = false) ∧
      (x < 8 * (s.fld (R.THM_THR.theta k) : Int) → 8 * (s.fld (R.THM_THR.theta k) : Int) - 8 * (s.fld (R.THM_THR.hyst k) : Int) ≤ x →
        thrNext s k = thrState s k)) ∧
    (s.flag R.THM_STATUS.throttle = true →
      (s.fld R.THM_STATUS.phase = 0 → s.enforce = ((({ s with thm := { s.thm with
        graceEnd := s.tick + 8 * s.fld R.THM_CTRL.grace_ms, stepDue := none } } : State).setFld R.THM_STATUS.phase 1).bump 0x2A02)) ∧
      (s.fld R.THM_STATUS.phase = 2 → s.thm.stepDue = none → s.enforce = s.lowerStep) ∧
      (s.fld R.THM_STATUS.phase = 2 → s.thm.stepDue ≠ none → s.enforce = s) ∧
      (s.fld R.THM_STATUS.phase = 3 ∨ s.fld R.THM_STATUS.phase = 4 → s.enforce = (s.setFld R.THM_STATUS.phase 2).lowerStep)) ∧
    (s.flag R.THM_STATUS.throttle = false →
      (s.fld R.THM_STATUS.phase = 1 → s.enforce = (s.setFld R.THM_STATUS.phase 0).bump 0x2A03) ∧
      (s.fld R.THM_STATUS.phase = 2 → s.enforce = ({ s with thm := { s.thm with
        stepDue := none, holdEnd := s.tick + s.fld R.THM_RELEASE.release_frames } } : State).setFld R.THM_STATUS.phase 3)) ∧
    (s.flag R.GLB_STATUS.pkg_fenced = false →
      (s.fld R.THM_STATUS.phase = 1 → s.thm.graceEnd ≤ s.tick →
        exec .graceExpired s = .next (({ s with thm := { s.thm with stepDue := none } } : State).setFld R.THM_STATUS.phase 2).thmLevels) ∧
      (∀ due, s.thm.stepDue = some due → due ≤ s.tick →
        (s.fld R.THM_STATUS.phase = 2 → exec .enforcementStep s = .next s.lowerStep.thmLevels) ∧
        (s.fld R.THM_STATUS.phase = 4 → exec .enforcementStep s = .next s.releaseStep.thmLevels)) ∧
      (s.fld R.THM_STATUS.phase = 3 → s.thm.holdEnd ≤ s.tick →
        exec .holdingExpired s = .next ((s.setFld R.THM_STATUS.phase 4).releaseStep).thmLevels) ∧
      (s.flag R.THM_CTRL.compat_en = true → s.thm.compatDue ≤ s.tick →
        ∀ t : State, t = { s with thm := { s.thm with compatDue := s.tick + 64 } } → t.flag R.THM_STATUS.throttle = s.flag R.THM_STATUS.throttle →
        (s.flag R.THM_STATUS.throttle = true → exec .compatCodeStep s = .next (t.compatCode (min 15 (s.fld R.THM_COMPAT.code + 1)))) ∧
        (s.flag R.THM_STATUS.throttle = false → exec .compatCodeStep s = .next (t.compatCode (s.fld R.THM_COMPAT.code - 1)))) ∧
      (s.ready = false →
        ((∃ x ∈ samples, railOutside s rail (railNominal s rail).2 x = true) →
          exec (.railFault rail ⟨die, samples⟩) s = .next (s.setFld R.RST_STATUS.stage 0)) ∧
        ((∀ x ∈ samples, railOutside s rail (railNominal s rail).2 x = false) → exec (.railFault rail ⟨die, samples⟩) s = .next s)) ∧
      (s.ready = true →
        (8 ≤ samples.length → (∀ x ∈ samples, railOutside s rail (s.fld R.THM_VMON_CTL.fault_pct) x = true) →
          (die < 2 → exec (.railFault rail ⟨die, samples⟩) s = .next (s.loseDie die 0x0A)) ∧
          (2 ≤ die → exec (.railFault rail ⟨die, samples⟩) s = .next (s.packageFence 2 (rail % 64) (s.fld R.THM_STATUS.tmax)))) ∧
        (samples.length < 8 ∨ (∃ x ∈ samples, railOutside s rail (s.fld R.THM_VMON_CTL.fault_pct) x = false) →
          exec (.railFault rail ⟨die, samples⟩) s = .next s))) ∧
    (∀ pct, railOutside s rail pct mv = true ↔ pct * (railNominal s rail).1 < 100 * ((mv : Int) - ((railNominal s rail).1 : Int)).natAbs) ∧
    (s.flag R.GLB_STATUS.pkg_fenced = true →
      exec .graceExpired s = .next s ∧ exec .enforcementStep s = .next s ∧ exec .holdingExpired s = .next s ∧ exec .compatCodeStep s = .next s ∧
      exec (.railFault rail ⟨die, samples⟩) s = .next s) ∧
    (s.thm.stepDue = none → exec .enforcementStep s = .next s) ∧
    (∀ r old, r < 3 → old = Tab.get (fun _ => 0) s.thm.avsPrev r →
      (old = 0 → exec (.avsWriteFailed r) s = .next s) ∧
      (old ≠ 0 → ∀ t : State, t = { s with thm := { s.thm with
          avsPrev := Tab.set (fun _ => 0) s.thm.avsPrev r 0, avsOff := s.thm.avsOff.filter (· ≠ r) ++ [r] } } →
        exec (.avsWriteFailed r) s
          = .next (((((t.setFld (R.THM_AVS_TARGET.target_mv r) old).avsEnds r).setFlag (R.THM_AVS_STATUS.fault r) true).bump 0x2A09).pulse
              0x1047 r))) ∧
    (railOutside s rail (s.fld R.THM_VMON_CTL.warn_pct) mv = true →
      exec (.voltageWarning ⟨rail, mv⟩) s = .next ((s.bump 0x2A0A).pulse 0x1046 (rail % 256))) ∧
    (railOutside s rail (s.fld R.THM_VMON_CTL.warn_pct) mv = false → exec (.voltageWarning ⟨rail, mv⟩) s = .next s) ∧
    (Reaches s src R.THM_SD_CLR.addr →
      (bitsOf v 7 0 ≠ 0x5A ∨ bitAt v 31 = false → exec (.thmSdClr src v) s = .next s) ∧
      (bitsOf v 7 0 = 0x5A → bitAt v 31 = true →
        exec (.thmSdClr src v) s = .next (((((s.setReg R.THM_SD_0.addr 0).setReg R.THM_SD_1.addr 0).setReg R.THM_SD_2.addr 0).setFlag
          R.THM_STATUS.sd_record false).level 0x1049 false 0)))

/-- The session's commands stage, verify and activate a bundle; the window, the confirmation and the fall-back follow, and identity is told.
It concludes exec = next, under conditions on the state and the operands alone, for: FW_OPEN, FW_WRITE, FW_VERIFY, VERIFY_DONE, FW_ACTIVATE, HCF_READY, HCF_FALLBACK_REQ, ACTIVATION_TIMEOUT, PERSIST_DONE, FW_ABORT, FW_CONFIRM, AUTO_CONFIRM, FW_FALLBACK, FW_ATTEST, FW_ID_READ. -/
def Obligations.FirmwareCommandsRunTheSession : Prop :=
  ∀ (s t : State) (iss : Issue) (h data nonce : List Byte) (op0 n : Nat) (set : Option (Nat × List Byte)), t = s.startCmd iss →
    (iss.fn ≠ 0 → waitsInRing s iss = false →
      exec (.fwOpen iss h) s = .next (t.refuse iss 0x20) ∧ exec (.fwWrite iss op0 data) s = .next (t.refuse iss 0x20) ∧
      exec (.fwVerify iss) s = .next (t.refuse iss 0x20) ∧ exec (.fwActivate iss) s = .next (t.refuse iss 0x20) ∧
      exec (.fwAbort iss) s = .next (t.refuse iss 0x20) ∧ exec (.fwConfirm iss) s = .next (t.refuse iss 0x20) ∧
      exec (.fwFallback iss) s = .next (t.refuse iss 0x20) ∧ exec (.fwAttest iss nonce) s = .next (t.refuse iss 0x20) ∧
      exec (.fwIdRead iss n) s = .next (t.refuse iss 0x20)) ∧
    (HubStarts s iss [] → t.hubFenced 1 = true → exec (.fwOpen iss h) s = .next (t.refuse iss 0x1E) ∧
      exec (.fwWrite iss op0 data) s = .next (t.refuse iss 0x1E) ∧ exec (.fwVerify iss) s = .next (t.refuse iss 0x1E) ∧
      exec (.fwActivate iss) s = .next (t.refuse iss 0x1E)) ∧
    (HubStarts s iss [] → t.hubFenced 1 = false →
      (h.length ≠ 8192 ∨ headerOk h = false → exec (.fwOpen iss h) s = .next (t.refuse iss 0x2D)) ∧
      (h.length = 8192 → headerOk h = true → ∀ v d, v = hdrVersion h → d = bundleDigest h →
        (conflicts t v d = true → exec (.fwOpen iss h) s = .next ((t.logConflict 1 v).refuse iss 0x33)) ∧
        (conflicts t v d = false →
          (alreadyRuns t d = true → exec (.fwOpen iss h) s = .next (t.refuse iss 0x34)) ∧
          (alreadyRuns t d = false →
            (t.flag R.FWU_STATUS.confirm_pending = true → exec (.fwOpen iss h) s = .next (t.refuse iss 0x36)) ∧
            (t.flag R.FWU_STATUS.confirm_pending = false →
              (∀ u : State, (t.session = 0 → u = t) → (t.session = 1 → 2 ≤ t.fld R.FWU_STATUS.source → u = t.preempt) →
                t.session = 0 ∨ (t.session = 1 ∧ 2 ≤ t.fld R.FWU_STATUS.source) →
                exec (.fwOpen iss h) s = .next (((u.openSession 1 v (hdrSec h) (hdrTotal h) d).stage h).succeed iss 0 0)) ∧
              (t.session ≠ 0 → t.session ≠ 1 ∨ t.fld R.FWU_STATUS.source < 2 → exec (.fwOpen iss h) s
                = .next (((t.recordOffer 0 v (hdrSec h) (hdrTotal h) d).bump 0x3C01).refuse iss 0x2B)))))) ∧
      (t.session ≠ 1 ∨ t.fld R.FWU_STATUS.source ≠ 1 ∨ t.fw.ending ≠ none →
        exec (.fwWrite iss op0 data) s = .next (t.refuse iss 0x2C) ∧ exec (.fwVerify iss) s = .next (t.refuse iss 0x2C)) ∧
      (t.session = 1 → t.fld R.FWU_STATUS.source = 1 → t.fw.ending = none →
        (op0 % 2 ^ 32 ≠ t.fw.staged.length ∨ t.fw.totalLen < t.fw.staged.length + data.length →
          exec (.fwWrite iss op0 data) s = .next (t.refuse iss 0x35)) ∧
        (op0 % 2 ^ 32 = t.fw.staged.length → t.fw.staged.length + data.length ≤ t.fw.totalLen →
          exec (.fwWrite iss op0 data) s = .next ((t.stage data).succeed iss 0 0)) ∧
        (t.fw.staged.length ≠ t.fw.totalLen → exec (.fwVerify iss) s = .next (t.refuse iss 0x35)) ∧
        (t.fw.staged.length = t.fw.totalLen → exec (.fwVerify iss) s
          = .next (({ t with fw := { t.fw with cmd := some iss } } : State).setFld R.FWU_STATUS.state 2))) ∧
      (t.session ≠ 3 ∨ t.fw.ending ≠ none → exec (.fwActivate iss) s = .next (t.refuse iss 0x2C)) ∧
      (t.session = 3 → t.fw.ending = none → exec (.fwActivate iss) s = .next (if steppingOk t.fw.staged
        then ({ t with fw := { t.fw with cmd := some iss, actReq := true } } : State).setFld R.FWU_STATUS.state 4 else t.refuse iss 0x32))) ∧
    (∀ v d, conflicts s v d = true ↔ ∃ x, (running s = some x ∨ sessionBundle s = some x) ∧ x.1 = v ∧ x.2 ≠ d) ∧
    (s.session ≠ 2 → exec .verifyDone s = .next s) ∧
    (s.session = 2 → ∀ code, code = verifyCode (s.fld R.FWU_STATUS.floor) s.fw.staged
        (anyPoison s 3 stagingWord ((s.fw.staged.length + 31) / 32) allBytes) →
      (∀ r, code = some r → exec .verifyDone s = .next (((s.bump 0x3C02).refuseCmd r).endSession r)) ∧
      (code = none → ∀ v, v = ((s.setFld R.FWU_STATUS.state 3).succeedCmd 0).forward →
        (v.fld R.FWU_STATUS.source = 1 → exec .verifyDone s = .next v) ∧
        (v.fld R.FWU_STATUS.source ≠ 1 →
          (steppingOk s.fw.staged = false → exec .verifyDone s = .next (v.endSession 0x32)) ∧
          (steppingOk s.fw.staged = true → v.flag R.FWU_CTL.chain_act = false → exec .verifyDone s = .next v) ∧
          (steppingOk s.fw.staged = true → v.flag R.FWU_CTL.chain_act = true → exec .verifyDone s
            = .next (({ v with fw := { v.fw with cmd := none, actReq := true } } : State).setFld R.FWU_STATUS.state 4))))) ∧
    (HubStarts s iss [] →
      (t.session = 0 ∨ 3 < t.session ∨ t.fw.ending ≠ none → exec (.fwAbort iss) s = .next (t.refuse iss 0x2C)) ∧
      (1 ≤ t.session → t.session ≤ 3 → t.fw.ending = none →
        (t.fw.cmd = none → exec (.fwAbort iss) s = .next ((t.nextOpen.endSession (t.openNat % 256)).succeed iss 0 0)) ∧
        (∀ w, t.fw.cmd = some w → exec (.fwAbort iss) s
          = .next (((t.abortCmd w).nextOpen.endSession (t.openNat % 256)).succeed iss 0 0))) ∧
      (t.flag R.FWU_STATUS.confirm_pending = false ∨ t.fw.restore ≠ none →
        exec (.fwConfirm iss) s = .next (t.refuse iss 0x37) ∧ exec (.fwFallback iss) s = .next (t.refuse iss 0x37)) ∧
      (t.flag R.FWU_STATUS.confirm_pending = true → t.fw.restore = none →
        exec (.fwConfirm iss) s = .next (t.confirm.succeed iss 0 0) ∧
        (∀ b, t.fw.prev = some b → exec (.fwFallback iss) s
          = .next (t.nextOpen.askRestore { reason := t.openNat % 256, bundle := some b, iss := some iss, reject := true })) ∧
        (t.fw.prev = none → t.hubFenced 1 = true → exec (.fwFallback iss) s = .next (t.refuse iss 0x1E)) ∧
        (t.fw.prev = none → t.hubFenced 1 = false → ∀ i x, i = 1 - t.fld R.FWU_STATUS.active_slot →
          (i = 0 → x = t.fw.slots[0]) → (i ≠ 0 → x = t.fw.slots[1]) →
          (∀ c, verifyCode (t.fld R.FWU_STATUS.floor) x.image false = some c →
            exec (.fwFallback iss) s = .next ((t.bump 0x3C0B).refuse iss c)) ∧
          (∀ m, x.mark = some m → verifyCode (t.fld R.FWU_STATUS.floor) x.image false = none →
            (steppingOk x.image = false → exec (.fwFallback iss) s = .next ((t.bump 0x3C0B).refuse iss 0x32)) ∧
            (steppingOk x.image = true → exec (.fwFallback iss) s = .next (t.nextOpen.askRestore
              { reason := t.openNat % 256, bundle := some { slot := i, seq := m.1, image := x.image }, iss := some iss, reject := true }))))) ∧
      (t.fw.actAt ≠ none → exec (.fwAttest iss nonce) s = .next (t.holdBack iss)) ∧
      (t.fw.actAt = none → ∀ body report, body = attestReport t nonce → report = body ++ (Config.attestSign body).toList →
        exec (.fwAttest iss nonce) s = .next (((t.toHost 0 (.buffer 0 iss.tag (report ++ List.replicate (8192 - report.length) 0))).bump
          0x3C08).succeed iss 0 0)) ∧
      (∀ b, b = Config.identityPublicKey.toList ++ Config.identityChain →
        (n < b.length → exec (.fwIdRead iss n) s = .next (t.complete iss { Result.refuse 0x3C with result0 := b.length })) ∧
        (b.length ≤ n → exec (.fwIdRead iss n) s = .next ((t.toHost 0 (.buffer 0 iss.tag b)).succeed iss b.length 0)))) ∧
    (s.fw.actAt = none → exec (.hcfReady set) s = .next s ∧ exec .activationTimeout s = .next s) ∧
    (∀ k, s.fw.actAt = some k →
      (s.tick < k + 1 ∨ k + 16 ≤ s.tick → exec (.hcfReady set) s = .next s) ∧
      (k + 1 ≤ s.tick → s.tick < k + 16 → s.fw.restore = none →
        exec (.hcfReady none) s = .next (s.setFlag R.FWU_CORE.ready true) ∧
        (∀ f r, exec (.hcfReady (some (f, r))) s
          = .next (({ s with fw := s.fw.writeNew f r } : State).setFlag R.FWU_CORE.ready true))) ∧
      (k + 16 ≤ s.tick → s.flag R.FWU_CORE.ready = false → s.fw.restore = none →
        exec .activationTimeout s = .next (s.askRestore { reason := 0x38, bundle := s.fw.run, iss := none, reject := false })) ∧
      (s.tick < k + 16 ∨ s.flag R.FWU_CORE.ready = true ∨ s.fw.restore ≠ none → exec .activationTimeout s = .next s)) ∧
    (∀ t, t = s.setFlag R.FWU_CORE.fallback_req true →
      (t.fw.restore ≠ none → exec .hcfFallbackReq s = .next t) ∧
      (t.fw.restore = none → t.fw.actAt ≠ none → t.flag R.FWU_CORE.ready = false →
        exec .hcfFallbackReq s = .next (t.askRestore { reason := 0x39, bundle := t.fw.run, iss := none, reject := false })) ∧
      (∀ b, t.fw.restore = none → t.fw.actAt = none → t.flag R.FWU_STATUS.confirm_pending = true → t.fw.prev = some b →
        exec .hcfFallbackReq s = .next (t.askRestore { reason := 0x39, bundle := some b, iss := none, reject := true })) ∧
      (t.fw.restore = none → t.fw.actAt = none → t.flag R.FWU_STATUS.confirm_pending = false → exec .hcfFallbackReq s = .next t)) ∧
    (s.session ≠ 5 ∨ s.fw.run = none → ∀ ok, exec (.persistDone ok) s = .next s) ∧
    (∀ r, s.session = 5 → s.fw.run = some r → s.fw.restore = none → s.fw.ending = none →
      exec (.persistDone false) s = .next (s.askRestore { reason := 0x3B, bundle := s.fw.prev, iss := none, reject := false }) ∧
      exec (.persistDone true) s = .next (((({ s with fw := s.fw.modSlot r.slot (fun _ =>
        { mark := some (r.seq, .trial, bundleDigest r.image), image := r.image }) } : State).setFld R.FWU_STATUS.active_slot r.slot).confirmPending
          true).endSession 0)) ∧
    (s.flag R.FWU_STATUS.confirm_pending = true → s.fld R.FWU_CTL.confirm_frames ≠ 0 → s.fw.restore = none →
      s.fw.runFrom + s.fld R.FWU_CTL.confirm_frames ≤ s.tick → exec .autoConfirm s = .next s.confirm) ∧
    (s.flag R.FWU_STATUS.confirm_pending = false ∨ s.fld R.FWU_CTL.confirm_frames = 0 ∨ s.tick < s.fw.runFrom + s.fld R.FWU_CTL.confirm_frames →
      exec .autoConfirm s = .next s)

/-- Offers are answered, data is staged in order, and forwarding ends with its replies, aborts and deadlines.
It concludes exec = next, under conditions on the state and the operands alone, for: OFFER_RX, REPLY_RX, DATA_RX, ABORT_RX, PULL_RX, SESSION_COMPLETE, CHAIN_DATA_TIMEOUT, FORWARD_TIMEOUT, FORWARDING_END. -/
def Obligations.TheChainOffersAndForwardsBundles : Prop :=
  ∀ (s : State) (side v sec total dig off code : Nat) (bytes : List Byte), side < 2 →
    (exec (.offerRx side v sec total dig false) s = .next (s.bump 0x2780) ∧ exec (.replyRx side code off dig false) s = .next (s.bump 0x2780) ∧
      exec (.dataRx side off bytes false) s = .next (s.bump 0x2780) ∧ exec (.abortRx side code dig false) s = .next (s.bump 0x2780) ∧
      exec (.pullRx side dig false) s = .next (s.bump 0x2780)) ∧
    (s.flag R.FWU_CTL.chain_en = false → exec (.offerRx side v sec total dig true) s = .next (s.fwSend side (.reply 2 0 dig))) ∧
    (s.flag R.FWU_CTL.chain_en = true → s.hubFenced 1 = false → conflicts s v dig = true →
      exec (.offerRx side v sec total dig true) s = .next ((s.logConflict (side + 2) v).fwSend side (.reply 3 0 dig))) ∧
    (s.flag R.FWU_CTL.chain_en = true → s.hubFenced 1 = false → conflicts s v dig = false → alreadyRuns s dig = true →
      exec (.offerRx side v sec total dig true) s = .next (s.fwSend side (.reply 2 0 dig))) ∧
    (s.flag R.FWU_CTL.chain_en = true → s.hubFenced 1 = false → conflicts s v dig = false → alreadyRuns s dig = false →
      (s.session ≠ 0 ∨ s.flag R.FWU_STATUS.confirm_pending = true →
        exec (.offerRx side v sec total dig true) s
          = .next (((s.recordOffer (side + 1) v sec total dig).bump 0x3C01).fwSend side (.reply 1 0 dig))) ∧
      (s.session = 0 → s.flag R.FWU_STATUS.confirm_pending = false →
        (sec < s.fld R.FWU_STATUS.floor ∨ (∃ x, running s = some x ∧ v ≤ x.1) → exec (.offerRx side v sec total dig true) s = .next (s.fwSend side (.reply 2 0 dig))) ∧
        (s.fld R.FWU_STATUS.floor ≤ sec → (∀ x, running s = some x → x.1 < v) →
          exec (.offerRx side v sec total dig true) s = .next ((s.openSession (side + 2) v sec total dig).fwSend side (.reply 0 0 dig))))) ∧
    (s.session ≠ 1 ∨ s.fld R.FWU_STATUS.source ≠ side + 2 ∨ s.hubFenced 1 = true → exec (.dataRx side off bytes true) s = .next s) ∧
    (s.session = 1 → s.fld R.FWU_STATUS.source = side + 2 → s.hubFenced 1 = false →
      (off ≠ s.fw.staged.length ∨ s.fw.totalLen < s.fw.staged.length + bytes.length →
        exec (.dataRx side off bytes true) s = .next (s.fwSend side (.reply 5 s.fw.staged.length s.fw.digest))) ∧
      (off = s.fw.staged.length → s.fw.staged.length + bytes.length ≤ s.fw.totalLen → ∀ t, t = s.stage bytes →
        (t.fw.staged.length = t.fw.totalLen → exec (.dataRx side off bytes true) s = .next (t.setFld R.FWU_STATUS.state 2)) ∧
        (t.fw.staged.length ≠ t.fw.totalLen → exec (.dataRx side off bytes true) s = .next t))) ∧
    (Tab.find s.fw.fwd side = none → exec (.replyRx side code off dig true) s = .next s ∧ exec (.forwardTimeout side) s = .next s ∧
      exec (.forwardingEnd side) s = .next s) ∧
    (∀ f, Tab.find s.fw.fwd side = some f →
      (bundleDigest f.image = dig →
        exec (.replyRx side 0 off dig true) s
          = .next ((({ s with fw := { s.fw with fwd := Tab.put s.fw.fwd side { f with accepted := true } } } : State).sendData side f.image 0)) ∧
        exec (.replyRx side 5 off dig true) s = .next (s.sendData side f.image off) ∧
        (code ≠ 0 → code ≠ 5 → exec (.replyRx side code off dig true) s = .next (s.endForward side))) ∧
      exec (.forwardTimeout side) s = .next ((s.bump 0x3C0A).endForward side) ∧
      (f.accepted = true → exec (.forwardingEnd side) s = .next ((s.bump 0x3C06).endForward side)) ∧
      (f.accepted = false → exec (.forwardingEnd side) s = .next s)) ∧
    (1 ≤ s.session → s.session ≤ 3 → s.fld R.FWU_STATUS.source = side + 2 → s.fw.digest = dig →
      exec (.abortRx side code dig true) s = .next (s.endSession (code % 256))) ∧
    (s.session = 0 → Tab.find s.fw.fwd side = none → exec (.abortRx side code dig true) s = .next s) ∧
    (∀ f, s.session = 0 → Tab.find s.fw.fwd side = some f → bundleDigest f.image = dig →
      exec (.abortRx side code dig true) s = .next (s.endForward side)) ∧
    (s.fw.run = none → exec (.pullRx side dig true) s = .next (s.fwSend side (.reply 2 0 dig))) ∧
    (∀ r, s.fw.run = some r → bundleDigest r.image = dig → exec (.pullRx side dig true) s = .next (s.offerOn side r.image false)) ∧
    (s.fw.completed = false → exec .sessionComplete s = .next s) ∧
    (s.fw.completed = true → ∀ (t u : State) (above : Nat → Prop) (v' : Nat → Nat), t = { s with fw := { s.fw with completed := false } } →
      v' = (fun i => t.fld (R.FWU_OFFER_0.fw_version i)) →
      above = (fun i => t.flag (R.FWU_OFFER_1.valid i) = true ∧ ∀ x, running t = some x → x.1 < v' i) →
      (∀ i, (i = 1 ∧ above 1 ∧ (¬ above 2 ∨ v' 2 ≤ v' 1)) ∨ (i = 2 ∧ above 2 ∧ (¬ above 1 ∨ v' 1 < v' 2)) →
        u = ((t.fwSend (i - 1) (.pull (((Tab.find t.fw.offers i).map Offer.digest).getD 0))).bump 0x3C07).clearOffer i) →
      (¬ above 1 → ¬ above 2 → u = t) →
      (above 0 → exec .sessionComplete s = .next ((u.pulse 0x10D4 0).clearOffer 0)) ∧ (¬ above 0 → exec .sessionComplete s = .next u)) ∧
    (s.session = 1 → 2 ≤ s.fld R.FWU_STATUS.source → exec .chainDataTimeout s = .next (s.nextOpen.endSession (s.openNat % 256))) ∧
    (s.session ≠ 1 ∨ s.fld R.FWU_STATUS.source < 2 → exec .chainDataTimeout s = .next s)

/-- A write reaches its register field by field or is refused whole; a latched set, the sideband's halves and the transmitter's commits follow.
It concludes exec = next, under conditions on the state and the operands alone, for: LATCHED_SET_READ, SIDEBAND_READ_HALF, SIDEBAND_WRITE_HALF, REGISTER_WRITE, COEF_COMMIT, MASK_COMMIT. -/
def Obligations.RegisterAccessesTakeTheirFields : Prop :=
  ∀ (s : State) (src a v us : Nat) (p : Port),
    (∀ size en, 9 ≤ src ∨ sees src a = false → exec (.registerWrite src a size en v us) s = .next s) ∧
    (src < 9 → sees src a = true →
      (∀ size en, (size ≠ 4 ∧ size ≠ 8) ∨ a % size ≠ 0 ∨ en % 2 ^ size ≠ 2 ^ size - 1 →
        exec (.registerWrite src a size en v us) s = .next (s.recordAccess src a 1 true)) ∧
      (a % 4 = 0 → exec (.registerWrite src a 4 0xF v us) s = .next (s.write4 src a (v % 2 ^ 32) us)) ∧
      (a % 8 = 0 → exec (.registerWrite src a 8 0xFF v us) s
        = .next ((s.write4 src a (v % 2 ^ 32) us).write4 src (a + 4) (v / 2 ^ 32 % 2 ^ 32) us))) ∧
    (Reaches s src a → (regAt a).isSome = true → ringOwner a = none → ∀ t, t = s.setReg a (writtenWord s a v) →
      (portAt a = none → addrPort a = none → addrBlock a ≠ 4 → s.hubWrite src a v us = none →
        (hubOk s t a = true → s.write4 src a v us = s.afterWrite t a) ∧
        (hubOk s t a = false → s.write4 src a v us = s.refuseWrite a)) ∧
      (portAt a = some p → addrPort a ≠ none → s.portWrite src p a v = none →
        (portOk s t p a v = true → s.write4 src a v us = s.afterWrite t a) ∧
        (portOk s t p a v = false → s.write4 src a v us = s.refuseWrite a))) ∧
    (∀ w hi lo, mergeField v w (hi, lo, .ro) = w ∧ mergeField v w (hi, lo, .wo) = w ∧
      mergeField v w (hi, lo, .rw) = wordSetField w hi lo (bitsOf v hi lo) ∧
      mergeField v w (hi, lo, .rw1c) = wordSetField w hi lo (wordField w hi lo - (wordField w hi lo &&& bitsOf v hi lo))) ∧
    (setOf a = none → exec (.latchedSetRead src a) s = .next s) ∧
    (∀ l, setOf a = some l →
      (sees src a = false → exec (.latchedSetRead src a) s = .next (s.emit (.readData src a 0))) ∧
      (sees src a = true → accessKind s src a false ≠ 0 →
        exec (.latchedSetRead src a) s = .next ((s.emit (.readData src a 0)).recordAccess src a (accessKind s src a false) false)) ∧
      (sees src a = true → accessKind s src a false = 0 → ∀ t, t = s.emit (.readData src a (s.reg a).toNat) →
        exec (.latchedSetRead src a) s
          = .next { t with path := { t.path with latches := Tab.put t.path.latches (latchKey src a) (l.map t.reg) } })) ∧
    (sidebandKind s a false ≠ 0 →
      exec (.sidebandReadHalf a) s = .next ((s.emit (.readData 15 a 0)).recordAccess 15 a (sidebandKind s a false) false)) ∧
    (sidebandKind s a true ≠ 0 → exec (.sidebandWriteHalf a v us) s = .next (s.recordAccess 15 a (sidebandKind s a true) true)) ∧
    (a % 4 = 0 → sidebandKind s a false = 0 →
      exec (.sidebandReadHalf a) s
        = .next (((s.emit (.readData 15 a ((s.reg a).toNat % 2 ^ 16))).setShadow a (some (a, (s.reg a).toNat / 2 ^ 16))).dataHalf a false)) ∧
    (a % 4 = 0 → sidebandKind s (a + 2) false = 0 →
      (∀ h, s.shadowOf a = some (a, h) →
        exec (.sidebandReadHalf (a + 2)) s = .next (((s.emit (.readData 15 (a + 2) h)).setShadow a none).dataHalf a true)) ∧
      (s.shadowOf a = none ∨ (∃ b h, b ≠ a ∧ s.shadowOf a = some (b, h)) →
        exec (.sidebandReadHalf (a + 2)) s = .next ((s.emit (.readData 15 (a + 2) ((s.reg a).toNat / 2 ^ 16))).dataHalf a true))) ∧
    (a % 4 = 0 → sidebandKind s a true = 0 → s.path.held = none →
      exec (.sidebandWriteHalf a v us) s = .next { s with path := { s.path with held := some (a, v % 2 ^ 16) } }) ∧
    (∀ b h, a % 4 = 0 → sidebandKind s a true = 0 → s.path.held = some (b, h) → b ≠ a →
      ∀ t : State, t = ({ s with path := { s.path with held := none } } : State).bump 0x2C02 →
      exec (.sidebandWriteHalf a v us) s = .next { t with path := { t.path with held := some (a, v % 2 ^ 16) } }) ∧
    (a % 4 = 0 → sidebandKind s (a + 2) true = 0 → ∀ t : State, t = { s with path := { s.path with held := none } } →
      (∀ h, s.path.held = some (a, h) →
        exec (.sidebandWriteHalf (a + 2) v us) s = .next (t.write4 15 a (v % 2 ^ 16 * 2 ^ 16 + h) us)) ∧
      (s.path.held = none →
        exec (.sidebandWriteHalf (a + 2) v us) s = .next (t.write4 15 a (v % 2 ^ 16 * 2 ^ 16 + (s.reg a).toNat % 2 ^ 16) us))) ∧
    (Reaches s src (R.TXP_CTRL.addr p) →
      ∀ t, t = (((s.setFld (R.TXP_CTRL.dac_swing p) (bitsOf v 11 8)).setFld (R.TXP_CTRL.force_off p) (bitsOf v 0 0)).modTxp p
        (fun x => { x with coefReq := x.coefReq || bitAt v 31, maskReq := x.maskReq || bitAt v 30 })).commitStatus p →
      exec (.coefCommit src p v) s = .next t ∧ exec (.maskCommit src p v) s = .next t)
end

