-- ==== Sys2Proof/Laws/Tab.lean ====
section
/-!
SUPPORT. Laws of the sparse tables: read after write, and that every update keeps the canonical form.
-/
namespace Sys2Proof

variable {α : Type}

theorem Tab.mem_ins {k : Nat} {x : α} {t : Tab α} {e : Nat × α} : e ∈ Tab.ins k x t ↔ e = (k, x) ∨ e ∈ t := by
  induction t with
  | nil => simp [Tab.ins]
  | cons h t ih =>
    obtain ⟨i, y⟩ := h
    unfold Tab.ins
    split
    · simp
    · simp only [List.mem_cons, ih]
      tauto

theorem Tab.mem_del {k : Nat} {t : Tab α} {e : Nat × α} : e ∈ Tab.del t k ↔ e ∈ t ∧ e.1 ≠ k := by
  simp [Tab.del]

theorem Tab.rising_del {t : Tab α} (h : Tab.rising t) (k : Nat) : Tab.rising (Tab.del t k) :=
  List.Pairwise.filter _ h

theorem Tab.rising_ins {t : Tab α} {k : Nat} (h : Tab.rising t) (hk : ∀ e ∈ t, e.1 ≠ k) (x : α) : Tab.rising (Tab.ins k x t) := by
  induction t with
  | nil => simp [Tab.ins, Tab.rising]
  | cons e t ih =>
    obtain ⟨i, y⟩ := e
    have hi : i ≠ k := hk _ List.mem_cons_self
    obtain ⟨h1, h2⟩ := List.pairwise_cons.mp h
    unfold Tab.ins
    split
    · rename_i hlt
      refine List.pairwise_cons.mpr ⟨?_, h⟩
      intro e he
      rcases List.mem_cons.mp he with rfl | he
      · exact hlt
      · exact lt_trans hlt (h1 e he)
    · refine List.pairwise_cons.mpr ⟨?_, ih h2 (fun e he => hk e (List.mem_cons_of_mem _ he))⟩
      intro e he
      rcases Tab.mem_ins.mp he with rfl | he
      · show i < k
        omega
      · exact h1 e he

/-- A write keeps the canonical form. -/
theorem Tab.wf_set [DecidableEq α] {d : Nat → α} {t : Tab α} (h : Tab.wf d t) (k : Nat) (x : α) : Tab.wf d (Tab.set d t k x) := by
  unfold Tab.set
  split
  · exact ⟨Tab.rising_del h.1 k, fun e he => h.2 e (Tab.mem_del.mp he).1⟩
  · rename_i hx
    refine ⟨Tab.rising_ins (Tab.rising_del h.1 k) (fun e he => (Tab.mem_del.mp he).2) x, ?_⟩
    intro e he
    rcases Tab.mem_ins.mp he with rfl | he
    · exact hx
    · exact h.2 e (Tab.mem_del.mp he).1

/-- Leaving pairs out keeps the canonical form. -/
theorem Tab.wf_filter {d : Nat → α} {t : Tab α} (h : Tab.wf d t) (f : Nat × α → Bool) : Tab.wf d (t.filter f) :=
  ⟨List.Pairwise.filter _ h.1, fun e he => h.2 e (List.mem_filter.mp he).1⟩

theorem Tab.wf_nil (d : Nat → α) : Tab.wf d ([] : Tab α) := ⟨List.Pairwise.nil, by simp⟩

theorem Tab.del_cons (e : Nat × α) (t : Tab α) (k : Nat) :
    Tab.del (e :: t) k = if e.1 = k then Tab.del t k else e :: Tab.del t k := by
  unfold Tab.del
  by_cases h : e.1 = k <;> simp [h]

theorem Tab.get_del_same (d : Nat → α) (t : Tab α) (k : Nat) : Tab.get d (Tab.del t k) k = d k := by
  induction t with
  | nil => rfl
  | cons e t ih =>
    rw [Tab.del_cons]
    split
    · exact ih
    · rename_i h
      simp [Tab.get, h, ih]

theorem Tab.get_del_other (d : Nat → α) (t : Tab α) {k j : Nat} (h : j ≠ k) : Tab.get d (Tab.del t k) j = Tab.get d t j := by
  induction t with
  | nil => rfl
  | cons e t ih =>
    rw [Tab.del_cons]
    split
    · rename_i hk
      have : e.1 ≠ j := fun hj => h (hj ▸ hk)
      simp [Tab.get, ih, this]
    · simp [Tab.get, ih]

theorem Tab.get_ins_same (d : Nat → α) {t : Tab α} {k : Nat} (hk : ∀ e ∈ t, e.1 ≠ k) (x : α) : Tab.get d (Tab.ins k x t) k = x := by
  induction t with
  | nil => simp [Tab.ins, Tab.get]
  | cons e t ih =>
    obtain ⟨i, y⟩ := e
    have hi : i ≠ k := hk _ List.mem_cons_self
    unfold Tab.ins
    split
    · simp [Tab.get]
    · simp [Tab.get, hi, ih (fun e he => hk e (List.mem_cons_of_mem _ he))]

theorem Tab.get_ins_other (d : Nat → α) (t : Tab α) {k j : Nat} (h : j ≠ k) (x : α) : Tab.get d (Tab.ins k x t) j = Tab.get d t j := by
  induction t with
  | nil => simp [Tab.ins, Tab.get, Ne.symm h]
  | cons e t ih =>
    obtain ⟨i, y⟩ := e
    unfold Tab.ins
    split
    · simp [Tab.get, Ne.symm h]
    · simp [Tab.get, ih]

/-- A read of the key just written gives the value written. -/
@[simp] theorem Tab.get_set_same [DecidableEq α] (d : Nat → α) (t : Tab α) (k : Nat) (x : α) :
    Tab.get d (Tab.set d t k x) k = x := by
  unfold Tab.set
  split
  · rename_i h
    rw [Tab.get_del_same, h]
  · exact Tab.get_ins_same d (fun e he => (Tab.mem_del.mp he).2) x

/-- A write leaves every other key alone. -/
theorem Tab.get_set_other [DecidableEq α] (d : Nat → α) (t : Tab α) {k j : Nat} (h : j ≠ k) (x : α) :
    Tab.get d (Tab.set d t k x) j = Tab.get d t j := by
  unfold Tab.set
  split
  · exact Tab.get_del_other d t h
  · rw [Tab.get_ins_other d _ h, Tab.get_del_other d t h]

/-- A read after a write, for any two keys. -/
theorem Tab.get_set [DecidableEq α] (d : Nat → α) (t : Tab α) (k j : Nat) (x : α) :
    Tab.get d (Tab.set d t k x) j = if j = k then x else Tab.get d t j := by
  split
  · rename_i h
    subst h
    exact Tab.get_set_same d t j x
  · rename_i h
    exact Tab.get_set_other d t h x

theorem Tab.find_ins_same {t : Tab α} {k : Nat} (hk : ∀ e ∈ t, e.1 ≠ k) (x : α) : Tab.find (Tab.ins k x t) k = some x := by
  induction t with
  | nil => simp [Tab.ins, Tab.find]
  | cons e t ih =>
    obtain ⟨i, y⟩ := e
    have hi : i ≠ k := hk _ List.mem_cons_self
    unfold Tab.ins
    split
    · simp [Tab.find]
    · simp [Tab.find, hi, ih (fun e he => hk e (List.mem_cons_of_mem _ he))]

/-- A key that has been put is found. -/
@[simp] theorem Tab.find_put_same (t : Tab α) (k : Nat) (x : α) : Tab.find (Tab.put t k x) k = some x :=
  Tab.find_ins_same (fun _ he => (Tab.mem_del.mp he).2) x

theorem Tab.find_ins_other (t : Tab α) {k j : Nat} (h : j ≠ k) (x : α) : Tab.find (Tab.ins k x t) j = Tab.find t j := by
  induction t with
  | nil => simp [Tab.ins, Tab.find, Ne.symm h]
  | cons e t ih =>
    obtain ⟨i, y⟩ := e
    unfold Tab.ins
    split
    · simp [Tab.find, Ne.symm h]
    · simp [Tab.find, ih]

/-- A key that has been deleted is not found. -/
@[simp] theorem Tab.find_del_same (t : Tab α) (k : Nat) : Tab.find (Tab.del t k) k = none := by
  induction t with
  | nil => rfl
  | cons e t ih =>
    rw [Tab.del_cons]
    split
    · exact ih
    · rename_i hk
      simp [Tab.find, ih, hk]

/-- Deleting one key leaves the others. -/
theorem Tab.find_del_other (t : Tab α) {k j : Nat} (h : j ≠ k) : Tab.find (Tab.del t k) j = Tab.find t j := by
  induction t with
  | nil => rfl
  | cons e t ih =>
    rw [Tab.del_cons]
    split
    · rename_i hk
      have : e.1 ≠ j := fun hj => h (hj ▸ hk)
      simp [Tab.find, ih, this]
    · simp [Tab.find, ih]

/-- Putting one key leaves the others. -/
theorem Tab.find_put_other (t : Tab α) {k j : Nat} (h : j ≠ k) (x : α) : Tab.find (Tab.put t k x) j = Tab.find t j :=
  (Tab.find_ins_other _ h x).trans (Tab.find_del_other t h)

end Sys2Proof
end

