-- ==== Sys2Proof/Laws/State.lean ====
section
/-!
SUPPORT. One lemma per field per update of the state: what each primitive operation leaves alone, and what reads back.
-/
set_option linter.all false
namespace Sys2Proof.Machine

variable (s : State)


@[simp] theorem State.setReg_pending (a : Nat) (w : Word) : (s.setReg a w).pending = s.pending := rfl
@[simp] theorem State.setReg_snap0 (a : Nat) (w : Word) : (s.setReg a w).snap0 = s.snap0 := rfl
@[simp] theorem State.setReg_snap1 (a : Nat) (w : Word) : (s.setReg a w).snap1 = s.snap1 := rfl
@[simp] theorem State.setReg_snap2 (a : Nat) (w : Word) : (s.setReg a w).snap2 = s.snap2 := rfl
@[simp] theorem State.setReg_snap3 (a : Nat) (w : Word) : (s.setReg a w).snap3 = s.snap3 := rfl
@[simp] theorem State.setReg_tick (a : Nat) (w : Word) : (s.setReg a w).tick = s.tick := rfl
@[simp] theorem State.setReg_fc (a : Nat) (w : Word) : (s.setReg a w).fc = s.fc := rfl
@[simp] theorem State.setReg_ports (a : Nat) (w : Word) : (s.setReg a w).ports = s.ports := rfl
@[simp] theorem State.setReg_port (a : Nat) (w : Word) (p' : Port) : (s.setReg a w).port p' = s.port p' := rfl
@[simp] theorem State.setReg_ev (a : Nat) (w : Word) : (s.setReg a w).ev = s.ev := rfl
@[simp] theorem State.setReg_src (a : Nat) (w : Word) (i' : Nat) : (s.setReg a w).src i' = s.src i' := rfl
@[simp] theorem State.setReg_evQueue (a : Nat) (w : Word) (i' : Nat) : (s.setReg a w).evQueue i' = s.evQueue i' := rfl
@[simp] theorem State.setReg_ctr (a : Nat) (w : Word) : (s.setReg a w).ctr = s.ctr := rfl
@[simp] theorem State.setReg_counter (a : Nat) (w : Word) (i' : Nat) : (s.setReg a w).counter i' = s.counter i' := rfl
@[simp] theorem State.setReg_capture (a : Nat) (w : Word) : (s.setReg a w).capture = s.capture := rfl
@[simp] theorem State.setReg_hif (a : Nat) (w : Word) : (s.setReg a w).hif = s.hif := rfl
@[simp] theorem State.setReg_sq_find (a : Nat) (w : Word) (fn' j : Nat) : (s.setReg a w).sq? fn' j = s.sq? fn' j := rfl
@[simp] theorem State.setReg_cq_find (a : Nat) (w : Word) (fn' j : Nat) : (s.setReg a w).cq? fn' j = s.cq? fn' j := rfl
@[simp] theorem State.setReg_tm (a : Nat) (w : Word) : (s.setReg a w).tm = s.tm := rfl
@[simp] theorem State.setReg_flow (a : Nat) (w : Word) : (s.setReg a w).flow = s.flow := rfl
@[simp] theorem State.setReg_mem (a : Nat) (w : Word) : (s.setReg a w).mem = s.mem := rfl
@[simp] theorem State.setReg_rst (a : Nat) (w : Word) : (s.setReg a w).rst = s.rst := rfl
@[simp] theorem State.setReg_hk (a : Nat) (w : Word) : (s.setReg a w).hk = s.hk := rfl
@[simp] theorem State.setReg_thm (a : Nat) (w : Word) : (s.setReg a w).thm = s.thm := rfl
@[simp] theorem State.setReg_pair (a : Nat) (w : Word) : (s.setReg a w).pair = s.pair := rfl
@[simp] theorem State.setReg_lanes (a : Nat) (w : Word) : (s.setReg a w).lanes = s.lanes := rfl
@[simp] theorem State.setReg_fw (a : Nat) (w : Word) : (s.setReg a w).fw = s.fw := rfl
@[simp] theorem State.setReg_path (a : Nat) (w : Word) : (s.setReg a w).path = s.path := rfl
@[simp] theorem State.setReg_tod (a : Nat) (w : Word) : (s.setReg a w).tod = s.tod := rfl
@[simp] theorem State.setReg_out (a : Nat) (w : Word) : (s.setReg a w).out = s.out := rfl
@[simp] theorem State.setReg_late (a : Nat) (w : Word) : (s.setReg a w).late = s.late := rfl
@[simp] theorem State.setReg_freeCtr (a : Nat) (w : Word) : (s.setReg a w).freeCtr = s.freeCtr := rfl

@[simp] theorem State.setFld_pending (f : RegField) (v : Nat) : (s.setFld f v).pending = s.pending := rfl
@[simp] theorem State.setFld_snap0 (f : RegField) (v : Nat) : (s.setFld f v).snap0 = s.snap0 := rfl
@[simp] theorem State.setFld_snap1 (f : RegField) (v : Nat) : (s.setFld f v).snap1 = s.snap1 := rfl
@[simp] theorem State.setFld_snap2 (f : RegField) (v : Nat) : (s.setFld f v).snap2 = s.snap2 := rfl
@[simp] theorem State.setFld_snap3 (f : RegField) (v : Nat) : (s.setFld f v).snap3 = s.snap3 := rfl
@[simp] theorem State.setFld_tick (f : RegField) (v : Nat) : (s.setFld f v).tick = s.tick := rfl
@[simp] theorem State.setFld_fc (f : RegField) (v : Nat) : (s.setFld f v).fc = s.fc := rfl
@[simp] theorem State.setFld_ports (f : RegField) (v : Nat) : (s.setFld f v).ports = s.ports := rfl
@[simp] theorem State.setFld_port (f : RegField) (v : Nat) (p' : Port) : (s.setFld f v).port p' = s.port p' := rfl
@[simp] theorem State.setFld_ev (f : RegField) (v : Nat) : (s.setFld f v).ev = s.ev := rfl
@[simp] theorem State.setFld_src (f : RegField) (v : Nat) (i' : Nat) : (s.setFld f v).src i' = s.src i' := rfl
@[simp] theorem State.setFld_evQueue (f : RegField) (v : Nat) (i' : Nat) : (s.setFld f v).evQueue i' = s.evQueue i' := rfl
@[simp] theorem State.setFld_ctr (f : RegField) (v : Nat) : (s.setFld f v).ctr = s.ctr := rfl
@[simp] theorem State.setFld_counter (f : RegField) (v : Nat) (i' : Nat) : (s.setFld f v).counter i' = s.counter i' := rfl
@[simp] theorem State.setFld_capture (f : RegField) (v : Nat) : (s.setFld f v).capture = s.capture := rfl
@[simp] theorem State.setFld_hif (f : RegField) (v : Nat) : (s.setFld f v).hif = s.hif := rfl
@[simp] theorem State.setFld_sq_find (f : RegField) (v : Nat) (fn' j : Nat) : (s.setFld f v).sq? fn' j = s.sq? fn' j := rfl
@[simp] theorem State.setFld_cq_find (f : RegField) (v : Nat) (fn' j : Nat) : (s.setFld f v).cq? fn' j = s.cq? fn' j := rfl
@[simp] theorem State.setFld_tm (f : RegField) (v : Nat) : (s.setFld f v).tm = s.tm := rfl
@[simp] theorem State.setFld_flow (f : RegField) (v : Nat) : (s.setFld f v).flow = s.flow := rfl
@[simp] theorem State.setFld_mem (f : RegField) (v : Nat) : (s.setFld f v).mem = s.mem := rfl
@[simp] theorem State.setFld_rst (f : RegField) (v : Nat) : (s.setFld f v).rst = s.rst := rfl
@[simp] theorem State.setFld_hk (f : RegField) (v : Nat) : (s.setFld f v).hk = s.hk := rfl
@[simp] theorem State.setFld_thm (f : RegField) (v : Nat) : (s.setFld f v).thm = s.thm := rfl
@[simp] theorem State.setFld_pair (f : RegField) (v : Nat) : (s.setFld f v).pair = s.pair := rfl
@[simp] theorem State.setFld_lanes (f : RegField) (v : Nat) : (s.setFld f v).lanes = s.lanes := rfl
@[simp] theorem State.setFld_fw (f : RegField) (v : Nat) : (s.setFld f v).fw = s.fw := rfl
@[simp] theorem State.setFld_path (f : RegField) (v : Nat) : (s.setFld f v).path = s.path := rfl
@[simp] theorem State.setFld_tod (f : RegField) (v : Nat) : (s.setFld f v).tod = s.tod := rfl
@[simp] theorem State.setFld_out (f : RegField) (v : Nat) : (s.setFld f v).out = s.out := rfl
@[simp] theorem State.setFld_late (f : RegField) (v : Nat) : (s.setFld f v).late = s.late := rfl
@[simp] theorem State.setFld_freeCtr (f : RegField) (v : Nat) : (s.setFld f v).freeCtr = s.freeCtr := rfl

@[simp] theorem State.setFlag_pending (f : RegField) (b : Bool) : (s.setFlag f b).pending = s.pending := rfl
@[simp] theorem State.setFlag_snap0 (f : RegField) (b : Bool) : (s.setFlag f b).snap0 = s.snap0 := rfl
@[simp] theorem State.setFlag_snap1 (f : RegField) (b : Bool) : (s.setFlag f b).snap1 = s.snap1 := rfl
@[simp] theorem State.setFlag_snap2 (f : RegField) (b : Bool) : (s.setFlag f b).snap2 = s.snap2 := rfl
@[simp] theorem State.setFlag_snap3 (f : RegField) (b : Bool) : (s.setFlag f b).snap3 = s.snap3 := rfl
@[simp] theorem State.setFlag_tick (f : RegField) (b : Bool) : (s.setFlag f b).tick = s.tick := rfl
@[simp] theorem State.setFlag_fc (f : RegField) (b : Bool) : (s.setFlag f b).fc = s.fc := rfl
@[simp] theorem State.setFlag_ports (f : RegField) (b : Bool) : (s.setFlag f b).ports = s.ports := rfl
@[simp] theorem State.setFlag_port (f : RegField) (b : Bool) (p' : Port) : (s.setFlag f b).port p' = s.port p' := rfl
@[simp] theorem State.setFlag_ev (f : RegField) (b : Bool) : (s.setFlag f b).ev = s.ev := rfl
@[simp] theorem State.setFlag_src (f : RegField) (b : Bool) (i' : Nat) : (s.setFlag f b).src i' = s.src i' := rfl
@[simp] theorem State.setFlag_evQueue (f : RegField) (b : Bool) (i' : Nat) : (s.setFlag f b).evQueue i' = s.evQueue i' := rfl
@[simp] theorem State.setFlag_ctr (f : RegField) (b : Bool) : (s.setFlag f b).ctr = s.ctr := rfl
@[simp] theorem State.setFlag_counter (f : RegField) (b : Bool) (i' : Nat) : (s.setFlag f b).counter i' = s.counter i' := rfl
@[simp] theorem State.setFlag_capture (f : RegField) (b : Bool) : (s.setFlag f b).capture = s.capture := rfl
@[simp] theorem State.setFlag_hif (f : RegField) (b : Bool) : (s.setFlag f b).hif = s.hif := rfl
@[simp] theorem State.setFlag_sq_find (f : RegField) (b : Bool) (fn' j : Nat) : (s.setFlag f b).sq? fn' j = s.sq? fn' j := rfl
@[simp] theorem State.setFlag_cq_find (f : RegField) (b : Bool) (fn' j : Nat) : (s.setFlag f b).cq? fn' j = s.cq? fn' j := rfl
@[simp] theorem State.setFlag_tm (f : RegField) (b : Bool) : (s.setFlag f b).tm = s.tm := rfl
@[simp] theorem State.setFlag_flow (f : RegField) (b : Bool) : (s.setFlag f b).flow = s.flow := rfl
@[simp] theorem State.setFlag_mem (f : RegField) (b : Bool) : (s.setFlag f b).mem = s.mem := rfl
@[simp] theorem State.setFlag_rst (f : RegField) (b : Bool) : (s.setFlag f b).rst = s.rst := rfl
@[simp] theorem State.setFlag_hk (f : RegField) (b : Bool) : (s.setFlag f b).hk = s.hk := rfl
@[simp] theorem State.setFlag_thm (f : RegField) (b : Bool) : (s.setFlag f b).thm = s.thm := rfl
@[simp] theorem State.setFlag_pair (f : RegField) (b : Bool) : (s.setFlag f b).pair = s.pair := rfl
@[simp] theorem State.setFlag_lanes (f : RegField) (b : Bool) : (s.setFlag f b).lanes = s.lanes := rfl
@[simp] theorem State.setFlag_fw (f : RegField) (b : Bool) : (s.setFlag f b).fw = s.fw := rfl
@[simp] theorem State.setFlag_path (f : RegField) (b : Bool) : (s.setFlag f b).path = s.path := rfl
@[simp] theorem State.setFlag_tod (f : RegField) (b : Bool) : (s.setFlag f b).tod = s.tod := rfl
@[simp] theorem State.setFlag_out (f : RegField) (b : Bool) : (s.setFlag f b).out = s.out := rfl
@[simp] theorem State.setFlag_late (f : RegField) (b : Bool) : (s.setFlag f b).late = s.late := rfl
@[simp] theorem State.setFlag_freeCtr (f : RegField) (b : Bool) : (s.setFlag f b).freeCtr = s.freeCtr := rfl

@[simp] theorem State.addFldSat_pending (f : RegField) (v : Nat) : (s.addFldSat f v).pending = s.pending := rfl
@[simp] theorem State.addFldSat_snap0 (f : RegField) (v : Nat) : (s.addFldSat f v).snap0 = s.snap0 := rfl
@[simp] theorem State.addFldSat_snap1 (f : RegField) (v : Nat) : (s.addFldSat f v).snap1 = s.snap1 := rfl
@[simp] theorem State.addFldSat_snap2 (f : RegField) (v : Nat) : (s.addFldSat f v).snap2 = s.snap2 := rfl
@[simp] theorem State.addFldSat_snap3 (f : RegField) (v : Nat) : (s.addFldSat f v).snap3 = s.snap3 := rfl
@[simp] theorem State.addFldSat_tick (f : RegField) (v : Nat) : (s.addFldSat f v).tick = s.tick := rfl
@[simp] theorem State.addFldSat_fc (f : RegField) (v : Nat) : (s.addFldSat f v).fc = s.fc := rfl
@[simp] theorem State.addFldSat_ports (f : RegField) (v : Nat) : (s.addFldSat f v).ports = s.ports := rfl
@[simp] theorem State.addFldSat_port (f : RegField) (v : Nat) (p' : Port) : (s.addFldSat f v).port p' = s.port p' := rfl
@[simp] theorem State.addFldSat_ev (f : RegField) (v : Nat) : (s.addFldSat f v).ev = s.ev := rfl
@[simp] theorem State.addFldSat_src (f : RegField) (v : Nat) (i' : Nat) : (s.addFldSat f v).src i' = s.src i' := rfl
@[simp] theorem State.addFldSat_evQueue (f : RegField) (v : Nat) (i' : Nat) : (s.addFldSat f v).evQueue i' = s.evQueue i' := rfl
@[simp] theorem State.addFldSat_ctr (f : RegField) (v : Nat) : (s.addFldSat f v).ctr = s.ctr := rfl
@[simp] theorem State.addFldSat_counter (f : RegField) (v : Nat) (i' : Nat) : (s.addFldSat f v).counter i' = s.counter i' := rfl
@[simp] theorem State.addFldSat_capture (f : RegField) (v : Nat) : (s.addFldSat f v).capture = s.capture := rfl
@[simp] theorem State.addFldSat_hif (f : RegField) (v : Nat) : (s.addFldSat f v).hif = s.hif := rfl
@[simp] theorem State.addFldSat_sq_find (f : RegField) (v : Nat) (fn' j : Nat) : (s.addFldSat f v).sq? fn' j = s.sq? fn' j := rfl
@[simp] theorem State.addFldSat_cq_find (f : RegField) (v : Nat) (fn' j : Nat) : (s.addFldSat f v).cq? fn' j = s.cq? fn' j := rfl
@[simp] theorem State.addFldSat_tm (f : RegField) (v : Nat) : (s.addFldSat f v).tm = s.tm := rfl
@[simp] theorem State.addFldSat_flow (f : RegField) (v : Nat) : (s.addFldSat f v).flow = s.flow := rfl
@[simp] theorem State.addFldSat_mem (f : RegField) (v : Nat) : (s.addFldSat f v).mem = s.mem := rfl
@[simp] theorem State.addFldSat_rst (f : RegField) (v : Nat) : (s.addFldSat f v).rst = s.rst := rfl
@[simp] theorem State.addFldSat_hk (f : RegField) (v : Nat) : (s.addFldSat f v).hk = s.hk := rfl
@[simp] theorem State.addFldSat_thm (f : RegField) (v : Nat) : (s.addFldSat f v).thm = s.thm := rfl
@[simp] theorem State.addFldSat_pair (f : RegField) (v : Nat) : (s.addFldSat f v).pair = s.pair := rfl
@[simp] theorem State.addFldSat_lanes (f : RegField) (v : Nat) : (s.addFldSat f v).lanes = s.lanes := rfl
@[simp] theorem State.addFldSat_fw (f : RegField) (v : Nat) : (s.addFldSat f v).fw = s.fw := rfl
@[simp] theorem State.addFldSat_path (f : RegField) (v : Nat) : (s.addFldSat f v).path = s.path := rfl
@[simp] theorem State.addFldSat_tod (f : RegField) (v : Nat) : (s.addFldSat f v).tod = s.tod := rfl
@[simp] theorem State.addFldSat_out (f : RegField) (v : Nat) : (s.addFldSat f v).out = s.out := rfl
@[simp] theorem State.addFldSat_late (f : RegField) (v : Nat) : (s.addFldSat f v).late = s.late := rfl
@[simp] theorem State.addFldSat_freeCtr (f : RegField) (v : Nat) : (s.addFldSat f v).freeCtr = s.freeCtr := rfl

@[simp] theorem State.setPort_pending (p : Port) (x : PortState) : (s.setPort p x).pending = s.pending := rfl
@[simp] theorem State.setPort_regs (p : Port) (x : PortState) : (s.setPort p x).regs = s.regs := rfl
@[simp] theorem State.setPort_reg (p : Port) (x : PortState) (i : Nat) : (s.setPort p x).reg i = s.reg i := rfl
@[simp] theorem State.setPort_fld (p : Port) (x : PortState) (f' : RegField) : (s.setPort p x).fld f' = s.fld f' := rfl
@[simp] theorem State.setPort_flag (p : Port) (x : PortState) (f' : RegField) : (s.setPort p x).flag f' = s.flag f' := rfl
@[simp] theorem State.setPort_snap0 (p : Port) (x : PortState) : (s.setPort p x).snap0 = s.snap0 := rfl
@[simp] theorem State.setPort_snap1 (p : Port) (x : PortState) : (s.setPort p x).snap1 = s.snap1 := rfl
@[simp] theorem State.setPort_snap2 (p : Port) (x : PortState) : (s.setPort p x).snap2 = s.snap2 := rfl
@[simp] theorem State.setPort_snap3 (p : Port) (x : PortState) : (s.setPort p x).snap3 = s.snap3 := rfl
@[simp] theorem State.setPort_tick (p : Port) (x : PortState) : (s.setPort p x).tick = s.tick := rfl
@[simp] theorem State.setPort_fc (p : Port) (x : PortState) : (s.setPort p x).fc = s.fc := rfl
@[simp] theorem State.setPort_ev (p : Port) (x : PortState) : (s.setPort p x).ev = s.ev := rfl
@[simp] theorem State.setPort_src (p : Port) (x : PortState) (i' : Nat) : (s.setPort p x).src i' = s.src i' := rfl
@[simp] theorem State.setPort_evQueue (p : Port) (x : PortState) (i' : Nat) : (s.setPort p x).evQueue i' = s.evQueue i' := rfl
@[simp] theorem State.setPort_ctr (p : Port) (x : PortState) : (s.setPort p x).ctr = s.ctr := rfl
@[simp] theorem State.setPort_counter (p : Port) (x : PortState) (i' : Nat) : (s.setPort p x).counter i' = s.counter i' := rfl
@[simp] theorem State.setPort_capture (p : Port) (x : PortState) : (s.setPort p x).capture = s.capture := rfl
@[simp] theorem State.setPort_hif (p : Port) (x : PortState) : (s.setPort p x).hif = s.hif := rfl
@[simp] theorem State.setPort_sq_find (p : Port) (x : PortState) (fn' j : Nat) : (s.setPort p x).sq? fn' j = s.sq? fn' j := rfl
@[simp] theorem State.setPort_cq_find (p : Port) (x : PortState) (fn' j : Nat) : (s.setPort p x).cq? fn' j = s.cq? fn' j := rfl
@[simp] theorem State.setPort_tm (p : Port) (x : PortState) : (s.setPort p x).tm = s.tm := rfl
@[simp] theorem State.setPort_flow (p : Port) (x : PortState) : (s.setPort p x).flow = s.flow := rfl
@[simp] theorem State.setPort_mem (p : Port) (x : PortState) : (s.setPort p x).mem = s.mem := rfl
@[simp] theorem State.setPort_rst (p : Port) (x : PortState) : (s.setPort p x).rst = s.rst := rfl
@[simp] theorem State.setPort_hk (p : Port) (x : PortState) : (s.setPort p x).hk = s.hk := rfl
@[simp] theorem State.setPort_thm (p : Port) (x : PortState) : (s.setPort p x).thm = s.thm := rfl
@[simp] theorem State.setPort_pair (p : Port) (x : PortState) : (s.setPort p x).pair = s.pair := rfl
@[simp] theorem State.setPort_lanes (p : Port) (x : PortState) : (s.setPort p x).lanes = s.lanes := rfl
@[simp] theorem State.setPort_fw (p : Port) (x : PortState) : (s.setPort p x).fw = s.fw := rfl
@[simp] theorem State.setPort_path (p : Port) (x : PortState) : (s.setPort p x).path = s.path := rfl
@[simp] theorem State.setPort_tod (p : Port) (x : PortState) : (s.setPort p x).tod = s.tod := rfl
@[simp] theorem State.setPort_out (p : Port) (x : PortState) : (s.setPort p x).out = s.out := rfl
@[simp] theorem State.setPort_late (p : Port) (x : PortState) : (s.setPort p x).late = s.late := rfl
@[simp] theorem State.setPort_freeCtr (p : Port) (x : PortState) : (s.setPort p x).freeCtr = s.freeCtr := rfl

@[simp] theorem State.modPort_pending (p : Port) (g : PortState → PortState) : (s.modPort p g).pending = s.pending := rfl
@[simp] theorem State.modPort_regs (p : Port) (g : PortState → PortState) : (s.modPort p g).regs = s.regs := rfl
@[simp] theorem State.modPort_reg (p : Port) (g : PortState → PortState) (i : Nat) : (s.modPort p g).reg i = s.reg i := rfl
@[simp] theorem State.modPort_fld (p : Port) (g : PortState → PortState) (f' : RegField) : (s.modPort p g).fld f' = s.fld f' := rfl
@[simp] theorem State.modPort_flag (p : Port) (g : PortState → PortState) (f' : RegField) : (s.modPort p g).flag f' = s.flag f' := rfl
@[simp] theorem State.modPort_snap0 (p : Port) (g : PortState → PortState) : (s.modPort p g).snap0 = s.snap0 := rfl
@[simp] theorem State.modPort_snap1 (p : Port) (g : PortState → PortState) : (s.modPort p g).snap1 = s.snap1 := rfl
@[simp] theorem State.modPort_snap2 (p : Port) (g : PortState → PortState) : (s.modPort p g).snap2 = s.snap2 := rfl
@[simp] theorem State.modPort_snap3 (p : Port) (g : PortState → PortState) : (s.modPort p g).snap3 = s.snap3 := rfl
@[simp] theorem State.modPort_tick (p : Port) (g : PortState → PortState) : (s.modPort p g).tick = s.tick := rfl
@[simp] theorem State.modPort_fc (p : Port) (g : PortState → PortState) : (s.modPort p g).fc = s.fc := rfl
@[simp] theorem State.modPort_ev (p : Port) (g : PortState → PortState) : (s.modPort p g).ev = s.ev := rfl
@[simp] theorem State.modPort_src (p : Port) (g : PortState → PortState) (i' : Nat) : (s.modPort p g).src i' = s.src i' := rfl
@[simp] theorem State.modPort_evQueue (p : Port) (g : PortState → PortState) (i' : Nat) : (s.modPort p g).evQueue i' = s.evQueue i' := rfl
@[simp] theorem State.modPort_ctr (p : Port) (g : PortState → PortState) : (s.modPort p g).ctr = s.ctr := rfl
@[simp] theorem State.modPort_counter (p : Port) (g : PortState → PortState) (i' : Nat) : (s.modPort p g).counter i' = s.counter i' := rfl
@[simp] theorem State.modPort_capture (p : Port) (g : PortState → PortState) : (s.modPort p g).capture = s.capture := rfl
@[simp] theorem State.modPort_hif (p : Port) (g : PortState → PortState) : (s.modPort p g).hif = s.hif := rfl
@[simp] theorem State.modPort_sq_find (p : Port) (g : PortState → PortState) (fn' j : Nat) : (s.modPort p g).sq? fn' j = s.sq? fn' j := rfl
@[simp] theorem State.modPort_cq_find (p : Port) (g : PortState → PortState) (fn' j : Nat) : (s.modPort p g).cq? fn' j = s.cq? fn' j := rfl
@[simp] theorem State.modPort_tm (p : Port) (g : PortState → PortState) : (s.modPort p g).tm = s.tm := rfl
@[simp] theorem State.modPort_flow (p : Port) (g : PortState → PortState) : (s.modPort p g).flow = s.flow := rfl
@[simp] theorem State.modPort_mem (p : Port) (g : PortState → PortState) : (s.modPort p g).mem = s.mem := rfl
@[simp] theorem State.modPort_rst (p : Port) (g : PortState → PortState) : (s.modPort p g).rst = s.rst := rfl
@[simp] theorem State.modPort_hk (p : Port) (g : PortState → PortState) : (s.modPort p g).hk = s.hk := rfl
@[simp] theorem State.modPort_thm (p : Port) (g : PortState → PortState) : (s.modPort p g).thm = s.thm := rfl
@[simp] theorem State.modPort_pair (p : Port) (g : PortState → PortState) : (s.modPort p g).pair = s.pair := rfl
@[simp] theorem State.modPort_lanes (p : Port) (g : PortState → PortState) : (s.modPort p g).lanes = s.lanes := rfl
@[simp] theorem State.modPort_fw (p : Port) (g : PortState → PortState) : (s.modPort p g).fw = s.fw := rfl
@[simp] theorem State.modPort_path (p : Port) (g : PortState → PortState) : (s.modPort p g).path = s.path := rfl
@[simp] theorem State.modPort_tod (p : Port) (g : PortState → PortState) : (s.modPort p g).tod = s.tod := rfl
@[simp] theorem State.modPort_out (p : Port) (g : PortState → PortState) : (s.modPort p g).out = s.out := rfl
@[simp] theorem State.modPort_late (p : Port) (g : PortState → PortState) : (s.modPort p g).late = s.late := rfl
@[simp] theorem State.modPort_freeCtr (p : Port) (g : PortState → PortState) : (s.modPort p g).freeCtr = s.freeCtr := rfl

@[simp] theorem State.modMode_pending (p : Port) (g : ModeState → ModeState) : (s.modMode p g).pending = s.pending := rfl
@[simp] theorem State.modMode_regs (p : Port) (g : ModeState → ModeState) : (s.modMode p g).regs = s.regs := rfl
@[simp] theorem State.modMode_reg (p : Port) (g : ModeState → ModeState) (i : Nat) : (s.modMode p g).reg i = s.reg i := rfl
@[simp] theorem State.modMode_fld (p : Port) (g : ModeState → ModeState) (f' : RegField) : (s.modMode p g).fld f' = s.fld f' := rfl
@[simp] theorem State.modMode_flag (p : Port) (g : ModeState → ModeState) (f' : RegField) : (s.modMode p g).flag f' = s.flag f' := rfl
@[simp] theorem State.modMode_snap0 (p : Port) (g : ModeState → ModeState) : (s.modMode p g).snap0 = s.snap0 := rfl
@[simp] theorem State.modMode_snap1 (p : Port) (g : ModeState → ModeState) : (s.modMode p g).snap1 = s.snap1 := rfl
@[simp] theorem State.modMode_snap2 (p : Port) (g : ModeState → ModeState) : (s.modMode p g).snap2 = s.snap2 := rfl
@[simp] theorem State.modMode_snap3 (p : Port) (g : ModeState → ModeState) : (s.modMode p g).snap3 = s.snap3 := rfl
@[simp] theorem State.modMode_tick (p : Port) (g : ModeState → ModeState) : (s.modMode p g).tick = s.tick := rfl
@[simp] theorem State.modMode_fc (p : Port) (g : ModeState → ModeState) : (s.modMode p g).fc = s.fc := rfl
@[simp] theorem State.modMode_ev (p : Port) (g : ModeState → ModeState) : (s.modMode p g).ev = s.ev := rfl
@[simp] theorem State.modMode_src (p : Port) (g : ModeState → ModeState) (i' : Nat) : (s.modMode p g).src i' = s.src i' := rfl
@[simp] theorem State.modMode_evQueue (p : Port) (g : ModeState → ModeState) (i' : Nat) : (s.modMode p g).evQueue i' = s.evQueue i' := rfl
@[simp] theorem State.modMode_ctr (p : Port) (g : ModeState → ModeState) : (s.modMode p g).ctr = s.ctr := rfl
@[simp] theorem State.modMode_counter (p : Port) (g : ModeState → ModeState) (i' : Nat) : (s.modMode p g).counter i' = s.counter i' := rfl
@[simp] theorem State.modMode_capture (p : Port) (g : ModeState → ModeState) : (s.modMode p g).capture = s.capture := rfl
@[simp] theorem State.modMode_hif (p : Port) (g : ModeState → ModeState) : (s.modMode p g).hif = s.hif := rfl
@[simp] theorem State.modMode_sq_find (p : Port) (g : ModeState → ModeState) (fn' j : Nat) : (s.modMode p g).sq? fn' j = s.sq? fn' j := rfl
@[simp] theorem State.modMode_cq_find (p : Port) (g : ModeState → ModeState) (fn' j : Nat) : (s.modMode p g).cq? fn' j = s.cq? fn' j := rfl
@[simp] theorem State.modMode_tm (p : Port) (g : ModeState → ModeState) : (s.modMode p g).tm = s.tm := rfl
@[simp] theorem State.modMode_flow (p : Port) (g : ModeState → ModeState) : (s.modMode p g).flow = s.flow := rfl
@[simp] theorem State.modMode_mem (p : Port) (g : ModeState → ModeState) : (s.modMode p g).mem = s.mem := rfl
@[simp] theorem State.modMode_rst (p : Port) (g : ModeState → ModeState) : (s.modMode p g).rst = s.rst := rfl
@[simp] theorem State.modMode_hk (p : Port) (g : ModeState → ModeState) : (s.modMode p g).hk = s.hk := rfl
@[simp] theorem State.modMode_thm (p : Port) (g : ModeState → ModeState) : (s.modMode p g).thm = s.thm := rfl
@[simp] theorem State.modMode_pair (p : Port) (g : ModeState → ModeState) : (s.modMode p g).pair = s.pair := rfl
@[simp] theorem State.modMode_lanes (p : Port) (g : ModeState → ModeState) : (s.modMode p g).lanes = s.lanes := rfl
@[simp] theorem State.modMode_fw (p : Port) (g : ModeState → ModeState) : (s.modMode p g).fw = s.fw := rfl
@[simp] theorem State.modMode_path (p : Port) (g : ModeState → ModeState) : (s.modMode p g).path = s.path := rfl
@[simp] theorem State.modMode_tod (p : Port) (g : ModeState → ModeState) : (s.modMode p g).tod = s.tod := rfl
@[simp] theorem State.modMode_out (p : Port) (g : ModeState → ModeState) : (s.modMode p g).out = s.out := rfl
@[simp] theorem State.modMode_late (p : Port) (g : ModeState → ModeState) : (s.modMode p g).late = s.late := rfl
@[simp] theorem State.modMode_freeCtr (p : Port) (g : ModeState → ModeState) : (s.modMode p g).freeCtr = s.freeCtr := rfl

@[simp] theorem State.modCnv_pending (p : Port) (g : CnvState → CnvState) : (s.modCnv p g).pending = s.pending := rfl
@[simp] theorem State.modCnv_regs (p : Port) (g : CnvState → CnvState) : (s.modCnv p g).regs = s.regs := rfl
@[simp] theorem State.modCnv_reg (p : Port) (g : CnvState → CnvState) (i : Nat) : (s.modCnv p g).reg i = s.reg i := rfl
@[simp] theorem State.modCnv_fld (p : Port) (g : CnvState → CnvState) (f' : RegField) : (s.modCnv p g).fld f' = s.fld f' := rfl
@[simp] theorem State.modCnv_flag (p : Port) (g : CnvState → CnvState) (f' : RegField) : (s.modCnv p g).flag f' = s.flag f' := rfl
@[simp] theorem State.modCnv_snap0 (p : Port) (g : CnvState → CnvState) : (s.modCnv p g).snap0 = s.snap0 := rfl
@[simp] theorem State.modCnv_snap1 (p : Port) (g : CnvState → CnvState) : (s.modCnv p g).snap1 = s.snap1 := rfl
@[simp] theorem State.modCnv_snap2 (p : Port) (g : CnvState → CnvState) : (s.modCnv p g).snap2 = s.snap2 := rfl
@[simp] theorem State.modCnv_snap3 (p : Port) (g : CnvState → CnvState) : (s.modCnv p g).snap3 = s.snap3 := rfl
@[simp] theorem State.modCnv_tick (p : Port) (g : CnvState → CnvState) : (s.modCnv p g).tick = s.tick := rfl
@[simp] theorem State.modCnv_fc (p : Port) (g : CnvState → CnvState) : (s.modCnv p g).fc = s.fc := rfl
@[simp] theorem State.modCnv_ev (p : Port) (g : CnvState → CnvState) : (s.modCnv p g).ev = s.ev := rfl
@[simp] theorem State.modCnv_src (p : Port) (g : CnvState → CnvState) (i' : Nat) : (s.modCnv p g).src i' = s.src i' := rfl
@[simp] theorem State.modCnv_evQueue (p : Port) (g : CnvState → CnvState) (i' : Nat) : (s.modCnv p g).evQueue i' = s.evQueue i' := rfl
@[simp] theorem State.modCnv_ctr (p : Port) (g : CnvState → CnvState) : (s.modCnv p g).ctr = s.ctr := rfl
@[simp] theorem State.modCnv_counter (p : Port) (g : CnvState → CnvState) (i' : Nat) : (s.modCnv p g).counter i' = s.counter i' := rfl
@[simp] theorem State.modCnv_capture (p : Port) (g : CnvState → CnvState) : (s.modCnv p g).capture = s.capture := rfl
@[simp] theorem State.modCnv_hif (p : Port) (g : CnvState → CnvState) : (s.modCnv p g).hif = s.hif := rfl
@[simp] theorem State.modCnv_sq_find (p : Port) (g : CnvState → CnvState) (fn' j : Nat) : (s.modCnv p g).sq? fn' j = s.sq? fn' j := rfl
@[simp] theorem State.modCnv_cq_find (p : Port) (g : CnvState → CnvState) (fn' j : Nat) : (s.modCnv p g).cq? fn' j = s.cq? fn' j := rfl
@[simp] theorem State.modCnv_tm (p : Port) (g : CnvState → CnvState) : (s.modCnv p g).tm = s.tm := rfl
@[simp] theorem State.modCnv_flow (p : Port) (g : CnvState → CnvState) : (s.modCnv p g).flow = s.flow := rfl
@[simp] theorem State.modCnv_mem (p : Port) (g : CnvState → CnvState) : (s.modCnv p g).mem = s.mem := rfl
@[simp] theorem State.modCnv_rst (p : Port) (g : CnvState → CnvState) : (s.modCnv p g).rst = s.rst := rfl
@[simp] theorem State.modCnv_hk (p : Port) (g : CnvState → CnvState) : (s.modCnv p g).hk = s.hk := rfl
@[simp] theorem State.modCnv_thm (p : Port) (g : CnvState → CnvState) : (s.modCnv p g).thm = s.thm := rfl
@[simp] theorem State.modCnv_pair (p : Port) (g : CnvState → CnvState) : (s.modCnv p g).pair = s.pair := rfl
@[simp] theorem State.modCnv_lanes (p : Port) (g : CnvState → CnvState) : (s.modCnv p g).lanes = s.lanes := rfl
@[simp] theorem State.modCnv_fw (p : Port) (g : CnvState → CnvState) : (s.modCnv p g).fw = s.fw := rfl
@[simp] theorem State.modCnv_path (p : Port) (g : CnvState → CnvState) : (s.modCnv p g).path = s.path := rfl
@[simp] theorem State.modCnv_tod (p : Port) (g : CnvState → CnvState) : (s.modCnv p g).tod = s.tod := rfl
@[simp] theorem State.modCnv_out (p : Port) (g : CnvState → CnvState) : (s.modCnv p g).out = s.out := rfl
@[simp] theorem State.modCnv_late (p : Port) (g : CnvState → CnvState) : (s.modCnv p g).late = s.late := rfl
@[simp] theorem State.modCnv_freeCtr (p : Port) (g : CnvState → CnvState) : (s.modCnv p g).freeCtr = s.freeCtr := rfl

@[simp] theorem State.modSlu_pending (p : Port) (g : SluState → SluState) : (s.modSlu p g).pending = s.pending := rfl
@[simp] theorem State.modSlu_regs (p : Port) (g : SluState → SluState) : (s.modSlu p g).regs = s.regs := rfl
@[simp] theorem State.modSlu_reg (p : Port) (g : SluState → SluState) (i : Nat) : (s.modSlu p g).reg i = s.reg i := rfl
@[simp] theorem State.modSlu_fld (p : Port) (g : SluState → SluState) (f' : RegField) : (s.modSlu p g).fld f' = s.fld f' := rfl
@[simp] theorem State.modSlu_flag (p : Port) (g : SluState → SluState) (f' : RegField) : (s.modSlu p g).flag f' = s.flag f' := rfl
@[simp] theorem State.modSlu_snap0 (p : Port) (g : SluState → SluState) : (s.modSlu p g).snap0 = s.snap0 := rfl
@[simp] theorem State.modSlu_snap1 (p : Port) (g : SluState → SluState) : (s.modSlu p g).snap1 = s.snap1 := rfl
@[simp] theorem State.modSlu_snap2 (p : Port) (g : SluState → SluState) : (s.modSlu p g).snap2 = s.snap2 := rfl
@[simp] theorem State.modSlu_snap3 (p : Port) (g : SluState → SluState) : (s.modSlu p g).snap3 = s.snap3 := rfl
@[simp] theorem State.modSlu_tick (p : Port) (g : SluState → SluState) : (s.modSlu p g).tick = s.tick := rfl
@[simp] theorem State.modSlu_fc (p : Port) (g : SluState → SluState) : (s.modSlu p g).fc = s.fc := rfl
@[simp] theorem State.modSlu_ev (p : Port) (g : SluState → SluState) : (s.modSlu p g).ev = s.ev := rfl
@[simp] theorem State.modSlu_src (p : Port) (g : SluState → SluState) (i' : Nat) : (s.modSlu p g).src i' = s.src i' := rfl
@[simp] theorem State.modSlu_evQueue (p : Port) (g : SluState → SluState) (i' : Nat) : (s.modSlu p g).evQueue i' = s.evQueue i' := rfl
@[simp] theorem State.modSlu_ctr (p : Port) (g : SluState → SluState) : (s.modSlu p g).ctr = s.ctr := rfl
@[simp] theorem State.modSlu_counter (p : Port) (g : SluState → SluState) (i' : Nat) : (s.modSlu p g).counter i' = s.counter i' := rfl
@[simp] theorem State.modSlu_capture (p : Port) (g : SluState → SluState) : (s.modSlu p g).capture = s.capture := rfl
@[simp] theorem State.modSlu_hif (p : Port) (g : SluState → SluState) : (s.modSlu p g).hif = s.hif := rfl
@[simp] theorem State.modSlu_sq_find (p : Port) (g : SluState → SluState) (fn' j : Nat) : (s.modSlu p g).sq? fn' j = s.sq? fn' j := rfl
@[simp] theorem State.modSlu_cq_find (p : Port) (g : SluState → SluState) (fn' j : Nat) : (s.modSlu p g).cq? fn' j = s.cq? fn' j := rfl
@[simp] theorem State.modSlu_tm (p : Port) (g : SluState → SluState) : (s.modSlu p g).tm = s.tm := rfl
@[simp] theorem State.modSlu_flow (p : Port) (g : SluState → SluState) : (s.modSlu p g).flow = s.flow := rfl
@[simp] theorem State.modSlu_mem (p : Port) (g : SluState → SluState) : (s.modSlu p g).mem = s.mem := rfl
@[simp] theorem State.modSlu_rst (p : Port) (g : SluState → SluState) : (s.modSlu p g).rst = s.rst := rfl
@[simp] theorem State.modSlu_hk (p : Port) (g : SluState → SluState) : (s.modSlu p g).hk = s.hk := rfl
@[simp] theorem State.modSlu_thm (p : Port) (g : SluState → SluState) : (s.modSlu p g).thm = s.thm := rfl
@[simp] theorem State.modSlu_pair (p : Port) (g : SluState → SluState) : (s.modSlu p g).pair = s.pair := rfl
@[simp] theorem State.modSlu_lanes (p : Port) (g : SluState → SluState) : (s.modSlu p g).lanes = s.lanes := rfl
@[simp] theorem State.modSlu_fw (p : Port) (g : SluState → SluState) : (s.modSlu p g).fw = s.fw := rfl
@[simp] theorem State.modSlu_path (p : Port) (g : SluState → SluState) : (s.modSlu p g).path = s.path := rfl
@[simp] theorem State.modSlu_tod (p : Port) (g : SluState → SluState) : (s.modSlu p g).tod = s.tod := rfl
@[simp] theorem State.modSlu_out (p : Port) (g : SluState → SluState) : (s.modSlu p g).out = s.out := rfl
@[simp] theorem State.modSlu_late (p : Port) (g : SluState → SluState) : (s.modSlu p g).late = s.late := rfl
@[simp] theorem State.modSlu_freeCtr (p : Port) (g : SluState → SluState) : (s.modSlu p g).freeCtr = s.freeCtr := rfl

@[simp] theorem State.modRake_pending (p : Port) (g : RakeState → RakeState) : (s.modRake p g).pending = s.pending := rfl
@[simp] theorem State.modRake_regs (p : Port) (g : RakeState → RakeState) : (s.modRake p g).regs = s.regs := rfl
@[simp] theorem State.modRake_reg (p : Port) (g : RakeState → RakeState) (i : Nat) : (s.modRake p g).reg i = s.reg i := rfl
@[simp] theorem State.modRake_fld (p : Port) (g : RakeState → RakeState) (f' : RegField) : (s.modRake p g).fld f' = s.fld f' := rfl
@[simp] theorem State.modRake_flag (p : Port) (g : RakeState → RakeState) (f' : RegField) : (s.modRake p g).flag f' = s.flag f' := rfl
@[simp] theorem State.modRake_snap0 (p : Port) (g : RakeState → RakeState) : (s.modRake p g).snap0 = s.snap0 := rfl
@[simp] theorem State.modRake_snap1 (p : Port) (g : RakeState → RakeState) : (s.modRake p g).snap1 = s.snap1 := rfl
@[simp] theorem State.modRake_snap2 (p : Port) (g : RakeState → RakeState) : (s.modRake p g).snap2 = s.snap2 := rfl
@[simp] theorem State.modRake_snap3 (p : Port) (g : RakeState → RakeState) : (s.modRake p g).snap3 = s.snap3 := rfl
@[simp] theorem State.modRake_tick (p : Port) (g : RakeState → RakeState) : (s.modRake p g).tick = s.tick := rfl
@[simp] theorem State.modRake_fc (p : Port) (g : RakeState → RakeState) : (s.modRake p g).fc = s.fc := rfl
@[simp] theorem State.modRake_ev (p : Port) (g : RakeState → RakeState) : (s.modRake p g).ev = s.ev := rfl
@[simp] theorem State.modRake_src (p : Port) (g : RakeState → RakeState) (i' : Nat) : (s.modRake p g).src i' = s.src i' := rfl
@[simp] theorem State.modRake_evQueue (p : Port) (g : RakeState → RakeState) (i' : Nat) : (s.modRake p g).evQueue i' = s.evQueue i' := rfl
@[simp] theorem State.modRake_ctr (p : Port) (g : RakeState → RakeState) : (s.modRake p g).ctr = s.ctr := rfl
@[simp] theorem State.modRake_counter (p : Port) (g : RakeState → RakeState) (i' : Nat) : (s.modRake p g).counter i' = s.counter i' := rfl
@[simp] theorem State.modRake_capture (p : Port) (g : RakeState → RakeState) : (s.modRake p g).capture = s.capture := rfl
@[simp] theorem State.modRake_hif (p : Port) (g : RakeState → RakeState) : (s.modRake p g).hif = s.hif := rfl
@[simp] theorem State.modRake_sq_find (p : Port) (g : RakeState → RakeState) (fn' j : Nat) : (s.modRake p g).sq? fn' j = s.sq? fn' j := rfl
@[simp] theorem State.modRake_cq_find (p : Port) (g : RakeState → RakeState) (fn' j : Nat) : (s.modRake p g).cq? fn' j = s.cq? fn' j := rfl
@[simp] theorem State.modRake_tm (p : Port) (g : RakeState → RakeState) : (s.modRake p g).tm = s.tm := rfl
@[simp] theorem State.modRake_flow (p : Port) (g : RakeState → RakeState) : (s.modRake p g).flow = s.flow := rfl
@[simp] theorem State.modRake_mem (p : Port) (g : RakeState → RakeState) : (s.modRake p g).mem = s.mem := rfl
@[simp] theorem State.modRake_rst (p : Port) (g : RakeState → RakeState) : (s.modRake p g).rst = s.rst := rfl
@[simp] theorem State.modRake_hk (p : Port) (g : RakeState → RakeState) : (s.modRake p g).hk = s.hk := rfl
@[simp] theorem State.modRake_thm (p : Port) (g : RakeState → RakeState) : (s.modRake p g).thm = s.thm := rfl
@[simp] theorem State.modRake_pair (p : Port) (g : RakeState → RakeState) : (s.modRake p g).pair = s.pair := rfl
@[simp] theorem State.modRake_lanes (p : Port) (g : RakeState → RakeState) : (s.modRake p g).lanes = s.lanes := rfl
@[simp] theorem State.modRake_fw (p : Port) (g : RakeState → RakeState) : (s.modRake p g).fw = s.fw := rfl
@[simp] theorem State.modRake_path (p : Port) (g : RakeState → RakeState) : (s.modRake p g).path = s.path := rfl
@[simp] theorem State.modRake_tod (p : Port) (g : RakeState → RakeState) : (s.modRake p g).tod = s.tod := rfl
@[simp] theorem State.modRake_out (p : Port) (g : RakeState → RakeState) : (s.modRake p g).out = s.out := rfl
@[simp] theorem State.modRake_late (p : Port) (g : RakeState → RakeState) : (s.modRake p g).late = s.late := rfl
@[simp] theorem State.modRake_freeCtr (p : Port) (g : RakeState → RakeState) : (s.modRake p g).freeCtr = s.freeCtr := rfl

@[simp] theorem State.modXtl_pending (p : Port) (g : XtlState → XtlState) : (s.modXtl p g).pending = s.pending := rfl
@[simp] theorem State.modXtl_regs (p : Port) (g : XtlState → XtlState) : (s.modXtl p g).regs = s.regs := rfl
@[simp] theorem State.modXtl_reg (p : Port) (g : XtlState → XtlState) (i : Nat) : (s.modXtl p g).reg i = s.reg i := rfl
@[simp] theorem State.modXtl_fld (p : Port) (g : XtlState → XtlState) (f' : RegField) : (s.modXtl p g).fld f' = s.fld f' := rfl
@[simp] theorem State.modXtl_flag (p : Port) (g : XtlState → XtlState) (f' : RegField) : (s.modXtl p g).flag f' = s.flag f' := rfl
@[simp] theorem State.modXtl_snap0 (p : Port) (g : XtlState → XtlState) : (s.modXtl p g).snap0 = s.snap0 := rfl
@[simp] theorem State.modXtl_snap1 (p : Port) (g : XtlState → XtlState) : (s.modXtl p g).snap1 = s.snap1 := rfl
@[simp] theorem State.modXtl_snap2 (p : Port) (g : XtlState → XtlState) : (s.modXtl p g).snap2 = s.snap2 := rfl
@[simp] theorem State.modXtl_snap3 (p : Port) (g : XtlState → XtlState) : (s.modXtl p g).snap3 = s.snap3 := rfl
@[simp] theorem State.modXtl_tick (p : Port) (g : XtlState → XtlState) : (s.modXtl p g).tick = s.tick := rfl
@[simp] theorem State.modXtl_fc (p : Port) (g : XtlState → XtlState) : (s.modXtl p g).fc = s.fc := rfl
@[simp] theorem State.modXtl_ev (p : Port) (g : XtlState → XtlState) : (s.modXtl p g).ev = s.ev := rfl
@[simp] theorem State.modXtl_src (p : Port) (g : XtlState → XtlState) (i' : Nat) : (s.modXtl p g).src i' = s.src i' := rfl
@[simp] theorem State.modXtl_evQueue (p : Port) (g : XtlState → XtlState) (i' : Nat) : (s.modXtl p g).evQueue i' = s.evQueue i' := rfl
@[simp] theorem State.modXtl_ctr (p : Port) (g : XtlState → XtlState) : (s.modXtl p g).ctr = s.ctr := rfl
@[simp] theorem State.modXtl_counter (p : Port) (g : XtlState → XtlState) (i' : Nat) : (s.modXtl p g).counter i' = s.counter i' := rfl
@[simp] theorem State.modXtl_capture (p : Port) (g : XtlState → XtlState) : (s.modXtl p g).capture = s.capture := rfl
@[simp] theorem State.modXtl_hif (p : Port) (g : XtlState → XtlState) : (s.modXtl p g).hif = s.hif := rfl
@[simp] theorem State.modXtl_sq_find (p : Port) (g : XtlState → XtlState) (fn' j : Nat) : (s.modXtl p g).sq? fn' j = s.sq? fn' j := rfl
@[simp] theorem State.modXtl_cq_find (p : Port) (g : XtlState → XtlState) (fn' j : Nat) : (s.modXtl p g).cq? fn' j = s.cq? fn' j := rfl
@[simp] theorem State.modXtl_tm (p : Port) (g : XtlState → XtlState) : (s.modXtl p g).tm = s.tm := rfl
@[simp] theorem State.modXtl_flow (p : Port) (g : XtlState → XtlState) : (s.modXtl p g).flow = s.flow := rfl
@[simp] theorem State.modXtl_mem (p : Port) (g : XtlState → XtlState) : (s.modXtl p g).mem = s.mem := rfl
@[simp] theorem State.modXtl_rst (p : Port) (g : XtlState → XtlState) : (s.modXtl p g).rst = s.rst := rfl
@[simp] theorem State.modXtl_hk (p : Port) (g : XtlState → XtlState) : (s.modXtl p g).hk = s.hk := rfl
@[simp] theorem State.modXtl_thm (p : Port) (g : XtlState → XtlState) : (s.modXtl p g).thm = s.thm := rfl
@[simp] theorem State.modXtl_pair (p : Port) (g : XtlState → XtlState) : (s.modXtl p g).pair = s.pair := rfl
@[simp] theorem State.modXtl_lanes (p : Port) (g : XtlState → XtlState) : (s.modXtl p g).lanes = s.lanes := rfl
@[simp] theorem State.modXtl_fw (p : Port) (g : XtlState → XtlState) : (s.modXtl p g).fw = s.fw := rfl
@[simp] theorem State.modXtl_path (p : Port) (g : XtlState → XtlState) : (s.modXtl p g).path = s.path := rfl
@[simp] theorem State.modXtl_tod (p : Port) (g : XtlState → XtlState) : (s.modXtl p g).tod = s.tod := rfl
@[simp] theorem State.modXtl_out (p : Port) (g : XtlState → XtlState) : (s.modXtl p g).out = s.out := rfl
@[simp] theorem State.modXtl_late (p : Port) (g : XtlState → XtlState) : (s.modXtl p g).late = s.late := rfl
@[simp] theorem State.modXtl_freeCtr (p : Port) (g : XtlState → XtlState) : (s.modXtl p g).freeCtr = s.freeCtr := rfl

@[simp] theorem State.modTxp_pending (p : Port) (g : TxpState → TxpState) : (s.modTxp p g).pending = s.pending := rfl
@[simp] theorem State.modTxp_regs (p : Port) (g : TxpState → TxpState) : (s.modTxp p g).regs = s.regs := rfl
@[simp] theorem State.modTxp_reg (p : Port) (g : TxpState → TxpState) (i : Nat) : (s.modTxp p g).reg i = s.reg i := rfl
@[simp] theorem State.modTxp_fld (p : Port) (g : TxpState → TxpState) (f' : RegField) : (s.modTxp p g).fld f' = s.fld f' := rfl
@[simp] theorem State.modTxp_flag (p : Port) (g : TxpState → TxpState) (f' : RegField) : (s.modTxp p g).flag f' = s.flag f' := rfl
@[simp] theorem State.modTxp_snap0 (p : Port) (g : TxpState → TxpState) : (s.modTxp p g).snap0 = s.snap0 := rfl
@[simp] theorem State.modTxp_snap1 (p : Port) (g : TxpState → TxpState) : (s.modTxp p g).snap1 = s.snap1 := rfl
@[simp] theorem State.modTxp_snap2 (p : Port) (g : TxpState → TxpState) : (s.modTxp p g).snap2 = s.snap2 := rfl
@[simp] theorem State.modTxp_snap3 (p : Port) (g : TxpState → TxpState) : (s.modTxp p g).snap3 = s.snap3 := rfl
@[simp] theorem State.modTxp_tick (p : Port) (g : TxpState → TxpState) : (s.modTxp p g).tick = s.tick := rfl
@[simp] theorem State.modTxp_fc (p : Port) (g : TxpState → TxpState) : (s.modTxp p g).fc = s.fc := rfl
@[simp] theorem State.modTxp_ev (p : Port) (g : TxpState → TxpState) : (s.modTxp p g).ev = s.ev := rfl
@[simp] theorem State.modTxp_src (p : Port) (g : TxpState → TxpState) (i' : Nat) : (s.modTxp p g).src i' = s.src i' := rfl
@[simp] theorem State.modTxp_evQueue (p : Port) (g : TxpState → TxpState) (i' : Nat) : (s.modTxp p g).evQueue i' = s.evQueue i' := rfl
@[simp] theorem State.modTxp_ctr (p : Port) (g : TxpState → TxpState) : (s.modTxp p g).ctr = s.ctr := rfl
@[simp] theorem State.modTxp_counter (p : Port) (g : TxpState → TxpState) (i' : Nat) : (s.modTxp p g).counter i' = s.counter i' := rfl
@[simp] theorem State.modTxp_capture (p : Port) (g : TxpState → TxpState) : (s.modTxp p g).capture = s.capture := rfl
@[simp] theorem State.modTxp_hif (p : Port) (g : TxpState → TxpState) : (s.modTxp p g).hif = s.hif := rfl
@[simp] theorem State.modTxp_sq_find (p : Port) (g : TxpState → TxpState) (fn' j : Nat) : (s.modTxp p g).sq? fn' j = s.sq? fn' j := rfl
@[simp] theorem State.modTxp_cq_find (p : Port) (g : TxpState → TxpState) (fn' j : Nat) : (s.modTxp p g).cq? fn' j = s.cq? fn' j := rfl
@[simp] theorem State.modTxp_tm (p : Port) (g : TxpState → TxpState) : (s.modTxp p g).tm = s.tm := rfl
@[simp] theorem State.modTxp_flow (p : Port) (g : TxpState → TxpState) : (s.modTxp p g).flow = s.flow := rfl
@[simp] theorem State.modTxp_mem (p : Port) (g : TxpState → TxpState) : (s.modTxp p g).mem = s.mem := rfl
@[simp] theorem State.modTxp_rst (p : Port) (g : TxpState → TxpState) : (s.modTxp p g).rst = s.rst := rfl
@[simp] theorem State.modTxp_hk (p : Port) (g : TxpState → TxpState) : (s.modTxp p g).hk = s.hk := rfl
@[simp] theorem State.modTxp_thm (p : Port) (g : TxpState → TxpState) : (s.modTxp p g).thm = s.thm := rfl
@[simp] theorem State.modTxp_pair (p : Port) (g : TxpState → TxpState) : (s.modTxp p g).pair = s.pair := rfl
@[simp] theorem State.modTxp_lanes (p : Port) (g : TxpState → TxpState) : (s.modTxp p g).lanes = s.lanes := rfl
@[simp] theorem State.modTxp_fw (p : Port) (g : TxpState → TxpState) : (s.modTxp p g).fw = s.fw := rfl
@[simp] theorem State.modTxp_path (p : Port) (g : TxpState → TxpState) : (s.modTxp p g).path = s.path := rfl
@[simp] theorem State.modTxp_tod (p : Port) (g : TxpState → TxpState) : (s.modTxp p g).tod = s.tod := rfl
@[simp] theorem State.modTxp_out (p : Port) (g : TxpState → TxpState) : (s.modTxp p g).out = s.out := rfl
@[simp] theorem State.modTxp_late (p : Port) (g : TxpState → TxpState) : (s.modTxp p g).late = s.late := rfl
@[simp] theorem State.modTxp_freeCtr (p : Port) (g : TxpState → TxpState) : (s.modTxp p g).freeCtr = s.freeCtr := rfl

@[simp] theorem State.modTcf_pending (p : Port) (g : TcfState → TcfState) : (s.modTcf p g).pending = s.pending := rfl
@[simp] theorem State.modTcf_regs (p : Port) (g : TcfState → TcfState) : (s.modTcf p g).regs = s.regs := rfl
@[simp] theorem State.modTcf_reg (p : Port) (g : TcfState → TcfState) (i : Nat) : (s.modTcf p g).reg i = s.reg i := rfl
@[simp] theorem State.modTcf_fld (p : Port) (g : TcfState → TcfState) (f' : RegField) : (s.modTcf p g).fld f' = s.fld f' := rfl
@[simp] theorem State.modTcf_flag (p : Port) (g : TcfState → TcfState) (f' : RegField) : (s.modTcf p g).flag f' = s.flag f' := rfl
@[simp] theorem State.modTcf_snap0 (p : Port) (g : TcfState → TcfState) : (s.modTcf p g).snap0 = s.snap0 := rfl
@[simp] theorem State.modTcf_snap1 (p : Port) (g : TcfState → TcfState) : (s.modTcf p g).snap1 = s.snap1 := rfl
@[simp] theorem State.modTcf_snap2 (p : Port) (g : TcfState → TcfState) : (s.modTcf p g).snap2 = s.snap2 := rfl
@[simp] theorem State.modTcf_snap3 (p : Port) (g : TcfState → TcfState) : (s.modTcf p g).snap3 = s.snap3 := rfl
@[simp] theorem State.modTcf_tick (p : Port) (g : TcfState → TcfState) : (s.modTcf p g).tick = s.tick := rfl
@[simp] theorem State.modTcf_fc (p : Port) (g : TcfState → TcfState) : (s.modTcf p g).fc = s.fc := rfl
@[simp] theorem State.modTcf_ev (p : Port) (g : TcfState → TcfState) : (s.modTcf p g).ev = s.ev := rfl
@[simp] theorem State.modTcf_src (p : Port) (g : TcfState → TcfState) (i' : Nat) : (s.modTcf p g).src i' = s.src i' := rfl
@[simp] theorem State.modTcf_evQueue (p : Port) (g : TcfState → TcfState) (i' : Nat) : (s.modTcf p g).evQueue i' = s.evQueue i' := rfl
@[simp] theorem State.modTcf_ctr (p : Port) (g : TcfState → TcfState) : (s.modTcf p g).ctr = s.ctr := rfl
@[simp] theorem State.modTcf_counter (p : Port) (g : TcfState → TcfState) (i' : Nat) : (s.modTcf p g).counter i' = s.counter i' := rfl
@[simp] theorem State.modTcf_capture (p : Port) (g : TcfState → TcfState) : (s.modTcf p g).capture = s.capture := rfl
@[simp] theorem State.modTcf_hif (p : Port) (g : TcfState → TcfState) : (s.modTcf p g).hif = s.hif := rfl
@[simp] theorem State.modTcf_sq_find (p : Port) (g : TcfState → TcfState) (fn' j : Nat) : (s.modTcf p g).sq? fn' j = s.sq? fn' j := rfl
@[simp] theorem State.modTcf_cq_find (p : Port) (g : TcfState → TcfState) (fn' j : Nat) : (s.modTcf p g).cq? fn' j = s.cq? fn' j := rfl
@[simp] theorem State.modTcf_tm (p : Port) (g : TcfState → TcfState) : (s.modTcf p g).tm = s.tm := rfl
@[simp] theorem State.modTcf_flow (p : Port) (g : TcfState → TcfState) : (s.modTcf p g).flow = s.flow := rfl
@[simp] theorem State.modTcf_mem (p : Port) (g : TcfState → TcfState) : (s.modTcf p g).mem = s.mem := rfl
@[simp] theorem State.modTcf_rst (p : Port) (g : TcfState → TcfState) : (s.modTcf p g).rst = s.rst := rfl
@[simp] theorem State.modTcf_hk (p : Port) (g : TcfState → TcfState) : (s.modTcf p g).hk = s.hk := rfl
@[simp] theorem State.modTcf_thm (p : Port) (g : TcfState → TcfState) : (s.modTcf p g).thm = s.thm := rfl
@[simp] theorem State.modTcf_pair (p : Port) (g : TcfState → TcfState) : (s.modTcf p g).pair = s.pair := rfl
@[simp] theorem State.modTcf_lanes (p : Port) (g : TcfState → TcfState) : (s.modTcf p g).lanes = s.lanes := rfl
@[simp] theorem State.modTcf_fw (p : Port) (g : TcfState → TcfState) : (s.modTcf p g).fw = s.fw := rfl
@[simp] theorem State.modTcf_path (p : Port) (g : TcfState → TcfState) : (s.modTcf p g).path = s.path := rfl
@[simp] theorem State.modTcf_tod (p : Port) (g : TcfState → TcfState) : (s.modTcf p g).tod = s.tod := rfl
@[simp] theorem State.modTcf_out (p : Port) (g : TcfState → TcfState) : (s.modTcf p g).out = s.out := rfl
@[simp] theorem State.modTcf_late (p : Port) (g : TcfState → TcfState) : (s.modTcf p g).late = s.late := rfl
@[simp] theorem State.modTcf_freeCtr (p : Port) (g : TcfState → TcfState) : (s.modTcf p g).freeCtr = s.freeCtr := rfl

@[simp] theorem State.modOnu_pending (p : Port) (g : OnuPort → OnuPort) : (s.modOnu p g).pending = s.pending := rfl
@[simp] theorem State.modOnu_regs (p : Port) (g : OnuPort → OnuPort) : (s.modOnu p g).regs = s.regs := rfl
@[simp] theorem State.modOnu_reg (p : Port) (g : OnuPort → OnuPort) (i : Nat) : (s.modOnu p g).reg i = s.reg i := rfl
@[simp] theorem State.modOnu_fld (p : Port) (g : OnuPort → OnuPort) (f' : RegField) : (s.modOnu p g).fld f' = s.fld f' := rfl
@[simp] theorem State.modOnu_flag (p : Port) (g : OnuPort → OnuPort) (f' : RegField) : (s.modOnu p g).flag f' = s.flag f' := rfl
@[simp] theorem State.modOnu_snap0 (p : Port) (g : OnuPort → OnuPort) : (s.modOnu p g).snap0 = s.snap0 := rfl
@[simp] theorem State.modOnu_snap1 (p : Port) (g : OnuPort → OnuPort) : (s.modOnu p g).snap1 = s.snap1 := rfl
@[simp] theorem State.modOnu_snap2 (p : Port) (g : OnuPort → OnuPort) : (s.modOnu p g).snap2 = s.snap2 := rfl
@[simp] theorem State.modOnu_snap3 (p : Port) (g : OnuPort → OnuPort) : (s.modOnu p g).snap3 = s.snap3 := rfl
@[simp] theorem State.modOnu_tick (p : Port) (g : OnuPort → OnuPort) : (s.modOnu p g).tick = s.tick := rfl
@[simp] theorem State.modOnu_fc (p : Port) (g : OnuPort → OnuPort) : (s.modOnu p g).fc = s.fc := rfl
@[simp] theorem State.modOnu_ev (p : Port) (g : OnuPort → OnuPort) : (s.modOnu p g).ev = s.ev := rfl
@[simp] theorem State.modOnu_src (p : Port) (g : OnuPort → OnuPort) (i' : Nat) : (s.modOnu p g).src i' = s.src i' := rfl
@[simp] theorem State.modOnu_evQueue (p : Port) (g : OnuPort → OnuPort) (i' : Nat) : (s.modOnu p g).evQueue i' = s.evQueue i' := rfl
@[simp] theorem State.modOnu_ctr (p : Port) (g : OnuPort → OnuPort) : (s.modOnu p g).ctr = s.ctr := rfl
@[simp] theorem State.modOnu_counter (p : Port) (g : OnuPort → OnuPort) (i' : Nat) : (s.modOnu p g).counter i' = s.counter i' := rfl
@[simp] theorem State.modOnu_capture (p : Port) (g : OnuPort → OnuPort) : (s.modOnu p g).capture = s.capture := rfl
@[simp] theorem State.modOnu_hif (p : Port) (g : OnuPort → OnuPort) : (s.modOnu p g).hif = s.hif := rfl
@[simp] theorem State.modOnu_sq_find (p : Port) (g : OnuPort → OnuPort) (fn' j : Nat) : (s.modOnu p g).sq? fn' j = s.sq? fn' j := rfl
@[simp] theorem State.modOnu_cq_find (p : Port) (g : OnuPort → OnuPort) (fn' j : Nat) : (s.modOnu p g).cq? fn' j = s.cq? fn' j := rfl
@[simp] theorem State.modOnu_tm (p : Port) (g : OnuPort → OnuPort) : (s.modOnu p g).tm = s.tm := rfl
@[simp] theorem State.modOnu_flow (p : Port) (g : OnuPort → OnuPort) : (s.modOnu p g).flow = s.flow := rfl
@[simp] theorem State.modOnu_mem (p : Port) (g : OnuPort → OnuPort) : (s.modOnu p g).mem = s.mem := rfl
@[simp] theorem State.modOnu_rst (p : Port) (g : OnuPort → OnuPort) : (s.modOnu p g).rst = s.rst := rfl
@[simp] theorem State.modOnu_hk (p : Port) (g : OnuPort → OnuPort) : (s.modOnu p g).hk = s.hk := rfl
@[simp] theorem State.modOnu_thm (p : Port) (g : OnuPort → OnuPort) : (s.modOnu p g).thm = s.thm := rfl
@[simp] theorem State.modOnu_pair (p : Port) (g : OnuPort → OnuPort) : (s.modOnu p g).pair = s.pair := rfl
@[simp] theorem State.modOnu_lanes (p : Port) (g : OnuPort → OnuPort) : (s.modOnu p g).lanes = s.lanes := rfl
@[simp] theorem State.modOnu_fw (p : Port) (g : OnuPort → OnuPort) : (s.modOnu p g).fw = s.fw := rfl
@[simp] theorem State.modOnu_path (p : Port) (g : OnuPort → OnuPort) : (s.modOnu p g).path = s.path := rfl
@[simp] theorem State.modOnu_tod (p : Port) (g : OnuPort → OnuPort) : (s.modOnu p g).tod = s.tod := rfl
@[simp] theorem State.modOnu_out (p : Port) (g : OnuPort → OnuPort) : (s.modOnu p g).out = s.out := rfl
@[simp] theorem State.modOnu_late (p : Port) (g : OnuPort → OnuPort) : (s.modOnu p g).late = s.late := rfl
@[simp] theorem State.modOnu_freeCtr (p : Port) (g : OnuPort → OnuPort) : (s.modOnu p g).freeCtr = s.freeCtr := rfl

@[simp] theorem State.modDba_pending (p : Port) (g : DbaState → DbaState) : (s.modDba p g).pending = s.pending := rfl
@[simp] theorem State.modDba_regs (p : Port) (g : DbaState → DbaState) : (s.modDba p g).regs = s.regs := rfl
@[simp] theorem State.modDba_reg (p : Port) (g : DbaState → DbaState) (i : Nat) : (s.modDba p g).reg i = s.reg i := rfl
@[simp] theorem State.modDba_fld (p : Port) (g : DbaState → DbaState) (f' : RegField) : (s.modDba p g).fld f' = s.fld f' := rfl
@[simp] theorem State.modDba_flag (p : Port) (g : DbaState → DbaState) (f' : RegField) : (s.modDba p g).flag f' = s.flag f' := rfl
@[simp] theorem State.modDba_snap0 (p : Port) (g : DbaState → DbaState) : (s.modDba p g).snap0 = s.snap0 := rfl
@[simp] theorem State.modDba_snap1 (p : Port) (g : DbaState → DbaState) : (s.modDba p g).snap1 = s.snap1 := rfl
@[simp] theorem State.modDba_snap2 (p : Port) (g : DbaState → DbaState) : (s.modDba p g).snap2 = s.snap2 := rfl
@[simp] theorem State.modDba_snap3 (p : Port) (g : DbaState → DbaState) : (s.modDba p g).snap3 = s.snap3 := rfl
@[simp] theorem State.modDba_tick (p : Port) (g : DbaState → DbaState) : (s.modDba p g).tick = s.tick := rfl
@[simp] theorem State.modDba_fc (p : Port) (g : DbaState → DbaState) : (s.modDba p g).fc = s.fc := rfl
@[simp] theorem State.modDba_ev (p : Port) (g : DbaState → DbaState) : (s.modDba p g).ev = s.ev := rfl
@[simp] theorem State.modDba_src (p : Port) (g : DbaState → DbaState) (i' : Nat) : (s.modDba p g).src i' = s.src i' := rfl
@[simp] theorem State.modDba_evQueue (p : Port) (g : DbaState → DbaState) (i' : Nat) : (s.modDba p g).evQueue i' = s.evQueue i' := rfl
@[simp] theorem State.modDba_ctr (p : Port) (g : DbaState → DbaState) : (s.modDba p g).ctr = s.ctr := rfl
@[simp] theorem State.modDba_counter (p : Port) (g : DbaState → DbaState) (i' : Nat) : (s.modDba p g).counter i' = s.counter i' := rfl
@[simp] theorem State.modDba_capture (p : Port) (g : DbaState → DbaState) : (s.modDba p g).capture = s.capture := rfl
@[simp] theorem State.modDba_hif (p : Port) (g : DbaState → DbaState) : (s.modDba p g).hif = s.hif := rfl
@[simp] theorem State.modDba_sq_find (p : Port) (g : DbaState → DbaState) (fn' j : Nat) : (s.modDba p g).sq? fn' j = s.sq? fn' j := rfl
@[simp] theorem State.modDba_cq_find (p : Port) (g : DbaState → DbaState) (fn' j : Nat) : (s.modDba p g).cq? fn' j = s.cq? fn' j := rfl
@[simp] theorem State.modDba_tm (p : Port) (g : DbaState → DbaState) : (s.modDba p g).tm = s.tm := rfl
@[simp] theorem State.modDba_flow (p : Port) (g : DbaState → DbaState) : (s.modDba p g).flow = s.flow := rfl
@[simp] theorem State.modDba_mem (p : Port) (g : DbaState → DbaState) : (s.modDba p g).mem = s.mem := rfl
@[simp] theorem State.modDba_rst (p : Port) (g : DbaState → DbaState) : (s.modDba p g).rst = s.rst := rfl
@[simp] theorem State.modDba_hk (p : Port) (g : DbaState → DbaState) : (s.modDba p g).hk = s.hk := rfl
@[simp] theorem State.modDba_thm (p : Port) (g : DbaState → DbaState) : (s.modDba p g).thm = s.thm := rfl
@[simp] theorem State.modDba_pair (p : Port) (g : DbaState → DbaState) : (s.modDba p g).pair = s.pair := rfl
@[simp] theorem State.modDba_lanes (p : Port) (g : DbaState → DbaState) : (s.modDba p g).lanes = s.lanes := rfl
@[simp] theorem State.modDba_fw (p : Port) (g : DbaState → DbaState) : (s.modDba p g).fw = s.fw := rfl
@[simp] theorem State.modDba_path (p : Port) (g : DbaState → DbaState) : (s.modDba p g).path = s.path := rfl
@[simp] theorem State.modDba_tod (p : Port) (g : DbaState → DbaState) : (s.modDba p g).tod = s.tod := rfl
@[simp] theorem State.modDba_out (p : Port) (g : DbaState → DbaState) : (s.modDba p g).out = s.out := rfl
@[simp] theorem State.modDba_late (p : Port) (g : DbaState → DbaState) : (s.modDba p g).late = s.late := rfl
@[simp] theorem State.modDba_freeCtr (p : Port) (g : DbaState → DbaState) : (s.modDba p g).freeCtr = s.freeCtr := rfl

@[simp] theorem State.modProt_pending (p : Port) (g : ProtState → ProtState) : (s.modProt p g).pending = s.pending := rfl
@[simp] theorem State.modProt_regs (p : Port) (g : ProtState → ProtState) : (s.modProt p g).regs = s.regs := rfl
@[simp] theorem State.modProt_reg (p : Port) (g : ProtState → ProtState) (i : Nat) : (s.modProt p g).reg i = s.reg i := rfl
@[simp] theorem State.modProt_fld (p : Port) (g : ProtState → ProtState) (f' : RegField) : (s.modProt p g).fld f' = s.fld f' := rfl
@[simp] theorem State.modProt_flag (p : Port) (g : ProtState → ProtState) (f' : RegField) : (s.modProt p g).flag f' = s.flag f' := rfl
@[simp] theorem State.modProt_snap0 (p : Port) (g : ProtState → ProtState) : (s.modProt p g).snap0 = s.snap0 := rfl
@[simp] theorem State.modProt_snap1 (p : Port) (g : ProtState → ProtState) : (s.modProt p g).snap1 = s.snap1 := rfl
@[simp] theorem State.modProt_snap2 (p : Port) (g : ProtState → ProtState) : (s.modProt p g).snap2 = s.snap2 := rfl
@[simp] theorem State.modProt_snap3 (p : Port) (g : ProtState → ProtState) : (s.modProt p g).snap3 = s.snap3 := rfl
@[simp] theorem State.modProt_tick (p : Port) (g : ProtState → ProtState) : (s.modProt p g).tick = s.tick := rfl
@[simp] theorem State.modProt_fc (p : Port) (g : ProtState → ProtState) : (s.modProt p g).fc = s.fc := rfl
@[simp] theorem State.modProt_ev (p : Port) (g : ProtState → ProtState) : (s.modProt p g).ev = s.ev := rfl
@[simp] theorem State.modProt_src (p : Port) (g : ProtState → ProtState) (i' : Nat) : (s.modProt p g).src i' = s.src i' := rfl
@[simp] theorem State.modProt_evQueue (p : Port) (g : ProtState → ProtState) (i' : Nat) : (s.modProt p g).evQueue i' = s.evQueue i' := rfl
@[simp] theorem State.modProt_ctr (p : Port) (g : ProtState → ProtState) : (s.modProt p g).ctr = s.ctr := rfl
@[simp] theorem State.modProt_counter (p : Port) (g : ProtState → ProtState) (i' : Nat) : (s.modProt p g).counter i' = s.counter i' := rfl
@[simp] theorem State.modProt_capture (p : Port) (g : ProtState → ProtState) : (s.modProt p g).capture = s.capture := rfl
@[simp] theorem State.modProt_hif (p : Port) (g : ProtState → ProtState) : (s.modProt p g).hif = s.hif := rfl
@[simp] theorem State.modProt_sq_find (p : Port) (g : ProtState → ProtState) (fn' j : Nat) : (s.modProt p g).sq? fn' j = s.sq? fn' j := rfl
@[simp] theorem State.modProt_cq_find (p : Port) (g : ProtState → ProtState) (fn' j : Nat) : (s.modProt p g).cq? fn' j = s.cq? fn' j := rfl
@[simp] theorem State.modProt_tm (p : Port) (g : ProtState → ProtState) : (s.modProt p g).tm = s.tm := rfl
@[simp] theorem State.modProt_flow (p : Port) (g : ProtState → ProtState) : (s.modProt p g).flow = s.flow := rfl
@[simp] theorem State.modProt_mem (p : Port) (g : ProtState → ProtState) : (s.modProt p g).mem = s.mem := rfl
@[simp] theorem State.modProt_rst (p : Port) (g : ProtState → ProtState) : (s.modProt p g).rst = s.rst := rfl
@[simp] theorem State.modProt_hk (p : Port) (g : ProtState → ProtState) : (s.modProt p g).hk = s.hk := rfl
@[simp] theorem State.modProt_thm (p : Port) (g : ProtState → ProtState) : (s.modProt p g).thm = s.thm := rfl
@[simp] theorem State.modProt_pair (p : Port) (g : ProtState → ProtState) : (s.modProt p g).pair = s.pair := rfl
@[simp] theorem State.modProt_lanes (p : Port) (g : ProtState → ProtState) : (s.modProt p g).lanes = s.lanes := rfl
@[simp] theorem State.modProt_fw (p : Port) (g : ProtState → ProtState) : (s.modProt p g).fw = s.fw := rfl
@[simp] theorem State.modProt_path (p : Port) (g : ProtState → ProtState) : (s.modProt p g).path = s.path := rfl
@[simp] theorem State.modProt_tod (p : Port) (g : ProtState → ProtState) : (s.modProt p g).tod = s.tod := rfl
@[simp] theorem State.modProt_out (p : Port) (g : ProtState → ProtState) : (s.modProt p g).out = s.out := rfl
@[simp] theorem State.modProt_late (p : Port) (g : ProtState → ProtState) : (s.modProt p g).late = s.late := rfl
@[simp] theorem State.modProt_freeCtr (p : Port) (g : ProtState → ProtState) : (s.modProt p g).freeCtr = s.freeCtr := rfl

@[simp] theorem State.modReset_pending (p : Port) (g : ResetState → ResetState) : (s.modReset p g).pending = s.pending := rfl
@[simp] theorem State.modReset_regs (p : Port) (g : ResetState → ResetState) : (s.modReset p g).regs = s.regs := rfl
@[simp] theorem State.modReset_reg (p : Port) (g : ResetState → ResetState) (i : Nat) : (s.modReset p g).reg i = s.reg i := rfl
@[simp] theorem State.modReset_fld (p : Port) (g : ResetState → ResetState) (f' : RegField) : (s.modReset p g).fld f' = s.fld f' := rfl
@[simp] theorem State.modReset_flag (p : Port) (g : ResetState → ResetState) (f' : RegField) : (s.modReset p g).flag f' = s.flag f' := rfl
@[simp] theorem State.modReset_snap0 (p : Port) (g : ResetState → ResetState) : (s.modReset p g).snap0 = s.snap0 := rfl
@[simp] theorem State.modReset_snap1 (p : Port) (g : ResetState → ResetState) : (s.modReset p g).snap1 = s.snap1 := rfl
@[simp] theorem State.modReset_snap2 (p : Port) (g : ResetState → ResetState) : (s.modReset p g).snap2 = s.snap2 := rfl
@[simp] theorem State.modReset_snap3 (p : Port) (g : ResetState → ResetState) : (s.modReset p g).snap3 = s.snap3 := rfl
@[simp] theorem State.modReset_tick (p : Port) (g : ResetState → ResetState) : (s.modReset p g).tick = s.tick := rfl
@[simp] theorem State.modReset_fc (p : Port) (g : ResetState → ResetState) : (s.modReset p g).fc = s.fc := rfl
@[simp] theorem State.modReset_ev (p : Port) (g : ResetState → ResetState) : (s.modReset p g).ev = s.ev := rfl
@[simp] theorem State.modReset_src (p : Port) (g : ResetState → ResetState) (i' : Nat) : (s.modReset p g).src i' = s.src i' := rfl
@[simp] theorem State.modReset_evQueue (p : Port) (g : ResetState → ResetState) (i' : Nat) : (s.modReset p g).evQueue i' = s.evQueue i' := rfl
@[simp] theorem State.modReset_ctr (p : Port) (g : ResetState → ResetState) : (s.modReset p g).ctr = s.ctr := rfl
@[simp] theorem State.modReset_counter (p : Port) (g : ResetState → ResetState) (i' : Nat) : (s.modReset p g).counter i' = s.counter i' := rfl
@[simp] theorem State.modReset_capture (p : Port) (g : ResetState → ResetState) : (s.modReset p g).capture = s.capture := rfl
@[simp] theorem State.modReset_hif (p : Port) (g : ResetState → ResetState) : (s.modReset p g).hif = s.hif := rfl
@[simp] theorem State.modReset_sq_find (p : Port) (g : ResetState → ResetState) (fn' j : Nat) : (s.modReset p g).sq? fn' j = s.sq? fn' j := rfl
@[simp] theorem State.modReset_cq_find (p : Port) (g : ResetState → ResetState) (fn' j : Nat) : (s.modReset p g).cq? fn' j = s.cq? fn' j := rfl
@[simp] theorem State.modReset_tm (p : Port) (g : ResetState → ResetState) : (s.modReset p g).tm = s.tm := rfl
@[simp] theorem State.modReset_flow (p : Port) (g : ResetState → ResetState) : (s.modReset p g).flow = s.flow := rfl
@[simp] theorem State.modReset_mem (p : Port) (g : ResetState → ResetState) : (s.modReset p g).mem = s.mem := rfl
@[simp] theorem State.modReset_rst (p : Port) (g : ResetState → ResetState) : (s.modReset p g).rst = s.rst := rfl
@[simp] theorem State.modReset_hk (p : Port) (g : ResetState → ResetState) : (s.modReset p g).hk = s.hk := rfl
@[simp] theorem State.modReset_thm (p : Port) (g : ResetState → ResetState) : (s.modReset p g).thm = s.thm := rfl
@[simp] theorem State.modReset_pair (p : Port) (g : ResetState → ResetState) : (s.modReset p g).pair = s.pair := rfl
@[simp] theorem State.modReset_lanes (p : Port) (g : ResetState → ResetState) : (s.modReset p g).lanes = s.lanes := rfl
@[simp] theorem State.modReset_fw (p : Port) (g : ResetState → ResetState) : (s.modReset p g).fw = s.fw := rfl
@[simp] theorem State.modReset_path (p : Port) (g : ResetState → ResetState) : (s.modReset p g).path = s.path := rfl
@[simp] theorem State.modReset_tod (p : Port) (g : ResetState → ResetState) : (s.modReset p g).tod = s.tod := rfl
@[simp] theorem State.modReset_out (p : Port) (g : ResetState → ResetState) : (s.modReset p g).out = s.out := rfl
@[simp] theorem State.modReset_late (p : Port) (g : ResetState → ResetState) : (s.modReset p g).late = s.late := rfl
@[simp] theorem State.modReset_freeCtr (p : Port) (g : ResetState → ResetState) : (s.modReset p g).freeCtr = s.freeCtr := rfl

@[simp] theorem State.emit_pending (o : Output) : (s.emit o).pending = s.pending := rfl
@[simp] theorem State.emit_regs (o : Output) : (s.emit o).regs = s.regs := rfl
@[simp] theorem State.emit_reg (o : Output) (i : Nat) : (s.emit o).reg i = s.reg i := rfl
@[simp] theorem State.emit_fld (o : Output) (f' : RegField) : (s.emit o).fld f' = s.fld f' := rfl
@[simp] theorem State.emit_flag (o : Output) (f' : RegField) : (s.emit o).flag f' = s.flag f' := rfl
@[simp] theorem State.emit_snap0 (o : Output) : (s.emit o).snap0 = s.snap0 := rfl
@[simp] theorem State.emit_snap1 (o : Output) : (s.emit o).snap1 = s.snap1 := rfl
@[simp] theorem State.emit_snap2 (o : Output) : (s.emit o).snap2 = s.snap2 := rfl
@[simp] theorem State.emit_snap3 (o : Output) : (s.emit o).snap3 = s.snap3 := rfl
@[simp] theorem State.emit_tick (o : Output) : (s.emit o).tick = s.tick := rfl
@[simp] theorem State.emit_fc (o : Output) : (s.emit o).fc = s.fc := rfl
@[simp] theorem State.emit_ports (o : Output) : (s.emit o).ports = s.ports := rfl
@[simp] theorem State.emit_port (o : Output) (p' : Port) : (s.emit o).port p' = s.port p' := rfl
@[simp] theorem State.emit_ev (o : Output) : (s.emit o).ev = s.ev := rfl
@[simp] theorem State.emit_src (o : Output) (i' : Nat) : (s.emit o).src i' = s.src i' := rfl
@[simp] theorem State.emit_evQueue (o : Output) (i' : Nat) : (s.emit o).evQueue i' = s.evQueue i' := rfl
@[simp] theorem State.emit_ctr (o : Output) : (s.emit o).ctr = s.ctr := rfl
@[simp] theorem State.emit_counter (o : Output) (i' : Nat) : (s.emit o).counter i' = s.counter i' := rfl
@[simp] theorem State.emit_capture (o : Output) : (s.emit o).capture = s.capture := rfl
@[simp] theorem State.emit_hif (o : Output) : (s.emit o).hif = s.hif := rfl
@[simp] theorem State.emit_sq_find (o : Output) (fn' j : Nat) : (s.emit o).sq? fn' j = s.sq? fn' j := rfl
@[simp] theorem State.emit_cq_find (o : Output) (fn' j : Nat) : (s.emit o).cq? fn' j = s.cq? fn' j := rfl
@[simp] theorem State.emit_tm (o : Output) : (s.emit o).tm = s.tm := rfl
@[simp] theorem State.emit_flow (o : Output) : (s.emit o).flow = s.flow := rfl
@[simp] theorem State.emit_mem (o : Output) : (s.emit o).mem = s.mem := rfl
@[simp] theorem State.emit_rst (o : Output) : (s.emit o).rst = s.rst := rfl
@[simp] theorem State.emit_hk (o : Output) : (s.emit o).hk = s.hk := rfl
@[simp] theorem State.emit_thm (o : Output) : (s.emit o).thm = s.thm := rfl
@[simp] theorem State.emit_pair (o : Output) : (s.emit o).pair = s.pair := rfl
@[simp] theorem State.emit_lanes (o : Output) : (s.emit o).lanes = s.lanes := rfl
@[simp] theorem State.emit_fw (o : Output) : (s.emit o).fw = s.fw := rfl
@[simp] theorem State.emit_path (o : Output) : (s.emit o).path = s.path := rfl
@[simp] theorem State.emit_tod (o : Output) : (s.emit o).tod = s.tod := rfl
@[simp] theorem State.emit_late (o : Output) : (s.emit o).late = s.late := rfl
@[simp] theorem State.emit_freeCtr (o : Output) : (s.emit o).freeCtr = s.freeCtr := rfl

@[simp] theorem State.nextOpen_pending  : (s.nextOpen).pending = s.pending := rfl
@[simp] theorem State.nextOpen_regs  : (s.nextOpen).regs = s.regs := rfl
@[simp] theorem State.nextOpen_reg  (i : Nat) : (s.nextOpen).reg i = s.reg i := rfl
@[simp] theorem State.nextOpen_fld  (f' : RegField) : (s.nextOpen).fld f' = s.fld f' := rfl
@[simp] theorem State.nextOpen_flag  (f' : RegField) : (s.nextOpen).flag f' = s.flag f' := rfl
@[simp] theorem State.nextOpen_snap0  : (s.nextOpen).snap0 = s.snap0 := rfl
@[simp] theorem State.nextOpen_snap1  : (s.nextOpen).snap1 = s.snap1 := rfl
@[simp] theorem State.nextOpen_snap2  : (s.nextOpen).snap2 = s.snap2 := rfl
@[simp] theorem State.nextOpen_snap3  : (s.nextOpen).snap3 = s.snap3 := rfl
@[simp] theorem State.nextOpen_tick  : (s.nextOpen).tick = s.tick := rfl
@[simp] theorem State.nextOpen_fc  : (s.nextOpen).fc = s.fc := rfl
@[simp] theorem State.nextOpen_ports  : (s.nextOpen).ports = s.ports := rfl
@[simp] theorem State.nextOpen_port  (p' : Port) : (s.nextOpen).port p' = s.port p' := rfl
@[simp] theorem State.nextOpen_ev  : (s.nextOpen).ev = s.ev := rfl
@[simp] theorem State.nextOpen_src  (i' : Nat) : (s.nextOpen).src i' = s.src i' := rfl
@[simp] theorem State.nextOpen_evQueue  (i' : Nat) : (s.nextOpen).evQueue i' = s.evQueue i' := rfl
@[simp] theorem State.nextOpen_ctr  : (s.nextOpen).ctr = s.ctr := rfl
@[simp] theorem State.nextOpen_counter  (i' : Nat) : (s.nextOpen).counter i' = s.counter i' := rfl
@[simp] theorem State.nextOpen_capture  : (s.nextOpen).capture = s.capture := rfl
@[simp] theorem State.nextOpen_hif  : (s.nextOpen).hif = s.hif := rfl
@[simp] theorem State.nextOpen_sq_find  (fn' j : Nat) : (s.nextOpen).sq? fn' j = s.sq? fn' j := rfl
@[simp] theorem State.nextOpen_cq_find  (fn' j : Nat) : (s.nextOpen).cq? fn' j = s.cq? fn' j := rfl
@[simp] theorem State.nextOpen_tm  : (s.nextOpen).tm = s.tm := rfl
@[simp] theorem State.nextOpen_flow  : (s.nextOpen).flow = s.flow := rfl
@[simp] theorem State.nextOpen_mem  : (s.nextOpen).mem = s.mem := rfl
@[simp] theorem State.nextOpen_rst  : (s.nextOpen).rst = s.rst := rfl
@[simp] theorem State.nextOpen_hk  : (s.nextOpen).hk = s.hk := rfl
@[simp] theorem State.nextOpen_thm  : (s.nextOpen).thm = s.thm := rfl
@[simp] theorem State.nextOpen_pair  : (s.nextOpen).pair = s.pair := rfl
@[simp] theorem State.nextOpen_lanes  : (s.nextOpen).lanes = s.lanes := rfl
@[simp] theorem State.nextOpen_fw  : (s.nextOpen).fw = s.fw := rfl
@[simp] theorem State.nextOpen_path  : (s.nextOpen).path = s.path := rfl
@[simp] theorem State.nextOpen_tod  : (s.nextOpen).tod = s.tod := rfl
@[simp] theorem State.nextOpen_out  : (s.nextOpen).out = s.out := rfl
@[simp] theorem State.nextOpen_late  : (s.nextOpen).late = s.late := rfl

@[simp] theorem State.setCounter_pending (i : Nat) (x : Counter) : (s.setCounter i x).pending = s.pending := rfl
@[simp] theorem State.setCounter_regs (i : Nat) (x : Counter) : (s.setCounter i x).regs = s.regs := rfl
@[simp] theorem State.setCounter_reg (i : Nat) (x : Counter) (i : Nat) : (s.setCounter i x).reg i = s.reg i := rfl
@[simp] theorem State.setCounter_fld (i : Nat) (x : Counter) (f' : RegField) : (s.setCounter i x).fld f' = s.fld f' := rfl
@[simp] theorem State.setCounter_flag (i : Nat) (x : Counter) (f' : RegField) : (s.setCounter i x).flag f' = s.flag f' := rfl
@[simp] theorem State.setCounter_snap0 (i : Nat) (x : Counter) : (s.setCounter i x).snap0 = s.snap0 := rfl
@[simp] theorem State.setCounter_snap1 (i : Nat) (x : Counter) : (s.setCounter i x).snap1 = s.snap1 := rfl
@[simp] theorem State.setCounter_snap2 (i : Nat) (x : Counter) : (s.setCounter i x).snap2 = s.snap2 := rfl
@[simp] theorem State.setCounter_snap3 (i : Nat) (x : Counter) : (s.setCounter i x).snap3 = s.snap3 := rfl
@[simp] theorem State.setCounter_tick (i : Nat) (x : Counter) : (s.setCounter i x).tick = s.tick := rfl
@[simp] theorem State.setCounter_fc (i : Nat) (x : Counter) : (s.setCounter i x).fc = s.fc := rfl
@[simp] theorem State.setCounter_ports (i : Nat) (x : Counter) : (s.setCounter i x).ports = s.ports := rfl
@[simp] theorem State.setCounter_port (i : Nat) (x : Counter) (p' : Port) : (s.setCounter i x).port p' = s.port p' := rfl
@[simp] theorem State.setCounter_ev (i : Nat) (x : Counter) : (s.setCounter i x).ev = s.ev := rfl
@[simp] theorem State.setCounter_src (i : Nat) (x : Counter) (i' : Nat) : (s.setCounter i x).src i' = s.src i' := rfl
@[simp] theorem State.setCounter_evQueue (i : Nat) (x : Counter) (i' : Nat) : (s.setCounter i x).evQueue i' = s.evQueue i' := rfl
@[simp] theorem State.setCounter_capture (i : Nat) (x : Counter) : (s.setCounter i x).capture = s.capture := rfl
@[simp] theorem State.setCounter_hif (i : Nat) (x : Counter) : (s.setCounter i x).hif = s.hif := rfl
@[simp] theorem State.setCounter_sq_find (i : Nat) (x : Counter) (fn' j : Nat) : (s.setCounter i x).sq? fn' j = s.sq? fn' j := rfl
@[simp] theorem State.setCounter_cq_find (i : Nat) (x : Counter) (fn' j : Nat) : (s.setCounter i x).cq? fn' j = s.cq? fn' j := rfl
@[simp] theorem State.setCounter_tm (i : Nat) (x : Counter) : (s.setCounter i x).tm = s.tm := rfl
@[simp] theorem State.setCounter_flow (i : Nat) (x : Counter) : (s.setCounter i x).flow = s.flow := rfl
@[simp] theorem State.setCounter_mem (i : Nat) (x : Counter) : (s.setCounter i x).mem = s.mem := rfl
@[simp] theorem State.setCounter_rst (i : Nat) (x : Counter) : (s.setCounter i x).rst = s.rst := rfl
@[simp] theorem State.setCounter_hk (i : Nat) (x : Counter) : (s.setCounter i x).hk = s.hk := rfl
@[simp] theorem State.setCounter_thm (i : Nat) (x : Counter) : (s.setCounter i x).thm = s.thm := rfl
@[simp] theorem State.setCounter_pair (i : Nat) (x : Counter) : (s.setCounter i x).pair = s.pair := rfl
@[simp] theorem State.setCounter_lanes (i : Nat) (x : Counter) : (s.setCounter i x).lanes = s.lanes := rfl
@[simp] theorem State.setCounter_fw (i : Nat) (x : Counter) : (s.setCounter i x).fw = s.fw := rfl
@[simp] theorem State.setCounter_path (i : Nat) (x : Counter) : (s.setCounter i x).path = s.path := rfl
@[simp] theorem State.setCounter_tod (i : Nat) (x : Counter) : (s.setCounter i x).tod = s.tod := rfl
@[simp] theorem State.setCounter_out (i : Nat) (x : Counter) : (s.setCounter i x).out = s.out := rfl
@[simp] theorem State.setCounter_late (i : Nat) (x : Counter) : (s.setCounter i x).late = s.late := rfl
@[simp] theorem State.setCounter_freeCtr (i : Nat) (x : Counter) : (s.setCounter i x).freeCtr = s.freeCtr := rfl

@[simp] theorem State.bumpBy_pending (i k : Nat) : (s.bumpBy i k).pending = s.pending := rfl
@[simp] theorem State.bumpBy_regs (i k : Nat) : (s.bumpBy i k).regs = s.regs := rfl
@[simp] theorem State.bumpBy_reg (i k : Nat) (i : Nat) : (s.bumpBy i k).reg i = s.reg i := rfl
@[simp] theorem State.bumpBy_fld (i k : Nat) (f' : RegField) : (s.bumpBy i k).fld f' = s.fld f' := rfl
@[simp] theorem State.bumpBy_flag (i k : Nat) (f' : RegField) : (s.bumpBy i k).flag f' = s.flag f' := rfl
@[simp] theorem State.bumpBy_snap0 (i k : Nat) : (s.bumpBy i k).snap0 = s.snap0 := rfl
@[simp] theorem State.bumpBy_snap1 (i k : Nat) : (s.bumpBy i k).snap1 = s.snap1 := rfl
@[simp] theorem State.bumpBy_snap2 (i k : Nat) : (s.bumpBy i k).snap2 = s.snap2 := rfl
@[simp] theorem State.bumpBy_snap3 (i k : Nat) : (s.bumpBy i k).snap3 = s.snap3 := rfl
@[simp] theorem State.bumpBy_tick (i k : Nat) : (s.bumpBy i k).tick = s.tick := rfl
@[simp] theorem State.bumpBy_fc (i k : Nat) : (s.bumpBy i k).fc = s.fc := rfl
@[simp] theorem State.bumpBy_ports (i k : Nat) : (s.bumpBy i k).ports = s.ports := rfl
@[simp] theorem State.bumpBy_port (i k : Nat) (p' : Port) : (s.bumpBy i k).port p' = s.port p' := rfl
@[simp] theorem State.bumpBy_ev (i k : Nat) : (s.bumpBy i k).ev = s.ev := rfl
@[simp] theorem State.bumpBy_src (i k : Nat) (i' : Nat) : (s.bumpBy i k).src i' = s.src i' := rfl
@[simp] theorem State.bumpBy_evQueue (i k : Nat) (i' : Nat) : (s.bumpBy i k).evQueue i' = s.evQueue i' := rfl
@[simp] theorem State.bumpBy_capture (i k : Nat) : (s.bumpBy i k).capture = s.capture := rfl
@[simp] theorem State.bumpBy_hif (i k : Nat) : (s.bumpBy i k).hif = s.hif := rfl
@[simp] theorem State.bumpBy_sq_find (i k : Nat) (fn' j : Nat) : (s.bumpBy i k).sq? fn' j = s.sq? fn' j := rfl
@[simp] theorem State.bumpBy_cq_find (i k : Nat) (fn' j : Nat) : (s.bumpBy i k).cq? fn' j = s.cq? fn' j := rfl
@[simp] theorem State.bumpBy_tm (i k : Nat) : (s.bumpBy i k).tm = s.tm := rfl
@[simp] theorem State.bumpBy_flow (i k : Nat) : (s.bumpBy i k).flow = s.flow := rfl
@[simp] theorem State.bumpBy_mem (i k : Nat) : (s.bumpBy i k).mem = s.mem := rfl
@[simp] theorem State.bumpBy_rst (i k : Nat) : (s.bumpBy i k).rst = s.rst := rfl
@[simp] theorem State.bumpBy_hk (i k : Nat) : (s.bumpBy i k).hk = s.hk := rfl
@[simp] theorem State.bumpBy_thm (i k : Nat) : (s.bumpBy i k).thm = s.thm := rfl
@[simp] theorem State.bumpBy_pair (i k : Nat) : (s.bumpBy i k).pair = s.pair := rfl
@[simp] theorem State.bumpBy_lanes (i k : Nat) : (s.bumpBy i k).lanes = s.lanes := rfl
@[simp] theorem State.bumpBy_fw (i k : Nat) : (s.bumpBy i k).fw = s.fw := rfl
@[simp] theorem State.bumpBy_path (i k : Nat) : (s.bumpBy i k).path = s.path := rfl
@[simp] theorem State.bumpBy_tod (i k : Nat) : (s.bumpBy i k).tod = s.tod := rfl
@[simp] theorem State.bumpBy_out (i k : Nat) : (s.bumpBy i k).out = s.out := rfl
@[simp] theorem State.bumpBy_late (i k : Nat) : (s.bumpBy i k).late = s.late := rfl
@[simp] theorem State.bumpBy_freeCtr (i k : Nat) : (s.bumpBy i k).freeCtr = s.freeCtr := rfl

@[simp] theorem State.bump_pending (i : Nat) : (s.bump i).pending = s.pending := rfl
@[simp] theorem State.bump_regs (i : Nat) : (s.bump i).regs = s.regs := rfl
@[simp] theorem State.bump_reg (i : Nat) (i : Nat) : (s.bump i).reg i = s.reg i := rfl
@[simp] theorem State.bump_fld (i : Nat) (f' : RegField) : (s.bump i).fld f' = s.fld f' := rfl
@[simp] theorem State.bump_flag (i : Nat) (f' : RegField) : (s.bump i).flag f' = s.flag f' := rfl
@[simp] theorem State.bump_snap0 (i : Nat) : (s.bump i).snap0 = s.snap0 := rfl
@[simp] theorem State.bump_snap1 (i : Nat) : (s.bump i).snap1 = s.snap1 := rfl
@[simp] theorem State.bump_snap2 (i : Nat) : (s.bump i).snap2 = s.snap2 := rfl
@[simp] theorem State.bump_snap3 (i : Nat) : (s.bump i).snap3 = s.snap3 := rfl
@[simp] theorem State.bump_tick (i : Nat) : (s.bump i).tick = s.tick := rfl
@[simp] theorem State.bump_fc (i : Nat) : (s.bump i).fc = s.fc := rfl
@[simp] theorem State.bump_ports (i : Nat) : (s.bump i).ports = s.ports := rfl
@[simp] theorem State.bump_port (i : Nat) (p' : Port) : (s.bump i).port p' = s.port p' := rfl
@[simp] theorem State.bump_ev (i : Nat) : (s.bump i).ev = s.ev := rfl
@[simp] theorem State.bump_src (i : Nat) (i' : Nat) : (s.bump i).src i' = s.src i' := rfl
@[simp] theorem State.bump_evQueue (i : Nat) (i' : Nat) : (s.bump i).evQueue i' = s.evQueue i' := rfl
@[simp] theorem State.bump_capture (i : Nat) : (s.bump i).capture = s.capture := rfl
@[simp] theorem State.bump_hif (i : Nat) : (s.bump i).hif = s.hif := rfl
@[simp] theorem State.bump_sq_find (i : Nat) (fn' j : Nat) : (s.bump i).sq? fn' j = s.sq? fn' j := rfl
@[simp] theorem State.bump_cq_find (i : Nat) (fn' j : Nat) : (s.bump i).cq? fn' j = s.cq? fn' j := rfl
@[simp] theorem State.bump_tm (i : Nat) : (s.bump i).tm = s.tm := rfl
@[simp] theorem State.bump_flow (i : Nat) : (s.bump i).flow = s.flow := rfl
@[simp] theorem State.bump_mem (i : Nat) : (s.bump i).mem = s.mem := rfl
@[simp] theorem State.bump_rst (i : Nat) : (s.bump i).rst = s.rst := rfl
@[simp] theorem State.bump_hk (i : Nat) : (s.bump i).hk = s.hk := rfl
@[simp] theorem State.bump_thm (i : Nat) : (s.bump i).thm = s.thm := rfl
@[simp] theorem State.bump_pair (i : Nat) : (s.bump i).pair = s.pair := rfl
@[simp] theorem State.bump_lanes (i : Nat) : (s.bump i).lanes = s.lanes := rfl
@[simp] theorem State.bump_fw (i : Nat) : (s.bump i).fw = s.fw := rfl
@[simp] theorem State.bump_path (i : Nat) : (s.bump i).path = s.path := rfl
@[simp] theorem State.bump_tod (i : Nat) : (s.bump i).tod = s.tod := rfl
@[simp] theorem State.bump_out (i : Nat) : (s.bump i).out = s.out := rfl
@[simp] theorem State.bump_late (i : Nat) : (s.bump i).late = s.late := rfl
@[simp] theorem State.bump_freeCtr (i : Nat) : (s.bump i).freeCtr = s.freeCtr := rfl

@[simp] theorem State.bumpP_pending (p : Port) (i : Nat) : (s.bumpP p i).pending = s.pending := rfl
@[simp] theorem State.bumpP_regs (p : Port) (i : Nat) : (s.bumpP p i).regs = s.regs := rfl
@[simp] theorem State.bumpP_reg (p : Port) (i : Nat) (i : Nat) : (s.bumpP p i).reg i = s.reg i := rfl
@[simp] theorem State.bumpP_fld (p : Port) (i : Nat) (f' : RegField) : (s.bumpP p i).fld f' = s.fld f' := rfl
@[simp] theorem State.bumpP_flag (p : Port) (i : Nat) (f' : RegField) : (s.bumpP p i).flag f' = s.flag f' := rfl
@[simp] theorem State.bumpP_snap0 (p : Port) (i : Nat) : (s.bumpP p i).snap0 = s.snap0 := rfl
@[simp] theorem State.bumpP_snap1 (p : Port) (i : Nat) : (s.bumpP p i).snap1 = s.snap1 := rfl
@[simp] theorem State.bumpP_snap2 (p : Port) (i : Nat) : (s.bumpP p i).snap2 = s.snap2 := rfl
@[simp] theorem State.bumpP_snap3 (p : Port) (i : Nat) : (s.bumpP p i).snap3 = s.snap3 := rfl
@[simp] theorem State.bumpP_tick (p : Port) (i : Nat) : (s.bumpP p i).tick = s.tick := rfl
@[simp] theorem State.bumpP_fc (p : Port) (i : Nat) : (s.bumpP p i).fc = s.fc := rfl
@[simp] theorem State.bumpP_ports (p : Port) (i : Nat) : (s.bumpP p i).ports = s.ports := rfl
@[simp] theorem State.bumpP_port (p : Port) (i : Nat) (p' : Port) : (s.bumpP p i).port p' = s.port p' := rfl
@[simp] theorem State.bumpP_ev (p : Port) (i : Nat) : (s.bumpP p i).ev = s.ev := rfl
@[simp] theorem State.bumpP_src (p : Port) (i : Nat) (i' : Nat) : (s.bumpP p i).src i' = s.src i' := rfl
@[simp] theorem State.bumpP_evQueue (p : Port) (i : Nat) (i' : Nat) : (s.bumpP p i).evQueue i' = s.evQueue i' := rfl
@[simp] theorem State.bumpP_capture (p : Port) (i : Nat) : (s.bumpP p i).capture = s.capture := rfl
@[simp] theorem State.bumpP_hif (p : Port) (i : Nat) : (s.bumpP p i).hif = s.hif := rfl
@[simp] theorem State.bumpP_sq_find (p : Port) (i : Nat) (fn' j : Nat) : (s.bumpP p i).sq? fn' j = s.sq? fn' j := rfl
@[simp] theorem State.bumpP_cq_find (p : Port) (i : Nat) (fn' j : Nat) : (s.bumpP p i).cq? fn' j = s.cq? fn' j := rfl
@[simp] theorem State.bumpP_tm (p : Port) (i : Nat) : (s.bumpP p i).tm = s.tm := rfl
@[simp] theorem State.bumpP_flow (p : Port) (i : Nat) : (s.bumpP p i).flow = s.flow := rfl
@[simp] theorem State.bumpP_mem (p : Port) (i : Nat) : (s.bumpP p i).mem = s.mem := rfl
@[simp] theorem State.bumpP_rst (p : Port) (i : Nat) : (s.bumpP p i).rst = s.rst := rfl
@[simp] theorem State.bumpP_hk (p : Port) (i : Nat) : (s.bumpP p i).hk = s.hk := rfl
@[simp] theorem State.bumpP_thm (p : Port) (i : Nat) : (s.bumpP p i).thm = s.thm := rfl
@[simp] theorem State.bumpP_pair (p : Port) (i : Nat) : (s.bumpP p i).pair = s.pair := rfl
@[simp] theorem State.bumpP_lanes (p : Port) (i : Nat) : (s.bumpP p i).lanes = s.lanes := rfl
@[simp] theorem State.bumpP_fw (p : Port) (i : Nat) : (s.bumpP p i).fw = s.fw := rfl
@[simp] theorem State.bumpP_path (p : Port) (i : Nat) : (s.bumpP p i).path = s.path := rfl
@[simp] theorem State.bumpP_tod (p : Port) (i : Nat) : (s.bumpP p i).tod = s.tod := rfl
@[simp] theorem State.bumpP_out (p : Port) (i : Nat) : (s.bumpP p i).out = s.out := rfl
@[simp] theorem State.bumpP_late (p : Port) (i : Nat) : (s.bumpP p i).late = s.late := rfl
@[simp] theorem State.bumpP_freeCtr (p : Port) (i : Nat) : (s.bumpP p i).freeCtr = s.freeCtr := rfl

@[simp] theorem State.setSrc_pending (i : Nat) (x : Src) : (s.setSrc i x).pending = s.pending := rfl
@[simp] theorem State.setSrc_regs (i : Nat) (x : Src) : (s.setSrc i x).regs = s.regs := rfl
@[simp] theorem State.setSrc_reg (i : Nat) (x : Src) (i : Nat) : (s.setSrc i x).reg i = s.reg i := rfl
@[simp] theorem State.setSrc_fld (i : Nat) (x : Src) (f' : RegField) : (s.setSrc i x).fld f' = s.fld f' := rfl
@[simp] theorem State.setSrc_flag (i : Nat) (x : Src) (f' : RegField) : (s.setSrc i x).flag f' = s.flag f' := rfl
@[simp] theorem State.setSrc_snap0 (i : Nat) (x : Src) : (s.setSrc i x).snap0 = s.snap0 := rfl
@[simp] theorem State.setSrc_snap1 (i : Nat) (x : Src) : (s.setSrc i x).snap1 = s.snap1 := rfl
@[simp] theorem State.setSrc_snap2 (i : Nat) (x : Src) : (s.setSrc i x).snap2 = s.snap2 := rfl
@[simp] theorem State.setSrc_snap3 (i : Nat) (x : Src) : (s.setSrc i x).snap3 = s.snap3 := rfl
@[simp] theorem State.setSrc_tick (i : Nat) (x : Src) : (s.setSrc i x).tick = s.tick := rfl
@[simp] theorem State.setSrc_fc (i : Nat) (x : Src) : (s.setSrc i x).fc = s.fc := rfl
@[simp] theorem State.setSrc_ports (i : Nat) (x : Src) : (s.setSrc i x).ports = s.ports := rfl
@[simp] theorem State.setSrc_port (i : Nat) (x : Src) (p' : Port) : (s.setSrc i x).port p' = s.port p' := rfl
@[simp] theorem State.setSrc_ctr (i : Nat) (x : Src) : (s.setSrc i x).ctr = s.ctr := rfl
@[simp] theorem State.setSrc_counter (i : Nat) (x : Src) (i' : Nat) : (s.setSrc i x).counter i' = s.counter i' := rfl
@[simp] theorem State.setSrc_capture (i : Nat) (x : Src) : (s.setSrc i x).capture = s.capture := rfl
@[simp] theorem State.setSrc_hif (i : Nat) (x : Src) : (s.setSrc i x).hif = s.hif := rfl
@[simp] theorem State.setSrc_sq_find (i : Nat) (x : Src) (fn' j : Nat) : (s.setSrc i x).sq? fn' j = s.sq? fn' j := rfl
@[simp] theorem State.setSrc_cq_find (i : Nat) (x : Src) (fn' j : Nat) : (s.setSrc i x).cq? fn' j = s.cq? fn' j := rfl
@[simp] theorem State.setSrc_tm (i : Nat) (x : Src) : (s.setSrc i x).tm = s.tm := rfl
@[simp] theorem State.setSrc_flow (i : Nat) (x : Src) : (s.setSrc i x).flow = s.flow := rfl
@[simp] theorem State.setSrc_mem (i : Nat) (x : Src) : (s.setSrc i x).mem = s.mem := rfl
@[simp] theorem State.setSrc_rst (i : Nat) (x : Src) : (s.setSrc i x).rst = s.rst := rfl
@[simp] theorem State.setSrc_hk (i : Nat) (x : Src) : (s.setSrc i x).hk = s.hk := rfl
@[simp] theorem State.setSrc_thm (i : Nat) (x : Src) : (s.setSrc i x).thm = s.thm := rfl
@[simp] theorem State.setSrc_pair (i : Nat) (x : Src) : (s.setSrc i x).pair = s.pair := rfl
@[simp] theorem State.setSrc_lanes (i : Nat) (x : Src) : (s.setSrc i x).lanes = s.lanes := rfl
@[simp] theorem State.setSrc_fw (i : Nat) (x : Src) : (s.setSrc i x).fw = s.fw := rfl
@[simp] theorem State.setSrc_path (i : Nat) (x : Src) : (s.setSrc i x).path = s.path := rfl
@[simp] theorem State.setSrc_tod (i : Nat) (x : Src) : (s.setSrc i x).tod = s.tod := rfl
@[simp] theorem State.setSrc_out (i : Nat) (x : Src) : (s.setSrc i x).out = s.out := rfl
@[simp] theorem State.setSrc_late (i : Nat) (x : Src) : (s.setSrc i x).late = s.late := rfl
@[simp] theorem State.setSrc_freeCtr (i : Nat) (x : Src) : (s.setSrc i x).freeCtr = s.freeCtr := rfl

@[simp] theorem State.setEvQueue_pending (i : Nat) (x : EvQueue) : (s.setEvQueue i x).pending = s.pending := rfl
@[simp] theorem State.setEvQueue_regs (i : Nat) (x : EvQueue) : (s.setEvQueue i x).regs = s.regs := rfl
@[simp] theorem State.setEvQueue_reg (i : Nat) (x : EvQueue) (i : Nat) : (s.setEvQueue i x).reg i = s.reg i := rfl
@[simp] theorem State.setEvQueue_fld (i : Nat) (x : EvQueue) (f' : RegField) : (s.setEvQueue i x).fld f' = s.fld f' := rfl
@[simp] theorem State.setEvQueue_flag (i : Nat) (x : EvQueue) (f' : RegField) : (s.setEvQueue i x).flag f' = s.flag f' := rfl
@[simp] theorem State.setEvQueue_snap0 (i : Nat) (x : EvQueue) : (s.setEvQueue i x).snap0 = s.snap0 := rfl
@[simp] theorem State.setEvQueue_snap1 (i : Nat) (x : EvQueue) : (s.setEvQueue i x).snap1 = s.snap1 := rfl
@[simp] theorem State.setEvQueue_snap2 (i : Nat) (x : EvQueue) : (s.setEvQueue i x).snap2 = s.snap2 := rfl
@[simp] theorem State.setEvQueue_snap3 (i : Nat) (x : EvQueue) : (s.setEvQueue i x).snap3 = s.snap3 := rfl
@[simp] theorem State.setEvQueue_tick (i : Nat) (x : EvQueue) : (s.setEvQueue i x).tick = s.tick := rfl
@[simp] theorem State.setEvQueue_fc (i : Nat) (x : EvQueue) : (s.setEvQueue i x).fc = s.fc := rfl
@[simp] theorem State.setEvQueue_ports (i : Nat) (x : EvQueue) : (s.setEvQueue i x).ports = s.ports := rfl
@[simp] theorem State.setEvQueue_port (i : Nat) (x : EvQueue) (p' : Port) : (s.setEvQueue i x).port p' = s.port p' := rfl
@[simp] theorem State.setEvQueue_ctr (i : Nat) (x : EvQueue) : (s.setEvQueue i x).ctr = s.ctr := rfl
@[simp] theorem State.setEvQueue_counter (i : Nat) (x : EvQueue) (i' : Nat) : (s.setEvQueue i x).counter i' = s.counter i' := rfl
@[simp] theorem State.setEvQueue_capture (i : Nat) (x : EvQueue) : (s.setEvQueue i x).capture = s.capture := rfl
@[simp] theorem State.setEvQueue_hif (i : Nat) (x : EvQueue) : (s.setEvQueue i x).hif = s.hif := rfl
@[simp] theorem State.setEvQueue_sq_find (i : Nat) (x : EvQueue) (fn' j : Nat) : (s.setEvQueue i x).sq? fn' j = s.sq? fn' j := rfl
@[simp] theorem State.setEvQueue_cq_find (i : Nat) (x : EvQueue) (fn' j : Nat) : (s.setEvQueue i x).cq? fn' j = s.cq? fn' j := rfl
@[simp] theorem State.setEvQueue_tm (i : Nat) (x : EvQueue) : (s.setEvQueue i x).tm = s.tm := rfl
@[simp] theorem State.setEvQueue_flow (i : Nat) (x : EvQueue) : (s.setEvQueue i x).flow = s.flow := rfl
@[simp] theorem State.setEvQueue_mem (i : Nat) (x : EvQueue) : (s.setEvQueue i x).mem = s.mem := rfl
@[simp] theorem State.setEvQueue_rst (i : Nat) (x : EvQueue) : (s.setEvQueue i x).rst = s.rst := rfl
@[simp] theorem State.setEvQueue_hk (i : Nat) (x : EvQueue) : (s.setEvQueue i x).hk = s.hk := rfl
@[simp] theorem State.setEvQueue_thm (i : Nat) (x : EvQueue) : (s.setEvQueue i x).thm = s.thm := rfl
@[simp] theorem State.setEvQueue_pair (i : Nat) (x : EvQueue) : (s.setEvQueue i x).pair = s.pair := rfl
@[simp] theorem State.setEvQueue_lanes (i : Nat) (x : EvQueue) : (s.setEvQueue i x).lanes = s.lanes := rfl
@[simp] theorem State.setEvQueue_fw (i : Nat) (x : EvQueue) : (s.setEvQueue i x).fw = s.fw := rfl
@[simp] theorem State.setEvQueue_path (i : Nat) (x : EvQueue) : (s.setEvQueue i x).path = s.path := rfl
@[simp] theorem State.setEvQueue_tod (i : Nat) (x : EvQueue) : (s.setEvQueue i x).tod = s.tod := rfl
@[simp] theorem State.setEvQueue_out (i : Nat) (x : EvQueue) : (s.setEvQueue i x).out = s.out := rfl
@[simp] theorem State.setEvQueue_late (i : Nat) (x : EvQueue) : (s.setEvQueue i x).late = s.late := rfl
@[simp] theorem State.setEvQueue_freeCtr (i : Nat) (x : EvQueue) : (s.setEvQueue i x).freeCtr = s.freeCtr := rfl

@[simp] theorem State.joinList_pending (i : Nat) : (s.joinList i).pending = s.pending := rfl
@[simp] theorem State.joinList_regs (i : Nat) : (s.joinList i).regs = s.regs := rfl
@[simp] theorem State.joinList_reg (i : Nat) (i : Nat) : (s.joinList i).reg i = s.reg i := rfl
@[simp] theorem State.joinList_fld (i : Nat) (f' : RegField) : (s.joinList i).fld f' = s.fld f' := rfl
@[simp] theorem State.joinList_flag (i : Nat) (f' : RegField) : (s.joinList i).flag f' = s.flag f' := rfl
@[simp] theorem State.joinList_snap0 (i : Nat) : (s.joinList i).snap0 = s.snap0 := rfl
@[simp] theorem State.joinList_snap1 (i : Nat) : (s.joinList i).snap1 = s.snap1 := rfl
@[simp] theorem State.joinList_snap2 (i : Nat) : (s.joinList i).snap2 = s.snap2 := rfl
@[simp] theorem State.joinList_snap3 (i : Nat) : (s.joinList i).snap3 = s.snap3 := rfl
@[simp] theorem State.joinList_tick (i : Nat) : (s.joinList i).tick = s.tick := rfl
@[simp] theorem State.joinList_fc (i : Nat) : (s.joinList i).fc = s.fc := rfl
@[simp] theorem State.joinList_ports (i : Nat) : (s.joinList i).ports = s.ports := rfl
@[simp] theorem State.joinList_port (i : Nat) (p' : Port) : (s.joinList i).port p' = s.port p' := rfl
@[simp] theorem State.joinList_ctr (i : Nat) : (s.joinList i).ctr = s.ctr := rfl
@[simp] theorem State.joinList_counter (i : Nat) (i' : Nat) : (s.joinList i).counter i' = s.counter i' := rfl
@[simp] theorem State.joinList_capture (i : Nat) : (s.joinList i).capture = s.capture := rfl
@[simp] theorem State.joinList_hif (i : Nat) : (s.joinList i).hif = s.hif := rfl
@[simp] theorem State.joinList_sq_find (i : Nat) (fn' j : Nat) : (s.joinList i).sq? fn' j = s.sq? fn' j := rfl
@[simp] theorem State.joinList_cq_find (i : Nat) (fn' j : Nat) : (s.joinList i).cq? fn' j = s.cq? fn' j := rfl
@[simp] theorem State.joinList_tm (i : Nat) : (s.joinList i).tm = s.tm := rfl
@[simp] theorem State.joinList_flow (i : Nat) : (s.joinList i).flow = s.flow := rfl
@[simp] theorem State.joinList_mem (i : Nat) : (s.joinList i).mem = s.mem := rfl
@[simp] theorem State.joinList_rst (i : Nat) : (s.joinList i).rst = s.rst := rfl
@[simp] theorem State.joinList_hk (i : Nat) : (s.joinList i).hk = s.hk := rfl
@[simp] theorem State.joinList_thm (i : Nat) : (s.joinList i).thm = s.thm := rfl
@[simp] theorem State.joinList_pair (i : Nat) : (s.joinList i).pair = s.pair := rfl
@[simp] theorem State.joinList_lanes (i : Nat) : (s.joinList i).lanes = s.lanes := rfl
@[simp] theorem State.joinList_fw (i : Nat) : (s.joinList i).fw = s.fw := rfl
@[simp] theorem State.joinList_path (i : Nat) : (s.joinList i).path = s.path := rfl
@[simp] theorem State.joinList_tod (i : Nat) : (s.joinList i).tod = s.tod := rfl
@[simp] theorem State.joinList_out (i : Nat) : (s.joinList i).out = s.out := rfl
@[simp] theorem State.joinList_late (i : Nat) : (s.joinList i).late = s.late := rfl
@[simp] theorem State.joinList_freeCtr (i : Nat) : (s.joinList i).freeCtr = s.freeCtr := rfl

@[simp] theorem State.leaveList_pending (i : Nat) : (s.leaveList i).pending = s.pending := rfl
@[simp] theorem State.leaveList_regs (i : Nat) : (s.leaveList i).regs = s.regs := rfl
@[simp] theorem State.leaveList_reg (i : Nat) (i : Nat) : (s.leaveList i).reg i = s.reg i := rfl
@[simp] theorem State.leaveList_fld (i : Nat) (f' : RegField) : (s.leaveList i).fld f' = s.fld f' := rfl
@[simp] theorem State.leaveList_flag (i : Nat) (f' : RegField) : (s.leaveList i).flag f' = s.flag f' := rfl
@[simp] theorem State.leaveList_snap0 (i : Nat) : (s.leaveList i).snap0 = s.snap0 := rfl
@[simp] theorem State.leaveList_snap1 (i : Nat) : (s.leaveList i).snap1 = s.snap1 := rfl
@[simp] theorem State.leaveList_snap2 (i : Nat) : (s.leaveList i).snap2 = s.snap2 := rfl
@[simp] theorem State.leaveList_snap3 (i : Nat) : (s.leaveList i).snap3 = s.snap3 := rfl
@[simp] theorem State.leaveList_tick (i : Nat) : (s.leaveList i).tick = s.tick := rfl
@[simp] theorem State.leaveList_fc (i : Nat) : (s.leaveList i).fc = s.fc := rfl
@[simp] theorem State.leaveList_ports (i : Nat) : (s.leaveList i).ports = s.ports := rfl
@[simp] theorem State.leaveList_port (i : Nat) (p' : Port) : (s.leaveList i).port p' = s.port p' := rfl
@[simp] theorem State.leaveList_ctr (i : Nat) : (s.leaveList i).ctr = s.ctr := rfl
@[simp] theorem State.leaveList_counter (i : Nat) (i' : Nat) : (s.leaveList i).counter i' = s.counter i' := rfl
@[simp] theorem State.leaveList_capture (i : Nat) : (s.leaveList i).capture = s.capture := rfl
@[simp] theorem State.leaveList_hif (i : Nat) : (s.leaveList i).hif = s.hif := rfl
@[simp] theorem State.leaveList_sq_find (i : Nat) (fn' j : Nat) : (s.leaveList i).sq? fn' j = s.sq? fn' j := rfl
@[simp] theorem State.leaveList_cq_find (i : Nat) (fn' j : Nat) : (s.leaveList i).cq? fn' j = s.cq? fn' j := rfl
@[simp] theorem State.leaveList_tm (i : Nat) : (s.leaveList i).tm = s.tm := rfl
@[simp] theorem State.leaveList_flow (i : Nat) : (s.leaveList i).flow = s.flow := rfl
@[simp] theorem State.leaveList_mem (i : Nat) : (s.leaveList i).mem = s.mem := rfl
@[simp] theorem State.leaveList_rst (i : Nat) : (s.leaveList i).rst = s.rst := rfl
@[simp] theorem State.leaveList_hk (i : Nat) : (s.leaveList i).hk = s.hk := rfl
@[simp] theorem State.leaveList_thm (i : Nat) : (s.leaveList i).thm = s.thm := rfl
@[simp] theorem State.leaveList_pair (i : Nat) : (s.leaveList i).pair = s.pair := rfl
@[simp] theorem State.leaveList_lanes (i : Nat) : (s.leaveList i).lanes = s.lanes := rfl
@[simp] theorem State.leaveList_fw (i : Nat) : (s.leaveList i).fw = s.fw := rfl
@[simp] theorem State.leaveList_path (i : Nat) : (s.leaveList i).path = s.path := rfl
@[simp] theorem State.leaveList_tod (i : Nat) : (s.leaveList i).tod = s.tod := rfl
@[simp] theorem State.leaveList_out (i : Nat) : (s.leaveList i).out = s.out := rfl
@[simp] theorem State.leaveList_late (i : Nat) : (s.leaveList i).late = s.late := rfl
@[simp] theorem State.leaveList_freeCtr (i : Nat) : (s.leaveList i).freeCtr = s.freeCtr := rfl

@[simp] theorem State.setSq_pending (fn i : Nat) (x : Sq) : (s.setSq fn i x).pending = s.pending := rfl
@[simp] theorem State.setSq_regs (fn i : Nat) (x : Sq) : (s.setSq fn i x).regs = s.regs := rfl
@[simp] theorem State.setSq_reg (fn i : Nat) (x : Sq) (i : Nat) : (s.setSq fn i x).reg i = s.reg i := rfl
@[simp] theorem State.setSq_fld (fn i : Nat) (x : Sq) (f' : RegField) : (s.setSq fn i x).fld f' = s.fld f' := rfl
@[simp] theorem State.setSq_flag (fn i : Nat) (x : Sq) (f' : RegField) : (s.setSq fn i x).flag f' = s.flag f' := rfl
@[simp] theorem State.setSq_snap0 (fn i : Nat) (x : Sq) : (s.setSq fn i x).snap0 = s.snap0 := rfl
@[simp] theorem State.setSq_snap1 (fn i : Nat) (x : Sq) : (s.setSq fn i x).snap1 = s.snap1 := rfl
@[simp] theorem State.setSq_snap2 (fn i : Nat) (x : Sq) : (s.setSq fn i x).snap2 = s.snap2 := rfl
@[simp] theorem State.setSq_snap3 (fn i : Nat) (x : Sq) : (s.setSq fn i x).snap3 = s.snap3 := rfl
@[simp] theorem State.setSq_tick (fn i : Nat) (x : Sq) : (s.setSq fn i x).tick = s.tick := rfl
@[simp] theorem State.setSq_fc (fn i : Nat) (x : Sq) : (s.setSq fn i x).fc = s.fc := rfl
@[simp] theorem State.setSq_ports (fn i : Nat) (x : Sq) : (s.setSq fn i x).ports = s.ports := rfl
@[simp] theorem State.setSq_port (fn i : Nat) (x : Sq) (p' : Port) : (s.setSq fn i x).port p' = s.port p' := rfl
@[simp] theorem State.setSq_ev (fn i : Nat) (x : Sq) : (s.setSq fn i x).ev = s.ev := rfl
@[simp] theorem State.setSq_src (fn i : Nat) (x : Sq) (i' : Nat) : (s.setSq fn i x).src i' = s.src i' := rfl
@[simp] theorem State.setSq_evQueue (fn i : Nat) (x : Sq) (i' : Nat) : (s.setSq fn i x).evQueue i' = s.evQueue i' := rfl
@[simp] theorem State.setSq_ctr (fn i : Nat) (x : Sq) : (s.setSq fn i x).ctr = s.ctr := rfl
@[simp] theorem State.setSq_counter (fn i : Nat) (x : Sq) (i' : Nat) : (s.setSq fn i x).counter i' = s.counter i' := rfl
@[simp] theorem State.setSq_capture (fn i : Nat) (x : Sq) : (s.setSq fn i x).capture = s.capture := rfl
@[simp] theorem State.setSq_tm (fn i : Nat) (x : Sq) : (s.setSq fn i x).tm = s.tm := rfl
@[simp] theorem State.setSq_flow (fn i : Nat) (x : Sq) : (s.setSq fn i x).flow = s.flow := rfl
@[simp] theorem State.setSq_mem (fn i : Nat) (x : Sq) : (s.setSq fn i x).mem = s.mem := rfl
@[simp] theorem State.setSq_rst (fn i : Nat) (x : Sq) : (s.setSq fn i x).rst = s.rst := rfl
@[simp] theorem State.setSq_hk (fn i : Nat) (x : Sq) : (s.setSq fn i x).hk = s.hk := rfl
@[simp] theorem State.setSq_thm (fn i : Nat) (x : Sq) : (s.setSq fn i x).thm = s.thm := rfl
@[simp] theorem State.setSq_pair (fn i : Nat) (x : Sq) : (s.setSq fn i x).pair = s.pair := rfl
@[simp] theorem State.setSq_lanes (fn i : Nat) (x : Sq) : (s.setSq fn i x).lanes = s.lanes := rfl
@[simp] theorem State.setSq_fw (fn i : Nat) (x : Sq) : (s.setSq fn i x).fw = s.fw := rfl
@[simp] theorem State.setSq_path (fn i : Nat) (x : Sq) : (s.setSq fn i x).path = s.path := rfl
@[simp] theorem State.setSq_tod (fn i : Nat) (x : Sq) : (s.setSq fn i x).tod = s.tod := rfl
@[simp] theorem State.setSq_out (fn i : Nat) (x : Sq) : (s.setSq fn i x).out = s.out := rfl
@[simp] theorem State.setSq_late (fn i : Nat) (x : Sq) : (s.setSq fn i x).late = s.late := rfl
@[simp] theorem State.setSq_freeCtr (fn i : Nat) (x : Sq) : (s.setSq fn i x).freeCtr = s.freeCtr := rfl

@[simp] theorem State.setCq_pending (fn i : Nat) (x : Cq) : (s.setCq fn i x).pending = s.pending := rfl
@[simp] theorem State.setCq_regs (fn i : Nat) (x : Cq) : (s.setCq fn i x).regs = s.regs := rfl
@[simp] theorem State.setCq_reg (fn i : Nat) (x : Cq) (i : Nat) : (s.setCq fn i x).reg i = s.reg i := rfl
@[simp] theorem State.setCq_fld (fn i : Nat) (x : Cq) (f' : RegField) : (s.setCq fn i x).fld f' = s.fld f' := rfl
@[simp] theorem State.setCq_flag (fn i : Nat) (x : Cq) (f' : RegField) : (s.setCq fn i x).flag f' = s.flag f' := rfl
@[simp] theorem State.setCq_snap0 (fn i : Nat) (x : Cq) : (s.setCq fn i x).snap0 = s.snap0 := rfl
@[simp] theorem State.setCq_snap1 (fn i : Nat) (x : Cq) : (s.setCq fn i x).snap1 = s.snap1 := rfl
@[simp] theorem State.setCq_snap2 (fn i : Nat) (x : Cq) : (s.setCq fn i x).snap2 = s.snap2 := rfl
@[simp] theorem State.setCq_snap3 (fn i : Nat) (x : Cq) : (s.setCq fn i x).snap3 = s.snap3 := rfl
@[simp] theorem State.setCq_tick (fn i : Nat) (x : Cq) : (s.setCq fn i x).tick = s.tick := rfl
@[simp] theorem State.setCq_fc (fn i : Nat) (x : Cq) : (s.setCq fn i x).fc = s.fc := rfl
@[simp] theorem State.setCq_ports (fn i : Nat) (x : Cq) : (s.setCq fn i x).ports = s.ports := rfl
@[simp] theorem State.setCq_port (fn i : Nat) (x : Cq) (p' : Port) : (s.setCq fn i x).port p' = s.port p' := rfl
@[simp] theorem State.setCq_ev (fn i : Nat) (x : Cq) : (s.setCq fn i x).ev = s.ev := rfl
@[simp] theorem State.setCq_src (fn i : Nat) (x : Cq) (i' : Nat) : (s.setCq fn i x).src i' = s.src i' := rfl
@[simp] theorem State.setCq_evQueue (fn i : Nat) (x : Cq) (i' : Nat) : (s.setCq fn i x).evQueue i' = s.evQueue i' := rfl
@[simp] theorem State.setCq_ctr (fn i : Nat) (x : Cq) : (s.setCq fn i x).ctr = s.ctr := rfl
@[simp] theorem State.setCq_counter (fn i : Nat) (x : Cq) (i' : Nat) : (s.setCq fn i x).counter i' = s.counter i' := rfl
@[simp] theorem State.setCq_capture (fn i : Nat) (x : Cq) : (s.setCq fn i x).capture = s.capture := rfl
@[simp] theorem State.setCq_tm (fn i : Nat) (x : Cq) : (s.setCq fn i x).tm = s.tm := rfl
@[simp] theorem State.setCq_flow (fn i : Nat) (x : Cq) : (s.setCq fn i x).flow = s.flow := rfl
@[simp] theorem State.setCq_mem (fn i : Nat) (x : Cq) : (s.setCq fn i x).mem = s.mem := rfl
@[simp] theorem State.setCq_rst (fn i : Nat) (x : Cq) : (s.setCq fn i x).rst = s.rst := rfl
@[simp] theorem State.setCq_hk (fn i : Nat) (x : Cq) : (s.setCq fn i x).hk = s.hk := rfl
@[simp] theorem State.setCq_thm (fn i : Nat) (x : Cq) : (s.setCq fn i x).thm = s.thm := rfl
@[simp] theorem State.setCq_pair (fn i : Nat) (x : Cq) : (s.setCq fn i x).pair = s.pair := rfl
@[simp] theorem State.setCq_lanes (fn i : Nat) (x : Cq) : (s.setCq fn i x).lanes = s.lanes := rfl
@[simp] theorem State.setCq_fw (fn i : Nat) (x : Cq) : (s.setCq fn i x).fw = s.fw := rfl
@[simp] theorem State.setCq_path (fn i : Nat) (x : Cq) : (s.setCq fn i x).path = s.path := rfl
@[simp] theorem State.setCq_tod (fn i : Nat) (x : Cq) : (s.setCq fn i x).tod = s.tod := rfl
@[simp] theorem State.setCq_out (fn i : Nat) (x : Cq) : (s.setCq fn i x).out = s.out := rfl
@[simp] theorem State.setCq_late (fn i : Nat) (x : Cq) : (s.setCq fn i x).late = s.late := rfl
@[simp] theorem State.setCq_freeCtr (fn i : Nat) (x : Cq) : (s.setCq fn i x).freeCtr = s.freeCtr := rfl

@[simp] theorem State.holdBack_pending (iss : Issue) : (s.holdBack iss).pending = s.pending := rfl
@[simp] theorem State.holdBack_regs (iss : Issue) : (s.holdBack iss).regs = s.regs := rfl
@[simp] theorem State.holdBack_reg (iss : Issue) (i : Nat) : (s.holdBack iss).reg i = s.reg i := rfl
@[simp] theorem State.holdBack_fld (iss : Issue) (f' : RegField) : (s.holdBack iss).fld f' = s.fld f' := rfl
@[simp] theorem State.holdBack_flag (iss : Issue) (f' : RegField) : (s.holdBack iss).flag f' = s.flag f' := rfl
@[simp] theorem State.holdBack_snap0 (iss : Issue) : (s.holdBack iss).snap0 = s.snap0 := rfl
@[simp] theorem State.holdBack_snap1 (iss : Issue) : (s.holdBack iss).snap1 = s.snap1 := rfl
@[simp] theorem State.holdBack_snap2 (iss : Issue) : (s.holdBack iss).snap2 = s.snap2 := rfl
@[simp] theorem State.holdBack_snap3 (iss : Issue) : (s.holdBack iss).snap3 = s.snap3 := rfl
@[simp] theorem State.holdBack_tick (iss : Issue) : (s.holdBack iss).tick = s.tick := rfl
@[simp] theorem State.holdBack_fc (iss : Issue) : (s.holdBack iss).fc = s.fc := rfl
@[simp] theorem State.holdBack_ports (iss : Issue) : (s.holdBack iss).ports = s.ports := rfl
@[simp] theorem State.holdBack_port (iss : Issue) (p' : Port) : (s.holdBack iss).port p' = s.port p' := rfl
@[simp] theorem State.holdBack_ev (iss : Issue) : (s.holdBack iss).ev = s.ev := rfl
@[simp] theorem State.holdBack_src (iss : Issue) (i' : Nat) : (s.holdBack iss).src i' = s.src i' := rfl
@[simp] theorem State.holdBack_evQueue (iss : Issue) (i' : Nat) : (s.holdBack iss).evQueue i' = s.evQueue i' := rfl
@[simp] theorem State.holdBack_ctr (iss : Issue) : (s.holdBack iss).ctr = s.ctr := rfl
@[simp] theorem State.holdBack_counter (iss : Issue) (i' : Nat) : (s.holdBack iss).counter i' = s.counter i' := rfl
@[simp] theorem State.holdBack_capture (iss : Issue) : (s.holdBack iss).capture = s.capture := rfl
@[simp] theorem State.holdBack_tm (iss : Issue) : (s.holdBack iss).tm = s.tm := rfl
@[simp] theorem State.holdBack_flow (iss : Issue) : (s.holdBack iss).flow = s.flow := rfl
@[simp] theorem State.holdBack_mem (iss : Issue) : (s.holdBack iss).mem = s.mem := rfl
@[simp] theorem State.holdBack_rst (iss : Issue) : (s.holdBack iss).rst = s.rst := rfl
@[simp] theorem State.holdBack_hk (iss : Issue) : (s.holdBack iss).hk = s.hk := rfl
@[simp] theorem State.holdBack_thm (iss : Issue) : (s.holdBack iss).thm = s.thm := rfl
@[simp] theorem State.holdBack_pair (iss : Issue) : (s.holdBack iss).pair = s.pair := rfl
@[simp] theorem State.holdBack_lanes (iss : Issue) : (s.holdBack iss).lanes = s.lanes := rfl
@[simp] theorem State.holdBack_fw (iss : Issue) : (s.holdBack iss).fw = s.fw := rfl
@[simp] theorem State.holdBack_path (iss : Issue) : (s.holdBack iss).path = s.path := rfl
@[simp] theorem State.holdBack_tod (iss : Issue) : (s.holdBack iss).tod = s.tod := rfl
@[simp] theorem State.holdBack_out (iss : Issue) : (s.holdBack iss).out = s.out := rfl
@[simp] theorem State.holdBack_late (iss : Issue) : (s.holdBack iss).late = s.late := rfl
@[simp] theorem State.holdBack_freeCtr (iss : Issue) : (s.holdBack iss).freeCtr = s.freeCtr := rfl

/-! ### Register words and fields -/

@[simp] theorem State.reg_setReg (a : Nat) (w : Word) : (s.setReg a w).reg a = w := by
  simp [State.reg, State.setReg]

theorem State.reg_setReg_other {a b : Nat} (h : b ≠ a) (w : Word) : (s.setReg a w).reg b = s.reg b := by
  simp [State.reg, State.setReg, Tab.get_set_other _ _ h]

theorem bits_split (x lo w : Nat) : x = x / 2 ^ (lo + w) * 2 ^ (lo + w) + x / 2 ^ lo % 2 ^ w * 2 ^ lo + x % 2 ^ lo := by
  have h1 := Nat.div_add_mod x (2 ^ lo)
  have h2 := Nat.div_add_mod (x / 2 ^ lo) (2 ^ w)
  rw [Nat.div_div_eq_div_mul, ← Nat.pow_add] at h2
  have h3 : x / 2 ^ lo * 2 ^ lo = x / 2 ^ (lo + w) * 2 ^ (lo + w) + x / 2 ^ lo % 2 ^ w * 2 ^ lo := by
    conv => lhs; rw [← h2]
    rw [Nat.add_mul, Nat.pow_add]; ring
  rw [← h3, Nat.mul_comm]; exact h1.symm

theorem bits_join (a b c lo w : Nat) (hb : b < 2 ^ w) (hc : c < 2 ^ lo) :
    (a * 2 ^ (lo + w) + b * 2 ^ lo + c) / 2 ^ lo = a * 2 ^ w + b := by
  have : a * 2 ^ (lo + w) + b * 2 ^ lo + c = c + (a * 2 ^ w + b) * 2 ^ lo := by rw [Nat.pow_add]; ring
  rw [this, Nat.add_mul_div_right _ _ (Nat.two_pow_pos lo), Nat.div_eq_of_lt hc, Nat.zero_add]

/-- The number that a field write leaves. -/
theorem wordSetField_toNat (w : Word) {hi lo : Nat} (v : Nat) (h : lo ≤ hi) (h31 : hi < 32) :
    (wordSetField w hi lo v).toNat
      = w.toNat / 2 ^ (hi + 1) * 2 ^ (hi + 1) + v % 2 ^ (hi + 1 - lo) * 2 ^ lo + w.toNat % 2 ^ lo := by
  obtain ⟨k, hk⟩ : ∃ k, hi + 1 = lo + k := ⟨hi + 1 - lo, by omega⟩
  have e : hi + 1 - lo = k := by omega
  have hs := bits_split w.toNat lo k
  have hv : v % 2 ^ k < 2 ^ k := Nat.mod_lt _ (Nat.two_pow_pos k)
  have hw := w.isLt
  have hm : w.toNat % 2 ^ lo < 2 ^ lo := Nat.mod_lt _ (Nat.two_pow_pos lo)
  unfold wordSetField wordField bitsOf
  rw [e, hk, BitVec.toNat_ofNat]
  generalize hB : w.toNat / 2 ^ lo % 2 ^ k = B at hs
  generalize hA : w.toNat / 2 ^ (lo + k) = A at hs
  generalize hC : w.toNat % 2 ^ lo = C at hs hm
  have hA32 : A < 2 ^ (32 - (lo + k)) := by
    rw [← hA, Nat.div_lt_iff_lt_mul (Nat.two_pow_pos _), ← Nat.pow_add]
    rwa [show 32 - (lo + k) + (lo + k) = 32 by omega]
  have e1 : w.toNat - B * 2 ^ lo + v % 2 ^ k * 2 ^ lo = A * 2 ^ (lo + k) + v % 2 ^ k * 2 ^ lo + C := by omega
  rw [e1]
  apply Nat.mod_eq_of_lt
  have h1 : v % 2 ^ k * 2 ^ lo + 2 ^ lo ≤ 2 ^ (lo + k) := by
    have : (v % 2 ^ k + 1) * 2 ^ lo ≤ 2 ^ k * 2 ^ lo := Nat.mul_le_mul_right _ hv
    rw [Nat.pow_add]; linarith [Nat.mul_comm (2 ^ lo) (2 ^ k)]
  have h2 : (A + 1) * 2 ^ (lo + k) ≤ 2 ^ 32 := by
    have := Nat.mul_le_mul_right (2 ^ (lo + k)) (show A + 1 ≤ 2 ^ (32 - (lo + k)) from hA32)
    rwa [← Nat.pow_add, show 32 - (lo + k) + (lo + k) = 32 by omega] at this
  rw [Nat.add_mul, Nat.one_mul] at h2
  omega

/-- A field reads back the low bits of what was written to it. -/
theorem wordField_wordSetField (w : Word) {hi lo : Nat} (v : Nat) (h : lo ≤ hi) (h31 : hi < 32) :
    wordField (wordSetField w hi lo v) hi lo = v % 2 ^ (hi + 1 - lo) := by
  obtain ⟨k, hk⟩ : ∃ k, hi + 1 = lo + k := ⟨hi + 1 - lo, by omega⟩
  have e : hi + 1 - lo = k := by omega
  rw [wordField, bitsOf, wordSetField_toNat w v h h31, e, hk,
    bits_join _ _ _ _ _ (Nat.mod_lt _ (Nat.two_pow_pos k)) (Nat.mod_lt _ (Nat.two_pow_pos lo))]
  rw [Nat.mul_comm, Nat.mul_add_mod, Nat.mod_mod]

/-- A field write leaves the fields below it. -/
theorem wordField_wordSetField_below (w : Word) {hi lo hi' lo' : Nat} (v : Nat) (h : lo ≤ hi) (h31 : hi < 32) (hb : hi' < lo) (hl : lo' ≤ hi') :
    wordField (wordSetField w hi lo v) hi' lo' = wordField w hi' lo' := by
  unfold wordField bitsOf
  have key : ∀ x : Nat, x / 2 ^ lo' % 2 ^ (hi' + 1 - lo') = x % 2 ^ lo / 2 ^ lo' % 2 ^ (hi' + 1 - lo') := by
    intro x
    rw [← Nat.mod_mul_right_div_self, ← Nat.mod_mul_right_div_self, ← Nat.pow_add, show lo' + (hi' + 1 - lo') = hi' + 1 by omega,
      Nat.mod_mod_of_dvd _ (Nat.pow_dvd_pow 2 (show hi' + 1 ≤ lo by omega))]
  rw [key, key w.toNat, wordSetField_toNat w v h h31]
  congr 2
  obtain ⟨k, hk⟩ : ∃ k, hi + 1 = lo + k := ⟨hi + 1 - lo, by omega⟩
  rw [hk, Nat.pow_add, show w.toNat / (2 ^ lo * 2 ^ k) * (2 ^ lo * 2 ^ k) + v % 2 ^ (lo + k - lo) * 2 ^ lo + w.toNat % 2 ^ lo
    = w.toNat % 2 ^ lo + 2 ^ lo * (w.toNat / (2 ^ lo * 2 ^ k) * 2 ^ k + v % 2 ^ (lo + k - lo)) by ring, Nat.add_mul_mod_self_left, Nat.mod_mod]

/-- A field write leaves the fields above it. -/
theorem wordField_wordSetField_above (w : Word) {hi lo hi' lo' : Nat} (v : Nat) (h : lo ≤ hi) (h31 : hi < 32) (ha : hi < lo') :
    wordField (wordSetField w hi lo v) hi' lo' = wordField w hi' lo' := by
  unfold wordField bitsOf
  have key : ∀ x : Nat, x / 2 ^ lo' = x / 2 ^ (hi + 1) / 2 ^ (lo' - (hi + 1)) := by
    intro x
    rw [Nat.div_div_eq_div_mul, ← Nat.pow_add, show hi + 1 + (lo' - (hi + 1)) = lo' by omega]
  rw [key, key w.toNat, wordSetField_toNat w v h h31]
  congr 2
  have hv : v % 2 ^ (hi + 1 - lo) < 2 ^ (hi + 1 - lo) := Nat.mod_lt _ (Nat.two_pow_pos _)
  have hm : w.toNat % 2 ^ lo < 2 ^ lo := Nat.mod_lt _ (Nat.two_pow_pos lo)
  have h1 : v % 2 ^ (hi + 1 - lo) * 2 ^ lo + w.toNat % 2 ^ lo < 2 ^ (hi + 1) := by
    have : (v % 2 ^ (hi + 1 - lo) + 1) * 2 ^ lo ≤ 2 ^ (hi + 1 - lo) * 2 ^ lo := Nat.mul_le_mul_right _ hv
    rw [← Nat.pow_add, show hi + 1 - lo + lo = hi + 1 by omega, Nat.add_mul] at this
    omega
  rw [Nat.add_assoc, Nat.add_comm, Nat.add_mul_div_right _ _ (Nat.two_pow_pos _), Nat.div_eq_of_lt h1, Nat.zero_add]

/-- A field as the register map has it: bits of a 32-bit word. -/
def RegField.ok (f : RegField) : Prop := f.lo ≤ f.hi ∧ f.hi < 32

theorem State.fld_setFld {f : RegField} (h : f.ok) (v : Nat) : (s.setFld f v).fld f = v % 2 ^ (f.hi + 1 - f.lo) := by
  simp [State.fld, State.setFld, wordField_wordSetField _ _ h.1 h.2]

/-- Two fields are apart: of different registers, or of different bits of one. -/
def RegField.apart (f g : RegField) : Prop := g.addr ≠ f.addr ∨ g.hi < f.lo ∧ g.lo ≤ g.hi ∨ f.hi < g.lo

theorem State.fld_setFld_apart {f g : RegField} (h : f.ok) (ha : f.apart g) (v : Nat) : (s.setFld f v).fld g = s.fld g := by
  rcases ha with h1 | ⟨h1, h2⟩ | h1
  · simp [State.fld, State.setFld, State.reg_setReg_other _ h1]
  · by_cases e : g.addr = f.addr
    · simp [State.fld, State.setFld, e, wordField_wordSetField_below _ v h.1 h.2 h1 h2]
    · simp [State.fld, State.setFld, State.reg_setReg_other _ e]
  · by_cases e : g.addr = f.addr
    · simp [State.fld, State.setFld, e, wordField_wordSetField_above _ v h.1 h.2 h1]
    · simp [State.fld, State.setFld, State.reg_setReg_other _ e]

theorem State.flag_setFlag {f : RegField} (h : f.ok) (h1 : f.hi = f.lo) (b : Bool) : (s.setFlag f b).flag f = b := by
  unfold State.flag State.setFlag
  rw [State.fld_setFld _ h, h1, show f.lo + 1 - f.lo = 1 by omega]
  cases b <;> rfl

theorem State.flag_setFlag_apart {f g : RegField} (h : f.ok) (ha : f.apart g) (b : Bool) : (s.setFlag f b).flag g = s.flag g := by
  unfold State.flag State.setFlag
  rw [State.fld_setFld_apart _ h ha]

/-! ### Ports -/

@[simp] theorem State.port_setPort (p : Port) (x : PortState) : (s.setPort p x).port p = x := by
  simp [State.port, State.setPort]

theorem State.port_setPort_other {p r : Port} (h : r ≠ p) (x : PortState) : (s.setPort p x).port r = s.port r := by
  simp [State.port, State.setPort, Fin.val_ne_of_ne (Ne.symm h)]

@[simp] theorem State.port_modPort (p : Port) (g : PortState → PortState) : (s.modPort p g).port p = g (s.port p) := by
  simp [State.modPort]

theorem State.port_modPort_other {p r : Port} (h : r ≠ p) (g : PortState → PortState) : (s.modPort p g).port r = s.port r :=
  State.port_setPort_other s h _

/-! ### Counters -/

@[simp] theorem State.counter_setCounter (i : Nat) (x : Counter) : (s.setCounter i x).counter i = x := by
  simp [State.counter, State.setCounter]

theorem State.counter_setCounter_other {i j : Nat} (h : j ≠ i) (x : Counter) : (s.setCounter i x).counter j = s.counter j := by
  simp [State.counter, State.setCounter, Tab.get_set_other _ _ h]

@[simp] theorem State.counter_bump (i : Nat) : (s.bump i).counter i = (s.counter i).add 1 := by
  simp [State.bump, State.bumpBy]

theorem State.counter_bump_other {i j : Nat} (h : j ≠ i) : (s.bump i).counter j = s.counter j := by
  simp [State.bump, State.bumpBy, State.counter_setCounter_other _ h]

/-! ### Sources, queues and rings -/

@[simp] theorem State.src_setSrc (i : Nat) (x : Src) : (s.setSrc i x).src i = x := by simp [State.src, State.setSrc]

theorem State.src_setSrc_other {i j : Nat} (h : j ≠ i) (x : Src) : (s.setSrc i x).src j = s.src j := by
  simp [State.src, State.setSrc, Tab.get_set_other _ _ h]

@[simp] theorem State.evQueue_setSrc (i j : Nat) (x : Src) : (s.setSrc i x).evQueue j = s.evQueue j := rfl
@[simp] theorem State.src_setEvQueue (i j : Nat) (x : EvQueue) : (s.setEvQueue i x).src j = s.src j := rfl

@[simp] theorem State.evQueue_setEvQueue (i : Nat) (x : EvQueue) : (s.setEvQueue i x).evQueue i = x := by
  simp [State.evQueue, State.setEvQueue]

theorem State.evQueue_setEvQueue_other {i j : Nat} (h : j ≠ i) (x : EvQueue) : (s.setEvQueue i x).evQueue j = s.evQueue j := by
  simp [State.evQueue, State.setEvQueue, Tab.get_set_other _ _ h]

@[simp] theorem State.sq_setSq (fn i : Nat) (x : Sq) : (s.setSq fn i x).sq? fn i = some x := by simp [State.sq?, State.setSq]

@[simp] theorem State.cq_setCq (fn i : Nat) (x : Cq) : (s.setCq fn i x).cq? fn i = some x := by simp [State.cq?, State.setCq]

end Sys2Proof.Machine
end

