-- ==== Sys2Proof/Laws/Ops.lean ====
section
/-!
SUPPORT. What the shared operations can change: each is the old state with a few named fields replaced.
-/
set_option linter.all false
namespace Sys2Proof.Machine

variable (s : State)

theorem makePending_shape (id : Nat) (sw : Bool) : ∃ e, s.makePending id sw = { s with ev := e } := by
  unfold State.makePending
  dsimp only
  split <;> exact ⟨_, rfl⟩

theorem dropPending_shape (id : Nat) : ∃ e, s.dropPending id = { s with ev := e } := by
  unfold State.dropPending
  dsimp only
  split <;> exact ⟨_, rfl⟩

theorem settleLevel_shape (id : Nat) : ∃ e c, s.settleLevel id = { s with ev := e, ctr := c } := by
  unfold State.settleLevel
  dsimp only
  split
  · split
    · obtain ⟨e, he⟩ := makePending_shape s id false
      exact ⟨e, s.ctr, by rw [he]⟩
    · exact ⟨s.ev, s.ctr, rfl⟩
  · split
    · exact ⟨s.ev, s.ctr, rfl⟩
    · split
      · exact ⟨s.ev, s.ctr, rfl⟩
      · obtain ⟨e, he⟩ := dropPending_shape s id
        exact ⟨_, _, by rw [he]; rfl⟩
    · exact ⟨_, s.ctr, rfl⟩

theorem sourceInput_shape (id : Nat) (b : Bool) (info : Nat) : ∃ e c, s.sourceInput id b info = { s with ev := e, ctr := c } := by
  unfold State.sourceInput
  dsimp only
  split
  · obtain ⟨e, c, h⟩ := settleLevel_shape (s.setSrc id { s.src id with input := b, info := info }) id
    exact ⟨e, c, h⟩
  · split
    · split
      · exact ⟨_, _, rfl⟩
      · obtain ⟨e, h⟩ := makePending_shape (s.setSrc id { s.src id with input := b, info := info }) id false
        exact ⟨e, s.ctr, h⟩
    · exact ⟨_, s.ctr, rfl⟩

theorem recordMirror_shape (id : Nat) : ∃ r, s.recordMirror id = { s with regs := r } := by
  unfold State.recordMirror
  split
  · exact ⟨s.regs, rfl⟩
  · exact ⟨_, rfl⟩

/-- A level input changes registers (a mirror bit), event state and counters. -/
theorem level_shape (id : Nat) (b : Bool) (info : Nat) : ∃ r e c, s.level id b info = { s with regs := r, ev := e, ctr := c } := by
  unfold State.level
  dsimp only
  split
  · obtain ⟨r, hr⟩ := recordMirror_shape s id
    obtain ⟨e, c, h⟩ := sourceInput_shape (s.recordMirror id) id b info
    exact ⟨r, e, c, by rw [h, hr]⟩
  · obtain ⟨e, c, h⟩ := sourceInput_shape s id b info
    exact ⟨s.regs, e, c, h⟩

/-- An occurrence changes registers (a mirror bit), event state and counters. -/
theorem pulse_shape (id info : Nat) : ∃ r e c, s.pulse id info = { s with regs := r, ev := e, ctr := c } := by
  unfold State.pulse
  obtain ⟨r, hr⟩ := recordMirror_shape s id
  obtain ⟨e, c, h⟩ := sourceInput_shape (s.recordMirror id) id true info
  obtain ⟨e', c', h'⟩ := sourceInput_shape ((s.recordMirror id).sourceInput id true info) id false info
  exact ⟨r, e', c', by rw [h', h, hr]⟩

theorem pulse_of {t : State} (h : ∃ r c, t = { s with regs := r, ctr := c }) (id info : Nat) :
    ∃ r e c, t.pulse id info = { s with regs := r, ev := e, ctr := c } := by
  obtain ⟨r0, c0, rfl⟩ := h
  obtain ⟨r, e, c, h⟩ := pulse_shape { s with regs := r0, ctr := c0 } id info
  exact ⟨r, e, c, h⟩

theorem setFld_of {t : State} (h : ∃ r c, t = { s with regs := r, ctr := c }) (f : RegField) (v : Nat) :
    ∃ r c, t.setFld f v = { s with regs := r, ctr := c } := by
  obtain ⟨r, c, rfl⟩ := h
  exact ⟨_, _, rfl⟩

/-- The event side of a CQ changes registers, event state and counters. -/
theorem notifyCq_shape (fn i : Nat) : ∃ r e c, s.notifyCq fn i = { s with regs := r, ev := e, ctr := c } := by
  unfold State.notifyCq
  split
  · exact ⟨s.regs, s.ev, s.ctr, rfl⟩
  · exact level_shape s _ _ _

/-- What is sent, and the rings of the host interface, are set beside whatever counters hold. -/
theorem emit_of {t : State} (h : ∃ c i o, t = { s with ctr := c, hif := i, out := o }) (x : Output) :
    ∃ c i o, t.emit x = { s with ctr := c, hif := i, out := o } := by
  obtain ⟨c, i, o, rfl⟩ := h
  exact ⟨c, i, _, rfl⟩

theorem setCq_of {t : State} (h : ∃ c i o, t = { s with ctr := c, hif := i, out := o }) (fn j : Nat) (x : Cq) :
    ∃ c i o, t.setCq fn j x = { s with ctr := c, hif := i, out := o } := by
  obtain ⟨c, i, o, rfl⟩ := h
  exact ⟨c, _, o, rfl⟩

theorem setSq_of {t : State} (h : ∃ c i o, t = { s with ctr := c, hif := i, out := o }) (fn j : Nat) (x : Sq) :
    ∃ c i o, t.setSq fn j x = { s with ctr := c, hif := i, out := o } := by
  obtain ⟨c, i, o, rfl⟩ := h
  exact ⟨c, _, o, rfl⟩

/-- A completion record written changes registers, event state, counters, the host interface and what was sent: nothing else. -/
theorem writeCompletion_shape (iss : Issue) (x : Result) :
    ∃ r e c h o, s.writeCompletion iss x = { s with regs := r, ev := e, ctr := c, hif := h, out := o } := by
  unfold State.writeCompletion
  generalize hifCtr iss.fn (if x.status = .success then 1 else 2) = i
  have base : ∀ g : HifState, ∃ c i' o, ({ s.bump i with hif := g } : State) = { s with ctr := c, hif := i', out := o } :=
    fun g => ⟨(s.bump i).ctr, g, s.out, rfl⟩
  dsimp only
  split
  · obtain ⟨c, g, o, h⟩ := emit_of s (base _) _
    exact ⟨s.regs, s.ev, c, g, o, h⟩
  · split
    · obtain ⟨c, g, o, h⟩ := emit_of s (base _) _
      exact ⟨s.regs, s.ev, c, g, o, h⟩
    · obtain ⟨c, g, o, h⟩ := setSq_of s (setCq_of s (emit_of s (emit_of s (base _) _) _) _ _ _) _ _ _
      rw [h]
      obtain ⟨r, e, c', h'⟩ := notifyCq_shape { s with ctr := c, hif := g, out := o } _ _
      exact ⟨r, e, c', g, o, h'⟩

/-- A completion is written, or waits for its function's Bus Master Enable: nothing else. -/
theorem complete_shape (iss : Issue) (x : Result) :
    ∃ r e c h o l, s.complete iss x = { s with regs := r, ev := e, ctr := c, hif := h, out := o, late := l } := by
  unfold State.complete
  split
  · obtain ⟨r, e, c, h, o, h'⟩ := writeCompletion_shape s iss x
    exact ⟨r, e, c, h, o, s.late, by rw [h']⟩
  · exact ⟨s.regs, s.ev, s.ctr, s.hif, s.out, _, rfl⟩

/-- A completion of a function that masters the bus is written at once. -/
theorem complete_of_masters {s : State} {iss : Issue} (h : masters s iss.fn = true) (x : Result) :
    s.complete iss x = s.writeCompletion iss x := by
  simp [State.complete, h]

/-- A refusal of a command is a completion, and changes nothing but what a completion changes. -/
theorem refuse_shape (iss : Issue) (k : Nat) :
    ∃ r e c h o l, s.refuse iss k = { s with regs := r, ev := e, ctr := c, hif := h, out := o, late := l } := complete_shape s iss _

/-- A success is a completion. -/
theorem succeed_shape (iss : Issue) (a b : Nat) :
    ∃ r e c h o l, s.succeed iss a b = { s with regs := r, ev := e, ctr := c, hif := h, out := o, late := l } := complete_shape s iss _

/-- An access that is not acted on changes registers, event state and counters. -/
theorem recordAccess_shape (src a kind : Nat) (w : Bool) :
    ∃ r e c, s.recordAccess src a kind w = { s with regs := r, ev := e, ctr := c } := by
  unfold State.recordAccess
  generalize (0x2C00 + (if kind = 1 then 0 else if kind = 4 then 2 else 1)) = i
  dsimp only
  split
  · exact ⟨s.regs, s.ev, _, rfl⟩
  · exact pulse_of s (setFld_of s (setFld_of s (setFld_of s (setFld_of s (setFld_of s ⟨s.regs, _, rfl⟩ _ _) _ _) _ _) _ _) _ _) _ _

/-! The start of a command touches the host interface only. -/

@[simp] theorem startCmd_pending (iss : Issue) : (s.startCmd iss).pending = s.pending := rfl
@[simp] theorem startCmd_regs (iss : Issue) : (s.startCmd iss).regs = s.regs := rfl
@[simp] theorem startCmd_snap0 (iss : Issue) : (s.startCmd iss).snap0 = s.snap0 := rfl
@[simp] theorem startCmd_snap1 (iss : Issue) : (s.startCmd iss).snap1 = s.snap1 := rfl
@[simp] theorem startCmd_snap2 (iss : Issue) : (s.startCmd iss).snap2 = s.snap2 := rfl
@[simp] theorem startCmd_snap3 (iss : Issue) : (s.startCmd iss).snap3 = s.snap3 := rfl
@[simp] theorem startCmd_tick (iss : Issue) : (s.startCmd iss).tick = s.tick := rfl
@[simp] theorem startCmd_fc (iss : Issue) : (s.startCmd iss).fc = s.fc := rfl
@[simp] theorem startCmd_ports (iss : Issue) : (s.startCmd iss).ports = s.ports := rfl
@[simp] theorem startCmd_ev (iss : Issue) : (s.startCmd iss).ev = s.ev := rfl
@[simp] theorem startCmd_ctr (iss : Issue) : (s.startCmd iss).ctr = s.ctr := rfl
@[simp] theorem startCmd_capture (iss : Issue) : (s.startCmd iss).capture = s.capture := rfl
@[simp] theorem startCmd_tm (iss : Issue) : (s.startCmd iss).tm = s.tm := rfl
@[simp] theorem startCmd_flow (iss : Issue) : (s.startCmd iss).flow = s.flow := rfl
@[simp] theorem startCmd_mem (iss : Issue) : (s.startCmd iss).mem = s.mem := rfl
@[simp] theorem startCmd_rst (iss : Issue) : (s.startCmd iss).rst = s.rst := rfl
@[simp] theorem startCmd_hk (iss : Issue) : (s.startCmd iss).hk = s.hk := rfl
@[simp] theorem startCmd_thm (iss : Issue) : (s.startCmd iss).thm = s.thm := rfl
@[simp] theorem startCmd_pair (iss : Issue) : (s.startCmd iss).pair = s.pair := rfl
@[simp] theorem startCmd_lanes (iss : Issue) : (s.startCmd iss).lanes = s.lanes := rfl
@[simp] theorem startCmd_fw (iss : Issue) : (s.startCmd iss).fw = s.fw := rfl
@[simp] theorem startCmd_path (iss : Issue) : (s.startCmd iss).path = s.path := rfl
@[simp] theorem startCmd_tod (iss : Issue) : (s.startCmd iss).tod = s.tod := rfl
@[simp] theorem startCmd_out (iss : Issue) : (s.startCmd iss).out = s.out := rfl
@[simp] theorem startCmd_late (iss : Issue) : (s.startCmd iss).late = s.late := rfl
@[simp] theorem startCmd_freeCtr (iss : Issue) : (s.startCmd iss).freeCtr = s.freeCtr := rfl
@[simp] theorem startCmd_reg (iss : Issue) (a : Nat) : (s.startCmd iss).reg a = s.reg a := rfl
@[simp] theorem startCmd_fld (iss : Issue) (f : RegField) : (s.startCmd iss).fld f = s.fld f := rfl
@[simp] theorem startCmd_flag (iss : Issue) (f : RegField) : (s.startCmd iss).flag f = s.flag f := rfl
@[simp] theorem startCmd_mode (iss : Issue) (p : Port) : (s.startCmd iss).mode p = s.mode p := rfl
@[simp] theorem startCmd_port (iss : Issue) (p : Port) : (s.startCmd iss).port p = s.port p := rfl
@[simp] theorem startCmd_fenced (iss : Issue) (p : Port) : (s.startCmd iss).fenced p = s.fenced p := rfl
@[simp] theorem startCmd_inReset (iss : Issue) (p : Port) : (s.startCmd iss).inReset p = s.inReset p := rfl
@[simp] theorem startCmd_hubFenced (iss : Issue) (b : Nat) : (s.startCmd iss).hubFenced b = s.hubFenced b := rfl
@[simp] theorem startCmd_counter (iss : Issue) (i : Nat) : (s.startCmd iss).counter i = s.counter i := rfl
@[simp] theorem startCmd_src (iss : Issue) (i : Nat) : (s.startCmd iss).src i = s.src i := rfl
@[simp] theorem startCmd_ready (iss : Issue) : (s.startCmd iss).ready = s.ready := rfl

/-- What a write does: its effect, nothing where the source does not see the address, or a record of an access not acted on. -/
theorem accessed_cases (src a : Nat) (k : State → State) :
    s.accessed src a k = k s ∧ sees src a = true ∧ accessKind s src a true = 0 ∨ s.accessed src a k = s ∧ sees src a = false ∨
      ∃ r e c, s.accessed src a k = { s with regs := r, ev := e, ctr := c } := by
  unfold State.accessed
  split
  · rename_i h
    exact .inr (.inl ⟨rfl, by simpa using h⟩)
  · rename_i h
    split
    · rename_i h2
      exact .inl ⟨rfl, by simpa using h, h2⟩
    · obtain ⟨r, e, c, h⟩ := recordAccess_shape s src a (accessKind s src a true) true
      exact .inr (.inr ⟨r, e, c, h⟩)

/-- What a command on a port does: held back, refused, or run. -/
theorem hostCmdAt_cases (iss : Issue) (p : Port) (ops : List (Nat × Nat)) (k : State → State) :
    s.hostCmdAt iss p ops k = s.holdBack iss ∨ s.hostCmdAt iss p ops k = (s.startCmd iss).refuse iss 0x10 ∨
      s.hostCmdAt iss p ops k = k (s.startCmd iss) := by
  unfold State.hostCmdAt
  split
  · exact .inl rfl
  · dsimp only
    split
    · exact .inr (.inl rfl)
    · exact .inr (.inr rfl)

theorem accessed_of_reaches {s : State} {src a : Nat} (h : Reaches s src a) (k : State → State) : s.accessed src a k = k s := by
  simp [State.accessed, h.1, h.2]

theorem hostCmdAt_of_starts {s : State} {iss : Issue} {p : Port} {ops : List (Nat × Nat)} (h : Starts s iss p ops) (k : State → State) :
    s.hostCmdAt iss p ops k = k (s.startCmd iss) := by
  simp [State.hostCmdAt, h.1, h.2.1, h.2.2.1, h.2.2.2]

theorem hostCmd_of_starts {s : State} {iss : Issue} {ops : List (Nat × Nat)} (h : Starts s iss iss.port ops) (k : State → State) :
    s.hostCmd iss ops k = k (s.startCmd iss) := hostCmdAt_of_starts h k

theorem pf0Cmd_of_starts {s : State} {iss : Issue} {ops : List (Nat × Nat)} (h : HubStarts s iss ops) (k : State → State) :
    s.pf0Cmd iss ops k = k (s.startCmd iss) := by
  simp [State.pf0Cmd, h.1, h.2.1, h.2.2.1, h.2.2.2]

/-- A message put together from its own parts is itself. -/
@[simp] theorem ploamTail_on_parts (m : UpPloam) : PloamTail.on ⟨m.seq, m.mic⟩ m.msg = m := rfl

end Sys2Proof.Machine
end

