-- ==== Sys2Proof/Laws/Events.lean ====
section
/-!
SUPPORT. Lemmas about the event controller's operations.
-/
set_option linter.all false
namespace Sys2Proof.Machine

variable {s : State}

/-- A configuration write that R361 and R366 allow, at the source's present sense: a retarget, or nothing. -/
theorem srcCfgWrite_same_sense {fn i v id : Nat} (hv : viewSource s fn i = some id) (h1 : bitsOf v 10 8 = (s.src id).sense)
    (h4 : bitsOf v 10 8 ≤ 4) (ho : fn = 0 ∨ s.queueOwner (bitsOf v 21 16) = fn) :
    s.srcCfgWrite fn i v = if bitsOf v 21 16 ≠ (s.src id).queue then s.retarget id (bitsOf v 21 16) else s := by
  have hg : ¬ (4 < bitsOf v 10 8 || (fn ≠ 0 && s.queueOwner (bitsOf v 21 16) ≠ fn)) = true := by
    rcases ho with h | h <;> simp [h, h4]
  have e : (if bitsOf v 10 8 ≠ (s.src id).sense then s.changeSense id (bitsOf v 10 8) else s) = s := if_neg (by simp [h1])
  unfold State.srcCfgWrite
  rw [hv]
  dsimp only
  rw [if_neg hg, e]

/-- A configuration write of a queue the function does not own. -/
theorem srcCfgWrite_refused {fn i v id : Nat} (hv : viewSource s fn i = some id) (h1 : fn ≠ 0) (h2 : s.queueOwner (bitsOf v 21 16) ≠ fn) :
    s.srcCfgWrite fn i v = s.refuseView fn := by
  unfold State.srcCfgWrite
  rw [hv]
  dsimp only
  rw [if_pos (by simp [h1, h2])]

/-- A change of sense to an edge sense: the source is IDLE without a record, and nothing but event state changes. -/
theorem changeSense_edge (s : State) {id d : Nat} (h3 : levelSense d = false) :
    s.changeSense id d = { s with ev := (s.changeSense id d).ev } ∧
      (s.changeSense id d).src id = { s.src id with sense := d, st := .idle, count := 0, sw := false } := by
  unfold State.changeSense
  dsimp only
  by_cases hp : (s.src id).st = .pending
  · by_cases hm : (s.src id).masked = true
    · simp only [hp, if_true, h3, State.dropPending, hm]
      exact ⟨rfl, by simp⟩
    · simp only [hp, if_true, h3, State.dropPending, hm, State.leaveList]
      exact ⟨rfl, by simp⟩
  · simp only [hp, if_false, h3]
    exact ⟨rfl, by simp⟩

/-- Changes of event state alone, one after another, change event state alone. -/
theorem ev_trans {s t u : State} (h : ∃ e, t = { s with ev := e }) (k : ∃ e, u = { t with ev := e }) : ∃ e, u = { s with ev := e } := by
  obtain ⟨e, rfl⟩ := h
  obtain ⟨f, rfl⟩ := k
  exact ⟨f, rfl⟩

theorem setEvQueue_ev (s : State) (q : Nat) (x : EvQueue) : ∃ e, s.setEvQueue q x = { s with ev := e } := ⟨_, rfl⟩
theorem setSrc_ev (s : State) (id : Nat) (x : Src) : ∃ e, s.setSrc id x = { s with ev := e } := ⟨_, rfl⟩
theorem joinList_ev (s : State) (id : Nat) : ∃ e, s.joinList id = { s with ev := e } := setEvQueue_ev ..
theorem leaveList_ev (s : State) (id : Nat) : ∃ e, s.leaveList id = { s with ev := e } := setEvQueue_ev ..

/-- A retarget changes event state alone. -/
theorem retarget_shape (s : State) (id new : Nat) : ∃ e, s.retarget id new = { s with ev := e } := by
  unfold State.retarget
  extract_lets x inList s1 old s2 s3
  have h1 : ∃ e, s1 = { s with ev := e } := by
    unfold s1
    split
    · exact leaveList_ev s id
    · exact ⟨s.ev, rfl⟩
  have h3 : ∃ e, s3 = { s with ev := e } := ev_trans (ev_trans h1 (setEvQueue_ev ..)) (setSrc_ev ..)
  split
  · exact ev_trans h3 (joinList_ev ..)
  · exact h3

/-- A waiting source that is retargeted: a marker ends the old list, which the source has left, and the source ends the new one. -/
theorem retarget_lists (s : State) {id new : Nat} (h1 : (s.src id).st = .pending) (h2 : (s.src id).masked = false) (h3 : new ≠ (s.src id).queue) :
    ((s.retarget id new).evQueue new).list = (s.evQueue new).list ++ [.source id] ∧
      ((s.retarget id new).evQueue (s.src id).queue).list
        = (s.evQueue (s.src id).queue).list.filter (fun e => e ≠ .source id) ++ [.marker id new] := by
  have hin : (s.src id).st = .pending ∧ (!(s.src id).masked) = true := ⟨h1, by simp [h2]⟩
  unfold State.retarget
  dsimp only
  rw [if_pos hin, if_pos hin]
  simp [State.joinList, State.leaveList, State.evQueue_setEvQueue_other _ h3, State.evQueue_setEvQueue_other _ (Ne.symm h3)]

@[simp] theorem retarget_src (s : State) (id new : Nat) : (s.retarget id new).src id = { s.src id with queue := new } := by
  simp only [State.retarget]
  split <;> simp [State.joinList, State.leaveList]

end Sys2Proof.Machine
end

