-- ==== Sys2Proof/Laws/Good.lean ====
section
/-!
SUPPORT. What every operation but the frame tick keeps, in one predicate, and the rules by which it is carried through a definition.
-/
set_option linter.unusedVariables false
namespace Sys2Proof.Machine

/-- The invariant holds, the frame tick number is `n`, the queue is `q`, and the frame counter is `c` where a number is given. -/
structure Good (n : Nat) (c : Option Nat) (q : List Instr) (s : State) : Prop where
  inv : s.Inv
  tick : s.tick = n
  fc : ∀ x ∈ c, s.fc = x
  pending : s.pending = q

/-- A command answers a next state that is good. -/
def GoodOut (n : Nat) (c : Option Nat) (q : List Instr) (o : Host.Outcome State Fault Refusal) : Prop :=
  ∃ t, o = .next t ∧ Good n c q t

variable {n : Nat} {c : Option Nat} {q : List Instr} {s t : State}

theorem Good.weak (h : Good n c q s) : Good n none q s := ⟨h.inv, h.tick, by simp, h.pending⟩

theorem good_next (h : Good n c q s) : GoodOut n c q (.next s) := ⟨s, rfl, h⟩

theorem good_cut {P : Prop} (v : State) (h : Good n c q v) (k : Good n c q v → P) : P := k h

theorem good_cutf {P : Prop} (v : State → State) (h : ∀ s, Good n c q s → Good n c q (v s))
    (k : (∀ s, Good n c q s → Good n c q (v s)) → P) : P := k h

theorem good_ite {p : Prop} [Decidable p] {t e : State} (h : Good n c q t) (k : Good n c q e) : Good n c q (if p then t else e) := by
  split <;> assumption

theorem good_fst {α : Type} {p : State × α} {x : α} (e : p = (s, x)) (h : Good n c q p.1) : Good n c q s := by
  subst e; exact h

theorem good_mk_fst {α : Type} {x : α} (h : Good n c q s) : Good n c q (s, x).1 := h

theorem good_foldl {α : Type} {f : State → α → State} {l : List α} (hf : ∀ s x, Good n c q s → Good n c q (f s x))
    (h : Good n c q s) : Good n c q (l.foldl f s) := by
  induction l generalizing s with
  | nil => exact h
  | cons a l ih => exact ih (hf s a h)

theorem good_foldl_fst {α β : Type} {f : State × β → α → State × β} {l : List α} {p : State × β}
    (hf : ∀ p x, Good n c q p.1 → Good n c q (f p x).1) (h : Good n c q p.1) : Good n c q (l.foldl f p).1 := by
  induction l generalizing p with
  | nil => exact h
  | cons a l ih => exact ih (hf p a h)

/-- A record update that leaves the registers, the counters and the time alone. -/
theorem good_mk {ports : Vector PortState 8} {ev : EvState} {capture : CaptureState} {hif : HifState} {tm : TmState} {flow : FlowState} {mem : MemState} {rst : RstState} {hk : HkState} {thm : ThmState} {pair : PairState} {lanes : LaneState} {fw : FwState} {path : PathState} {tod : TodState} {out : List Output} {late : List Late} {freeCtr : Nat} {ctr : CtrState}
    {pending' : List Instr} {regs' snap0' snap1' snap2' snap3' : Tab Word} {tick' fc' : Nat} (h : Good n c q s)
    (hq : pending' = s.pending) (hr : regs' = s.regs) (h0 : snap0' = s.snap0) (h1 : snap1' = s.snap1) (h2 : snap2' = s.snap2) (h3 : snap3' = s.snap3)
    (hn : tick' = s.tick) (hc : fc' = s.fc) (hctr : ctr.counters = s.ctr.counters) :
    Good n c q ⟨pending', regs', snap0', snap1', snap2', snap3', tick', fc', ports, ev, ctr, capture, hif, tm, flow, mem, rst, hk, thm, pair, lanes, fw, path, tod, out, late, freeCtr⟩ := by
  subst hq hr h0 h1 h2 h3 hn hc
  exact ⟨⟨h.inv.regs, h.inv.snap0, h.inv.snap1, h.inv.snap2, h.inv.snap3, hctr ▸ h.inv.counters, hctr ▸ h.inv.values, h.inv.fc⟩, h.tick, h.fc, h.pending⟩

theorem setReg_good (h : Good n c q s) {a : Nat} {w : Word} : Good n c q (s.setReg a w) :=
  ⟨⟨Tab.wf_set h.inv.regs a w, h.inv.snap0, h.inv.snap1, h.inv.snap2, h.inv.snap3, h.inv.counters, h.inv.values, h.inv.fc⟩, h.tick, h.fc, h.pending⟩

theorem counter_lt (h : s.Inv) (i : Nat) : (s.counter i).value < 2 ^ 56 := by
  have key : ∀ (t : Tab Counter), (∀ e ∈ t, e.2.value < 2 ^ 56) → (Tab.get (fun _ => Counter.zero) t i).value < 2 ^ 56 := by
    intro t
    induction t with
    | nil => intro _; simp [Tab.get, Counter.zero]
    | cons e t ih =>
      intro ht
      unfold Tab.get
      split
      · exact ht e (by simp)
      · exact ih (fun e he => ht e (by simp [he]))
  exact key _ h.values

theorem setCounter_good (h : Good n c q s) {i : Nat} {x : Counter} (hx : x.value < 2 ^ 56) : Good n c q (s.setCounter i x) := by
  refine ⟨⟨h.inv.regs, h.inv.snap0, h.inv.snap1, h.inv.snap2, h.inv.snap3, Tab.wf_set h.inv.counters i x, ?_, h.inv.fc⟩, h.tick, h.fc, h.pending⟩
  intro e he
  simp only [State.setCounter, Tab.set] at he
  split at he
  · exact h.inv.values e (Tab.mem_del.mp he).1
  · rcases Tab.mem_ins.mp he with rfl | he
    · exact hx
    · exact h.inv.values e (Tab.mem_del.mp he).1

theorem bumpBy_good (h : Good n c q s) {i k : Nat} : Good n c q (s.bumpBy i k) :=
  setCounter_good h (Nat.mod_lt _ (by decide))

end Sys2Proof.Machine
end

