-- ==== Sys2Proof/Laws/GoodOps.lean ====
section
/-!
SUPPORT. What the operations of Machine/Ops.lean keep.
-/
set_option linter.all false
set_option linter.unreachableTactic false
set_option linter.unusedTactic false
namespace Sys2Proof.Machine

theorem setFld_good {n : Nat} {c : Option Nat} {q : List Instr} {s : State} {f : RegField} {v : Nat} (h : Good n c q s) :
    Good n c q (State.setFld s f v) := by
  unfold State.setFld
  repeat' first
    | with_reducible assumption
    | (intro)
    | with_reducible apply setReg_good
    | (dsimp only)

theorem setFlag_good {n : Nat} {c : Option Nat} {q : List Instr} {s : State} {f : RegField} {b : Bool} (h : Good n c q s) :
    Good n c q (State.setFlag s f b) := by
  unfold State.setFlag
  repeat' first
    | with_reducible assumption
    | (intro)
    | with_reducible apply setFld_good
    | (dsimp only)

theorem addFldSat_good {n : Nat} {c : Option Nat} {q : List Instr} {s : State} {f : RegField} {n' : Nat} (h : Good n c q s) :
    Good n c q (State.addFldSat s f n') := by
  unfold State.addFldSat
  repeat' first
    | with_reducible assumption
    | (intro)
    | with_reducible apply setFld_good
    | (dsimp only)

theorem setPort_good {n : Nat} {c : Option Nat} {q : List Instr} {s : State} {p : Port} {x : PortState} (h : Good n c q s) :
    Good n c q (State.setPort s p x) := by
  unfold State.setPort
  repeat' first
    | with_reducible assumption
    | (intro)
    | (extract_lets +onlyGivenNames s1; have hs1 : Good n c q s1 := by with_reducible assumption
       clear hs1; unfold s1; clear s1)
    | (extract_lets +onlyGivenNames s1; refine good_cut (n := n) (c := c) (q := q) s1 ?_ ?_ <;> [(unfold s1; clear s1); (intro hs1; clear_value s1; revert hs1; revert s1; intro t1 ht1)])
    | (extract_lets +onlyGivenNames x1; clear_value x1; revert x1; intro y1)
    | (extract_lets +onlyGivenNames s1; refine good_cut (n := n) (c := c) (q := q) s1 ?_ ?_ <;> [(unfold s1; clear s1); (intro hs1; refine good_ite ?_ ?_ <;> (clear_value s1; revert hs1; revert s1; intro t1 ht1))])
    | fail_if_no_progress (with_reducible refine good_mk ?_ rfl rfl rfl rfl rfl rfl rfl rfl rfl)
    | (dsimp only)

theorem modPort_good {n : Nat} {c : Option Nat} {q : List Instr} {s : State} {p : Port} {f : PortState → PortState} (h : Good n c q s) :
    Good n c q (State.modPort s p f) := by
  unfold State.modPort
  repeat' first
    | with_reducible assumption
    | (intro)
    | with_reducible apply setPort_good
    | (dsimp only)

theorem modMode_good {n : Nat} {c : Option Nat} {q : List Instr} {s : State} {p : Port} {f : ModeState → ModeState} (h : Good n c q s) :
    Good n c q (State.modMode s p f) := by
  unfold State.modMode
  repeat' first
    | with_reducible assumption
    | (intro)
    | (extract_lets +onlyGivenNames s1; have hs1 : Good n c q s1 := by with_reducible assumption
       clear hs1; unfold s1; clear s1)
    | (extract_lets +onlyGivenNames s1; refine good_cut (n := n) (c := c) (q := q) s1 ?_ ?_ <;> [(unfold s1; clear s1); (intro hs1; clear_value s1; revert hs1; revert s1; intro t1 ht1)])
    | (extract_lets +onlyGivenNames x1; clear_value x1; revert x1; intro y1)
    | (extract_lets +onlyGivenNames s1; refine good_cut (n := n) (c := c) (q := q) s1 ?_ ?_ <;> [(unfold s1; clear s1); (intro hs1; refine good_ite ?_ ?_ <;> (clear_value s1; revert hs1; revert s1; intro t1 ht1))])
    | with_reducible apply modPort_good
    | fail_if_no_progress (with_reducible refine good_mk ?_ rfl rfl rfl rfl rfl rfl rfl rfl rfl)
    | (dsimp only)

theorem modCnv_good {n : Nat} {c : Option Nat} {q : List Instr} {s : State} {p : Port} {f : CnvState → CnvState} (h : Good n c q s) :
    Good n c q (State.modCnv s p f) := by
  unfold State.modCnv
  repeat' first
    | with_reducible assumption
    | (intro)
    | (extract_lets +onlyGivenNames s1; have hs1 : Good n c q s1 := by with_reducible assumption
       clear hs1; unfold s1; clear s1)
    | (extract_lets +onlyGivenNames s1; refine good_cut (n := n) (c := c) (q := q) s1 ?_ ?_ <;> [(unfold s1; clear s1); (intro hs1; clear_value s1; revert hs1; revert s1; intro t1 ht1)])
    | (extract_lets +onlyGivenNames x1; clear_value x1; revert x1; intro y1)
    | (extract_lets +onlyGivenNames s1; refine good_cut (n := n) (c := c) (q := q) s1 ?_ ?_ <;> [(unfold s1; clear s1); (intro hs1; refine good_ite ?_ ?_ <;> (clear_value s1; revert hs1; revert s1; intro t1 ht1))])
    | with_reducible apply modPort_good
    | fail_if_no_progress (with_reducible refine good_mk ?_ rfl rfl rfl rfl rfl rfl rfl rfl rfl)
    | (dsimp only)

theorem modSlu_good {n : Nat} {c : Option Nat} {q : List Instr} {s : State} {p : Port} {f : SluState → SluState} (h : Good n c q s) :
    Good n c q (State.modSlu s p f) := by
  unfold State.modSlu
  repeat' first
    | with_reducible assumption
    | (intro)
    | (extract_lets +onlyGivenNames s1; have hs1 : Good n c q s1 := by with_reducible assumption
       clear hs1; unfold s1; clear s1)
    | (extract_lets +onlyGivenNames s1; refine good_cut (n := n) (c := c) (q := q) s1 ?_ ?_ <;> [(unfold s1; clear s1); (intro hs1; clear_value s1; revert hs1; revert s1; intro t1 ht1)])
    | (extract_lets +onlyGivenNames x1; clear_value x1; revert x1; intro y1)
    | (extract_lets +onlyGivenNames s1; refine good_cut (n := n) (c := c) (q := q) s1 ?_ ?_ <;> [(unfold s1; clear s1); (intro hs1; refine good_ite ?_ ?_ <;> (clear_value s1; revert hs1; revert s1; intro t1 ht1))])
    | with_reducible apply modPort_good
    | fail_if_no_progress (with_reducible refine good_mk ?_ rfl rfl rfl rfl rfl rfl rfl rfl rfl)
    | (dsimp only)

theorem modRake_good {n : Nat} {c : Option Nat} {q : List Instr} {s : State} {p : Port} {f : RakeState → RakeState} (h : Good n c q s) :
    Good n c q (State.modRake s p f) := by
  unfold State.modRake
  repeat' first
    | with_reducible assumption
    | (intro)
    | (extract_lets +onlyGivenNames s1; have hs1 : Good n c q s1 := by with_reducible assumption
       clear hs1; unfold s1; clear s1)
    | (extract_lets +onlyGivenNames s1; refine good_cut (n := n) (c := c) (q := q) s1 ?_ ?_ <;> [(unfold s1; clear s1); (intro hs1; clear_value s1; revert hs1; revert s1; intro t1 ht1)])
    | (extract_lets +onlyGivenNames x1; clear_value x1; revert x1; intro y1)
    | (extract_lets +onlyGivenNames s1; refine good_cut (n := n) (c := c) (q := q) s1 ?_ ?_ <;> [(unfold s1; clear s1); (intro hs1; refine good_ite ?_ ?_ <;> (clear_value s1; revert hs1; revert s1; intro t1 ht1))])
    | with_reducible apply modPort_good
    | fail_if_no_progress (with_reducible refine good_mk ?_ rfl rfl rfl rfl rfl rfl rfl rfl rfl)
    | (dsimp only)

theorem modXtl_good {n : Nat} {c : Option Nat} {q : List Instr} {s : State} {p : Port} {f : XtlState → XtlState} (h : Good n c q s) :
    Good n c q (State.modXtl s p f) := by
  unfold State.modXtl
  repeat' first
    | with_reducible assumption
    | (intro)
    | (extract_lets +onlyGivenNames s1; have hs1 : Good n c q s1 := by with_reducible assumption
       clear hs1; unfold s1; clear s1)
    | (extract_lets +onlyGivenNames s1; refine good_cut (n := n) (c := c) (q := q) s1 ?_ ?_ <;> [(unfold s1; clear s1); (intro hs1; clear_value s1; revert hs1; revert s1; intro t1 ht1)])
    | (extract_lets +onlyGivenNames x1; clear_value x1; revert x1; intro y1)
    | (extract_lets +onlyGivenNames s1; refine good_cut (n := n) (c := c) (q := q) s1 ?_ ?_ <;> [(unfold s1; clear s1); (intro hs1; refine good_ite ?_ ?_ <;> (clear_value s1; revert hs1; revert s1; intro t1 ht1))])
    | with_reducible apply modPort_good
    | fail_if_no_progress (with_reducible refine good_mk ?_ rfl rfl rfl rfl rfl rfl rfl rfl rfl)
    | (dsimp only)

theorem modTxp_good {n : Nat} {c : Option Nat} {q : List Instr} {s : State} {p : Port} {f : TxpState → TxpState} (h : Good n c q s) :
    Good n c q (State.modTxp s p f) := by
  unfold State.modTxp
  repeat' first
    | with_reducible assumption
    | (intro)
    | (extract_lets +onlyGivenNames s1; have hs1 : Good n c q s1 := by with_reducible assumption
       clear hs1; unfold s1; clear s1)
    | (extract_lets +onlyGivenNames s1; refine good_cut (n := n) (c := c) (q := q) s1 ?_ ?_ <;> [(unfold s1; clear s1); (intro hs1; clear_value s1; revert hs1; revert s1; intro t1 ht1)])
    | (extract_lets +onlyGivenNames x1; clear_value x1; revert x1; intro y1)
    | (extract_lets +onlyGivenNames s1; refine good_cut (n := n) (c := c) (q := q) s1 ?_ ?_ <;> [(unfold s1; clear s1); (intro hs1; refine good_ite ?_ ?_ <;> (clear_value s1; revert hs1; revert s1; intro t1 ht1))])
    | with_reducible apply modPort_good
    | fail_if_no_progress (with_reducible refine good_mk ?_ rfl rfl rfl rfl rfl rfl rfl rfl rfl)
    | (dsimp only)

theorem modTcf_good {n : Nat} {c : Option Nat} {q : List Instr} {s : State} {p : Port} {f : TcfState → TcfState} (h : Good n c q s) :
    Good n c q (State.modTcf s p f) := by
  unfold State.modTcf
  repeat' first
    | with_reducible assumption
    | (intro)
    | (extract_lets +onlyGivenNames s1; have hs1 : Good n c q s1 := by with_reducible assumption
       clear hs1; unfold s1; clear s1)
    | (extract_lets +onlyGivenNames s1; refine good_cut (n := n) (c := c) (q := q) s1 ?_ ?_ <;> [(unfold s1; clear s1); (intro hs1; clear_value s1; revert hs1; revert s1; intro t1 ht1)])
    | (extract_lets +onlyGivenNames x1; clear_value x1; revert x1; intro y1)
    | (extract_lets +onlyGivenNames s1; refine good_cut (n := n) (c := c) (q := q) s1 ?_ ?_ <;> [(unfold s1; clear s1); (intro hs1; refine good_ite ?_ ?_ <;> (clear_value s1; revert hs1; revert s1; intro t1 ht1))])
    | with_reducible apply modPort_good
    | fail_if_no_progress (with_reducible refine good_mk ?_ rfl rfl rfl rfl rfl rfl rfl rfl rfl)
    | (dsimp only)

theorem modOnu_good {n : Nat} {c : Option Nat} {q : List Instr} {s : State} {p : Port} {f : OnuPort → OnuPort} (h : Good n c q s) :
    Good n c q (State.modOnu s p f) := by
  unfold State.modOnu
  repeat' first
    | with_reducible assumption
    | (intro)
    | (extract_lets +onlyGivenNames s1; have hs1 : Good n c q s1 := by with_reducible assumption
       clear hs1; unfold s1; clear s1)
    | (extract_lets +onlyGivenNames s1; refine good_cut (n := n) (c := c) (q := q) s1 ?_ ?_ <;> [(unfold s1; clear s1); (intro hs1; clear_value s1; revert hs1; revert s1; intro t1 ht1)])
    | (extract_lets +onlyGivenNames x1; clear_value x1; revert x1; intro y1)
    | (extract_lets +onlyGivenNames s1; refine good_cut (n := n) (c := c) (q := q) s1 ?_ ?_ <;> [(unfold s1; clear s1); (intro hs1; refine good_ite ?_ ?_ <;> (clear_value s1; revert hs1; revert s1; intro t1 ht1))])
    | with_reducible apply modPort_good
    | fail_if_no_progress (with_reducible refine good_mk ?_ rfl rfl rfl rfl rfl rfl rfl rfl rfl)
    | (dsimp only)

theorem modDba_good {n : Nat} {c : Option Nat} {q : List Instr} {s : State} {p : Port} {f : DbaState → DbaState} (h : Good n c q s) :
    Good n c q (State.modDba s p f) := by
  unfold State.modDba
  repeat' first
    | with_reducible assumption
    | (intro)
    | (extract_lets +onlyGivenNames s1; have hs1 : Good n c q s1 := by with_reducible assumption
       clear hs1; unfold s1; clear s1)
    | (extract_lets +onlyGivenNames s1; refine good_cut (n := n) (c := c) (q := q) s1 ?_ ?_ <;> [(unfold s1; clear s1); (intro hs1; clear_value s1; revert hs1; revert s1; intro t1 ht1)])
    | (extract_lets +onlyGivenNames x1; clear_value x1; revert x1; intro y1)
    | (extract_lets +onlyGivenNames s1; refine good_cut (n := n) (c := c) (q := q) s1 ?_ ?_ <;> [(unfold s1; clear s1); (intro hs1; refine good_ite ?_ ?_ <;> (clear_value s1; revert hs1; revert s1; intro t1 ht1))])
    | with_reducible apply modPort_good
    | fail_if_no_progress (with_reducible refine good_mk ?_ rfl rfl rfl rfl rfl rfl rfl rfl rfl)
    | (dsimp only)

theorem modProt_good {n : Nat} {c : Option Nat} {q : List Instr} {s : State} {p : Port} {f : ProtState → ProtState} (h : Good n c q s) :
    Good n c q (State.modProt s p f) := by
  unfold State.modProt
  repeat' first
    | with_reducible assumption
    | (intro)
    | (extract_lets +onlyGivenNames s1; have hs1 : Good n c q s1 := by with_reducible assumption
       clear hs1; unfold s1; clear s1)
    | (extract_lets +onlyGivenNames s1; refine good_cut (n := n) (c := c) (q := q) s1 ?_ ?_ <;> [(unfold s1; clear s1); (intro hs1; clear_value s1; revert hs1; revert s1; intro t1 ht1)])
    | (extract_lets +onlyGivenNames x1; clear_value x1; revert x1; intro y1)
    | (extract_lets +onlyGivenNames s1; refine good_cut (n := n) (c := c) (q := q) s1 ?_ ?_ <;> [(unfold s1; clear s1); (intro hs1; refine good_ite ?_ ?_ <;> (clear_value s1; revert hs1; revert s1; intro t1 ht1))])
    | with_reducible apply modPort_good
    | fail_if_no_progress (with_reducible refine good_mk ?_ rfl rfl rfl rfl rfl rfl rfl rfl rfl)
    | (dsimp only)

theorem modReset_good {n : Nat} {c : Option Nat} {q : List Instr} {s : State} {p : Port} {f : ResetState → ResetState} (h : Good n c q s) :
    Good n c q (State.modReset s p f) := by
  unfold State.modReset
  repeat' first
    | with_reducible assumption
    | (intro)
    | (extract_lets +onlyGivenNames s1; have hs1 : Good n c q s1 := by with_reducible assumption
       clear hs1; unfold s1; clear s1)
    | (extract_lets +onlyGivenNames s1; refine good_cut (n := n) (c := c) (q := q) s1 ?_ ?_ <;> [(unfold s1; clear s1); (intro hs1; clear_value s1; revert hs1; revert s1; intro t1 ht1)])
    | (extract_lets +onlyGivenNames x1; clear_value x1; revert x1; intro y1)
    | (extract_lets +onlyGivenNames s1; refine good_cut (n := n) (c := c) (q := q) s1 ?_ ?_ <;> [(unfold s1; clear s1); (intro hs1; refine good_ite ?_ ?_ <;> (clear_value s1; revert hs1; revert s1; intro t1 ht1))])
    | with_reducible apply modPort_good
    | fail_if_no_progress (with_reducible refine good_mk ?_ rfl rfl rfl rfl rfl rfl rfl rfl rfl)
    | (dsimp only)

theorem forPorts_good {n : Nat} {c : Option Nat} {q : List Instr} {s : State} {f : State → Port → State} (h : Good n c q s) (hf : ∀ s x, Good n c q s → Good n c q (f s x)) :
    Good n c q (State.forPorts s f) := by
  unfold State.forPorts
  try generalize List.finRange 8 = l0
  repeat' first
    | with_reducible assumption
    | (intro)
    | with_reducible apply hf
    | with_reducible apply good_foldl
    | with_reducible apply good_foldl_fst
    | (dsimp only)

theorem showFc_good {n : Nat} {c : Option Nat} {q : List Instr} {s : State} {p : Port} (h : Good n c q s) :
    Good n c q (State.showFc s p) := by
  unfold State.showFc
  repeat' first
    | with_reducible assumption
    | (intro)
    | with_reducible apply setFld_good
    | (dsimp only)

theorem emit_good {n : Nat} {c : Option Nat} {q : List Instr} {s : State} {o : Output} (h : Good n c q s) :
    Good n c q (State.emit s o) := by
  unfold State.emit
  repeat' first
    | with_reducible assumption
    | (intro)
    | (extract_lets +onlyGivenNames s1; have hs1 : Good n c q s1 := by with_reducible assumption
       clear hs1; unfold s1; clear s1)
    | (extract_lets +onlyGivenNames s1; refine good_cut (n := n) (c := c) (q := q) s1 ?_ ?_ <;> [(unfold s1; clear s1); (intro hs1; clear_value s1; revert hs1; revert s1; intro t1 ht1)])
    | (extract_lets +onlyGivenNames x1; clear_value x1; revert x1; intro y1)
    | (extract_lets +onlyGivenNames s1; refine good_cut (n := n) (c := c) (q := q) s1 ?_ ?_ <;> [(unfold s1; clear s1); (intro hs1; refine good_ite ?_ ?_ <;> (clear_value s1; revert hs1; revert s1; intro t1 ht1))])
    | fail_if_no_progress (with_reducible refine good_mk ?_ rfl rfl rfl rfl rfl rfl rfl rfl rfl)
    | (dsimp only)

theorem nextOpen_good {n : Nat} {c : Option Nat} {q : List Instr} {s : State} (h : Good n c q s) :
    Good n c q (State.nextOpen s) := by
  unfold State.nextOpen
  repeat' first
    | with_reducible assumption
    | (intro)
    | (extract_lets +onlyGivenNames s1; have hs1 : Good n c q s1 := by with_reducible assumption
       clear hs1; unfold s1; clear s1)
    | (extract_lets +onlyGivenNames s1; refine good_cut (n := n) (c := c) (q := q) s1 ?_ ?_ <;> [(unfold s1; clear s1); (intro hs1; clear_value s1; revert hs1; revert s1; intro t1 ht1)])
    | (extract_lets +onlyGivenNames x1; clear_value x1; revert x1; intro y1)
    | (extract_lets +onlyGivenNames s1; refine good_cut (n := n) (c := c) (q := q) s1 ?_ ?_ <;> [(unfold s1; clear s1); (intro hs1; refine good_ite ?_ ?_ <;> (clear_value s1; revert hs1; revert s1; intro t1 ht1))])
    | fail_if_no_progress (with_reducible refine good_mk ?_ rfl rfl rfl rfl rfl rfl rfl rfl rfl)
    | (dsimp only)

theorem bump_good {n : Nat} {c : Option Nat} {q : List Instr} {s : State} {id : Nat} (h : Good n c q s) :
    Good n c q (State.bump s id) := by
  unfold State.bump
  repeat' first
    | with_reducible assumption
    | (intro)
    | with_reducible apply bumpBy_good
    | (dsimp only)

theorem bumpP_good {n : Nat} {c : Option Nat} {q : List Instr} {s : State} {p : Port} {off : Nat} (h : Good n c q s) :
    Good n c q (State.bumpP s p off) := by
  unfold State.bumpP
  repeat' first
    | with_reducible assumption
    | (intro)
    | with_reducible apply bump_good
    | (dsimp only)

theorem setSrc_good {n : Nat} {c : Option Nat} {q : List Instr} {s : State} {id : Nat} {x : Src} (h : Good n c q s) :
    Good n c q (State.setSrc s id x) := by
  unfold State.setSrc
  repeat' first
    | with_reducible assumption
    | (intro)
    | (extract_lets +onlyGivenNames s1; have hs1 : Good n c q s1 := by with_reducible assumption
       clear hs1; unfold s1; clear s1)
    | (extract_lets +onlyGivenNames s1; refine good_cut (n := n) (c := c) (q := q) s1 ?_ ?_ <;> [(unfold s1; clear s1); (intro hs1; clear_value s1; revert hs1; revert s1; intro t1 ht1)])
    | (extract_lets +onlyGivenNames x1; clear_value x1; revert x1; intro y1)
    | (extract_lets +onlyGivenNames s1; refine good_cut (n := n) (c := c) (q := q) s1 ?_ ?_ <;> [(unfold s1; clear s1); (intro hs1; refine good_ite ?_ ?_ <;> (clear_value s1; revert hs1; revert s1; intro t1 ht1))])
    | fail_if_no_progress (with_reducible refine good_mk ?_ rfl rfl rfl rfl rfl rfl rfl rfl rfl)
    | (dsimp only)

theorem setEvQueue_good {n : Nat} {c : Option Nat} {q : List Instr} {s : State} {q' : Nat} {x : EvQueue} (h : Good n c q s) :
    Good n c q (State.setEvQueue s q' x) := by
  unfold State.setEvQueue
  repeat' first
    | with_reducible assumption
    | (intro)
    | (extract_lets +onlyGivenNames s1; have hs1 : Good n c q s1 := by with_reducible assumption
       clear hs1; unfold s1; clear s1)
    | (extract_lets +onlyGivenNames s1; refine good_cut (n := n) (c := c) (q := q) s1 ?_ ?_ <;> [(unfold s1; clear s1); (intro hs1; clear_value s1; revert hs1; revert s1; intro t1 ht1)])
    | (extract_lets +onlyGivenNames x1; clear_value x1; revert x1; intro y1)
    | (extract_lets +onlyGivenNames s1; refine good_cut (n := n) (c := c) (q := q) s1 ?_ ?_ <;> [(unfold s1; clear s1); (intro hs1; refine good_ite ?_ ?_ <;> (clear_value s1; revert hs1; revert s1; intro t1 ht1))])
    | fail_if_no_progress (with_reducible refine good_mk ?_ rfl rfl rfl rfl rfl rfl rfl rfl rfl)
    | (dsimp only)

theorem joinList_good {n : Nat} {c : Option Nat} {q : List Instr} {s : State} {id : Nat} (h : Good n c q s) :
    Good n c q (State.joinList s id) := by
  unfold State.joinList
  repeat' first
    | with_reducible assumption
    | (intro)
    | (extract_lets +onlyGivenNames s1; have hs1 : Good n c q s1 := by with_reducible assumption
       clear hs1; unfold s1; clear s1)
    | (extract_lets +onlyGivenNames s1; refine good_cut (n := n) (c := c) (q := q) s1 ?_ ?_ <;> [(unfold s1; clear s1); (intro hs1; clear_value s1; revert hs1; revert s1; intro t1 ht1)])
    | (extract_lets +onlyGivenNames x1; clear_value x1; revert x1; intro y1)
    | (extract_lets +onlyGivenNames s1; refine good_cut (n := n) (c := c) (q := q) s1 ?_ ?_ <;> [(unfold s1; clear s1); (intro hs1; refine good_ite ?_ ?_ <;> (clear_value s1; revert hs1; revert s1; intro t1 ht1))])
    | with_reducible apply setEvQueue_good
    | fail_if_no_progress (with_reducible refine good_mk ?_ rfl rfl rfl rfl rfl rfl rfl rfl rfl)
    | (dsimp only)

theorem leaveList_good {n : Nat} {c : Option Nat} {q : List Instr} {s : State} {id : Nat} (h : Good n c q s) :
    Good n c q (State.leaveList s id) := by
  unfold State.leaveList
  repeat' first
    | with_reducible assumption
    | (intro)
    | (extract_lets +onlyGivenNames s1; have hs1 : Good n c q s1 := by with_reducible assumption
       clear hs1; unfold s1; clear s1)
    | (extract_lets +onlyGivenNames s1; refine good_cut (n := n) (c := c) (q := q) s1 ?_ ?_ <;> [(unfold s1; clear s1); (intro hs1; clear_value s1; revert hs1; revert s1; intro t1 ht1)])
    | (extract_lets +onlyGivenNames x1; clear_value x1; revert x1; intro y1)
    | (extract_lets +onlyGivenNames s1; refine good_cut (n := n) (c := c) (q := q) s1 ?_ ?_ <;> [(unfold s1; clear s1); (intro hs1; refine good_ite ?_ ?_ <;> (clear_value s1; revert hs1; revert s1; intro t1 ht1))])
    | with_reducible apply setEvQueue_good
    | fail_if_no_progress (with_reducible refine good_mk ?_ rfl rfl rfl rfl rfl rfl rfl rfl rfl)
    | (dsimp only)

theorem captureSees_good {n : Nat} {c : Option Nat} {q : List Instr} {s : State} {seen : CaptureState → Bool} (h : Good n c q s) :
    Good n c q (State.captureSees s seen) := by
  unfold State.captureSees
  repeat' first
    | with_reducible assumption
    | (intro)
    | (extract_lets +onlyGivenNames s1; have hs1 : Good n c q s1 := by with_reducible assumption
       clear hs1; unfold s1; clear s1)
    | (extract_lets +onlyGivenNames s1; refine good_cut (n := n) (c := c) (q := q) s1 ?_ ?_ <;> [(unfold s1; clear s1); (intro hs1; clear_value s1; revert hs1; revert s1; intro t1 ht1)])
    | (extract_lets +onlyGivenNames x1; clear_value x1; revert x1; intro y1)
    | (extract_lets +onlyGivenNames s1; refine good_cut (n := n) (c := c) (q := q) s1 ?_ ?_ <;> [(unfold s1; clear s1); (intro hs1; refine good_ite ?_ ?_ <;> (clear_value s1; revert hs1; revert s1; intro t1 ht1))])
    | fail_if_no_progress (with_reducible refine good_mk ?_ rfl rfl rfl rfl rfl rfl rfl rfl rfl)
    | with_reducible apply good_ite
    | (split)
    | (refine good_ite ?_ ?_)
    | (dsimp only)

theorem makePending_good {n : Nat} {c : Option Nat} {q : List Instr} {s : State} {id : Nat} {sw : Bool} (h : Good n c q s) :
    Good n c q (State.makePending s id sw) := by
  unfold State.makePending
  repeat' first
    | with_reducible assumption
    | (intro)
    | (extract_lets +onlyGivenNames s1; have hs1 : Good n c q s1 := by with_reducible assumption
       clear hs1; unfold s1; clear s1)
    | (extract_lets +onlyGivenNames s1; refine good_cut (n := n) (c := c) (q := q) s1 ?_ ?_ <;> [(unfold s1; clear s1); (intro hs1; clear_value s1; revert hs1; revert s1; intro t1 ht1)])
    | (extract_lets +onlyGivenNames x1; clear_value x1; revert x1; intro y1)
    | (extract_lets +onlyGivenNames s1; refine good_cut (n := n) (c := c) (q := q) s1 ?_ ?_ <;> [(unfold s1; clear s1); (intro hs1; refine good_ite ?_ ?_ <;> (clear_value s1; revert hs1; revert s1; intro t1 ht1))])
    | with_reducible apply setSrc_good
    | with_reducible apply joinList_good
    | fail_if_no_progress (with_reducible refine good_mk ?_ rfl rfl rfl rfl rfl rfl rfl rfl rfl)
    | with_reducible apply good_ite
    | (split)
    | (refine good_ite ?_ ?_)
    | (dsimp only)

theorem dropPending_good {n : Nat} {c : Option Nat} {q : List Instr} {s : State} {id : Nat} (h : Good n c q s) :
    Good n c q (State.dropPending s id) := by
  unfold State.dropPending
  repeat' first
    | with_reducible assumption
    | (intro)
    | (extract_lets +onlyGivenNames s1; have hs1 : Good n c q s1 := by with_reducible assumption
       clear hs1; unfold s1; clear s1)
    | (extract_lets +onlyGivenNames s1; refine good_cut (n := n) (c := c) (q := q) s1 ?_ ?_ <;> [(unfold s1; clear s1); (intro hs1; clear_value s1; revert hs1; revert s1; intro t1 ht1)])
    | (extract_lets +onlyGivenNames x1; clear_value x1; revert x1; intro y1)
    | (extract_lets +onlyGivenNames s1; refine good_cut (n := n) (c := c) (q := q) s1 ?_ ?_ <;> [(unfold s1; clear s1); (intro hs1; refine good_ite ?_ ?_ <;> (clear_value s1; revert hs1; revert s1; intro t1 ht1))])
    | with_reducible apply leaveList_good
    | with_reducible apply setSrc_good
    | fail_if_no_progress (with_reducible refine good_mk ?_ rfl rfl rfl rfl rfl rfl rfl rfl rfl)
    | with_reducible apply good_ite
    | (split)
    | (refine good_ite ?_ ?_)
    | (dsimp only)

theorem settleLevel_good {n : Nat} {c : Option Nat} {q : List Instr} {s : State} {id : Nat} (h : Good n c q s) :
    Good n c q (State.settleLevel s id) := by
  unfold State.settleLevel
  repeat' first
    | with_reducible assumption
    | (intro)
    | (extract_lets +onlyGivenNames s1; have hs1 : Good n c q s1 := by with_reducible assumption
       clear hs1; unfold s1; clear s1)
    | (extract_lets +onlyGivenNames s1; refine good_cut (n := n) (c := c) (q := q) s1 ?_ ?_ <;> [(unfold s1; clear s1); (intro hs1; clear_value s1; revert hs1; revert s1; intro t1 ht1)])
    | (extract_lets +onlyGivenNames x1; clear_value x1; revert x1; intro y1)
    | (extract_lets +onlyGivenNames s1; refine good_cut (n := n) (c := c) (q := q) s1 ?_ ?_ <;> [(unfold s1; clear s1); (intro hs1; refine good_ite ?_ ?_ <;> (clear_value s1; revert hs1; revert s1; intro t1 ht1))])
    | with_reducible apply makePending_good
    | with_reducible apply dropPending_good
    | with_reducible apply bump_good
    | with_reducible apply setSrc_good
    | fail_if_no_progress (with_reducible refine good_mk ?_ rfl rfl rfl rfl rfl rfl rfl rfl rfl)
    | with_reducible apply good_ite
    | (split)
    | (refine good_ite ?_ ?_)
    | (dsimp only)

theorem sourceInput_good {n : Nat} {c : Option Nat} {q : List Instr} {s : State} {id : Nat} {new : Bool} {info : Nat} (h : Good n c q s) :
    Good n c q (State.sourceInput s id new info) := by
  unfold State.sourceInput
  repeat' first
    | with_reducible assumption
    | (intro)
    | (extract_lets +onlyGivenNames s1; have hs1 : Good n c q s1 := by with_reducible assumption
       clear hs1; unfold s1; clear s1)
    | (extract_lets +onlyGivenNames s1; refine good_cut (n := n) (c := c) (q := q) s1 ?_ ?_ <;> [(unfold s1; clear s1); (intro hs1; clear_value s1; revert hs1; revert s1; intro t1 ht1)])
    | (extract_lets +onlyGivenNames x1; clear_value x1; revert x1; intro y1)
    | (extract_lets +onlyGivenNames s1; refine good_cut (n := n) (c := c) (q := q) s1 ?_ ?_ <;> [(unfold s1; clear s1); (intro hs1; refine good_ite ?_ ?_ <;> (clear_value s1; revert hs1; revert s1; intro t1 ht1))])
    | with_reducible apply setSrc_good
    | with_reducible apply settleLevel_good
    | with_reducible apply bump_good
    | with_reducible apply makePending_good
    | fail_if_no_progress (with_reducible refine good_mk ?_ rfl rfl rfl rfl rfl rfl rfl rfl rfl)
    | with_reducible apply good_ite
    | (with_reducible apply good_fst; with_reducible assumption)
    | (split)
    | (refine good_ite ?_ ?_)
    | (dsimp only)

theorem recordMirror_good {n : Nat} {c : Option Nat} {q : List Instr} {s : State} {id : Nat} (h : Good n c q s) :
    Good n c q (State.recordMirror s id) := by
  unfold State.recordMirror
  repeat' first
    | with_reducible assumption
    | (intro)
    | (extract_lets +onlyGivenNames s1; have hs1 : Good n c q s1 := by with_reducible assumption
       clear hs1; unfold s1; clear s1)
    | (extract_lets +onlyGivenNames s1; refine good_cut (n := n) (c := c) (q := q) s1 ?_ ?_ <;> [(unfold s1; clear s1); (intro hs1; clear_value s1; revert hs1; revert s1; intro t1 ht1)])
    | (extract_lets +onlyGivenNames x1; clear_value x1; revert x1; intro y1)
    | (extract_lets +onlyGivenNames s1; refine good_cut (n := n) (c := c) (q := q) s1 ?_ ?_ <;> [(unfold s1; clear s1); (intro hs1; refine good_ite ?_ ?_ <;> (clear_value s1; revert hs1; revert s1; intro t1 ht1))])
    | with_reducible apply setReg_good
    | (with_reducible apply good_fst; with_reducible assumption)
    | (split)
    | (dsimp only)

theorem level_good {n : Nat} {c : Option Nat} {q : List Instr} {s : State} {id : Nat} {b : Bool} {info : Nat} (h : Good n c q s) :
    Good n c q (State.level s id b info) := by
  unfold State.level
  repeat' first
    | with_reducible assumption
    | (intro)
    | (extract_lets +onlyGivenNames s1; have hs1 : Good n c q s1 := by with_reducible assumption
       clear hs1; unfold s1; clear s1)
    | (extract_lets +onlyGivenNames s1; refine good_cut (n := n) (c := c) (q := q) s1 ?_ ?_ <;> [(unfold s1; clear s1); (intro hs1; clear_value s1; revert hs1; revert s1; intro t1 ht1)])
    | (extract_lets +onlyGivenNames x1; clear_value x1; revert x1; intro y1)
    | (extract_lets +onlyGivenNames s1; refine good_cut (n := n) (c := c) (q := q) s1 ?_ ?_ <;> [(unfold s1; clear s1); (intro hs1; refine good_ite ?_ ?_ <;> (clear_value s1; revert hs1; revert s1; intro t1 ht1))])
    | with_reducible apply recordMirror_good
    | with_reducible apply sourceInput_good
    | with_reducible apply good_ite
    | (split)
    | (refine good_ite ?_ ?_)
    | (dsimp only)

theorem pulse_good {n : Nat} {c : Option Nat} {q : List Instr} {s : State} {id : Nat} {info : Nat} (h : Good n c q s) :
    Good n c q (State.pulse s id info) := by
  unfold State.pulse
  repeat' first
    | with_reducible assumption
    | (intro)
    | with_reducible apply recordMirror_good
    | with_reducible apply sourceInput_good
    | (dsimp only)

theorem pulseP_good {n : Nat} {c : Option Nat} {q : List Instr} {s : State} {p : Port} {off : Nat} {info : Nat} (h : Good n c q s) :
    Good n c q (State.pulseP s p off info) := by
  unfold State.pulseP
  repeat' first
    | with_reducible assumption
    | (intro)
    | with_reducible apply pulse_good
    | (dsimp only)

theorem setSq_good {n : Nat} {c : Option Nat} {q : List Instr} {s : State} {fn : Nat} {i : Nat} {q' : Sq} (h : Good n c q s) :
    Good n c q (State.setSq s fn i q') := by
  unfold State.setSq
  repeat' first
    | with_reducible assumption
    | (intro)
    | (extract_lets +onlyGivenNames s1; have hs1 : Good n c q s1 := by with_reducible assumption
       clear hs1; unfold s1; clear s1)
    | (extract_lets +onlyGivenNames s1; refine good_cut (n := n) (c := c) (q := q) s1 ?_ ?_ <;> [(unfold s1; clear s1); (intro hs1; clear_value s1; revert hs1; revert s1; intro t1 ht1)])
    | (extract_lets +onlyGivenNames x1; clear_value x1; revert x1; intro y1)
    | (extract_lets +onlyGivenNames s1; refine good_cut (n := n) (c := c) (q := q) s1 ?_ ?_ <;> [(unfold s1; clear s1); (intro hs1; refine good_ite ?_ ?_ <;> (clear_value s1; revert hs1; revert s1; intro t1 ht1))])
    | fail_if_no_progress (with_reducible refine good_mk ?_ rfl rfl rfl rfl rfl rfl rfl rfl rfl)
    | with_reducible apply good_ite
    | (split)
    | (refine good_ite ?_ ?_)
    | (dsimp only)

theorem setCq_good {n : Nat} {c : Option Nat} {q : List Instr} {s : State} {fn : Nat} {i : Nat} {q' : Cq} (h : Good n c q s) :
    Good n c q (State.setCq s fn i q') := by
  unfold State.setCq
  repeat' first
    | with_reducible assumption
    | (intro)
    | (extract_lets +onlyGivenNames s1; have hs1 : Good n c q s1 := by with_reducible assumption
       clear hs1; unfold s1; clear s1)
    | (extract_lets +onlyGivenNames s1; refine good_cut (n := n) (c := c) (q := q) s1 ?_ ?_ <;> [(unfold s1; clear s1); (intro hs1; clear_value s1; revert hs1; revert s1; intro t1 ht1)])
    | (extract_lets +onlyGivenNames x1; clear_value x1; revert x1; intro y1)
    | (extract_lets +onlyGivenNames s1; refine good_cut (n := n) (c := c) (q := q) s1 ?_ ?_ <;> [(unfold s1; clear s1); (intro hs1; refine good_ite ?_ ?_ <;> (clear_value s1; revert hs1; revert s1; intro t1 ht1))])
    | fail_if_no_progress (with_reducible refine good_mk ?_ rfl rfl rfl rfl rfl rfl rfl rfl rfl)
    | with_reducible apply good_ite
    | (split)
    | (refine good_ite ?_ ?_)
    | (dsimp only)

theorem notifyCq_good {n : Nat} {c : Option Nat} {q : List Instr} {s : State} {fn : Nat} {i : Nat} (h : Good n c q s) :
    Good n c q (State.notifyCq s fn i) := by
  unfold State.notifyCq
  repeat' first
    | with_reducible assumption
    | (intro)
    | (extract_lets +onlyGivenNames s1; have hs1 : Good n c q s1 := by with_reducible assumption
       clear hs1; unfold s1; clear s1)
    | (extract_lets +onlyGivenNames s1; refine good_cut (n := n) (c := c) (q := q) s1 ?_ ?_ <;> [(unfold s1; clear s1); (intro hs1; clear_value s1; revert hs1; revert s1; intro t1 ht1)])
    | (extract_lets +onlyGivenNames x1; clear_value x1; revert x1; intro y1)
    | (extract_lets +onlyGivenNames s1; refine good_cut (n := n) (c := c) (q := q) s1 ?_ ?_ <;> [(unfold s1; clear s1); (intro hs1; refine good_ite ?_ ?_ <;> (clear_value s1; revert hs1; revert s1; intro t1 ht1))])
    | with_reducible apply level_good
    | (split)
    | (dsimp only)

theorem toHost_good {n : Nat} {c : Option Nat} {q : List Instr} {s : State} {fn : Nat} {o : Output} (h : Good n c q s) :
    Good n c q (State.toHost s fn o) := by
  unfold State.toHost
  repeat' first
    | with_reducible assumption
    | (intro)
    | (extract_lets +onlyGivenNames s1; have hs1 : Good n c q s1 := by with_reducible assumption
       clear hs1; unfold s1; clear s1)
    | (extract_lets +onlyGivenNames s1; refine good_cut (n := n) (c := c) (q := q) s1 ?_ ?_ <;> [(unfold s1; clear s1); (intro hs1; clear_value s1; revert hs1; revert s1; intro t1 ht1)])
    | (extract_lets +onlyGivenNames x1; clear_value x1; revert x1; intro y1)
    | (extract_lets +onlyGivenNames s1; refine good_cut (n := n) (c := c) (q := q) s1 ?_ ?_ <;> [(unfold s1; clear s1); (intro hs1; refine good_ite ?_ ?_ <;> (clear_value s1; revert hs1; revert s1; intro t1 ht1))])
    | with_reducible apply emit_good
    | fail_if_no_progress (with_reducible refine good_mk ?_ rfl rfl rfl rfl rfl rfl rfl rfl rfl)
    | with_reducible apply good_ite
    | (split)
    | (refine good_ite ?_ ?_)
    | (dsimp only)

theorem writeCompletion_good {n : Nat} {c : Option Nat} {q : List Instr} {s : State} {iss : Issue} {r : Result} (h : Good n c q s) :
    Good n c q (State.writeCompletion s iss r) := by
  unfold State.writeCompletion
  repeat' first
    | with_reducible assumption
    | (intro)
    | (extract_lets +onlyGivenNames s1; have hs1 : Good n c q s1 := by with_reducible assumption
       clear hs1; unfold s1; clear s1)
    | (extract_lets +onlyGivenNames s1; refine good_cut (n := n) (c := c) (q := q) s1 ?_ ?_ <;> [(unfold s1; clear s1); (intro hs1; clear_value s1; revert hs1; revert s1; intro t1 ht1)])
    | (extract_lets +onlyGivenNames x1; clear_value x1; revert x1; intro y1)
    | (extract_lets +onlyGivenNames s1; refine good_cut (n := n) (c := c) (q := q) s1 ?_ ?_ <;> [(unfold s1; clear s1); (intro hs1; refine good_ite ?_ ?_ <;> (clear_value s1; revert hs1; revert s1; intro t1 ht1))])
    | with_reducible apply bump_good
    | with_reducible apply emit_good
    | with_reducible apply setCq_good
    | with_reducible apply setSq_good
    | with_reducible apply notifyCq_good
    | fail_if_no_progress (with_reducible refine good_mk ?_ rfl rfl rfl rfl rfl rfl rfl rfl rfl)
    | with_reducible apply good_ite
    | (with_reducible apply good_fst; with_reducible assumption)
    | (split)
    | (refine good_ite ?_ ?_)
    | (dsimp only)

theorem complete_good {n : Nat} {c : Option Nat} {q : List Instr} {s : State} {iss : Issue} {r : Result} (h : Good n c q s) :
    Good n c q (State.complete s iss r) := by
  unfold State.complete
  repeat' first
    | with_reducible assumption
    | (intro)
    | (extract_lets +onlyGivenNames s1; have hs1 : Good n c q s1 := by with_reducible assumption
       clear hs1; unfold s1; clear s1)
    | (extract_lets +onlyGivenNames s1; refine good_cut (n := n) (c := c) (q := q) s1 ?_ ?_ <;> [(unfold s1; clear s1); (intro hs1; clear_value s1; revert hs1; revert s1; intro t1 ht1)])
    | (extract_lets +onlyGivenNames x1; clear_value x1; revert x1; intro y1)
    | (extract_lets +onlyGivenNames s1; refine good_cut (n := n) (c := c) (q := q) s1 ?_ ?_ <;> [(unfold s1; clear s1); (intro hs1; refine good_ite ?_ ?_ <;> (clear_value s1; revert hs1; revert s1; intro t1 ht1))])
    | with_reducible apply writeCompletion_good
    | fail_if_no_progress (with_reducible refine good_mk ?_ rfl rfl rfl rfl rfl rfl rfl rfl rfl)
    | with_reducible apply good_ite
    | (split)
    | (refine good_ite ?_ ?_)
    | (dsimp only)

theorem refuse_good {n : Nat} {c : Option Nat} {q : List Instr} {s : State} {iss : Issue} {reason : Nat} (h : Good n c q s) :
    Good n c q (State.refuse s iss reason) := by
  unfold State.refuse
  repeat' first
    | with_reducible assumption
    | (intro)
    | with_reducible apply complete_good
    | (dsimp only)

theorem succeed_good {n : Nat} {c : Option Nat} {q : List Instr} {s : State} {iss : Issue} {r0 : Nat} {r1 : Nat} (h : Good n c q s) :
    Good n c q (State.succeed s iss r0 r1) := by
  unfold State.succeed
  repeat' first
    | with_reducible assumption
    | (intro)
    | with_reducible apply complete_good
    | (dsimp only)

theorem markStarted_good {n : Nat} {c : Option Nat} {q : List Instr} {s : State} {iss : Issue} {b : Bool} (h : Good n c q s) :
    Good n c q (State.markStarted s iss b) := by
  unfold State.markStarted
  repeat' first
    | with_reducible assumption
    | (intro)
    | (extract_lets +onlyGivenNames s1; have hs1 : Good n c q s1 := by with_reducible assumption
       clear hs1; unfold s1; clear s1)
    | (extract_lets +onlyGivenNames s1; refine good_cut (n := n) (c := c) (q := q) s1 ?_ ?_ <;> [(unfold s1; clear s1); (intro hs1; clear_value s1; revert hs1; revert s1; intro t1 ht1)])
    | (extract_lets +onlyGivenNames x1; clear_value x1; revert x1; intro y1)
    | (extract_lets +onlyGivenNames s1; refine good_cut (n := n) (c := c) (q := q) s1 ?_ ?_ <;> [(unfold s1; clear s1); (intro hs1; refine good_ite ?_ ?_ <;> (clear_value s1; revert hs1; revert s1; intro t1 ht1))])
    | fail_if_no_progress (with_reducible refine good_mk ?_ rfl rfl rfl rfl rfl rfl rfl rfl rfl)
    | with_reducible apply good_ite
    | (with_reducible apply good_fst; with_reducible assumption)
    | (split)
    | (refine good_ite ?_ ?_)
    | (dsimp only)

theorem holdBack_good {n : Nat} {c : Option Nat} {q : List Instr} {s : State} {iss : Issue} (h : Good n c q s) :
    Good n c q (State.holdBack s iss) := by
  unfold State.holdBack
  repeat' first
    | with_reducible assumption
    | (intro)
    | with_reducible apply markStarted_good
    | (dsimp only)

theorem startCmd_good {n : Nat} {c : Option Nat} {q : List Instr} {s : State} {iss : Issue} (h : Good n c q s) :
    Good n c q (State.startCmd s iss) := by
  unfold State.startCmd
  repeat' first
    | with_reducible assumption
    | (intro)
    | with_reducible apply markStarted_good
    | (dsimp only)

theorem hostCmdAt_good {n : Nat} {c : Option Nat} {q : List Instr} {s : State} {iss : Issue} {p : Port} {ops : List (Nat × Nat)} {k : State → State} (h : Good n c q s) (hk : ∀ s, Good n c q s → Good n c q (k s)) :
    Good n c q (State.hostCmdAt s iss p ops k) := by
  unfold State.hostCmdAt
  repeat' first
    | with_reducible assumption
    | (intro)
    | (extract_lets +onlyGivenNames s1; have hs1 : Good n c q s1 := by with_reducible assumption
       clear hs1; unfold s1; clear s1)
    | (extract_lets +onlyGivenNames s1; refine good_cut (n := n) (c := c) (q := q) s1 ?_ ?_ <;> [(unfold s1; clear s1); (intro hs1; clear_value s1; revert hs1; revert s1; intro t1 ht1)])
    | (extract_lets +onlyGivenNames x1; clear_value x1; revert x1; intro y1)
    | (extract_lets +onlyGivenNames s1; refine good_cut (n := n) (c := c) (q := q) s1 ?_ ?_ <;> [(unfold s1; clear s1); (intro hs1; refine good_ite ?_ ?_ <;> (clear_value s1; revert hs1; revert s1; intro t1 ht1))])
    | with_reducible apply hk
    | with_reducible apply holdBack_good
    | with_reducible apply startCmd_good
    | with_reducible apply refuse_good
    | with_reducible apply good_ite
    | (split)
    | (refine good_ite ?_ ?_)
    | (dsimp only)

theorem hostCmd_good {n : Nat} {c : Option Nat} {q : List Instr} {s : State} {iss : Issue} {ops : List (Nat × Nat)} {k : State → State} (h : Good n c q s) (hk : ∀ s, Good n c q s → Good n c q (k s)) :
    Good n c q (State.hostCmd s iss ops k) := by
  unfold State.hostCmd
  repeat' first
    | with_reducible assumption
    | (intro)
    | with_reducible apply hk
    | with_reducible apply hostCmdAt_good
    | (dsimp only)

theorem awaits_good {n : Nat} {c : Option Nat} {q : List Instr} {s : State} {iss : Issue} {k : State → State} (h : Good n c q s) (hk : ∀ s, Good n c q s → Good n c q (k s)) :
    Good n c q (State.awaits s iss k) := by
  unfold State.awaits
  repeat' first
    | with_reducible assumption
    | (intro)
    | (extract_lets +onlyGivenNames s1; have hs1 : Good n c q s1 := by with_reducible assumption
       clear hs1; unfold s1; clear s1)
    | (extract_lets +onlyGivenNames s1; refine good_cut (n := n) (c := c) (q := q) s1 ?_ ?_ <;> [(unfold s1; clear s1); (intro hs1; clear_value s1; revert hs1; revert s1; intro t1 ht1)])
    | (extract_lets +onlyGivenNames x1; clear_value x1; revert x1; intro y1)
    | (extract_lets +onlyGivenNames s1; refine good_cut (n := n) (c := c) (q := q) s1 ?_ ?_ <;> [(unfold s1; clear s1); (intro hs1; refine good_ite ?_ ?_ <;> (clear_value s1; revert hs1; revert s1; intro t1 ht1))])
    | with_reducible apply hk
    | with_reducible apply complete_good
    | with_reducible apply bump_good
    | fail_if_no_progress (with_reducible refine good_mk ?_ rfl rfl rfl rfl rfl rfl rfl rfl rfl)
    | with_reducible apply good_ite
    | (split)
    | (refine good_ite ?_ ?_)
    | (dsimp only)

theorem pf0Cmd_good {n : Nat} {c : Option Nat} {q : List Instr} {s : State} {iss : Issue} {ops : List (Nat × Nat)} {k : State → State} (h : Good n c q s) (hk : ∀ s, Good n c q s → Good n c q (k s)) :
    Good n c q (State.pf0Cmd s iss ops k) := by
  unfold State.pf0Cmd
  repeat' first
    | with_reducible assumption
    | (intro)
    | (extract_lets +onlyGivenNames s1; have hs1 : Good n c q s1 := by with_reducible assumption
       clear hs1; unfold s1; clear s1)
    | (extract_lets +onlyGivenNames s1; refine good_cut (n := n) (c := c) (q := q) s1 ?_ ?_ <;> [(unfold s1; clear s1); (intro hs1; clear_value s1; revert hs1; revert s1; intro t1 ht1)])
    | (extract_lets +onlyGivenNames x1; clear_value x1; revert x1; intro y1)
    | (extract_lets +onlyGivenNames s1; refine good_cut (n := n) (c := c) (q := q) s1 ?_ ?_ <;> [(unfold s1; clear s1); (intro hs1; refine good_ite ?_ ?_ <;> (clear_value s1; revert hs1; revert s1; intro t1 ht1))])
    | with_reducible apply hk
    | with_reducible apply holdBack_good
    | with_reducible apply startCmd_good
    | with_reducible apply refuse_good
    | with_reducible apply good_ite
    | (split)
    | (refine good_ite ?_ ?_)
    | (dsimp only)

theorem setDisCause_good {n : Nat} {c : Option Nat} {q : List Instr} {s : State} {p : Port} {bit : Nat} {b : Bool} (h : Good n c q s) :
    Good n c q (State.setDisCause s p bit b) := by
  unfold State.setDisCause
  repeat' first
    | with_reducible assumption
    | (intro)
    | (extract_lets +onlyGivenNames s1; have hs1 : Good n c q s1 := by with_reducible assumption
       clear hs1; unfold s1; clear s1)
    | (extract_lets +onlyGivenNames s1; refine good_cut (n := n) (c := c) (q := q) s1 ?_ ?_ <;> [(unfold s1; clear s1); (intro hs1; clear_value s1; revert hs1; revert s1; intro t1 ht1)])
    | (extract_lets +onlyGivenNames x1; clear_value x1; revert x1; intro y1)
    | (extract_lets +onlyGivenNames s1; refine good_cut (n := n) (c := c) (q := q) s1 ?_ ?_ <;> [(unfold s1; clear s1); (intro hs1; refine good_ite ?_ ?_ <;> (clear_value s1; revert hs1; revert s1; intro t1 ht1))])
    | with_reducible apply setFld_good
    | with_reducible apply setFlag_good
    | with_reducible apply modTxp_good
    | with_reducible apply pulseP_good
    | with_reducible apply bumpP_good
    | fail_if_no_progress (with_reducible refine good_mk ?_ rfl rfl rfl rfl rfl rfl rfl rfl rfl)
    | with_reducible apply good_ite
    | (split)
    | (refine good_ite ?_ ?_)
    | (dsimp only)

theorem setFramer_good {n : Nat} {c : Option Nat} {q : List Instr} {s : State} {p : Port} {f : Framer} (h : Good n c q s) :
    Good n c q (State.setFramer s p f) := by
  unfold State.setFramer
  repeat' first
    | with_reducible assumption
    | (intro)
    | (extract_lets +onlyGivenNames s1; have hs1 : Good n c q s1 := by with_reducible assumption
       clear hs1; unfold s1; clear s1)
    | (extract_lets +onlyGivenNames s1; refine good_cut (n := n) (c := c) (q := q) s1 ?_ ?_ <;> [(unfold s1; clear s1); (intro hs1; clear_value s1; revert hs1; revert s1; intro t1 ht1)])
    | (extract_lets +onlyGivenNames x1; clear_value x1; revert x1; intro y1)
    | (extract_lets +onlyGivenNames s1; refine good_cut (n := n) (c := c) (q := q) s1 ?_ ?_ <;> [(unfold s1; clear s1); (intro hs1; refine good_ite ?_ ?_ <;> (clear_value s1; revert hs1; revert s1; intro t1 ht1))])
    | with_reducible apply modMode_good
    | with_reducible apply setFlag_good
    | fail_if_no_progress (with_reducible refine good_mk ?_ rfl rfl rfl rfl rfl rfl rfl rfl rfl)
    | (dsimp only)

theorem fenceHub_good {n : Nat} {c : Option Nat} {q : List Instr} {s : State} {bit : Nat} (h : Good n c q s) :
    Good n c q (State.fenceHub s bit) := by
  unfold State.fenceHub
  repeat' first
    | with_reducible assumption
    | (intro)
    | (extract_lets +onlyGivenNames s1; have hs1 : Good n c q s1 := by with_reducible assumption
       clear hs1; unfold s1; clear s1)
    | (extract_lets +onlyGivenNames s1; refine good_cut (n := n) (c := c) (q := q) s1 ?_ ?_ <;> [(unfold s1; clear s1); (intro hs1; clear_value s1; revert hs1; revert s1; intro t1 ht1)])
    | (extract_lets +onlyGivenNames x1; clear_value x1; revert x1; intro y1)
    | (extract_lets +onlyGivenNames s1; refine good_cut (n := n) (c := c) (q := q) s1 ?_ ?_ <;> [(unfold s1; clear s1); (intro hs1; refine good_ite ?_ ?_ <;> (clear_value s1; revert hs1; revert s1; intro t1 ht1))])
    | with_reducible apply setFld_good
    | with_reducible apply level_good
    | fail_if_no_progress (with_reducible refine good_mk ?_ rfl rfl rfl rfl rfl rfl rfl rfl rfl)
    | with_reducible apply good_ite
    | (with_reducible apply good_fst; with_reducible assumption)
    | (split)
    | (refine good_ite ?_ ?_)
    | (dsimp only)

theorem appendDelta_good {n : Nat} {c : Option Nat} {q : List Instr} {s : State} {cls : Nat} {scope : Nat} {unit : Nat} (h : Good n c q s) :
    Good n c q (State.appendDelta s cls scope unit) := by
  unfold State.appendDelta
  repeat' first
    | with_reducible assumption
    | (intro)
    | (extract_lets +onlyGivenNames s1; have hs1 : Good n c q s1 := by with_reducible assumption
       clear hs1; unfold s1; clear s1)
    | (extract_lets +onlyGivenNames s1; refine good_cut (n := n) (c := c) (q := q) s1 ?_ ?_ <;> [(unfold s1; clear s1); (intro hs1; clear_value s1; revert hs1; revert s1; intro t1 ht1)])
    | (extract_lets +onlyGivenNames x1; clear_value x1; revert x1; intro y1)
    | (extract_lets +onlyGivenNames s1; refine good_cut (n := n) (c := c) (q := q) s1 ?_ ?_ <;> [(unfold s1; clear s1); (intro hs1; refine good_ite ?_ ?_ <;> (clear_value s1; revert hs1; revert s1; intro t1 ht1))])
    | with_reducible apply setFld_good
    | with_reducible apply pulse_good
    | fail_if_no_progress (with_reducible refine good_mk ?_ rfl rfl rfl rfl rfl rfl rfl rfl rfl)
    | with_reducible apply good_ite
    | (with_reducible apply good_fst; with_reducible assumption)
    | (split)
    | (refine good_ite ?_ ?_)
    | (dsimp only)

theorem recordAccess_good {n : Nat} {c : Option Nat} {q : List Instr} {s : State} {src : Nat} {a : Nat} {kind : Nat} {write : Bool} (h : Good n c q s) :
    Good n c q (State.recordAccess s src a kind write) := by
  unfold State.recordAccess
  repeat' first
    | with_reducible assumption
    | (intro)
    | (extract_lets +onlyGivenNames s1; have hs1 : Good n c q s1 := by with_reducible assumption
       clear hs1; unfold s1; clear s1)
    | (extract_lets +onlyGivenNames s1; refine good_cut (n := n) (c := c) (q := q) s1 ?_ ?_ <;> [(unfold s1; clear s1); (intro hs1; clear_value s1; revert hs1; revert s1; intro t1 ht1)])
    | (extract_lets +onlyGivenNames x1; clear_value x1; revert x1; intro y1)
    | (extract_lets +onlyGivenNames s1; refine good_cut (n := n) (c := c) (q := q) s1 ?_ ?_ <;> [(unfold s1; clear s1); (intro hs1; refine good_ite ?_ ?_ <;> (clear_value s1; revert hs1; revert s1; intro t1 ht1))])
    | with_reducible apply bump_good
    | with_reducible apply setFld_good
    | with_reducible apply setFlag_good
    | with_reducible apply pulse_good
    | with_reducible apply good_ite
    | (split)
    | (refine good_ite ?_ ?_)
    | (dsimp only)

theorem accessed_good {n : Nat} {c : Option Nat} {q : List Instr} {s : State} {src : Nat} {a : Nat} {k : State → State} (h : Good n c q s) (hk : ∀ s, Good n c q s → Good n c q (k s)) :
    Good n c q (State.accessed s src a k) := by
  unfold State.accessed
  repeat' first
    | with_reducible assumption
    | (intro)
    | with_reducible apply hk
    | with_reducible apply recordAccess_good
    | with_reducible apply good_ite
    | (split)
    | (refine good_ite ?_ ?_)
    | (dsimp only)

end Sys2Proof.Machine
end

