-- ==== Sys2Proof/Laws/GoodMem.lean ====
section
/-!
SUPPORT. What the operations of Machine/Mem.lean keep.
-/
set_option linter.all false
set_option linter.unreachableTactic false
set_option linter.unusedTactic false
namespace Sys2Proof.Machine

theorem setWordErr_good {n : Nat} {c : Option Nat} {q : List Instr} {s : State} {space : Nat} {w : Nat} {e : WordErr} (h : Good n c q s) :
    Good n c q (State.setWordErr s space w e) := by
  unfold State.setWordErr
  repeat' first
    | with_reducible assumption
    | (intro)
    | (extract_lets +onlyGivenNames s1; have hs1 : Good n c q s1 := by with_reducible assumption
       clear hs1; unfold s1; clear s1)
    | (extract_lets +onlyGivenNames s1; refine good_cut (n := n) (c := c) (q := q) s1 ?_ ?_ <;> [(unfold s1; clear s1); (intro hs1; clear_value s1; revert hs1; revert s1; intro t1 ht1)])
    | (extract_lets +onlyGivenNames x1; clear_value x1; revert x1; intro y1)
    | (extract_lets +onlyGivenNames s1; refine good_cut (n := n) (c := c) (q := q) s1 ?_ ?_ <;> [(unfold s1; clear s1); (intro hs1; refine good_ite ?_ ?_ <;> (clear_value s1; revert hs1; revert s1; intro t1 ht1))])
    | fail_if_no_progress (with_reducible refine good_mk ?_ rfl rfl rfl rfl rfl rfl rfl rfl rfl)
    | (dsimp only)

theorem btnStatus_good {n : Nat} {c : Option Nat} {q : List Instr} {s : State} (h : Good n c q s) :
    Good n c q (State.btnStatus s) := by
  unfold State.btnStatus
  repeat' first
    | with_reducible assumption
    | (intro)
    | with_reducible apply setFld_good
    | with_reducible apply bittern_good
    | with_reducible apply setFlag_good
    | (dsimp only)

theorem bittern_good {n : Nat} {c : Option Nat} {q : List Instr} {s : State} {kind : Nat} {space : Nat} {w : Nat} {consumer : Nat} (h : Good n c q s) :
    Good n c q (State.bittern s kind space w consumer) := by
  unfold State.bittern
  repeat' first
    | with_reducible assumption
    | (intro)
    | (extract_lets +onlyGivenNames s1; have hs1 : Good n c q s1 := by with_reducible assumption
       clear hs1; unfold s1; clear s1)
    | (extract_lets +onlyGivenNames s1; refine good_cut (n := n) (c := c) (q := q) s1 ?_ ?_ <;> [(unfold s1; clear s1); (intro hs1; clear_value s1; revert hs1; revert s1; intro t1 ht1)])
    | (extract_lets +onlyGivenNames x1; clear_value x1; revert x1; intro y1)
    | (extract_lets +onlyGivenNames s1; refine good_cut (n := n) (c := c) (q := q) s1 ?_ ?_ <;> [(unfold s1; clear s1); (intro hs1; refine good_ite ?_ ?_ <;> (clear_value s1; revert hs1; revert s1; intro t1 ht1))])
    | with_reducible apply btnStatus_good
    | with_reducible apply pulse_good
    | with_reducible apply addFldSat_good
    | with_reducible apply bump_good
    | fail_if_no_progress (with_reducible refine good_mk ?_ rfl rfl rfl rfl rfl rfl rfl rfl rfl)
    | with_reducible apply good_ite
    | (with_reducible apply good_fst; with_reducible assumption)
    | (split)
    | (refine good_ite ?_ ?_)
    | (dsimp only)

theorem setTrk_good {n : Nat} {c : Option Nat} {q : List Instr} {s : State} {key : Nat} {e : TrkEntry} (h : Good n c q s) :
    Good n c q (State.setTrk s key e) := by
  unfold State.setTrk
  repeat' first
    | with_reducible assumption
    | (intro)
    | (extract_lets +onlyGivenNames s1; have hs1 : Good n c q s1 := by with_reducible assumption
       clear hs1; unfold s1; clear s1)
    | (extract_lets +onlyGivenNames s1; refine good_cut (n := n) (c := c) (q := q) s1 ?_ ?_ <;> [(unfold s1; clear s1); (intro hs1; clear_value s1; revert hs1; revert s1; intro t1 ht1)])
    | (extract_lets +onlyGivenNames x1; clear_value x1; revert x1; intro y1)
    | (extract_lets +onlyGivenNames s1; refine good_cut (n := n) (c := c) (q := q) s1 ?_ ?_ <;> [(unfold s1; clear s1); (intro hs1; refine good_ite ?_ ?_ <;> (clear_value s1; revert hs1; revert s1; intro t1 ht1))])
    | fail_if_no_progress (with_reducible refine good_mk ?_ rfl rfl rfl rfl rfl rfl rfl rfl rfl)
    | (dsimp only)

theorem freeTrk_good {n : Nat} {c : Option Nat} {q : List Instr} {s : State} {key : Nat} (h : Good n c q s) :
    Good n c q (State.freeTrk s key) := by
  unfold State.freeTrk
  repeat' first
    | with_reducible assumption
    | (intro)
    | (extract_lets +onlyGivenNames s1; have hs1 : Good n c q s1 := by with_reducible assumption
       clear hs1; unfold s1; clear s1)
    | (extract_lets +onlyGivenNames s1; refine good_cut (n := n) (c := c) (q := q) s1 ?_ ?_ <;> [(unfold s1; clear s1); (intro hs1; clear_value s1; revert hs1; revert s1; intro t1 ht1)])
    | (extract_lets +onlyGivenNames x1; clear_value x1; revert x1; intro y1)
    | (extract_lets +onlyGivenNames s1; refine good_cut (n := n) (c := c) (q := q) s1 ?_ ?_ <;> [(unfold s1; clear s1); (intro hs1; refine good_ite ?_ ?_ <;> (clear_value s1; revert hs1; revert s1; intro t1 ht1))])
    | fail_if_no_progress (with_reducible refine good_mk ?_ rfl rfl rfl rfl rfl rfl rfl rfl rfl)
    | (dsimp only)

theorem trackCorrection_good {n : Nat} {c : Option Nat} {q : List Instr} {s : State} {space : Nat} {w : Nat} {bytes : Nat} (h : Good n c q s) :
    Good n c q (State.trackCorrection s space w bytes) := by
  unfold State.trackCorrection
  repeat' first
    | with_reducible assumption
    | (intro)
    | (extract_lets +onlyGivenNames s1; have hs1 : Good n c q s1 := by with_reducible assumption
       clear hs1; unfold s1; clear s1)
    | (extract_lets +onlyGivenNames s1; refine good_cut (n := n) (c := c) (q := q) s1 ?_ ?_ <;> [(unfold s1; clear s1); (intro hs1; clear_value s1; revert hs1; revert s1; intro t1 ht1)])
    | (extract_lets +onlyGivenNames x1; clear_value x1; revert x1; intro y1)
    | (extract_lets +onlyGivenNames s1; refine good_cut (n := n) (c := c) (q := q) s1 ?_ ?_ <;> [(unfold s1; clear s1); (intro hs1; refine good_ite ?_ ?_ <;> (clear_value s1; revert hs1; revert s1; intro t1 ht1))])
    | with_reducible apply stage_good
    | with_reducible apply setTrk_good
    | with_reducible apply bump_good
    | with_reducible apply pulse_good
    | fail_if_no_progress (with_reducible refine good_mk ?_ rfl rfl rfl rfl rfl rfl rfl rfl rfl)
    | with_reducible apply good_ite
    | (with_reducible apply good_fst; with_reducible assumption)
    | (split)
    | (refine good_ite ?_ ?_)
    | (dsimp only)

theorem readStored_good {n : Nat} {c : Option Nat} {q : List Instr} {s : State} {space : Nat} {w : Nat} (h : Good n c q s) :
    Good n c q (State.readStored s space w) := by
  unfold State.readStored
  repeat' first
    | with_reducible assumption
    | (intro)
    | (extract_lets +onlyGivenNames s1; have hs1 : Good n c q s1 := by with_reducible assumption
       clear hs1; unfold s1; clear s1)
    | (extract_lets +onlyGivenNames s1; refine good_cut (n := n) (c := c) (q := q) s1 ?_ ?_ <;> [(unfold s1; clear s1); (intro hs1; clear_value s1; revert hs1; revert s1; intro t1 ht1)])
    | (extract_lets +onlyGivenNames x1; clear_value x1; revert x1; intro y1)
    | (extract_lets +onlyGivenNames s1; refine good_cut (n := n) (c := c) (q := q) s1 ?_ ?_ <;> [(unfold s1; clear s1); (intro hs1; refine good_ite ?_ ?_ <;> (clear_value s1; revert hs1; revert s1; intro t1 ht1))])
    | with_reducible apply bump_good
    | with_reducible apply trackCorrection_good
    | with_reducible apply setWordErr_good
    | with_reducible apply bittern_good
    | with_reducible apply bumpBy_good
    | fail_if_no_progress (with_reducible refine good_mk ?_ rfl rfl rfl rfl rfl rfl rfl rfl rfl)
    | with_reducible apply good_foldl
    | with_reducible apply good_foldl_fst
    | with_reducible apply good_ite
    | (with_reducible apply good_fst; with_reducible assumption)
    | (split)
    | (refine good_ite ?_ ?_)
    | (dsimp only)

theorem consumePoison_good {n : Nat} {c : Option Nat} {q : List Instr} {s : State} {space : Nat} {w : Nat} {consumer : Nat} (h : Good n c q s) :
    Good n c q (State.consumePoison s space w consumer) := by
  unfold State.consumePoison
  repeat' first
    | with_reducible assumption
    | (intro)
    | with_reducible apply bittern_good
    | with_reducible apply bump_good
    | with_reducible apply pulse_good
    | (dsimp only)

theorem useHub_good {n : Nat} {c : Option Nat} {q : List Instr} {s : State} {kind : Nat} {i : Nat} (h : Good n c q s) :
    Good n c q (State.useHub s kind i) := by
  unfold State.useHub
  repeat' first
    | with_reducible assumption
    | (intro)
    | (extract_lets +onlyGivenNames s1; have hs1 : Good n c q s1 := by with_reducible assumption
       clear hs1; unfold s1; clear s1)
    | (extract_lets +onlyGivenNames s1; refine good_cut (n := n) (c := c) (q := q) s1 ?_ ?_ <;> [(unfold s1; clear s1); (intro hs1; clear_value s1; revert hs1; revert s1; intro t1 ht1)])
    | (extract_lets +onlyGivenNames x1; clear_value x1; revert x1; intro y1)
    | (extract_lets +onlyGivenNames s1; refine good_cut (n := n) (c := c) (q := q) s1 ?_ ?_ <;> [(unfold s1; clear s1); (intro hs1; refine good_ite ?_ ?_ <;> (clear_value s1; revert hs1; revert s1; intro t1 ht1))])
    | with_reducible apply readStored_good
    | with_reducible apply consumePoison_good
    | with_reducible apply fenceHub_good
    | with_reducible apply good_ite
    | (split)
    | (refine good_ite ?_ ?_)
    | (dsimp only)

theorem memRead_good {n : Nat} {c : Option Nat} {q : List Instr} {s : State} {space : Nat} {w : Nat} (h : Good n c q s) :
    Good n c q (State.memRead s space w) := by
  unfold State.memRead
  repeat' first
    | with_reducible assumption
    | (intro)
    | with_reducible apply useHub_good
    | with_reducible apply readStored_good
    | with_reducible apply good_ite
    | (split)
    | (refine good_ite ?_ ?_)
    | (dsimp only)

theorem useWord_good {n : Nat} {c : Option Nat} {q : List Instr} {s : State} {space : Nat} {w : Nat} {mask : Nat} {consumer : Nat} (h : Good n c q s) :
    Good n c q (State.useWord s space w mask consumer) := by
  unfold State.useWord
  repeat' first
    | with_reducible assumption
    | (intro)
    | (extract_lets +onlyGivenNames s1; have hs1 : Good n c q s1 := by with_reducible assumption
       clear hs1; unfold s1; clear s1)
    | (extract_lets +onlyGivenNames s1; refine good_cut (n := n) (c := c) (q := q) s1 ?_ ?_ <;> [(unfold s1; clear s1); (intro hs1; clear_value s1; revert hs1; revert s1; intro t1 ht1)])
    | (extract_lets +onlyGivenNames x1; clear_value x1; revert x1; intro y1)
    | (extract_lets +onlyGivenNames s1; refine good_cut (n := n) (c := c) (q := q) s1 ?_ ?_ <;> [(unfold s1; clear s1); (intro hs1; refine good_ite ?_ ?_ <;> (clear_value s1; revert hs1; revert s1; intro t1 ht1))])
    | with_reducible apply memRead_good
    | with_reducible apply consumePoison_good
    | with_reducible apply good_ite
    | (split)
    | (refine good_ite ?_ ?_)
    | (dsimp only)

theorem lpRead_good {n : Nat} {c : Option Nat} {q : List Instr} {s : State} {w : Nat} (h : Good n c q s) :
    Good n c q (State.lpRead s w) := by
  unfold State.lpRead
  repeat' first
    | with_reducible assumption
    | (intro)
    | with_reducible apply useHub_good
    | with_reducible apply memRead_good
    | (dsimp only)

theorem useDie_good {n : Nat} {c : Option Nat} {q : List Instr} {s : State} {p : Port} {kind : Nat} {i : Nat} {consumer : Nat} (h : Good n c q s) :
    Good n c q (State.useDie s p kind i consumer) := by
  unfold State.useDie
  repeat' first
    | with_reducible assumption
    | (intro)
    | with_reducible apply useWord_good
    | (dsimp only)

theorem useWords_good {n : Nat} {c : Option Nat} {q : List Instr} {s : State} {space : Nat} {w : Nat} {n' : Nat} {mask : Nat} {consumer : Nat} (h : Good n c q s) :
    Good n c q (State.useWords s space w n' mask consumer) := by
  unfold State.useWords
  repeat' first
    | with_reducible assumption
    | (intro)
    | with_reducible apply useHub_good
    | with_reducible apply useWord_good
    | with_reducible apply good_foldl
    | with_reducible apply good_foldl_fst
    | with_reducible apply good_ite
    | (split)
    | (refine good_ite ?_ ?_)
    | (dsimp only)

theorem setSump_good {n : Nat} {c : Option Nat} {q : List Instr} {s : State} {w : Nat} {mask : Nat} (h : Good n c q s) :
    Good n c q (State.setSump s w mask) := by
  unfold State.setSump
  repeat' first
    | with_reducible assumption
    | (intro)
    | (extract_lets +onlyGivenNames s1; have hs1 : Good n c q s1 := by with_reducible assumption
       clear hs1; unfold s1; clear s1)
    | (extract_lets +onlyGivenNames s1; refine good_cut (n := n) (c := c) (q := q) s1 ?_ ?_ <;> [(unfold s1; clear s1); (intro hs1; clear_value s1; revert hs1; revert s1; intro t1 ht1)])
    | (extract_lets +onlyGivenNames x1; clear_value x1; revert x1; intro y1)
    | (extract_lets +onlyGivenNames s1; refine good_cut (n := n) (c := c) (q := q) s1 ?_ ?_ <;> [(unfold s1; clear s1); (intro hs1; refine good_ite ?_ ?_ <;> (clear_value s1; revert hs1; revert s1; intro t1 ht1))])
    | with_reducible apply setFld_good
    | fail_if_no_progress (with_reducible refine good_mk ?_ rfl rfl rfl rfl rfl rfl rfl rfl rfl)
    | (dsimp only)

theorem touch_good {n : Nat} {c : Option Nat} {q : List Instr} {s : State} {w : Nat} (h : Good n c q s) :
    Good n c q (State.touch s w) := by
  unfold State.touch
  repeat' first
    | with_reducible assumption
    | (intro)
    | (extract_lets +onlyGivenNames s1; have hs1 : Good n c q s1 := by with_reducible assumption
       clear hs1; unfold s1; clear s1)
    | (extract_lets +onlyGivenNames s1; refine good_cut (n := n) (c := c) (q := q) s1 ?_ ?_ <;> [(unfold s1; clear s1); (intro hs1; clear_value s1; revert hs1; revert s1; intro t1 ht1)])
    | (extract_lets +onlyGivenNames x1; clear_value x1; revert x1; intro y1)
    | (extract_lets +onlyGivenNames s1; refine good_cut (n := n) (c := c) (q := q) s1 ?_ ?_ <;> [(unfold s1; clear s1); (intro hs1; refine good_ite ?_ ?_ <;> (clear_value s1; revert hs1; revert s1; intro t1 ht1))])
    | with_reducible apply useHub_good
    | with_reducible apply setFld_good
    | with_reducible apply bump_good
    | fail_if_no_progress (with_reducible refine good_mk ?_ rfl rfl rfl rfl rfl rfl rfl rfl rfl)
    | with_reducible apply good_ite
    | (with_reducible apply good_fst; with_reducible assumption)
    | (split)
    | (refine good_ite ?_ ?_)
    | (dsimp only)

theorem memWrite_good {n : Nat} {c : Option Nat} {q : List Instr} {s : State} {space : Nat} {w : Nat} {mask : Nat} (h : Good n c q s) :
    Good n c q (State.memWrite s space w mask) := by
  unfold State.memWrite
  repeat' first
    | with_reducible assumption
    | (intro)
    | (extract_lets +onlyGivenNames f1; refine good_cutf (n := n) (c := c) (q := q) f1 ?_ ?_ <;> [(unfold f1; clear f1); (intro hf1; clear_value f1)])
    | (extract_lets +onlyGivenNames s1; have hs1 : Good n c q s1 := by with_reducible assumption
       clear hs1; unfold s1; clear s1)
    | (extract_lets +onlyGivenNames s1; refine good_cut (n := n) (c := c) (q := q) s1 ?_ ?_ <;> [(unfold s1; clear s1); (intro hs1; clear_value s1; revert hs1; revert s1; intro t1 ht1)])
    | (extract_lets +onlyGivenNames x1; clear_value x1; revert x1; intro y1)
    | (extract_lets +onlyGivenNames s1; refine good_cut (n := n) (c := c) (q := q) s1 ?_ ?_ <;> [(unfold s1; clear s1); (intro hs1; refine good_ite ?_ ?_ <;> (clear_value s1; revert hs1; revert s1; intro t1 ht1))])
    | with_reducible apply hf1
    | with_reducible apply stage_good
    | with_reducible apply freeTrk_good
    | with_reducible apply bump_good
    | with_reducible apply setWordErr_good
    | with_reducible apply touch_good
    | with_reducible apply setSump_good
    | with_reducible apply bittern_good
    | with_reducible apply pulse_good
    | with_reducible apply trackCorrection_good
    | fail_if_no_progress (with_reducible refine good_mk ?_ rfl rfl rfl rfl rfl rfl rfl rfl rfl)
    | with_reducible apply good_ite
    | (with_reducible apply good_fst; with_reducible assumption)
    | (split)
    | (refine good_ite ?_ ?_)
    | (dsimp only)

theorem memWriteWords_good {n : Nat} {c : Option Nat} {q : List Instr} {s : State} {space : Nat} {w : Nat} {n' : Nat} (h : Good n c q s) :
    Good n c q (State.memWriteWords s space w n') := by
  unfold State.memWriteWords
  repeat' first
    | with_reducible assumption
    | (intro)
    | with_reducible apply memWrite_good
    | with_reducible apply good_foldl
    | with_reducible apply good_foldl_fst
    | (dsimp only)

theorem execDemandScrub_good {n : Nat} {c : Option Nat} {q : List Instr} {space : Nat} {w : Nat} {concurrent : Nat} {s : State} (h : Good n c q s) :
    GoodOut n c q (execDemandScrub space w concurrent s) := by
  unfold execDemandScrub
  repeat' first
    | with_reducible assumption
    | (intro)
    | (extract_lets +onlyGivenNames s1; have hs1 : Good n c q s1 := by with_reducible assumption
       clear hs1; unfold s1; clear s1)
    | (extract_lets +onlyGivenNames s1; refine good_cut (n := n) (c := c) (q := q) s1 ?_ ?_ <;> [(unfold s1; clear s1); (intro hs1; clear_value s1; revert hs1; revert s1; intro t1 ht1)])
    | (extract_lets +onlyGivenNames x1; clear_value x1; revert x1; intro y1)
    | (extract_lets +onlyGivenNames s1; refine good_cut (n := n) (c := c) (q := q) s1 ?_ ?_ <;> [(unfold s1; clear s1); (intro hs1; refine good_ite ?_ ?_ <;> (clear_value s1; revert hs1; revert s1; intro t1 ht1))])
    | with_reducible apply good_next
    | with_reducible apply stage_good
    | with_reducible apply memRead_good
    | with_reducible apply bump_good
    | with_reducible apply setWordErr_good
    | with_reducible apply setTrk_good
    | fail_if_no_progress (with_reducible refine good_mk ?_ rfl rfl rfl rfl rfl rfl rfl rfl rfl)
    | with_reducible apply good_ite
    | (with_reducible apply good_fst; with_reducible assumption)
    | (split)
    | (refine good_ite ?_ ?_)
    | (dsimp only)

theorem hardFault_good {n : Nat} {c : Option Nat} {q : List Instr} {s : State} {space : Nat} {w : Nat} (h : Good n c q s) :
    Good n c q (State.hardFault s space w) := by
  unfold State.hardFault
  repeat' first
    | with_reducible assumption
    | (intro)
    | (extract_lets +onlyGivenNames s1; have hs1 : Good n c q s1 := by with_reducible assumption
       clear hs1; unfold s1; clear s1)
    | (extract_lets +onlyGivenNames s1; refine good_cut (n := n) (c := c) (q := q) s1 ?_ ?_ <;> [(unfold s1; clear s1); (intro hs1; clear_value s1; revert hs1; revert s1; intro t1 ht1)])
    | (extract_lets +onlyGivenNames x1; clear_value x1; revert x1; intro y1)
    | (extract_lets +onlyGivenNames s1; refine good_cut (n := n) (c := c) (q := q) s1 ?_ ?_ <;> [(unfold s1; clear s1); (intro hs1; refine good_ite ?_ ?_ <;> (clear_value s1; revert hs1; revert s1; intro t1 ht1))])
    | with_reducible apply useHub_good
    | with_reducible apply setFld_good
    | with_reducible apply addFldSat_good
    | with_reducible apply setWordErr_good
    | with_reducible apply appendDelta_good
    | with_reducible apply bittern_good
    | with_reducible apply pulse_good
    | with_reducible apply bump_good
    | with_reducible apply freeTrk_good
    | fail_if_no_progress (with_reducible refine good_mk ?_ rfl rfl rfl rfl rfl rfl rfl rfl rfl)
    | with_reducible apply good_ite
    | (split)
    | (refine good_ite ?_ ?_)
    | (dsimp only)

theorem execHardFault_good {n : Nat} {c : Option Nat} {q : List Instr} {space : Nat} {w : Nat} {s : State} (h : Good n c q s) :
    GoodOut n c q (execHardFault space w s) := by
  unfold execHardFault
  repeat' first
    | with_reducible assumption
    | (intro)
    | (extract_lets +onlyGivenNames s1; have hs1 : Good n c q s1 := by with_reducible assumption
       clear hs1; unfold s1; clear s1)
    | (extract_lets +onlyGivenNames s1; refine good_cut (n := n) (c := c) (q := q) s1 ?_ ?_ <;> [(unfold s1; clear s1); (intro hs1; clear_value s1; revert hs1; revert s1; intro t1 ht1)])
    | (extract_lets +onlyGivenNames x1; clear_value x1; revert x1; intro y1)
    | (extract_lets +onlyGivenNames s1; refine good_cut (n := n) (c := c) (q := q) s1 ?_ ?_ <;> [(unfold s1; clear s1); (intro hs1; refine good_ite ?_ ?_ <;> (clear_value s1; revert hs1; revert s1; intro t1 ht1))])
    | with_reducible apply good_next
    | with_reducible apply stage_good
    | with_reducible apply hardFault_good
    | with_reducible apply good_ite
    | (split)
    | (refine good_ite ?_ ?_)
    | (dsimp only)

theorem execTrackerWindowExpired_good {n : Nat} {c : Option Nat} {q : List Instr} {space : Nat} {w : Nat} {s : State} (h : Good n c q s) :
    GoodOut n c q (execTrackerWindowExpired space w s) := by
  unfold execTrackerWindowExpired
  repeat' first
    | with_reducible assumption
    | (intro)
    | (extract_lets +onlyGivenNames s1; have hs1 : Good n c q s1 := by with_reducible assumption
       clear hs1; unfold s1; clear s1)
    | (extract_lets +onlyGivenNames s1; refine good_cut (n := n) (c := c) (q := q) s1 ?_ ?_ <;> [(unfold s1; clear s1); (intro hs1; clear_value s1; revert hs1; revert s1; intro t1 ht1)])
    | (extract_lets +onlyGivenNames x1; clear_value x1; revert x1; intro y1)
    | (extract_lets +onlyGivenNames s1; refine good_cut (n := n) (c := c) (q := q) s1 ?_ ?_ <;> [(unfold s1; clear s1); (intro hs1; refine good_ite ?_ ?_ <;> (clear_value s1; revert hs1; revert s1; intro t1 ht1))])
    | with_reducible apply good_next
    | with_reducible apply stage_good
    | with_reducible apply freeTrk_good
    | with_reducible apply good_ite
    | (split)
    | (refine good_ite ?_ ?_)
    | (dsimp only)

theorem execWatchExpired_good {n : Nat} {c : Option Nat} {q : List Instr} {space : Nat} {w : Nat} {s : State} (h : Good n c q s) :
    GoodOut n c q (execWatchExpired space w s) := by
  unfold execWatchExpired
  repeat' first
    | with_reducible assumption
    | (intro)
    | (extract_lets +onlyGivenNames s1; have hs1 : Good n c q s1 := by with_reducible assumption
       clear hs1; unfold s1; clear s1)
    | (extract_lets +onlyGivenNames s1; refine good_cut (n := n) (c := c) (q := q) s1 ?_ ?_ <;> [(unfold s1; clear s1); (intro hs1; clear_value s1; revert hs1; revert s1; intro t1 ht1)])
    | (extract_lets +onlyGivenNames x1; clear_value x1; revert x1; intro y1)
    | (extract_lets +onlyGivenNames s1; refine good_cut (n := n) (c := c) (q := q) s1 ?_ ?_ <;> [(unfold s1; clear s1); (intro hs1; refine good_ite ?_ ?_ <;> (clear_value s1; revert hs1; revert s1; intro t1 ht1))])
    | with_reducible apply good_next
    | with_reducible apply stage_good
    | with_reducible apply freeTrk_good
    | with_reducible apply good_ite
    | (split)
    | (refine good_ite ?_ ?_)
    | (dsimp only)

theorem execMemInject_good {n : Nat} {c : Option Nat} {q : List Instr} {src : Nat} {value : Nat} {s : State} (h : Good n c q s) :
    GoodOut n c q (execMemInject src value s) := by
  unfold execMemInject
  repeat' first
    | with_reducible assumption
    | (intro)
    | (extract_lets +onlyGivenNames s1; have hs1 : Good n c q s1 := by with_reducible assumption
       clear hs1; unfold s1; clear s1)
    | (extract_lets +onlyGivenNames s1; refine good_cut (n := n) (c := c) (q := q) s1 ?_ ?_ <;> [(unfold s1; clear s1); (intro hs1; clear_value s1; revert hs1; revert s1; intro t1 ht1)])
    | (extract_lets +onlyGivenNames x1; clear_value x1; revert x1; intro y1)
    | (extract_lets +onlyGivenNames s1; refine good_cut (n := n) (c := c) (q := q) s1 ?_ ?_ <;> [(unfold s1; clear s1); (intro hs1; refine good_ite ?_ ?_ <;> (clear_value s1; revert hs1; revert s1; intro t1 ht1))])
    | with_reducible apply good_next
    | with_reducible apply accessed_good
    | with_reducible apply setWordErr_good
    | fail_if_no_progress (with_reducible refine good_mk ?_ rfl rfl rfl rfl rfl rfl rfl rfl rfl)
    | with_reducible apply good_ite
    | (with_reducible apply good_fst; with_reducible assumption)
    | (split)
    | (refine good_ite ?_ ?_)
    | (dsimp only)

theorem execMemScrub_good {n : Nat} {c : Option Nat} {q : List Instr} {iss : Issue} {op0 : Nat} {op1 : Nat} {op2 : Nat} {op3 : Nat} {s : State} (h : Good n c q s) :
    GoodOut n c q (execMemScrub iss op0 op1 op2 op3 s) := by
  unfold execMemScrub
  repeat' first
    | with_reducible assumption
    | (intro)
    | (extract_lets +onlyGivenNames s1; have hs1 : Good n c q s1 := by with_reducible assumption
       clear hs1; unfold s1; clear s1)
    | (extract_lets +onlyGivenNames s1; refine good_cut (n := n) (c := c) (q := q) s1 ?_ ?_ <;> [(unfold s1; clear s1); (intro hs1; clear_value s1; revert hs1; revert s1; intro t1 ht1)])
    | (extract_lets +onlyGivenNames x1; clear_value x1; revert x1; intro y1)
    | (extract_lets +onlyGivenNames s1; refine good_cut (n := n) (c := c) (q := q) s1 ?_ ?_ <;> [(unfold s1; clear s1); (intro hs1; refine good_ite ?_ ?_ <;> (clear_value s1; revert hs1; revert s1; intro t1 ht1))])
    | with_reducible apply good_next
    | with_reducible apply pf0Cmd_good
    | with_reducible apply refuse_good
    | with_reducible apply setFld_good
    | fail_if_no_progress (with_reducible refine good_mk ?_ rfl rfl rfl rfl rfl rfl rfl rfl rfl)
    | with_reducible apply good_ite
    | (with_reducible apply good_fst; with_reducible assumption)
    | (split)
    | (refine good_ite ?_ ?_)
    | (dsimp only)

theorem scrubWord_good {n : Nat} {c : Option Nat} {q : List Instr} {space : Nat} {acc : State × Nat × Nat × Nat} {w : Nat} (h : Good n c q acc.1) :
    Good n c q (scrubWord space acc w).1 := by
  unfold scrubWord
  repeat' first
    | with_reducible assumption
    | (intro)
    | (extract_lets +onlyGivenNames s1; have hs1 : Good n c q s1 := by with_reducible assumption
       clear hs1; unfold s1; clear s1)
    | (extract_lets +onlyGivenNames s1; refine good_cut (n := n) (c := c) (q := q) s1 ?_ ?_ <;> [(unfold s1; clear s1); (intro hs1; clear_value s1; revert hs1; revert s1; intro t1 ht1)])
    | (extract_lets +onlyGivenNames x1; clear_value x1; revert x1; intro y1)
    | (extract_lets +onlyGivenNames s1; refine good_cut (n := n) (c := c) (q := q) s1 ?_ ?_ <;> [(unfold s1; clear s1); (intro hs1; refine good_ite ?_ ?_ <;> (clear_value s1; revert hs1; revert s1; intro t1 ht1))])
    | with_reducible apply memRead_good
    | with_reducible apply stage_good
    | with_reducible apply hardFault_good
    | with_reducible apply setWordErr_good
    | with_reducible apply good_ite
    | (with_reducible apply good_fst; with_reducible assumption)
    | (split)
    | (refine good_ite ?_ ?_)
    | (dsimp only)

theorem execMemScrubDone_good {n : Nat} {c : Option Nat} {q : List Instr} {space : Nat} {checked : Nat} {narrowed : Nat} {s : State} (h : Good n c q s) :
    GoodOut n c q (execMemScrubDone space checked narrowed s) := by
  unfold execMemScrubDone
  repeat' first
    | with_reducible assumption
    | (intro)
    | (extract_lets +onlyGivenNames s1; have hs1 : Good n c q s1 := by with_reducible assumption
       clear hs1; unfold s1; clear s1)
    | (extract_lets +onlyGivenNames s1; refine good_cut (n := n) (c := c) (q := q) s1 ?_ ?_ <;> [(unfold s1; clear s1); (intro hs1; clear_value s1; revert hs1; revert s1; intro t1 ht1)])
    | (extract_lets +onlyGivenNames x1; clear_value x1; revert x1; intro y1)
    | (extract_lets +onlyGivenNames s1; refine good_cut (n := n) (c := c) (q := q) s1 ?_ ?_ <;> [(unfold s1; clear s1); (intro hs1; refine good_ite ?_ ?_ <;> (clear_value s1; revert hs1; revert s1; intro t1 ht1))])
    | with_reducible apply good_next
    | with_reducible apply scrubWord_good
    | with_reducible apply bumpBy_good
    | with_reducible apply setFld_good
    | with_reducible apply toHost_good
    | with_reducible apply succeed_good
    | fail_if_no_progress (with_reducible refine good_mk ?_ rfl rfl rfl rfl rfl rfl rfl rfl rfl)
    | with_reducible apply good_foldl
    | with_reducible apply good_foldl_fst
    | with_reducible apply good_ite
    | (with_reducible apply good_fst; with_reducible assumption)
    | (split)
    | (refine good_ite ?_ ?_)
    | (dsimp only)

theorem execMemFill_good {n : Nat} {c : Option Nat} {q : List Instr} {iss : Issue} {op0 : Nat} {op1 : Nat} {op2 : Nat} {op3 : Nat} {op4 : Nat} {op5 : Nat} {s : State} (h : Good n c q s) :
    GoodOut n c q (execMemFill iss op0 op1 op2 op3 op4 op5 s) := by
  unfold execMemFill
  repeat' first
    | with_reducible assumption
    | (intro)
    | (extract_lets +onlyGivenNames s1; have hs1 : Good n c q s1 := by with_reducible assumption
       clear hs1; unfold s1; clear s1)
    | (extract_lets +onlyGivenNames s1; refine good_cut (n := n) (c := c) (q := q) s1 ?_ ?_ <;> [(unfold s1; clear s1); (intro hs1; clear_value s1; revert hs1; revert s1; intro t1 ht1)])
    | (extract_lets +onlyGivenNames x1; clear_value x1; revert x1; intro y1)
    | (extract_lets +onlyGivenNames s1; refine good_cut (n := n) (c := c) (q := q) s1 ?_ ?_ <;> [(unfold s1; clear s1); (intro hs1; refine good_ite ?_ ?_ <;> (clear_value s1; revert hs1; revert s1; intro t1 ht1))])
    | with_reducible apply good_next
    | with_reducible apply pf0Cmd_good
    | with_reducible apply refuse_good
    | fail_if_no_progress (with_reducible refine good_mk ?_ rfl rfl rfl rfl rfl rfl rfl rfl rfl)
    | with_reducible apply good_ite
    | (with_reducible apply good_fst; with_reducible assumption)
    | (split)
    | (refine good_ite ?_ ?_)
    | (dsimp only)

theorem applyFill_good {n : Nat} {c : Option Nat} {q : List Instr} {s : State} {f : Fill} (h : Good n c q s) :
    Good n c q (State.applyFill s f) := by
  unfold State.applyFill
  repeat' first
    | with_reducible assumption
    | (intro)
    | (extract_lets +onlyGivenNames s1; have hs1 : Good n c q s1 := by with_reducible assumption
       clear hs1; unfold s1; clear s1)
    | (extract_lets +onlyGivenNames s1; refine good_cut (n := n) (c := c) (q := q) s1 ?_ ?_ <;> [(unfold s1; clear s1); (intro hs1; clear_value s1; revert hs1; revert s1; intro t1 ht1)])
    | (extract_lets +onlyGivenNames x1; clear_value x1; revert x1; intro y1)
    | (extract_lets +onlyGivenNames s1; refine good_cut (n := n) (c := c) (q := q) s1 ?_ ?_ <;> [(unfold s1; clear s1); (intro hs1; refine good_ite ?_ ?_ <;> (clear_value s1; revert hs1; revert s1; intro t1 ht1))])
    | with_reducible apply stage_good
    | with_reducible apply freeTrk_good
    | with_reducible apply bump_good
    | with_reducible apply touch_good
    | with_reducible apply setFld_good
    | fail_if_no_progress (with_reducible refine good_mk ?_ rfl rfl rfl rfl rfl rfl rfl rfl rfl)
    | with_reducible apply good_foldl
    | with_reducible apply good_foldl_fst
    | (with_reducible apply good_fst; with_reducible assumption)
    | (dsimp only)

theorem lpCopy_good {n : Nat} {c : Option Nat} {q : List Instr} {s : State} {w : Nat} {n' : Nat} (h : Good n c q s) :
    Good n c q (State.lpCopy s w n') := by
  unfold State.lpCopy
  repeat' first
    | with_reducible assumption
    | (intro)
    | with_reducible apply lpRead_good
    | with_reducible apply good_foldl
    | with_reducible apply good_foldl_fst
    | (dsimp only)

theorem execMemRemapRead_good {n : Nat} {c : Option Nat} {q : List Instr} {iss : Issue} {op0 : Nat} {op1 : Nat} {length : Nat} {s : State} (h : Good n c q s) :
    GoodOut n c q (execMemRemapRead iss op0 op1 length s) := by
  unfold execMemRemapRead
  repeat' first
    | with_reducible assumption
    | (intro)
    | (extract_lets +onlyGivenNames s1; have hs1 : Good n c q s1 := by with_reducible assumption
       clear hs1; unfold s1; clear s1)
    | (extract_lets +onlyGivenNames s1; refine good_cut (n := n) (c := c) (q := q) s1 ?_ ?_ <;> [(unfold s1; clear s1); (intro hs1; clear_value s1; revert hs1; revert s1; intro t1 ht1)])
    | (extract_lets +onlyGivenNames g1; have hg1 : Nat → State := g1; clear hg1; unfold g1; clear g1)
    | (extract_lets +onlyGivenNames x1; clear_value x1; revert x1; intro y1)
    | (extract_lets +onlyGivenNames s1; refine good_cut (n := n) (c := c) (q := q) s1 ?_ ?_ <;> [(unfold s1; clear s1); (intro hs1; refine good_ite ?_ ?_ <;> (clear_value s1; revert hs1; revert s1; intro t1 ht1))])
    | with_reducible apply good_next
    | with_reducible apply pf0Cmd_good
    | with_reducible apply refuse_good
    | with_reducible apply memRead_good
    | with_reducible apply toHost_good
    | with_reducible apply complete_good
    | fail_if_no_progress (with_reducible refine good_mk ?_ rfl rfl rfl rfl rfl rfl rfl rfl rfl)
    | with_reducible apply good_foldl
    | with_reducible apply good_foldl_fst
    | with_reducible apply good_ite
    | (with_reducible apply good_fst; with_reducible assumption)
    | (split)
    | (refine good_ite ?_ ?_)
    | (dsimp only)

theorem execBitternRead_good {n : Nat} {c : Option Nat} {q : List Instr} {iss : Issue} {op0 : Nat} {length : Nat} {s : State} (h : Good n c q s) :
    GoodOut n c q (execBitternRead iss op0 length s) := by
  unfold execBitternRead
  repeat' first
    | with_reducible assumption
    | (intro)
    | (extract_lets +onlyGivenNames s1; have hs1 : Good n c q s1 := by with_reducible assumption
       clear hs1; unfold s1; clear s1)
    | (extract_lets +onlyGivenNames s1; refine good_cut (n := n) (c := c) (q := q) s1 ?_ ?_ <;> [(unfold s1; clear s1); (intro hs1; clear_value s1; revert hs1; revert s1; intro t1 ht1)])
    | (extract_lets +onlyGivenNames x1; clear_value x1; revert x1; intro y1)
    | (extract_lets +onlyGivenNames s1; refine good_cut (n := n) (c := c) (q := q) s1 ?_ ?_ <;> [(unfold s1; clear s1); (intro hs1; refine good_ite ?_ ?_ <;> (clear_value s1; revert hs1; revert s1; intro t1 ht1))])
    | with_reducible apply good_next
    | with_reducible apply pf0Cmd_good
    | with_reducible apply refuse_good
    | with_reducible apply bittern_good
    | with_reducible apply toHost_good
    | with_reducible apply btnStatus_good
    | with_reducible apply setFld_good
    | with_reducible apply succeed_good
    | fail_if_no_progress (with_reducible refine good_mk ?_ rfl rfl rfl rfl rfl rfl rfl rfl rfl)
    | with_reducible apply good_ite
    | (with_reducible apply good_fst; with_reducible assumption)
    | (split)
    | (refine good_ite ?_ ?_)
    | (dsimp only)

end Sys2Proof.Machine
end

