-- ==== Sys2Proof/Laws/GoodCapture.lean ====
section
/-!
SUPPORT. What the operations of Machine/Capture.lean keep.
-/
set_option linter.all false
set_option linter.unreachableTactic false
set_option linter.unusedTactic false
namespace Sys2Proof.Machine

theorem writePage_good {n : Nat} {c : Option Nat} {q : List Instr} {s : State} {x : CapPage} (h : Good n c q s) :
    Good n c q (State.writePage s x) := by
  unfold State.writePage
  repeat' first
    | with_reducible assumption
    | (intro)
    | (extract_lets +onlyGivenNames s1; have hs1 : Good n c q s1 := by with_reducible assumption
       clear hs1; unfold s1; clear s1)
    | (extract_lets +onlyGivenNames s1; refine good_cut (n := n) (c := c) (q := q) s1 ?_ ?_ <;> [(unfold s1; clear s1); (intro hs1; clear_value s1; revert hs1; revert s1; intro t1 ht1)])
    | (extract_lets +onlyGivenNames x1; clear_value x1; revert x1; intro y1)
    | (extract_lets +onlyGivenNames s1; refine good_cut (n := n) (c := c) (q := q) s1 ?_ ?_ <;> [(unfold s1; clear s1); (intro hs1; refine good_ite ?_ ?_ <;> (clear_value s1; revert hs1; revert s1; intro t1 ht1))])
    | with_reducible apply memWriteWords_good
    | with_reducible apply memWrite_good
    | fail_if_no_progress (with_reducible refine good_mk ?_ rfl rfl rfl rfl rfl rfl rfl rfl rfl)
    | with_reducible apply good_ite
    | (with_reducible apply good_fst; with_reducible assumption)
    | (split)
    | (refine good_ite ?_ ?_)
    | (dsimp only)

theorem writePages_good {n : Nat} {c : Option Nat} {q : List Instr} {s : State} {l : List CapPage} (h : Good n c q s) :
    Good n c q (State.writePages s l) := by
  unfold State.writePages
  repeat' first
    | with_reducible assumption
    | (intro)
    | with_reducible apply writePage_good
    | with_reducible apply good_foldl
    | with_reducible apply good_foldl_fst
    | with_reducible apply good_ite
    | (split)
    | (refine good_ite ?_ ?_)
    | (dsimp only)

theorem endCapture_good {n : Nat} {c : Option Nat} {q : List Instr} {s : State} {cause : Nat} (h : Good n c q s) :
    Good n c q (State.endCapture s cause) := by
  unfold State.endCapture
  repeat' first
    | with_reducible assumption
    | (intro)
    | (extract_lets +onlyGivenNames s1; have hs1 : Good n c q s1 := by with_reducible assumption
       clear hs1; unfold s1; clear s1)
    | (extract_lets +onlyGivenNames s1; refine good_cut (n := n) (c := c) (q := q) s1 ?_ ?_ <;> [(unfold s1; clear s1); (intro hs1; clear_value s1; revert hs1; revert s1; intro t1 ht1)])
    | (extract_lets +onlyGivenNames x1; clear_value x1; revert x1; intro y1)
    | (extract_lets +onlyGivenNames s1; refine good_cut (n := n) (c := c) (q := q) s1 ?_ ?_ <;> [(unfold s1; clear s1); (intro hs1; refine good_ite ?_ ?_ <;> (clear_value s1; revert hs1; revert s1; intro t1 ht1))])
    | with_reducible apply pulse_good
    | with_reducible apply bump_good
    | fail_if_no_progress (with_reducible refine good_mk ?_ rfl rfl rfl rfl rfl rfl rfl rfl rfl)
    | with_reducible apply good_ite
    | (with_reducible apply good_fst; with_reducible assumption)
    | (split)
    | (refine good_ite ?_ ?_)
    | (dsimp only)

theorem execCapArm_good {n : Nat} {c : Option Nat} {q : List Instr} {iss : Issue} {op0 : Nat} {op1 : Nat} {op3 : Nat} {s : State} (h : Good n c q s) :
    GoodOut n c q (execCapArm iss op0 op1 op3 s) := by
  unfold execCapArm
  repeat' first
    | with_reducible assumption
    | (intro)
    | (extract_lets +onlyGivenNames s1; have hs1 : Good n c q s1 := by with_reducible assumption
       clear hs1; unfold s1; clear s1)
    | (extract_lets +onlyGivenNames s1; refine good_cut (n := n) (c := c) (q := q) s1 ?_ ?_ <;> [(unfold s1; clear s1); (intro hs1; clear_value s1; revert hs1; revert s1; intro t1 ht1)])
    | (extract_lets +onlyGivenNames x1; clear_value x1; revert x1; intro y1)
    | (extract_lets +onlyGivenNames s1; refine good_cut (n := n) (c := c) (q := q) s1 ?_ ?_ <;> [(unfold s1; clear s1); (intro hs1; refine good_ite ?_ ?_ <;> (clear_value s1; revert hs1; revert s1; intro t1 ht1))])
    | with_reducible apply good_next
    | with_reducible apply pf0Cmd_good
    | with_reducible apply refuse_good
    | with_reducible apply touch_good
    | with_reducible apply bump_good
    | with_reducible apply succeed_good
    | fail_if_no_progress (with_reducible refine good_mk ?_ rfl rfl rfl rfl rfl rfl rfl rfl rfl)
    | with_reducible apply good_foldl
    | with_reducible apply good_foldl_fst
    | with_reducible apply good_ite
    | (with_reducible apply good_fst; with_reducible assumption)
    | (split)
    | (refine good_ite ?_ ?_)
    | (dsimp only)

theorem execCaptureTrigger_good {n : Nat} {c : Option Nat} {q : List Instr} {pages : List CapPage} {s : State} (h : Good n c q s) :
    GoodOut n c q (execCaptureTrigger pages s) := by
  unfold execCaptureTrigger
  repeat' first
    | with_reducible assumption
    | (intro)
    | (extract_lets +onlyGivenNames s1; have hs1 : Good n c q s1 := by with_reducible assumption
       clear hs1; unfold s1; clear s1)
    | (extract_lets +onlyGivenNames s1; refine good_cut (n := n) (c := c) (q := q) s1 ?_ ?_ <;> [(unfold s1; clear s1); (intro hs1; clear_value s1; revert hs1; revert s1; intro t1 ht1)])
    | (extract_lets +onlyGivenNames x1; clear_value x1; revert x1; intro y1)
    | (extract_lets +onlyGivenNames s1; refine good_cut (n := n) (c := c) (q := q) s1 ?_ ?_ <;> [(unfold s1; clear s1); (intro hs1; refine good_ite ?_ ?_ <;> (clear_value s1; revert hs1; revert s1; intro t1 ht1))])
    | with_reducible apply good_next
    | with_reducible apply writePages_good
    | with_reducible apply pulse_good
    | fail_if_no_progress (with_reducible refine good_mk ?_ rfl rfl rfl rfl rfl rfl rfl rfl rfl)
    | with_reducible apply good_ite
    | (with_reducible apply good_fst; with_reducible assumption)
    | (split)
    | (refine good_ite ?_ ?_)
    | (dsimp only)

theorem execCaptureEnd_good {n : Nat} {c : Option Nat} {q : List Instr} {cause : Nat} {pages : List CapPage} {s : State} (h : Good n c q s) :
    GoodOut n c q (execCaptureEnd cause pages s) := by
  unfold execCaptureEnd
  repeat' first
    | with_reducible assumption
    | (intro)
    | with_reducible apply good_next
    | with_reducible apply writePages_good
    | with_reducible apply endCapture_good
    | with_reducible apply good_ite
    | (split)
    | (refine good_ite ?_ ?_)
    | (dsimp only)

theorem execCapStop_good {n : Nat} {c : Option Nat} {q : List Instr} {iss : Issue} {pages : List CapPage} {s : State} (h : Good n c q s) :
    GoodOut n c q (execCapStop iss pages s) := by
  unfold execCapStop
  repeat' first
    | with_reducible assumption
    | (intro)
    | (extract_lets +onlyGivenNames s1; have hs1 : Good n c q s1 := by with_reducible assumption
       clear hs1; unfold s1; clear s1)
    | (extract_lets +onlyGivenNames s1; refine good_cut (n := n) (c := c) (q := q) s1 ?_ ?_ <;> [(unfold s1; clear s1); (intro hs1; clear_value s1; revert hs1; revert s1; intro t1 ht1)])
    | (extract_lets +onlyGivenNames x1; clear_value x1; revert x1; intro y1)
    | (extract_lets +onlyGivenNames s1; refine good_cut (n := n) (c := c) (q := q) s1 ?_ ?_ <;> [(unfold s1; clear s1); (intro hs1; refine good_ite ?_ ?_ <;> (clear_value s1; revert hs1; revert s1; intro t1 ht1))])
    | with_reducible apply good_next
    | with_reducible apply pf0Cmd_good
    | with_reducible apply refuse_good
    | with_reducible apply writePages_good
    | with_reducible apply endCapture_good
    | with_reducible apply succeed_good
    | with_reducible apply good_ite
    | (split)
    | (refine good_ite ?_ ?_)
    | (dsimp only)

theorem execCapRead_good {n : Nat} {c : Option Nat} {q : List Instr} {iss : Issue} {op1 : Nat} {op2 : Nat} {length : Nat} {s : State} (h : Good n c q s) :
    GoodOut n c q (execCapRead iss op1 op2 length s) := by
  unfold execCapRead
  repeat' first
    | with_reducible assumption
    | (intro)
    | (extract_lets +onlyGivenNames s1; have hs1 : Good n c q s1 := by with_reducible assumption
       clear hs1; unfold s1; clear s1)
    | (extract_lets +onlyGivenNames s1; refine good_cut (n := n) (c := c) (q := q) s1 ?_ ?_ <;> [(unfold s1; clear s1); (intro hs1; clear_value s1; revert hs1; revert s1; intro t1 ht1)])
    | (extract_lets +onlyGivenNames x1; clear_value x1; revert x1; intro y1)
    | (extract_lets +onlyGivenNames s1; refine good_cut (n := n) (c := c) (q := q) s1 ?_ ?_ <;> [(unfold s1; clear s1); (intro hs1; refine good_ite ?_ ?_ <;> (clear_value s1; revert hs1; revert s1; intro t1 ht1))])
    | with_reducible apply good_next
    | with_reducible apply pf0Cmd_good
    | with_reducible apply refuse_good
    | with_reducible apply lpCopy_good
    | with_reducible apply toHost_good
    | with_reducible apply complete_good
    | fail_if_no_progress (with_reducible refine good_mk ?_ rfl rfl rfl rfl rfl rfl rfl rfl rfl)
    | with_reducible apply good_ite
    | (with_reducible apply good_fst; with_reducible assumption)
    | (split)
    | (refine good_ite ?_ ?_)
    | (dsimp only)

theorem execCapStatus_good {n : Nat} {c : Option Nat} {q : List Instr} {iss : Issue} {s : State} (h : Good n c q s) :
    GoodOut n c q (execCapStatus iss s) := by
  unfold execCapStatus
  repeat' first
    | with_reducible assumption
    | (intro)
    | (extract_lets +onlyGivenNames s1; have hs1 : Good n c q s1 := by with_reducible assumption
       clear hs1; unfold s1; clear s1)
    | (extract_lets +onlyGivenNames s1; refine good_cut (n := n) (c := c) (q := q) s1 ?_ ?_ <;> [(unfold s1; clear s1); (intro hs1; clear_value s1; revert hs1; revert s1; intro t1 ht1)])
    | (extract_lets +onlyGivenNames x1; clear_value x1; revert x1; intro y1)
    | (extract_lets +onlyGivenNames s1; refine good_cut (n := n) (c := c) (q := q) s1 ?_ ?_ <;> [(unfold s1; clear s1); (intro hs1; refine good_ite ?_ ?_ <;> (clear_value s1; revert hs1; revert s1; intro t1 ht1))])
    | with_reducible apply good_next
    | with_reducible apply pf0Cmd_good
    | with_reducible apply toHost_good
    | with_reducible apply succeed_good
    | with_reducible apply good_ite
    | (split)
    | (refine good_ite ?_ ?_)
    | (dsimp only)

theorem captureIdle_good {n : Nat} {c : Option Nat} {q : List Instr} {s : State} (h : Good n c q s) :
    Good n c q (State.captureIdle s) := by
  unfold State.captureIdle
  repeat' first
    | with_reducible assumption
    | (intro)
    | (extract_lets +onlyGivenNames s1; have hs1 : Good n c q s1 := by with_reducible assumption
       clear hs1; unfold s1; clear s1)
    | (extract_lets +onlyGivenNames s1; refine good_cut (n := n) (c := c) (q := q) s1 ?_ ?_ <;> [(unfold s1; clear s1); (intro hs1; clear_value s1; revert hs1; revert s1; intro t1 ht1)])
    | (extract_lets +onlyGivenNames x1; clear_value x1; revert x1; intro y1)
    | (extract_lets +onlyGivenNames s1; refine good_cut (n := n) (c := c) (q := q) s1 ?_ ?_ <;> [(unfold s1; clear s1); (intro hs1; refine good_ite ?_ ?_ <;> (clear_value s1; revert hs1; revert s1; intro t1 ht1))])
    | fail_if_no_progress (with_reducible refine good_mk ?_ rfl rfl rfl rfl rfl rfl rfl rfl rfl)
    | (dsimp only)

end Sys2Proof.Machine
end

