-- ==== Sys2Proof/Laws/GoodCounters.lean ====
section
/-!
SUPPORT. What the operations of Machine/Counters.lean keep.
-/
set_option linter.all false
set_option linter.unreachableTactic false
set_option linter.unusedTactic false
namespace Sys2Proof.Machine

theorem execCounterWrite_good {n : Nat} {c : Option Nat} {q : List Instr} {fn : Nat} {offset : Nat} {size : Nat} {value : Nat} {s : State} (h : Good n c q s) :
    GoodOut n c q (execCounterWrite fn offset size value s) := by
  unfold execCounterWrite
  repeat' first
    | with_reducible assumption
    | (intro)
    | (extract_lets +onlyGivenNames s1; have hs1 : Good n c q s1 := by with_reducible assumption
       clear hs1; unfold s1; clear s1)
    | (extract_lets +onlyGivenNames s1; refine good_cut (n := n) (c := c) (q := q) s1 ?_ ?_ <;> [(unfold s1; clear s1); (intro hs1; clear_value s1; revert hs1; revert s1; intro t1 ht1)])
    | (extract_lets +onlyGivenNames x1; clear_value x1; revert x1; intro y1)
    | (extract_lets +onlyGivenNames s1; refine good_cut (n := n) (c := c) (q := q) s1 ?_ ?_ <;> [(unfold s1; clear s1); (intro hs1; refine good_ite ?_ ?_ <;> (clear_value s1; revert hs1; revert s1; intro t1 ht1))])
    | with_reducible apply good_next
    | with_reducible apply bump_good
    | with_reducible apply setCounter_good
    | (exact Nat.mod_lt _ (by decide))
    | with_reducible apply good_ite
    | (with_reducible apply good_fst; with_reducible assumption)
    | (split)
    | (refine good_ite ?_ ?_)
    | (dsimp only)

theorem execCounterSplitRead_good {n : Nat} {c : Option Nat} {q : List Instr} {fn : Nat} {read : BarRead} {s : State} (h : Good n c q s) :
    GoodOut n c q (execCounterSplitRead fn read s) := by
  unfold execCounterSplitRead
  repeat' first
    | with_reducible assumption
    | (intro)
    | (extract_lets +onlyGivenNames s1; have hs1 : Good n c q s1 := by with_reducible assumption
       clear hs1; unfold s1; clear s1)
    | (extract_lets +onlyGivenNames s1; refine good_cut (n := n) (c := c) (q := q) s1 ?_ ?_ <;> [(unfold s1; clear s1); (intro hs1; clear_value s1; revert hs1; revert s1; intro t1 ht1)])
    | (extract_lets +onlyGivenNames k1; have hk1 : CtrState := k1; clear hk1; unfold k1; clear k1)
    | (extract_lets +onlyGivenNames x1; clear_value x1; revert x1; intro y1)
    | (extract_lets +onlyGivenNames s1; refine good_cut (n := n) (c := c) (q := q) s1 ?_ ?_ <;> [(unfold s1; clear s1); (intro hs1; refine good_ite ?_ ?_ <;> (clear_value s1; revert hs1; revert s1; intro t1 ht1))])
    | with_reducible apply good_next
    | with_reducible apply emit_good
    | with_reducible apply bump_good
    | fail_if_no_progress (with_reducible refine good_mk ?_ rfl rfl rfl rfl rfl rfl rfl rfl rfl)
    | with_reducible apply good_ite
    | (with_reducible apply good_fst; with_reducible assumption)
    | (split)
    | (refine good_ite ?_ ?_)
    | (dsimp only)

theorem setExt_good {n : Nat} {c : Option Nat} {q : List Instr} {s : State} {i : Nat} {x : ExtWord} (h : Good n c q s) :
    Good n c q (State.setExt s i x) := by
  unfold State.setExt
  repeat' first
    | with_reducible assumption
    | (intro)
    | (extract_lets +onlyGivenNames s1; have hs1 : Good n c q s1 := by with_reducible assumption
       clear hs1; unfold s1; clear s1)
    | (extract_lets +onlyGivenNames s1; refine good_cut (n := n) (c := c) (q := q) s1 ?_ ?_ <;> [(unfold s1; clear s1); (intro hs1; clear_value s1; revert hs1; revert s1; intro t1 ht1)])
    | (extract_lets +onlyGivenNames k1; have hk1 : CtrState := k1; clear hk1; unfold k1; clear k1)
    | (extract_lets +onlyGivenNames x1; clear_value x1; revert x1; intro y1)
    | (extract_lets +onlyGivenNames s1; refine good_cut (n := n) (c := c) (q := q) s1 ?_ ?_ <;> [(unfold s1; clear s1); (intro hs1; refine good_ite ?_ ?_ <;> (clear_value s1; revert hs1; revert s1; intro t1 ht1))])
    | fail_if_no_progress (with_reducible refine good_mk ?_ rfl rfl rfl rfl rfl rfl rfl rfl rfl)
    | (dsimp only)

theorem zeroExt_good {n : Nat} {c : Option Nat} {q : List Instr} {s : State} {p : Port} {c' : Nat} (h : Good n c q s) :
    Good n c q (State.zeroExt s p c') := by
  unfold State.zeroExt
  repeat' first
    | with_reducible assumption
    | (intro)
    | with_reducible apply setExt_good
    | with_reducible apply memWrite_good
    | with_reducible apply good_ite
    | (split)
    | (refine good_ite ?_ ?_)
    | (dsimp only)

theorem extUpdate_good {n : Nat} {c : Option Nat} {q : List Instr} {s : State} {p : Port} {c' : Nat} {n' : Nat × Nat × Nat} (h : Good n c q s) :
    Good n c q (State.extUpdate s p c' n') := by
  unfold State.extUpdate
  repeat' first
    | with_reducible assumption
    | (intro)
    | (extract_lets +onlyGivenNames s1; have hs1 : Good n c q s1 := by with_reducible assumption
       clear hs1; unfold s1; clear s1)
    | (extract_lets +onlyGivenNames s1; refine good_cut (n := n) (c := c) (q := q) s1 ?_ ?_ <;> [(unfold s1; clear s1); (intro hs1; clear_value s1; revert hs1; revert s1; intro t1 ht1)])
    | (extract_lets +onlyGivenNames x1; clear_value x1; revert x1; intro y1)
    | (extract_lets +onlyGivenNames s1; refine good_cut (n := n) (c := c) (q := q) s1 ?_ ?_ <;> [(unfold s1; clear s1); (intro hs1; refine good_ite ?_ ?_ <;> (clear_value s1; revert hs1; revert s1; intro t1 ht1))])
    | with_reducible apply restart_good
    | with_reducible apply lpRead_good
    | with_reducible apply setExt_good
    | with_reducible apply bump_good
    | with_reducible apply memWrite_good
    | fail_if_no_progress (with_reducible refine good_mk ?_ rfl rfl rfl rfl rfl rfl rfl rfl rfl)
    | with_reducible apply good_ite
    | (with_reducible apply good_fst; with_reducible assumption)
    | (split)
    | (refine good_ite ?_ ?_)
    | (dsimp only)

theorem extCapture_good {n : Nat} {c : Option Nat} {q : List Instr} {s : State} (h : Good n c q s) :
    Good n c q (State.extCapture s) := by
  unfold State.extCapture
  repeat' first
    | with_reducible assumption
    | (intro)
    | (extract_lets +onlyGivenNames s1; have hs1 : Good n c q s1 := by with_reducible assumption
       clear hs1; unfold s1; clear s1)
    | (extract_lets +onlyGivenNames s1; refine good_cut (n := n) (c := c) (q := q) s1 ?_ ?_ <;> [(unfold s1; clear s1); (intro hs1; clear_value s1; revert hs1; revert s1; intro t1 ht1)])
    | (extract_lets +onlyGivenNames k1; have hk1 : CtrState := k1; clear hk1; unfold k1; clear k1)
    | (extract_lets +onlyGivenNames x1; clear_value x1; revert x1; intro y1)
    | (extract_lets +onlyGivenNames s1; refine good_cut (n := n) (c := c) (q := q) s1 ?_ ?_ <;> [(unfold s1; clear s1); (intro hs1; refine good_ite ?_ ?_ <;> (clear_value s1; revert hs1; revert s1; intro t1 ht1))])
    | with_reducible apply applyFill_good
    | with_reducible apply setFlag_good
    | fail_if_no_progress (with_reducible refine good_mk ?_ rfl rfl rfl rfl rfl rfl rfl rfl rfl)
    | with_reducible apply good_ite
    | (with_reducible apply good_fst; with_reducible assumption)
    | (split)
    | (refine good_ite ?_ ?_)
    | (dsimp only)

theorem modAcct_good {n : Nat} {c : Option Nat} {q : List Instr} {s : State} {p : Port} {t : Nat} {f : SlotAcct → SlotAcct} (h : Good n c q s) :
    Good n c q (State.modAcct s p t f) := by
  unfold State.modAcct
  repeat' first
    | with_reducible assumption
    | (intro)
    | (extract_lets +onlyGivenNames s1; have hs1 : Good n c q s1 := by with_reducible assumption
       clear hs1; unfold s1; clear s1)
    | (extract_lets +onlyGivenNames s1; refine good_cut (n := n) (c := c) (q := q) s1 ?_ ?_ <;> [(unfold s1; clear s1); (intro hs1; clear_value s1; revert hs1; revert s1; intro t1 ht1)])
    | (extract_lets +onlyGivenNames x1; clear_value x1; revert x1; intro y1)
    | (extract_lets +onlyGivenNames s1; refine good_cut (n := n) (c := c) (q := q) s1 ?_ ?_ <;> [(unfold s1; clear s1); (intro hs1; refine good_ite ?_ ?_ <;> (clear_value s1; revert hs1; revert s1; intro t1 ht1))])
    | with_reducible apply modDba_good
    | fail_if_no_progress (with_reducible refine good_mk ?_ rfl rfl rfl rfl rfl rfl rfl rfl rfl)
    | (dsimp only)

theorem countSlots_good {n : Nat} {c : Option Nat} {q : List Instr} {s : State} {p : Port} {a : SlotAcct} (h : Good n c q s) :
    Good n c q (State.countSlots s p a) := by
  unfold State.countSlots
  repeat' first
    | with_reducible assumption
    | (intro)
    | (extract_lets +onlyGivenNames s1; have hs1 : Good n c q s1 := by with_reducible assumption
       clear hs1; unfold s1; clear s1)
    | (extract_lets +onlyGivenNames s1; refine good_cut (n := n) (c := c) (q := q) s1 ?_ ?_ <;> [(unfold s1; clear s1); (intro hs1; clear_value s1; revert hs1; revert s1; intro t1 ht1)])
    | (extract_lets +onlyGivenNames x1; clear_value x1; revert x1; intro y1)
    | (extract_lets +onlyGivenNames s1; refine good_cut (n := n) (c := c) (q := q) s1 ?_ ?_ <;> [(unfold s1; clear s1); (intro hs1; refine good_ite ?_ ?_ <;> (clear_value s1; revert hs1; revert s1; intro t1 ht1))])
    | with_reducible apply bumpP_good
    | with_reducible apply bumpBy_good
    | (dsimp only)

theorem slotAccounting_good {n : Nat} {c : Option Nat} {q : List Instr} {s : State} {p : Port} (h : Good n c q s) :
    Good n c q (State.slotAccounting s p) := by
  unfold State.slotAccounting
  repeat' first
    | with_reducible assumption
    | (intro)
    | (extract_lets +onlyGivenNames s1; have hs1 : Good n c q s1 := by with_reducible assumption
       clear hs1; unfold s1; clear s1)
    | (extract_lets +onlyGivenNames s1; refine good_cut (n := n) (c := c) (q := q) s1 ?_ ?_ <;> [(unfold s1; clear s1); (intro hs1; clear_value s1; revert hs1; revert s1; intro t1 ht1)])
    | (extract_lets +onlyGivenNames x1; clear_value x1; revert x1; intro y1)
    | (extract_lets +onlyGivenNames s1; refine good_cut (n := n) (c := c) (q := q) s1 ?_ ?_ <;> [(unfold s1; clear s1); (intro hs1; refine good_ite ?_ ?_ <;> (clear_value s1; revert hs1; revert s1; intro t1 ht1))])
    | with_reducible apply countSlots_good
    | with_reducible apply extUpdate_good
    | with_reducible apply modDba_good
    | fail_if_no_progress (with_reducible refine good_mk ?_ rfl rfl rfl rfl rfl rfl rfl rfl rfl)
    | with_reducible apply good_foldl
    | with_reducible apply good_foldl_fst
    | with_reducible apply good_ite
    | (with_reducible apply good_fst; with_reducible assumption)
    | (split)
    | (refine good_ite ?_ ?_)
    | (dsimp only)

theorem harvestCapture_good {n : Nat} {c : Option Nat} {q : List Instr} {s : State} {i : Nat} (h : Good n c q s) :
    Good n c q (State.harvestCapture s i) := by
  unfold State.harvestCapture
  repeat' first
    | with_reducible assumption
    | (intro)
    | (extract_lets +onlyGivenNames s1; have hs1 : Good n c q s1 := by with_reducible assumption
       clear hs1; unfold s1; clear s1)
    | (extract_lets +onlyGivenNames s1; refine good_cut (n := n) (c := c) (q := q) s1 ?_ ?_ <;> [(unfold s1; clear s1); (intro hs1; clear_value s1; revert hs1; revert s1; intro t1 ht1)])
    | (extract_lets +onlyGivenNames k1; have hk1 : CtrState := k1; clear hk1; unfold k1; clear k1)
    | (extract_lets +onlyGivenNames x1; clear_value x1; revert x1; intro y1)
    | (extract_lets +onlyGivenNames s1; refine good_cut (n := n) (c := c) (q := q) s1 ?_ ?_ <;> [(unfold s1; clear s1); (intro hs1; refine good_ite ?_ ?_ <;> (clear_value s1; revert hs1; revert s1; intro t1 ht1))])
    | with_reducible apply setFlag_good
    | with_reducible apply setFld_good
    | fail_if_no_progress (with_reducible refine good_mk ?_ rfl rfl rfl rfl rfl rfl rfl rfl rfl)
    | with_reducible apply good_ite
    | (split)
    | (refine good_ite ?_ ?_)
    | (dsimp only)

theorem harvestDue_good {n : Nat} {c : Option Nat} {q : List Instr} {acc : State × Nat × Nat} {i : Nat} (h : Good n c q acc.1) :
    Good n c q (harvestDue acc i).1 := by
  unfold harvestDue
  repeat' first
    | with_reducible assumption
    | (intro)
    | (extract_lets +onlyGivenNames s1; have hs1 : Good n c q s1 := by with_reducible assumption
       clear hs1; unfold s1; clear s1)
    | (extract_lets +onlyGivenNames s1; refine good_cut (n := n) (c := c) (q := q) s1 ?_ ?_ <;> [(unfold s1; clear s1); (intro hs1; clear_value s1; revert hs1; revert s1; intro t1 ht1)])
    | (extract_lets +onlyGivenNames k1; have hk1 : CtrState := k1; clear hk1; unfold k1; clear k1)
    | (extract_lets +onlyGivenNames x1; clear_value x1; revert x1; intro y1)
    | (extract_lets +onlyGivenNames s1; refine good_cut (n := n) (c := c) (q := q) s1 ?_ ?_ <;> [(unfold s1; clear s1); (intro hs1; refine good_ite ?_ ?_ <;> (clear_value s1; revert hs1; revert s1; intro t1 ht1))])
    | with_reducible apply bump_good
    | with_reducible apply addFldSat_good
    | with_reducible apply lpCopy_good
    | with_reducible apply toHost_good
    | with_reducible apply setFld_good
    | with_reducible apply setFlag_good
    | fail_if_no_progress (with_reducible refine good_mk ?_ rfl rfl rfl rfl rfl rfl rfl rfl rfl)
    | with_reducible apply good_ite
    | (with_reducible apply good_fst; with_reducible assumption)
    | (split)
    | (refine good_ite ?_ ?_)
    | (dsimp only)

theorem harvestTick_good {n : Nat} {c : Option Nat} {q : List Instr} {s : State} (h : Good n c q s) :
    Good n c q (State.harvestTick s) := by
  have key : ∀ (l : List Nat) (t : State), Good n c q t → Good n c q (l.foldl harvestDue (l.foldl State.harvestCapture t, 0, 0)).1 :=
    fun l t ht => good_foldl_fst (fun _ _ hp => harvestDue_good hp) (good_foldl (fun _ _ hs => harvestCapture_good hs) ht)
  have h1 := key (List.range 32) { s with ctr := { s.ctr with dumped := 0 } } (good_mk h rfl rfl rfl rfl rfl rfl rfl rfl rfl)
  unfold State.harvestTick
  revert h1
  generalize List.range 32 = l
  intro h1
  dsimp only
  generalize List.foldl harvestDue (List.foldl State.harvestCapture _ l, 0, 0) l = r at h1 ⊢
  exact good_ite h1 (pulse_good h1)

theorem execHarvestDumpDone_good {n : Nat} {c : Option Nat} {q : List Instr} {set : Nat} {s : State} (h : Good n c q s) :
    GoodOut n c q (execHarvestDumpDone set s) := by
  unfold execHarvestDumpDone
  repeat' first
    | with_reducible assumption
    | (intro)
    | (extract_lets +onlyGivenNames s1; have hs1 : Good n c q s1 := by with_reducible assumption
       clear hs1; unfold s1; clear s1)
    | (extract_lets +onlyGivenNames s1; refine good_cut (n := n) (c := c) (q := q) s1 ?_ ?_ <;> [(unfold s1; clear s1); (intro hs1; clear_value s1; revert hs1; revert s1; intro t1 ht1)])
    | (extract_lets +onlyGivenNames k1; have hk1 : CtrState := k1; clear hk1; unfold k1; clear k1)
    | (extract_lets +onlyGivenNames x1; clear_value x1; revert x1; intro y1)
    | (extract_lets +onlyGivenNames s1; refine good_cut (n := n) (c := c) (q := q) s1 ?_ ?_ <;> [(unfold s1; clear s1); (intro hs1; refine good_ite ?_ ?_ <;> (clear_value s1; revert hs1; revert s1; intro t1 ht1))])
    | with_reducible apply good_next
    | with_reducible apply setFlag_good
    | with_reducible apply setFld_good
    | with_reducible apply bump_good
    | with_reducible apply pulse_good
    | fail_if_no_progress (with_reducible refine good_mk ?_ rfl rfl rfl rfl rfl rfl rfl rfl rfl)
    | with_reducible apply good_ite
    | (split)
    | (refine good_ite ?_ ?_)
    | (dsimp only)

end Sys2Proof.Machine
end

