-- ==== Sys2Proof/Laws/GoodEvents.lean ====
section
/-!
SUPPORT. What the operations of Machine/Events.lean keep.
-/
set_option linter.all false
set_option linter.unreachableTactic false
set_option linter.unusedTactic false
namespace Sys2Proof.Machine

theorem refuseView_good {n : Nat} {c : Option Nat} {q : List Instr} {s : State} {fn : Nat} (h : Good n c q s) :
    Good n c q (State.refuseView s fn) := by
  unfold State.refuseView
  repeat' first
    | with_reducible assumption
    | (intro)
    | with_reducible apply setFlag_good
    | with_reducible apply bump_good
    | (dsimp only)

theorem message_good {n : Nat} {c : Option Nat} {q : List Instr} {s : State} {fn : Nat} {vec : Nat} (h : Good n c q s) :
    Good n c q (State.message s fn vec) := by
  unfold State.message
  repeat' first
    | with_reducible assumption
    | (intro)
    | (extract_lets +onlyGivenNames s1; have hs1 : Good n c q s1 := by with_reducible assumption
       clear hs1; unfold s1; clear s1)
    | (extract_lets +onlyGivenNames s1; refine good_cut (n := n) (c := c) (q := q) s1 ?_ ?_ <;> [(unfold s1; clear s1); (intro hs1; clear_value s1; revert hs1; revert s1; intro t1 ht1)])
    | (extract_lets +onlyGivenNames x1; clear_value x1; revert x1; intro y1)
    | (extract_lets +onlyGivenNames s1; refine good_cut (n := n) (c := c) (q := q) s1 ?_ ?_ <;> [(unfold s1; clear s1); (intro hs1; refine good_ite ?_ ?_ <;> (clear_value s1; revert hs1; revert s1; intro t1 ht1))])
    | with_reducible apply bump_good
    | with_reducible apply emit_good
    | fail_if_no_progress (with_reducible refine good_mk ?_ rfl rfl rfl rfl rfl rfl rfl rfl rfl)
    | with_reducible apply good_ite
    | (split)
    | (refine good_ite ?_ ?_)
    | (dsimp only)

theorem raiseVector_good {n : Nat} {c : Option Nat} {q : List Instr} {s : State} {q' : Nat} (h : Good n c q s) :
    Good n c q (State.raiseVector s q') := by
  unfold State.raiseVector
  repeat' first
    | with_reducible assumption
    | (intro)
    | (extract_lets +onlyGivenNames s1; have hs1 : Good n c q s1 := by with_reducible assumption
       clear hs1; unfold s1; clear s1)
    | (extract_lets +onlyGivenNames s1; refine good_cut (n := n) (c := c) (q := q) s1 ?_ ?_ <;> [(unfold s1; clear s1); (intro hs1; clear_value s1; revert hs1; revert s1; intro t1 ht1)])
    | (extract_lets +onlyGivenNames x1; clear_value x1; revert x1; intro y1)
    | (extract_lets +onlyGivenNames s1; refine good_cut (n := n) (c := c) (q := q) s1 ?_ ?_ <;> [(unfold s1; clear s1); (intro hs1; refine good_ite ?_ ?_ <;> (clear_value s1; revert hs1; revert s1; intro t1 ht1))])
    | with_reducible apply setEvQueue_good
    | with_reducible apply bump_good
    | with_reducible apply message_good
    | fail_if_no_progress (with_reducible refine good_mk ?_ rfl rfl rfl rfl rfl rfl rfl rfl rfl)
    | (with_reducible apply good_fst; with_reducible assumption)
    | (dsimp only)

theorem moderate_good {n : Nat} {c : Option Nat} {q : List Instr} {s : State} {q' : Nat} {timer : Bool} (h : Good n c q s) :
    Good n c q (State.moderate s q' timer) := by
  unfold State.moderate
  repeat' first
    | with_reducible assumption
    | (intro)
    | (extract_lets +onlyGivenNames s1; have hs1 : Good n c q s1 := by with_reducible assumption
       clear hs1; unfold s1; clear s1)
    | (extract_lets +onlyGivenNames s1; refine good_cut (n := n) (c := c) (q := q) s1 ?_ ?_ <;> [(unfold s1; clear s1); (intro hs1; clear_value s1; revert hs1; revert s1; intro t1 ht1)])
    | (extract_lets +onlyGivenNames x1; clear_value x1; revert x1; intro y1)
    | (extract_lets +onlyGivenNames s1; refine good_cut (n := n) (c := c) (q := q) s1 ?_ ?_ <;> [(unfold s1; clear s1); (intro hs1; refine good_ite ?_ ?_ <;> (clear_value s1; revert hs1; revert s1; intro t1 ht1))])
    | with_reducible apply raiseVector_good
    | with_reducible apply setEvQueue_good
    | fail_if_no_progress (with_reducible refine good_mk ?_ rfl rfl rfl rfl rfl rfl rfl rfl rfl)
    | with_reducible apply good_ite
    | (split)
    | (refine good_ite ?_ ?_)
    | (dsimp only)

theorem writeRecord_good {n : Nat} {c : Option Nat} {q : List Instr} {s : State} {q' : Nat} {rec : EventRecord} (h : Good n c q s) :
    Good n c q (State.writeRecord s q' rec) := by
  unfold State.writeRecord
  repeat' first
    | with_reducible assumption
    | (intro)
    | (extract_lets +onlyGivenNames s1; have hs1 : Good n c q s1 := by with_reducible assumption
       clear hs1; unfold s1; clear s1)
    | (extract_lets +onlyGivenNames s1; refine good_cut (n := n) (c := c) (q := q) s1 ?_ ?_ <;> [(unfold s1; clear s1); (intro hs1; clear_value s1; revert hs1; revert s1; intro t1 ht1)])
    | (extract_lets +onlyGivenNames x1; clear_value x1; revert x1; intro y1)
    | (extract_lets +onlyGivenNames s1; refine good_cut (n := n) (c := c) (q := q) s1 ?_ ?_ <;> [(unfold s1; clear s1); (intro hs1; refine good_ite ?_ ?_ <;> (clear_value s1; revert hs1; revert s1; intro t1 ht1))])
    | with_reducible apply emit_good
    | with_reducible apply setEvQueue_good
    | fail_if_no_progress (with_reducible refine good_mk ?_ rfl rfl rfl rfl rfl rfl rfl rfl rfl)
    | with_reducible apply good_ite
    | (with_reducible apply good_fst; with_reducible assumption)
    | (split)
    | (refine good_ite ?_ ?_)
    | (dsimp only)

theorem afterCapture_good {n : Nat} {c : Option Nat} {q : List Instr} {s : State} {id : Nat} (h : Good n c q s) :
    Good n c q (State.afterCapture s id) := by
  unfold State.afterCapture
  repeat' first
    | with_reducible assumption
    | (intro)
    | (extract_lets +onlyGivenNames s1; have hs1 : Good n c q s1 := by with_reducible assumption
       clear hs1; unfold s1; clear s1)
    | (extract_lets +onlyGivenNames s1; refine good_cut (n := n) (c := c) (q := q) s1 ?_ ?_ <;> [(unfold s1; clear s1); (intro hs1; clear_value s1; revert hs1; revert s1; intro t1 ht1)])
    | (extract_lets +onlyGivenNames x1; clear_value x1; revert x1; intro y1)
    | (extract_lets +onlyGivenNames s1; refine good_cut (n := n) (c := c) (q := q) s1 ?_ ?_ <;> [(unfold s1; clear s1); (intro hs1; refine good_ite ?_ ?_ <;> (clear_value s1; revert hs1; revert s1; intro t1 ht1))])
    | with_reducible apply setSrc_good
    | fail_if_no_progress (with_reducible refine good_mk ?_ rfl rfl rfl rfl rfl rfl rfl rfl rfl)
    | with_reducible apply good_ite
    | (split)
    | (refine good_ite ?_ ?_)
    | (dsimp only)

theorem execEventCapture_good {n : Nat} {c : Option Nat} {q : List Instr} {queue : Nat} {tickOffset : Nat} {s : State} (h : Good n c q s) :
    GoodOut n c q (execEventCapture queue tickOffset s) := by
  unfold execEventCapture
  repeat' first
    | with_reducible assumption
    | (intro)
    | (extract_lets +onlyGivenNames s1; have hs1 : Good n c q s1 := by with_reducible assumption
       clear hs1; unfold s1; clear s1)
    | (extract_lets +onlyGivenNames s1; refine good_cut (n := n) (c := c) (q := q) s1 ?_ ?_ <;> [(unfold s1; clear s1); (intro hs1; clear_value s1; revert hs1; revert s1; intro t1 ht1)])
    | (extract_lets +onlyGivenNames x1; clear_value x1; revert x1; intro y1)
    | (extract_lets +onlyGivenNames s1; refine good_cut (n := n) (c := c) (q := q) s1 ?_ ?_ <;> [(unfold s1; clear s1); (intro hs1; refine good_ite ?_ ?_ <;> (clear_value s1; revert hs1; revert s1; intro t1 ht1))])
    | with_reducible apply good_next
    | with_reducible apply useHub_good
    | with_reducible apply bump_good
    | with_reducible apply writeRecord_good
    | with_reducible apply afterCapture_good
    | with_reducible apply moderate_good
    | with_reducible apply good_ite
    | (split)
    | (refine good_ite ?_ ?_)
    | (dsimp only)

theorem execEqModerationTimer_good {n : Nat} {c : Option Nat} {q : List Instr} {queue : Nat} {s : State} (h : Good n c q s) :
    GoodOut n c q (execEqModerationTimer queue s) := by
  unfold execEqModerationTimer
  repeat' first
    | with_reducible assumption
    | (intro)
    | with_reducible apply good_next
    | with_reducible apply moderate_good
    | with_reducible apply good_ite
    | (split)
    | (refine good_ite ?_ ?_)
    | (dsimp only)

theorem execEqDoorbell_good {n : Nat} {c : Option Nat} {q : List Instr} {fn : Nat} {queue : Nat} {value : Nat} {s : State} (h : Good n c q s) :
    GoodOut n c q (execEqDoorbell fn queue value s) := by
  unfold execEqDoorbell
  repeat' first
    | with_reducible assumption
    | (intro)
    | (extract_lets +onlyGivenNames s1; have hs1 : Good n c q s1 := by with_reducible assumption
       clear hs1; unfold s1; clear s1)
    | (extract_lets +onlyGivenNames s1; refine good_cut (n := n) (c := c) (q := q) s1 ?_ ?_ <;> [(unfold s1; clear s1); (intro hs1; clear_value s1; revert hs1; revert s1; intro t1 ht1)])
    | (extract_lets +onlyGivenNames x1; clear_value x1; revert x1; intro y1)
    | (extract_lets +onlyGivenNames s1; refine good_cut (n := n) (c := c) (q := q) s1 ?_ ?_ <;> [(unfold s1; clear s1); (intro hs1; refine good_ite ?_ ?_ <;> (clear_value s1; revert hs1; revert s1; intro t1 ht1))])
    | with_reducible apply good_next
    | with_reducible apply bump_good
    | with_reducible apply setEvQueue_good
    | with_reducible apply moderate_good
    | fail_if_no_progress (with_reducible refine good_mk ?_ rfl rfl rfl rfl rfl rfl rfl rfl rfl)
    | with_reducible apply good_ite
    | (with_reducible apply good_fst; with_reducible assumption)
    | (split)
    | (refine good_ite ?_ ?_)
    | (dsimp only)

theorem execEventSourceInput_good {n : Nat} {c : Option Nat} {q : List Instr} {source : Nat} {input : Bool} {info : Nat} {s : State} (h : Good n c q s) :
    GoodOut n c q (execEventSourceInput source input info s) := by
  unfold execEventSourceInput
  repeat' first
    | with_reducible assumption
    | (intro)
    | with_reducible apply good_next
    | with_reducible apply level_good
    | with_reducible apply good_ite
    | (split)
    | (refine good_ite ?_ ?_)
    | (dsimp only)

theorem execSourceDeassert_good {n : Nat} {c : Option Nat} {q : List Instr} {source : Nat} {s : State} (h : Good n c q s) :
    GoodOut n c q (execSourceDeassert source s) := by
  unfold execSourceDeassert
  repeat' first
    | with_reducible assumption
    | (intro)
    | (extract_lets +onlyGivenNames s1; have hs1 : Good n c q s1 := by with_reducible assumption
       clear hs1; unfold s1; clear s1)
    | (extract_lets +onlyGivenNames s1; refine good_cut (n := n) (c := c) (q := q) s1 ?_ ?_ <;> [(unfold s1; clear s1); (intro hs1; clear_value s1; revert hs1; revert s1; intro t1 ht1)])
    | (extract_lets +onlyGivenNames x1; clear_value x1; revert x1; intro y1)
    | (extract_lets +onlyGivenNames s1; refine good_cut (n := n) (c := c) (q := q) s1 ?_ ?_ <;> [(unfold s1; clear s1); (intro hs1; refine good_ite ?_ ?_ <;> (clear_value s1; revert hs1; revert s1; intro t1 ht1))])
    | with_reducible apply good_next
    | with_reducible apply sourceInput_good
    | with_reducible apply good_ite
    | (split)
    | (refine good_ite ?_ ?_)
    | (dsimp only)

theorem overBits_good {n : Nat} {c : Option Nat} {q : List Instr} {s : State} {fn : Nat} {word : Nat} {value : Nat} {f : State → Nat → State} (h : Good n c q s) (hf : ∀ s x, Good n c q s → Good n c q (f s x)) :
    Good n c q (State.overBits s fn word value f) := by
  unfold State.overBits
  try generalize List.range 32 = l0
  repeat' first
    | with_reducible assumption
    | (intro)
    | (extract_lets +onlyGivenNames s1; have hs1 : Good n c q s1 := by with_reducible assumption
       clear hs1; unfold s1; clear s1)
    | (extract_lets +onlyGivenNames s1; refine good_cut (n := n) (c := c) (q := q) s1 ?_ ?_ <;> [(unfold s1; clear s1); (intro hs1; clear_value s1; revert hs1; revert s1; intro t1 ht1)])
    | (extract_lets +onlyGivenNames x1; clear_value x1; revert x1; intro y1)
    | (extract_lets +onlyGivenNames s1; refine good_cut (n := n) (c := c) (q := q) s1 ?_ ?_ <;> [(unfold s1; clear s1); (intro hs1; refine good_ite ?_ ?_ <;> (clear_value s1; revert hs1; revert s1; intro t1 ht1))])
    | with_reducible apply hf
    | with_reducible apply good_foldl
    | with_reducible apply good_foldl_fst
    | with_reducible apply good_ite
    | (split)
    | (refine good_ite ?_ ?_)
    | (dsimp only)

theorem maskSource_good {n : Nat} {c : Option Nat} {q : List Instr} {s : State} {id : Nat} (h : Good n c q s) :
    Good n c q (State.maskSource s id) := by
  unfold State.maskSource
  repeat' first
    | with_reducible assumption
    | (intro)
    | (extract_lets +onlyGivenNames s1; have hs1 : Good n c q s1 := by with_reducible assumption
       clear hs1; unfold s1; clear s1)
    | (extract_lets +onlyGivenNames s1; refine good_cut (n := n) (c := c) (q := q) s1 ?_ ?_ <;> [(unfold s1; clear s1); (intro hs1; clear_value s1; revert hs1; revert s1; intro t1 ht1)])
    | (extract_lets +onlyGivenNames x1; clear_value x1; revert x1; intro y1)
    | (extract_lets +onlyGivenNames s1; refine good_cut (n := n) (c := c) (q := q) s1 ?_ ?_ <;> [(unfold s1; clear s1); (intro hs1; refine good_ite ?_ ?_ <;> (clear_value s1; revert hs1; revert s1; intro t1 ht1))])
    | with_reducible apply leaveList_good
    | with_reducible apply setSrc_good
    | fail_if_no_progress (with_reducible refine good_mk ?_ rfl rfl rfl rfl rfl rfl rfl rfl rfl)
    | with_reducible apply good_ite
    | (split)
    | (refine good_ite ?_ ?_)
    | (dsimp only)

theorem unmaskSource_good {n : Nat} {c : Option Nat} {q : List Instr} {s : State} {id : Nat} (h : Good n c q s) :
    Good n c q (State.unmaskSource s id) := by
  unfold State.unmaskSource
  repeat' first
    | with_reducible assumption
    | (intro)
    | (extract_lets +onlyGivenNames s1; have hs1 : Good n c q s1 := by with_reducible assumption
       clear hs1; unfold s1; clear s1)
    | (extract_lets +onlyGivenNames s1; refine good_cut (n := n) (c := c) (q := q) s1 ?_ ?_ <;> [(unfold s1; clear s1); (intro hs1; clear_value s1; revert hs1; revert s1; intro t1 ht1)])
    | (extract_lets +onlyGivenNames x1; clear_value x1; revert x1; intro y1)
    | (extract_lets +onlyGivenNames s1; refine good_cut (n := n) (c := c) (q := q) s1 ?_ ?_ <;> [(unfold s1; clear s1); (intro hs1; refine good_ite ?_ ?_ <;> (clear_value s1; revert hs1; revert s1; intro t1 ht1))])
    | with_reducible apply setSrc_good
    | with_reducible apply joinList_good
    | fail_if_no_progress (with_reducible refine good_mk ?_ rfl rfl rfl rfl rfl rfl rfl rfl rfl)
    | with_reducible apply good_ite
    | (split)
    | (refine good_ite ?_ ?_)
    | (dsimp only)

theorem pendSource_good {n : Nat} {c : Option Nat} {q : List Instr} {s : State} {id : Nat} (h : Good n c q s) :
    Good n c q (State.pendSource s id) := by
  unfold State.pendSource
  repeat' first
    | with_reducible assumption
    | (intro)
    | (extract_lets +onlyGivenNames s1; have hs1 : Good n c q s1 := by with_reducible assumption
       clear hs1; unfold s1; clear s1)
    | (extract_lets +onlyGivenNames s1; refine good_cut (n := n) (c := c) (q := q) s1 ?_ ?_ <;> [(unfold s1; clear s1); (intro hs1; clear_value s1; revert hs1; revert s1; intro t1 ht1)])
    | (extract_lets +onlyGivenNames x1; clear_value x1; revert x1; intro y1)
    | (extract_lets +onlyGivenNames s1; refine good_cut (n := n) (c := c) (q := q) s1 ?_ ?_ <;> [(unfold s1; clear s1); (intro hs1; refine good_ite ?_ ?_ <;> (clear_value s1; revert hs1; revert s1; intro t1 ht1))])
    | with_reducible apply makePending_good
    | with_reducible apply setSrc_good
    | with_reducible apply bump_good
    | fail_if_no_progress (with_reducible refine good_mk ?_ rfl rfl rfl rfl rfl rfl rfl rfl rfl)
    | (split)
    | (dsimp only)

theorem unpendSource_good {n : Nat} {c : Option Nat} {q : List Instr} {s : State} {id : Nat} (h : Good n c q s) :
    Good n c q (State.unpendSource s id) := by
  unfold State.unpendSource
  repeat' first
    | with_reducible assumption
    | (intro)
    | (extract_lets +onlyGivenNames s1; have hs1 : Good n c q s1 := by with_reducible assumption
       clear hs1; unfold s1; clear s1)
    | (extract_lets +onlyGivenNames s1; refine good_cut (n := n) (c := c) (q := q) s1 ?_ ?_ <;> [(unfold s1; clear s1); (intro hs1; clear_value s1; revert hs1; revert s1; intro t1 ht1)])
    | (extract_lets +onlyGivenNames x1; clear_value x1; revert x1; intro y1)
    | (extract_lets +onlyGivenNames s1; refine good_cut (n := n) (c := c) (q := q) s1 ?_ ?_ <;> [(unfold s1; clear s1); (intro hs1; refine good_ite ?_ ?_ <;> (clear_value s1; revert hs1; revert s1; intro t1 ht1))])
    | with_reducible apply dropPending_good
    | with_reducible apply settleLevel_good
    | with_reducible apply good_ite
    | (split)
    | (refine good_ite ?_ ?_)
    | (dsimp only)

theorem execMaskSet_good {n : Nat} {c : Option Nat} {q : List Instr} {fn : Nat} {word : Nat} {value : Nat} {s : State} (h : Good n c q s) :
    GoodOut n c q (execMaskSet fn word value s) := by
  unfold execMaskSet
  repeat' first
    | with_reducible assumption
    | (intro)
    | with_reducible apply good_next
    | with_reducible apply accessed_good
    | with_reducible apply overBits_good
    | with_reducible apply maskSource_good
    | (dsimp only)

theorem execMaskClr_good {n : Nat} {c : Option Nat} {q : List Instr} {fn : Nat} {word : Nat} {value : Nat} {s : State} (h : Good n c q s) :
    GoodOut n c q (execMaskClr fn word value s) := by
  unfold execMaskClr
  repeat' first
    | with_reducible assumption
    | (intro)
    | with_reducible apply good_next
    | with_reducible apply accessed_good
    | with_reducible apply overBits_good
    | with_reducible apply unmaskSource_good
    | (dsimp only)

theorem execPendSet_good {n : Nat} {c : Option Nat} {q : List Instr} {fn : Nat} {word : Nat} {value : Nat} {s : State} (h : Good n c q s) :
    GoodOut n c q (execPendSet fn word value s) := by
  unfold execPendSet
  repeat' first
    | with_reducible assumption
    | (intro)
    | with_reducible apply good_next
    | with_reducible apply accessed_good
    | with_reducible apply overBits_good
    | with_reducible apply pendSource_good
    | (dsimp only)

theorem execPendClr_good {n : Nat} {c : Option Nat} {q : List Instr} {fn : Nat} {word : Nat} {value : Nat} {s : State} (h : Good n c q s) :
    GoodOut n c q (execPendClr fn word value s) := by
  unfold execPendClr
  repeat' first
    | with_reducible assumption
    | (intro)
    | with_reducible apply good_next
    | with_reducible apply accessed_good
    | with_reducible apply overBits_good
    | with_reducible apply unpendSource_good
    | (dsimp only)

theorem execEventComplete_good {n : Nat} {c : Option Nat} {q : List Instr} {fn : Nat} {value : Nat} {s : State} (h : Good n c q s) :
    GoodOut n c q (execEventComplete fn value s) := by
  unfold execEventComplete
  repeat' first
    | with_reducible assumption
    | (intro)
    | (extract_lets +onlyGivenNames s1; have hs1 : Good n c q s1 := by with_reducible assumption
       clear hs1; unfold s1; clear s1)
    | (extract_lets +onlyGivenNames s1; refine good_cut (n := n) (c := c) (q := q) s1 ?_ ?_ <;> [(unfold s1; clear s1); (intro hs1; clear_value s1; revert hs1; revert s1; intro t1 ht1)])
    | (extract_lets +onlyGivenNames x1; clear_value x1; revert x1; intro y1)
    | (extract_lets +onlyGivenNames s1; refine good_cut (n := n) (c := c) (q := q) s1 ?_ ?_ <;> [(unfold s1; clear s1); (intro hs1; refine good_ite ?_ ?_ <;> (clear_value s1; revert hs1; revert s1; intro t1 ht1))])
    | with_reducible apply good_next
    | with_reducible apply accessed_good
    | with_reducible apply makePending_good
    | with_reducible apply bump_good
    | with_reducible apply good_ite
    | (split)
    | (refine good_ite ?_ ?_)
    | (dsimp only)

theorem changeSense_good {n : Nat} {c : Option Nat} {q : List Instr} {s : State} {id : Nat} {sense : Nat} (h : Good n c q s) :
    Good n c q (State.changeSense s id sense) := by
  unfold State.changeSense
  repeat' first
    | with_reducible assumption
    | (intro)
    | (extract_lets +onlyGivenNames s1; have hs1 : Good n c q s1 := by with_reducible assumption
       clear hs1; unfold s1; clear s1)
    | (extract_lets +onlyGivenNames s1; refine good_cut (n := n) (c := c) (q := q) s1 ?_ ?_ <;> [(unfold s1; clear s1); (intro hs1; clear_value s1; revert hs1; revert s1; intro t1 ht1)])
    | (extract_lets +onlyGivenNames x1; clear_value x1; revert x1; intro y1)
    | (extract_lets +onlyGivenNames s1; refine good_cut (n := n) (c := c) (q := q) s1 ?_ ?_ <;> [(unfold s1; clear s1); (intro hs1; refine good_ite ?_ ?_ <;> (clear_value s1; revert hs1; revert s1; intro t1 ht1))])
    | with_reducible apply dropPending_good
    | with_reducible apply setSrc_good
    | with_reducible apply settleLevel_good
    | fail_if_no_progress (with_reducible refine good_mk ?_ rfl rfl rfl rfl rfl rfl rfl rfl rfl)
    | with_reducible apply good_ite
    | (split)
    | (refine good_ite ?_ ?_)
    | (dsimp only)

theorem retarget_good {n : Nat} {c : Option Nat} {q : List Instr} {s : State} {id : Nat} {new : Nat} (h : Good n c q s) :
    Good n c q (State.retarget s id new) := by
  unfold State.retarget
  repeat' first
    | with_reducible assumption
    | (intro)
    | (extract_lets +onlyGivenNames s1; have hs1 : Good n c q s1 := by with_reducible assumption
       clear hs1; unfold s1; clear s1)
    | (extract_lets +onlyGivenNames s1; refine good_cut (n := n) (c := c) (q := q) s1 ?_ ?_ <;> [(unfold s1; clear s1); (intro hs1; clear_value s1; revert hs1; revert s1; intro t1 ht1)])
    | (extract_lets +onlyGivenNames x1; clear_value x1; revert x1; intro y1)
    | (extract_lets +onlyGivenNames s1; refine good_cut (n := n) (c := c) (q := q) s1 ?_ ?_ <;> [(unfold s1; clear s1); (intro hs1; refine good_ite ?_ ?_ <;> (clear_value s1; revert hs1; revert s1; intro t1 ht1))])
    | with_reducible apply leaveList_good
    | with_reducible apply setEvQueue_good
    | with_reducible apply setSrc_good
    | with_reducible apply joinList_good
    | fail_if_no_progress (with_reducible refine good_mk ?_ rfl rfl rfl rfl rfl rfl rfl rfl rfl)
    | with_reducible apply good_ite
    | (split)
    | (refine good_ite ?_ ?_)
    | (dsimp only)

theorem srcCfgWrite_good {n : Nat} {c : Option Nat} {q : List Instr} {s : State} {fn : Nat} {index : Nat} {value : Nat} (h : Good n c q s) :
    Good n c q (State.srcCfgWrite s fn index value) := by
  unfold State.srcCfgWrite
  repeat' first
    | with_reducible assumption
    | (intro)
    | (extract_lets +onlyGivenNames s1; have hs1 : Good n c q s1 := by with_reducible assumption
       clear hs1; unfold s1; clear s1)
    | (extract_lets +onlyGivenNames s1; refine good_cut (n := n) (c := c) (q := q) s1 ?_ ?_ <;> [(unfold s1; clear s1); (intro hs1; clear_value s1; revert hs1; revert s1; intro t1 ht1)])
    | (extract_lets +onlyGivenNames x1; clear_value x1; revert x1; intro y1)
    | (extract_lets +onlyGivenNames s1; refine good_cut (n := n) (c := c) (q := q) s1 ?_ ?_ <;> [(unfold s1; clear s1); (intro hs1; refine good_ite ?_ ?_ <;> (clear_value s1; revert hs1; revert s1; intro t1 ht1))])
    | with_reducible apply refuseView_good
    | with_reducible apply changeSense_good
    | with_reducible apply retarget_good
    | with_reducible apply good_ite
    | (split)
    | (refine good_ite ?_ ?_)
    | (dsimp only)

theorem execSenseChange_good {n : Nat} {c : Option Nat} {q : List Instr} {fn : Nat} {index : Nat} {value : Nat} {s : State} (h : Good n c q s) :
    GoodOut n c q (execSenseChange fn index value s) := by
  unfold execSenseChange
  repeat' first
    | with_reducible assumption
    | (intro)
    | with_reducible apply good_next
    | with_reducible apply accessed_good
    | with_reducible apply srcCfgWrite_good
    | (dsimp only)

theorem execSourceRetarget_good {n : Nat} {c : Option Nat} {q : List Instr} {fn : Nat} {index : Nat} {value : Nat} {s : State} (h : Good n c q s) :
    GoodOut n c q (execSourceRetarget fn index value s) := by
  unfold execSourceRetarget
  repeat' first
    | with_reducible assumption
    | (intro)
    | with_reducible apply good_next
    | with_reducible apply accessed_good
    | with_reducible apply srcCfgWrite_good
    | (dsimp only)

theorem execEqEnable_good {n : Nat} {c : Option Nat} {q : List Instr} {fn : Nat} {queue : Nat} {value : Nat} {s : State} (h : Good n c q s) :
    GoodOut n c q (execEqEnable fn queue value s) := by
  unfold execEqEnable
  repeat' first
    | with_reducible assumption
    | (intro)
    | (extract_lets +onlyGivenNames s1; have hs1 : Good n c q s1 := by with_reducible assumption
       clear hs1; unfold s1; clear s1)
    | (extract_lets +onlyGivenNames s1; refine good_cut (n := n) (c := c) (q := q) s1 ?_ ?_ <;> [(unfold s1; clear s1); (intro hs1; clear_value s1; revert hs1; revert s1; intro t1 ht1)])
    | (extract_lets +onlyGivenNames x1; clear_value x1; revert x1; intro y1)
    | (extract_lets +onlyGivenNames s1; refine good_cut (n := n) (c := c) (q := q) s1 ?_ ?_ <;> [(unfold s1; clear s1); (intro hs1; refine good_ite ?_ ?_ <;> (clear_value s1; revert hs1; revert s1; intro t1 ht1))])
    | with_reducible apply good_next
    | with_reducible apply accessed_good
    | with_reducible apply refuseView_good
    | with_reducible apply setEvQueue_good
    | fail_if_no_progress (with_reducible refine good_mk ?_ rfl rfl rfl rfl rfl rfl rfl rfl rfl)
    | with_reducible apply good_ite
    | (with_reducible apply good_fst; with_reducible assumption)
    | (split)
    | (refine good_ite ?_ ?_)
    | (dsimp only)

theorem eqWordWrite_good {n : Nat} {c : Option Nat} {q : List Instr} {s : State} {fn : Nat} {q' : Nat} {k : Nat} {value : Nat} (h : Good n c q s) :
    Good n c q (State.eqWordWrite s fn q' k value) := by
  unfold State.eqWordWrite
  repeat' first
    | with_reducible assumption
    | (intro)
    | (extract_lets +onlyGivenNames s1; have hs1 : Good n c q s1 := by with_reducible assumption
       clear hs1; unfold s1; clear s1)
    | (extract_lets +onlyGivenNames s1; refine good_cut (n := n) (c := c) (q := q) s1 ?_ ?_ <;> [(unfold s1; clear s1); (intro hs1; clear_value s1; revert hs1; revert s1; intro t1 ht1)])
    | (extract_lets +onlyGivenNames x1; clear_value x1; revert x1; intro y1)
    | (extract_lets +onlyGivenNames s1; refine good_cut (n := n) (c := c) (q := q) s1 ?_ ?_ <;> [(unfold s1; clear s1); (intro hs1; refine good_ite ?_ ?_ <;> (clear_value s1; revert hs1; revert s1; intro t1 ht1))])
    | with_reducible apply refuseView_good
    | with_reducible apply setEvQueue_good
    | with_reducible apply moderate_good
    | fail_if_no_progress (with_reducible refine good_mk ?_ rfl rfl rfl rfl rfl rfl rfl rfl rfl)
    | with_reducible apply good_ite
    | (with_reducible apply good_fst; with_reducible assumption)
    | (split)
    | (refine good_ite ?_ ?_)
    | (dsimp only)

theorem ownerWrite_good {n : Nat} {c : Option Nat} {q : List Instr} {s : State} {w : Nat} {value : Nat} (h : Good n c q s) :
    Good n c q (State.ownerWrite s w value) := by
  unfold State.ownerWrite
  try generalize List.range 8 = l0
  repeat' first
    | with_reducible assumption
    | (intro)
    | (extract_lets +onlyGivenNames s1; have hs1 : Good n c q s1 := by with_reducible assumption
       clear hs1; unfold s1; clear s1)
    | (extract_lets +onlyGivenNames s1; refine good_cut (n := n) (c := c) (q := q) s1 ?_ ?_ <;> [(unfold s1; clear s1); (intro hs1; clear_value s1; revert hs1; revert s1; intro t1 ht1)])
    | (extract_lets +onlyGivenNames x1; clear_value x1; revert x1; intro y1)
    | (extract_lets +onlyGivenNames s1; refine good_cut (n := n) (c := c) (q := q) s1 ?_ ?_ <;> [(unfold s1; clear s1); (intro hs1; refine good_ite ?_ ?_ <;> (clear_value s1; revert hs1; revert s1; intro t1 ht1))])
    | with_reducible apply refuseView_good
    | with_reducible apply setReg_good
    | with_reducible apply good_ite
    | (split)
    | (refine good_ite ?_ ?_)
    | (dsimp only)

theorem sendPending_good {n : Nat} {c : Option Nat} {q : List Instr} {s : State} {fn : Nat} {vec : Nat} (h : Good n c q s) :
    Good n c q (State.sendPending s fn vec) := by
  unfold State.sendPending
  repeat' first
    | with_reducible assumption
    | (intro)
    | (extract_lets +onlyGivenNames s1; have hs1 : Good n c q s1 := by with_reducible assumption
       clear hs1; unfold s1; clear s1)
    | (extract_lets +onlyGivenNames s1; refine good_cut (n := n) (c := c) (q := q) s1 ?_ ?_ <;> [(unfold s1; clear s1); (intro hs1; clear_value s1; revert hs1; revert s1; intro t1 ht1)])
    | (extract_lets +onlyGivenNames x1; clear_value x1; revert x1; intro y1)
    | (extract_lets +onlyGivenNames s1; refine good_cut (n := n) (c := c) (q := q) s1 ?_ ?_ <;> [(unfold s1; clear s1); (intro hs1; refine good_ite ?_ ?_ <;> (clear_value s1; revert hs1; revert s1; intro t1 ht1))])
    | with_reducible apply emit_good
    | fail_if_no_progress (with_reducible refine good_mk ?_ rfl rfl rfl rfl rfl rfl rfl rfl rfl)
    | with_reducible apply good_ite
    | (split)
    | (refine good_ite ?_ ?_)
    | (dsimp only)

theorem execMsixUnmask_good {n : Nat} {c : Option Nat} {q : List Instr} {fn : Nat} {mask : MsixMask} {s : State} (h : Good n c q s) :
    GoodOut n c q (execMsixUnmask fn mask s) := by
  unfold execMsixUnmask
  try generalize List.range 64 = l0
  repeat' first
    | with_reducible assumption
    | (intro)
    | (extract_lets +onlyGivenNames s1; have hs1 : Good n c q s1 := by with_reducible assumption
       clear hs1; unfold s1; clear s1)
    | (extract_lets +onlyGivenNames s1; refine good_cut (n := n) (c := c) (q := q) s1 ?_ ?_ <;> [(unfold s1; clear s1); (intro hs1; clear_value s1; revert hs1; revert s1; intro t1 ht1)])
    | (extract_lets +onlyGivenNames x1; clear_value x1; revert x1; intro y1)
    | (extract_lets +onlyGivenNames s1; refine good_cut (n := n) (c := c) (q := q) s1 ?_ ?_ <;> [(unfold s1; clear s1); (intro hs1; refine good_ite ?_ ?_ <;> (clear_value s1; revert hs1; revert s1; intro t1 ht1))])
    | with_reducible apply good_next
    | with_reducible apply sendPending_good
    | fail_if_no_progress (with_reducible refine good_mk ?_ rfl rfl rfl rfl rfl rfl rfl rfl rfl)
    | with_reducible apply good_foldl
    | with_reducible apply good_foldl_fst
    | (split)
    | (dsimp only)

theorem stopQueue_good {n : Nat} {c : Option Nat} {q : List Instr} {s : State} {q' : Nat} (h : Good n c q s) :
    Good n c q (State.stopQueue s q') := by
  unfold State.stopQueue
  repeat' first
    | with_reducible assumption
    | (intro)
    | (extract_lets +onlyGivenNames s1; have hs1 : Good n c q s1 := by with_reducible assumption
       clear hs1; unfold s1; clear s1)
    | (extract_lets +onlyGivenNames s1; refine good_cut (n := n) (c := c) (q := q) s1 ?_ ?_ <;> [(unfold s1; clear s1); (intro hs1; clear_value s1; revert hs1; revert s1; intro t1 ht1)])
    | (extract_lets +onlyGivenNames x1; clear_value x1; revert x1; intro y1)
    | (extract_lets +onlyGivenNames s1; refine good_cut (n := n) (c := c) (q := q) s1 ?_ ?_ <;> [(unfold s1; clear s1); (intro hs1; refine good_ite ?_ ?_ <;> (clear_value s1; revert hs1; revert s1; intro t1 ht1))])
    | with_reducible apply setEvQueue_good
    | fail_if_no_progress (with_reducible refine good_mk ?_ rfl rfl rfl rfl rfl rfl rfl rfl rfl)
    | (dsimp only)

theorem returnInService_good {n : Nat} {c : Option Nat} {q : List Instr} {s : State} {id : Nat} (h : Good n c q s) :
    Good n c q (State.returnInService s id) := by
  unfold State.returnInService
  repeat' first
    | with_reducible assumption
    | (intro)
    | (extract_lets +onlyGivenNames s1; have hs1 : Good n c q s1 := by with_reducible assumption
       clear hs1; unfold s1; clear s1)
    | (extract_lets +onlyGivenNames s1; refine good_cut (n := n) (c := c) (q := q) s1 ?_ ?_ <;> [(unfold s1; clear s1); (intro hs1; clear_value s1; revert hs1; revert s1; intro t1 ht1)])
    | (extract_lets +onlyGivenNames x1; clear_value x1; revert x1; intro y1)
    | (extract_lets +onlyGivenNames s1; refine good_cut (n := n) (c := c) (q := q) s1 ?_ ?_ <;> [(unfold s1; clear s1); (intro hs1; refine good_ite ?_ ?_ <;> (clear_value s1; revert hs1; revert s1; intro t1 ht1))])
    | with_reducible apply setSrc_good
    | with_reducible apply settleLevel_good
    | fail_if_no_progress (with_reducible refine good_mk ?_ rfl rfl rfl rfl rfl rfl rfl rfl rfl)
    | with_reducible apply good_ite
    | (split)
    | (refine good_ite ?_ ?_)
    | (dsimp only)

theorem eventsHubReset_good {n : Nat} {c : Option Nat} {q : List Instr} {s : State} (h : Good n c q s) :
    Good n c q (State.eventsHubReset s) := by
  unfold State.eventsHubReset
  try generalize List.range 64 = l0
  repeat' first
    | with_reducible assumption
    | (intro)
    | (extract_lets +onlyGivenNames s1; have hs1 : Good n c q s1 := by with_reducible assumption
       clear hs1; unfold s1; clear s1)
    | (extract_lets +onlyGivenNames s1; refine good_cut (n := n) (c := c) (q := q) s1 ?_ ?_ <;> [(unfold s1; clear s1); (intro hs1; clear_value s1; revert hs1; revert s1; intro t1 ht1)])
    | (extract_lets +onlyGivenNames x1; clear_value x1; revert x1; intro y1)
    | (extract_lets +onlyGivenNames s1; refine good_cut (n := n) (c := c) (q := q) s1 ?_ ?_ <;> [(unfold s1; clear s1); (intro hs1; refine good_ite ?_ ?_ <;> (clear_value s1; revert hs1; revert s1; intro t1 ht1))])
    | with_reducible apply stopQueue_good
    | with_reducible apply returnInService_good
    | with_reducible apply good_foldl
    | with_reducible apply good_foldl_fst
    | (dsimp only)

theorem eventsFlr_good {n : Nat} {c : Option Nat} {q : List Instr} {s : State} {f : Nat} (h : Good n c q s) :
    Good n c q (State.eventsFlr s f) := by
  unfold State.eventsFlr
  try generalize List.range 64 = l0
  repeat' first
    | with_reducible assumption
    | (intro)
    | (extract_lets +onlyGivenNames s1; have hs1 : Good n c q s1 := by with_reducible assumption
       clear hs1; unfold s1; clear s1)
    | (extract_lets +onlyGivenNames s1; refine good_cut (n := n) (c := c) (q := q) s1 ?_ ?_ <;> [(unfold s1; clear s1); (intro hs1; clear_value s1; revert hs1; revert s1; intro t1 ht1)])
    | (extract_lets +onlyGivenNames x1; clear_value x1; revert x1; intro y1)
    | (extract_lets +onlyGivenNames s1; refine good_cut (n := n) (c := c) (q := q) s1 ?_ ?_ <;> [(unfold s1; clear s1); (intro hs1; refine good_ite ?_ ?_ <;> (clear_value s1; revert hs1; revert s1; intro t1 ht1))])
    | with_reducible apply stopQueue_good
    | with_reducible apply maskSource_good
    | with_reducible apply returnInService_good
    | with_reducible apply good_foldl
    | with_reducible apply good_foldl_fst
    | with_reducible apply good_ite
    | (split)
    | (refine good_ite ?_ ?_)
    | (dsimp only)

end Sys2Proof.Machine
end

