-- ==== Sys2Proof/Laws/GoodConverters.lean ====
section
/-!
SUPPORT. What the operations of Machine/Converters.lean keep.
-/
set_option linter.all false
set_option linter.unreachableTactic false
set_option linter.unusedTactic false
namespace Sys2Proof.Machine

theorem cnvStatus_good {n : Nat} {c : Option Nat} {q : List Instr} {s : State} {p : Port} (h : Good n c q s) :
    Good n c q (State.cnvStatus s p) := by
  unfold State.cnvStatus
  repeat' first
    | with_reducible assumption
    | (intro)
    | (extract_lets +onlyGivenNames s1; have hs1 : Good n c q s1 := by with_reducible assumption
       clear hs1; unfold s1; clear s1)
    | (extract_lets +onlyGivenNames s1; refine good_cut (n := n) (c := c) (q := q) s1 ?_ ?_ <;> [(unfold s1; clear s1); (intro hs1; clear_value s1; revert hs1; revert s1; intro t1 ht1)])
    | (extract_lets +onlyGivenNames x1; clear_value x1; revert x1; intro y1)
    | (extract_lets +onlyGivenNames s1; refine good_cut (n := n) (c := c) (q := q) s1 ?_ ?_ <;> [(unfold s1; clear s1); (intro hs1; refine good_ite ?_ ?_ <;> (clear_value s1; revert hs1; revert s1; intro t1 ht1))])
    | with_reducible apply setFlag_good
    | with_reducible apply setFld_good
    | (dsimp only)

theorem zeroCoefs_good {n : Nat} {c : Option Nat} {q : List Instr} {s : State} {p : Port} {u : Nat} (h : Good n c q s) :
    Good n c q (State.zeroCoefs s p u) := by
  unfold State.zeroCoefs
  repeat' first
    | with_reducible assumption
    | (intro)
    | (extract_lets +onlyGivenNames s1; have hs1 : Good n c q s1 := by with_reducible assumption
       clear hs1; unfold s1; clear s1)
    | (extract_lets +onlyGivenNames s1; refine good_cut (n := n) (c := c) (q := q) s1 ?_ ?_ <;> [(unfold s1; clear s1); (intro hs1; clear_value s1; revert hs1; revert s1; intro t1 ht1)])
    | (extract_lets +onlyGivenNames x1; clear_value x1; revert x1; intro y1)
    | (extract_lets +onlyGivenNames s1; refine good_cut (n := n) (c := c) (q := q) s1 ?_ ?_ <;> [(unfold s1; clear s1); (intro hs1; refine good_ite ?_ ?_ <;> (clear_value s1; revert hs1; revert s1; intro t1 ht1))])
    | with_reducible apply setFld_good
    | with_reducible apply setFlag_good
    | (dsimp only)

theorem cnvFaulty_good {n : Nat} {c : Option Nat} {q : List Instr} {s : State} {p : Port} {u : Nat} {reason : Nat} (h : Good n c q s) :
    Good n c q (State.cnvFaulty s p u reason) := by
  unfold State.cnvFaulty
  repeat' first
    | with_reducible assumption
    | (intro)
    | with_reducible apply setFld_good
    | with_reducible apply zeroCoefs_good
    | (dsimp only)

theorem noSpare_good {n : Nat} {c : Option Nat} {q : List Instr} {s : State} {p : Port} {u : Nat} (h : Good n c q s) :
    Good n c q (State.noSpare s p u) := by
  unfold State.noSpare
  try generalize List.range 4 = l0
  repeat' first
    | with_reducible assumption
    | (intro)
    | (extract_lets +onlyGivenNames s1; have hs1 : Good n c q s1 := by with_reducible assumption
       clear hs1; unfold s1; clear s1)
    | (extract_lets +onlyGivenNames s1; refine good_cut (n := n) (c := c) (q := q) s1 ?_ ?_ <;> [(unfold s1; clear s1); (intro hs1; clear_value s1; revert hs1; revert s1; intro t1 ht1)])
    | (extract_lets +onlyGivenNames x1; clear_value x1; revert x1; intro y1)
    | (extract_lets +onlyGivenNames s1; refine good_cut (n := n) (c := c) (q := q) s1 ?_ ?_ <;> [(unfold s1; clear s1); (intro hs1; refine good_ite ?_ ?_ <;> (clear_value s1; revert hs1; revert s1; intro t1 ht1))])
    | with_reducible apply modCnv_good
    | with_reducible apply cnvFaulty_good
    | with_reducible apply setFlag_good
    | with_reducible apply pulseP_good
    | fail_if_no_progress (with_reducible refine good_mk ?_ rfl rfl rfl rfl rfl rfl rfl rfl rfl)
    | (dsimp only)

theorem takeSpare_good {n : Nat} {c : Option Nat} {q : List Instr} {s : State} {p : Port} {phase : Nat} {a : Nat} (h : Good n c q s) :
    Good n c q (State.takeSpare s p phase a) := by
  unfold State.takeSpare
  repeat' first
    | with_reducible assumption
    | (intro)
    | with_reducible apply setFld_good
    | (dsimp only)

theorem startSpare_good {n : Nat} {c : Option Nat} {q : List Instr} {s : State} {p : Port} {phase : Nat} (h : Good n c q s) :
    Good n c q (State.startSpare s p phase) := by
  unfold State.startSpare
  repeat' first
    | with_reducible assumption
    | (intro)
    | (extract_lets +onlyGivenNames s1; have hs1 : Good n c q s1 := by with_reducible assumption
       clear hs1; unfold s1; clear s1)
    | (extract_lets +onlyGivenNames s1; refine good_cut (n := n) (c := c) (q := q) s1 ?_ ?_ <;> [(unfold s1; clear s1); (intro hs1; clear_value s1; revert hs1; revert s1; intro t1 ht1)])
    | (extract_lets +onlyGivenNames x1; clear_value x1; revert x1; intro y1)
    | (extract_lets +onlyGivenNames s1; refine good_cut (n := n) (c := c) (q := q) s1 ?_ ?_ <;> [(unfold s1; clear s1); (intro hs1; refine good_ite ?_ ?_ <;> (clear_value s1; revert hs1; revert s1; intro t1 ht1))])
    | with_reducible apply takeSpare_good
    | with_reducible apply pulseP_good
    | with_reducible apply setFlag_good
    | (split)
    | (dsimp only)

theorem countFault_good {n : Nat} {c : Option Nat} {q : List Instr} {s : State} {p : Port} {criteria : Nat} (h : Good n c q s) :
    Good n c q (State.countFault s p criteria) := by
  unfold State.countFault
  repeat' first
    | with_reducible assumption
    | (intro)
    | (extract_lets +onlyGivenNames s1; have hs1 : Good n c q s1 := by with_reducible assumption
       clear hs1; unfold s1; clear s1)
    | (extract_lets +onlyGivenNames s1; refine good_cut (n := n) (c := c) (q := q) s1 ?_ ?_ <;> [(unfold s1; clear s1); (intro hs1; clear_value s1; revert hs1; revert s1; intro t1 ht1)])
    | (extract_lets +onlyGivenNames x1; clear_value x1; revert x1; intro y1)
    | (extract_lets +onlyGivenNames s1; refine good_cut (n := n) (c := c) (q := q) s1 ?_ ?_ <;> [(unfold s1; clear s1); (intro hs1; refine good_ite ?_ ?_ <;> (clear_value s1; revert hs1; revert s1; intro t1 ht1))])
    | with_reducible apply bumpP_good
    | with_reducible apply good_ite
    | (split)
    | (refine good_ite ?_ ?_)
    | (dsimp only)

theorem spareFailed_good {n : Nat} {c : Option Nat} {q : List Instr} {s : State} {p : Port} {u : Nat} {criteria : Nat} (h : Good n c q s) :
    Good n c q (State.spareFailed s p u criteria) := by
  unfold State.spareFailed
  repeat' first
    | with_reducible assumption
    | (intro)
    | (extract_lets +onlyGivenNames s1; have hs1 : Good n c q s1 := by with_reducible assumption
       clear hs1; unfold s1; clear s1)
    | (extract_lets +onlyGivenNames s1; refine good_cut (n := n) (c := c) (q := q) s1 ?_ ?_ <;> [(unfold s1; clear s1); (intro hs1; clear_value s1; revert hs1; revert s1; intro t1 ht1)])
    | (extract_lets +onlyGivenNames x1; clear_value x1; revert x1; intro y1)
    | (extract_lets +onlyGivenNames s1; refine good_cut (n := n) (c := c) (q := q) s1 ?_ ?_ <;> [(unfold s1; clear s1); (intro hs1; refine good_ite ?_ ?_ <;> (clear_value s1; revert hs1; revert s1; intro t1 ht1))])
    | with_reducible apply countFault_good
    | with_reducible apply setFld_good
    | with_reducible apply cnvFaulty_good
    | with_reducible apply bumpP_good
    | with_reducible apply pulseP_good
    | with_reducible apply startSpare_good
    | with_reducible apply good_ite
    | (split)
    | (refine good_ite ?_ ?_)
    | (dsimp only)

theorem assignSpares_good {n : Nat} {c : Option Nat} {q : List Instr} {s : State} {p : Port} {new : Nat} {us as : List Nat}
    (h : Good n c q s) : Good n c q (s.assignSpares p new us as) := by
  induction us generalizing s as with
  | nil => exact h
  | cons u us ih =>
    cases as with
    | nil => exact ih (noSpare_good h)
    | cons a as =>
      unfold State.assignSpares
      dsimp only
      refine ih ?_
      split
      · exact pulseP_good (takeSpare_good h)
      · exact takeSpare_good h

theorem serveFault_good {n : Nat} {c : Option Nat} {q : List Instr} {s : State} {p : Port} {u : Nat} (h : Good n c q s) :
    Good n c q (State.serveFault s p u) := by
  unfold State.serveFault
  repeat' first
    | with_reducible assumption
    | (intro)
    | (extract_lets +onlyGivenNames s1; have hs1 : Good n c q s1 := by with_reducible assumption
       clear hs1; unfold s1; clear s1)
    | (extract_lets +onlyGivenNames s1; refine good_cut (n := n) (c := c) (q := q) s1 ?_ ?_ <;> [(unfold s1; clear s1); (intro hs1; clear_value s1; revert hs1; revert s1; intro t1 ht1)])
    | (extract_lets +onlyGivenNames x1; clear_value x1; revert x1; intro y1)
    | (extract_lets +onlyGivenNames s1; refine good_cut (n := n) (c := c) (q := q) s1 ?_ ?_ <;> [(unfold s1; clear s1); (intro hs1; refine good_ite ?_ ?_ <;> (clear_value s1; revert hs1; revert s1; intro t1 ht1))])
    | with_reducible apply setFld_good
    | with_reducible apply modCnv_good
    | with_reducible apply assignSpares_good
    | with_reducible apply noSpare_good
    | fail_if_no_progress (with_reducible refine good_mk ?_ rfl rfl rfl rfl rfl rfl rfl rfl rfl)
    | with_reducible apply good_foldl
    | with_reducible apply good_foldl_fst
    | with_reducible apply good_ite
    | (split)
    | (refine good_ite ?_ ?_)
    | (dsimp only)

theorem failUnit_good {n : Nat} {c : Option Nat} {q : List Instr} {s : State} {p : Port} {u : Nat} {criteria : Nat} (h : Good n c q s) :
    Good n c q (State.failUnit s p u criteria) := by
  unfold State.failUnit
  repeat' first
    | with_reducible assumption
    | (intro)
    | (extract_lets +onlyGivenNames s1; have hs1 : Good n c q s1 := by with_reducible assumption
       clear hs1; unfold s1; clear s1)
    | (extract_lets +onlyGivenNames s1; refine good_cut (n := n) (c := c) (q := q) s1 ?_ ?_ <;> [(unfold s1; clear s1); (intro hs1; clear_value s1; revert hs1; revert s1; intro t1 ht1)])
    | (extract_lets +onlyGivenNames x1; clear_value x1; revert x1; intro y1)
    | (extract_lets +onlyGivenNames s1; refine good_cut (n := n) (c := c) (q := q) s1 ?_ ?_ <;> [(unfold s1; clear s1); (intro hs1; refine good_ite ?_ ?_ <;> (clear_value s1; revert hs1; revert s1; intro t1 ht1))])
    | with_reducible apply countFault_good
    | with_reducible apply setFld_good
    | with_reducible apply serveFault_good
    | with_reducible apply cnvStatus_good
    | with_reducible apply updateCeiling_good
    | with_reducible apply cnvFaulty_good
    | with_reducible apply spareFailed_good
    | (split)
    | (dsimp only)

theorem execUnitFaultDetected_good {n : Nat} {c : Option Nat} {q : List Instr} {port : Port} {unit : Nat} {criteria : Nat} {s : State} (h : Good n c q s) :
    GoodOut n c q (execUnitFaultDetected port unit criteria s) := by
  unfold execUnitFaultDetected
  repeat' first
    | with_reducible assumption
    | (intro)
    | with_reducible apply good_next
    | with_reducible apply failUnit_good
    | with_reducible apply good_ite
    | (split)
    | (refine good_ite ?_ ?_)
    | (dsimp only)

theorem execCnvTestFail_good {n : Nat} {c : Option Nat} {q : List Instr} {src : Nat} {port : Port} {value : Nat} {s : State} (h : Good n c q s) :
    GoodOut n c q (execCnvTestFail src port value s) := by
  unfold execCnvTestFail
  repeat' first
    | with_reducible assumption
    | (intro)
    | (extract_lets +onlyGivenNames s1; have hs1 : Good n c q s1 := by with_reducible assumption
       clear hs1; unfold s1; clear s1)
    | (extract_lets +onlyGivenNames s1; refine good_cut (n := n) (c := c) (q := q) s1 ?_ ?_ <;> [(unfold s1; clear s1); (intro hs1; clear_value s1; revert hs1; revert s1; intro t1 ht1)])
    | (extract_lets +onlyGivenNames x1; clear_value x1; revert x1; intro y1)
    | (extract_lets +onlyGivenNames s1; refine good_cut (n := n) (c := c) (q := q) s1 ?_ ?_ <;> [(unfold s1; clear s1); (intro hs1; refine good_ite ?_ ?_ <;> (clear_value s1; revert hs1; revert s1; intro t1 ht1))])
    | with_reducible apply good_next
    | with_reducible apply accessed_good
    | with_reducible apply modCnv_good
    | with_reducible apply failUnit_good
    | fail_if_no_progress (with_reducible refine good_mk ?_ rfl rfl rfl rfl rfl rfl rfl rfl rfl)
    | with_reducible apply good_ite
    | (split)
    | (refine good_ite ?_ ?_)
    | (dsimp only)

theorem endSubstitutions_good {n : Nat} {c : Option Nat} {q : List Instr} {s : State} {p : Port} (h : Good n c q s) :
    Good n c q (State.endSubstitutions s p) := by
  unfold State.endSubstitutions
  repeat' first
    | with_reducible assumption
    | (intro)
    | (extract_lets +onlyGivenNames s1; have hs1 : Good n c q s1 := by with_reducible assumption
       clear hs1; unfold s1; clear s1)
    | (extract_lets +onlyGivenNames s1; refine good_cut (n := n) (c := c) (q := q) s1 ?_ ?_ <;> [(unfold s1; clear s1); (intro hs1; clear_value s1; revert hs1; revert s1; intro t1 ht1)])
    | (extract_lets +onlyGivenNames x1; clear_value x1; revert x1; intro y1)
    | (extract_lets +onlyGivenNames s1; refine good_cut (n := n) (c := c) (q := q) s1 ?_ ?_ <;> [(unfold s1; clear s1); (intro hs1; refine good_ite ?_ ?_ <;> (clear_value s1; revert hs1; revert s1; intro t1 ht1))])
    | with_reducible apply setFld_good
    | with_reducible apply cnvStatus_good
    | with_reducible apply good_foldl
    | with_reducible apply good_foldl_fst
    | with_reducible apply good_ite
    | (split)
    | (refine good_ite ?_ ?_)
    | (dsimp only)

theorem setCoef_good {n : Nat} {c : Option Nat} {q : List Instr} {s : State} {p : Port} {u : Nat} {est : Nat} {x : Int} (h : Good n c q s) :
    Good n c q (State.setCoef s p u est x) := by
  unfold State.setCoef
  repeat' first
    | with_reducible assumption
    | (intro)
    | (extract_lets +onlyGivenNames s1; have hs1 : Good n c q s1 := by with_reducible assumption
       clear hs1; unfold s1; clear s1)
    | (extract_lets +onlyGivenNames s1; refine good_cut (n := n) (c := c) (q := q) s1 ?_ ?_ <;> [(unfold s1; clear s1); (intro hs1; clear_value s1; revert hs1; revert s1; intro t1 ht1)])
    | (extract_lets +onlyGivenNames x1; clear_value x1; revert x1; intro y1)
    | (extract_lets +onlyGivenNames s1; refine good_cut (n := n) (c := c) (q := q) s1 ?_ ?_ <;> [(unfold s1; clear s1); (intro hs1; refine good_ite ?_ ?_ <;> (clear_value s1; revert hs1; revert s1; intro t1 ht1))])
    | with_reducible apply setFld_good
    | (split)
    | (dsimp only)

theorem margin_good {n : Nat} {c : Option Nat} {q : List Instr} {s : State} {p : Port} {u : Nat} (h : Good n c q s) :
    Good n c q (State.margin s p u) := by
  unfold State.margin
  try generalize List.range 4 = l0
  repeat' first
    | with_reducible assumption
    | (intro)
    | (extract_lets +onlyGivenNames s1; have hs1 : Good n c q s1 := by with_reducible assumption
       clear hs1; unfold s1; clear s1)
    | (extract_lets +onlyGivenNames s1; refine good_cut (n := n) (c := c) (q := q) s1 ?_ ?_ <;> [(unfold s1; clear s1); (intro hs1; clear_value s1; revert hs1; revert s1; intro t1 ht1)])
    | (extract_lets +onlyGivenNames x1; clear_value x1; revert x1; intro y1)
    | (extract_lets +onlyGivenNames s1; refine good_cut (n := n) (c := c) (q := q) s1 ?_ ?_ <;> [(unfold s1; clear s1); (intro hs1; refine good_ite ?_ ?_ <;> (clear_value s1; revert hs1; revert s1; intro t1 ht1))])
    | with_reducible apply setFlag_good
    | with_reducible apply pulseP_good
    | with_reducible apply good_ite
    | (split)
    | (refine good_ite ?_ ?_)
    | (dsimp only)

theorem setCoefs_good {n : Nat} {c : Option Nat} {q : List Instr} {s : State} {p : Port} {m : FgUnit} (h : Good n c q s) :
    Good n c q (State.setCoefs s p m) := by
  unfold State.setCoefs
  repeat' first
    | with_reducible assumption
    | (intro)
    | (extract_lets +onlyGivenNames s1; have hs1 : Good n c q s1 := by with_reducible assumption
       clear hs1; unfold s1; clear s1)
    | (extract_lets +onlyGivenNames s1; refine good_cut (n := n) (c := c) (q := q) s1 ?_ ?_ <;> [(unfold s1; clear s1); (intro hs1; clear_value s1; revert hs1; revert s1; intro t1 ht1)])
    | (extract_lets +onlyGivenNames x1; clear_value x1; revert x1; intro y1)
    | (extract_lets +onlyGivenNames s1; refine good_cut (n := n) (c := c) (q := q) s1 ?_ ?_ <;> [(unfold s1; clear s1); (intro hs1; refine good_ite ?_ ?_ <;> (clear_value s1; revert hs1; revert s1; intro t1 ht1))])
    | with_reducible apply setFld_good
    | (dsimp only)

theorem qualify_good {n : Nat} {c : Option Nat} {q : List Instr} {s : State} {p : Port} {est : Nat} {n' : Nat} (h : Good n c q s) :
    Good n c q (State.qualify s p est n') := by
  unfold State.qualify
  repeat' first
    | with_reducible assumption
    | (intro)
    | (extract_lets +onlyGivenNames s1; have hs1 : Good n c q s1 := by with_reducible assumption
       clear hs1; unfold s1; clear s1)
    | (extract_lets +onlyGivenNames s1; refine good_cut (n := n) (c := c) (q := q) s1 ?_ ?_ <;> [(unfold s1; clear s1); (intro hs1; clear_value s1; revert hs1; revert s1; intro t1 ht1)])
    | (extract_lets +onlyGivenNames x1; clear_value x1; revert x1; intro y1)
    | (extract_lets +onlyGivenNames s1; refine good_cut (n := n) (c := c) (q := q) s1 ?_ ?_ <;> [(unfold s1; clear s1); (intro hs1; refine good_ite ?_ ?_ <;> (clear_value s1; revert hs1; revert s1; intro t1 ht1))])
    | with_reducible apply modCnv_good
    | fail_if_no_progress (with_reducible refine good_mk ?_ rfl rfl rfl rfl rfl rfl rfl rfl rfl)
    | with_reducible apply good_foldl
    | with_reducible apply good_foldl_fst
    | (dsimp only)

theorem qualifyBurst_good {n : Nat} {c : Option Nat} {q : List Instr} {s : State} {p : Port} {slots : Nat} (h : Good n c q s) :
    Good n c q (State.qualifyBurst s p slots) := by
  unfold State.qualifyBurst
  repeat' first
    | with_reducible assumption
    | (intro)
    | with_reducible apply qualify_good
    | (dsimp only)

theorem estimate_good {n : Nat} {c : Option Nat} {q : List Instr} {s : State} {p : Port} {u : Nat} {est : Nat} {measure : Int} (h : Good n c q s) :
    Good n c q (State.estimate s p u est measure) := by
  unfold State.estimate
  repeat' first
    | with_reducible assumption
    | (intro)
    | (extract_lets +onlyGivenNames s1; have hs1 : Good n c q s1 := by with_reducible assumption
       clear hs1; unfold s1; clear s1)
    | (extract_lets +onlyGivenNames s1; refine good_cut (n := n) (c := c) (q := q) s1 ?_ ?_ <;> [(unfold s1; clear s1); (intro hs1; clear_value s1; revert hs1; revert s1; intro t1 ht1)])
    | (extract_lets +onlyGivenNames x1; clear_value x1; revert x1; intro y1)
    | (extract_lets +onlyGivenNames s1; refine good_cut (n := n) (c := c) (q := q) s1 ?_ ?_ <;> [(unfold s1; clear s1); (intro hs1; refine good_ite ?_ ?_ <;> (clear_value s1; revert hs1; revert s1; intro t1 ht1))])
    | with_reducible apply bumpP_good
    | with_reducible apply modCnv_good
    | with_reducible apply setCoef_good
    | fail_if_no_progress (with_reducible refine good_mk ?_ rfl rfl rfl rfl rfl rfl rfl rfl rfl)
    | with_reducible apply good_ite
    | (with_reducible apply good_fst; with_reducible assumption)
    | (split)
    | (refine good_ite ?_ ?_)
    | (dsimp only)

theorem estimates_good {n : Nat} {c : Option Nat} {q : List Instr} {s : State} {p : Port} {obs : CalObs} {live : List Nat} (h : Good n c q s) :
    Good n c q (State.estimates s p obs live) := by
  unfold State.estimates
  try generalize List.range 4 = l0
  repeat' first
    | with_reducible assumption
    | (intro)
    | (extract_lets +onlyGivenNames s1; have hs1 : Good n c q s1 := by with_reducible assumption
       clear hs1; unfold s1; clear s1)
    | (extract_lets +onlyGivenNames s1; refine good_cut (n := n) (c := c) (q := q) s1 ?_ ?_ <;> [(unfold s1; clear s1); (intro hs1; clear_value s1; revert hs1; revert s1; intro t1 ht1)])
    | (extract_lets +onlyGivenNames x1; clear_value x1; revert x1; intro y1)
    | (extract_lets +onlyGivenNames s1; refine good_cut (n := n) (c := c) (q := q) s1 ?_ ?_ <;> [(unfold s1; clear s1); (intro hs1; refine good_ite ?_ ?_ <;> (clear_value s1; revert hs1; revert s1; intro t1 ht1))])
    | with_reducible apply estimate_good
    | with_reducible apply modCnv_good
    | fail_if_no_progress (with_reducible refine good_mk ?_ rfl rfl rfl rfl rfl rfl rfl rfl rfl)
    | with_reducible apply good_foldl
    | with_reducible apply good_foldl_fst
    | (dsimp only)

theorem followStages_good {n : Nat} {c : Option Nat} {q : List Instr} {s : State} {p : Port} {l : List (Nat × List Int)} (h : Good n c q s) :
    Good n c q (State.followStages s p l) := by
  unfold State.followStages
  repeat' first
    | with_reducible assumption
    | (intro)
    | (extract_lets +onlyGivenNames s1; have hs1 : Good n c q s1 := by with_reducible assumption
       clear hs1; unfold s1; clear s1)
    | (extract_lets +onlyGivenNames s1; refine good_cut (n := n) (c := c) (q := q) s1 ?_ ?_ <;> [(unfold s1; clear s1); (intro hs1; clear_value s1; revert hs1; revert s1; intro t1 ht1)])
    | (extract_lets +onlyGivenNames x1; clear_value x1; revert x1; intro y1)
    | (extract_lets +onlyGivenNames s1; refine good_cut (n := n) (c := c) (q := q) s1 ?_ ?_ <;> [(unfold s1; clear s1); (intro hs1; refine good_ite ?_ ?_ <;> (clear_value s1; revert hs1; revert s1; intro t1 ht1))])
    | with_reducible apply modCnv_good
    | with_reducible apply stage_good
    | fail_if_no_progress (with_reducible refine good_mk ?_ rfl rfl rfl rfl rfl rfl rfl rfl rfl)
    | with_reducible apply good_foldl
    | with_reducible apply good_foldl_fst
    | with_reducible apply good_ite
    | (with_reducible apply good_fst; with_reducible assumption)
    | (split)
    | (refine good_ite ?_ ?_)
    | (dsimp only)

theorem trimSpare_good {n : Nat} {c : Option Nat} {q : List Instr} {s : State} {p : Port} {m : FgUnit} (h : Good n c q s) :
    Good n c q (State.trimSpare s p m) := by
  unfold State.trimSpare
  repeat' first
    | with_reducible assumption
    | (intro)
    | (extract_lets +onlyGivenNames s1; have hs1 : Good n c q s1 := by with_reducible assumption
       clear hs1; unfold s1; clear s1)
    | (extract_lets +onlyGivenNames s1; refine good_cut (n := n) (c := c) (q := q) s1 ?_ ?_ <;> [(unfold s1; clear s1); (intro hs1; clear_value s1; revert hs1; revert s1; intro t1 ht1)])
    | (extract_lets +onlyGivenNames x1; clear_value x1; revert x1; intro y1)
    | (extract_lets +onlyGivenNames s1; refine good_cut (n := n) (c := c) (q := q) s1 ?_ ?_ <;> [(unfold s1; clear s1); (intro hs1; refine good_ite ?_ ?_ <;> (clear_value s1; revert hs1; revert s1; intro t1 ht1))])
    | with_reducible apply setCoefs_good
    | with_reducible apply setCoef_good
    | with_reducible apply margin_good
    | (dsimp only)

theorem switchPhase_good {n : Nat} {c : Option Nat} {q : List Instr} {s : State} {p : Port} {phase : Nat} {a : Nat} (h : Good n c q s) :
    Good n c q (State.switchPhase s p phase a) := by
  unfold State.switchPhase
  repeat' first
    | with_reducible assumption
    | (intro)
    | (extract_lets +onlyGivenNames s1; have hs1 : Good n c q s1 := by with_reducible assumption
       clear hs1; unfold s1; clear s1)
    | (extract_lets +onlyGivenNames s1; refine good_cut (n := n) (c := c) (q := q) s1 ?_ ?_ <;> [(unfold s1; clear s1); (intro hs1; clear_value s1; revert hs1; revert s1; intro t1 ht1)])
    | (extract_lets +onlyGivenNames x1; clear_value x1; revert x1; intro y1)
    | (extract_lets +onlyGivenNames s1; refine good_cut (n := n) (c := c) (q := q) s1 ?_ ?_ <;> [(unfold s1; clear s1); (intro hs1; refine good_ite ?_ ?_ <;> (clear_value s1; revert hs1; revert s1; intro t1 ht1))])
    | with_reducible apply setFld_good
    | with_reducible apply modCnv_good
    | with_reducible apply cnvFaulty_good
    | with_reducible apply appendDelta_good
    | with_reducible apply bumpP_good
    | with_reducible apply pulseP_good
    | fail_if_no_progress (with_reducible refine good_mk ?_ rfl rfl rfl rfl rfl rfl rfl rfl rfl)
    | with_reducible apply good_ite
    | (split)
    | (refine good_ite ?_ ?_)
    | (dsimp only)

theorem spareWindow_good {n : Nat} {c : Option Nat} {q : List Instr} {s : State} {p : Port} {obs : CalObs} {a : Nat} (h : Good n c q s) :
    Good n c q (State.spareWindow s p obs a) := by
  unfold State.spareWindow
  repeat' first
    | with_reducible assumption
    | (intro)
    | (extract_lets +onlyGivenNames f1; refine good_cutf (n := n) (c := c) (q := q) f1 ?_ ?_ <;> [(unfold f1; clear f1); (intro hf1; clear_value f1)])
    | (extract_lets +onlyGivenNames s1; have hs1 : Good n c q s1 := by with_reducible assumption
       clear hs1; unfold s1; clear s1)
    | (extract_lets +onlyGivenNames s1; refine good_cut (n := n) (c := c) (q := q) s1 ?_ ?_ <;> [(unfold s1; clear s1); (intro hs1; clear_value s1; revert hs1; revert s1; intro t1 ht1)])
    | (extract_lets +onlyGivenNames x1; clear_value x1; revert x1; intro y1)
    | (extract_lets +onlyGivenNames s1; refine good_cut (n := n) (c := c) (q := q) s1 ?_ ?_ <;> [(unfold s1; clear s1); (intro hs1; refine good_ite ?_ ?_ <;> (clear_value s1; revert hs1; revert s1; intro t1 ht1))])
    | with_reducible apply hf1
    | with_reducible apply setFld_good
    | with_reducible apply spareFailed_good
    | with_reducible apply trimSpare_good
    | with_reducible apply switchPhase_good
    | with_reducible apply good_ite
    | (with_reducible apply good_fst; with_reducible assumption)
    | (split)
    | (refine good_ite ?_ ?_)
    | (dsimp only)

theorem holdTrim_good {n : Nat} {c : Option Nat} {q : List Instr} {s : State} {p : Port} {b : Bool} (h : Good n c q s) :
    Good n c q (State.holdTrim s p b) := by
  unfold State.holdTrim
  repeat' first
    | with_reducible assumption
    | (intro)
    | (extract_lets +onlyGivenNames s1; have hs1 : Good n c q s1 := by with_reducible assumption
       clear hs1; unfold s1; clear s1)
    | (extract_lets +onlyGivenNames s1; refine good_cut (n := n) (c := c) (q := q) s1 ?_ ?_ <;> [(unfold s1; clear s1); (intro hs1; clear_value s1; revert hs1; revert s1; intro t1 ht1)])
    | (extract_lets +onlyGivenNames x1; clear_value x1; revert x1; intro y1)
    | (extract_lets +onlyGivenNames s1; refine good_cut (n := n) (c := c) (q := q) s1 ?_ ?_ <;> [(unfold s1; clear s1); (intro hs1; refine good_ite ?_ ?_ <;> (clear_value s1; revert hs1; revert s1; intro t1 ht1))])
    | with_reducible apply setFlag_good
    | with_reducible apply pulseP_good
    | with_reducible apply good_ite
    | (split)
    | (refine good_ite ?_ ?_)
    | (dsimp only)

theorem refTrim_good {n : Nat} {c : Option Nat} {q : List Instr} {s : State} {p : Port} (h : Good n c q s) :
    Good n c q (State.refTrim s p) := by
  unfold State.refTrim
  repeat' first
    | with_reducible assumption
    | (intro)
    | (extract_lets +onlyGivenNames s1; have hs1 : Good n c q s1 := by with_reducible assumption
       clear hs1; unfold s1; clear s1)
    | (extract_lets +onlyGivenNames s1; refine good_cut (n := n) (c := c) (q := q) s1 ?_ ?_ <;> [(unfold s1; clear s1); (intro hs1; clear_value s1; revert hs1; revert s1; intro t1 ht1)])
    | (extract_lets +onlyGivenNames x1; clear_value x1; revert x1; intro y1)
    | (extract_lets +onlyGivenNames s1; refine good_cut (n := n) (c := c) (q := q) s1 ?_ ?_ <;> [(unfold s1; clear s1); (intro hs1; refine good_ite ?_ ?_ <;> (clear_value s1; revert hs1; revert s1; intro t1 ht1))])
    | with_reducible apply holdTrim_good
    | with_reducible apply setFld_good
    | with_reducible apply good_ite
    | (split)
    | (refine good_ite ?_ ?_)
    | (dsimp only)

theorem calibrate_good {n : Nat} {c : Option Nat} {q : List Instr} {s : State} {p : Port} {obs : CalObs} (h : Good n c q s) :
    Good n c q (State.calibrate s p obs) := by
  unfold State.calibrate
  repeat' first
    | with_reducible assumption
    | (intro)
    | (extract_lets +onlyGivenNames s1; have hs1 : Good n c q s1 := by with_reducible assumption
       clear hs1; unfold s1; clear s1)
    | (extract_lets +onlyGivenNames s1; refine good_cut (n := n) (c := c) (q := q) s1 ?_ ?_ <;> [(unfold s1; clear s1); (intro hs1; clear_value s1; revert hs1; revert s1; intro t1 ht1)])
    | (extract_lets +onlyGivenNames x1; clear_value x1; revert x1; intro y1)
    | (extract_lets +onlyGivenNames s1; refine good_cut (n := n) (c := c) (q := q) s1 ?_ ?_ <;> [(unfold s1; clear s1); (intro hs1; refine good_ite ?_ ?_ <;> (clear_value s1; revert hs1; revert s1; intro t1 ht1))])
    | with_reducible apply estimates_good
    | with_reducible apply margin_good
    | with_reducible apply refTrim_good
    | with_reducible apply spareWindow_good
    | with_reducible apply failUnit_good
    | with_reducible apply cnvStatus_good
    | with_reducible apply updateCeiling_good
    | with_reducible apply good_foldl
    | with_reducible apply good_foldl_fst
    | (dsimp only)

theorem execCalWindowUpdate_good {n : Nat} {c : Option Nat} {q : List Instr} {port : Port} {obs : CalObs} {s : State} (h : Good n c q s) :
    GoodOut n c q (execCalWindowUpdate port obs s) := by
  unfold execCalWindowUpdate
  repeat' first
    | with_reducible assumption
    | (intro)
    | (extract_lets +onlyGivenNames s1; have hs1 : Good n c q s1 := by with_reducible assumption
       clear hs1; unfold s1; clear s1)
    | (extract_lets +onlyGivenNames s1; refine good_cut (n := n) (c := c) (q := q) s1 ?_ ?_ <;> [(unfold s1; clear s1); (intro hs1; clear_value s1; revert hs1; revert s1; intro t1 ht1)])
    | (extract_lets +onlyGivenNames x1; clear_value x1; revert x1; intro y1)
    | (extract_lets +onlyGivenNames s1; refine good_cut (n := n) (c := c) (q := q) s1 ?_ ?_ <;> [(unfold s1; clear s1); (intro hs1; refine good_ite ?_ ?_ <;> (clear_value s1; revert hs1; revert s1; intro t1 ht1))])
    | with_reducible apply good_next
    | with_reducible apply bumpP_good
    | with_reducible apply qualify_good
    | with_reducible apply setFld_good
    | with_reducible apply followStages_good
    | with_reducible apply calibrate_good
    | with_reducible apply good_ite
    | (with_reducible apply good_fst; with_reducible assumption)
    | (split)
    | (refine good_ite ?_ ?_)
    | (dsimp only)

theorem cnvTick_good {n : Nat} {c : Option Nat} {q : List Instr} {s : State} {p : Port} {cal : Option (Nat × Nat)} (h : Good n c q s) :
    Good n c q (State.cnvTick s p cal) := by
  unfold State.cnvTick
  repeat' first
    | with_reducible assumption
    | (intro)
    | (extract_lets +onlyGivenNames s1; have hs1 : Good n c q s1 := by with_reducible assumption
       clear hs1; unfold s1; clear s1)
    | (extract_lets +onlyGivenNames s1; refine good_cut (n := n) (c := c) (q := q) s1 ?_ ?_ <;> [(unfold s1; clear s1); (intro hs1; clear_value s1; revert hs1; revert s1; intro t1 ht1)])
    | (extract_lets +onlyGivenNames x1; clear_value x1; revert x1; intro y1)
    | (extract_lets +onlyGivenNames s1; refine good_cut (n := n) (c := c) (q := q) s1 ?_ ?_ <;> [(unfold s1; clear s1); (intro hs1; refine good_ite ?_ ?_ <;> (clear_value s1; revert hs1; revert s1; intro t1 ht1))])
    | with_reducible apply qualify_good
    | with_reducible apply modCnv_good
    | fail_if_no_progress (with_reducible refine good_mk ?_ rfl rfl rfl rfl rfl rfl rfl rfl rfl)
    | with_reducible apply good_ite
    | (split)
    | (refine good_ite ?_ ?_)
    | (dsimp only)

theorem suspendSubstitutions_good {n : Nat} {c : Option Nat} {q : List Instr} {s : State} {p : Port} (h : Good n c q s) :
    Good n c q (State.suspendSubstitutions s p) := by
  unfold State.suspendSubstitutions
  repeat' first
    | with_reducible assumption
    | (intro)
    | (extract_lets +onlyGivenNames s1; have hs1 : Good n c q s1 := by with_reducible assumption
       clear hs1; unfold s1; clear s1)
    | (extract_lets +onlyGivenNames s1; refine good_cut (n := n) (c := c) (q := q) s1 ?_ ?_ <;> [(unfold s1; clear s1); (intro hs1; clear_value s1; revert hs1; revert s1; intro t1 ht1)])
    | (extract_lets +onlyGivenNames x1; clear_value x1; revert x1; intro y1)
    | (extract_lets +onlyGivenNames s1; refine good_cut (n := n) (c := c) (q := q) s1 ?_ ?_ <;> [(unfold s1; clear s1); (intro hs1; refine good_ite ?_ ?_ <;> (clear_value s1; revert hs1; revert s1; intro t1 ht1))])
    | with_reducible apply endSubstitutions_good
    | with_reducible apply modCnv_good
    | fail_if_no_progress (with_reducible refine good_mk ?_ rfl rfl rfl rfl rfl rfl rfl rfl rfl)
    | with_reducible apply good_ite
    | (with_reducible apply good_fst; with_reducible assumption)
    | (split)
    | (refine good_ite ?_ ?_)
    | (dsimp only)

theorem startFg_good {n : Nat} {c : Option Nat} {q : List Instr} {s : State} {p : Port} (h : Good n c q s) :
    Good n c q (State.startFg s p) := by
  unfold State.startFg
  repeat' first
    | with_reducible assumption
    | (intro)
    | (extract_lets +onlyGivenNames s1; have hs1 : Good n c q s1 := by with_reducible assumption
       clear hs1; unfold s1; clear s1)
    | (extract_lets +onlyGivenNames s1; refine good_cut (n := n) (c := c) (q := q) s1 ?_ ?_ <;> [(unfold s1; clear s1); (intro hs1; clear_value s1; revert hs1; revert s1; intro t1 ht1)])
    | (extract_lets +onlyGivenNames x1; clear_value x1; revert x1; intro y1)
    | (extract_lets +onlyGivenNames s1; refine good_cut (n := n) (c := c) (q := q) s1 ?_ ?_ <;> [(unfold s1; clear s1); (intro hs1; refine good_ite ?_ ?_ <;> (clear_value s1; revert hs1; revert s1; intro t1 ht1))])
    | with_reducible apply endSubstitutions_good
    | with_reducible apply modCnv_good
    | with_reducible apply setFlag_good
    | fail_if_no_progress (with_reducible refine good_mk ?_ rfl rfl rfl rfl rfl rfl rfl rfl rfl)
    | (dsimp only)

theorem execFgCalReq_good {n : Nat} {c : Option Nat} {q : List Instr} {src : Nat} {port : Port} {value : Nat} {s : State} (h : Good n c q s) :
    GoodOut n c q (execFgCalReq src port value s) := by
  unfold execFgCalReq
  repeat' first
    | with_reducible assumption
    | (intro)
    | (extract_lets +onlyGivenNames s1; have hs1 : Good n c q s1 := by with_reducible assumption
       clear hs1; unfold s1; clear s1)
    | (extract_lets +onlyGivenNames s1; refine good_cut (n := n) (c := c) (q := q) s1 ?_ ?_ <;> [(unfold s1; clear s1); (intro hs1; clear_value s1; revert hs1; revert s1; intro t1 ht1)])
    | (extract_lets +onlyGivenNames x1; clear_value x1; revert x1; intro y1)
    | (extract_lets +onlyGivenNames s1; refine good_cut (n := n) (c := c) (q := q) s1 ?_ ?_ <;> [(unfold s1; clear s1); (intro hs1; refine good_ite ?_ ?_ <;> (clear_value s1; revert hs1; revert s1; intro t1 ht1))])
    | with_reducible apply good_next
    | with_reducible apply accessed_good
    | with_reducible apply setFld_good
    | with_reducible apply startFg_good
    | with_reducible apply modCnv_good
    | with_reducible apply setFlag_good
    | fail_if_no_progress (with_reducible refine good_mk ?_ rfl rfl rfl rfl rfl rfl rfl rfl rfl)
    | with_reducible apply good_ite
    | (split)
    | (refine good_ite ?_ ?_)
    | (dsimp only)

theorem assignPhases_good {n : Nat} {c : Option Nat} {q : List Instr} {s : State} {p : Port} {units : List FgUnit} {good : List Nat} {bad : List Nat} {held : List (Nat × Nat)} (h : Good n c q s) :
    Good n c q (State.assignPhases s p units good bad held).1 := by
  unfold State.assignPhases
  try generalize List.range 32 = l0
  repeat' first
    | with_reducible assumption
    | (intro)
    | (extract_lets +onlyGivenNames s1; have hs1 : Good n c q s1 := by with_reducible assumption
       clear hs1; unfold s1; clear s1)
    | (extract_lets +onlyGivenNames s1; refine good_cut (n := n) (c := c) (q := q) s1 ?_ ?_ <;> [(unfold s1; clear s1); (intro hs1; clear_value s1; revert hs1; revert s1; intro t1 ht1)])
    | (extract_lets +onlyGivenNames x1; clear_value x1; revert x1; intro y1)
    | (extract_lets +onlyGivenNames s1; refine good_cut (n := n) (c := c) (q := q) s1 ?_ ?_ <;> [(unfold s1; clear s1); (intro hs1; refine good_ite ?_ ?_ <;> (clear_value s1; revert hs1; revert s1; intro t1 ht1))])
    | with_reducible apply setFld_good
    | with_reducible apply bumpP_good
    | with_reducible apply pulseP_good
    | with_reducible apply good_foldl
    | with_reducible apply good_foldl_fst
    | with_reducible apply good_ite
    | (with_reducible apply good_fst; with_reducible assumption)
    | (split)
    | (refine good_ite ?_ ?_)
    | (dsimp only)

theorem foreground_good {n : Nat} {c : Option Nat} {q : List Instr} {s : State} {p : Port} {units : List FgUnit} (h : Good n c q s) :
    Good n c q (State.foreground s p units) := by
  unfold State.foreground
  try generalize List.range 36 = l0
  repeat' first
    | with_reducible assumption
    | (intro)
    | (extract_lets +onlyGivenNames s1; have hs1 : Good n c q s1 := by with_reducible assumption
       clear hs1; unfold s1; clear s1)
    | (extract_lets +onlyGivenNames s1; refine good_cut (n := n) (c := c) (q := q) s1 ?_ ?_ <;> [(unfold s1; clear s1); (intro hs1; clear_value s1; revert hs1; revert s1; intro t1 ht1)])
    | (extract_lets +onlyGivenNames x1; clear_value x1; revert x1; intro y1)
    | (extract_lets +onlyGivenNames s1; refine good_cut (n := n) (c := c) (q := q) s1 ?_ ?_ <;> [(unfold s1; clear s1); (intro hs1; refine good_ite ?_ ?_ <;> (clear_value s1; revert hs1; revert s1; intro t1 ht1))])
    | with_reducible apply modCnv_good
    | with_reducible apply stage_good
    | with_reducible apply setCoefs_good
    | with_reducible apply cnvFaulty_good
    | with_reducible apply appendDelta_good
    | with_reducible apply bumpP_good
    | with_reducible apply setFld_good
    | with_reducible apply assignPhases_good
    | with_reducible apply takeSpare_good
    | with_reducible apply pulseP_good
    | with_reducible apply margin_good
    | with_reducible apply setFlag_good
    | with_reducible apply cnvStatus_good
    | with_reducible apply updateCeiling_good
    | fail_if_no_progress (with_reducible refine good_mk ?_ rfl rfl rfl rfl rfl rfl rfl rfl rfl)
    | with_reducible apply good_foldl
    | with_reducible apply good_foldl_fst
    | with_reducible apply good_ite
    | (with_reducible apply good_fst; with_reducible assumption)
    | (split)
    | (refine good_ite ?_ ?_)
    | (dsimp only)

theorem execFgCalDone_good {n : Nat} {c : Option Nat} {q : List Instr} {port : Port} {units : List FgUnit} {s : State} (h : Good n c q s) :
    GoodOut n c q (execFgCalDone port units s) := by
  unfold execFgCalDone
  repeat' first
    | with_reducible assumption
    | (intro)
    | with_reducible apply good_next
    | with_reducible apply foreground_good
    | with_reducible apply good_ite
    | (split)
    | (refine good_ite ?_ ?_)
    | (dsimp only)

theorem skipCal_good {n : Nat} {c : Option Nat} {q : List Instr} {s : State} {p : Port} (h : Good n c q s) :
    Good n c q (State.skipCal s p) := by
  unfold State.skipCal
  repeat' first
    | with_reducible assumption
    | (intro)
    | with_reducible apply addFldSat_good
    | with_reducible apply bumpP_good
    | with_reducible apply pulseP_good
    | (dsimp only)

end Sys2Proof.Machine
end

