-- ==== Sys2Proof/Laws/GoodSluice.lean ====
section
/-!
SUPPORT. What the operations of Machine/Sluice.lean keep.
-/
set_option linter.all false
set_option linter.unreachableTactic false
set_option linter.unusedTactic false
namespace Sys2Proof.Machine

theorem setLive_good {n : Nat} {c : Option Nat} {q : List Instr} {s : State} {p : Port} {at_ : Nat} {x : LiveSet} (h : Good n c q s) :
    Good n c q (State.setLive s p at_ x) := by
  unfold State.setLive
  repeat' first
    | with_reducible assumption
    | (intro)
    | (extract_lets +onlyGivenNames s1; have hs1 : Good n c q s1 := by with_reducible assumption
       clear hs1; unfold s1; clear s1)
    | (extract_lets +onlyGivenNames s1; refine good_cut (n := n) (c := c) (q := q) s1 ?_ ?_ <;> [(unfold s1; clear s1); (intro hs1; clear_value s1; revert hs1; revert s1; intro t1 ht1)])
    | (extract_lets +onlyGivenNames x1; clear_value x1; revert x1; intro y1)
    | (extract_lets +onlyGivenNames s1; refine good_cut (n := n) (c := c) (q := q) s1 ?_ ?_ <;> [(unfold s1; clear s1); (intro hs1; refine good_ite ?_ ?_ <;> (clear_value s1; revert hs1; revert s1; intro t1 ht1))])
    | with_reducible apply modRake_good
    | with_reducible apply modXtl_good
    | fail_if_no_progress (with_reducible refine good_mk ?_ rfl rfl rfl rfl rfl rfl rfl rfl rfl)
    | with_reducible apply good_ite
    | (with_reducible apply good_fst; with_reducible assumption)
    | (split)
    | (refine good_ite ?_ ?_)
    | (dsimp only)

theorem loadLive_good {n : Nat} {c : Option Nat} {q : List Instr} {s : State} {p : Port} {at_ : Nat} {x : Preset} (h : Good n c q s) :
    Good n c q (State.loadLive s p at_ x) := by
  unfold State.loadLive
  repeat' first
    | with_reducible assumption
    | (intro)
    | with_reducible apply setLive_good
    | (with_reducible apply good_fst; with_reducible assumption)
    | (dsimp only)

theorem execPresetStaging_good {n : Nat} {c : Option Nat} {q : List Instr} {port : Port} {s : State} (h : Good n c q s) :
    GoodOut n c q (execPresetStaging port s) := by
  unfold execPresetStaging
  repeat' first
    | with_reducible assumption
    | (intro)
    | (extract_lets +onlyGivenNames s1; have hs1 : Good n c q s1 := by with_reducible assumption
       clear hs1; unfold s1; clear s1)
    | (extract_lets +onlyGivenNames s1; refine good_cut (n := n) (c := c) (q := q) s1 ?_ ?_ <;> [(unfold s1; clear s1); (intro hs1; clear_value s1; revert hs1; revert s1; intro t1 ht1)])
    | (extract_lets +onlyGivenNames x1; clear_value x1; revert x1; intro y1)
    | (extract_lets +onlyGivenNames s1; refine good_cut (n := n) (c := c) (q := q) s1 ?_ ?_ <;> [(unfold s1; clear s1); (intro hs1; refine good_ite ?_ ?_ <;> (clear_value s1; revert hs1; revert s1; intro t1 ht1))])
    | with_reducible apply good_next
    | with_reducible apply memRead_good
    | with_reducible apply memWrite_good
    | with_reducible apply modSlu_good
    | fail_if_no_progress (with_reducible refine good_mk ?_ rfl rfl rfl rfl rfl rfl rfl rfl rfl)
    | with_reducible apply good_foldl
    | with_reducible apply good_foldl_fst
    | (with_reducible apply good_fst; with_reducible assumption)
    | (dsimp only)

theorem pulsePins_good {n : Nat} {c : Option Nat} {q : List Instr} {s : State} {p : Port} (h : Good n c q s) :
    Good n c q (State.pulsePins s p) := by
  unfold State.pulsePins
  repeat' first
    | with_reducible assumption
    | (intro)
    | with_reducible apply emit_good
    | with_reducible apply pulse_good
    | (dsimp only)

theorem rearm_good {n : Nat} {c : Option Nat} {q : List Instr} {s : State} {p : Port} {c' : Chan} {at_ : Nat} {st : ChanState} (h : Good n c q s) :
    Good n c q (State.rearm s p c' at_ st) := by
  unfold State.rearm
  repeat' first
    | with_reducible assumption
    | (intro)
    | (extract_lets +onlyGivenNames s1; have hs1 : Good n c q s1 := by with_reducible assumption
       clear hs1; unfold s1; clear s1)
    | (extract_lets +onlyGivenNames s1; refine good_cut (n := n) (c := c) (q := q) s1 ?_ ?_ <;> [(unfold s1; clear s1); (intro hs1; clear_value s1; revert hs1; revert s1; intro t1 ht1)])
    | (extract_lets +onlyGivenNames x1; clear_value x1; revert x1; intro y1)
    | (extract_lets +onlyGivenNames s1; refine good_cut (n := n) (c := c) (q := q) s1 ?_ ?_ <;> [(unfold s1; clear s1); (intro hs1; refine good_ite ?_ ?_ <;> (clear_value s1; revert hs1; revert s1; intro t1 ht1))])
    | with_reducible apply setChan_good
    | with_reducible apply loadLive_good
    | with_reducible apply pulsePins_good
    | fail_if_no_progress (with_reducible refine good_mk ?_ rfl rfl rfl rfl rfl rfl rfl rfl rfl)
    | with_reducible apply good_ite
    | (with_reducible apply good_fst; with_reducible assumption)
    | (split)
    | (refine good_ite ?_ ?_)
    | (dsimp only)

theorem settleChan_good {n : Nat} {c : Option Nat} {q : List Instr} {s : State} {p : Port} {now : Nat} {c' : Chan} (h : Good n c q s) :
    Good n c q (State.settleChan s p now c') := by
  unfold State.settleChan
  repeat' first
    | with_reducible assumption
    | (intro)
    | (extract_lets +onlyGivenNames s1; have hs1 : Good n c q s1 := by with_reducible assumption
       clear hs1; unfold s1; clear s1)
    | (extract_lets +onlyGivenNames s1; refine good_cut (n := n) (c := c) (q := q) s1 ?_ ?_ <;> [(unfold s1; clear s1); (intro hs1; clear_value s1; revert hs1; revert s1; intro t1 ht1)])
    | (extract_lets +onlyGivenNames x1; clear_value x1; revert x1; intro y1)
    | (extract_lets +onlyGivenNames s1; refine good_cut (n := n) (c := c) (q := q) s1 ?_ ?_ <;> [(unfold s1; clear s1); (intro hs1; refine good_ite ?_ ?_ <;> (clear_value s1; revert hs1; revert s1; intro t1 ht1))])
    | with_reducible apply setChan_good
    | with_reducible apply rearm_good
    | fail_if_no_progress (with_reducible refine good_mk ?_ rfl rfl rfl rfl rfl rfl rfl rfl rfl)
    | with_reducible apply good_ite
    | (with_reducible apply good_fst; with_reducible assumption)
    | (split)
    | (refine good_ite ?_ ?_)
    | (dsimp only)

theorem settle_good {n : Nat} {c : Option Nat} {q : List Instr} {s : State} {p : Port} {now : Nat} (h : Good n c q s) :
    Good n c q (State.settle s p now) := by
  unfold State.settle
  repeat' first
    | with_reducible assumption
    | (intro)
    | with_reducible apply settleChan_good
    | (dsimp only)

theorem settleAt_good {n : Nat} {c : Option Nat} {q : List Instr} {s : State} {p : Port} {c' : Chan} {at_ : Nat} (h : Good n c q s) :
    Good n c q (State.settleAt s p c' at_) := by
  unfold State.settleAt
  repeat' first
    | with_reducible assumption
    | (intro)
    | with_reducible apply settle_good
    | (dsimp only)

theorem beginBurst_good {n : Nat} {c : Option Nat} {q : List Instr} {s : State} {p : Port} {c' : Chan} {base : SluChan} {preset : Preset} {missed : Bool} (h : Good n c q s) :
    Good n c q (State.beginBurst s p c' base preset missed) := by
  unfold State.beginBurst
  repeat' first
    | with_reducible assumption
    | (intro)
    | (extract_lets +onlyGivenNames s1; have hs1 : Good n c q s1 := by with_reducible assumption
       clear hs1; unfold s1; clear s1)
    | (extract_lets +onlyGivenNames s1; refine good_cut (n := n) (c := c) (q := q) s1 ?_ ?_ <;> [(unfold s1; clear s1); (intro hs1; clear_value s1; revert hs1; revert s1; intro t1 ht1)])
    | (extract_lets +onlyGivenNames x1; clear_value x1; revert x1; intro y1)
    | (extract_lets +onlyGivenNames s1; refine good_cut (n := n) (c := c) (q := q) s1 ?_ ?_ <;> [(unfold s1; clear s1); (intro hs1; refine good_ite ?_ ?_ <;> (clear_value s1; revert hs1; revert s1; intro t1 ht1))])
    | with_reducible apply setChan_good
    | with_reducible apply modSlu_good
    | with_reducible apply loadLive_good
    | with_reducible apply pulsePins_good
    | with_reducible apply settle_good
    | fail_if_no_progress (with_reducible refine good_mk ?_ rfl rfl rfl rfl rfl rfl rfl rfl rfl)
    | with_reducible apply good_ite
    | (with_reducible apply good_fst; with_reducible assumption)
    | (split)
    | (refine good_ite ?_ ?_)
    | (dsimp only)

theorem execBurstGuardStart_good {n : Nat} {c : Option Nat} {q : List Instr} {port : Port} {index : Nat} {s : State} (h : Good n c q s) :
    GoodOut n c q (execBurstGuardStart port index s) := by
  unfold execBurstGuardStart
  repeat' first
    | with_reducible assumption
    | (intro)
    | (extract_lets +onlyGivenNames s1; have hs1 : Good n c q s1 := by with_reducible assumption
       clear hs1; unfold s1; clear s1)
    | (extract_lets +onlyGivenNames s1; refine good_cut (n := n) (c := c) (q := q) s1 ?_ ?_ <;> [(unfold s1; clear s1); (intro hs1; clear_value s1; revert hs1; revert s1; intro t1 ht1)])
    | (extract_lets +onlyGivenNames x1; clear_value x1; revert x1; intro y1)
    | (extract_lets +onlyGivenNames s1; refine good_cut (n := n) (c := c) (q := q) s1 ?_ ?_ <;> [(unfold s1; clear s1); (intro hs1; refine good_ite ?_ ?_ <;> (clear_value s1; revert hs1; revert s1; intro t1 ht1))])
    | with_reducible apply good_next
    | with_reducible apply settle_good
    | with_reducible apply bumpP_good
    | with_reducible apply modSlu_good
    | with_reducible apply acctEntry_good
    | with_reducible apply setChan_good
    | with_reducible apply lastBurst_good
    | with_reducible apply consumePoison_good
    | with_reducible apply fencePort_good
    | with_reducible apply useDie_good
    | with_reducible apply beginBurst_good
    | with_reducible apply pulseP_good
    | fail_if_no_progress (with_reducible refine good_mk ?_ rfl rfl rfl rfl rfl rfl rfl rfl rfl)
    | with_reducible apply good_ite
    | (with_reducible apply good_fst; with_reducible assumption)
    | (split)
    | (refine good_ite ?_ ?_)
    | (dsimp only)

theorem spendMetric_good {n : Nat} {c : Option Nat} {q : List Instr} {s : State} {y : List Int} (h : Good n c q s) :
    Good n c q (State.spendMetric s y) := by
  unfold State.spendMetric
  repeat' first
    | with_reducible assumption
    | (intro)
    | with_reducible apply nextOpen_good
    | with_reducible apply good_ite
    | (split)
    | (refine good_ite ?_ ?_)
    | (dsimp only)

theorem execAgcCommand_good {n : Nat} {c : Option Nat} {q : List Instr} {port : Port} {chan : Chan} {cycle : Nat} {codes : List Int} {s : State} (h : Good n c q s) :
    GoodOut n c q (execAgcCommand port chan cycle codes s) := by
  unfold execAgcCommand
  repeat' first
    | with_reducible assumption
    | (intro)
    | (extract_lets +onlyGivenNames s1; have hs1 : Good n c q s1 := by with_reducible assumption
       clear hs1; unfold s1; clear s1)
    | (extract_lets +onlyGivenNames s1; refine good_cut (n := n) (c := c) (q := q) s1 ?_ ?_ <;> [(unfold s1; clear s1); (intro hs1; clear_value s1; revert hs1; revert s1; intro t1 ht1)])
    | (extract_lets +onlyGivenNames x1; clear_value x1; revert x1; intro y1)
    | (extract_lets +onlyGivenNames s1; refine good_cut (n := n) (c := c) (q := q) s1 ?_ ?_ <;> [(unfold s1; clear s1); (intro hs1; refine good_ite ?_ ?_ <;> (clear_value s1; revert hs1; revert s1; intro t1 ht1))])
    | with_reducible apply good_next
    | with_reducible apply settle_good
    | with_reducible apply level_good
    | with_reducible apply setChan_good
    | fail_if_no_progress (with_reducible refine good_mk ?_ rfl rfl rfl rfl rfl rfl rfl rfl rfl)
    | with_reducible apply good_ite
    | (with_reducible apply good_fst; with_reducible assumption)
    | (split)
    | (refine good_ite ?_ ?_)
    | (dsimp only)

theorem bumpBurst_good {n : Nat} {c : Option Nat} {q : List Instr} {s : State} {p : Port} {x : SluChan} {off : Nat} (h : Good n c q s) :
    Good n c q (State.bumpBurst s p x off) := by
  unfold State.bumpBurst
  repeat' first
    | with_reducible assumption
    | (intro)
    | with_reducible apply bumpP_good
    | with_reducible apply good_ite
    | (split)
    | (refine good_ite ?_ ?_)
    | (dsimp only)

theorem execPrimaryDetection_good {n : Nat} {c : Option Nat} {q : List Instr} {port : Port} {chan : Chan} {position : Nat} {codes : List Int} {sdLow : Bool} {s : State} (h : Good n c q s) :
    GoodOut n c q (execPrimaryDetection port chan position codes sdLow s) := by
  unfold execPrimaryDetection
  repeat' first
    | with_reducible assumption
    | (intro)
    | (extract_lets +onlyGivenNames s1; have hs1 : Good n c q s1 := by with_reducible assumption
       clear hs1; unfold s1; clear s1)
    | (extract_lets +onlyGivenNames s1; refine good_cut (n := n) (c := c) (q := q) s1 ?_ ?_ <;> [(unfold s1; clear s1); (intro hs1; clear_value s1; revert hs1; revert s1; intro t1 ht1)])
    | (extract_lets +onlyGivenNames x1; clear_value x1; revert x1; intro y1)
    | (extract_lets +onlyGivenNames s1; refine good_cut (n := n) (c := c) (q := q) s1 ?_ ?_ <;> [(unfold s1; clear s1); (intro hs1; refine good_ite ?_ ?_ <;> (clear_value s1; revert hs1; revert s1; intro t1 ht1))])
    | with_reducible apply good_next
    | with_reducible apply settleAt_good
    | with_reducible apply spendMetric_good
    | with_reducible apply setChan_good
    | with_reducible apply bumpBurst_good
    | fail_if_no_progress (with_reducible refine good_mk ?_ rfl rfl rfl rfl rfl rfl rfl rfl rfl)
    | with_reducible apply good_ite
    | (with_reducible apply good_fst; with_reducible assumption)
    | (split)
    | (refine good_ite ?_ ?_)
    | (dsimp only)

theorem execPreambleTakeover_good {n : Nat} {c : Option Nat} {q : List Instr} {port : Port} {chan : Chan} {position : Nat} {codes : List Int} {sdLow : Bool} {s : State} (h : Good n c q s) :
    GoodOut n c q (execPreambleTakeover port chan position codes sdLow s) := by
  unfold execPreambleTakeover
  repeat' first
    | with_reducible assumption
    | (intro)
    | (extract_lets +onlyGivenNames s1; have hs1 : Good n c q s1 := by with_reducible assumption
       clear hs1; unfold s1; clear s1)
    | (extract_lets +onlyGivenNames s1; refine good_cut (n := n) (c := c) (q := q) s1 ?_ ?_ <;> [(unfold s1; clear s1); (intro hs1; clear_value s1; revert hs1; revert s1; intro t1 ht1)])
    | (extract_lets +onlyGivenNames x1; clear_value x1; revert x1; intro y1)
    | (extract_lets +onlyGivenNames s1; refine good_cut (n := n) (c := c) (q := q) s1 ?_ ?_ <;> [(unfold s1; clear s1); (intro hs1; refine good_ite ?_ ?_ <;> (clear_value s1; revert hs1; revert s1; intro t1 ht1))])
    | with_reducible apply good_next
    | with_reducible apply settleAt_good
    | with_reducible apply spendMetric_good
    | with_reducible apply setChan_good
    | with_reducible apply bumpBurst_good
    | fail_if_no_progress (with_reducible refine good_mk ?_ rfl rfl rfl rfl rfl rfl rfl rfl rfl)
    | with_reducible apply good_ite
    | (with_reducible apply good_fst; with_reducible assumption)
    | (split)
    | (refine good_ite ?_ ?_)
    | (dsimp only)

theorem clearLos_good {n : Nat} {c : Option Nat} {q : List Instr} {s : State} {p : Port} {tick : Nat} (h : Good n c q s) :
    Good n c q (State.clearLos s p tick) := by
  unfold State.clearLos
  repeat' first
    | with_reducible assumption
    | (intro)
    | (extract_lets +onlyGivenNames s1; have hs1 : Good n c q s1 := by with_reducible assumption
       clear hs1; unfold s1; clear s1)
    | (extract_lets +onlyGivenNames s1; refine good_cut (n := n) (c := c) (q := q) s1 ?_ ?_ <;> [(unfold s1; clear s1); (intro hs1; clear_value s1; revert hs1; revert s1; intro t1 ht1)])
    | (extract_lets +onlyGivenNames x1; clear_value x1; revert x1; intro y1)
    | (extract_lets +onlyGivenNames s1; refine good_cut (n := n) (c := c) (q := q) s1 ?_ ?_ <;> [(unfold s1; clear s1); (intro hs1; refine good_ite ?_ ?_ <;> (clear_value s1; revert hs1; revert s1; intro t1 ht1))])
    | with_reducible apply modSlu_good
    | with_reducible apply setFlag_good
    | with_reducible apply level_good
    | with_reducible apply protStatus_good
    | fail_if_no_progress (with_reducible refine good_mk ?_ rfl rfl rfl rfl rfl rfl rfl rfl rfl)
    | with_reducible apply good_ite
    | (with_reducible apply good_fst; with_reducible assumption)
    | (split)
    | (refine good_ite ?_ ?_)
    | (dsimp only)

theorem burstReceived_good {n : Nat} {c : Option Nat} {q : List Instr} {s : State} {p : Port} {e : MapEntry} {b : RakeBurst} (h : Good n c q s) :
    Good n c q (State.burstReceived s p e b) := by
  unfold State.burstReceived
  repeat' first
    | with_reducible assumption
    | (intro)
    | (extract_lets +onlyGivenNames s1; have hs1 : Good n c q s1 := by with_reducible assumption
       clear hs1; unfold s1; clear s1)
    | (extract_lets +onlyGivenNames s1; refine good_cut (n := n) (c := c) (q := q) s1 ?_ ?_ <;> [(unfold s1; clear s1); (intro hs1; clear_value s1; revert hs1; revert s1; intro t1 ht1)])
    | (extract_lets +onlyGivenNames x1; clear_value x1; revert x1; intro y1)
    | (extract_lets +onlyGivenNames s1; refine good_cut (n := n) (c := c) (q := q) s1 ?_ ?_ <;> [(unfold s1; clear s1); (intro hs1; refine good_ite ?_ ?_ <;> (clear_value s1; revert hs1; revert s1; intro t1 ht1))])
    | with_reducible apply modProt_good
    | with_reducible apply setFld_good
    | with_reducible apply useCtx_good
    | with_reducible apply setCtx_good
    | with_reducible apply enterOnu_good
    | fail_if_no_progress (with_reducible refine good_mk ?_ rfl rfl rfl rfl rfl rfl rfl rfl rfl)
    | with_reducible apply good_ite
    | (with_reducible apply good_fst; with_reducible assumption)
    | (split)
    | (refine good_ite ?_ ?_)
    | (dsimp only)

theorem countBurst_good {n : Nat} {c : Option Nat} {q : List Instr} {s : State} {p : Port} {entry : Nat} {tick : Nat} (h : Good n c q s) :
    Good n c q (State.countBurst s p entry tick) := by
  unfold State.countBurst
  repeat' first
    | with_reducible assumption
    | (intro)
    | (extract_lets +onlyGivenNames s1; have hs1 : Good n c q s1 := by with_reducible assumption
       clear hs1; unfold s1; clear s1)
    | (extract_lets +onlyGivenNames s1; refine good_cut (n := n) (c := c) (q := q) s1 ?_ ?_ <;> [(unfold s1; clear s1); (intro hs1; clear_value s1; revert hs1; revert s1; intro t1 ht1)])
    | (extract_lets +onlyGivenNames g1; have hg1 : RakeBurst → State := g1; clear hg1; unfold g1; clear g1)
    | (extract_lets +onlyGivenNames x1; clear_value x1; revert x1; intro y1)
    | (extract_lets +onlyGivenNames s1; refine good_cut (n := n) (c := c) (q := q) s1 ?_ ?_ <;> [(unfold s1; clear s1); (intro hs1; refine good_ite ?_ ?_ <;> (clear_value s1; revert hs1; revert s1; intro t1 ht1))])
    | with_reducible apply modRake_good
    | with_reducible apply burstReceived_good
    | fail_if_no_progress (with_reducible refine good_mk ?_ rfl rfl rfl rfl rfl rfl rfl rfl rfl)
    | with_reducible apply good_ite
    | (with_reducible apply good_fst; with_reducible assumption)
    | (split)
    | (refine good_ite ?_ ?_)
    | (dsimp only)

theorem openPayload_good {n : Nat} {c : Option Nat} {q : List Instr} {s : State} {p : Port} {x : SluChan} {resp : Nat} {start : Nat} {slots : Nat} {noise : Nat × Nat} (h : Good n c q s) :
    Good n c q (State.openPayload s p x resp start slots noise) := by
  unfold State.openPayload
  repeat' first
    | with_reducible assumption
    | (intro)
    | (extract_lets +onlyGivenNames s1; have hs1 : Good n c q s1 := by with_reducible assumption
       clear hs1; unfold s1; clear s1)
    | (extract_lets +onlyGivenNames s1; refine good_cut (n := n) (c := c) (q := q) s1 ?_ ?_ <;> [(unfold s1; clear s1); (intro hs1; clear_value s1; revert hs1; revert s1; intro t1 ht1)])
    | (extract_lets +onlyGivenNames x1; clear_value x1; revert x1; intro y1)
    | (extract_lets +onlyGivenNames s1; refine good_cut (n := n) (c := c) (q := q) s1 ?_ ?_ <;> [(unfold s1; clear s1); (intro hs1; refine good_ite ?_ ?_ <;> (clear_value s1; revert hs1; revert s1; intro t1 ht1))])
    | with_reducible apply modXtl_good
    | fail_if_no_progress (with_reducible refine good_mk ?_ rfl rfl rfl rfl rfl rfl rfl rfl rfl)
    | with_reducible apply good_ite
    | (with_reducible apply good_fst; with_reducible assumption)
    | (split)
    | (refine good_ite ?_ ?_)
    | (dsimp only)

theorem receiveEntry_good {n : Nat} {c : Option Nat} {q : List Instr} {s : State} {p : Port} {x : SluChan} {d : Int} {at_ : Nat} {noise : Nat × Nat} (h : Good n c q s) :
    Good n c q (State.receiveEntry s p x d at_ noise) := by
  unfold State.receiveEntry
  repeat' first
    | with_reducible assumption
    | (intro)
    | (extract_lets +onlyGivenNames s1; have hs1 : Good n c q s1 := by with_reducible assumption
       clear hs1; unfold s1; clear s1)
    | (extract_lets +onlyGivenNames s1; refine good_cut (n := n) (c := c) (q := q) s1 ?_ ?_ <;> [(unfold s1; clear s1); (intro hs1; clear_value s1; revert hs1; revert s1; intro t1 ht1)])
    | (extract_lets +onlyGivenNames x1; clear_value x1; revert x1; intro y1)
    | (extract_lets +onlyGivenNames s1; refine good_cut (n := n) (c := c) (q := q) s1 ?_ ?_ <;> [(unfold s1; clear s1); (intro hs1; refine good_ite ?_ ?_ <;> (clear_value s1; revert hs1; revert s1; intro t1 ht1))])
    | with_reducible apply bumpP_good
    | with_reducible apply bumpFollowed_good
    | with_reducible apply captureSees_good
    | with_reducible apply pulseP_good
    | with_reducible apply clearLos_good
    | with_reducible apply lastBurst_good
    | with_reducible apply acctEntry_good
    | with_reducible apply modSlu_good
    | with_reducible apply openPayload_good
    | with_reducible apply modRake_good
    | with_reducible apply qualifyBurst_good
    | with_reducible apply countBurst_good
    | fail_if_no_progress (with_reducible refine good_mk ?_ rfl rfl rfl rfl rfl rfl rfl rfl rfl)
    | with_reducible apply good_ite
    | (with_reducible apply good_fst; with_reducible assumption)
    | (split)
    | (refine good_ite ?_ ?_)
    | (dsimp only)

theorem receiveResponse_good {n : Nat} {c : Option Nat} {q : List Instr} {s : State} {p : Port} {x : SluChan} {q' : Nat} {at_ : Nat} {noise : Nat × Nat} (h : Good n c q s) :
    Good n c q (State.receiveResponse s p x q' at_ noise) := by
  unfold State.receiveResponse
  repeat' first
    | with_reducible assumption
    | (intro)
    | (extract_lets +onlyGivenNames s1; have hs1 : Good n c q s1 := by with_reducible assumption
       clear hs1; unfold s1; clear s1)
    | (extract_lets +onlyGivenNames s1; refine good_cut (n := n) (c := c) (q := q) s1 ?_ ?_ <;> [(unfold s1; clear s1); (intro hs1; clear_value s1; revert hs1; revert s1; intro t1 ht1)])
    | (extract_lets +onlyGivenNames x1; clear_value x1; revert x1; intro y1)
    | (extract_lets +onlyGivenNames s1; refine good_cut (n := n) (c := c) (q := q) s1 ?_ ?_ <;> [(unfold s1; clear s1); (intro hs1; refine good_ite ?_ ?_ <;> (clear_value s1; revert hs1; revert s1; intro t1 ht1))])
    | with_reducible apply captureSees_good
    | with_reducible apply bumpP_good
    | with_reducible apply lastBurst_good
    | with_reducible apply modAcct_good
    | with_reducible apply openPayload_good
    | with_reducible apply qualifyBurst_good
    | fail_if_no_progress (with_reducible refine good_mk ?_ rfl rfl rfl rfl rfl rfl rfl rfl rfl)
    | (with_reducible apply good_fst; with_reducible assumption)
    | (split)
    | (dsimp only)

theorem execDelimiterMatch_good {n : Nat} {c : Option Nat} {q : List Instr} {port : Port} {chan : Chan} {position : Nat} {codes : List Int} {s : State} (h : Good n c q s) :
    GoodOut n c q (execDelimiterMatch port chan position codes s) := by
  unfold execDelimiterMatch
  repeat' first
    | with_reducible assumption
    | (intro)
    | (extract_lets +onlyGivenNames s1; have hs1 : Good n c q s1 := by with_reducible assumption
       clear hs1; unfold s1; clear s1)
    | (extract_lets +onlyGivenNames s1; refine good_cut (n := n) (c := c) (q := q) s1 ?_ ?_ <;> [(unfold s1; clear s1); (intro hs1; clear_value s1; revert hs1; revert s1; intro t1 ht1)])
    | (extract_lets +onlyGivenNames x1; clear_value x1; revert x1; intro y1)
    | (extract_lets +onlyGivenNames s1; refine good_cut (n := n) (c := c) (q := q) s1 ?_ ?_ <;> [(unfold s1; clear s1); (intro hs1; refine good_ite ?_ ?_ <;> (clear_value s1; revert hs1; revert s1; intro t1 ht1))])
    | with_reducible apply good_next
    | with_reducible apply settleAt_good
    | with_reducible apply receiveResponse_good
    | with_reducible apply setChan_good
    | with_reducible apply receiveEntry_good
    | fail_if_no_progress (with_reducible refine good_mk ?_ rfl rfl rfl rfl rfl rfl rfl rfl rfl)
    | with_reducible apply good_ite
    | (with_reducible apply good_fst; with_reducible assumption)
    | (split)
    | (refine good_ite ?_ ?_)
    | (dsimp only)

theorem execFalseLock_good {n : Nat} {c : Option Nat} {q : List Instr} {port : Port} {block : LockBlock} {s : State} (h : Good n c q s) :
    GoodOut n c q (execFalseLock port block s) := by
  unfold execFalseLock
  repeat' first
    | with_reducible assumption
    | (intro)
    | (extract_lets +onlyGivenNames s1; have hs1 : Good n c q s1 := by with_reducible assumption
       clear hs1; unfold s1; clear s1)
    | (extract_lets +onlyGivenNames s1; refine good_cut (n := n) (c := c) (q := q) s1 ?_ ?_ <;> [(unfold s1; clear s1); (intro hs1; clear_value s1; revert hs1; revert s1; intro t1 ht1)])
    | (extract_lets +onlyGivenNames x1; clear_value x1; revert x1; intro y1)
    | (extract_lets +onlyGivenNames s1; refine good_cut (n := n) (c := c) (q := q) s1 ?_ ?_ <;> [(unfold s1; clear s1); (intro hs1; refine good_ite ?_ ?_ <;> (clear_value s1; revert hs1; revert s1; intro t1 ht1))])
    | with_reducible apply good_next
    | with_reducible apply settleAt_good
    | with_reducible apply bumpBurst_good
    | with_reducible apply setChan_good
    | with_reducible apply rearm_good
    | with_reducible apply loadLive_good
    | with_reducible apply burstMissing_good
    | fail_if_no_progress (with_reducible refine good_mk ?_ rfl rfl rfl rfl rfl rfl rfl rfl rfl)
    | with_reducible apply good_ite
    | (with_reducible apply good_fst; with_reducible assumption)
    | (split)
    | (refine good_ite ?_ ?_)
    | (dsimp only)

theorem execWindowClose_good {n : Nat} {c : Option Nat} {q : List Instr} {port : Port} {chan : Chan} {s : State} (h : Good n c q s) :
    GoodOut n c q (execWindowClose port chan s) := by
  unfold execWindowClose
  repeat' first
    | with_reducible assumption
    | (intro)
    | (extract_lets +onlyGivenNames s1; have hs1 : Good n c q s1 := by with_reducible assumption
       clear hs1; unfold s1; clear s1)
    | (extract_lets +onlyGivenNames s1; refine good_cut (n := n) (c := c) (q := q) s1 ?_ ?_ <;> [(unfold s1; clear s1); (intro hs1; clear_value s1; revert hs1; revert s1; intro t1 ht1)])
    | (extract_lets +onlyGivenNames x1; clear_value x1; revert x1; intro y1)
    | (extract_lets +onlyGivenNames s1; refine good_cut (n := n) (c := c) (q := q) s1 ?_ ?_ <;> [(unfold s1; clear s1); (intro hs1; refine good_ite ?_ ?_ <;> (clear_value s1; revert hs1; revert s1; intro t1 ht1))])
    | with_reducible apply good_next
    | with_reducible apply settleAt_good
    | with_reducible apply setChan_good
    | with_reducible apply burstMissing_good
    | fail_if_no_progress (with_reducible refine good_mk ?_ rfl rfl rfl rfl rfl rfl rfl rfl rfl)
    | with_reducible apply good_ite
    | (split)
    | (refine good_ite ?_ ?_)
    | (dsimp only)

theorem execRssiMarker_good {n : Nat} {c : Option Nat} {q : List Instr} {port : Port} {chan : Chan} {s : State} (h : Good n c q s) :
    GoodOut n c q (execRssiMarker port chan s) := by
  unfold execRssiMarker
  repeat' first
    | with_reducible assumption
    | (intro)
    | (extract_lets +onlyGivenNames s1; have hs1 : Good n c q s1 := by with_reducible assumption
       clear hs1; unfold s1; clear s1)
    | (extract_lets +onlyGivenNames s1; refine good_cut (n := n) (c := c) (q := q) s1 ?_ ?_ <;> [(unfold s1; clear s1); (intro hs1; clear_value s1; revert hs1; revert s1; intro t1 ht1)])
    | (extract_lets +onlyGivenNames x1; clear_value x1; revert x1; intro y1)
    | (extract_lets +onlyGivenNames s1; refine good_cut (n := n) (c := c) (q := q) s1 ?_ ?_ <;> [(unfold s1; clear s1); (intro hs1; refine good_ite ?_ ?_ <;> (clear_value s1; revert hs1; revert s1; intro t1 ht1))])
    | with_reducible apply good_next
    | with_reducible apply bumpP_good
    | with_reducible apply pulseP_good
    | with_reducible apply emit_good
    | with_reducible apply good_ite
    | (split)
    | (refine good_ite ?_ ?_)
    | (dsimp only)

theorem execLosDeclared_good {n : Nat} {c : Option Nat} {q : List Instr} {port : Port} {s : State} (h : Good n c q s) :
    GoodOut n c q (execLosDeclared port s) := by
  unfold execLosDeclared
  repeat' first
    | with_reducible assumption
    | (intro)
    | with_reducible apply good_next
    | with_reducible apply setFlag_good
    | with_reducible apply level_good
    | with_reducible apply bumpP_good
    | with_reducible apply protStatus_good
    | with_reducible apply good_ite
    | (split)
    | (refine good_ite ?_ ?_)
    | (dsimp only)

theorem losTick_good {n : Nat} {c : Option Nat} {q : List Instr} {s : State} {p : Port} (h : Good n c q s) :
    Good n c q (State.losTick s p) := by
  unfold State.losTick
  repeat' first
    | with_reducible assumption
    | (intro)
    | (extract_lets +onlyGivenNames s1; have hs1 : Good n c q s1 := by with_reducible assumption
       clear hs1; unfold s1; clear s1)
    | (extract_lets +onlyGivenNames s1; refine good_cut (n := n) (c := c) (q := q) s1 ?_ ?_ <;> [(unfold s1; clear s1); (intro hs1; clear_value s1; revert hs1; revert s1; intro t1 ht1)])
    | (extract_lets +onlyGivenNames x1; clear_value x1; revert x1; intro y1)
    | (extract_lets +onlyGivenNames s1; refine good_cut (n := n) (c := c) (q := q) s1 ?_ ?_ <;> [(unfold s1; clear s1); (intro hs1; refine good_ite ?_ ?_ <;> (clear_value s1; revert hs1; revert s1; intro t1 ht1))])
    | with_reducible apply modSlu_good
    | fail_if_no_progress (with_reducible refine good_mk ?_ rfl rfl rfl rfl rfl rfl rfl rfl rfl)
    | with_reducible apply good_ite
    | (with_reducible apply good_fst; with_reducible assumption)
    | (split)
    | (refine good_ite ?_ ?_)
    | (dsimp only)

end Sys2Proof.Machine
end

