-- ==== Sys2Proof/Laws/GoodTm.lean ====
section
/-!
SUPPORT. What the operations of Machine/Tm.lean keep.
-/
set_option linter.all false
set_option linter.unreachableTactic false
set_option linter.unusedTactic false
namespace Sys2Proof.Machine

theorem setQueue_good {n : Nat} {c : Option Nat} {q : List Instr} {s : State} {q' : Nat} {x : Queue} (h : Good n c q s) :
    Good n c q (State.setQueue s q' x) := by
  unfold State.setQueue
  repeat' first
    | with_reducible assumption
    | (intro)
    | (extract_lets +onlyGivenNames s1; have hs1 : Good n c q s1 := by with_reducible assumption
       clear hs1; unfold s1; clear s1)
    | (extract_lets +onlyGivenNames s1; refine good_cut (n := n) (c := c) (q := q) s1 ?_ ?_ <;> [(unfold s1; clear s1); (intro hs1; clear_value s1; revert hs1; revert s1; intro t1 ht1)])
    | (extract_lets +onlyGivenNames x1; clear_value x1; revert x1; intro y1)
    | (extract_lets +onlyGivenNames s1; refine good_cut (n := n) (c := c) (q := q) s1 ?_ ?_ <;> [(unfold s1; clear s1); (intro hs1; refine good_ite ?_ ?_ <;> (clear_value s1; revert hs1; revert s1; intro t1 ht1))])
    | fail_if_no_progress (with_reducible refine good_mk ?_ rfl rfl rfl rfl rfl rfl rfl rfl rfl)
    | (dsimp only)

theorem setNode_good {n : Nat} {c : Option Nat} {q : List Instr} {s : State} {k : Nat} {x : Node} (h : Good n c q s) :
    Good n c q (State.setNode s k x) := by
  unfold State.setNode
  repeat' first
    | with_reducible assumption
    | (intro)
    | (extract_lets +onlyGivenNames s1; have hs1 : Good n c q s1 := by with_reducible assumption
       clear hs1; unfold s1; clear s1)
    | (extract_lets +onlyGivenNames s1; refine good_cut (n := n) (c := c) (q := q) s1 ?_ ?_ <;> [(unfold s1; clear s1); (intro hs1; clear_value s1; revert hs1; revert s1; intro t1 ht1)])
    | (extract_lets +onlyGivenNames x1; clear_value x1; revert x1; intro y1)
    | (extract_lets +onlyGivenNames s1; refine good_cut (n := n) (c := c) (q := q) s1 ?_ ?_ <;> [(unfold s1; clear s1); (intro hs1; refine good_ite ?_ ?_ <;> (clear_value s1; revert hs1; revert s1; intro t1 ht1))])
    | fail_if_no_progress (with_reducible refine good_mk ?_ rfl rfl rfl rfl rfl rfl rfl rfl rfl)
    | (dsimp only)

theorem takeCells_good {n : Nat} {c : Option Nat} {q : List Instr} {s : State} {total k : Nat} {used : List Nat} (h : Good n c q s) :
    Good n c q (State.takeCells total k used s).1 := by
  induction k generalizing s used with
  | zero => exact h
  | succ k ih =>
    unfold State.takeCells
    exact ih (nextOpen_good h)

theorem allocCells_good {n : Nat} {c : Option Nat} {q : List Instr} {s : State} {lp : Bool} {k : Nat} (h : Good n c q s) :
    Good n c q (State.allocCells s lp k).1 := by
  unfold State.allocCells
  exact takeCells_good h

theorem writeCells_good {n : Nat} {c : Option Nat} {q : List Instr} {s : State} {lp : Bool} {addrs : List Nat} {len : Nat} (h : Good n c q s) :
    Good n c q (State.writeCells s lp addrs len) := by
  unfold State.writeCells
  repeat' first
    | with_reducible assumption
    | (intro)
    | with_reducible apply memWrite_good
    | with_reducible apply good_foldl
    | with_reducible apply good_foldl_fst
    | (dsimp only)

theorem releaseCells_good {n : Nat} {c : Option Nat} {q : List Instr} {s : State} {lp : Bool} {addrs : List Nat} {len : Nat} {hurt : Bool} (h : Good n c q s) :
    Good n c q (State.releaseCells s lp addrs len hurt).1 := by
  unfold State.releaseCells
  repeat' first
    | with_reducible assumption
    | (intro)
    | (extract_lets +onlyGivenNames s1; have hs1 : Good n c q s1 := by with_reducible assumption
       clear hs1; unfold s1; clear s1)
    | (extract_lets +onlyGivenNames s1; refine good_cut (n := n) (c := c) (q := q) s1 ?_ ?_ <;> [(unfold s1; clear s1); (intro hs1; clear_value s1; revert hs1; revert s1; intro t1 ht1)])
    | (extract_lets +onlyGivenNames x1; clear_value x1; revert x1; intro y1)
    | (extract_lets +onlyGivenNames s1; refine good_cut (n := n) (c := c) (q := q) s1 ?_ ?_ <;> [(unfold s1; clear s1); (intro hs1; refine good_ite ?_ ?_ <;> (clear_value s1; revert hs1; revert s1; intro t1 ht1))])
    | with_reducible apply useWords_good
    | with_reducible apply consumePoison_good
    | with_reducible apply good_foldl
    | with_reducible apply good_foldl_fst
    | with_reducible apply good_ite
    | (with_reducible apply good_fst; with_reducible assumption)
    | (split)
    | (refine good_ite ?_ ?_)
    | (dsimp only)

theorem writeQueue_good {n : Nat} {c : Option Nat} {q : List Instr} {s : State} {q' : Nat} {mask : Nat} {x : Queue} (h : Good n c q s) :
    Good n c q (State.writeQueue s q' mask x) := by
  unfold State.writeQueue
  repeat' first
    | with_reducible assumption
    | (intro)
    | with_reducible apply memWrite_good
    | with_reducible apply setQueue_good
    | (dsimp only)

theorem tmStatus_good {n : Nat} {c : Option Nat} {q : List Instr} {s : State} {p : Port} (h : Good n c q s) :
    Good n c q (State.tmStatus s p) := by
  unfold State.tmStatus
  repeat' first
    | with_reducible assumption
    | (intro)
    | (extract_lets +onlyGivenNames s1; have hs1 : Good n c q s1 := by with_reducible assumption
       clear hs1; unfold s1; clear s1)
    | (extract_lets +onlyGivenNames s1; refine good_cut (n := n) (c := c) (q := q) s1 ?_ ?_ <;> [(unfold s1; clear s1); (intro hs1; clear_value s1; revert hs1; revert s1; intro t1 ht1)])
    | (extract_lets +onlyGivenNames x1; clear_value x1; revert x1; intro y1)
    | (extract_lets +onlyGivenNames s1; refine good_cut (n := n) (c := c) (q := q) s1 ?_ ?_ <;> [(unfold s1; clear s1); (intro hs1; refine good_ite ?_ ?_ <;> (clear_value s1; revert hs1; revert s1; intro t1 ht1))])
    | with_reducible apply setFld_good
    | with_reducible apply setFlag_good
    | with_reducible apply pulseP_good
    | with_reducible apply good_ite
    | (split)
    | (refine good_ite ?_ ?_)
    | (dsimp only)

theorem unbind_good {n : Nat} {c : Option Nat} {q : List Instr} {s : State} {q' : Nat} (h : Good n c q s) :
    Good n c q (State.unbind s q') := by
  unfold State.unbind
  repeat' first
    | with_reducible assumption
    | (intro)
    | (extract_lets +onlyGivenNames s1; have hs1 : Good n c q s1 := by with_reducible assumption
       clear hs1; unfold s1; clear s1)
    | (extract_lets +onlyGivenNames s1; refine good_cut (n := n) (c := c) (q := q) s1 ?_ ?_ <;> [(unfold s1; clear s1); (intro hs1; clear_value s1; revert hs1; revert s1; intro t1 ht1)])
    | (extract_lets +onlyGivenNames x1; clear_value x1; revert x1; intro y1)
    | (extract_lets +onlyGivenNames s1; refine good_cut (n := n) (c := c) (q := q) s1 ?_ ?_ <;> [(unfold s1; clear s1); (intro hs1; refine good_ite ?_ ?_ <;> (clear_value s1; revert hs1; revert s1; intro t1 ht1))])
    | with_reducible apply writeQueue_good
    | with_reducible apply tmStatus_good
    | fail_if_no_progress (with_reducible refine good_mk ?_ rfl rfl rfl rfl rfl rfl rfl rfl rfl)
    | (with_reducible apply good_fst; with_reducible assumption)
    | (dsimp only)

theorem unbindNodes_good {n : Nat} {c : Option Nat} {q : List Instr} {s : State} {p : Port} {ok : Nat → Bool} (h : Good n c q s) :
    Good n c q (State.unbindNodes s p ok) := by
  unfold State.unbindNodes
  repeat' first
    | with_reducible assumption
    | (intro)
    | with_reducible apply unbind_good
    | with_reducible apply good_foldl
    | with_reducible apply good_foldl_fst
    | (dsimp only)

theorem refuseSdu_good {n : Nat} {c : Option Nat} {q : List Instr} {s : State} {q' : Nat} {off : Nat} (h : Good n c q s) :
    Good n c q (State.refuseSdu s q' off) := by
  unfold State.refuseSdu
  repeat' first
    | with_reducible assumption
    | (intro)
    | (extract_lets +onlyGivenNames s1; have hs1 : Good n c q s1 := by with_reducible assumption
       clear hs1; unfold s1; clear s1)
    | (extract_lets +onlyGivenNames s1; refine good_cut (n := n) (c := c) (q := q) s1 ?_ ?_ <;> [(unfold s1; clear s1); (intro hs1; clear_value s1; revert hs1; revert s1; intro t1 ht1)])
    | (extract_lets +onlyGivenNames x1; clear_value x1; revert x1; intro y1)
    | (extract_lets +onlyGivenNames s1; refine good_cut (n := n) (c := c) (q := q) s1 ?_ ?_ <;> [(unfold s1; clear s1); (intro hs1; refine good_ite ?_ ?_ <;> (clear_value s1; revert hs1; revert s1; intro t1 ht1))])
    | with_reducible apply bumpP_good
    | with_reducible apply writeQueue_good
    | fail_if_no_progress (with_reducible refine good_mk ?_ rfl rfl rfl rfl rfl rfl rfl rfl rfl)
    | with_reducible apply good_ite
    | (split)
    | (refine good_ite ?_ ?_)
    | (dsimp only)

theorem linkSdu_good {n : Nat} {c : Option Nat} {q : List Instr} {s : State} {q' : Nat} {d : QSdu} (h : Good n c q s) :
    Good n c q (State.linkSdu s q' d) := by
  unfold State.linkSdu
  repeat' first
    | with_reducible assumption
    | (intro)
    | (extract_lets +onlyGivenNames s1; have hs1 : Good n c q s1 := by with_reducible assumption
       clear hs1; unfold s1; clear s1)
    | (extract_lets +onlyGivenNames s1; refine good_cut (n := n) (c := c) (q := q) s1 ?_ ?_ <;> [(unfold s1; clear s1); (intro hs1; clear_value s1; revert hs1; revert s1; intro t1 ht1)])
    | (extract_lets +onlyGivenNames g1; have hg1 : Nat → State := g1; clear hg1; unfold g1; clear g1)
    | (extract_lets +onlyGivenNames x1; clear_value x1; revert x1; intro y1)
    | (extract_lets +onlyGivenNames s1; refine good_cut (n := n) (c := c) (q := q) s1 ?_ ?_ <;> [(unfold s1; clear s1); (intro hs1; refine good_ite ?_ ?_ <;> (clear_value s1; revert hs1; revert s1; intro t1 ht1))])
    | with_reducible apply writeQueue_good
    | fail_if_no_progress (with_reducible refine good_mk ?_ rfl rfl rfl rfl rfl rfl rfl rfl rfl)
    | with_reducible apply good_ite
    | (with_reducible apply good_fst; with_reducible assumption)
    | (split)
    | (refine good_ite ?_ ?_)
    | (dsimp only)

theorem admitSdu_good {n : Nat} {c : Option Nat} {q : List Instr} {s : State} {q' : Nat} {flow : Nat} {crypt : Bool} {yellow : Bool} {data : List Byte} (h : Good n c q s) :
    Good n c q (State.admitSdu s q' flow crypt yellow data) := by
  unfold State.admitSdu
  repeat' first
    | with_reducible assumption
    | (intro)
    | (extract_lets +onlyGivenNames s1; have hs1 : Good n c q s1 := by with_reducible assumption
       clear hs1; unfold s1; clear s1)
    | (extract_lets +onlyGivenNames s1; refine good_cut (n := n) (c := c) (q := q) s1 ?_ ?_ <;> [(unfold s1; clear s1); (intro hs1; clear_value s1; revert hs1; revert s1; intro t1 ht1)])
    | (extract_lets +onlyGivenNames x1; clear_value x1; revert x1; intro y1)
    | (extract_lets +onlyGivenNames s1; refine good_cut (n := n) (c := c) (q := q) s1 ?_ ?_ <;> [(unfold s1; clear s1); (intro hs1; refine good_ite ?_ ?_ <;> (clear_value s1; revert hs1; revert s1; intro t1 ht1))])
    | with_reducible apply memRead_good
    | with_reducible apply refuseSdu_good
    | with_reducible apply consumePoison_good
    | with_reducible apply unbind_good
    | with_reducible apply allocCells_good
    | with_reducible apply writeCells_good
    | with_reducible apply linkSdu_good
    | with_reducible apply bumpP_good
    | with_reducible apply tmStatus_good
    | with_reducible apply good_ite
    | (with_reducible apply good_fst; with_reducible assumption)
    | (split)
    | (refine good_ite ?_ ?_)
    | (dsimp only)

theorem fillBuckets_good {n : Nat} {c : Option Nat} {q : List Instr} {s : State} {p : Port} {n' : Nat} (h : Good n c q s) :
    Good n c q (State.fillBuckets s p n') := by
  unfold State.fillBuckets
  repeat' first
    | with_reducible assumption
    | (intro)
    | (extract_lets +onlyGivenNames s1; have hs1 : Good n c q s1 := by with_reducible assumption
       clear hs1; unfold s1; clear s1)
    | (extract_lets +onlyGivenNames s1; refine good_cut (n := n) (c := c) (q := q) s1 ?_ ?_ <;> [(unfold s1; clear s1); (intro hs1; clear_value s1; revert hs1; revert s1; intro t1 ht1)])
    | (extract_lets +onlyGivenNames x1; clear_value x1; revert x1; intro y1)
    | (extract_lets +onlyGivenNames s1; refine good_cut (n := n) (c := c) (q := q) s1 ?_ ?_ <;> [(unfold s1; clear s1); (intro hs1; refine good_ite ?_ ?_ <;> (clear_value s1; revert hs1; revert s1; intro t1 ht1))])
    | fail_if_no_progress (with_reducible refine good_mk ?_ rfl rfl rfl rfl rfl rfl rfl rfl rfl)
    | with_reducible apply good_ite
    | (with_reducible apply good_fst; with_reducible assumption)
    | (split)
    | (refine good_ite ?_ ?_)
    | (dsimp only)

theorem debitPath_good {n : Nat} {c : Option Nat} {q : List Instr} {s : State} {q' : Nat} {n' : Nat} (h : Good n c q s) :
    Good n c q (State.debitPath s q' n') := by
  unfold State.debitPath
  repeat' first
    | with_reducible assumption
    | (intro)
    | (extract_lets +onlyGivenNames s1; have hs1 : Good n c q s1 := by with_reducible assumption
       clear hs1; unfold s1; clear s1)
    | (extract_lets +onlyGivenNames s1; refine good_cut (n := n) (c := c) (q := q) s1 ?_ ?_ <;> [(unfold s1; clear s1); (intro hs1; clear_value s1; revert hs1; revert s1; intro t1 ht1)])
    | (extract_lets +onlyGivenNames x1; clear_value x1; revert x1; intro y1)
    | (extract_lets +onlyGivenNames s1; refine good_cut (n := n) (c := c) (q := q) s1 ?_ ?_ <;> [(unfold s1; clear s1); (intro hs1; refine good_ite ?_ ?_ <;> (clear_value s1; revert hs1; revert s1; intro t1 ht1))])
    | with_reducible apply setNode_good
    | fail_if_no_progress (with_reducible refine good_mk ?_ rfl rfl rfl rfl rfl rfl rfl rfl rfl)
    | (dsimp only)

theorem pick_good {n : Nat} {c : Option Nat} {q : List Instr} {s : State} {l : List Nat} (h : Good n c q s) :
    Good n c q (State.pick s l).1 := by
  unfold State.pick
  repeat' first
    | with_reducible assumption
    | (intro)
    | (extract_lets +onlyGivenNames s1; have hs1 : Good n c q s1 := by with_reducible assumption
       clear hs1; unfold s1; clear s1)
    | (extract_lets +onlyGivenNames s1; refine good_cut (n := n) (c := c) (q := q) s1 ?_ ?_ <;> [(unfold s1; clear s1); (intro hs1; clear_value s1; revert hs1; revert s1; intro t1 ht1)])
    | (extract_lets +onlyGivenNames x1; clear_value x1; revert x1; intro y1)
    | (extract_lets +onlyGivenNames s1; refine good_cut (n := n) (c := c) (q := q) s1 ?_ ?_ <;> [(unfold s1; clear s1); (intro hs1; refine good_ite ?_ ?_ <;> (clear_value s1; revert hs1; revert s1; intro t1 ht1))])
    | with_reducible apply nextOpen_good
    | (with_reducible apply good_fst; with_reducible assumption)
    | (split)
    | (dsimp only)

theorem setDeficit_good {n : Nat} {c : Option Nat} {q : List Instr} {s : State} {k : Nat} {x : Int} (h : Good n c q s) :
    Good n c q (State.setDeficit s k x) := by
  unfold State.setDeficit
  repeat' first
    | with_reducible assumption
    | (intro)
    | (extract_lets +onlyGivenNames s1; have hs1 : Good n c q s1 := by with_reducible assumption
       clear hs1; unfold s1; clear s1)
    | (extract_lets +onlyGivenNames s1; refine good_cut (n := n) (c := c) (q := q) s1 ?_ ?_ <;> [(unfold s1; clear s1); (intro hs1; clear_value s1; revert hs1; revert s1; intro t1 ht1)])
    | (extract_lets +onlyGivenNames x1; clear_value x1; revert x1; intro y1)
    | (extract_lets +onlyGivenNames s1; refine good_cut (n := n) (c := c) (q := q) s1 ?_ ?_ <;> [(unfold s1; clear s1); (intro hs1; refine good_ite ?_ ?_ <;> (clear_value s1; revert hs1; revert s1; intro t1 ht1))])
    | fail_if_no_progress (with_reducible refine good_mk ?_ rfl rfl rfl rfl rfl rfl rfl rfl rfl)
    | (dsimp only)

theorem setRound_good {n : Nat} {c : Option Nat} {q : List Instr} {s : State} {r : Nat} {x : Round} (h : Good n c q s) :
    Good n c q (State.setRound s r x) := by
  unfold State.setRound
  repeat' first
    | with_reducible assumption
    | (intro)
    | (extract_lets +onlyGivenNames s1; have hs1 : Good n c q s1 := by with_reducible assumption
       clear hs1; unfold s1; clear s1)
    | (extract_lets +onlyGivenNames s1; refine good_cut (n := n) (c := c) (q := q) s1 ?_ ?_ <;> [(unfold s1; clear s1); (intro hs1; clear_value s1; revert hs1; revert s1; intro t1 ht1)])
    | (extract_lets +onlyGivenNames x1; clear_value x1; revert x1; intro y1)
    | (extract_lets +onlyGivenNames s1; refine good_cut (n := n) (c := c) (q := q) s1 ?_ ?_ <;> [(unfold s1; clear s1); (intro hs1; refine good_ite ?_ ?_ <;> (clear_value s1; revert hs1; revert s1; intro t1 ht1))])
    | fail_if_no_progress (with_reducible refine good_mk ?_ rfl rfl rfl rfl rfl rfl rfl rfl rfl)
    | (dsimp only)

theorem dwrr_good {n : Nat} {c : Option Nat} {q : List Instr} {s : State} {r k : Nat} {l : List (Nat × Nat)}
    (h : Good n c q s) : Good n c q (s.dwrr r k l).1 := by
  induction k generalizing s with
  | zero => exact h
  | succ k ih =>
    unfold State.dwrr
    dsimp only
    split
    · exact h
    · split
      · rename_i e
        exact good_fst e (pick_good h)
      · rename_i e
        exact ih (setRound_good (setDeficit_good (good_fst e (pick_good h))))

theorem good_ite_fst {α : Type} {n : Nat} {c : Option Nat} {q : List Instr} {p : Prop} [Decidable p] {a b : State × α}
    (h : Good n c q a.1) (k : Good n c q b.1) : Good n c q (if p then a else b).1 := by
  split <;> assumption

theorem selectQueue_good {n : Nat} {c : Option Nat} {q : List Instr} {s : State} {p : Port} (h : Good n c q s) :
    Good n c q (State.selectQueue s p).1 := by
  unfold State.selectQueue
  split
  · exact h
  · dsimp only
    split
    · rename_i e
      exact good_fst e (dwrr_good h)
    · rename_i e
      have h1 := good_fst e (dwrr_good h)
      split
      · rename_i e
        exact good_fst e (good_ite_fst h1 (dwrr_good h1))
      · rename_i e
        exact dwrr_good (good_fst e (good_ite_fst h1 (dwrr_good h1)))

theorem spendDeficit_good {n : Nat} {c : Option Nat} {q : List Instr} {s : State} {k : Nat} {n' : Nat} {more : Bool} (h : Good n c q s) :
    Good n c q (State.spendDeficit s k n' more) := by
  unfold State.spendDeficit
  repeat' first
    | with_reducible assumption
    | (intro)
    | with_reducible apply setDeficit_good
    | with_reducible apply good_ite
    | (split)
    | (refine good_ite ?_ ?_)
    | (dsimp only)

theorem chargeRounds_good {n : Nat} {c : Option Nat} {q : List Instr} {s : State} {q' : Nat} {n' : Nat} (h : Good n c q s) :
    Good n c q (State.chargeRounds s q' n') := by
  unfold State.chargeRounds
  repeat' first
    | with_reducible assumption
    | (intro)
    | (extract_lets +onlyGivenNames s1; have hs1 : Good n c q s1 := by with_reducible assumption
       clear hs1; unfold s1; clear s1)
    | (extract_lets +onlyGivenNames s1; refine good_cut (n := n) (c := c) (q := q) s1 ?_ ?_ <;> [(unfold s1; clear s1); (intro hs1; clear_value s1; revert hs1; revert s1; intro t1 ht1)])
    | (extract_lets +onlyGivenNames x1; clear_value x1; revert x1; intro y1)
    | (extract_lets +onlyGivenNames s1; refine good_cut (n := n) (c := c) (q := q) s1 ?_ ?_ <;> [(unfold s1; clear s1); (intro hs1; refine good_ite ?_ ?_ <;> (clear_value s1; revert hs1; revert s1; intro t1 ht1))])
    | with_reducible apply spendDeficit_good
    | with_reducible apply good_ite
    | (split)
    | (refine good_ite ?_ ?_)
    | (dsimp only)

theorem dequeue_good {n : Nat} {c : Option Nat} {q : List Instr} {s : State} {q' : Nat} (h : Good n c q s) :
    Good n c q (State.dequeue s q').1 := by
  unfold State.dequeue
  repeat' first
    | with_reducible assumption
    | (intro)
    | (extract_lets +onlyGivenNames s1; have hs1 : Good n c q s1 := by with_reducible assumption
       clear hs1; unfold s1; clear s1)
    | (extract_lets +onlyGivenNames s1; refine good_cut (n := n) (c := c) (q := q) s1 ?_ ?_ <;> [(unfold s1; clear s1); (intro hs1; clear_value s1; revert hs1; revert s1; intro t1 ht1)])
    | (extract_lets +onlyGivenNames x1; clear_value x1; revert x1; intro y1)
    | (extract_lets +onlyGivenNames s1; refine good_cut (n := n) (c := c) (q := q) s1 ?_ ?_ <;> [(unfold s1; clear s1); (intro hs1; refine good_ite ?_ ?_ <;> (clear_value s1; revert hs1; revert s1; intro t1 ht1))])
    | with_reducible apply memRead_good
    | with_reducible apply consumePoison_good
    | with_reducible apply unbind_good
    | with_reducible apply writeQueue_good
    | with_reducible apply chargeRounds_good
    | with_reducible apply debitPath_good
    | with_reducible apply bumpP_good
    | with_reducible apply bumpBy_good
    | with_reducible apply tmStatus_good
    | fail_if_no_progress (with_reducible refine good_mk ?_ rfl rfl rfl rfl rfl rfl rfl rfl rfl)
    | with_reducible apply good_ite
    | (with_reducible apply good_fst; with_reducible assumption)
    | (split)
    | (refine good_ite ?_ ?_)
    | (dsimp only)

theorem execQueueBind_good {n : Nat} {c : Option Nat} {q : List Instr} {iss : Issue} {op0 : Nat} {op1 : Nat} {s : State} (h : Good n c q s) :
    GoodOut n c q (execQueueBind iss op0 op1 s) := by
  unfold execQueueBind
  repeat' first
    | with_reducible assumption
    | (intro)
    | (extract_lets +onlyGivenNames s1; have hs1 : Good n c q s1 := by with_reducible assumption
       clear hs1; unfold s1; clear s1)
    | (extract_lets +onlyGivenNames s1; refine good_cut (n := n) (c := c) (q := q) s1 ?_ ?_ <;> [(unfold s1; clear s1); (intro hs1; clear_value s1; revert hs1; revert s1; intro t1 ht1)])
    | (extract_lets +onlyGivenNames x1; clear_value x1; revert x1; intro y1)
    | (extract_lets +onlyGivenNames s1; refine good_cut (n := n) (c := c) (q := q) s1 ?_ ?_ <;> [(unfold s1; clear s1); (intro hs1; refine good_ite ?_ ?_ <;> (clear_value s1; revert hs1; revert s1; intro t1 ht1))])
    | with_reducible apply good_next
    | with_reducible apply hostCmdAt_good
    | with_reducible apply refuse_good
    | with_reducible apply nextOpen_good
    | with_reducible apply writeQueue_good
    | with_reducible apply setDeficit_good
    | with_reducible apply succeed_good
    | fail_if_no_progress (with_reducible refine good_mk ?_ rfl rfl rfl rfl rfl rfl rfl rfl rfl)
    | with_reducible apply good_ite
    | (with_reducible apply good_fst; with_reducible assumption)
    | (split)
    | (refine good_ite ?_ ?_)
    | (dsimp only)

theorem execQueueModify_good {n : Nat} {c : Option Nat} {q : List Instr} {iss : Issue} {op0 : Nat} {op1 : Nat} {s : State} (h : Good n c q s) :
    GoodOut n c q (execQueueModify iss op0 op1 s) := by
  unfold execQueueModify
  repeat' first
    | with_reducible assumption
    | (intro)
    | (extract_lets +onlyGivenNames s1; have hs1 : Good n c q s1 := by with_reducible assumption
       clear hs1; unfold s1; clear s1)
    | (extract_lets +onlyGivenNames s1; refine good_cut (n := n) (c := c) (q := q) s1 ?_ ?_ <;> [(unfold s1; clear s1); (intro hs1; clear_value s1; revert hs1; revert s1; intro t1 ht1)])
    | (extract_lets +onlyGivenNames x1; clear_value x1; revert x1; intro y1)
    | (extract_lets +onlyGivenNames s1; refine good_cut (n := n) (c := c) (q := q) s1 ?_ ?_ <;> [(unfold s1; clear s1); (intro hs1; refine good_ite ?_ ?_ <;> (clear_value s1; revert hs1; revert s1; intro t1 ht1))])
    | with_reducible apply good_next
    | with_reducible apply hostCmdAt_good
    | with_reducible apply refuse_good
    | with_reducible apply writeQueue_good
    | with_reducible apply succeed_good
    | fail_if_no_progress (with_reducible refine good_mk ?_ rfl rfl rfl rfl rfl rfl rfl rfl rfl)
    | with_reducible apply good_ite
    | (with_reducible apply good_fst; with_reducible assumption)
    | (split)
    | (refine good_ite ?_ ?_)
    | (dsimp only)

theorem execQueueUnbind_good {n : Nat} {c : Option Nat} {q : List Instr} {iss : Issue} {op0 : Nat} {s : State} (h : Good n c q s) :
    GoodOut n c q (execQueueUnbind iss op0 s) := by
  unfold execQueueUnbind
  repeat' first
    | with_reducible assumption
    | (intro)
    | (extract_lets +onlyGivenNames s1; have hs1 : Good n c q s1 := by with_reducible assumption
       clear hs1; unfold s1; clear s1)
    | (extract_lets +onlyGivenNames s1; refine good_cut (n := n) (c := c) (q := q) s1 ?_ ?_ <;> [(unfold s1; clear s1); (intro hs1; clear_value s1; revert hs1; revert s1; intro t1 ht1)])
    | (extract_lets +onlyGivenNames x1; clear_value x1; revert x1; intro y1)
    | (extract_lets +onlyGivenNames s1; refine good_cut (n := n) (c := c) (q := q) s1 ?_ ?_ <;> [(unfold s1; clear s1); (intro hs1; refine good_ite ?_ ?_ <;> (clear_value s1; revert hs1; revert s1; intro t1 ht1))])
    | with_reducible apply good_next
    | with_reducible apply hostCmdAt_good
    | with_reducible apply refuse_good
    | with_reducible apply unbind_good
    | with_reducible apply succeed_good
    | with_reducible apply good_ite
    | (with_reducible apply good_fst; with_reducible assumption)
    | (split)
    | (refine good_ite ?_ ?_)
    | (dsimp only)

theorem execQueueRead_good {n : Nat} {c : Option Nat} {q : List Instr} {iss : Issue} {op0 : Nat} {s : State} (h : Good n c q s) :
    GoodOut n c q (execQueueRead iss op0 s) := by
  unfold execQueueRead
  repeat' first
    | with_reducible assumption
    | (intro)
    | (extract_lets +onlyGivenNames s1; have hs1 : Good n c q s1 := by with_reducible assumption
       clear hs1; unfold s1; clear s1)
    | (extract_lets +onlyGivenNames s1; refine good_cut (n := n) (c := c) (q := q) s1 ?_ ?_ <;> [(unfold s1; clear s1); (intro hs1; clear_value s1; revert hs1; revert s1; intro t1 ht1)])
    | (extract_lets +onlyGivenNames x1; clear_value x1; revert x1; intro y1)
    | (extract_lets +onlyGivenNames s1; refine good_cut (n := n) (c := c) (q := q) s1 ?_ ?_ <;> [(unfold s1; clear s1); (intro hs1; refine good_ite ?_ ?_ <;> (clear_value s1; revert hs1; revert s1; intro t1 ht1))])
    | with_reducible apply good_next
    | with_reducible apply hostCmdAt_good
    | with_reducible apply refuse_good
    | with_reducible apply memRead_good
    | with_reducible apply toHost_good
    | with_reducible apply complete_good
    | fail_if_no_progress (with_reducible refine good_mk ?_ rfl rfl rfl rfl rfl rfl rfl rfl rfl)
    | with_reducible apply good_ite
    | (with_reducible apply good_fst; with_reducible assumption)
    | (split)
    | (refine good_ite ?_ ?_)
    | (dsimp only)

theorem execNodeSet_good {n : Nat} {c : Option Nat} {q : List Instr} {iss : Issue} {op0 : Nat} {op1 : Nat} {op2 : Nat} {op3 : Nat} {s : State} (h : Good n c q s) :
    GoodOut n c q (execNodeSet iss op0 op1 op2 op3 s) := by
  unfold execNodeSet
  repeat' first
    | with_reducible assumption
    | (intro)
    | (extract_lets +onlyGivenNames s1; have hs1 : Good n c q s1 := by with_reducible assumption
       clear hs1; unfold s1; clear s1)
    | (extract_lets +onlyGivenNames s1; refine good_cut (n := n) (c := c) (q := q) s1 ?_ ?_ <;> [(unfold s1; clear s1); (intro hs1; clear_value s1; revert hs1; revert s1; intro t1 ht1)])
    | (extract_lets +onlyGivenNames x1; clear_value x1; revert x1; intro y1)
    | (extract_lets +onlyGivenNames s1; refine good_cut (n := n) (c := c) (q := q) s1 ?_ ?_ <;> [(unfold s1; clear s1); (intro hs1; refine good_ite ?_ ?_ <;> (clear_value s1; revert hs1; revert s1; intro t1 ht1))])
    | with_reducible apply good_next
    | with_reducible apply hostCmd_good
    | with_reducible apply refuse_good
    | with_reducible apply level_good
    | with_reducible apply nextOpen_good
    | with_reducible apply setNode_good
    | with_reducible apply succeed_good
    | with_reducible apply good_ite
    | (with_reducible apply good_fst; with_reducible assumption)
    | (split)
    | (refine good_ite ?_ ?_)
    | (dsimp only)

theorem execNodeRead_good {n : Nat} {c : Option Nat} {q : List Instr} {iss : Issue} {op0 : Nat} {s : State} (h : Good n c q s) :
    GoodOut n c q (execNodeRead iss op0 s) := by
  unfold execNodeRead
  repeat' first
    | with_reducible assumption
    | (intro)
    | (extract_lets +onlyGivenNames s1; have hs1 : Good n c q s1 := by with_reducible assumption
       clear hs1; unfold s1; clear s1)
    | (extract_lets +onlyGivenNames s1; refine good_cut (n := n) (c := c) (q := q) s1 ?_ ?_ <;> [(unfold s1; clear s1); (intro hs1; clear_value s1; revert hs1; revert s1; intro t1 ht1)])
    | (extract_lets +onlyGivenNames x1; clear_value x1; revert x1; intro y1)
    | (extract_lets +onlyGivenNames s1; refine good_cut (n := n) (c := c) (q := q) s1 ?_ ?_ <;> [(unfold s1; clear s1); (intro hs1; refine good_ite ?_ ?_ <;> (clear_value s1; revert hs1; revert s1; intro t1 ht1))])
    | with_reducible apply good_next
    | with_reducible apply hostCmd_good
    | with_reducible apply refuse_good
    | with_reducible apply toHost_good
    | with_reducible apply succeed_good
    | (with_reducible apply good_fst; with_reducible assumption)
    | (split)
    | (dsimp only)

end Sys2Proof.Machine
end

