-- ==== Sys2Proof/Laws/GoodOnu.lean ====
section
/-!
SUPPORT. What the operations of Machine/Onu.lean keep.
-/
set_option linter.all false
set_option linter.unreachableTactic false
set_option linter.unusedTactic false
namespace Sys2Proof.Machine

theorem guarStatus_good {n : Nat} {c : Option Nat} {q : List Instr} {s : State} {p : Port} (h : Good n c q s) :
    Good n c q (State.guarStatus s p) := by
  unfold State.guarStatus
  repeat' first
    | with_reducible assumption
    | (intro)
    | with_reducible apply setFld_good
    | (dsimp only)

theorem coreSend_good {n : Nat} {c : Option Nat} {q : List Instr} {s : State} {p : Port} {onu : Nat} {type : Nat} {content : List Byte} {stamp : Bool} (h : Good n c q s) :
    Good n c q (State.coreSend s p onu type content stamp) := by
  unfold State.coreSend
  repeat' first
    | with_reducible assumption
    | (intro)
    | (extract_lets +onlyGivenNames s1; have hs1 : Good n c q s1 := by with_reducible assumption
       clear hs1; unfold s1; clear s1)
    | (extract_lets +onlyGivenNames s1; refine good_cut (n := n) (c := c) (q := q) s1 ?_ ?_ <;> [(unfold s1; clear s1); (intro hs1; clear_value s1; revert hs1; revert s1; intro t1 ht1)])
    | (extract_lets +onlyGivenNames x1; clear_value x1; revert x1; intro y1)
    | (extract_lets +onlyGivenNames s1; refine good_cut (n := n) (c := c) (q := q) s1 ?_ ?_ <;> [(unfold s1; clear s1); (intro hs1; refine good_ite ?_ ?_ <;> (clear_value s1; revert hs1; revert s1; intro t1 ht1))])
    | with_reducible apply modTcf_good
    | fail_if_no_progress (with_reducible refine good_mk ?_ rfl rfl rfl rfl rfl rfl rfl rfl rfl)
    | with_reducible apply good_ite
    | (with_reducible apply good_fst; with_reducible assumption)
    | (split)
    | (refine good_ite ?_ ?_)
    | (dsimp only)

theorem dropCore_good {n : Nat} {c : Option Nat} {q : List Instr} {s : State} {p : Port} {onu : Nat} {types : List Nat} (h : Good n c q s) :
    Good n c q (State.dropCore s p onu types) := by
  unfold State.dropCore
  repeat' first
    | with_reducible assumption
    | (intro)
    | (extract_lets +onlyGivenNames s1; have hs1 : Good n c q s1 := by with_reducible assumption
       clear hs1; unfold s1; clear s1)
    | (extract_lets +onlyGivenNames s1; refine good_cut (n := n) (c := c) (q := q) s1 ?_ ?_ <;> [(unfold s1; clear s1); (intro hs1; clear_value s1; revert hs1; revert s1; intro t1 ht1)])
    | (extract_lets +onlyGivenNames x1; clear_value x1; revert x1; intro y1)
    | (extract_lets +onlyGivenNames s1; refine good_cut (n := n) (c := c) (q := q) s1 ?_ ?_ <;> [(unfold s1; clear s1); (intro hs1; refine good_ite ?_ ?_ <;> (clear_value s1; revert hs1; revert s1; intro t1 ht1))])
    | with_reducible apply modTcf_good
    | fail_if_no_progress (with_reducible refine good_mk ?_ rfl rfl rfl rfl rfl rfl rfl rfl rfl)
    | (dsimp only)

theorem sendDeactivate_good {n : Nat} {c : Option Nat} {q : List Instr} {s : State} {p : Port} {onu : Nat} {reason : Nat} (h : Good n c q s) :
    Good n c q (State.sendDeactivate s p onu reason) := by
  unfold State.sendDeactivate
  repeat' first
    | with_reducible assumption
    | (intro)
    | with_reducible apply coreSend_good
    | (dsimp only)

theorem sendAssign_good {n : Nat} {c : Option Nat} {q : List Instr} {s : State} {p : Port} {x : OnuCtx} (h : Good n c q s) :
    Good n c q (State.sendAssign s p x) := by
  unfold State.sendAssign
  repeat' first
    | with_reducible assumption
    | (intro)
    | with_reducible apply coreSend_good
    | (dsimp only)

theorem sendRangingTime_good {n : Nat} {c : Option Nat} {q : List Instr} {s : State} {p : Port} {x : OnuCtx} (h : Good n c q s) :
    Good n c q (State.sendRangingTime s p x) := by
  unfold State.sendRangingTime
  repeat' first
    | with_reducible assumption
    | (intro)
    | with_reducible apply dropCore_good
    | with_reducible apply coreSend_good
    | (dsimp only)

theorem sendTrainResult_good {n : Nat} {c : Option Nat} {q : List Instr} {s : State} {p : Port} {x : OnuCtx} {result : Nat} {err : Nat} {used : Nat} (h : Good n c q s) :
    Good n c q (State.sendTrainResult s p x result err used) := by
  unfold State.sendTrainResult
  repeat' first
    | with_reducible assumption
    | (intro)
    | with_reducible apply coreSend_good
    | (dsimp only)

theorem setIdMap_good {n : Nat} {c : Option Nat} {q : List Instr} {s : State} {p : Port} {onu : Nat} {slot : Option Nat} (h : Good n c q s) :
    Good n c q (State.setIdMap s p onu slot) := by
  unfold State.setIdMap
  repeat' first
    | with_reducible assumption
    | (intro)
    | with_reducible apply setFlag_good
    | with_reducible apply setFld_good
    | (dsimp only)

theorem createCtx_good {n : Nat} {c : Option Nat} {q : List Instr} {s : State} {p : Port} {c' : Nat} {onu : Nat} {serial : Nat} {caps : Nat} {gain : Option Nat} {origin : RangingOrigin} (h : Good n c q s) :
    Good n c q (State.createCtx s p c' onu serial caps gain origin) := by
  unfold State.createCtx
  repeat' first
    | with_reducible assumption
    | (intro)
    | (extract_lets +onlyGivenNames s1; have hs1 : Good n c q s1 := by with_reducible assumption
       clear hs1; unfold s1; clear s1)
    | (extract_lets +onlyGivenNames s1; refine good_cut (n := n) (c := c) (q := q) s1 ?_ ?_ <;> [(unfold s1; clear s1); (intro hs1; clear_value s1; revert hs1; revert s1; intro t1 ht1)])
    | (extract_lets +onlyGivenNames x1; clear_value x1; revert x1; intro y1)
    | (extract_lets +onlyGivenNames s1; refine good_cut (n := n) (c := c) (q := q) s1 ?_ ?_ <;> [(unfold s1; clear s1); (intro hs1; refine good_ite ?_ ?_ <;> (clear_value s1; revert hs1; revert s1; intro t1 ht1))])
    | with_reducible apply memWriteWords_good
    | with_reducible apply setCtx_good
    | with_reducible apply enterOnu_good
    | with_reducible apply modTcf_good
    | with_reducible apply setIdMap_good
    | with_reducible apply zeroExt_good
    | with_reducible apply guarStatus_good
    | fail_if_no_progress (with_reducible refine good_mk ?_ rfl rfl rfl rfl rfl rfl rfl rfl rfl)
    | (with_reducible apply good_fst; with_reducible assumption)
    | (dsimp only)

theorem freeCtx_good {n : Nat} {c : Option Nat} {q : List Instr} {s : State} {p : Port} {c' : Nat} (h : Good n c q s) :
    Good n c q (State.freeCtx s p c') := by
  unfold State.freeCtx
  repeat' first
    | with_reducible assumption
    | (intro)
    | (extract_lets +onlyGivenNames s1; have hs1 : Good n c q s1 := by with_reducible assumption
       clear hs1; unfold s1; clear s1)
    | (extract_lets +onlyGivenNames s1; refine good_cut (n := n) (c := c) (q := q) s1 ?_ ?_ <;> [(unfold s1; clear s1); (intro hs1; clear_value s1; revert hs1; revert s1; intro t1 ht1)])
    | (extract_lets +onlyGivenNames x1; clear_value x1; revert x1; intro y1)
    | (extract_lets +onlyGivenNames s1; refine good_cut (n := n) (c := c) (q := q) s1 ?_ ?_ <;> [(unfold s1; clear s1); (intro hs1; refine good_ite ?_ ?_ <;> (clear_value s1; revert hs1; revert s1; intro t1 ht1))])
    | with_reducible apply dropCore_good
    | with_reducible apply flushSends_good
    | with_reducible apply dropRunning_good
    | with_reducible apply unbindNodes_good
    | with_reducible apply setCtx_good
    | with_reducible apply onuStatus_good
    | with_reducible apply setIdMap_good
    | with_reducible apply guarStatus_good
    | fail_if_no_progress (with_reducible refine good_mk ?_ rfl rfl rfl rfl rfl rfl rfl rfl rfl)
    | (with_reducible apply good_fst; with_reducible assumption)
    | (dsimp only)

theorem freeAll_good {n : Nat} {c : Option Nat} {q : List Instr} {s : State} {p : Port} (h : Good n c q s) :
    Good n c q (State.freeAll s p) := by
  unfold State.freeAll
  repeat' first
    | with_reducible assumption
    | (intro)
    | with_reducible apply freeCtx_good
    | with_reducible apply good_foldl
    | with_reducible apply good_foldl_fst
    | (dsimp only)

theorem startRanging_good {n : Nat} {c : Option Nat} {q : List Instr} {s : State} {p : Port} {c' : Nat} {rtd : Nat} {eqd : Nat} {origin : RangingOrigin} (h : Good n c q s) :
    Good n c q (State.startRanging s p c' rtd eqd origin) := by
  unfold State.startRanging
  repeat' first
    | with_reducible assumption
    | (intro)
    | (extract_lets +onlyGivenNames s1; have hs1 : Good n c q s1 := by with_reducible assumption
       clear hs1; unfold s1; clear s1)
    | (extract_lets +onlyGivenNames s1; refine good_cut (n := n) (c := c) (q := q) s1 ?_ ?_ <;> [(unfold s1; clear s1); (intro hs1; clear_value s1; revert hs1; revert s1; intro t1 ht1)])
    | (extract_lets +onlyGivenNames x1; clear_value x1; revert x1; intro y1)
    | (extract_lets +onlyGivenNames s1; refine good_cut (n := n) (c := c) (q := q) s1 ?_ ?_ <;> [(unfold s1; clear s1); (intro hs1; refine good_ite ?_ ?_ <;> (clear_value s1; revert hs1; revert s1; intro t1 ht1))])
    | with_reducible apply dropCore_good
    | with_reducible apply modCtx_good
    | with_reducible apply enterOnu_good
    | with_reducible apply sendAssign_good
    | fail_if_no_progress (with_reducible refine good_mk ?_ rfl rfl rfl rfl rfl rfl rfl rfl rfl)
    | (with_reducible apply good_fst; with_reducible assumption)
    | (dsimp only)

theorem issueRequest_good {n : Nat} {c : Option Nat} {q : List Instr} {s : State} {p : Port} {c' : Nat} (h : Good n c q s) :
    Good n c q (State.issueRequest s p c') := by
  unfold State.issueRequest
  repeat' first
    | with_reducible assumption
    | (intro)
    | (extract_lets +onlyGivenNames s1; have hs1 : Good n c q s1 := by with_reducible assumption
       clear hs1; unfold s1; clear s1)
    | (extract_lets +onlyGivenNames s1; refine good_cut (n := n) (c := c) (q := q) s1 ?_ ?_ <;> [(unfold s1; clear s1); (intro hs1; clear_value s1; revert hs1; revert s1; intro t1 ht1)])
    | (extract_lets +onlyGivenNames x1; clear_value x1; revert x1; intro y1)
    | (extract_lets +onlyGivenNames s1; refine good_cut (n := n) (c := c) (q := q) s1 ?_ ?_ <;> [(unfold s1; clear s1); (intro hs1; refine good_ite ?_ ?_ <;> (clear_value s1; revert hs1; revert s1; intro t1 ht1))])
    | with_reducible apply modCtx_good
    | with_reducible apply coreSend_good
    | fail_if_no_progress (with_reducible refine good_mk ?_ rfl rfl rfl rfl rfl rfl rfl rfl rfl)
    | (with_reducible apply good_fst; with_reducible assumption)
    | (dsimp only)

theorem startTraining_good {n : Nat} {c : Option Nat} {q : List Instr} {s : State} {p : Port} {c' : Nat} {viaStart : Bool} (h : Good n c q s) :
    Good n c q (State.startTraining s p c' viaStart) := by
  unfold State.startTraining
  repeat' first
    | with_reducible assumption
    | (intro)
    | (extract_lets +onlyGivenNames s1; have hs1 : Good n c q s1 := by with_reducible assumption
       clear hs1; unfold s1; clear s1)
    | (extract_lets +onlyGivenNames s1; refine good_cut (n := n) (c := c) (q := q) s1 ?_ ?_ <;> [(unfold s1; clear s1); (intro hs1; clear_value s1; revert hs1; revert s1; intro t1 ht1)])
    | (extract_lets +onlyGivenNames x1; clear_value x1; revert x1; intro y1)
    | (extract_lets +onlyGivenNames s1; refine good_cut (n := n) (c := c) (q := q) s1 ?_ ?_ <;> [(unfold s1; clear s1); (intro hs1; refine good_ite ?_ ?_ <;> (clear_value s1; revert hs1; revert s1; intro t1 ht1))])
    | with_reducible apply modCtx_good
    | with_reducible apply enterOnu_good
    | with_reducible apply issueRequest_good
    | fail_if_no_progress (with_reducible refine good_mk ?_ rfl rfl rfl rfl rfl rfl rfl rfl rfl)
    | (with_reducible apply good_fst; with_reducible assumption)
    | (dsimp only)

theorem startAbsent_good {n : Nat} {c : Option Nat} {q : List Instr} {s : State} {p : Port} {c' : Nat} (h : Good n c q s) :
    Good n c q (State.startAbsent s p c') := by
  unfold State.startAbsent
  repeat' first
    | with_reducible assumption
    | (intro)
    | (extract_lets +onlyGivenNames s1; have hs1 : Good n c q s1 := by with_reducible assumption
       clear hs1; unfold s1; clear s1)
    | (extract_lets +onlyGivenNames s1; refine good_cut (n := n) (c := c) (q := q) s1 ?_ ?_ <;> [(unfold s1; clear s1); (intro hs1; clear_value s1; revert hs1; revert s1; intro t1 ht1)])
    | (extract_lets +onlyGivenNames x1; clear_value x1; revert x1; intro y1)
    | (extract_lets +onlyGivenNames s1; refine good_cut (n := n) (c := c) (q := q) s1 ?_ ?_ <;> [(unfold s1; clear s1); (intro hs1; refine good_ite ?_ ?_ <;> (clear_value s1; revert hs1; revert s1; intro t1 ht1))])
    | with_reducible apply dropCore_good
    | with_reducible apply modCtx_good
    | with_reducible apply enterOnu_good
    | fail_if_no_progress (with_reducible refine good_mk ?_ rfl rfl rfl rfl rfl rfl rfl rfl rfl)
    | (with_reducible apply good_fst; with_reducible assumption)
    | (dsimp only)

theorem startDormant_good {n : Nat} {c : Option Nat} {q : List Instr} {s : State} {p : Port} {c' : Nat} {reason : Option Nat} (h : Good n c q s) :
    Good n c q (State.startDormant s p c' reason) := by
  unfold State.startDormant
  repeat' first
    | with_reducible assumption
    | (intro)
    | (extract_lets +onlyGivenNames s1; have hs1 : Good n c q s1 := by with_reducible assumption
       clear hs1; unfold s1; clear s1)
    | (extract_lets +onlyGivenNames s1; refine good_cut (n := n) (c := c) (q := q) s1 ?_ ?_ <;> [(unfold s1; clear s1); (intro hs1; clear_value s1; revert hs1; revert s1; intro t1 ht1)])
    | (extract_lets +onlyGivenNames x1; clear_value x1; revert x1; intro y1)
    | (extract_lets +onlyGivenNames s1; refine good_cut (n := n) (c := c) (q := q) s1 ?_ ?_ <;> [(unfold s1; clear s1); (intro hs1; refine good_ite ?_ ?_ <;> (clear_value s1; revert hs1; revert s1; intro t1 ht1))])
    | with_reducible apply dropCore_good
    | with_reducible apply sendDeactivate_good
    | with_reducible apply flushSends_good
    | with_reducible apply modCtx_good
    | with_reducible apply enterOnu_good
    | fail_if_no_progress (with_reducible refine good_mk ?_ rfl rfl rfl rfl rfl rfl rfl rfl rfl)
    | (with_reducible apply good_fst; with_reducible assumption)
    | (split)
    | (dsimp only)

theorem execSerialNumberResponse_good {n : Nat} {c : Option Nat} {q : List Instr} {port : Port} {entry : Nat} {tick : Nat} {resp : Nat} {msg : Ploam} {tail : PloamTail} {s : State} (h : Good n c q s) :
    GoodOut n c q (execSerialNumberResponse port entry tick resp msg tail s) := by
  unfold execSerialNumberResponse
  repeat' first
    | with_reducible assumption
    | (intro)
    | (extract_lets +onlyGivenNames s1; have hs1 : Good n c q s1 := by with_reducible assumption
       clear hs1; unfold s1; clear s1)
    | (extract_lets +onlyGivenNames s1; refine good_cut (n := n) (c := c) (q := q) s1 ?_ ?_ <;> [(unfold s1; clear s1); (intro hs1; clear_value s1; revert hs1; revert s1; intro t1 ht1)])
    | (extract_lets +onlyGivenNames x1; clear_value x1; revert x1; intro y1)
    | (extract_lets +onlyGivenNames s1; refine good_cut (n := n) (c := c) (q := q) s1 ?_ ?_ <;> [(unfold s1; clear s1); (intro hs1; refine good_ite ?_ ?_ <;> (clear_value s1; revert hs1; revert s1; intro t1 ht1))])
    | with_reducible apply good_next
    | with_reducible apply bumpP_good
    | with_reducible apply pulseP_good
    | with_reducible apply useCtx_good
    | with_reducible apply modCtx_good
    | with_reducible apply startRanging_good
    | with_reducible apply createCtx_good
    | fail_if_no_progress (with_reducible refine good_mk ?_ rfl rfl rfl rfl rfl rfl rfl rfl rfl)
    | with_reducible apply good_ite
    | (with_reducible apply good_fst; with_reducible assumption)
    | (split)
    | (refine good_ite ?_ ?_)
    | (dsimp only)

theorem execRegistration_good {n : Nat} {c : Option Nat} {q : List Instr} {port : Port} {entry : Nat} {tick : Nat} {msg : Ploam} {tail : PloamTail} {s : State} (h : Good n c q s) :
    GoodOut n c q (execRegistration port entry tick msg tail s) := by
  unfold execRegistration
  repeat' first
    | with_reducible assumption
    | (intro)
    | (extract_lets +onlyGivenNames s1; have hs1 : Good n c q s1 := by with_reducible assumption
       clear hs1; unfold s1; clear s1)
    | (extract_lets +onlyGivenNames s1; refine good_cut (n := n) (c := c) (q := q) s1 ?_ ?_ <;> [(unfold s1; clear s1); (intro hs1; clear_value s1; revert hs1; revert s1; intro t1 ht1)])
    | (extract_lets +onlyGivenNames x1; clear_value x1; revert x1; intro y1)
    | (extract_lets +onlyGivenNames s1; refine good_cut (n := n) (c := c) (q := q) s1 ?_ ?_ <;> [(unfold s1; clear s1); (intro hs1; refine good_ite ?_ ?_ <;> (clear_value s1; revert hs1; revert s1; intro t1 ht1))])
    | with_reducible apply good_next
    | with_reducible apply useCtx_good
    | with_reducible apply dropCore_good
    | with_reducible apply modCtx_good
    | with_reducible apply sendRangingTime_good
    | with_reducible apply startTraining_good
    | with_reducible apply enterOnu_good
    | fail_if_no_progress (with_reducible refine good_mk ?_ rfl rfl rfl rfl rfl rfl rfl rfl rfl)
    | with_reducible apply good_ite
    | (with_reducible apply good_fst; with_reducible assumption)
    | (split)
    | (refine good_ite ?_ ?_)
    | (dsimp only)

theorem execRangingFailed_good {n : Nat} {c : Option Nat} {q : List Instr} {port : Port} {slot : Nat} {s : State} (h : Good n c q s) :
    GoodOut n c q (execRangingFailed port slot s) := by
  unfold execRangingFailed
  repeat' first
    | with_reducible assumption
    | (intro)
    | (extract_lets +onlyGivenNames s1; have hs1 : Good n c q s1 := by with_reducible assumption
       clear hs1; unfold s1; clear s1)
    | (extract_lets +onlyGivenNames s1; refine good_cut (n := n) (c := c) (q := q) s1 ?_ ?_ <;> [(unfold s1; clear s1); (intro hs1; clear_value s1; revert hs1; revert s1; intro t1 ht1)])
    | (extract_lets +onlyGivenNames x1; clear_value x1; revert x1; intro y1)
    | (extract_lets +onlyGivenNames s1; refine good_cut (n := n) (c := c) (q := q) s1 ?_ ?_ <;> [(unfold s1; clear s1); (intro hs1; refine good_ite ?_ ?_ <;> (clear_value s1; revert hs1; revert s1; intro t1 ht1))])
    | with_reducible apply good_next
    | with_reducible apply useCtx_good
    | with_reducible apply bumpP_good
    | with_reducible apply pulseP_good
    | with_reducible apply freeCtx_good
    | with_reducible apply sendDeactivate_good
    | with_reducible apply startDormant_good
    | with_reducible apply dropCore_good
    | with_reducible apply enterOnu_good
    | with_reducible apply good_ite
    | (with_reducible apply good_fst; with_reducible assumption)
    | (split)
    | (refine good_ite ?_ ?_)
    | (dsimp only)

theorem unanswered_good {n : Nat} {c : Option Nat} {q : List Instr} {s : State} {p : Port} {c' : Nat} (h : Good n c q s) :
    Good n c q (State.unanswered s p c') := by
  unfold State.unanswered
  repeat' first
    | with_reducible assumption
    | (intro)
    | (extract_lets +onlyGivenNames s1; have hs1 : Good n c q s1 := by with_reducible assumption
       clear hs1; unfold s1; clear s1)
    | (extract_lets +onlyGivenNames s1; refine good_cut (n := n) (c := c) (q := q) s1 ?_ ?_ <;> [(unfold s1; clear s1); (intro hs1; clear_value s1; revert hs1; revert s1; intro t1 ht1)])
    | (extract_lets +onlyGivenNames x1; clear_value x1; revert x1; intro y1)
    | (extract_lets +onlyGivenNames s1; refine good_cut (n := n) (c := c) (q := q) s1 ?_ ?_ <;> [(unfold s1; clear s1); (intro hs1; refine good_ite ?_ ?_ <;> (clear_value s1; revert hs1; revert s1; intro t1 ht1))])
    | with_reducible apply sendTrainResult_good
    | with_reducible apply nextOpen_good
    | with_reducible apply modCtx_good
    | with_reducible apply bumpP_good
    | with_reducible apply startAbsent_good
    | with_reducible apply issueRequest_good
    | fail_if_no_progress (with_reducible refine good_mk ?_ rfl rfl rfl rfl rfl rfl rfl rfl rfl)
    | with_reducible apply good_ite
    | (split)
    | (refine good_ite ?_ ?_)
    | (dsimp only)

theorem execTrainRequestEnd_good {n : Nat} {c : Option Nat} {q : List Instr} {port : Port} {slot : Nat} {s : State} (h : Good n c q s) :
    GoodOut n c q (execTrainRequestEnd port slot s) := by
  unfold execTrainRequestEnd
  repeat' first
    | with_reducible assumption
    | (intro)
    | (extract_lets +onlyGivenNames s1; have hs1 : Good n c q s1 := by with_reducible assumption
       clear hs1; unfold s1; clear s1)
    | (extract_lets +onlyGivenNames s1; refine good_cut (n := n) (c := c) (q := q) s1 ?_ ?_ <;> [(unfold s1; clear s1); (intro hs1; clear_value s1; revert hs1; revert s1; intro t1 ht1)])
    | (extract_lets +onlyGivenNames x1; clear_value x1; revert x1; intro y1)
    | (extract_lets +onlyGivenNames s1; refine good_cut (n := n) (c := c) (q := q) s1 ?_ ?_ <;> [(unfold s1; clear s1); (intro hs1; refine good_ite ?_ ?_ <;> (clear_value s1; revert hs1; revert s1; intro t1 ht1))])
    | with_reducible apply good_next
    | with_reducible apply useCtx_good
    | with_reducible apply sendTrainResult_good
    | with_reducible apply modCtx_good
    | with_reducible apply enterOnu_good
    | with_reducible apply pulseP_good
    | with_reducible apply issueRequest_good
    | with_reducible apply unanswered_good
    | fail_if_no_progress (with_reducible refine good_mk ?_ rfl rfl rfl rfl rfl rfl rfl rfl rfl)
    | with_reducible apply good_ite
    | (with_reducible apply good_fst; with_reducible assumption)
    | (split)
    | (refine good_ite ?_ ?_)
    | (dsimp only)

theorem execMissMaxReached_good {n : Nat} {c : Option Nat} {q : List Instr} {port : Port} {slot : Nat} {s : State} (h : Good n c q s) :
    GoodOut n c q (execMissMaxReached port slot s) := by
  unfold execMissMaxReached
  repeat' first
    | with_reducible assumption
    | (intro)
    | (extract_lets +onlyGivenNames s1; have hs1 : Good n c q s1 := by with_reducible assumption
       clear hs1; unfold s1; clear s1)
    | (extract_lets +onlyGivenNames s1; refine good_cut (n := n) (c := c) (q := q) s1 ?_ ?_ <;> [(unfold s1; clear s1); (intro hs1; clear_value s1; revert hs1; revert s1; intro t1 ht1)])
    | (extract_lets +onlyGivenNames x1; clear_value x1; revert x1; intro y1)
    | (extract_lets +onlyGivenNames s1; refine good_cut (n := n) (c := c) (q := q) s1 ?_ ?_ <;> [(unfold s1; clear s1); (intro hs1; refine good_ite ?_ ?_ <;> (clear_value s1; revert hs1; revert s1; intro t1 ht1))])
    | with_reducible apply good_next
    | with_reducible apply useCtx_good
    | with_reducible apply startAbsent_good
    | with_reducible apply good_ite
    | (with_reducible apply good_fst; with_reducible assumption)
    | (split)
    | (refine good_ite ?_ ?_)
    | (dsimp only)

theorem execAbsentTimeout_good {n : Nat} {c : Option Nat} {q : List Instr} {port : Port} {slot : Nat} {s : State} (h : Good n c q s) :
    GoodOut n c q (execAbsentTimeout port slot s) := by
  unfold execAbsentTimeout
  repeat' first
    | with_reducible assumption
    | (intro)
    | (extract_lets +onlyGivenNames s1; have hs1 : Good n c q s1 := by with_reducible assumption
       clear hs1; unfold s1; clear s1)
    | (extract_lets +onlyGivenNames s1; refine good_cut (n := n) (c := c) (q := q) s1 ?_ ?_ <;> [(unfold s1; clear s1); (intro hs1; clear_value s1; revert hs1; revert s1; intro t1 ht1)])
    | (extract_lets +onlyGivenNames x1; clear_value x1; revert x1; intro y1)
    | (extract_lets +onlyGivenNames s1; refine good_cut (n := n) (c := c) (q := q) s1 ?_ ?_ <;> [(unfold s1; clear s1); (intro hs1; refine good_ite ?_ ?_ <;> (clear_value s1; revert hs1; revert s1; intro t1 ht1))])
    | with_reducible apply good_next
    | with_reducible apply useCtx_good
    | with_reducible apply startDormant_good
    | with_reducible apply good_ite
    | (with_reducible apply good_fst; with_reducible assumption)
    | (split)
    | (refine good_ite ?_ ?_)
    | (dsimp only)

theorem execDriftCorrection_good {n : Nat} {c : Option Nat} {q : List Instr} {port : Port} {slot : Nat} {s : State} (h : Good n c q s) :
    GoodOut n c q (execDriftCorrection port slot s) := by
  unfold execDriftCorrection
  repeat' first
    | with_reducible assumption
    | (intro)
    | (extract_lets +onlyGivenNames s1; have hs1 : Good n c q s1 := by with_reducible assumption
       clear hs1; unfold s1; clear s1)
    | (extract_lets +onlyGivenNames s1; refine good_cut (n := n) (c := c) (q := q) s1 ?_ ?_ <;> [(unfold s1; clear s1); (intro hs1; clear_value s1; revert hs1; revert s1; intro t1 ht1)])
    | (extract_lets +onlyGivenNames x1; clear_value x1; revert x1; intro y1)
    | (extract_lets +onlyGivenNames s1; refine good_cut (n := n) (c := c) (q := q) s1 ?_ ?_ <;> [(unfold s1; clear s1); (intro hs1; refine good_ite ?_ ?_ <;> (clear_value s1; revert hs1; revert s1; intro t1 ht1))])
    | with_reducible apply good_next
    | with_reducible apply useCtx_good
    | with_reducible apply modCtx_good
    | with_reducible apply pulseP_good
    | with_reducible apply sendRangingTime_good
    | with_reducible apply bumpP_good
    | fail_if_no_progress (with_reducible refine good_mk ?_ rfl rfl rfl rfl rfl rfl rfl rfl rfl)
    | with_reducible apply good_ite
    | (with_reducible apply good_fst; with_reducible assumption)
    | (split)
    | (refine good_ite ?_ ?_)
    | (dsimp only)

theorem gaspTick_good {n : Nat} {c : Option Nat} {q : List Instr} {s : State} {p : Port} {c' : Nat} (h : Good n c q s) :
    Good n c q (State.gaspTick s p c') := by
  unfold State.gaspTick
  repeat' first
    | with_reducible assumption
    | (intro)
    | (extract_lets +onlyGivenNames s1; have hs1 : Good n c q s1 := by with_reducible assumption
       clear hs1; unfold s1; clear s1)
    | (extract_lets +onlyGivenNames s1; refine good_cut (n := n) (c := c) (q := q) s1 ?_ ?_ <;> [(unfold s1; clear s1); (intro hs1; clear_value s1; revert hs1; revert s1; intro t1 ht1)])
    | (extract_lets +onlyGivenNames x1; clear_value x1; revert x1; intro y1)
    | (extract_lets +onlyGivenNames s1; refine good_cut (n := n) (c := c) (q := q) s1 ?_ ?_ <;> [(unfold s1; clear s1); (intro hs1; refine good_ite ?_ ?_ <;> (clear_value s1; revert hs1; revert s1; intro t1 ht1))])
    | with_reducible apply startAbsent_good
    | with_reducible apply modCtx_good
    | fail_if_no_progress (with_reducible refine good_mk ?_ rfl rfl rfl rfl rfl rfl rfl rfl rfl)
    | with_reducible apply good_ite
    | (split)
    | (refine good_ite ?_ ?_)
    | (dsimp only)

theorem requestTick_good {n : Nat} {c : Option Nat} {q : List Instr} {s : State} {p : Port} {c' : Nat} (h : Good n c q s) :
    Good n c q (State.requestTick s p c') := by
  unfold State.requestTick
  repeat' first
    | with_reducible assumption
    | (intro)
    | (extract_lets +onlyGivenNames s1; have hs1 : Good n c q s1 := by with_reducible assumption
       clear hs1; unfold s1; clear s1)
    | (extract_lets +onlyGivenNames s1; refine good_cut (n := n) (c := c) (q := q) s1 ?_ ?_ <;> [(unfold s1; clear s1); (intro hs1; clear_value s1; revert hs1; revert s1; intro t1 ht1)])
    | (extract_lets +onlyGivenNames x1; clear_value x1; revert x1; intro y1)
    | (extract_lets +onlyGivenNames s1; refine good_cut (n := n) (c := c) (q := q) s1 ?_ ?_ <;> [(unfold s1; clear s1); (intro hs1; refine good_ite ?_ ?_ <;> (clear_value s1; revert hs1; revert s1; intro t1 ht1))])
    | with_reducible apply issueRequest_good
    | with_reducible apply good_ite
    | (split)
    | (refine good_ite ?_ ?_)
    | (dsimp only)

theorem serveCtx_good {n : Nat} {c : Option Nat} {q : List Instr} {s : State} {p : Port} {c' : Nat} (h : Good n c q s) :
    Good n c q (State.serveCtx s p c') := by
  unfold State.serveCtx
  repeat' first
    | with_reducible assumption
    | (intro)
    | (extract_lets +onlyGivenNames s1; have hs1 : Good n c q s1 := by with_reducible assumption
       clear hs1; unfold s1; clear s1)
    | (extract_lets +onlyGivenNames s1; refine good_cut (n := n) (c := c) (q := q) s1 ?_ ?_ <;> [(unfold s1; clear s1); (intro hs1; clear_value s1; revert hs1; revert s1; intro t1 ht1)])
    | (extract_lets +onlyGivenNames x1; clear_value x1; revert x1; intro y1)
    | (extract_lets +onlyGivenNames s1; refine good_cut (n := n) (c := c) (q := q) s1 ?_ ?_ <;> [(unfold s1; clear s1); (intro hs1; refine good_ite ?_ ?_ <;> (clear_value s1; revert hs1; revert s1; intro t1 ht1))])
    | with_reducible apply useCtx_good
    | with_reducible apply gaspTick_good
    | with_reducible apply requestTick_good
    | with_reducible apply good_ite
    | (with_reducible apply good_fst; with_reducible assumption)
    | (split)
    | (refine good_ite ?_ ?_)
    | (dsimp only)

theorem onuTick_good {n : Nat} {c : Option Nat} {q : List Instr} {s : State} {p : Port} (h : Good n c q s) :
    Good n c q (State.onuTick s p) := by
  unfold State.onuTick
  repeat' first
    | with_reducible assumption
    | (intro)
    | (extract_lets +onlyGivenNames s1; have hs1 : Good n c q s1 := by with_reducible assumption
       clear hs1; unfold s1; clear s1)
    | (extract_lets +onlyGivenNames s1; refine good_cut (n := n) (c := c) (q := q) s1 ?_ ?_ <;> [(unfold s1; clear s1); (intro hs1; clear_value s1; revert hs1; revert s1; intro t1 ht1)])
    | (extract_lets +onlyGivenNames x1; clear_value x1; revert x1; intro y1)
    | (extract_lets +onlyGivenNames s1; refine good_cut (n := n) (c := c) (q := q) s1 ?_ ?_ <;> [(unfold s1; clear s1); (intro hs1; refine good_ite ?_ ?_ <;> (clear_value s1; revert hs1; revert s1; intro t1 ht1))])
    | with_reducible apply modCtx_good
    | with_reducible apply serveCtx_good
    | fail_if_no_progress (with_reducible refine good_mk ?_ rfl rfl rfl rfl rfl rfl rfl rfl rfl)
    | with_reducible apply good_foldl
    | with_reducible apply good_foldl_fst
    | with_reducible apply good_ite
    | (split)
    | (refine good_ite ?_ ?_)
    | (dsimp only)

theorem onuWarm_good {n : Nat} {c : Option Nat} {q : List Instr} {s : State} {p : Port} (h : Good n c q s) :
    Good n c q (State.onuWarm s p) := by
  unfold State.onuWarm
  repeat' first
    | with_reducible assumption
    | (intro)
    | (extract_lets +onlyGivenNames s1; have hs1 : Good n c q s1 := by with_reducible assumption
       clear hs1; unfold s1; clear s1)
    | (extract_lets +onlyGivenNames s1; refine good_cut (n := n) (c := c) (q := q) s1 ?_ ?_ <;> [(unfold s1; clear s1); (intro hs1; clear_value s1; revert hs1; revert s1; intro t1 ht1)])
    | (extract_lets +onlyGivenNames x1; clear_value x1; revert x1; intro y1)
    | (extract_lets +onlyGivenNames s1; refine good_cut (n := n) (c := c) (q := q) s1 ?_ ?_ <;> [(unfold s1; clear s1); (intro hs1; refine good_ite ?_ ?_ <;> (clear_value s1; revert hs1; revert s1; intro t1 ht1))])
    | with_reducible apply startRanging_good
    | with_reducible apply dropCore_good
    | with_reducible apply issueRequest_good
    | with_reducible apply good_foldl
    | with_reducible apply good_foldl_fst
    | with_reducible apply good_ite
    | (split)
    | (refine good_ite ?_ ?_)
    | (dsimp only)

theorem onuOff_good {n : Nat} {c : Option Nat} {q : List Instr} {s : State} {p : Port} (h : Good n c q s) :
    Good n c q (State.onuOff s p) := by
  unfold State.onuOff
  repeat' first
    | with_reducible assumption
    | (intro)
    | with_reducible apply startDormant_good
    | with_reducible apply good_foldl
    | with_reducible apply good_foldl_fst
    | (dsimp only)

theorem fwCmd_good {n : Nat} {c : Option Nat} {q : List Instr} {s : State} {iss : Issue} {k : State → State} (h : Good n c q s) (hk : ∀ s, Good n c q s → Good n c q (k s)) :
    Good n c q (State.fwCmd s iss k) := by
  unfold State.fwCmd
  repeat' first
    | with_reducible assumption
    | (intro)
    | with_reducible apply hk
    | with_reducible apply refuse_good
    | with_reducible apply holdBack_good
    | with_reducible apply good_ite
    | (split)
    | (refine good_ite ?_ ?_)
    | (dsimp only)

theorem admitOnu_good {n : Nat} {c : Option Nat} {q : List Instr} {s : State} {iss : Issue} {op0 : Nat} {op1 : Nat} {op2 : Nat} {op3 : Nat} (h : Good n c q s) :
    Good n c q (State.admitOnu s iss op0 op1 op2 op3) := by
  unfold State.admitOnu
  repeat' first
    | with_reducible assumption
    | (intro)
    | (extract_lets +onlyGivenNames s1; have hs1 : Good n c q s1 := by with_reducible assumption
       clear hs1; unfold s1; clear s1)
    | (extract_lets +onlyGivenNames s1; refine good_cut (n := n) (c := c) (q := q) s1 ?_ ?_ <;> [(unfold s1; clear s1); (intro hs1; clear_value s1; revert hs1; revert s1; intro t1 ht1)])
    | (extract_lets +onlyGivenNames x1; clear_value x1; revert x1; intro y1)
    | (extract_lets +onlyGivenNames s1; refine good_cut (n := n) (c := c) (q := q) s1 ?_ ?_ <;> [(unfold s1; clear s1); (intro hs1; refine good_ite ?_ ?_ <;> (clear_value s1; revert hs1; revert s1; intro t1 ht1))])
    | with_reducible apply activeCmd_good
    | with_reducible apply fwCmd_good
    | with_reducible apply refuse_good
    | with_reducible apply useCtx_good
    | with_reducible apply modCtx_good
    | with_reducible apply enterOnu_good
    | with_reducible apply succeed_good
    | with_reducible apply createCtx_good
    | fail_if_no_progress (with_reducible refine good_mk ?_ rfl rfl rfl rfl rfl rfl rfl rfl rfl)
    | with_reducible apply good_ite
    | (with_reducible apply good_fst; with_reducible assumption)
    | (split)
    | (refine good_ite ?_ ?_)
    | (dsimp only)

theorem execOnuAdmit_good {n : Nat} {c : Option Nat} {q : List Instr} {iss : Issue} {op0 : Nat} {op1 : Nat} {op2 : Nat} {op3 : Nat} {s : State} (h : Good n c q s) :
    GoodOut n c q (execOnuAdmit iss op0 op1 op2 op3 s) := by
  unfold execOnuAdmit
  repeat' first
    | with_reducible assumption
    | (intro)
    | with_reducible apply good_next
    | with_reducible apply admitOnu_good
    | (dsimp only)

theorem execOnuAdmitG50_good {n : Nat} {c : Option Nat} {q : List Instr} {iss : Issue} {op0 : Nat} {op1 : Nat} {op2 : Nat} {op3 : Nat} {s : State} (h : Good n c q s) :
    GoodOut n c q (execOnuAdmitG50 iss op0 op1 op2 op3 s) := by
  unfold execOnuAdmitG50
  repeat' first
    | with_reducible assumption
    | (intro)
    | with_reducible apply good_next
    | with_reducible apply admitOnu_good
    | (dsimp only)

theorem execOnuRemove_good {n : Nat} {c : Option Nat} {q : List Instr} {iss : Issue} {op0 : Nat} {s : State} (h : Good n c q s) :
    GoodOut n c q (execOnuRemove iss op0 s) := by
  unfold execOnuRemove
  repeat' first
    | with_reducible assumption
    | (intro)
    | (extract_lets +onlyGivenNames s1; have hs1 : Good n c q s1 := by with_reducible assumption
       clear hs1; unfold s1; clear s1)
    | (extract_lets +onlyGivenNames s1; refine good_cut (n := n) (c := c) (q := q) s1 ?_ ?_ <;> [(unfold s1; clear s1); (intro hs1; clear_value s1; revert hs1; revert s1; intro t1 ht1)])
    | (extract_lets +onlyGivenNames x1; clear_value x1; revert x1; intro y1)
    | (extract_lets +onlyGivenNames s1; refine good_cut (n := n) (c := c) (q := q) s1 ?_ ?_ <;> [(unfold s1; clear s1); (intro hs1; refine good_ite ?_ ?_ <;> (clear_value s1; revert hs1; revert s1; intro t1 ht1))])
    | with_reducible apply good_next
    | with_reducible apply activeCmd_good
    | with_reducible apply fwCmd_good
    | with_reducible apply refuse_good
    | with_reducible apply useCtx_good
    | with_reducible apply freeCtx_good
    | with_reducible apply sendDeactivate_good
    | with_reducible apply succeed_good
    | (with_reducible apply good_fst; with_reducible assumption)
    | (split)
    | (dsimp only)

theorem execTrainStart_good {n : Nat} {c : Option Nat} {q : List Instr} {iss : Issue} {op0 : Nat} {s : State} (h : Good n c q s) :
    GoodOut n c q (execTrainStart iss op0 s) := by
  unfold execTrainStart
  repeat' first
    | with_reducible assumption
    | (intro)
    | (extract_lets +onlyGivenNames s1; have hs1 : Good n c q s1 := by with_reducible assumption
       clear hs1; unfold s1; clear s1)
    | (extract_lets +onlyGivenNames s1; refine good_cut (n := n) (c := c) (q := q) s1 ?_ ?_ <;> [(unfold s1; clear s1); (intro hs1; clear_value s1; revert hs1; revert s1; intro t1 ht1)])
    | (extract_lets +onlyGivenNames x1; clear_value x1; revert x1; intro y1)
    | (extract_lets +onlyGivenNames s1; refine good_cut (n := n) (c := c) (q := q) s1 ?_ ?_ <;> [(unfold s1; clear s1); (intro hs1; refine good_ite ?_ ?_ <;> (clear_value s1; revert hs1; revert s1; intro t1 ht1))])
    | with_reducible apply good_next
    | with_reducible apply activeCmd_good
    | with_reducible apply fwCmd_good
    | with_reducible apply refuse_good
    | with_reducible apply useCtx_good
    | with_reducible apply startTraining_good
    | with_reducible apply succeed_good
    | with_reducible apply good_ite
    | (with_reducible apply good_fst; with_reducible assumption)
    | (split)
    | (refine good_ite ?_ ?_)
    | (dsimp only)

end Sys2Proof.Machine
end

