-- ==== Sys2Proof/Laws/GoodTod.lean ====
section
/-!
SUPPORT. What the operations of Machine/Tod.lean keep.
-/
set_option linter.all false
set_option linter.unreachableTactic false
set_option linter.unusedTactic false
namespace Sys2Proof.Machine

theorem refuseTod_good {n : Nat} {c : Option Nat} {q : List Instr} {s : State} (h : Good n c q s) :
    Good n c q (State.refuseTod s) := by
  unfold State.refuseTod
  repeat' first
    | with_reducible assumption
    | (intro)
    | with_reducible apply setFlag_good
    | (dsimp only)

theorem todCtrlWrite_good {n : Nat} {c : Option Nat} {q : List Instr} {s : State} {value : Nat} (h : Good n c q s) :
    Good n c q (State.todCtrlWrite s value) := by
  unfold State.todCtrlWrite
  repeat' first
    | with_reducible assumption
    | (intro)
    | (extract_lets +onlyGivenNames s1; have hs1 : Good n c q s1 := by with_reducible assumption
       clear hs1; unfold s1; clear s1)
    | (extract_lets +onlyGivenNames s1; refine good_cut (n := n) (c := c) (q := q) s1 ?_ ?_ <;> [(unfold s1; clear s1); (intro hs1; clear_value s1; revert hs1; revert s1; intro t1 ht1)])
    | (extract_lets +onlyGivenNames x1; clear_value x1; revert x1; intro y1)
    | (extract_lets +onlyGivenNames s1; refine good_cut (n := n) (c := c) (q := q) s1 ?_ ?_ <;> [(unfold s1; clear s1); (intro hs1; refine good_ite ?_ ?_ <;> (clear_value s1; revert hs1; revert s1; intro t1 ht1))])
    | with_reducible apply refuseTod_good
    | with_reducible apply setFlag_good
    | with_reducible apply setFld_good
    | fail_if_no_progress (with_reducible refine good_mk ?_ rfl rfl rfl rfl rfl rfl rfl rfl rfl)
    | with_reducible apply good_ite
    | (with_reducible apply good_fst; with_reducible assumption)
    | (split)
    | (refine good_ite ?_ ?_)
    | (dsimp only)

theorem execTodAlign_good {n : Nat} {c : Option Nat} {q : List Instr} {src : Nat} {value : Nat} {s : State} (h : Good n c q s) :
    GoodOut n c q (execTodAlign src value s) := by
  unfold execTodAlign
  repeat' first
    | with_reducible assumption
    | (intro)
    | with_reducible apply good_next
    | with_reducible apply accessed_good
    | with_reducible apply todCtrlWrite_good
    | (dsimp only)

theorem execTodArmSec_good {n : Nat} {c : Option Nat} {q : List Instr} {src : Nat} {value : Nat} {s : State} (h : Good n c q s) :
    GoodOut n c q (execTodArmSec src value s) := by
  unfold execTodArmSec
  repeat' first
    | with_reducible assumption
    | (intro)
    | with_reducible apply good_next
    | with_reducible apply accessed_good
    | with_reducible apply todCtrlWrite_good
    | (dsimp only)

theorem todFcSet_good {n : Nat} {c : Option Nat} {q : List Instr} {s : State} {value : Nat} (h : Good n c q s) :
    Good n c q (State.todFcSet s value) := by
  unfold State.todFcSet
  repeat' first
    | with_reducible assumption
    | (intro)
    | (extract_lets +onlyGivenNames s1; have hs1 : Good n c q s1 := by with_reducible assumption
       clear hs1; unfold s1; clear s1)
    | (extract_lets +onlyGivenNames s1; refine good_cut (n := n) (c := c) (q := q) s1 ?_ ?_ <;> [(unfold s1; clear s1); (intro hs1; clear_value s1; revert hs1; revert s1; intro t1 ht1)])
    | (extract_lets +onlyGivenNames x1; clear_value x1; revert x1; intro y1)
    | (extract_lets +onlyGivenNames s1; refine good_cut (n := n) (c := c) (q := q) s1 ?_ ?_ <;> [(unfold s1; clear s1); (intro hs1; refine good_ite ?_ ?_ <;> (clear_value s1; revert hs1; revert s1; intro t1 ht1))])
    | with_reducible apply refuseTod_good
    | with_reducible apply setFld_good
    | with_reducible apply setFlag_good
    | fail_if_no_progress (with_reducible refine good_mk ?_ rfl rfl rfl rfl rfl rfl rfl rfl rfl)
    | with_reducible apply good_ite
    | (split)
    | (refine good_ite ?_ ?_)
    | (dsimp only)

theorem execTodFcSet_good {n : Nat} {c : Option Nat} {q : List Instr} {src : Nat} {value : Nat} {s : State} (h : Good n c q s) :
    GoodOut n c q (execTodFcSet src value s) := by
  unfold execTodFcSet
  repeat' first
    | with_reducible assumption
    | (intro)
    | with_reducible apply good_next
    | with_reducible apply accessed_good
    | with_reducible apply todFcSet_good
    | (dsimp only)

theorem armedEdge_good {n : Nat} {c : Option Nat} {q : List Instr} {s : State} {afterTick : Nat} (h : Good n c q s) :
    Good n c q (State.armedEdge s afterTick) := by
  unfold State.armedEdge
  repeat' first
    | with_reducible assumption
    | (intro)
    | (extract_lets +onlyGivenNames s1; have hs1 : Good n c q s1 := by with_reducible assumption
       clear hs1; unfold s1; clear s1)
    | (extract_lets +onlyGivenNames s1; refine good_cut (n := n) (c := c) (q := q) s1 ?_ ?_ <;> [(unfold s1; clear s1); (intro hs1; clear_value s1; revert hs1; revert s1; intro t1 ht1)])
    | (extract_lets +onlyGivenNames x1; clear_value x1; revert x1; intro y1)
    | (extract_lets +onlyGivenNames s1; refine good_cut (n := n) (c := c) (q := q) s1 ?_ ?_ <;> [(unfold s1; clear s1); (intro hs1; refine good_ite ?_ ?_ <;> (clear_value s1; revert hs1; revert s1; intro t1 ht1))])
    | fail_if_no_progress (with_reducible refine good_mk ?_ rfl rfl rfl rfl rfl rfl rfl rfl rfl)
    | with_reducible apply good_ite
    | (with_reducible apply good_fst; with_reducible assumption)
    | (split)
    | (refine good_ite ?_ ?_)
    | (dsimp only)

theorem alignEdge_good {n : Nat} {c : Option Nat} {q : List Instr} {s : State} {afterTick : Nat} (h : Good n c q s) :
    Good n c q (State.alignEdge s afterTick) := by
  unfold State.alignEdge
  repeat' first
    | with_reducible assumption
    | (intro)
    | (extract_lets +onlyGivenNames s1; have hs1 : Good n c q s1 := by with_reducible assumption
       clear hs1; unfold s1; clear s1)
    | (extract_lets +onlyGivenNames s1; refine good_cut (n := n) (c := c) (q := q) s1 ?_ ?_ <;> [(unfold s1; clear s1); (intro hs1; clear_value s1; revert hs1; revert s1; intro t1 ht1)])
    | (extract_lets +onlyGivenNames x1; clear_value x1; revert x1; intro y1)
    | (extract_lets +onlyGivenNames s1; refine good_cut (n := n) (c := c) (q := q) s1 ?_ ?_ <;> [(unfold s1; clear s1); (intro hs1; refine good_ite ?_ ?_ <;> (clear_value s1; revert hs1; revert s1; intro t1 ht1))])
    | with_reducible apply nextOpen_good
    | with_reducible apply setFlag_good
    | with_reducible apply bump_good
    | fail_if_no_progress (with_reducible refine good_mk ?_ rfl rfl rfl rfl rfl rfl rfl rfl rfl)
    | (with_reducible apply good_fst; with_reducible assumption)
    | (dsimp only)

theorem measureEdge_good {n : Nat} {c : Option Nat} {q : List Instr} {s : State} {err : Int} (h : Good n c q s) :
    Good n c q (State.measureEdge s err) := by
  unfold State.measureEdge
  repeat' first
    | with_reducible assumption
    | (intro)
    | (extract_lets +onlyGivenNames s1; have hs1 : Good n c q s1 := by with_reducible assumption
       clear hs1; unfold s1; clear s1)
    | (extract_lets +onlyGivenNames s1; refine good_cut (n := n) (c := c) (q := q) s1 ?_ ?_ <;> [(unfold s1; clear s1); (intro hs1; clear_value s1; revert hs1; revert s1; intro t1 ht1)])
    | (extract_lets +onlyGivenNames x1; clear_value x1; revert x1; intro y1)
    | (extract_lets +onlyGivenNames s1; refine good_cut (n := n) (c := c) (q := q) s1 ?_ ?_ <;> [(unfold s1; clear s1); (intro hs1; refine good_ite ?_ ?_ <;> (clear_value s1; revert hs1; revert s1; intro t1 ht1))])
    | with_reducible apply setFld_good
    | with_reducible apply bump_good
    | with_reducible apply pulse_good
    | with_reducible apply good_ite
    | (split)
    | (refine good_ite ?_ ?_)
    | (dsimp only)

theorem execPpsEdge_good {n : Nat} {c : Option Nat} {q : List Instr} {interval : Nat} {err : Int} {afterTick : Nat} {s : State} (h : Good n c q s) :
    GoodOut n c q (execPpsEdge interval err afterTick s) := by
  unfold execPpsEdge
  repeat' first
    | with_reducible assumption
    | (intro)
    | (extract_lets +onlyGivenNames s1; have hs1 : Good n c q s1 := by with_reducible assumption
       clear hs1; unfold s1; clear s1)
    | (extract_lets +onlyGivenNames s1; refine good_cut (n := n) (c := c) (q := q) s1 ?_ ?_ <;> [(unfold s1; clear s1); (intro hs1; clear_value s1; revert hs1; revert s1; intro t1 ht1)])
    | (extract_lets +onlyGivenNames x1; clear_value x1; revert x1; intro y1)
    | (extract_lets +onlyGivenNames s1; refine good_cut (n := n) (c := c) (q := q) s1 ?_ ?_ <;> [(unfold s1; clear s1); (intro hs1; refine good_ite ?_ ?_ <;> (clear_value s1; revert hs1; revert s1; intro t1 ht1))])
    | with_reducible apply good_next
    | with_reducible apply bump_good
    | with_reducible apply setFlag_good
    | with_reducible apply level_good
    | with_reducible apply armedEdge_good
    | with_reducible apply alignEdge_good
    | with_reducible apply measureEdge_good
    | fail_if_no_progress (with_reducible refine good_mk ?_ rfl rfl rfl rfl rfl rfl rfl rfl rfl)
    | with_reducible apply good_ite
    | (split)
    | (refine good_ite ?_ ?_)
    | (dsimp only)

theorem execPpsLost_good {n : Nat} {c : Option Nat} {q : List Instr} {s : State} (h : Good n c q s) :
    GoodOut n c q (execPpsLost s) := by
  unfold execPpsLost
  repeat' first
    | with_reducible assumption
    | (intro)
    | (extract_lets +onlyGivenNames s1; have hs1 : Good n c q s1 := by with_reducible assumption
       clear hs1; unfold s1; clear s1)
    | (extract_lets +onlyGivenNames s1; refine good_cut (n := n) (c := c) (q := q) s1 ?_ ?_ <;> [(unfold s1; clear s1); (intro hs1; clear_value s1; revert hs1; revert s1; intro t1 ht1)])
    | (extract_lets +onlyGivenNames x1; clear_value x1; revert x1; intro y1)
    | (extract_lets +onlyGivenNames s1; refine good_cut (n := n) (c := c) (q := q) s1 ?_ ?_ <;> [(unfold s1; clear s1); (intro hs1; refine good_ite ?_ ?_ <;> (clear_value s1; revert hs1; revert s1; intro t1 ht1))])
    | with_reducible apply good_next
    | with_reducible apply setFlag_good
    | with_reducible apply level_good
    | fail_if_no_progress (with_reducible refine good_mk ?_ rfl rfl rfl rfl rfl rfl rfl rfl rfl)
    | with_reducible apply good_ite
    | (split)
    | (refine good_ite ?_ ?_)
    | (dsimp only)

theorem todTick_good {n : Nat} {q : List Instr} {s : State} (h : Good n none q s) : Good (n + 1) none q (State.todTick s) := by
  unfold State.todTick
  have h0 := chainTick_good h
  generalize s.chainTick = r at h0 ⊢
  obtain ⟨s0, msg⟩ := r
  change Good n none q s0 at h0
  dsimp -zeta only
  extract_lets u1 s1 before u2 s2 u3 s3 s4 t sec s5
  have h1 : Good n none q s1 := by
    unfold s1
    split
    · exact ⟨⟨h0.inv.regs, h0.inv.snap0, h0.inv.snap1, h0.inv.snap2, h0.inv.snap3, h0.inv.counters, h0.inv.values, Nat.mod_lt _ (by decide)⟩,
        h0.tick, by simp, h0.pending⟩
    · exact h0
  clear_value s1 u1 before
  have h2 : Good (n + 1) none q s2 :=
    ⟨⟨h1.inv.regs, h1.inv.snap0, h1.inv.snap1, h1.inv.snap2, h1.inv.snap3, h1.inv.counters, h1.inv.values, Nat.mod_lt _ (by decide)⟩,
      congrArg (· + 1) h1.tick, by simp, h1.pending⟩
  clear_value s2
  have h3 : Good (n + 1) none q s3 := by
    unfold s3
    split
    · refine bump_good (setFlag_good ?_)
      refine ⟨⟨h2.inv.regs, h2.inv.snap0, h2.inv.snap1, h2.inv.snap2, h2.inv.snap3, h2.inv.counters, h2.inv.values, ?_⟩, h2.tick, by simp, h2.pending⟩
      have hi : s2.fld R.TOD_FC_SET_1.set_hi < 2 ^ 19 := Nat.mod_lt _ (by decide)
      have lo : s2.fld R.TOD_FC_SET_0.set_lo < 2 ^ 32 := Nat.mod_lt _ (by decide)
      dsimp only
      omega
    · exact h2
  clear_value s3
  have h4 : Good (n + 1) none q s4 := forPorts_good (setFld_good (setFld_good h3)) (fun _ _ => showFc_good)
  clear_value s4 t sec
  have h5 : Good (n + 1) none q s5 := setFld_good (setFld_good (setFld_good h4))
  clear_value s5
  exact good_ite (emit_good h5) h5


end Sys2Proof.Machine
end

