-- ==== Sys2Proof/Laws/GoodRegs.lean ====
section
/-!
SUPPORT. What the operations of Machine/Regs.lean keep.
-/
set_option linter.all false
set_option linter.unreachableTactic false
set_option linter.unusedTactic false
namespace Sys2Proof.Machine

theorem refuseWrite_good {n : Nat} {c : Option Nat} {q : List Instr} {s : State} {a : Nat} (h : Good n c q s) :
    Good n c q (State.refuseWrite s a) := by
  unfold State.refuseWrite
  repeat' first
    | with_reducible assumption
    | (intro)
    | (extract_lets +onlyGivenNames s1; have hs1 : Good n c q s1 := by with_reducible assumption
       clear hs1; unfold s1; clear s1)
    | (extract_lets +onlyGivenNames s1; refine good_cut (n := n) (c := c) (q := q) s1 ?_ ?_ <;> [(unfold s1; clear s1); (intro hs1; clear_value s1; revert hs1; revert s1; intro t1 ht1)])
    | (extract_lets +onlyGivenNames x1; clear_value x1; revert x1; intro y1)
    | (extract_lets +onlyGivenNames s1; refine good_cut (n := n) (c := c) (q := q) s1 ?_ ?_ <;> [(unfold s1; clear s1); (intro hs1; refine good_ite ?_ ?_ <;> (clear_value s1; revert hs1; revert s1; intro t1 ht1))])
    | with_reducible apply setFlag_good
    | with_reducible apply pulseP_good
    | with_reducible apply pulse_good
    | with_reducible apply refuseTod_good
    | (with_reducible apply good_fst; with_reducible assumption)
    | (split)
    | (dsimp only)

theorem afterWrite_good {n : Nat} {c : Option Nat} {q : List Instr} {s : State} {t : State} {a : Nat} (h : Good n c q t) :
    Good n c q (State.afterWrite s t a) := by
  unfold State.afterWrite
  try generalize List.range 3 = l0
  repeat' first
    | with_reducible assumption
    | (intro)
    | (extract_lets +onlyGivenNames s1; have hs1 : Good n c q s1 := by with_reducible assumption
       clear hs1; unfold s1; clear s1)
    | (extract_lets +onlyGivenNames s1; refine good_cut (n := n) (c := c) (q := q) s1 ?_ ?_ <;> [(unfold s1; clear s1); (intro hs1; clear_value s1; revert hs1; revert s1; intro t1 ht1)])
    | (extract_lets +onlyGivenNames x1; clear_value x1; revert x1; intro y1)
    | (extract_lets +onlyGivenNames s1; refine good_cut (n := n) (c := c) (q := q) s1 ?_ ?_ <;> [(unfold s1; clear s1); (intro hs1; refine good_ite ?_ ?_ <;> (clear_value s1; revert hs1; revert s1; intro t1 ht1))])
    | with_reducible apply setFlag_good
    | with_reducible apply tmStatus_good
    | fail_if_no_progress (with_reducible refine good_mk ?_ rfl rfl rfl rfl rfl rfl rfl rfl rfl)
    | with_reducible apply good_foldl
    | with_reducible apply good_foldl_fst
    | with_reducible apply good_ite
    | (split)
    | (refine good_ite ?_ ?_)
    | (dsimp only)

theorem plainWrite_good {n : Nat} {c : Option Nat} {q : List Instr} {s : State} {a : Nat} {value : Nat} {us : Nat} (h : Good n c q s) :
    Good n c q (State.plainWrite s a value us) := by
  unfold State.plainWrite
  repeat' first
    | with_reducible assumption
    | (intro)
    | (extract_lets +onlyGivenNames s1; have hs1 : Good n c q s1 := by with_reducible assumption
       clear hs1; unfold s1; clear s1)
    | (extract_lets +onlyGivenNames s1; refine good_cut (n := n) (c := c) (q := q) s1 ?_ ?_ <;> [(unfold s1; clear s1); (intro hs1; clear_value s1; revert hs1; revert s1; intro t1 ht1)])
    | (extract_lets +onlyGivenNames x1; clear_value x1; revert x1; intro y1)
    | (extract_lets +onlyGivenNames s1; refine good_cut (n := n) (c := c) (q := q) s1 ?_ ?_ <;> [(unfold s1; clear s1); (intro hs1; refine good_ite ?_ ?_ <;> (clear_value s1; revert hs1; revert s1; intro t1 ht1))])
    | with_reducible apply bump_good
    | with_reducible apply setReg_good
    | with_reducible apply bdaSettle_good
    | with_reducible apply afterWrite_good
    | with_reducible apply refuseWrite_good
    | with_reducible apply good_ite
    | (split)
    | (refine good_ite ?_ ?_)
    | (dsimp only)

theorem landed_good {n : Nat} {c : Option Nat} {q : List Instr} {s : State} {o : Host.Outcome State Fault Refusal}
    (h : GoodOut n c q o) : Good n c q (landed s o) := by
  obtain ⟨t, rfl, ht⟩ := h
  exact ht


theorem viewWrite_good {n : Nat} {c : Option Nat} {q : List Instr} {s : State} {fn : Nat} {off : Nat} {value : Nat}
    (h : Good n c q s) : Good n c q (State.viewWrite s fn off value) := by
  unfold State.viewWrite
  extract_lets cfg mask span eqs word
  clear_value cfg mask span eqs word
  refine good_ite (srcCfgWrite_good h) (good_ite (landed_good (execMaskSet_good h)) (good_ite (landed_good (execMaskClr_good h))
    (good_ite (landed_good (execPendSet_good h)) (good_ite (landed_good (execPendClr_good h))
    (good_ite (landed_good (execEventComplete_good h)) (good_ite (good_ite (landed_good (execEqEnable_good h)) (eqWordWrite_good h)) h))))))


theorem ringOp_good {n : Nat} {c : Option Nat} {q : List Instr} {s : State} {fn : Nat} {value : Nat} (h : Good n c q s) :
    Good n c q (State.ringOp s fn value) := by
  unfold State.ringOp
  exact good_ite (bump_good h)
    (good_ite h (good_ite (landed_good (execRingCreate_good h)) (good_ite (landed_good (execRingDelete_good h)) h)))

theorem resetWrite_good {n : Nat} {c : Option Nat} {q : List Instr} {s : State} {mask : Nat} {value : Nat} (h : Good n c q s) :
    Good n c q (State.resetWrite s mask value) := by
  unfold State.resetWrite
  repeat' first
    | with_reducible assumption
    | (intro)
    | with_reducible apply requestRegion_good
    | with_reducible apply good_ite
    | (split)
    | (refine good_ite ?_ ?_)
    | (dsimp only)

theorem portWrite_good {n : Nat} {c : Option Nat} {q : List Instr} {s : State} {src : Nat} {p : Port} {a value : Nat} (h : Good n c q s) :
    ∀ t, (State.portWrite s src p a value) = some t → Good n c q t := by
  intro t
  have hb : ∀ o, GoodOut n c q o → some (landed s o) = some t → Good n c q t := fun o ho e => by cases e; exact landed_good ho
  have ha : ∀ k : State → State, (∀ s, Good n c q s → Good n c q (k s)) → some (s.accessed src a k) = some t → Good n c q t :=
    fun k hk e => by cases e; exact accessed_good h hk
  unfold State.portWrite
  split
  · exact hb _ (execPrtModeCtlWrite_good h)
  · exact hb _ (execFenceReq_good h)
  · exact ha _ (fun _ => resetWrite_good)
  · exact ha _ (fun _ => ringOp_good)
  · intro e; cases e
  · split
    · exact ha _ (fun _ => viewWrite_good)
    · intro e; cases e
  · exact hb _ (execFgCalReq_good h)
  · exact hb _ (execCnvTestFail_good h)
  · exact hb _ (execXtlTestFail_good h)
  · exact ha _ (fun _ => txpCtrlWrite_good)
  · intro e; cases e


theorem laneWrite_good {n : Nat} {c : Option Nat} {q : List Instr} {s : State} {l : Nat} {k : Nat} {value : Nat} (h : Good n c q s) :
    Good n c q (State.laneWrite s l k value) := by
  unfold State.laneWrite
  repeat' first
    | with_reducible assumption
    | (intro)
    | with_reducible apply laneCtlWrite_good
    | with_reducible apply laneTxeqWrite_good
    | with_reducible apply lanePrbsWrite_good
    | with_reducible apply injWrite_good
    | with_reducible apply good_ite
    | (split)
    | (refine good_ite ?_ ?_)
    | (dsimp only)

theorem some_ite_good {n : Nat} {c : Option Nat} {q : List Instr} {p : Prop} [Decidable p] {x y : Option State} {t : State}
    (hx : x = some t → Good n c q t) (hy : y = some t → Good n c q t) : (if p then x else y) = some t → Good n c q t := by
  split <;> assumption

theorem hubWrite_good {n : Nat} {q : List Instr} {s : State} {src a value us : Nat} (h : Good n none q s) :
    ∀ t, (State.hubWrite s src a value us) = some t → Good n none q t := by
  intro t
  have hb : ∀ o, GoodOut n none q o → some (landed s o) = some t → Good n none q t := fun o ho e => by cases e; exact landed_good ho
  have ha : ∀ k : State → State, (∀ s, Good n none q s → Good n none q (k s)) → some (s.accessed src a k) = some t → Good n none q t :=
    fun k hk e => by cases e; exact accessed_good h hk
  have hn : (none : Option State) = some t → Good n none q t := fun e => by cases e
  have hl : ∀ o : Option (Nat × Nat), (o.map (fun x => s.accessed src a (fun s => s.laneWrite x.1 x.2 value))) = some t → Good n none q t := by
    intro o e
    cases o with
    | none => cases e
    | some x => cases e; exact accessed_good h (fun _ => laneWrite_good)
  unfold State.hubWrite
  extract_lets off k
  clear_value off k
  split
  · exact some_ite_good (ha _ (fun _ => resetWrite_good)) (some_ite_good (hb _ (execHubRegionReset_good h))
      (some_ite_good (hb _ (execLineDieReset_good h)) (some_ite_good (hb _ (execDeltaClear_good h)) hn)))
  · exact some_ite_good (hb _ (execThmSdClr_good h)) hn
  · exact some_ite_good (ha _ (fun _ => hkaCtlWrite_good)) hn
  · exact some_ite_good (hb _ (execBdaCodeWrite_good h)) (some_ite_good (hb _ (execOtHoldRelease_good h)) hn)
  · exact some_ite_good hn (some_ite_good (ha _ (fun _ => ownerWrite_good)) (ha _ (fun _ => viewWrite_good)))
  · exact some_ite_good (hb _ (execMemInject_good h)) hn
  · exact some_ite_good (ha _ (fun _ => quotaWrite_good)) (some_ite_good (hb _ (execDeviceSoftReset_good h))
      (some_ite_good (ha _ (fun _ => ringOp_good)) hn))
  · exact some_ite_good (ha _ (fun _ => ulkPortWrite_good)) (hl _)
  · exact some_ite_good (ha _ (fun _ => aqlPortWrite_good)) (hl _)
  · exact some_ite_good (ha _ (fun _ => bump_good)) hn
  · exact some_ite_good (hb _ (execTodAlign_good h)) (some_ite_good (hb _ (execTodFcSet_good h)) hn)
  · exact hn


theorem write4_good {n : Nat} {q : List Instr} {s : State} {src a value us : Nat} (h : Good n none q s) :
    Good n none q (State.write4 s src a value us) := by
  unfold State.write4
  extract_lets own
  have ho : ∀ t, own = some t → Good n none q t := by
    intro t
    unfold own
    split
    · exact portWrite_good h t
    · exact hubWrite_good h t
  clear_value own
  split
  · exact ho _ rfl
  · exact accessed_good h (fun _ hs => good_ite (plainWrite_good hs) hs)


theorem execRegisterWrite_good {n : Nat} {q : List Instr} {src : Nat} {addr : Nat} {size : Nat} {enables : Nat} {value : Nat} {us : Nat} {s : State} (h : Good n none q s) :
    GoodOut n none q (execRegisterWrite src addr size enables value us s) := by
  unfold execRegisterWrite
  repeat' first
    | with_reducible assumption
    | (intro)
    | (extract_lets +onlyGivenNames s1; have hs1 : Good n none q s1 := by with_reducible assumption
       clear hs1; unfold s1; clear s1)
    | (extract_lets +onlyGivenNames s1; refine good_cut (n := n) (c := none) (q := q) s1 ?_ ?_ <;> [(unfold s1; clear s1); (intro hs1; clear_value s1; revert hs1; revert s1; intro t1 ht1)])
    | (extract_lets +onlyGivenNames x1; clear_value x1; revert x1; intro y1)
    | (extract_lets +onlyGivenNames s1; refine good_cut (n := n) (c := none) (q := q) s1 ?_ ?_ <;> [(unfold s1; clear s1); (intro hs1; refine good_ite ?_ ?_ <;> (clear_value s1; revert hs1; revert s1; intro t1 ht1))])
    | with_reducible apply good_next
    | with_reducible apply write4_good
    | with_reducible apply recordAccess_good
    | with_reducible apply good_ite
    | (split)
    | (refine good_ite ?_ ?_)
    | (dsimp only)

theorem execLatchedSetRead_good {n : Nat} {c : Option Nat} {q : List Instr} {src : Nat} {addr : Nat} {s : State} (h : Good n c q s) :
    GoodOut n c q (execLatchedSetRead src addr s) := by
  unfold execLatchedSetRead
  repeat' first
    | with_reducible assumption
    | (intro)
    | (extract_lets +onlyGivenNames s1; have hs1 : Good n c q s1 := by with_reducible assumption
       clear hs1; unfold s1; clear s1)
    | (extract_lets +onlyGivenNames s1; refine good_cut (n := n) (c := c) (q := q) s1 ?_ ?_ <;> [(unfold s1; clear s1); (intro hs1; clear_value s1; revert hs1; revert s1; intro t1 ht1)])
    | (extract_lets +onlyGivenNames x1; clear_value x1; revert x1; intro y1)
    | (extract_lets +onlyGivenNames s1; refine good_cut (n := n) (c := c) (q := q) s1 ?_ ?_ <;> [(unfold s1; clear s1); (intro hs1; refine good_ite ?_ ?_ <;> (clear_value s1; revert hs1; revert s1; intro t1 ht1))])
    | with_reducible apply good_next
    | with_reducible apply emit_good
    | with_reducible apply recordAccess_good
    | fail_if_no_progress (with_reducible refine good_mk ?_ rfl rfl rfl rfl rfl rfl rfl rfl rfl)
    | with_reducible apply good_ite
    | (split)
    | (refine good_ite ?_ ?_)
    | (dsimp only)

theorem setShadow_good {n : Nat} {c : Option Nat} {q : List Instr} {s : State} {a : Nat} {x : Option (Nat × Nat)} (h : Good n c q s) :
    Good n c q (State.setShadow s a x) := by
  unfold State.setShadow
  repeat' first
    | with_reducible assumption
    | (intro)
    | (extract_lets +onlyGivenNames s1; have hs1 : Good n c q s1 := by with_reducible assumption
       clear hs1; unfold s1; clear s1)
    | (extract_lets +onlyGivenNames s1; refine good_cut (n := n) (c := c) (q := q) s1 ?_ ?_ <;> [(unfold s1; clear s1); (intro hs1; clear_value s1; revert hs1; revert s1; intro t1 ht1)])
    | (extract_lets +onlyGivenNames x1; clear_value x1; revert x1; intro y1)
    | (extract_lets +onlyGivenNames s1; refine good_cut (n := n) (c := c) (q := q) s1 ?_ ?_ <;> [(unfold s1; clear s1); (intro hs1; refine good_ite ?_ ?_ <;> (clear_value s1; revert hs1; revert s1; intro t1 ht1))])
    | with_reducible apply setConv_good
    | fail_if_no_progress (with_reducible refine good_mk ?_ rfl rfl rfl rfl rfl rfl rfl rfl rfl)
    | with_reducible apply good_ite
    | (split)
    | (refine good_ite ?_ ?_)
    | (dsimp only)

theorem dataHalf_good {n : Nat} {c : Option Nat} {q : List Instr} {s : State} {a : Nat} {high : Bool} (h : Good n c q s) :
    Good n c q (State.dataHalf s a high) := by
  unfold State.dataHalf
  repeat' first
    | with_reducible assumption
    | (intro)
    | (extract_lets +onlyGivenNames s1; have hs1 : Good n c q s1 := by with_reducible assumption
       clear hs1; unfold s1; clear s1)
    | (extract_lets +onlyGivenNames s1; refine good_cut (n := n) (c := c) (q := q) s1 ?_ ?_ <;> [(unfold s1; clear s1); (intro hs1; clear_value s1; revert hs1; revert s1; intro t1 ht1)])
    | (extract_lets +onlyGivenNames x1; clear_value x1; revert x1; intro y1)
    | (extract_lets +onlyGivenNames s1; refine good_cut (n := n) (c := c) (q := q) s1 ?_ ?_ <;> [(unfold s1; clear s1); (intro hs1; refine good_ite ?_ ?_ <;> (clear_value s1; revert hs1; revert s1; intro t1 ht1))])
    | with_reducible apply setConv_good
    | with_reducible apply setFlag_good
    | fail_if_no_progress (with_reducible refine good_mk ?_ rfl rfl rfl rfl rfl rfl rfl rfl rfl)
    | with_reducible apply good_ite
    | (split)
    | (refine good_ite ?_ ?_)
    | (dsimp only)

theorem execSidebandReadHalf_good {n : Nat} {c : Option Nat} {q : List Instr} {addr : Nat} {s : State} (h : Good n c q s) :
    GoodOut n c q (execSidebandReadHalf addr s) := by
  unfold execSidebandReadHalf
  repeat' first
    | with_reducible assumption
    | (intro)
    | (extract_lets +onlyGivenNames s1; have hs1 : Good n c q s1 := by with_reducible assumption
       clear hs1; unfold s1; clear s1)
    | (extract_lets +onlyGivenNames s1; refine good_cut (n := n) (c := c) (q := q) s1 ?_ ?_ <;> [(unfold s1; clear s1); (intro hs1; clear_value s1; revert hs1; revert s1; intro t1 ht1)])
    | (extract_lets +onlyGivenNames x1; clear_value x1; revert x1; intro y1)
    | (extract_lets +onlyGivenNames s1; refine good_cut (n := n) (c := c) (q := q) s1 ?_ ?_ <;> [(unfold s1; clear s1); (intro hs1; refine good_ite ?_ ?_ <;> (clear_value s1; revert hs1; revert s1; intro t1 ht1))])
    | with_reducible apply good_next
    | with_reducible apply emit_good
    | with_reducible apply recordAccess_good
    | with_reducible apply setShadow_good
    | with_reducible apply dataHalf_good
    | with_reducible apply good_ite
    | (with_reducible apply good_fst; with_reducible assumption)
    | (split)
    | (refine good_ite ?_ ?_)
    | (dsimp only)

theorem dropHeld_good {n : Nat} {c : Option Nat} {q : List Instr} {s : State} {a : Nat} (h : Good n c q s) :
    Good n c q (State.dropHeld s a) := by
  unfold State.dropHeld
  repeat' first
    | with_reducible assumption
    | (intro)
    | (extract_lets +onlyGivenNames s1; have hs1 : Good n c q s1 := by with_reducible assumption
       clear hs1; unfold s1; clear s1)
    | (extract_lets +onlyGivenNames s1; refine good_cut (n := n) (c := c) (q := q) s1 ?_ ?_ <;> [(unfold s1; clear s1); (intro hs1; clear_value s1; revert hs1; revert s1; intro t1 ht1)])
    | (extract_lets +onlyGivenNames x1; clear_value x1; revert x1; intro y1)
    | (extract_lets +onlyGivenNames s1; refine good_cut (n := n) (c := c) (q := q) s1 ?_ ?_ <;> [(unfold s1; clear s1); (intro hs1; refine good_ite ?_ ?_ <;> (clear_value s1; revert hs1; revert s1; intro t1 ht1))])
    | with_reducible apply bump_good
    | fail_if_no_progress (with_reducible refine good_mk ?_ rfl rfl rfl rfl rfl rfl rfl rfl rfl)
    | with_reducible apply good_ite
    | (with_reducible apply good_fst; with_reducible assumption)
    | (split)
    | (refine good_ite ?_ ?_)
    | (dsimp only)

theorem execSidebandWriteHalf_good {n : Nat} {q : List Instr} {addr : Nat} {value : Nat} {us : Nat} {s : State} (h : Good n none q s) :
    GoodOut n none q (execSidebandWriteHalf addr value us s) := by
  unfold execSidebandWriteHalf
  repeat' first
    | with_reducible assumption
    | (intro)
    | (extract_lets +onlyGivenNames s1; have hs1 : Good n none q s1 := by with_reducible assumption
       clear hs1; unfold s1; clear s1)
    | (extract_lets +onlyGivenNames s1; refine good_cut (n := n) (c := none) (q := q) s1 ?_ ?_ <;> [(unfold s1; clear s1); (intro hs1; clear_value s1; revert hs1; revert s1; intro t1 ht1)])
    | (extract_lets +onlyGivenNames x1; clear_value x1; revert x1; intro y1)
    | (extract_lets +onlyGivenNames s1; refine good_cut (n := n) (c := none) (q := q) s1 ?_ ?_ <;> [(unfold s1; clear s1); (intro hs1; refine good_ite ?_ ?_ <;> (clear_value s1; revert hs1; revert s1; intro t1 ht1))])
    | with_reducible apply good_next
    | with_reducible apply recordAccess_good
    | with_reducible apply dropHeld_good
    | with_reducible apply write4_good
    | fail_if_no_progress (with_reducible refine good_mk ?_ rfl rfl rfl rfl rfl rfl rfl rfl rfl)
    | with_reducible apply good_ite
    | (with_reducible apply good_fst; with_reducible assumption)
    | (split)
    | (refine good_ite ?_ ?_)
    | (dsimp only)

end Sys2Proof.Machine
end

