-- ==== Sys2Proof/Laws/GoodFrame.lean ====
section
/-!
SUPPORT. What the operations of Machine/Frame.lean keep.
-/
set_option linter.all false
set_option linter.unreachableTactic false
set_option linter.unusedTactic false
namespace Sys2Proof.Machine

theorem coreSent_good {n : Nat} {c : Option Nat} {q : List Instr} {s : State} {p : Port} {m : CorePloam} (h : Good n c q s) :
    Good n c q (State.coreSent s p m) := by
  unfold State.coreSent
  repeat' first
    | with_reducible assumption
    | (intro)
    | (extract_lets +onlyGivenNames s1; have hs1 : Good n c q s1 := by with_reducible assumption
       clear hs1; unfold s1; clear s1)
    | (extract_lets +onlyGivenNames s1; refine good_cut (n := n) (c := c) (q := q) s1 ?_ ?_ <;> [(unfold s1; clear s1); (intro hs1; clear_value s1; revert hs1; revert s1; intro t1 ht1)])
    | (extract_lets +onlyGivenNames x1; clear_value x1; revert x1; intro y1)
    | (extract_lets +onlyGivenNames s1; refine good_cut (n := n) (c := c) (q := q) s1 ?_ ?_ <;> [(unfold s1; clear s1); (intro hs1; refine good_ite ?_ ?_ <;> (clear_value s1; revert hs1; revert s1; intro t1 ht1))])
    | with_reducible apply modCtx_good
    | fail_if_no_progress (with_reducible refine good_mk ?_ rfl rfl rfl rfl rfl rfl rfl rfl rfl)
    | with_reducible apply good_ite
    | (with_reducible apply good_fst; with_reducible assumption)
    | (split)
    | (refine good_ite ?_ ?_)
    | (dsimp only)

theorem sendPloam_good {n : Nat} {c : Option Nat} {q : List Instr} {s : State} {p : Port} {m : Ploam} (h : Good n c q s) :
    Good n c q (State.sendPloam s p m).1 := by
  unfold State.sendPloam
  repeat' first
    | with_reducible assumption
    | (intro)
    | (extract_lets +onlyGivenNames s1; have hs1 : Good n c q s1 := by with_reducible assumption
       clear hs1; unfold s1; clear s1)
    | (extract_lets +onlyGivenNames s1; refine good_cut (n := n) (c := c) (q := q) s1 ?_ ?_ <;> [(unfold s1; clear s1); (intro hs1; clear_value s1; revert hs1; revert s1; intro t1 ht1)])
    | (extract_lets +onlyGivenNames x1; clear_value x1; revert x1; intro y1)
    | (extract_lets +onlyGivenNames s1; refine good_cut (n := n) (c := c) (q := q) s1 ?_ ?_ <;> [(unfold s1; clear s1); (intro hs1; refine good_ite ?_ ?_ <;> (clear_value s1; revert hs1; revert s1; intro t1 ht1))])
    | with_reducible apply modTcf_good
    | with_reducible apply bumpP_good
    | fail_if_no_progress (with_reducible refine good_mk ?_ rfl rfl rfl rfl rfl rfl rfl rfl rfl)
    | with_reducible apply good_ite
    | (with_reducible apply good_fst; with_reducible assumption)
    | (split)
    | (refine good_ite ?_ ?_)
    | (dsimp only)

theorem pickCore_good {n : Nat} {c : Option Nat} {q : List Instr} {p : Port} {max : Nat} {l : List CorePloam} {x : PloamPick}
    (h : Good n c q x.st) : Good n c q (pickCore p max l x).st := by
  induction l generalizing x with
  | nil => exact h
  | cons m l ih =>
    unfold pickCore
    split
    · exact ih (coreSent_good (sendPloam_good h))
    · refine ih ?_
      dsimp only
      exact modTcf_good h


theorem pickHost_good {n : Nat} {c : Option Nat} {q : List Instr} {p : Port} {max : Nat} {l : List HostPloam} {x : PloamPick}
    (h : Good n c q x.st) : Good n c q (pickHost p max l x).st := by
  induction l generalizing x with
  | nil => exact h
  | cons m l ih =>
    unfold pickHost
    split
    · refine ih ?_
      dsimp only
      split
      · exact good_ite (modCtx_good (succeed_good (sendPloam_good h))) (succeed_good (sendPloam_good h))
      · exact succeed_good (sendPloam_good h)
    · refine ih ?_
      dsimp only
      exact modTcf_good h


theorem framePloams_good {n : Nat} {c : Option Nat} {q : List Instr} {s : State} {p : Port} {quiet : Bool} (h : Good n c q s) :
    Good n c q (State.framePloams s p quiet).1 := by
  unfold State.framePloams
  split
  · exact h
  · refine tcfStatus_good (pickHost_good (pickCore_good ?_))
    dsimp only
    exact modTcf_good h


theorem put_good {n : Nat} {c : Option Nat} {q : List Instr} {x : Payload} {p : Port} {flow onu : Nat} {crypt last : Bool}
    {data : List Byte} (h : Good n c q x.st) : Good n c q (Payload.put x p flow onu crypt last data).st := by
  unfold Payload.put
  exact fillBuckets_good h


theorem send_good {n : Nat} {c : Option Nat} {q : List Instr} {x : Payload} {p : Port} {d : DsCont} (h : Good n c q x.st) :
    Good n c q (Payload.send x p d).st := by
  unfold Payload.send
  extract_lets left y z
  have hy : Good n c q y.st := put_good h
  have hz : Good n c q z.st := put_good h
  clear_value left y z
  split
  · split
    · exact succeed_good (bumpP_good hy)
    · exact hy
  · split
    · dsimp only
      exact modTcf_good hz
    · dsimp only
      exact modTcf_good h


theorem payloadMgmt_good {n : Nat} {c : Option Nat} {q : List Instr} {p : Port} {max : Nat} {l : List OmciSdu} {used : Nat} {x : Payload}
    (h : Good n c q x.st) : Good n c q (payloadMgmt p max l used x).st := by
  induction l generalizing used x with
  | nil => exact h
  | cons d l ih =>
    unfold payloadMgmt
    dsimp only
    split
    · exact ih (refuse_good (bumpP_good h))
    · split
      · exact ih (refuse_good h)
      · split
        · dsimp only
          exact modTcf_good h
        · exact ih (send_good h)


theorem payloadSdus_good {n : Nat} {c : Option Nat} {q : List Instr} {p : Port} {k : Nat} {bad : List Nat} {x : Payload}
    (h : Good n c q x.st) : Good n c q (payloadSdus p k bad x).st := by
  induction k generalizing bad x with
  | zero => exact h
  | succ k ih =>
    unfold payloadSdus
    split
    · exact h
    · dsimp only
      have h1 := selectQueue_good (p := p) h
      split
      · exact ih (fillBuckets_good h1)
      · rename_i j _
        have h2 := dequeue_good (q' := j) h1
        split
        · exact ih h2
        · rename_i d _
          have h3 := releaseCells_good (lp := d.lp) (addrs := d.addrs) (len := d.data.length) (hurt := bad.contains j) h2
          split
          · exact ih (countPoison_good h3)
          · split
            · exact ih (bumpP_good h3)
            · split
              · exact ih h3
              · exact ih (send_good h3)

theorem framePayload_good {n : Nat} {c : Option Nat} {q : List Instr} {s : State} {p : Port} {h' : Nat} {quiet : Bool} {bad : List Nat}
    (h : Good n c q s) : Good n c q (State.framePayload s p h' quiet bad).1 := by
  unfold State.framePayload
  refine tcfStatus_good (fillBuckets_good (payloadSdus_good ?_))
  have key : ∀ (w : Bool) (x : Payload), Good n c q x.st → Good n c q (match (s.port p).tcf.cont with
      | some d => if w then x else ({ x with st := x.st.modTcf p (fun t => { t with cont := none }) } : Payload).send p d
      | none => x).st := by
    intro w x hx
    split
    · split
      · exact hx
      · refine send_good ?_
        dsimp only
        exact modTcf_good hx
    · exact hx
  have h2 := key (match (s.port p).tcf.cont with | some d => if d.mgmt.isSome then quiet else s.hubFenced 0 | none => false) { st := s.fillBuckets p h', pos := h', out := [] } (fillBuckets_good h)
  split
  · exact h2
  · refine payloadMgmt_good ?_
    dsimp only
    exact modTcf_good h2


theorem dropCont_good {n : Nat} {c : Option Nat} {q : List Instr} {s : State} {p : Port} {count : Bool} (h : Good n c q s) :
    Good n c q (State.dropCont s p count) := by
  unfold State.dropCont
  repeat' first
    | with_reducible assumption
    | (intro)
    | (extract_lets +onlyGivenNames s1; have hs1 : Good n c q s1 := by with_reducible assumption
       clear hs1; unfold s1; clear s1)
    | (extract_lets +onlyGivenNames s1; refine good_cut (n := n) (c := c) (q := q) s1 ?_ ?_ <;> [(unfold s1; clear s1); (intro hs1; clear_value s1; revert hs1; revert s1; intro t1 ht1)])
    | (extract_lets +onlyGivenNames x1; clear_value x1; revert x1; intro y1)
    | (extract_lets +onlyGivenNames s1; refine good_cut (n := n) (c := c) (q := q) s1 ?_ ?_ <;> [(unfold s1; clear s1); (intro hs1; refine good_ite ?_ ?_ <;> (clear_value s1; revert hs1; revert s1; intro t1 ht1))])
    | with_reducible apply bumpP_good
    | with_reducible apply modTcf_good
    | with_reducible apply refuse_good
    | with_reducible apply tcfStatus_good
    | fail_if_no_progress (with_reducible refine good_mk ?_ rfl rfl rfl rfl rfl rfl rfl rfl rfl)
    | with_reducible apply good_ite
    | (split)
    | (refine good_ite ?_ ?_)
    | (dsimp only)

theorem transmit_good {n : Nat} {c : Option Nat} {q : List Instr} {s : State} {p : Port} {bytes : List Byte} (h : Good n c q s) :
    Good n c q (State.transmit s p bytes) := by
  unfold State.transmit
  repeat' first
    | with_reducible assumption
    | (intro)
    | (extract_lets +onlyGivenNames s1; have hs1 : Good n c q s1 := by with_reducible assumption
       clear hs1; unfold s1; clear s1)
    | (extract_lets +onlyGivenNames s1; refine good_cut (n := n) (c := c) (q := q) s1 ?_ ?_ <;> [(unfold s1; clear s1); (intro hs1; clear_value s1; revert hs1; revert s1; intro t1 ht1)])
    | (extract_lets +onlyGivenNames x1; clear_value x1; revert x1; intro y1)
    | (extract_lets +onlyGivenNames s1; refine good_cut (n := n) (c := c) (q := q) s1 ?_ ?_ <;> [(unfold s1; clear s1); (intro hs1; refine good_ite ?_ ?_ <;> (clear_value s1; revert hs1; revert s1; intro t1 ht1))])
    | with_reducible apply drive_good
    | with_reducible apply modTxp_good
    | fail_if_no_progress (with_reducible refine good_mk ?_ rfl rfl rfl rfl rfl rfl rfl rfl rfl)
    | with_reducible apply good_ite
    | (split)
    | (refine good_ite ?_ ?_)
    | (dsimp only)

theorem emitFrame_good {n : Nat} {c : Option Nat} {q : List Instr} {s : State} {p : Port} {full : Bool} {header : List Byte} {map : List MapEntry} {ploams : List SentPloam} {encaps : List EncapTx} (h : Good n c q s) :
    Good n c q (State.emitFrame s p full header map ploams encaps) := by
  unfold State.emitFrame
  repeat' first
    | with_reducible assumption
    | (intro)
    | with_reducible apply transmit_good
    | with_reducible apply emit_good
    | (dsimp only)

theorem sendFrame_good {n : Nat} {c : Option Nat} {q : List Instr} {s : State} {p : Port} {bad : List Nat} (h : Good n c q s) :
    Good n c q (State.sendFrame s p bad) := by
  unfold State.sendFrame
  repeat' first
    | with_reducible assumption
    | (intro)
    | (extract_lets +onlyGivenNames s1; have hs1 : Good n c q s1 := by with_reducible assumption
       clear hs1; unfold s1; clear s1)
    | (extract_lets +onlyGivenNames s1; refine good_cut (n := n) (c := c) (q := q) s1 ?_ ?_ <;> [(unfold s1; clear s1); (intro hs1; clear_value s1; revert hs1; revert s1; intro t1 ht1)])
    | (extract_lets +onlyGivenNames x1; clear_value x1; revert x1; intro y1)
    | (extract_lets +onlyGivenNames s1; refine good_cut (n := n) (c := c) (q := q) s1 ?_ ?_ <;> [(unfold s1; clear s1); (intro hs1; refine good_ite ?_ ?_ <;> (clear_value s1; revert hs1; revert s1; intro t1 ht1))])
    | with_reducible apply dropCont_good
    | with_reducible apply driveNone_good
    | with_reducible apply bumpP_good
    | with_reducible apply emitFrame_good
    | with_reducible apply framePloams_good
    | with_reducible apply framePayload_good
    | with_reducible apply good_ite
    | (with_reducible apply good_fst; with_reducible assumption)
    | (split)
    | (refine good_ite ?_ ?_)
    | (dsimp only)

end Sys2Proof.Machine
end

