-- ==== Sys2Proof/Laws/GoodExec.lean ====
section
/-!
SUPPORT. What every command keeps: the invariant, the queue and, but for the frame tick, the tick number; and which commands can move the
frame counter.
-/
namespace Sys2Proof.Machine

/-- A command that does not move the frame counter keeps what is good. -/
theorem exec_good {n : Nat} {c : Option Nat} {q : List Instr} {i : Instr} {s : State} (hi : movesFc i = false) (h : Good n c q s) :
    GoodOut n c q (exec i s) := by
  cases i with
  | frameTick obs => cases hi
  | harvestDumpDone set => exact execHarvestDumpDone_good h
  | handover port cause => exact execHandover_good h
  | mapCommit port passUs => exact execMapCommit_good h
  | dbaDeadlineMiss port => exact execDbaDeadlineMiss_good h
  | presetStaging port => exact execPresetStaging_good h
  | thermalMeasurement obs => cases hi
  | avsWriteFailed rail => exact execAvsWriteFailed_good h
  | graceExpired => exact execGraceExpired_good h
  | enforcementStep => exact execEnforcementStep_good h
  | holdingExpired => exact execHoldingExpired_good h
  | compatCodeStep => exact execCompatCodeStep_good h
  | railFault rail run => exact execRailFault_good h
  | heartbeatHoldExpired port => exact execHeartbeatHoldExpired_good h
  | fenceReq src port value => exact execFenceReq_good h
  | prtModeCtlWrite src port value => exact execPrtModeCtlWrite_good h
  | d2dLaneFail link direction lane => exact execD2dLaneFail_good h
  | lineDieLost die => exact execLineDieLost_good h
  | unitFaultDetected port unit criteria => exact execUnitFaultDetected_good h
  | calWindowUpdate port obs => exact execCalWindowUpdate_good h
  | fgCalReq src port value => exact execFgCalReq_good h
  | fgCalDone port units => exact execFgCalDone_good h
  | cnvTestFail src port value => exact execCnvTestFail_good h
  | xtlTestFail src port value => exact execXtlTestFail_good h
  | warmupComplete port units failed => exact execWarmupComplete_good h
  | txCalDone port failed => exact execTxCalDone_good h
  | burstGuardStart port index => exact execBurstGuardStart_good h
  | agcCommand port chan cycle codes => exact execAgcCommand_good h
  | primaryDetection port chan position codes sdLow => exact execPrimaryDetection_good h
  | preambleTakeover port chan position codes sdLow => exact execPreambleTakeover_good h
  | delimiterMatch port chan position codes => exact execDelimiterMatch_good h
  | falseLock port block => exact execFalseLock_good h
  | windowClose port chan => exact execWindowClose_good h
  | rssiMarker port chan => exact execRssiMarker_good h
  | losDeclared port => exact execLosDeclared_good h
  | codewordWindowStart port win => exact execCodewordWindowStart_good h
  | codewordToDecoder port cw fault => exact execCodewordToDecoder_good h
  | codewordRelease port cw obs => exact execCodewordRelease_good h
  | unitSwapAtBoundary _ _ _ => exact execUnitSwapAtBoundary_good h
  | burstHeader port entry tick header => exact execBurstHeader_good h
  | upstreamPloam port entry tick resp msg => exact execUpstreamPloam_good h
  | serialNumberResponse port entry tick resp msg tail => exact execSerialNumberResponse_good h
  | registration port entry tick msg tail => exact execRegistration_good h
  | statusReport port entry tick report => exact execStatusReport_good h
  | encapsulationHeader port encap =>
    simp only [exec]
    exact execEncapsulationHeader_good h
  | reassemblyTimeout port alloc => exact execReassemblyTimeout_good h
  | upstreamLookup port us => exact execUpstreamLookup_good h
  | uplinkFrameRx uplink rs frame us => exact execUplinkFrameRx_good h
  | meterRefresh flow us => exact execMeterRefresh_good h
  | rakeBlock port block => exact execRakeBlock_good h
  | rakeWriteback port onu => exact execRakeWriteback_good h
  | trainRequestEnd port slot => exact execTrainRequestEnd_good h
  | rangingFailed port slot => exact execRangingFailed_good h
  | missMaxReached port slot => exact execMissMaxReached_good h
  | absentTimeout port slot => exact execAbsentTimeout_good h
  | driftCorrection port slot => exact execDriftCorrection_good h
  | flowCreate iss op0 image us => exact execFlowCreate_good h
  | flowModify iss op0 image => exact execFlowModify_good h
  | flowDisable iss op0 => exact execFlowDisable_good h
  | flowRead iss op0 => exact execFlowRead_good h
  | flowBulkLoad iss op0 op1 images us => exact execFlowBulkLoad_good h
  | queueBind iss op0 op1 => exact execQueueBind_good h
  | queueModify iss op0 op1 => exact execQueueModify_good h
  | queueUnbind iss op0 => exact execQueueUnbind_good h
  | queueRead iss op0 => exact execQueueRead_good h
  | nodeSet iss op0 op1 op2 op3 => exact execNodeSet_good h
  | nodeRead iss op0 => exact execNodeRead_good h
  | ploamSend iss msg => exact execPloamSend_good h
  | omciSend iss op0 data => exact execOmciSend_good h
  | msgRxPost iss size => exact execMsgRxPost_good h
  | keyLoad iss op0 key => exact execKeyLoad_good h
  | keySwitch iss op0 op1 op2 => exact execKeySwitch_good h
  | keyClear iss op0 => exact execKeyClear_good h
  | onuAdmit iss op0 op1 op2 op3 => exact execOnuAdmit_good h
  | onuAdmitG50 iss op0 op1 op2 op3 => exact execOnuAdmitG50_good h
  | onuRemove iss op0 => exact execOnuRemove_good h
  | trainStart iss op0 => exact execTrainStart_good h
  | allocSet iss op0 op1 op2 op3 op4 => exact execAllocSet_good h
  | allocClear iss op0 => exact execAllocClear_good h
  | presetWrite iss op0 record => exact execPresetWrite_good h
  | presetAnchor iss op0 => exact execPresetAnchor_good h
  | presetRestore iss op0 => exact execPresetRestore_good h
  | pairSwitch iss op0 => exact execPairSwitch_good h
  | pairKey iss key => exact execPairKey_good h
  | memScrub iss op0 op1 op2 op3 => exact execMemScrub_good h
  | memScrubDone space checked narrowed => exact execMemScrubDone_good h
  | memFill iss op0 op1 op2 op3 op4 op5 => exact execMemFill_good h
  | memRemapRead iss op0 op1 length => exact execMemRemapRead_good h
  | bitternRead iss op0 length => exact execBitternRead_good h
  | demandScrub space w concurrent => exact execDemandScrub_good h
  | hardFault space w => exact execHardFault_good h
  | trackerWindowExpired space w => exact execTrackerWindowExpired_good h
  | watchExpired space w => exact execWatchExpired_good h
  | memInject src value => exact execMemInject_good h
  | fwOpen iss header => exact execFwOpen_good h
  | fwWrite iss op0 data => exact execFwWrite_good h
  | fwVerify iss => exact execFwVerify_good h
  | verifyDone => exact execVerifyDone_good h
  | fwActivate iss => exact execFwActivate_good h
  | hcfReady settings => exact execHcfReady_good h
  | hcfFallbackReq => exact execHcfFallbackReq_good h
  | activationTimeout => exact execActivationTimeout_good h
  | persistDone ok => exact execPersistDone_good h
  | fwAbort iss => exact execFwAbort_good h
  | fwConfirm iss => exact execFwConfirm_good h
  | autoConfirm => exact execAutoConfirm_good h
  | fwFallback iss => exact execFwFallback_good h
  | fwAttest iss nonce => exact execFwAttest_good h
  | fwIdRead iss length => exact execFwIdRead_good h
  | offerRx side version secVersion totalLen digest good => exact execOfferRx_good h
  | replyRx side code offset digest good => exact execReplyRx_good h
  | dataRx side offset bytes good => exact execDataRx_good h
  | abortRx side reason digest good => exact execAbortRx_good h
  | pullRx side digest good => exact execPullRx_good h
  | sessionComplete => exact execSessionComplete_good h
  | chainDataTimeout => exact execChainDataTimeout_good h
  | forwardTimeout side => exact execForwardTimeout_good h
  | capArm iss op0 op1 op3 => exact execCapArm_good h
  | capStop iss pages => exact execCapStop_good h
  | capRead iss op1 op2 length => exact execCapRead_good h
  | capStatus iss => exact execCapStatus_good h
  | captureTrigger pages => exact execCaptureTrigger_good h
  | captureEnd cause pages => exact execCaptureEnd_good h
  | ringCreate fn => exact execRingCreate_good h
  | ringDelete fn => exact execRingDelete_good h
  | ringDeleteDone fn => exact execRingDeleteDone_good h
  | sqDoorbell fn ring value => exact execSqDoorbell_good h
  | cqDoorbell fn ring value => exact execCqDoorbell_good h
  | descriptorFetch fn sq outcome => exact execDescriptorFetch_good h
  | functionLevelReset port => exact execFunctionLevelReset_good h
  | pf0FunctionLevelReset => exact execPf0FunctionLevelReset_good h
  | deviceSoftReset src value => cases hi
  | eventSourceInput source input info => exact execEventSourceInput_good h
  | sourceDeassert source => exact execSourceDeassert_good h
  | eventCapture queue tickOffset => exact execEventCapture_good h
  | eqModerationTimer queue => exact execEqModerationTimer_good h
  | eqDoorbell fn queue value => exact execEqDoorbell_good h
  | maskSet fn word value => exact execMaskSet_good h
  | maskClr fn word value => exact execMaskClr_good h
  | pendSet fn word value => exact execPendSet_good h
  | pendClr fn word value => exact execPendClr_good h
  | eventComplete fn value => exact execEventComplete_good h
  | senseChange fn index value => exact execSenseChange_good h
  | sourceRetarget fn index value => exact execSourceRetarget_good h
  | eqEnable fn queue value => exact execEqEnable_good h
  | counterWrite fn offset size value => exact execCounterWrite_good h
  | counterSplitRead fn read => exact execCounterSplitRead_good h
  | latchedSetRead src addr => exact execLatchedSetRead_good h
  | hkaDataRead fn conv => exact execHkaDataRead_good h
  | sidebandReadHalf addr => exact execSidebandReadHalf_good h
  | sidebandWriteHalf addr value us => cases hi
  | registerWrite src addr size enables value us => cases hi
  | coefCommit src port value => exact execCoefCommit_good h
  | maskCommit src port value => exact execMaskCommit_good h
  | hkaSwTrig src conv value => exact execHkaSwTrig_good h
  | hkaMarker port onu fc => exact execHkaMarker_good h
  | hkaConversionDone conv nanovolts => exact execHkaConversionDone_good h
  | bdaCodeWrite src output value us => exact execBdaCodeWrite_good h
  | bdaHoldExpired output us => exact execBdaHoldExpired_good h
  | bdaOverTemp output us flag => exact execBdaOverTemp_good h
  | otHoldRelease src output value us => exact execOtHoldRelease_good h
  | thmSdClr src value => exact execThmSdClr_good h
  | warmRegionResetReq src mask => exact execWarmRegionResetReq_good h
  | coldRegionResetReq src mask => exact execColdRegionResetReq_good h
  | regionResetComplete port => exact execRegionResetComplete_good h
  | hubRegionReset src value => exact execHubRegionReset_good h
  | hubRegionResetDone regions us => exact execHubRegionResetDone_good h
  | lineDieReset src value => exact execLineDieReset_good h
  | lineDieResetDone die failed => exact execLineDieResetDone_good h
  | deltaClear src value => exact execDeltaClear_good h
  | powerOn => cases hi
  | resetN => cases hi
  | aonBrownout => cases hi
  | startupStepComplete obs => exact execStartupStepComplete_good h
  | deviceReady ms => exact execDeviceReady_good h
  | fwRunning ms => exact execFwRunning_good h
  | refclkLoss => exact execRefclkLoss_good h
  | laneLockLoss lane cause => exact execLaneLockLoss_good h
  | portUp port order => exact execPortUp_good h
  | trainingTimeout port locked order => exact execTrainingTimeout_good h
  | trainingRetry port => exact execTrainingRetry_good h
  | quietAnnounceRx side => exact execQuietAnnounceRx_good h
  | followLockTimeout lane => exact execFollowLockTimeout_good h
  | laneInjSingle src lane value running => exact execLaneInjSingle_good h
  | laneInjBurst src lane value running => exact execLaneInjBurst_good h
  | heartbeatRx hb good => exact execHeartbeatRx_good h
  | heartbeatMissed => exact execHeartbeatMissed_good h
  | pairLost => exact execPairLost_good h
  | mapMessageRx port fc map good => exact execMapMessageRx_good h
  | deltaRx port seq mirror us good => exact execDeltaRx_good h
  | deltaTimeout port => exact execDeltaTimeout_good h
  | ackRx port seq good => exact execAckRx_good h
  | resyncOrder port => exact execResyncOrder_good h
  | bulkCopyRx port seq last mirror presets good => exact execBulkCopyRx_good h
  | takeover port => exact execTakeover_good h
  | todMessageRx side msg good => exact execTodMessageRx_good h
  | todHoldover => exact execTodHoldover_good h
  | ppsEdge interval err afterTick => exact execPpsEdge_good h
  | ppsLost => exact execPpsLost_good h
  | todAlign src value => exact execTodAlign_good h
  | todArmSec src value => exact execTodArmSec_good h
  | todFcSet src value => exact execTodFcSet_good h
  | memFillDone iss => exact execMemFillDone_good h
  | upstreamEgress uplink poisoned => exact execUpstreamEgress_good h
  | forwardingEnd side => exact execForwardingEnd_good h
  | refclkValid => exact execRefclkValid_good h
  | resetNRelease => exact execResetNRelease_good h
  | voltageWarning sample => exact execVoltageWarning_good h
  | prbsCheckerLock lane bits own => exact execPrbsCheckerLock_good h
  | followSignalChange lane signal => exact execFollowSignalChange_good h
  | d2dRetrainDone link direction => exact execD2dRetrainDone_good h
  | knownAnswerTestDone port cls unit passed => exact execKnownAnswerTestDone_good h
  | busMasterEnableChange fn on => exact execBusMasterEnableChange_good h
  | msixUnmask fn mask => exact execMsixUnmask_good h

/-- Any command keeps the invariant and the queue, and only the frame tick advances the tick number. -/
theorem exec_good_any {n : Nat} {q : List Instr} (i : Instr) {s : State} (h : Good n none q s) :
    GoodOut (n + ticksOf i) none q (exec i s) := by
  cases i with
  | frameTick obs => exact execFrameTick_good h
  | harvestDumpDone set => exact execHarvestDumpDone_good h
  | handover port cause => exact execHandover_good h
  | mapCommit port passUs => exact execMapCommit_good h
  | dbaDeadlineMiss port => exact execDbaDeadlineMiss_good h
  | presetStaging port => exact execPresetStaging_good h
  | thermalMeasurement obs => exact execThermalMeasurement_good h
  | avsWriteFailed rail => exact execAvsWriteFailed_good h
  | graceExpired => exact execGraceExpired_good h
  | enforcementStep => exact execEnforcementStep_good h
  | holdingExpired => exact execHoldingExpired_good h
  | compatCodeStep => exact execCompatCodeStep_good h
  | railFault rail run => exact execRailFault_good h
  | heartbeatHoldExpired port => exact execHeartbeatHoldExpired_good h
  | fenceReq src port value => exact execFenceReq_good h
  | prtModeCtlWrite src port value => exact execPrtModeCtlWrite_good h
  | d2dLaneFail link direction lane => exact execD2dLaneFail_good h
  | lineDieLost die => exact execLineDieLost_good h
  | unitFaultDetected port unit criteria => exact execUnitFaultDetected_good h
  | calWindowUpdate port obs => exact execCalWindowUpdate_good h
  | fgCalReq src port value => exact execFgCalReq_good h
  | fgCalDone port units => exact execFgCalDone_good h
  | cnvTestFail src port value => exact execCnvTestFail_good h
  | xtlTestFail src port value => exact execXtlTestFail_good h
  | warmupComplete port units failed => exact execWarmupComplete_good h
  | txCalDone port failed => exact execTxCalDone_good h
  | burstGuardStart port index => exact execBurstGuardStart_good h
  | agcCommand port chan cycle codes => exact execAgcCommand_good h
  | primaryDetection port chan position codes sdLow => exact execPrimaryDetection_good h
  | preambleTakeover port chan position codes sdLow => exact execPreambleTakeover_good h
  | delimiterMatch port chan position codes => exact execDelimiterMatch_good h
  | falseLock port block => exact execFalseLock_good h
  | windowClose port chan => exact execWindowClose_good h
  | rssiMarker port chan => exact execRssiMarker_good h
  | losDeclared port => exact execLosDeclared_good h
  | codewordWindowStart port win => exact execCodewordWindowStart_good h
  | codewordToDecoder port cw fault => exact execCodewordToDecoder_good h
  | codewordRelease port cw obs => exact execCodewordRelease_good h
  | unitSwapAtBoundary _ _ _ => exact execUnitSwapAtBoundary_good h
  | burstHeader port entry tick header => exact execBurstHeader_good h
  | upstreamPloam port entry tick resp msg => exact execUpstreamPloam_good h
  | serialNumberResponse port entry tick resp msg tail => exact execSerialNumberResponse_good h
  | registration port entry tick msg tail => exact execRegistration_good h
  | statusReport port entry tick report => exact execStatusReport_good h
  | encapsulationHeader port encap =>
    simp only [exec]
    exact execEncapsulationHeader_good h
  | reassemblyTimeout port alloc => exact execReassemblyTimeout_good h
  | upstreamLookup port us => exact execUpstreamLookup_good h
  | uplinkFrameRx uplink rs frame us => exact execUplinkFrameRx_good h
  | meterRefresh flow us => exact execMeterRefresh_good h
  | rakeBlock port block => exact execRakeBlock_good h
  | rakeWriteback port onu => exact execRakeWriteback_good h
  | trainRequestEnd port slot => exact execTrainRequestEnd_good h
  | rangingFailed port slot => exact execRangingFailed_good h
  | missMaxReached port slot => exact execMissMaxReached_good h
  | absentTimeout port slot => exact execAbsentTimeout_good h
  | driftCorrection port slot => exact execDriftCorrection_good h
  | flowCreate iss op0 image us => exact execFlowCreate_good h
  | flowModify iss op0 image => exact execFlowModify_good h
  | flowDisable iss op0 => exact execFlowDisable_good h
  | flowRead iss op0 => exact execFlowRead_good h
  | flowBulkLoad iss op0 op1 images us => exact execFlowBulkLoad_good h
  | queueBind iss op0 op1 => exact execQueueBind_good h
  | queueModify iss op0 op1 => exact execQueueModify_good h
  | queueUnbind iss op0 => exact execQueueUnbind_good h
  | queueRead iss op0 => exact execQueueRead_good h
  | nodeSet iss op0 op1 op2 op3 => exact execNodeSet_good h
  | nodeRead iss op0 => exact execNodeRead_good h
  | ploamSend iss msg => exact execPloamSend_good h
  | omciSend iss op0 data => exact execOmciSend_good h
  | msgRxPost iss size => exact execMsgRxPost_good h
  | keyLoad iss op0 key => exact execKeyLoad_good h
  | keySwitch iss op0 op1 op2 => exact execKeySwitch_good h
  | keyClear iss op0 => exact execKeyClear_good h
  | onuAdmit iss op0 op1 op2 op3 => exact execOnuAdmit_good h
  | onuAdmitG50 iss op0 op1 op2 op3 => exact execOnuAdmitG50_good h
  | onuRemove iss op0 => exact execOnuRemove_good h
  | trainStart iss op0 => exact execTrainStart_good h
  | allocSet iss op0 op1 op2 op3 op4 => exact execAllocSet_good h
  | allocClear iss op0 => exact execAllocClear_good h
  | presetWrite iss op0 record => exact execPresetWrite_good h
  | presetAnchor iss op0 => exact execPresetAnchor_good h
  | presetRestore iss op0 => exact execPresetRestore_good h
  | pairSwitch iss op0 => exact execPairSwitch_good h
  | pairKey iss key => exact execPairKey_good h
  | memScrub iss op0 op1 op2 op3 => exact execMemScrub_good h
  | memScrubDone space checked narrowed => exact execMemScrubDone_good h
  | memFill iss op0 op1 op2 op3 op4 op5 => exact execMemFill_good h
  | memRemapRead iss op0 op1 length => exact execMemRemapRead_good h
  | bitternRead iss op0 length => exact execBitternRead_good h
  | demandScrub space w concurrent => exact execDemandScrub_good h
  | hardFault space w => exact execHardFault_good h
  | trackerWindowExpired space w => exact execTrackerWindowExpired_good h
  | watchExpired space w => exact execWatchExpired_good h
  | memInject src value => exact execMemInject_good h
  | fwOpen iss header => exact execFwOpen_good h
  | fwWrite iss op0 data => exact execFwWrite_good h
  | fwVerify iss => exact execFwVerify_good h
  | verifyDone => exact execVerifyDone_good h
  | fwActivate iss => exact execFwActivate_good h
  | hcfReady settings => exact execHcfReady_good h
  | hcfFallbackReq => exact execHcfFallbackReq_good h
  | activationTimeout => exact execActivationTimeout_good h
  | persistDone ok => exact execPersistDone_good h
  | fwAbort iss => exact execFwAbort_good h
  | fwConfirm iss => exact execFwConfirm_good h
  | autoConfirm => exact execAutoConfirm_good h
  | fwFallback iss => exact execFwFallback_good h
  | fwAttest iss nonce => exact execFwAttest_good h
  | fwIdRead iss length => exact execFwIdRead_good h
  | offerRx side version secVersion totalLen digest good => exact execOfferRx_good h
  | replyRx side code offset digest good => exact execReplyRx_good h
  | dataRx side offset bytes good => exact execDataRx_good h
  | abortRx side reason digest good => exact execAbortRx_good h
  | pullRx side digest good => exact execPullRx_good h
  | sessionComplete => exact execSessionComplete_good h
  | chainDataTimeout => exact execChainDataTimeout_good h
  | forwardTimeout side => exact execForwardTimeout_good h
  | capArm iss op0 op1 op3 => exact execCapArm_good h
  | capStop iss pages => exact execCapStop_good h
  | capRead iss op1 op2 length => exact execCapRead_good h
  | capStatus iss => exact execCapStatus_good h
  | captureTrigger pages => exact execCaptureTrigger_good h
  | captureEnd cause pages => exact execCaptureEnd_good h
  | ringCreate fn => exact execRingCreate_good h
  | ringDelete fn => exact execRingDelete_good h
  | ringDeleteDone fn => exact execRingDeleteDone_good h
  | sqDoorbell fn ring value => exact execSqDoorbell_good h
  | cqDoorbell fn ring value => exact execCqDoorbell_good h
  | descriptorFetch fn sq outcome => exact execDescriptorFetch_good h
  | functionLevelReset port => exact execFunctionLevelReset_good h
  | pf0FunctionLevelReset => exact execPf0FunctionLevelReset_good h
  | deviceSoftReset src value => exact execDeviceSoftReset_good h
  | eventSourceInput source input info => exact execEventSourceInput_good h
  | sourceDeassert source => exact execSourceDeassert_good h
  | eventCapture queue tickOffset => exact execEventCapture_good h
  | eqModerationTimer queue => exact execEqModerationTimer_good h
  | eqDoorbell fn queue value => exact execEqDoorbell_good h
  | maskSet fn word value => exact execMaskSet_good h
  | maskClr fn word value => exact execMaskClr_good h
  | pendSet fn word value => exact execPendSet_good h
  | pendClr fn word value => exact execPendClr_good h
  | eventComplete fn value => exact execEventComplete_good h
  | senseChange fn index value => exact execSenseChange_good h
  | sourceRetarget fn index value => exact execSourceRetarget_good h
  | eqEnable fn queue value => exact execEqEnable_good h
  | counterWrite fn offset size value => exact execCounterWrite_good h
  | counterSplitRead fn read => exact execCounterSplitRead_good h
  | latchedSetRead src addr => exact execLatchedSetRead_good h
  | hkaDataRead fn conv => exact execHkaDataRead_good h
  | sidebandReadHalf addr => exact execSidebandReadHalf_good h
  | sidebandWriteHalf addr value us => exact execSidebandWriteHalf_good h
  | registerWrite src addr size enables value us => exact execRegisterWrite_good h
  | coefCommit src port value => exact execCoefCommit_good h
  | maskCommit src port value => exact execMaskCommit_good h
  | hkaSwTrig src conv value => exact execHkaSwTrig_good h
  | hkaMarker port onu fc => exact execHkaMarker_good h
  | hkaConversionDone conv nanovolts => exact execHkaConversionDone_good h
  | bdaCodeWrite src output value us => exact execBdaCodeWrite_good h
  | bdaHoldExpired output us => exact execBdaHoldExpired_good h
  | bdaOverTemp output us flag => exact execBdaOverTemp_good h
  | otHoldRelease src output value us => exact execOtHoldRelease_good h
  | thmSdClr src value => exact execThmSdClr_good h
  | warmRegionResetReq src mask => exact execWarmRegionResetReq_good h
  | coldRegionResetReq src mask => exact execColdRegionResetReq_good h
  | regionResetComplete port => exact execRegionResetComplete_good h
  | hubRegionReset src value => exact execHubRegionReset_good h
  | hubRegionResetDone regions us => exact execHubRegionResetDone_good h
  | lineDieReset src value => exact execLineDieReset_good h
  | lineDieResetDone die failed => exact execLineDieResetDone_good h
  | deltaClear src value => exact execDeltaClear_good h
  | powerOn => exact execPowerOn_good h
  | resetN => exact execResetN_good h
  | aonBrownout => exact execAonBrownout_good h
  | startupStepComplete obs => exact execStartupStepComplete_good h
  | deviceReady ms => exact execDeviceReady_good h
  | fwRunning ms => exact execFwRunning_good h
  | refclkLoss => exact execRefclkLoss_good h
  | laneLockLoss lane cause => exact execLaneLockLoss_good h
  | portUp port order => exact execPortUp_good h
  | trainingTimeout port locked order => exact execTrainingTimeout_good h
  | trainingRetry port => exact execTrainingRetry_good h
  | quietAnnounceRx side => exact execQuietAnnounceRx_good h
  | followLockTimeout lane => exact execFollowLockTimeout_good h
  | laneInjSingle src lane value running => exact execLaneInjSingle_good h
  | laneInjBurst src lane value running => exact execLaneInjBurst_good h
  | heartbeatRx hb good => exact execHeartbeatRx_good h
  | heartbeatMissed => exact execHeartbeatMissed_good h
  | pairLost => exact execPairLost_good h
  | mapMessageRx port fc map good => exact execMapMessageRx_good h
  | deltaRx port seq mirror us good => exact execDeltaRx_good h
  | deltaTimeout port => exact execDeltaTimeout_good h
  | ackRx port seq good => exact execAckRx_good h
  | resyncOrder port => exact execResyncOrder_good h
  | bulkCopyRx port seq last mirror presets good => exact execBulkCopyRx_good h
  | takeover port => exact execTakeover_good h
  | todMessageRx side msg good => exact execTodMessageRx_good h
  | todHoldover => exact execTodHoldover_good h
  | ppsEdge interval err afterTick => exact execPpsEdge_good h
  | ppsLost => exact execPpsLost_good h
  | todAlign src value => exact execTodAlign_good h
  | todArmSec src value => exact execTodArmSec_good h
  | todFcSet src value => exact execTodFcSet_good h
  | memFillDone iss => exact execMemFillDone_good h
  | upstreamEgress uplink poisoned => exact execUpstreamEgress_good h
  | forwardingEnd side => exact execForwardingEnd_good h
  | refclkValid => exact execRefclkValid_good h
  | resetNRelease => exact execResetNRelease_good h
  | voltageWarning sample => exact execVoltageWarning_good h
  | prbsCheckerLock lane bits own => exact execPrbsCheckerLock_good h
  | followSignalChange lane signal => exact execFollowSignalChange_good h
  | d2dRetrainDone link direction => exact execD2dRetrainDone_good h
  | knownAnswerTestDone port cls unit passed => exact execKnownAnswerTestDone_good h
  | busMasterEnableChange fn on => exact execBusMasterEnableChange_good h
  | msixUnmask fn mask => exact execMsixUnmask_good h

end Sys2Proof.Machine
end

