-- ==== Sys2Proof/Laws/GoodViews.lean ====
section
/-!
SUPPORT. What the operations of Machine/Views.lean keep.
-/
set_option linter.all false
set_option linter.unreachableTactic false
set_option linter.unusedTactic false
namespace Sys2Proof.Machine

theorem msixWrite_good {n : Nat} {c : Option Nat} {q : List Instr} {s : State} {fn vec k value : Nat} (h : Good n c q s) :
    Good n c q (State.msixWrite s fn vec k value) := by
  unfold State.msixWrite
  split
  · split
    · exact good_mk h rfl rfl rfl rfl rfl rfl rfl rfl rfl
    · exact landed_good (execMsixUnmask_good h)
  · exact good_mk h rfl rfl rfl rfl rfl rfl rfl rfl rfl

theorem ringDoorbell_good {n : Nat} {c : Option Nat} {q : List Instr} {s : State} {pageOff : Nat} {bytes : List Byte} {f : State → Nat → State} (h : Good n c q s) (hf : ∀ s x, Good n c q s → Good n c q (f s x)) :
    Good n c q (State.ringDoorbell s pageOff bytes f) := by
  unfold State.ringDoorbell
  repeat' first
    | with_reducible assumption
    | (intro)
    | (extract_lets +onlyGivenNames s1; have hs1 : Good n c q s1 := by with_reducible assumption
       clear hs1; unfold s1; clear s1)
    | (extract_lets +onlyGivenNames s1; refine good_cut (n := n) (c := c) (q := q) s1 ?_ ?_ <;> [(unfold s1; clear s1); (intro hs1; clear_value s1; revert hs1; revert s1; intro t1 ht1)])
    | (extract_lets +onlyGivenNames x1; clear_value x1; revert x1; intro y1)
    | (extract_lets +onlyGivenNames s1; refine good_cut (n := n) (c := c) (q := q) s1 ?_ ?_ <;> [(unfold s1; clear s1); (intro hs1; refine good_ite ?_ ?_ <;> (clear_value s1; revert hs1; revert s1; intro t1 ht1))])
    | with_reducible apply hf
    | (split)
    | (dsimp only)

theorem bar2Write_good {n : Nat} {c : Option Nat} {q : List Instr} {s : State} {fn off : Nat} {bytes : List Byte} (h : Good n c q s) :
    Good n c q (State.bar2Write s fn off bytes) := by
  unfold State.bar2Write
  split
  · exact ringDoorbell_good h (fun _ _ h => landed_good (execSqDoorbell_good h))
  · exact ringDoorbell_good h (fun _ _ h => landed_good (execCqDoorbell_good h))
  · exact ringDoorbell_good h (fun _ _ h => landed_good (execEqDoorbell_good h))
  · split
    · exact good_foldl (fun _ _ h => msixWrite_good h) h
    · exact h
  · exact h
  · exact h

end Sys2Proof.Machine
end

