-- ==== Sys2Proof/Laws/Line.lean ====
section
/-!
SUPPORT. The small lemmas of the burst channels.
-/
set_option linter.all false
namespace Sys2Proof.Machine

variable (s : State)

/-- A channel reads as it was written. -/
@[simp] theorem State.chan_setChan (p : Port) (c : Chan) (x : SluChan) : (s.setChan p c x).chan p c = x := by
  cases c
  · rw [State.chan, State.setChan, State.setFld_port, State.modSlu, State.port_modPort]
  · rw [State.chan, State.setChan, State.setFld_port, State.modSlu, State.port_modPort]

/-- The other channel of the port is left alone. -/
theorem State.chan_setChan_other {p : Port} {c d : Chan} (h : d ≠ c) (x : SluChan) : (s.setChan p c x).chan p d = s.chan p d := by
  cases c <;> cases d <;> first | exact absurd rfl h | rw [State.chan, State.setChan, State.setFld_port, State.modSlu, State.port_modPort, State.chan]

/-- So are the channels of other ports. -/
theorem State.chan_setChan_port {p r : Port} {c : Chan} (h : r ≠ p) (d : Chan) (x : SluChan) : (s.setChan p c x).chan r d = s.chan r d := by
  cases c <;> cases d <;> rw [State.chan, State.setChan, State.setFld_port, State.modSlu, State.port_modPort_other _ h, State.chan]

end Sys2Proof.Machine
end

