-- ==== Sys2Proof/WellFormed.lean ====
section
/-!
DEFINITION. The operands a command can carry, by the widths and counts the spec gives them. The machine's meanings are total on every
term; a term outside these bounds stands for nothing that can reach the device.
-/
namespace Sys2Proof

/-- A function: PF0, or the function of a port (R524). -/
def okFn (f : Nat) : Bool := decide (f < 9)
/-- A source of register accesses: a function, or the management sideband as 15 (R525, R529). -/
def okSource (s : Nat) : Bool := decide (s < 9) || decide (s = 15)
/-- A 32-bit word: a register's value or an operand of a command's buffer (R350, R525). -/
def okWord (v : Nat) : Bool := decide (v < 2 ^ 32)
/-- A time in µs within a frame (R37). -/
def okUs (us : Nat) : Bool := decide (us < 125)
/-- One of two: an Aqand port, a die-to-die link or one of its directions. -/
def okSide (s : Nat) : Bool := decide (s < 2)
/-- A line die. -/
def okDie (d : Nat) : Bool := decide (d < 2)
/-- A serial lane: 0 to 15 of the uplink, 16 to 23 of the Aqand ports (R384). -/
def okLane (l : Nat) : Bool := decide (l < 24)
/-- A port of lanes: an uplink port by its first lane, or 16 and 17 for Aqand A and B. -/
def okLanePort (p : Nat) : Bool := decide (p < 18)
/-- A housekeeping converter (R447). -/
def okConv (d : Nat) : Bool := decide (d < 3)
/-- A bias output (R460). -/
def okOutput (k : Nat) : Bool := decide (k < 32)
/-- An event queue (R372). -/
def okQueue (q : Nat) : Bool := decide (q < 64)
/-- An event source (R361). -/
def okEvent (s : Nat) : Bool := decide (s < 8192)
/-- A device address (R523). -/
def okAddr (a : Nat) : Bool := decide (a < 2 ^ 26)
/-- An ONU-ID. -/
def okOnu (o : Nat) : Bool := decide (o < 1024)
/-- A Flow-ID. -/
def okFlow (f : Nat) : Bool := decide (f < 2 ^ 20)
/-- Raw codes of the sub-ADCs: 8 bits two's complement (R65). -/
def okCodes (l : List Int) : Bool := l.all (fun c => decide (-128 ≤ c) && decide (c ≤ 127))
/-- Where a ring command comes from: its function, its SQ's index among that function's, its 16-bit tag (Table 13-3). -/
def okIssue (i : Issue) : Bool := okFn i.fn && decide (i.sq < 1024) && decide (i.tag < 2 ^ 16)

/-- The operands of a command fit the spec's widths. -/
def Instr.wellFormed : Instr → Bool
  | .frameTick _ => true
  | .harvestDumpDone set => decide (set < 32)
  | .handover _ _ => true
  | .mapCommit _ _ => true
  | .dbaDeadlineMiss _ => true
  | .presetStaging _ => true
  | .thermalMeasurement _ => true
  | .avsWriteFailed rail => decide (rail < 3)
  | .graceExpired => true
  | .enforcementStep => true
  | .holdingExpired => true
  | .compatCodeStep => true
  | .railFault rail run => decide (rail < 10) && decide (run.die < 3) && decide (run.samples.length = 8)
  | .heartbeatHoldExpired _ => true
  | .fenceReq src _ value => okSource src && okWord value
  | .prtModeCtlWrite src _ value => okSource src && okWord value
  | .d2dLaneFail link direction lane => okSide link && okSide direction && decide (lane < 65)
  | .lineDieLost die => okDie die
  | .unitFaultDetected _ _ _ => true
  | .calWindowUpdate _ _ => true
  | .fgCalReq src _ value => okSource src && okWord value
  | .fgCalDone _ _ => true
  | .cnvTestFail src _ value => okSource src && okWord value
  | .xtlTestFail src _ value => okSource src && okWord value
  | .warmupComplete _ _ _ => true
  | .txCalDone _ _ => true
  | .burstGuardStart _ _ => true
  | .agcCommand _ _ cycle codes => decide (cycle < 194400) && okCodes codes
  | .primaryDetection _ _ _ codes _ => okCodes codes
  | .preambleTakeover _ _ _ codes _ => okCodes codes
  | .delimiterMatch _ _ _ codes => okCodes codes
  | .falseLock _ block => okCodes block.codes
  | .windowClose _ _ => true
  | .rssiMarker _ _ => true
  | .losDeclared _ => true
  | .codewordWindowStart _ win => okCodes win.codes
  | .codewordToDecoder _ _ _ => true
  | .codewordRelease _ _ _ => true
  | .unitSwapAtBoundary _ _ at_ => decide (at_.cycle < 194400)
  | .burstHeader _ _ _ _ => true
  | .upstreamPloam _ _ _ _ _ => true
  | .serialNumberResponse _ _ _ _ _ _ => true
  | .registration _ _ _ _ _ => true
  | .statusReport _ _ _ _ => true
  | .encapsulationHeader _ _ => true
  | .reassemblyTimeout _ _ => true
  | .upstreamLookup _ _ => true
  | .uplinkFrameRx uplink _ _ _ => decide (uplink < 16)
  | .meterRefresh flow _ => okFlow flow
  | .rakeBlock _ block => okCodes block.codes
  | .rakeWriteback _ onu => okOnu onu
  | .trainRequestEnd _ slot => decide (slot < 256)
  | .rangingFailed _ slot => decide (slot < 256)
  | .missMaxReached _ slot => decide (slot < 256)
  | .absentTimeout _ slot => decide (slot < 256)
  | .driftCorrection _ slot => decide (slot < 256)
  | .flowCreate iss op0 _ _ => okIssue iss && okWord op0
  | .flowModify iss op0 _ => okIssue iss && okWord op0
  | .flowDisable iss op0 => okIssue iss && okWord op0
  | .flowRead iss op0 => okIssue iss && okWord op0
  | .flowBulkLoad iss op0 op1 _ _ => okIssue iss && okWord op0 && okWord op1
  | .queueBind iss op0 op1 => okIssue iss && okWord op0 && okWord op1
  | .queueModify iss op0 op1 => okIssue iss && okWord op0 && okWord op1
  | .queueUnbind iss op0 => okIssue iss && okWord op0
  | .queueRead iss op0 => okIssue iss && okWord op0
  | .nodeSet iss op0 op1 op2 op3 => okIssue iss && okWord op0 && okWord op1 && okWord op2 && okWord op3
  | .nodeRead iss op0 => okIssue iss && okWord op0
  | .ploamSend iss _ => okIssue iss
  | .omciSend iss op0 _ => okIssue iss && okWord op0
  | .msgRxPost iss _ => okIssue iss
  | .keyLoad iss op0 _ => okIssue iss && okWord op0
  | .keySwitch iss op0 op1 op2 => okIssue iss && okWord op0 && okWord op1 && okWord op2
  | .keyClear iss op0 => okIssue iss && okWord op0
  | .onuAdmit iss op0 op1 op2 op3 => okIssue iss && okWord op0 && okWord op1 && okWord op2 && okWord op3
  | .onuAdmitG50 iss op0 op1 op2 op3 => okIssue iss && okWord op0 && okWord op1 && okWord op2 && okWord op3
  | .onuRemove iss op0 => okIssue iss && okWord op0
  | .trainStart iss op0 => okIssue iss && okWord op0
  | .allocSet iss op0 op1 op2 op3 op4 => okIssue iss && okWord op0 && okWord op1 && okWord op2 && okWord op3 && okWord op4
  | .allocClear iss op0 => okIssue iss && okWord op0
  | .presetWrite iss op0 _ => okIssue iss && okWord op0
  | .presetAnchor iss op0 => okIssue iss && okWord op0
  | .presetRestore iss op0 => okIssue iss && okWord op0
  | .pairSwitch iss op0 => okIssue iss && okWord op0
  | .pairKey iss _ => okIssue iss
  | .memScrub iss op0 op1 op2 op3 => okIssue iss && okWord op0 && okWord op1 && okWord op2 && okWord op3
  | .memScrubDone space _ _ => decide (space < 4)
  | .memFill iss op0 op1 op2 op3 op4 op5 => okIssue iss && okWord op0 && okWord op1 && okWord op2 && okWord op3 && okWord op4 && okWord op5
  | .memRemapRead iss op0 op1 _ => okIssue iss && okWord op0 && okWord op1
  | .bitternRead iss op0 _ => okIssue iss && okWord op0
  | .demandScrub space _ _ => decide (space < 4)
  | .hardFault space _ => decide (space < 4)
  | .trackerWindowExpired space _ => decide (space < 4)
  | .watchExpired space _ => decide (space < 4)
  | .memInject src value => okSource src && okWord value
  | .fwOpen iss _ => okIssue iss
  | .fwWrite iss op0 _ => okIssue iss && okWord op0
  | .fwVerify iss => okIssue iss
  | .verifyDone => true
  | .fwActivate iss => okIssue iss
  | .hcfReady _ => true
  | .hcfFallbackReq => true
  | .activationTimeout => true
  | .persistDone _ => true
  | .fwAbort iss => okIssue iss
  | .fwConfirm iss => okIssue iss
  | .autoConfirm => true
  | .fwFallback iss => okIssue iss
  | .fwAttest iss _ => okIssue iss
  | .fwIdRead iss _ => okIssue iss
  | .offerRx side _ _ _ _ _ => okSide side
  | .replyRx side _ _ _ _ => okSide side
  | .dataRx side _ _ _ => okSide side
  | .abortRx side _ _ _ => okSide side
  | .pullRx side _ _ => okSide side
  | .sessionComplete => true
  | .chainDataTimeout => true
  | .forwardTimeout side => okSide side
  | .capArm iss op0 op1 op3 => okIssue iss && okWord op0 && okWord op1 && okWord op3
  | .capStop iss _ => okIssue iss
  | .capRead iss op1 op2 _ => okIssue iss && okWord op1 && okWord op2
  | .capStatus iss => okIssue iss
  | .captureTrigger _ => true
  | .captureEnd _ _ => true
  | .ringCreate fn => okFn fn
  | .ringDelete fn => okFn fn
  | .ringDeleteDone fn => okFn fn
  | .sqDoorbell fn _ value => okFn fn && okWord value
  | .cqDoorbell fn _ value => okFn fn && okWord value
  | .descriptorFetch fn _ _ => okFn fn
  | .functionLevelReset _ => true
  | .pf0FunctionLevelReset => true
  | .deviceSoftReset src value => okSource src && okWord value
  | .eventSourceInput source _ _ => okEvent source
  | .sourceDeassert source => okEvent source
  | .eventCapture queue _ => okQueue queue
  | .eqModerationTimer queue => okQueue queue
  | .eqDoorbell fn queue value => okFn fn && okQueue queue && okWord value
  | .maskSet fn _ value => okFn fn && okWord value
  | .maskClr fn _ value => okFn fn && okWord value
  | .pendSet fn _ value => okFn fn && okWord value
  | .pendClr fn _ value => okFn fn && okWord value
  | .eventComplete fn value => okFn fn && okWord value
  | .senseChange fn _ value => okFn fn && okWord value
  | .sourceRetarget fn _ value => okFn fn && okWord value
  | .eqEnable fn queue value => okFn fn && okQueue queue && okWord value
  | .counterWrite fn _ size value => okFn fn && decide (size ≤ 8) && decide (value < 2 ^ (8 * size))
  | .counterSplitRead fn read => okFn fn && decide (read.size ≤ 8)
  | .latchedSetRead src addr => okSource src && okAddr addr
  | .hkaDataRead fn conv => okFn fn && okConv conv
  | .sidebandReadHalf addr => okAddr addr
  | .sidebandWriteHalf addr value us => okAddr addr && okWord value && okUs us
  | .registerWrite src addr _ _ value us => okSource src && okAddr addr && okWord value && okUs us
  | .coefCommit src _ value => okSource src && okWord value
  | .maskCommit src _ value => okSource src && okWord value
  | .hkaSwTrig src conv value => okSource src && okConv conv && okWord value
  | .hkaMarker _ onu _ => okOnu onu
  | .hkaConversionDone conv _ => okConv conv
  | .bdaCodeWrite src output value us => okSource src && okOutput output && okWord value && okUs us
  | .bdaHoldExpired output us => okOutput output && okUs us
  | .bdaOverTemp output us _ => okOutput output && okUs us
  | .otHoldRelease src output value us => okSource src && okOutput output && okWord value && okUs us
  | .thmSdClr src value => okSource src && okWord value
  | .warmRegionResetReq src mask => okSource src && okWord mask
  | .coldRegionResetReq src mask => okSource src && okWord mask
  | .regionResetComplete _ => true
  | .hubRegionReset src value => okSource src && okWord value
  | .hubRegionResetDone _ _ => true
  | .lineDieReset src value => okSource src && okWord value
  | .lineDieResetDone die _ => okDie die
  | .deltaClear src value => okSource src && okWord value
  | .powerOn => true
  | .resetN => true
  | .aonBrownout => true
  | .startupStepComplete _ => true
  | .deviceReady _ => true
  | .fwRunning _ => true
  | .refclkLoss => true
  | .laneLockLoss lane _ => okLane lane
  | .portUp port _ => okLanePort port
  | .trainingTimeout port _ _ => okLanePort port
  | .trainingRetry port => okLanePort port
  | .quietAnnounceRx side => okSide side
  | .followLockTimeout lane => decide (lane < 8)
  | .laneInjSingle src lane value _ => okSource src && okLane lane && okWord value
  | .laneInjBurst src lane value _ => okSource src && okLane lane && okWord value
  | .heartbeatRx _ _ => true
  | .heartbeatMissed => true
  | .pairLost => true
  | .mapMessageRx _ _ _ _ => true
  | .deltaRx _ _ _ us _ => okUs us
  | .deltaTimeout _ => true
  | .ackRx _ _ _ => true
  | .resyncOrder _ => true
  | .bulkCopyRx _ _ _ _ _ _ => true
  | .takeover _ => true
  | .todMessageRx side _ _ => okSide side
  | .todHoldover => true
  | .ppsEdge _ _ _ => true
  | .ppsLost => true
  | .todAlign src value => okSource src && okWord value
  | .todArmSec src value => okSource src && okWord value
  | .todFcSet src value => okSource src && okWord value
  | .memFillDone iss => okIssue iss
  | .upstreamEgress uplink _ => decide (uplink < 16)
  | .forwardingEnd side => okSide side
  | .refclkValid => true
  | .resetNRelease => true
  | .voltageWarning sample => decide (sample.rail < 10)
  | .prbsCheckerLock lane _ _ => okLane lane
  | .followSignalChange lane _ => decide (lane < 8)
  | .d2dRetrainDone link direction => okSide link && okSide direction
  | .knownAnswerTestDone _ _ _ _ => true
  | .busMasterEnableChange fn _ => okFn fn
  | .msixUnmask fn _ => okFn fn

end Sys2Proof
end

