-- ==== Sys2Proof/Tests/Slice0.lean ====
section
/-!
SUPPORT. Tests: a witness for the hypotheses of every statement, and small checks of single commands.
-/
set_option linter.all false
open Sys2Proof Sys2Proof.Machine

namespace Sys2Proof.Tests

/-- A device whose start-up is complete. -/
def up : State := (State.reset.setFlag R.RST_STATUS.device_ready true).setFld R.RST_STATUS.stage 6

/-- A device whose port 0 receives in mode 2. -/
def rx : State := ((up.modMode 0 (fun m => { m with lvl := 2, cap := 2 })).setFld (R.PRT_MODE_STATUS.eff_power_mode 0) 2).setFlag
  (R.PRT_FENCE_STATUS.fenced 0) false

/-- A receiving port whose present map has one entry, of Alloc-ID 7. -/
def oneEntry : MapEntry := { alloc := 7, start := 100, slots := 100, profile := 0, ploamu := false, dbru := false, train := false, ranging := false, probe := false }
def sluWith (e : MapEntry) (on : Nat) : State :=
  let s := rx.modDba 0 (fun d => { d with maps := [(rx.tick, { BwMap.empty with entries := [e] })] })
  let s := (s.modSlu 0 (fun u => { u with a := SluChan.reset, b := SluChan.reset })).setFld (R.SLU_BPROF.enabled 0 0) on
  let s := (s.setChan 0 .a { SluChan.reset with st := .idle }).setChan 0 .b { SluChan.reset with st := .idle }
  { s with snap1 := s.regs, snap2 := s.regs, snap3 := s.regs }
def sluOn : State := sluWith oneEntry 1
def sluOff : State := sluWith oneEntry 0
def discEntry : MapEntry := { oneEntry with alloc := 1023 }
def someStaged (bad : Bool) : Staged := { work := { Preset.blank with valid := true }, anchorCm := 0, anchorTaps := Vector.replicate 31 0, poisoned := bad }
def sluStaged (bad : Bool) : State := sluOn.modSlu 0 (fun u => { u with staged := [(7, someStaged bad)] })

/-- The first codeword of the running port's entry, its burst, and a slot that holds it in decoder 0. -/
def cw0 : CwRef := { entry := 0, tick := sluOn.tick, resp := 0, index := 0 }
def xb0 : XtlBurst := { entry := 0, tick := sluOn.tick, resp := 0, start := 6400, gain := 0, slots := 25, left := 25, spans := [1600, 1600],
                        noise := (1, 1), before := 3, lead := (3, 3), total := some 2 }
def slot0 (unsat : Nat) : DecSlot := { cw := cw0, start := 0, soft := [], known := 0, punct := [], offset := 0, limit := 12, out := { bits := [], iterations := 3, unsat := unsat } }
def xtlOn : State := sluOn.modXtl 0 (fun x => { x with bursts := [xb0] })
def win0 : CwWindow := { cw := cw0, start := 0, n := 0, stride := 1, punct := [], words := [], sets := [] }

/-- The running port in the frame of a burst of its entry, received; Alloc-ID 7 belongs to the ONU of slot 3. -/
def burstEntry : MapEntry := { oneEntry with ploamu := true, dbru := true }
def rxBurst : State :=
  let s := sluOn.modDba 0 (fun d => { d with maps := [(rx.tick, { BwMap.empty with entries := [burstEntry] })] })
  let b : RakeBurst :=
    { entry := 0, tick := rx.tick, onu := 7, train := false, staged := none, gain := 0, metric := 0, takeovers := 0, failed := false,
      misdirected := false, offset := 0, start := 0, counted := false, judged := false, used := 0, tail := [] }
  let s := (s.modRake 0 (fun r => { r with bursts := [b] })).modXtl 0 (fun x => { x with bursts := [xb0] })
  s.setCtx 0 3 (({ OnuCtx.free with st := .operation, onuId := 7 }).modRec 0 (fun r => { r with valid := true, pol := { r.pol with alloc := 7 } }))

theorem reset_inv : State.reset.Inv :=
  ⟨Tab.wf_nil _, Tab.wf_nil _, Tab.wf_nil _, Tab.wf_nil _, Tab.wf_nil _, Tab.wf_nil _, fun _ h => absurd h (List.not_mem_nil), by decide⟩

/-- An SQ that is being deleted. -/
def sqOut : Sq := { base := 0, sizeCode := 4, weight := 1, bufSize := 64, cq := 0, tail := 0, fetchHead := 0, error := false, deleting := true,
                    posted := 0, fetched := 0, completed := 0 }

/-- A poisoned word of a buffer in the line-die SRAM is bad. -/
theorem dieBad_poisoned (s : State) (p : Port) (k i : Nat) :
    dieBad (s.setWordErr (dieSpace p) (dieWord p k i) { single := 0, double := 0, poison := allBytes }) p k i = true := by
  have h : dieSpace p ≠ 3 := by unfold dieSpace; omega
  simp [dieBad, memPoison, State.wordErr, State.setWordErr, Tab.get_set_same, h, allBytes]
theorem witness_AnEmptyQueueIdles : State.reset.pending = [] := rfl

theorem witness_EveryStepKeepsTheInvariant : State.reset.Inv ∧ step State.reset = .next State.reset :=
  ⟨reset_inv, rfl⟩

theorem witness_OnlyTheTickAdvancesTheTickNumber : State.reset.Inv ∧ exec .ppsLost State.reset = .next State.reset :=
  ⟨reset_inv, rfl⟩

theorem witness_TheFrameCounterMovesOnlyWhereItMay :
    State.reset.Inv ∧ movesFc .ppsLost = false ∧ exec .ppsLost State.reset = .next State.reset :=
  ⟨reset_inv, rfl, rfl⟩

theorem witness_CommandsLeaveTheQueue : State.reset.Inv ∧ exec .ppsLost State.reset = .next State.reset :=
  witness_OnlyTheTickAdvancesTheTickNumber

theorem witness_MaskAndPendingWrites :
    Reaches up 0 (viewAddr 0 (0x8000 + 4 * 0) (0xA000 + 4 * 0)) ∧ Reaches up 0 (viewAddr 0 (0x8400 + 4 * 255) (0xA100 + 4 * 255)) ∧
    Reaches up 8 (viewAddr 8 (0x8800 + 4 * 63) (0xA200 + 4 * 63)) ∧ Reaches up 1 (viewAddr 1 (0x8C00 + 4 * 0) (0xA300 + 4 * 0)) ∧
    (255 < 256 ∧ 0 < 2 ∧ 1 < 2) ∧ (63 < 64 ∧ (8 : Nat) ≠ 0) ∧ viewSource up 0 0x23 = some 0x23 ∧ viewSource up 1 513 = some 0x1481 := by
  decide

theorem witness_MaskingAndUnmaskingASource :
    ((State.reset.maskSource 5).src 5).st = .idle ∧
    (let s := ((State.reset.pendSource 5).unmaskSource 5)
     (s.src 5).masked = false ∧ (s.src 5).st = .pending) ∧
    (let s := State.reset.pendSource 5
     (s.src 5).masked = true ∧ (s.src 5).st = .pending ∧ levelSense (s.src 0x23).sense = false) ∧
    ((State.reset.setSrc 5 { State.reset.src 5 with st := .inService }).src 5).st = .inService ∧
    (let s := (State.reset.pendSource 0x23).unmaskSource 0x23
     (s.src 0x23).st = .pending ∧ levelSense (s.src 0x23).sense = false ∧ (s.src 0x23).masked = false) := by
  decide

theorem witness_SourceInputsFollowTheStateTable :
    sourceExists 0 = true ∧ sourceExists 0x17FF = true ∧
    ((State.reset.src 0x30).input = false ∧ mirrorBit 0x30 = some (R.SLU_EVT.addr 0, 0) ∧ mirrorBit 0 = none) ∧
    (levelSense (State.reset.src 0).sense = true ∧ (State.reset.src 0).st = .idle ∧ assertedAt (State.reset.src 0).sense true = true) ∧
    (let s := State.reset.sourceInput 0 true 0
     (s.src 0).st = .pending ∧ (s.src 0).sw = false ∧ assertedAt (s.src 0).sense false = false) ∧
    (let s := State.reset.setSrc 0 { State.reset.src 0 with st := .inService, input := true }
     (s.src 0).st = .inService ∧ levelSense (s.src 0).sense = true) ∧
    (levelSense (State.reset.src 0x23).sense = false ∧ edgeAt (State.reset.src 0x23).sense (State.reset.src 0x23).input true = true) ∧
    (let s := (State.reset.sourceInput 0x23 true 0).sourceInput 0x23 false 0
     (s.src 0x23).st = .pending ∧ edgeAt (s.src 0x23).sense (s.src 0x23).input true = true) ∧
    edgeAt (State.reset.src 0x23).sense (State.reset.src 0x23).input false = false := by
  decide

theorem witness_AnEventQueueCapturesItsHead :
    let en := (State.reset.setEvQueue 0 { State.reset.evQueue 0 with en := true, sizeCode := 4 })
    let en := { en with hif := { en.hif with bme := [(0, true)] } }
    let one := (en.pendSource 0x23).unmaskSource 0x23
    let mark := en.retarget 0x23 1
    let full := one.setEvQueue 0 { one.evQueue 0 with wr := 15 }
    one = one.useHub 1 0 ∧ mark = mark.useHub 1 0 ∧ full = full.useHub 1 0 ∧
    canCapture one 0 = true ∧ (one.evQueue 0).list = [.source 0x23] ∧ (one.evQueue 0).full = false ∧
    canCapture mark 0 = true ∧ (mark.evQueue 0).list = [.marker 0x23 1] ∧ (mark.evQueue 0).full = false ∧
    canCapture full 0 = true ∧ (full.evQueue 0).list = [.source 0x23] ∧ (full.evQueue 0).full = true := by
  decide

theorem witness_EventQueueDoorbellsAndTimers :
    let s := up.setEvQueue 0 { up.evQueue 0 with en := true, sizeCode := 4, wr := 3, armed := true, window := true }
    s.ready = true ∧ s.queueOwner 0 = 0 ∧ (s.evQueue 0).en = true ∧ (s.evQueue 0).window = true ∧ (s.evQueue 0).unconsumed = 3 ∧
    (bitsOf (2 ^ 31 + 3) 15 0 + 2 ^ 4 - (s.evQueue 0).head) % 2 ^ 4 ≤ (s.evQueue 0).unconsumed ∧ bitsOf (2 ^ 31 + 3) 29 16 = 0 ∧
    (s.evQueue 0).unconsumed < (bitsOf 4 15 0 + 2 ^ 4 - (s.evQueue 0).head) % 2 ^ 4 ∧
    s.hubControlFenced = false ∧ (s.evQueue 0).modUsec = 0 ∧
    Tab.get (fun _ => true) s.ev.vecMask 0 = true ∧
    masters s 0 = false ∧ masters { s with hif := { s.hif with bme := [(0, true)] } } 0 = true ∧
    Tab.get (fun _ => true) ({ s.ev with vecMask := [(0, false)] } : EvState).vecMask 0 = false := by
  decide

theorem witness_CompletionSenseAndRetarget :
    let s := up.setSrc 0 { up.src 0 with st := .inService }
    let r := (up.pendSource 0x23).unmaskSource 0x23
    Reaches s 0 (viewAddr 0 0x9800 0xA600) ∧ viewSource s 0 (bitsOf 0 12 0) = some 0 ∧ (s.src 0).st = .inService ∧ (up.src 0).st ≠ .inService ∧
    Reaches up 0 (viewAddr 0 (4 * 0) (0x8000 + 4 * 0)) ∧ bitsOf 0x200 10 8 ≠ (up.src 0).sense ∧ bitsOf 0x200 21 16 = (up.src 0).queue ∧
    levelSense (bitsOf 0x200 10 8) = false ∧
    Reaches r 0 (viewAddr 0 (4 * 0x23) (0x8000 + 4 * 0x23)) ∧ viewSource r 0 0x23 = some 0x23 ∧ bitsOf 0x10200 10 8 = (r.src 0x23).sense ∧
    bitsOf 0x10200 21 16 ≠ (r.src 0x23).queue ∧ (r.src 0x23).st = .pending ∧ (r.src 0x23).masked = false := by
  decide

theorem witness_AWriteThatNamesTheSourcesQueueChangesNothing :
    Reaches up 0 (viewAddr 0 (4 * 0x23) (0x8000 + 4 * 0x23)) ∧ viewSource up 0 0x23 = some 0x23 ∧
    bitsOf 0x200 10 8 = (up.src 0x23).sense ∧ bitsOf 0x200 10 8 ≤ 4 ∧ bitsOf 0x200 21 16 = (up.src 0x23).queue ∧
    bitsOf 0x10200 10 8 = (up.src 0x23).sense ∧ bitsOf 0x10200 21 16 ≠ (up.src 0x23).queue := by
  decide

theorem witness_APortViewTargetsOnlyItsOwnQueues :
    Reaches up 1 (viewAddr 1 (4 * 0x23) (0x8000 + 4 * 0x23)) ∧ viewSource up 1 0x23 = some 0x23 ∧ up.queueOwner (bitsOf 0x200 21 16) ≠ 1 ∧
    Reaches up 0 (viewAddr 0 (4 * 0x23) (0x8000 + 4 * 0x23)) ∧ viewSource up 0 0x23 = some 0x23 ∧
    bitsOf 0x3F0200 10 8 = (up.src 0x23).sense ∧ bitsOf 0x3F0200 21 16 = 63 := by
  decide

theorem witness_EnablingAQueueAndUnmaskingVectors :
    let en := up.setEvQueue 0 { up.evQueue 0 with en := true, sizeCode := 4 }
    let m := { up with ev := { up.ev with msixPend := [(3, true)] } }
    Reaches up 0 (viewAddr 0 (0xA000 + 32 * 0 + 8) (0xB000 + 32 * 0 + 8)) ∧ up.queueOwner 0 = 0 ∧ (up.evQueue 0).en = false ∧
    bitsOf (2 ^ 31 + 4 * 2 ^ 16) 20 16 = 4 ∧ bitsOf (2 ^ 31 + 16 * 2 ^ 16) 20 16 = 16 ∧ bitAt (2 ^ 31 + 4 * 2 ^ 16) 31 = true ∧
    Reaches en 0 (viewAddr 0 (0xA000 + 32 * 0 + 8) (0xB000 + 32 * 0 + 8)) ∧ (en.evQueue 0).en = true ∧
    bitsOf (2 ^ 31 + 5 * 2 ^ 16) 20 16 ≠ (en.evQueue 0).sizeCode ∧
    bitsOf (4 * 2 ^ 16) 29 24 = (en.evQueue 0).vector ∧ bitsOf (4 * 2 ^ 16) 20 16 = (en.evQueue 0).sizeCode ∧ bitAt (4 * 2 ^ 16) 31 = false ∧
    Tab.get (fun _ => false) m.ev.msixPend (0 * 64 + 3) = true ∧ Tab.get (fun _ => false) m.ev.fnMask 0 = false ∧
    masters { m with hif := { m.hif with bme := [(0, true)] } } 0 = true := by
  decide

/-- A function 0 that may have one ring of each kind, with the set-up registers of a CQ of 16 entries. -/
def ringUp : State :=
  ((((up.setFld (R.HIF_QUOTA.cq_quota 0) 1).setFld (R.HIF_QUOTA.sq_quota 0) 1).setFld R.HIF_RING_CFG.kind 1).setFld
    R.HIF_RING_CFG.size_code 4)

theorem witness_RingsAreCreatedAndDeleted :
    let busy := ringUp.setFld (ringField 0 R.HIF_RING_STATUS.busy) 1
    let made := ringUp.setCq 0 0 { base := 0, sizeCode := 4, notify := true, head := 0, wr := 0, phase := true, reserved := 0 }
    let sqUp := ((made.setFld R.HIF_RING_CFG.kind 0).setFld R.HIF_RING_BUF.buf_size 64).setFld R.HIF_RING_PARAM.weight 1
    let sq : Sq := { base := 0, sizeCode := 4, weight := 1, bufSize := 64, cq := 0, tail := 0, fetchHead := 0, error := false,
                     deleting := true, posted := 0, fetched := 0, completed := 0 }
    Reaches ringUp 0 (ringField 0 ⟨R.HIF_RING_OP.addr, 31, 31⟩).addr ∧ ringBusy ringUp 0 = false ∧ ringCheck ringUp 0 = 0 ∧
    Reaches busy 0 (ringField 0 ⟨R.HIF_RING_OP.addr, 31, 31⟩).addr ∧ ringBusy busy 0 = true ∧ ringCheck up 0 = 3 ∧
    ringCheck sqUp 0 = 0 ∧ sqUp.ring 0 R.HIF_RING_CFG.kind = 0 ∧ sqUp.sq? 0 0 = none ∧
    made.cq? 0 (made.ring 0 R.HIF_RING_CFG.index) ≠ none ∧ (made.setSq 0 0 sq).hif.sqs.any (fun e => e.2.cq = 0) = true ∧
    (sqUp.setSq 0 0 sq).sq? 0 0 = some sq ∧ sq.deleting = true ∧ (sqUp.setSq 0 0 sq).hif.inFlight = [] := by
  decide

theorem witness_DoorbellsPostAndConsume :
    let sq : Sq := { base := 0, sizeCode := 4, weight := 1, bufSize := 64, cq := 0, tail := 0, fetchHead := 0, error := false,
                     deleting := false, posted := 0, fetched := 0, completed := 0 }
    let s := (up.setSq 0 0 sq).setCq 0 0 { base := 0, sizeCode := 4, notify := true, head := 0, wr := 2, phase := true, reserved := 0 }
    up.sq? 0 0 = none ∧ up.cq? 0 0 = none ∧ s.sq? 0 0 = some sq ∧ (s.cq? 0 0).isSome = true ∧ s.inFlr 0 = false ∧ s.ready = true ∧
    bitsOf 15 31 16 = 0 ∧ bitsOf 15 15 0 < 2 ^ 4 ∧ (bitsOf 15 15 0 + 2 ^ 4 - 0) % 2 ^ 4 ≤ 2 ^ 4 - 1 - (0 + 2 ^ 4 - 0) % 2 ^ 4 ∧
    2 ^ 4 ≤ bitsOf 16 15 0 ∧ (bitsOf 2 15 0 + 2 ^ 4 - 0) % 2 ^ 4 ≤ (2 + 2 ^ 4 - 0) % 2 ^ 4 ∧
    (2 + 2 ^ 4 - 0) % 2 ^ 4 < (bitsOf 3 15 0 + 2 ^ 4 - 0) % 2 ^ 4 := by
  decide

theorem witness_DescriptorsAreFetchedAndChecked :
    let sq : Sq := { base := 0, sizeCode := 4, weight := 1, bufSize := 64, cq := 0, tail := 1, fetchHead := 0, error := false,
                     deleting := false, posted := 1, fetched := 0, completed := 0 }
    let cq : Cq := { base := 0, sizeCode := 4, notify := true, head := 0, wr := 0, phase := true, reserved := 0 }
    let s := { ((up.setSq 0 0 sq).setCq 0 0 cq) with hif := { ((up.setSq 0 0 sq).setCq 0 0 cq).hif with bme := [(0, true)] } }
    let d : Descriptor := { tag := 7, rsv0 := 0, port := 0, opcode := 0x83, rsv1 := 0, fence := false, length := 32, addr := 8,
                            ops := [0, 0, 0, 0] }
    d = descriptorOf (leBytes 4 0x00070083 ++ leBytes 4 32 ++ leBytes 8 8 ++ List.replicate 16 0) ∧
    s.hubFenced 2 = false ∧ (s.useHub 0 0).sq? 0 0 = some sq ∧ (s.useHub 0 0).cq? 0 sq.cq = some cq ∧ sq.tail ≠ sq.fetchHead ∧
    Tab.get (fun _ => false) (s.useHub 0 0).hif.bme 0 = true ∧
    (s.useHub 0 0).hubFenced 2 = false ∧ (s.useHub 0 0).inFlr 0 = false ∧ (s.useHub 0 0).ready = true ∧
    (cq.wr + 2 ^ cq.sizeCode - cq.head) % 2 ^ cq.sizeCode + cq.reserved + 1 < 2 ^ cq.sizeCode ∧
    (2 ^ 4 ≤ (15 + 2 ^ cq.sizeCode - cq.head) % 2 ^ cq.sizeCode + cq.reserved + 1) ∧
    nextTurn (s.useHub 0 0) (ringKey 0 0) sq.weight = some (1, [0]) ∧
    nextTurn { s with hif := { s.hif with turn := 1, served := [0], sqs := (1, sq) :: s.hif.sqs } } (ringKey 0 0) sq.weight = none ∧
    descriptorCheck d sq.bufSize false = none ∧ descriptorCheck { d with opcode := 0x7F } sq.bufSize false = some .badOpcode := by
  decide

theorem witness_FunctionLevelResets :
    Reaches up 0 R.HIF_SOFT_RESET.addr ∧ bitsOf 0x800000D4 7 0 ≠ 0xD5 ∧ bitsOf 0xD5 7 0 = 0xD5 ∧ bitAt 0xD5 31 = false ∧
    bitsOf 0x800000D5 7 0 = 0xD5 ∧ bitAt 0x800000D5 31 = true := by
  decide

theorem witness_CountersCountModulo2To56 : tooHot up = false ∧ (up.counter 0).value < 2 ^ 56 := by decide

theorem witness_CounterWritesAndSplitReads :
    let sh := { up with ctr := { up.ctr with shadows := [(0, (1, 5))] } }
    up.ready = true ∧ (8 * 0x2004) % 8 = 0 ∧ 8 * 0x2004 / 8 < 0x3C00 ∧ counterAssigned (8 * 0x2004 / 8) = true ∧
    0x3C00 ≤ 8 * 0x3C00 / 8 ∧ counterAssigned 0x2005 = false ∧ bar4Counter 0 8 = some 1 ∧ counterAssigned 1 = true ∧ 2 % 4 ≠ 0 ∧
    12 % 8 = 4 ∧ bar4Counter 0 12 = some 1 ∧ Tab.find sh.ctr.shadows (shadowKey 0 12) = some (1, 5) ∧
    Tab.find up.ctr.shadows (shadowKey 0 12) = none ∧ (up.setFlag (R.CTR_HV_STATUS.busy 31) true).flag (R.CTR_HV_STATUS.busy 31) = true := by
  decide

theorem witness_CapturesAreArmedTriggeredAndRead :
    let iss : Issue := { fn := 0, sq := 0, tag := 0, port := 0 }
    let s := ({ up with mem := { up.mem with capSize := 1 } } : State).setFld (R.PRT_MODE_STATUS.eff_power_mode 0) 2
    let armed := { s with capture := { s.capture with st := .armed, ring := false } }
    let done := { s with capture := { s.capture with st := .done } }
    HubStarts s iss [(0x0, 0x3FF7177), (1, 0x7FFFFF)] ∧ s.capture.running = false ∧ capPages s = 65536 ∧ bitsOf 1 22 0 ≠ 0 ∧
    bitsOf (65536 * 4) 22 0 ≤ capPages s * 4 ∧ bitsOf 0x4040 6 4 ≤ 4 ∧ bitsOf 0x4040 14 12 = 4 ∧ 2 ≤ s.mode (Fin.ofNat 8 (bitsOf 0 2 0)) ∧
    s.hubFenced 1 = false ∧ armed.capture.st = .armed ∧ armed.capture.running = true ∧ done.capture.st = .done ∧
    (4096 % 2 ^ 32 + bitsOf 0 0 0 * 2 ^ 32) % 32 = 0 ∧ 0 % 2 ^ 32 + bitsOf 0 0 0 * 2 ^ 32 + 4096 ≤ 4096 * capPages done ∧
    HubStarts s iss [] ∧ HubStarts s iss [(0, 1)] ∧ triggered { armed with tick := 1 } = true ∧ triggered armed = false ∧
    endsBy armed 3 = true ∧ endsBy { armed with capture := { armed.capture with written := 65536 } } 1 = true ∧
    endsBy { armed with capture := { armed.capture with written := 65535 } } 1 = false ∧
    endsBy { armed with capture := { armed.capture with st := .capturing, postKib := 8, written := 2 } } 0 = true ∧
    endsBy { armed with capture := { armed.capture with st := .capturing, postKib := 9, written := 2 } } 0 = false ∧
    waitsInRing s iss = false := by
  decide

/-- A device with a word of hub SRAM in the tracker. -/
def tracked (st : TrkStage) : State :=
  { up with mem := { up.mem with trk := [(wordKey 0 5, { count := 3, stage := st, bytes := 4 })] } }

theorem witness_RepeatTrackersAndHardFaults :
    Tab.find (tracked .ordered).mem.trk (wordKey 0 5) = some { count := 3, stage := .ordered, bytes := 4 } ∧
    Tab.find (tracked .counting).mem.trk (wordKey 0 5) = some { count := 3, stage := .counting, bytes := 4 } ∧
    Tab.find (tracked .watching).mem.trk (wordKey 0 5) = some { count := 3, stage := .watching, bytes := 4 } ∧
    up.flag R.MEM_CTRL.trk_en = true ∧ (up.setFlag R.MEM_CTRL.trk_en false).flag R.MEM_CTRL.trk_en = false ∧
    freeRemap ((tracked .watching).useHub 3 0) (5 / 8192) = some 0 ∧
    freeRemap (State.useHub { up with mem := { up.mem with remap := (List.range 8).map (fun i => (i, i)) } } 3 0) 0 = none := by
  refine ⟨rfl, rfl, rfl, ?_, ?_, ?_, ?_⟩ <;> rfl

theorem witness_ScrubsAndInjections :
    let iss : Issue := { fn := 0, sq := 0, tag := 0, port := 0 }
    let sc : Scrub := { iss := iss, start := 0, words := 2 ^ 21, truncated := false }
    let s := { up with mem := { up.mem with scrubs := [(0, sc)] } }
    HubStarts s iss [(0, 0xF), (2 ^ 21, 0x7FFFFFFF)] ∧ badRange 0 0 (2 ^ 21) = false ∧ badRange 0 0 (2 ^ 21 + 1) = true ∧
    badRange 3 32 (2 ^ 30 - 1) = false ∧ up.hubFenced 1 = false ∧ Tab.find s.mem.scrubs 0 = some sc ∧ s.mem.errs = [] ∧
    Tab.find up.mem.scrubs 0 = none ∧ untouchedWords s 0 0 = 0 ∧ Reaches up 0 R.MEM_INJECT_0.addr ∧
    bitAt 0x80000000 31 = true ∧ up.fld R.MEM_INJECT_1.address < spaceWords (bitsOf 0x80000000 25 24) ∧ bitsOf 0x80000000 27 26 = 0 ∧
    bitsOf 0x84000000 27 26 = 1 ∧ bitsOf 0x88000000 27 26 = 2 ∧ bitsOf 0x8B000000 25 24 = 3 ∧ bitAt 0 31 = false := by
  decide

theorem witness_FillsAndLogReads :
    let iss : Issue := { fn := 0, sq := 0, tag := 0, port := 0 }
    let f : Fill := { start := 0, words := 4, pattern := 0 }
    let s := { up with mem := { up.mem with filling := [(iss, f)], bittern := [{ kind := 1, space := 0, region := 8, consumer := 0, seq := 0, address := 0, fc := 0 }] } }
    HubStarts s iss [(3, 0xF), (2 ^ 30, 0x7FFFFFFF)] ∧ badRange 3 0 (2 ^ 30) = false ∧ badRange 3 1 1 = true ∧ badRange 0 0 1 = false ∧
    up.hubFenced 1 = false ∧ s.mem.filling.find? (fun e => e.1 = iss) = some (iss, f) ∧ HubStarts s iss [(0x80000001, 0x800001FF)] ∧
    bitsOf 0x80000100 8 0 = 256 ∧ bitAt 0x80000001 31 = true ∧ s.mem.bittern ≠ [] ∧ HubStarts s iss [(255, 0xFF), (1, 0x1FF)] ∧
    bitsOf 255 7 0 + bitsOf 1 8 0 = 256 ∧ HubStarts s iss [(0, 0xFF), (256, 0x1FF)] ∧ 256 < bitsOf 255 7 0 + bitsOf 2 8 0 := by
  decide

set_option maxRecDepth 8192 in
theorem witness_UnitFaultsTakeASpare :
    let act := (rx.setFld (R.CNV_UNIT.state 0 3) 0).setFld (R.CNV_CTRL.bg_en 0) 15
    let q := (act.setFld (R.CNV_UNIT.state 0 3) 6).modCnv 0 (fun c => { c with faultsNow := c.faultsNow.filter (· ≠ 3) ++ [3] })
    let none := (List.range 36).foldl (fun s u => s.setFld (R.CNV_UNIT.state 0 u) 5) rx
    let spare := q.setFld (R.CNV_UNIT.state 0 32) 1
    rx.receiving 0 = true ∧ rx.inReset 0 = false ∧ criteriaNow act 0 0x81 = 0x81 ∧ criteriaNow (act.setFlag (R.CNV_CTRL.stage_cal_en 0) false) 0 0x40 = 0 ∧ up.receiving 0 = false ∧
    Reaches rx 0 (R.CNV_TEST_FAIL.addr 0) ∧ bitAt 0x80000023 31 = true ∧ bitsOf 0x80000023 5 0 = 35 ∧ bitsOf 0x80000024 5 0 = 36 ∧
    cnvUnit rx 0 35 ≤ 2 ∧ 2 < cnvUnit (rx.setFld (R.CNV_UNIT.state 0 35) 5) 0 35 ∧
    cnvUnit act 0 3 = 0 ∧ cnvRuns q 0 = true ∧ failedNow q 0 = [3] ∧ untrimmed q 0 = [] ∧ cnvUnit spare 0 32 = 1 ∧
    failedNow spare 0 = [3] ∧ cnvRuns (spare.setFld (R.PRT_FENCE_STATUS.cause_mask 0) 0x80) 0 = false ∧
    cnvUnit (rx.setFld (R.CNV_UNIT.state 0 0) 1) 0 0 = 1 ∧ cnvUnit (rx.setFld (R.CNV_UNIT.state 0 33) 2) 0 33 = 2 ∧
    (List.range 36).all (fun b => cnvUnit none 0 b ≠ 1) = true := by
  decide

set_option maxRecDepth 8192 in
theorem witness_CalibrationRunsInItsWindowsAndInTheForeground :
    let cal := rx.modDba 0 (fun d => { d with maps := [(rx.tick, { BwMap.empty with cal := some (0, 8) })] })
    let fenced := rx.setFlag (R.PRT_FENCE_STATUS.fenced 0) true
    let on := (rx.setFld (R.CNV_CTRL.bg_en 0) 15).modCnv 0 (fun c => { c with samples := [(3, 2 ^ 20), (4, 2 ^ 20)] })
    let trim := rx.setFld (R.CNV_UNIT.state 0 32) 2
    let m : FgUnit := { unit := 32, offset := 0, gain := 2048, skew := 0, bwc := 0, fails := 0, stage := [] }
    let dull := { up with regs := [(R.CNV_REF_TRIM.addr 0, wordSetField 0 21 16 5),
      (R.THM_SENSOR.addr 5, wordSetField 0 (R.THM_SENSOR.failed 5).hi (R.THM_SENSOR.failed 5).lo 1)] }
    cal.mapCal 0 = some (0, 8) ∧ cal.receiving 0 = true ∧ cal.inReset 0 = false ∧
    bitAt (cal.fld (R.PRT_FENCE_STATUS.cause_mask 0)) 7 = false ∧
    bitAt ((cal.setFld (R.PRT_FENCE_STATUS.cause_mask 0) 0x80).fld (R.PRT_FENCE_STATUS.cause_mask 0)) 7 = true ∧ rx.mapCal 0 = none ∧
    bitAt (on.fld (R.CNV_CTRL.bg_en 0)) 3 = true ∧ coef (on.setFld (R.CNV_BWC.bwc 0 0) 30) 0 0 3 - (-1) * 1 = (coefLimits 3).2 ∧
    (coefLimits 3).2 < coef (on.setFld (R.CNV_BWC.bwc 0 0) 31) 0 0 3 - (-1) * 1 ∧
    Tab.get (fun _ => 0) (on.port 0).cnv.samples 4 = 2 ^ 20 ∧ Tab.get (fun _ => 0) (on.port 0).cnv.samples 0 < 2 ^ 20 ∧
    bitAt ((rx.setFld (R.CNV_CTRL.bg_en 0) 0).fld (R.CNV_CTRL.bg_en 0)) 0 = false ∧ cnvUnit trim 0 32 = 2 ∧
    converged (trim.trimSpare 0 m) 0 32 m = true ∧ converged (trim.trimSpare 0 m) 0 32 { m with gain := 2050 } = false ∧
    4 ≤ (trim.setFld (R.CNV_UNIT.subst_windows 0 32) 3).fld (R.CNV_UNIT.subst_windows 0 32) + 1 ∧
    dull.fld (R.CNV_REF_TRIM.sensor_id 0) = 5 ∧ dull.flag (R.THM_SENSOR.failed 5) = true ∧
    (rx.setFlag (R.CNV_CTRL.temp_comp_en 0) true).flag (R.CNV_CTRL.temp_comp_en 0) = true ∧
    Reaches rx 0 (R.CNV_CTRL.addr 0) ∧
    bitAt 0x80000000 31 = true ∧ fenced.fenced 0 = true ∧ fenced.receiving 0 = true ∧ rx.fenced 0 = false ∧
    ((rx.modCnv 0 (fun c => { c with fgRun := true })).port 0).cnv.fgRun = true ∧ (rx.port 0).cnv.fgRun = false := by
  decide

theorem witness_BurstsArmAChannelWithTheirPreset :
    let u := fun (s : State) => s.settle 0 (frameTime s.tick + 6400)
    let s1 := fun (s : State) => ((u s).bumpP 0 0x50).modSlu 0 (fun u => { u with expected := true })
    (sluOn.mapNow 0).entries[0]? = some oneEntry ∧ (sluOn.mapNow 0).entries[1]? = none ∧ sluiceRuns (u sluOn) 0 = true ∧
    hears (u sluOn) 0 = true ∧ hears ((u sluOn).modProt 0 (fun q => { q with role := .blind })) 0 = false ∧
    dieBad (s1 (sluStaged false)) 0 7 0 = false ∧ (sluOn.port 0).prot.role ≠ .standby ∧ (sluOn.port 0).prot.realignAt = none ∧ sluOn.g50 0 = false ∧
    isDisc oneEntry = false ∧ isDisc discEntry = true ∧ ((u (sluWith discEntry 1)).profile 0 0).enabled = true ∧
    ((u sluOn).chan 0 (nextChan (u sluOn) 0)).st = .idle ∧ (((u sluOff).profile 0 oneEntry.profile).enabled = false) ∧
    ((u sluOn).profile 0 oneEntry.profile).enabled = true ∧ burstOnu (s1 sluOn) 0 oneEntry = 7 ∧
    Tab.find ((s1 sluOn).port 0).slu.staged 7 = none ∧ Tab.find ((s1 (sluStaged false)).port 0).slu.staged 7 = some (someStaged false) ∧
    Tab.find ((s1 (sluStaged true)).port 0).slu.staged 7 = some (someStaged true) ∧ sluiceRuns up 0 = false := by
  decide

/-- The running port with channel a in a state of a burst of its entry. -/
def chanIn (st : ChanState) : State :=
  sluOn.setChan 0 .a { SluChan.reset with
    st := st, entry := oneEntry, onu := 7, pos := 20, metric := 5, evalFrom := 10, lastPos := 4000, deadline := 3000, endAt := 9000,
    openAt := 100000 }

/-- The same with a detection threshold and a takeover margin of 0, and one tap of the equaliser in use. -/
def easy (st : ChanState) : State :=
  let s := ((chanIn st).setFld (R.SLU_DETECT.det_thresh 0) 0).setFld (R.SLU_DETECT.takeover_margin 0) 0
  let s := s.modRake 0 (fun r => { r with liveTaps := Vector.replicate 31 1024 })
  { s with snap1 := s.regs, snap2 := s.regs, snap3 := s.regs }

set_option maxRecDepth 8192 in
theorem witness_DetectionTakeoverAndMatch :
    let at_ := fun (s : State) (pos : Nat) => s.settleAt 0 .a (pos + 64)
    let u := at_ (easy .armed) 10
    let x := u.chan 0 .a
    let v := at_ (easy .locked) 21
    let z := { v.chan 0 .a with metric := 0 }
    let y := burstOutputs v 0 z (z.start + 21) 64 []
    let w := (chanIn .armed).modRake 0 (fun r => { r with liveTaps := Vector.replicate 31 1024 })
    sluiceRuns u 0 = true ∧ x.st = .armed ∧ x.evalFrom ≤ 10 ∧ 9 < x.evalFrom ∧ 4000 ≤ x.lastPos ∧
    u.govOf x.tick (R.SLU_DETECT.det_thresh 0) ≤ blockMetric u 0 x 10 [] ∧ u.govOf x.tick (R.SLU_CTRL.sd_gate 0) ≠ 1 ∧
    cycleInWindow u 0 { x with openAt := 100 } 1 = true ∧ cycleInWindow u 0 { x with openAt := 128 } 1 = false ∧
    blockMetric w 0 x 10 (burstOutputs w 0 x (x.start + 10) 64 [100]) < w.govOf x.tick (R.SLU_DETECT.det_thresh 0) ∧
    (let s := (chanIn .armed).setFld (R.SLU_CTRL.sd_gate 0) 1;
      ({ s with snap1 := s.regs, snap2 := s.regs, snap3 := s.regs } : State).govOf 0 (R.SLU_CTRL.sd_gate 0) = 1) ∧
    z.st = .locked ∧ z.quiet = false ∧ takeoverDue v 0 z 21 y = true ∧ matchDue v 0 z 21 y = false ∧ takeoverDue v 0 z 20 y = false ∧
    z.pos ≤ 21 ∧ 21 + 64 ≤ z.deadline ∧
    signDiffs (burstDelimiter v 0 z) (burstDelimiter v 0 z) ≤ v.govOf z.tick (R.SLU_DETECT.dlm_err 0) ∧
    v.govOf z.tick (R.SLU_DETECT.dlm_err 0) < signDiffs y (burstDelimiter v 0 z) ∧ ((chanIn .idle).chan 0 .a).st = .idle := by
  decide

set_option maxRecDepth 8192 in
theorem witness_MissingBurstsMarkersAndLossOfSignal :
    let marked := (chanIn .payload).setFld (R.SLU_RSSI_CTL.mark_en 0) 1
    let marked := { marked with snap1 := marked.regs, snap2 := marked.regs, snap3 := marked.regs }
    let lossy := (chanIn .idle).modSlu 0 (fun u => { u with losRun := 100000 })
    let l := (chanIn .locked).settleAt 0 .a 3000
    let z := { l.chan 0 .a with evalFrom := 2937 }
    let y := burstOutputs l 0 z (z.start + 2936) 64 []
    let w := (chanIn .armed).settleAt 0 .a 4064
    ({ z with quiet := true }).quiet = true ∧ matchDue l 0 { z with quiet := true } (3000 - 64) y = false ∧ takeoverDue l 0 { z with quiet := true } (3000 - 64) y = false ∧
    z.st = .locked ∧ sluiceRuns l 0 = true ∧ matchDue l 0 z (3000 - 64) y = false ∧ takeoverDue l 0 z (3000 - 64) y = false ∧
    3000 - 64 + 1 ≤ z.lastPos ∧ ({ z with lastPos := 2936 }).lastPos < 3000 - 64 + 1 ∧
    (w.chan 0 .a).st = .armed ∧ sluiceRuns w 0 = true ∧ ((chanIn .payload).chan 0 .a).st = .payload ∧
    marks marked 0 (marked.chan 0 .a) = true ∧ marks (chanIn .idle) 0 ((chanIn .idle).chan 0 .a) = false ∧
    lossy.flag (R.SLU_STATUS.los 0) = false ∧ lossy.gov (R.SLU_CTRL.los_frames 0) ≤ (lossy.port 0).slu.losRun ∧ sluiceRuns lossy 0 = true := by
  decide

set_option maxRecDepth 8192 in
theorem witness_CodewordsAreDecodedAndReleased :
    let held := xtlOn.modXtl 0 (fun x => { x with decoders := [(0, [slot0 0])] })
    let bad := xtlOn.modXtl 0 (fun x => { x with decoders := [(0, [{ slot0 5 with cw := { cw0 with index := 1 } }])] })
    let win := xtlOn.modXtl 0 (fun x => { x with windows := [win0] })
    cwEntry xtlOn 0 cw0 = some oneEntry ∧ cwEntry xtlOn 0 { cw0 with entry := 1 } = none ∧ xtlBurst xtlOn 0 0 cw0.tick 0 = some xb0 ∧
    xtlOn.fenced 0 = false ∧ xtlOn.inReset 0 = false ∧ cwLength xtlOn 0 xb0 cw0 { bits := 0, total := 0, punct := [] } = some 1600 ∧
    cwDecided xtlOn 0 cw0 = none ∧ xtlOn.g50 0 = false ∧ freeEngine xtlOn 0 0 = some 0 ∧ (xtlOn.port 0).xtl.engines = [] ∧
    (win.port 0).xtl.windows.find? (fun w => w.cw = cw0) = some win0 ∧ (win.port 0).xtl.engJob = none ∧
    (win.port 0).xtl.lost.contains cw0 = false ∧ decoderOf (held.port 0).xtl cw0 = some (0, slot0 0) ∧
    decoderOf (bad.port 0).xtl { cw0 with index := 1 } = some (0, { slot0 5 with cw := { cw0 with index := 1 } }) ∧
    pickDecoder xtlOn 0 0 = some 0 ∧ iterating held 0 0 5 = some (slot0 0) ∧ iterating held 0 0 100000 = none ∧
    pickDecoder held 0 5 = some 1 := by
  decide

set_option maxRecDepth 8192 in
theorem witness_EngineAndDecoderSwaps :
    let due := sluOn.modXtl 0 (fun x => { x with
      swaps := [(.engine, 21)], decStage := .testAuditor 3 8, engStage := .testUnit 4, engines := [(21, (cw0, 500))] })
    let swap := sluOn.modXtl 0 (fun x => { x with decStage := .swapDue 3 8, engStage := .swapDue 4 20 })
    Reaches sluOn 0 (R.XTL_TEST_FAIL.addr 0) ∧ bitAt 0x80000015 31 = true ∧ bitsOf 0x80000015 4 0 < unitCount .engine ∧
    unitCount .engine ≤ bitsOf 0x80000016 4 0 ∧ bitAt 0x80000028 5 = true ∧ bitsOf 0x80000028 4 0 < unitCount .decoder ∧
    (due.port 0).xtl.swaps.contains (.engine, 21) = true ∧ (due.setFld (R.XTL_UNIT.state 0 21) 0).fld (unitState 0 .engine 21) = 0 ∧
    (due.setFld (R.XTL_UNIT.state 0 21) 2).fld (unitState 0 .engine 21) = 2 ∧ (due.setFld (R.XTL_UNIT.state 0 21) 3).fld (unitState 0 .engine 21) = 3 ∧
    (due.port 0).xtl.decStage = .testAuditor 3 8 ∧ (due.port 0).xtl.engStage = .testUnit 4 ∧ (swap.port 0).xtl.engStage = .swapDue 4 20 ∧
    (swap.port 0).xtl.decStage = .swapDue 3 8 ∧ Tab.find (due.port 0).xtl.engines 21 = some (cw0, 500) ∧
    freeSpare (sluOn.setFld (R.XTL_UNIT.state 0 20) 1) 0 .engine = some 20 ∧ (due.port 0).xtl.engJob = none ∧
    State.govOf { sluOn with snap2 := (sluOn.setFld (R.XTL_CTRL.audit_en 0) 0).regs } sluOn.tick (R.XTL_CTRL.audit_en 0) = 0 ∧
    (sluOn.port 0).xtl.swaps.contains (.engine, 0) = false := by
  decide

theorem witness_UpstreamMessagesAndReports :
    let old := rxBurst.modTcf 0 (fun t => { t with partials := [(7, { onu := 7, flow := 0, data := [], age := 100000 })] })
    rxHead rxBurst 0 0 rx.tick = some burstEntry ∧ rxHead rxBurst 0 1 rx.tick = none ∧ rxMessage rxBurst 0 0 rx.tick 0 = some (burstEntry, xb0) ∧
    rxMessage rxBurst 0 0 rx.tick 1 = none ∧ headerFields (rxBurst.g50 0) (7 * 2 ^ 54 + 7 * 2 ^ 42) = (7, some 7, false, false) ∧
    headerFields (rxBurst.g50 0) (8 * 2 ^ 54) = (8, some 0, false, false) ∧ (rxBurst.ctx 0 3).onuId = 7 ∧
    reportFields (rxBurst.g50 0) 0 = some (0, 0) ∧ reportFields (rxBurst.g50 0) 1 = none ∧ ploamDefined 0x23 = false ∧ rxBurst.allocOwner 0 burstEntry.alloc = some (3, 0) ∧
    follows ((rxBurst.countBurst 0 0 rx.tick).drainRake 0) 0 = false ∧ follows rxBurst 0 = false ∧
    ploamDefined 0x41 = true ∧ rxBurst.g50 0 = false ∧ (rxBurst.port 0).prot.role ≠ .standby ∧
    Tab.find (old.port 0).tcf.partials 7 = some { onu := 7, flow := 0, data := [], age := 100000 } ∧
    old.gov (R.TCF_CTRL.reasm_frames 0) ≤ 100000 := by
  decide +kernel

theorem witness_EncapsulationsAreDelineated :
    let x : EncapRx := { entry := 0, tick := rx.tick, word := 0, first := true, offset := 0, payload := [] }
    let keyed := rxBurst.modTcf 0 (fun t => { t with keys := [(7 * 4 + 1, 5)] })
    let part := rxBurst.modTcf 0 (fun t => { t with partials := [(7, { onu := 7, flow := 4, data := [], age := 0 })] })
    rxEntry rxBurst 0 x.entry x.tick = some burstEntry ∧ rxEntry rxBurst 0 1 x.tick = none ∧ hecCorrect 0 = some (0, false) ∧
    (rxBurst.port 0).tcf.hunting = false ∧ ((rxBurst.modTcf 0 (fun t => { t with hunting := true })).port 0).tcf.hunting = true ∧
    headerGood rxBurst 0 x.tick 0 = false ∧ headerGood rxBurst 0 x.tick (2 ^ 50) = true ∧ headerFlow rxBurst 0 x.tick (2 ^ 50) = some 0 ∧
    headerFlow rxBurst 0 x.tick (0xFFFFF * 2 ^ 28) = none ∧ bitsOf (2 ^ 50 + 2 ^ 48) 49 48 = 1 ∧ headerGood rxBurst 0 x.tick (2 ^ 50 + 2 ^ 48) = true ∧
    Tab.find (keysOf keyed 0 x.tick) (7 * 4 + 1) = some 5 ∧ Tab.find (keysOf rxBurst 0 x.tick) (7 * 4 + 1) = none ∧
    Tab.find (rxBurst.port 0).tcf.partials 7 = none ∧ rxBurst.g50 0 = false ∧
    Tab.find (part.port 0).tcf.partials burstEntry.alloc = some { onu := 7, flow := 4, data := [], age := 0 } ∧ dieBad part 0 6 burstEntry.alloc = false ∧
    follows part 0 = false ∧ hecCorrect 0x1 ≠ none ∧
    0 ≤ rxBurst.govOf x.tick (R.TCF_SDU.max_sdu 0) ∧ follows rxBurst 0 = false := by
  decide +kernel

/-- Table 8-6: three wrong bits of the all-zero header are beyond correction. -/
theorem test_hec_beyond_correction : hecCorrect 7 = none := by decide +kernel

theorem witness_TcCommandsAreCheckedAndQueued :
    let iss : Issue := { fn := 1, sq := 0, tag := 0, port := 0 }
    let mgmt := { rxBurst with flow := { rxBurst.flow with flows := [(9, { FlowCtx.blank with valid := true, mgmt := true, onu := 7 })] } }
    let keyed := rxBurst.modTcf 0 (fun t => { t with keys := [(7 * 4 + 1, 5)] })
    Starts rxBurst iss 0 [] ∧ roleRefuses (rxBurst.startCmd iss) 0 = false ∧
    roleRefuses ((rxBurst.modProt 0 (fun q => { q with role := .standby })).startCmd iss) 0 = true ∧ ploamRefused false 0x20 = false ∧
    ploamRefused false 0x07 = true ∧ ((rxBurst.startCmd iss).port 0).tcf.hostQ.length < 256 ∧ Starts mgmt iss 0 [(9, 0xFFFFF)] ∧
    mgmtFlow (mgmt.startCmd iss) 0 9 = true ∧ mgmtFlow (rxBurst.startCmd iss) 0 9 = false ∧ Starts rxBurst iss 0 [(0x2007, 0x73FF)] ∧
    (rxBurst.startCmd iss).sq? iss.fn iss.sq = none ∧
    ((State.setSq rxBurst 1 0 sqOut).startCmd iss).sq? iss.fn iss.sq = some sqOut ∧ sqOut.deleting = true ∧
    (rxBurst.startCmd iss).slotOf 0 7 ≠ none ∧ bitsOf 0x2007 14 13 = 1 ∧ slotBusy (rxBurst.startCmd iss) 0 7 1 = false ∧
    slotBusy ((rxBurst.modTcf 0 (fun t => { t with txSlot := [(7, 1)] })).startCmd iss) 0 7 1 = true ∧ bitsOf 0x6007 14 13 = 3 ∧
    Starts keyed iss 0 [(0x2007, 0x63FF), (0xFFFF, 0xFFFF)] ∧ Tab.find ((keyed.startCmd iss).port 0).tcf.keys (7 * 4 + 1) ≠ none ∧
    Tab.find ((rxBurst.startCmd iss).port 0).tcf.keys (7 * 4 + 1) = none := by
  decide

theorem witness_QueuesAndNodesAreSetByCommand :
    let iss : Issue := { fn := 1, sq := 0, tag := 0, port := 0 }
    let bound := rxBurst.setQueue 5 { Queue.blank with valid := true, weight := 1 }
    let full := rxBurst.setQueue 5 { Queue.blank with
      valid := true, weight := 1, sdus := [{ flow := 0, crypt := false, addrs := [0], lp := false, data := [] }] }
    Starts rxBurst iss (queuePort 5) [(5, 0x3FFFF), (0x00010007, 0x0FFF1FFF)] ∧ ownsQueue iss 5 = true ∧ ownsQueue iss 32768 = false ∧
    ((rxBurst.startCmd iss).queue 5).valid = false ∧ onuNode (rxBurst.startCmd iss) 0 (bitsOf 0x00010007 9 0) = some 3 ∧
    onuNode (rxBurst.startCmd iss) 0 8 = none ∧ bitsOf 0x00010007 23 16 ≠ 0 ∧ bitsOf 7 23 16 = 0 ∧
    Starts bound iss (queuePort 5) [(5, 0x3FFFF), (0x00010000, 0x0FFF0000)] ∧ ((bound.startCmd iss).queue 5).valid = true ∧
    Starts full iss (queuePort 5) [(5, 0x8003FFFF)] ∧ ((full.startCmd iss).queue 5).cells ≠ 0 ∧ bitAt 0x80000005 31 = true ∧
    ((bound.startCmd iss).queue 5).cells = 0 ∧ Starts rxBurst iss 0 [(0x10007, 0xFFF3FF), (0xFFFFF, 0xFFFFF), (0, 0xFFFFF)] ∧
    Starts rxBurst iss 0 [(7, 0xF3FF)] ∧ onuNode (rxBurst.startCmd iss) 0 1023 = some 256 := by
  decide

theorem witness_UpstreamSdusAreLookedUpAndSent :
    let u : UpSdu := { alloc := 7, onu := 7, flow := 9, keyed := false, data := [] }
    let ctx : FlowCtx := { FlowCtx.blank with valid := true, enabled := true, onu := 7, dir := 1, pir := 1 }
    let q := (rxBurst.setFlow 9 ctx).modTcf 0 (fun t => { t with upQ := [u] })
    let e := { q with tm := { q.tm with egress := [(1, [{ flow := 9, addrs := [0], lp := false, data := [] }])] } }
    let e := (e.setFld (R.ULK_PORT_STATUS.state 1) 2).setFld (R.ULK_PORT.max_frame 1) 64
    (q.port 0).tcf.upQ = [u] ∧ (rxBurst.port 0).tcf.upQ = [] ∧ q.hubFenced 0 = false ∧
    ((q.modTcf 0 (fun x => { x with upQ := [] })).hotHalf 9 false).2 = some ctx ∧ ctx.port = 0 ∧ ctx.dir % 2 ≠ 0 ∧
    memPoison (q.memRead 0 9) 0 9 &&& hotUsed ctx false = 0 ∧
    memPoison (q.setWordErr 0 9 { single := 0, double := 0, poison := 8 }) 0 9 &&& hotUsed ctx false ≠ 0 ∧ ((q.memRead 0 9).flowCtx 9).valid = true ∧ ((q.memRead 0 10).flowCtx 10).valid = false ∧
    Tab.get (fun _ => []) e.tm.egress 1 = [({ flow := 9, addrs := [0], lp := false, data := [] } : EgressSdu)] ∧ e.hubFenced 0 = false ∧ frameOk (List.replicate 60 0#8 ++ frameCheck (List.replicate 60 0#8)) = true ∧
    frameOk (List.replicate 64 0#8) = false ∧ (e.releaseCells false [0] 0 false).2 = false ∧ (e.releaseCells false [0] 0 true).2 = true ∧
    (e.countRs 1 { corrected := 0, uncorrectable := 0, symbols := [], touched := false }).fld (R.ULK_PORT_STATUS.state 1) = 2 ∧
    e.fld (R.ULK_PORT_STATUS.state 1) = 2 ∧ e.fld (R.ULK_PORT.max_frame 1) = 64 ∧ q.fld (R.ULK_PORT_STATUS.state 1) ≠ 2 ∧
    Tab.get (fun _ => ([] : List EgressSdu)) q.tm.egress 1 = [] ∧ be16 (List.replicate 64 0#8) 12 ≠ 0x8808 ∧
    be16 (List.replicate 64 0x88#8) 12 = 0x8888 ∧ (q.flowCtx 9).pir ≠ 0 ∧ (q.flowCtx 10).valid = false := by
  decide +kernel

theorem witness_FlowCommandsFollowTheirChecks :
    let iss : Issue := { fn := 0, sq := 0, tag := 0, port := 0 }
    let up1 := rxBurst.setFld R.GLB_FLOW_STATUS.valid_flows 0
    let up1 := up1.setFlag (R.ULK_PORT.en 0) true
    let img := leBytes 4 (2 ^ 30 + 2 ^ 25 + 7 * 2 ^ 11) ++ List.replicate 60 0#8
    let ctx : FlowCtx := { FlowCtx.blank.over img with valid := true }
    let made := up1.setFlow 5 { ctx with keyValid := true, outer := 1 }
    let go := fun (s : State) => s.startCmd iss
    waitsInRing up1 iss = false ∧ (go up1).hubFenced 0 = false ∧ Named iss [(5, 0xFFFFF)] ∧
    flowCheck (go up1) 0 5 true (FlowCtx.blank.over img) (imgReservedOk img) = none ∧
    flowCheck (go up1) 0 0xFFFFF true (FlowCtx.blank.over img) true = some 0x14 ∧
    flowCheck (go (up1.setFlow 5 ctx)) 0 5 false (((go (up1.setFlow 5 ctx)).flowCtx 5).over img) (imgReservedOk img) = none ∧
    flowCheck (go up1) 0 5 false (ctx.over img) true = some 0x16 ∧ Named iss [(0x80000005, 0x800FFFFF)] ∧
    flowCheck (go made) 0 5 false (((go made).flowCtx 5).over img) (imgReservedOk img) = none ∧
    ((go made).flowCtx 5).keyValid ≠ (((go made).flowCtx 5).over img).keyValid ∧
    ((go made).flowCtx 5).valid = true ∧ ((go made).flowCtx 5).keyValid = true ∧ bitAt 0x80000005 31 = true ∧ (go made).hubFenced 1 = false ∧
    ((go up1).flowCtx 5).valid = false ∧ Named iss [(5, 0xFFFFF), (1, 0x3FF)] ∧ img.length = 64 * bitsOf 1 9 0 ∧
    ((go up1).bulkLoad 0 0 5 [img] 0).2 = (1, none) ∧ ((go made).bulkLoad 0 0 5 [img] 0).2 = (0, some 0x15) ∧
    (go (up1.setFld R.GLB_STATUS.hub_fenced 1)).hubFenced 0 = true ∧
    (go (up1.setFld R.GLB_STATUS.hub_fenced 2)).hubFenced 1 = true := by
  decide

/-- Alloc-ID 7's ONU in a state of Table 9-2, with the cores running. -/
def onuIn (st : OnuState) : State :=
  (rxBurst.modCtx 0 3 (fun x => { x with st := st, missRun := 60000, absentLeft := 0, driftN := 1024, rngTried := 15, serial := 9 })).setFlag
    R.RST_STATUS.fw_running true
def discEntry1 : MapEntry := { oneEntry with alloc := 1023, ploamu := true }
/-- The port in the frame of a quiet window, with a response of which a response's first codeword has come. -/
def discUp : State :=
  let s := rxBurst.modDba 0 (fun d => { d with maps := [(rx.tick, { BwMap.empty with entries := [discEntry1] })] })
  s.modXtl 0 (fun x => { x with bursts := [{ xb0 with resp := 1 }] })

theorem witness_DiscoveryAndRanging :
    let r := { onuIn .ranging with tick := 1 }
    rxMessage discUp 0 0 rx.tick 1 = some (discEntry1, { xb0 with resp := 1 }) ∧ rxMessage discUp 0 0 rx.tick 2 = none ∧
    isDisc discEntry1 = true ∧ roleRefuses discUp 0 = false ∧ discUp.g50 0 = false ∧ rxHead discUp 0 1 rx.tick = none ∧
    freeSlot discUp 0 = some 0 ∧ freeOnuId discUp 0 = some 0 ∧
    (discUp.port 0).onu.ctx.find? (fun x => x.2.st ≠ .free && x.2.serial == 5) = none ∧
    ((onuIn .ranging).port 0).onu.ctx.find? (fun x => x.2.st ≠ .free && x.2.serial == 9) = some (3, (onuIn .ranging).ctx 0 3) ∧
    ((onuIn .ranging).useCtx 0 3).2 = true ∧ (onuIn .ranging).slotOf 0 7 = some 3 ∧ rxHead (onuIn .ranging) 0 0 rx.tick = some burstEntry ∧
    ((onuIn .ranging).allocOwner 0 7).map Prod.fst = some 3 ∧ activates r 0 = true ∧ (r.ctx 0 3).st = .ranging ∧
    r.gov (R.ONU_TIMERS.rng_tries 0) ≤ (r.ctx 0 3).rngTried ∧ (r.ctx 0 3).rngLast < r.tick ∧ (r.useCtx 0 3).2 = true := by
  decide +kernel

theorem witness_TrainingAbsenceAndDrift :
    let tr := (onuIn .training).modCtx 0 3 (fun x => { x with
      trainSent := true, report := some { converged := false, errMean := 0, used := 0 }, ncRun := 255 })
    let op := onuIn .operation
    ((onuIn .training).useCtx 0 3).2 = true ∧ activates (onuIn .training) 0 = true ∧ (tr.ctx 0 3).st = .training ∧
    (tr.ctx 0 3).trainSent = true ∧ (tr.useCtx 0 3).2 = true ∧ ((onuIn .training).ctx 0 3).report = none ∧
    ((onuIn .training).ctx 0 3).trainUntil ≤ (onuIn .training).tick ∧ (op.ctx 0 3).st = .operation ∧ activates op 0 = true ∧
    op.gov (R.ONU_TIMERS.miss_max 0) ≤ (op.ctx 0 3).missRun ∧ ((onuIn .absent).ctx 0 3).absentLeft = 0 ∧
    2 ^ op.gov (R.ONU_TRACK.drift_avg 0) ≤ (op.ctx 0 3).driftN ∧ op.g50 0 = false ∧ op.fenced 0 = false ∧ ((onuIn .dormant).ctx 0 3).st = .dormant := by
  decide +kernel

theorem witness_ActivationAndAllocationCommands :
    let iss : Issue := { fn := 1, sq := 0, tag := 0, port := 0 }
    let op := onuIn .operation
    let ad := (onuIn .admitted).setFlag (R.PRT_MODE_STATUS.eff_line_mode 0) true
    roleRefuses (op.startCmd iss) 0 = false ∧ (op.startCmd iss).flag R.RST_STATUS.fw_running = true ∧ (op.startCmd iss).fw.actAt = none ∧
    (rxBurst.startCmd iss).flag R.RST_STATUS.fw_running = false ∧ Starts op iss 0 [(7, 0x3FF)] ∧ Starts op iss 0 [(8, 0x800003FF), (0, 0)] ∧
    freeSlot (op.startCmd iss) 0 = some 0 ∧ (op.startCmd iss).slotOf 0 8 = none ∧ (op.startCmd iss).slotOf 0 7 = some 3 ∧
    (((op.startCmd iss).useCtx 0 3).1.ctx 0 3).st = .operation ∧ ((op.startCmd iss).useCtx 0 3).1.g50 0 = false ∧
    (((ad.startCmd iss).useCtx 0 3).1.ctx 0 3).st = .admitted ∧ ((ad.startCmd iss).useCtx 0 3).1.g50 0 = true ∧
    (((ad.startCmd iss).useCtx 0 3).1.ctx 0 3).serial = 9 ∧
    ((op.startCmd iss).port 0).onu.ctx.any (fun e => e.2.st ≠ .free && e.2.serial == 8) = false ∧
    ((op.startCmd iss).port 0).onu.ctx.any (fun e => e.2.st ≠ .free && e.2.serial == 9) = true ∧
    Starts ad iss 0 [(0x80000007, 0x800003FF), (0xFFFFFF, 0xFFFFFF)] ∧ ((ad.startCmd iss).ctx 0 3).serial = 9 ∧
    ((ad.startCmd iss).ctx 0 3).st = .admitted ∧ (ad.startCmd iss).g50 0 = true ∧ ((op.startCmd iss).ctx 0 3).st = .operation ∧
    (op.startCmd iss).g50 0 = false ∧ Starts op iss 0 [(7, 0x3FFF)] ∧
    Starts op iss 0 [(7, 0x3FFFFFFF), (0, 0xFFFFFF), (0x3FFFF, 0x3FFFF), (0, 0x3FFFF), (0, 0x3FFFF)] := by
  decide +kernel

theorem witness_MapsAreCommittedAndTheRakeAdapts :
    let st : Staged := { work := Preset.blank, anchorCm := 0, anchorTaps := identityTaps, poisoned := false }
    let b : RakeBurst := { entry := 0, tick := rx.tick, onu := 7, train := false, staged := some st, gain := 0, metric := 0, takeovers := 0,
                           failed := false, misdirected := false, offset := 0, start := 0, counted := false, judged := false, used := 0, tail := [] }
    let long := rxBurst.modDba 0 (fun d => { d with maps := [(rx.tick, { BwMap.empty with entries := [{ burstEntry with slots := 1000 }] })] })
    let k := (long.modRake 0 (fun k => { k with bursts := [b] })).setFld (R.EQZ_CTRL.rake_en 0) 1
    let k := { k with snap1 := k.regs, snap2 := k.regs, snap3 := k.regs }
    let r := { k with tick := rx.tick + 1 }
    let h : HeldBlock := { entry := 0, tick := rx.tick, onu := 7, index := 0, words := [] }
    let d : Draft := { gov := 0, map := BwMap.empty, windows := BwMap.empty, normal := true, clipped := 0, dropped := 0, owed := [], polls := 0,
                       ploams := 1, ranged := [], trained := [], skipped := false, defer := none, calDue := none, light := some 4 }
    (r.port 0).dba.draft = none ∧ ((r.modDba 0 (fun x => { x with draft := some d })).port 0).dba.draft = some d ∧ d.light = some 4 ∧
    (r.port 0).prot.role ≠ .active ∧ rakeBurst r 0 0 rx.tick = some b ∧ rakeBurst r 0 1 rx.tick = none ∧ r.fenced 0 = false ∧ r.inReset 0 = false ∧
    r.receiving 0 = true ∧ 0 < wholeBlocks r 0 b ∧ (r.port 0).rake.buffer.length < 64 ∧ blockReady r 0 h = none ∧ considered r 0 b 0 = true ∧
    blockReady r 0 { h with entry := 1 } = some true ∧ adaptable r 0 b = true ∧
    (r.port 0).rake.bursts.find? (fun b => (b.onu == 7 && writesBack r 0 b) && decide (b.tick < r.tick)) = some b ∧
    (k.port 0).rake.bursts.find? (fun b => (b.onu == 7 && writesBack k 0 b) && decide (b.tick < k.tick)) = none ∧
    r.slotOf 0 7 = some 3 ∧ r.slotOf 0 8 = none ∧ memPoison (r.memRead 0 (presetWord 0 3 false)) 0 (presetWord 0 3 false) &&& 2 ^ 6 = 0 ∧
    (r.ctx 0 3).work.gen = (Running.start st 0).gen := by
  decide +kernel

theorem witness_PresetCommandsSetTheRecords :
    let iss : Issue := { fn := 1, sq := 0, tag := 0, port := 0 }
    let v := (onuIn .operation).modCtx 0 3 (fun x => { x with work := { x.work with valid := true }, anchor := { x.anchor with valid := true } })
    Starts v iss 0 [(0x30007, 0x303FF)] ∧ (v.startCmd iss).slotOf 0 (bitsOf 0x30007 9 0) = some 3 ∧ bitsOf 0x30007 17 16 = 3 ∧
    bitsOf 0x10007 17 16 = 1 ∧ bitsOf 0x20007 17 16 = 2 ∧ bitsOf 7 17 16 = 0 ∧ recordOk (List.replicate 72 0#8) = true ∧
    recordOk (List.replicate 72 8#8) = false ∧ (v.startCmd iss).slotOf 0 8 = none ∧ Starts v iss 0 [(7, 0x3FF)] ∧
    ((v.startCmd iss).ctx 0 3).work.valid = true ∧ ((v.startCmd iss).ctx 0 3).anchor.valid = true ∧
    (((onuIn .operation).startCmd iss).ctx 0 3).anchor.valid = false ∧ (((onuIn .operation).startCmd iss).ctx 0 3).work.valid = false := by
  decide +kernel

/-- A running converter 0 whose entry 0 answers the markers of port 0. -/
def hkUp : State :=
  ((up.setFlag (R.HKA_CTL.en 0) true).setFld (R.HKA_ENTRY.trigger 0 0) 3).setFld (R.HKA_ENTRY.mport 0 0) 0
def hkRun (k : ConvKind) : State := hkUp.setConv 0 { hkUp.conv 0 with cur := some (entryConv hkUp 0 0 k 0 7 0) }

theorem witness_HousekeepingConversionsFollowTheirTriggers :
    Reaches hkUp 0 (R.HKA_CTL.addr 0) ∧ (hkUp.conv 0).cur = none ∧ hkUp.flag (R.HKA_CTL.en 0) = true ∧ hkUp.flag (R.HKA_STATUS.die_lost 0) = false ∧
    (List.range 32).filter (fun e => hkUp.fld (R.HKA_ENTRY.trigger 0 e) == 3 && hkUp.fld (R.HKA_ENTRY.mport 0 e) == (0 : Port).val % 4) = [0] ∧
    ((hkRun .marker).conv 0).cur = some (entryConv hkUp 0 0 .marker 0 7 0) ∧ ((hkRun .tick).conv 0).cur = some (entryConv hkUp 0 0 .tick 0 7 0) ∧
    ((hkRun .marker).conv 0).markers.length < 4 ∧ (up.conv 2).cur = none ∧ up.flag (R.HKA_CTL.en 0) = false ∧
    sees 0 (R.HKA_DATA.addr 0) = true ∧ accessKind up 0 (R.HKA_DATA.addr 0) false = 0 ∧ bitAt 0xC0000000 30 = true := by
  decide +kernel
/-- Half of full scale, negative full scale, and a limited result. -/
theorem test_hka_codes : hkaResult false false 600000000 = 2048 ∧ hkaResult true true (-600000000) = 0x8000 ∧ hkaResult false true 1200000000 = 0xFFF0 := by
  decide

def bdaUp : State := (up.setFld (R.BDA_CFG.hold 0) 4).setFld (R.BDA_CFG.step_thresh 0) 100
def bdaHold : State := (bdaUp.setFld (R.BDA_STAT.phase 0) 1).setFlag (R.BDA_SAFE.ot_hold 0) true

theorem witness_BiasOutputsFollowTheirCodes :
    let t (s : State) (v : Nat) := ((s.bdaSettle 0 0).setFld (R.BDA_CODE.en 0) (bitsOf v 31 31)).setFld (R.BDA_CODE.code 0) (bitsOf v 15 0)
    let major (t : State) := t.fld (R.BDA_CFG.step_thresh 0) < ((t.fld (R.BDA_CODE.code 0) : Int) - t.fld (R.BDA_STAT.out_code 0)).natAbs
    Reaches bdaUp 0 (R.BDA_CODE.addr 0) ∧ (t bdaUp 0xFFFF).fld (R.BDA_STAT.phase 0) = 0 ∧ major (t bdaUp 0xFFFF) ∧ ¬ major (t bdaUp 100) ∧
    (t bdaUp 0xFFFF).fld (R.BDA_CFG.hold 0) ≠ 0 ∧ (t bdaHold 101).fld (R.BDA_STAT.phase 0) = 1 ∧ major (t bdaHold 101) ∧
    (t ((bdaUp.setFlag (R.BDA_SAFE.ot_hold 0) true).setFld (R.BDA_STAT.phase 0) 3) 5).fld (R.BDA_STAT.phase 0) = 3 ∧
    (t ((bdaUp.setFlag (R.BDA_SAFE.ot_hold 0) true).setFld (R.BDA_STAT.phase 0) 3) 5).flag (R.BDA_SAFE.ot_hold 0) = true ∧ bdaUp.flag (R.BDA_STAT.ot 0) = false ∧
    bdaHold.fld (R.BDA_STAT.phase 0) = 1 ∧ bdaUp.fld (R.BDA_STAT.phase 0) ≠ 1 ∧ bdaSince bdaHold 0 + bdaHold.fld (R.BDA_CFG.hold 0) = 4 ∧
    (bdaUp.setFld (R.BDA_STAT.phase 0) 2).fld (R.BDA_STAT.phase 0) = 2 ∧ Reaches bdaHold 0 (R.BDA_SAFE.addr 0) ∧
    bdaHold.flag (R.BDA_SAFE.ot_hold 0) = true ∧ bdaHold.flag (R.BDA_STAT.ot 0) = false ∧ bdaHold.flag (R.BDA_SAFE.ot_action 0) = false ∧
    (bdaUp.setFlag (R.BDA_SAFE.ot_action 0) true).flag (R.BDA_SAFE.ot_action 0) = true := by
  decide +kernel

theorem witness_ModesFencesAndLinksFollowTheirCommands :
    let w := rx.modMode 0 (fun m => { m with rxWarm := true, txWarm := true, holdLeft := some 0 })
    let r : State := { up with rst := { up.rst with retrain := [0], laneDown := [laneKey 0 0 5, laneKey 0 0 6] } }
    let used := up.setFlag (R.GLB_D2D_LANE_MAP.spare_used 0) true
    Reaches up 0 (R.PRT_MODE_CTL.addr 0) ∧ 4 < bitsOf 0x5000000 26 24 ∧ bitsOf 0x2010000 16 16 ≠ rx.fld (R.PRT_MODE_CTL.req_line_mode 0) ∧
    rx.mode 0 ≠ 0 ∧ up.mode 0 = 0 ∧ Reaches up 1 (R.PRT_FENCE_CTL.addr 0) ∧ bitAt 0x80000000 31 = true ∧ (w.port 0).mode.holdLeft = some 0 ∧
    handsOver w 0 = false ∧ (w.port 0).mode.txWarm = true ∧ (w.port 0).mode.rxWarm = true ∧ (up.port 0).mode.rxWarm = false ∧
    laneKey 0 0 63 ∉ up.rst.laneDown ∧ laneKey 0 0 64 ∉ up.rst.laneDown ∧ up.flag (R.GLB_D2D_LANE_MAP.spare_used 0) = false ∧
    used.flag (R.GLB_D2D_LANE_MAP.spare_used 0) = true ∧ 0 ∈ r.rst.retrain ∧ 0 ∉ up.rst.retrain ∧ shortLanes r 0 0 = [5, 6] ∧ shortLanes up 0 0 = [] := by
  decide +kernel
theorem witness_WarmupEnds :
    let w := rx.modMode 0 (fun m => { m with rxWarm := true, framer := .full })
    let t (w : State) := ((if (w.port 0).cnv.fgRun then w.foreground 0 [] else w).knownAnswerTests 0 []).updateCeiling 0
    ((t w).port 0).mode.rxWarm = true ∧ ((t w).port 0).mode.framer ≠ .none ∧ ((t (w.setFramer 0 .none)).port 0).mode.framer = .none := by
  decide +kernel

theorem witness_MarkersWaitInAQueueOfFour :
    let x := entryConv hkUp 0 0 .marker 0 7 0
    let full := hkUp.setConv 0 { hkUp.conv 0 with cur := some x, markers := [x, x, x, x] }
    ((hkRun .marker).conv ((0 : Port).val / 4)).cur = some x ∧ x.kind = .marker ∧ (hkRun .marker).flag (R.HKA_CTL.en 0) = true ∧
    (hkRun .marker).flag (R.HKA_STATUS.die_lost 0) = false ∧ (hkRun .marker).fld (R.HKA_ENTRY.trigger 0 0) = 3 ∧
    (hkRun .marker).fld (R.HKA_ENTRY.mport 0 0) = (0 : Port).val % 4 ∧ ((hkRun .marker).conv 0).markers.length < 4 ∧
    4 ≤ (full.conv 0).markers.length ∧ full.fld (R.HKA_ENTRY.trigger 0 0) = 3 ∧ (full.conv 0).cur = some x := by
  decide +kernel

/-- Uplink port 0, one lane wide, and Aqand port A, enabled and in one of the states of Table 15-4. -/
def lanesIn (st : Nat) : State :=
  let s := ((up.setFlag (portEnField 0) true).setFld (portStateField 0) st).setFlag (lanePowered 0) true
  let s := ((s.setFlag (portEnField 16) true).setFld (portStateField 16) st).setFlag (R.AQL_PORT_STATUS.partner_quiet 0) true
  { s with lanes := { s.lanes with follow := [17], waking := [18] } }

theorem witness_LanesTrainGoQuietAndLoseLock :
    portSt (lanesIn 1) 0 = 1 ∧ portSt (lanesIn 1) 16 = 1 ∧ portSt (lanesIn 3) 0 = 3 ∧ portSt ((lanesIn 2).bump (lanePortCtr 16 4)) 16 = 2 ∧
    portSt ((lanesIn 3).bump (lanePortCtr 16 4)) 16 ≠ 2 ∧ (lanesIn 2).flag (R.AQL_PORT_STATUS.partner_quiet (0 / 4)) = true ∧
    deskews [3, 0, 1, 2] = true ∧ deskews [0, 0, 1, 2] = false ∧ lanePending (lanesIn 2) 0 = 0 ∧
    (portLanes ((lanesIn 4).setFlag (laneTxQuiet 16) true) 16).any (laneQuiet ((lanesIn 4).setFlag (laneTxQuiet 16) true)) = true ∧
    (portLanes (lanesIn 4) 16).any (laneQuiet (lanesIn 4)) = false ∧ laneOwnPrbs (lanesIn 2) 0 = false ∧ AqLine.reset.pos < 16383 ∧
    16 ∉ (lanesIn 2).lanes.follow ∧ 17 ∈ (lanesIn 2).lanes.follow ∧ 18 ∈ (lanesIn 2).lanes.waking ∧ (lanesIn 2).flag (laneRxQuiet 16) = false ∧
    (lanesIn 2).flag (laneRxReq 17) = false ∧ laneOwner (lanesIn 2) 0 = some 0 ∧ laneOwner (lanesIn 2) 17 = some 16 ∧
    laneOwner (lanesIn 2) 1 = none ∧ (lanesIn 2).flag (laneRxQuiet 0) = false ∧ Reaches up 0 (laneInjAddr 0) ∧ Reaches up 0 (laneInjAddr 23) ∧
    bitsOf 0x80000001 7 0 ≠ 0 ∧ laneSends ((lanesIn 2).setFld (laneBurst 0) 1) 0 = true ∧ laneSends (up.setFld (laneBurst 0) 1) 0 = false ∧
    ((lanesIn 2).setFlag (laneChk 23) true).flag (laneChk 23) = true ∧ ((lanesIn 2).setFlag (laneRxQuiet 0) true).flag (laneRxQuiet 0) = true := by
  decide +kernel

/-- Port 0 in a role of Table 16-1, with the pair formed and port A up. -/
def inRole (r : Role) : State :=
  let s := (((rx.modProt 0 (fun q => { q with role := r })).setFlag R.AQL_PAIR_STATUS.paired true).setFld (R.AQL_PORT_STATUS.state 0) 2).setFlag
    R.RST_STATUS.fw_running true
  { s with pair := { s.pair with hbRun := 3, hbTick := s.tick + 1 } }

theorem witness_PairMessagesMoveTheMirror :
    let un := (inRole .standby).setFlag R.AQL_PAIR_STATUS.paired false
    let mis (n : Nat) : State := ({ up with pair := { up.pair with hbRun := 0 } } : State).setFld R.AQL_PAIR_STATUS.hb_missed n
    (inRole .standby).paired = true ∧ un.paired = false ∧ un.pair.hbRun = 3 ∧ un.fld (R.AQL_PORT_STATUS.state 0) = 2 ∧ up.paired = false ∧
    ((mis 2).bump 0x2782).fld R.AQL_PAIR_STATUS.hb_missed = 2 ∧ (up.bump 0x2782).fld R.AQL_PAIR_STATUS.hb_missed = 0 ∧
    (((mis 2).bump 0x2782).setFld R.AQL_PAIR_STATUS.hb_missed 3).fld R.AQL_PAIR_STATUS.hb_missed = 3 ∧
    ((inRole .standby).port 0).prot.role = .standby ∧ ((inRole .sync).port 0).prot.role = .sync ∧ ((inRole .active).port 0).prot.role = .active ∧
    ((inRole .standby).fc + 4 + 2 ^ 51 - (inRole .standby).fc % 2 ^ 51) % 2 ^ 51 = 4 ∧ ((inRole .standby).port 0).prot.pendDelta = none ∧
    ((inRole .standby).port 0).prot.deltaSeen = false ∧ (inRole .standby).pair.hbTick = (inRole .standby).tick + 1 ∧
    1 = (((inRole .standby).port 0).prot.applied + 1) % 2 ^ 32 ∧
    seqAhead ((inRole .active).port 0).prot.sent ((inRole .active).port 0).prot.acked < seqAhead ((inRole .active).port 0).prot.sent 1 ∧
    (((inRole .sync).modProt 0 (fun q => { q with bulkOpen := true })).port 0).prot.bulkOpen = true := by
  decide +kernel

theorem witness_HandoversTakeoversAndPairCommands :
    let iss : Issue := { fn := 1, sq := 0, tag := 0, port := 0 }
    let ho (h : Nat) (r : Role) := (inRole r).modProt 0 (fun q => { q with handover := some (h, 3, none) })
    let dark := (inRole .blind).setFld (R.PRT_PROT_STATUS.dark_run 0) 3
    let lit := { inRole .blind with snap0 := ((inRole .blind).setFld (R.PRT_PROT_CTL.dark_frames 0) 3).regs }
    ((ho 0 .active).port 0).prot.handover = some (0, 3, none) ∧ 0 ≤ (ho 0 .active).tick ∧ (ho 2 .standby).tick < 2 ∧
    ((inRole .active).port 0).prot.handover = none ∧ (inRole .active).paired = true ∧ dark.receiving 0 = true ∧
    dark.cap (R.PRT_PROT_CTL.dark_frames 0) ≤ dark.fld (R.PRT_PROT_STATUS.dark_run 0) ∧ lit.fld (R.PRT_PROT_STATUS.dark_run 0) = 0 ∧
    Starts (inRole .active) iss 0 [(0, 7)] ∧ ((inRole .active).startCmd iss).flag R.RST_STATUS.fw_running = true ∧
    ((inRole .active).startCmd iss).fw.actAt = none ∧ (((inRole .active).startCmd iss).port 0).prot.switchReq = none ∧
    (((ho 2 .standby).startCmd iss).port 0).prot.handover ≠ none ∧ (up.startCmd iss).flag R.RST_STATUS.fw_running = false ∧
    HubStarts (inRole .active) { iss with fn := 0 } [] ∧ waitsInRing (inRole .active) iss = false ∧
    (List.replicate 32 (0#8)).length = 32 := by
  decide +kernel

def ppsUp : State := up.setFlag R.TOD_CTRL.pps_en true
def chainUp : State :=
  let s := (up.setFld (R.AQL_PORT_STATUS.state 0) 2).setFlag R.TOD_STATUS.follower true
  { s with pair := { s.pair with todBest := some (0, { sec := 0, ns := 0, fc := 9, hops := 3 }), todMiss := 8 } }

theorem witness_TheFrameTickAndTheTimeOfDay :
    let noFirst : State := { ppsUp with tod := { ppsUp.tod with first := false, armed := true, alignDue := true } }
    let al := (ppsUp.setFlag R.TOD_STATUS.aligned true).setFld R.TOD_CTRL.pps_tol 100
    let tracked : State := { al with tod := { al.tod with first := true } }
    let t (s : State) : State := (({ s with tod := { s.tod with first := false } } : State).setFlag R.TOD_STATUS.pps_lost false).level 0x1010 false 0
    up.flag R.GLB_STATUS.pkg_fenced = false ∧ (up.setFlag R.GLB_STATUS.pkg_fenced true).flag R.GLB_STATUS.pkg_fenced = true ∧
    up.cap R.AQL_PAIR_CTL.tod_src ≠ 1 ∧ up.pair.todBest = none ∧
    chainUp.pair.todBest = some (0, { sec := 0, ns := 0, fc := 9, hops := 3 }) ∧ chainUp.chainTick.2 = some { sec := 0, ns := 0, fc := 9, hops := 3 } ∧
    up.chainTick.2 = none ∧ up.chainTick.1.tod.fcDue = false ∧ usesChain chainUp = true ∧ 8 ≤ chainUp.pair.todMiss ∧
    chainUp.flag R.AQL_PAIR_STATUS.holdover = false ∧ usesPps up = false ∧ usesPps ppsUp = true ∧ noFirst.tod.first = false ∧
    (t noFirst).tod.armed = true ∧ (t noFirst).tod.alignDue = true ∧ (t tracked).tod.armed = false ∧ (t tracked).tod.alignDue = false ∧
    (t tracked).flag R.TOD_STATUS.aligned = true ∧ (t tracked).fld R.TOD_CTRL.pps_tol = 100 ∧
    ((t tracked).setFld R.TOD_STATUS.pps_err 200).fld R.TOD_CTRL.pps_tol = 100 ∧ (t ppsUp).flag R.TOD_STATUS.aligned = false ∧
    Reaches up 0 R.TOD_CTRL.addr ∧ Reaches up 0 R.TOD_FC_SET_1.addr ∧ allOff up = true ∧ usesChain ppsUp = false ∧ usesChain up = true ∧
    bitsOf 0xA0000001 15 0 ≠ 0 ∧ bitAt 0xA0000001 29 = true ∧ bitAt 0x80000001 31 = true ∧ bitAt 1 31 = false := by
  decide +kernel

def inWarm : State := rx.modReset 0 (fun r => { r with active := some false, doneAt := 0 })

theorem witness_RegionResetsRunFromTheirRequests :
    let hub := (up.setFld R.RST_HUB_STATUS.hub_in_reset 7).setFld R.RST_HUB_STATUS.die_in_reset 1
    Reaches up 0 R.RST_PORT_RESET.addr ∧ Reaches up 1 (R.PRT_REGION_RESET.addr 0) ∧ (inWarm.port 0).resetReq.active = some false ∧
    inWarm.tick ≥ (inWarm.port 0).resetReq.doneAt ∧ (up.port 0).resetReq.active = none ∧
    (List.range 16).filter (fun c => bitAt (inWarm.fld (R.PRT_FENCE_STATUS.cause_mask 0)) c) = [] ∧
    bitAt ((inWarm.setFld (R.PRT_FENCE_STATUS.cause_mask 0) (2 ^ 9)).fld (R.PRT_FENCE_STATUS.cause_mask 0)) 9 = true ∧
    Reaches up 0 R.RST_HUB_RESET.addr ∧ bitsOf 0x800001C3 7 0 = 0xC3 ∧ bitAt 0x800001C3 31 = true ∧ bitsOf 0x800001C3 10 8 = 1 ∧
    bitsOf 0x800007C3 10 8 = 7 ∧ 3 &&& hub.fld R.RST_HUB_STATUS.hub_in_reset = 3 ∧ Reaches up 0 R.RST_DIE_RESET.addr ∧
    bitAt 0x800003C3 8 = true ∧ bitAt 0x800003C3 9 = true ∧ bitAt (hub.fld R.RST_HUB_STATUS.die_in_reset) 0 = true ∧
    bitAt (hub.fld R.RST_HUB_STATUS.die_in_reset) 1 = false ∧ Reaches up 0 R.RST_DELTA_CLR.addr ∧ bitsOf 0x80000096 7 0 = 0x96 := by
  decide +kernel

def stageIs (n : Nat) : State := State.reset.setFld R.RST_STATUS.stage n

theorem witness_StartUpRunsItsStages :
    (stageIs 2).fld R.RST_STATUS.stage = 2 ∧ (stageIs 4).rst.resetLow = false ∧ (stageIs 4).flag R.RST_STATUS.shutdown_hold = false ∧
    (stageIs 4).fld R.RST_STATUS.fail_code = 0 ∧ ((stageIs 3).setFlag R.RST_STATUS.ref_missing true).flag R.RST_STATUS.ref_missing = true ∧
    (stageIs 5).flag R.GLB_STATUS.pkg_fenced = false ∧ (stageIs 3).flag R.RST_STATUS.ref_missing = false ∧ up.ready = true ∧
    State.reset.ready = false ∧ up.flag R.RST_STATUS.fw_running = false ∧ 6 ≤ up.fld R.RST_STATUS.stage ∧
    (State.boot (bootOrder up.fw) up).2 = false := by
  decide +kernel

/-- A device in a phase of Table 19-3 whose timers have run out. -/
def thmIn (phase : Nat) (hot : Bool) : State :=
  let s := (up.setFld R.THM_STATUS.phase phase).setFlag R.THM_STATUS.throttle hot
  { s with thm := { s.thm with stepDue := some 0, avsPrev := [(1, 745)] } }

theorem witness_ThermalMeasurementsEnforceAndShutDown :
    let obs : ThermObs := { sensors := [(false, 400)], fallbacks := [], margins := [], pllLimit := [] }
    let t := ((up.bump 0x2A00).readSensors obs).thresholds
    (measureDue up = true ∧ measureDue { up.setFlag R.THM_STATUS.fast false with fc := 1 } = false ∧
    t.flag R.GLB_STATUS.pkg_fenced = false ∧ t.thm.shutdown = false ∧
    ((up.setFlag R.GLB_STATUS.pkg_fenced true).flag R.GLB_STATUS.pkg_fenced = true) ∧ (t.monitors []).flag R.THM_CTRL.compat_en = false ∧
    8 * (up.fld (R.THM_THR.theta 2) : Int) - 8 * (up.fld (R.THM_THR.hyst 2) : Int) > signedOf 12 (up.fld R.THM_STATUS.tmax) ∧
    (thmIn 0 true).flag R.THM_STATUS.throttle = true ∧ (thmIn 1 false).flag R.THM_STATUS.throttle = false) ∧
    (thmIn 4 false).fld R.THM_STATUS.phase = 4 ∧ (thmIn 2 true).flag R.GLB_STATUS.pkg_fenced = false ∧ (thmIn 1 true).thm.graceEnd ≤ (thmIn 1 true).tick ∧
    (thmIn 2 true).thm.stepDue = some 0 ∧ (thmIn 3 false).thm.holdEnd ≤ (thmIn 3 false).tick ∧
    ((thmIn 2 true).setFlag R.THM_CTRL.compat_en true).thm.compatDue ≤ (thmIn 2 true).tick ∧ up.ready = true ∧ State.reset.ready = false ∧
    railOutside up 3 (up.fld R.THM_VMON_CTL.fault_pct) 700 = true ∧ railOutside up 3 (up.fld R.THM_VMON_CTL.fault_pct) 900 = false ∧
    railOutside State.reset 3 (railNominal State.reset 3).2 700 = true ∧ railOutside State.reset 3 (railNominal State.reset 3).2 900 = false ∧
    railOutside up 3 (up.fld R.THM_VMON_CTL.warn_pct) 700 = true ∧ railOutside up 3 (up.fld R.THM_VMON_CTL.warn_pct) 900 = false ∧
    (thmIn 2 true).fld R.THM_STATUS.phase = 2 ∧
    up.thm.stepDue = none ∧ Tab.get (fun _ => 0) (thmIn 0 false).thm.avsPrev 1 = 745 ∧ Tab.get (fun _ => 0) up.thm.avsPrev 1 = 0 ∧
    Reaches up 0 R.THM_SD_CLR.addr ∧ bitsOf 0x8000005A 7 0 = 0x5A ∧ bitAt 0x8000005A 31 = true := by
  decide +kernel

/-- A bundle header that Table 21-3's first row accepts: two sections of 4,096 bytes at 8,192 and 12,288. -/
def header : List Byte :=
  [0x48, 0x4C, 0x46, 0x48, 1, 0, 0, 0] ++ List.replicate 14 0 ++ [1, 0] ++ List.replicate 4 0 ++ leBytes 4 16384 ++ leBytes 4 8192 ++ leBytes 4 4096
    ++ leBytes 4 12288 ++ leBytes 4 4096 ++ List.replicate 8144 0
theorem test_header : header.length = 8192 ∧ headerOk header = true := by decide +kernel
/-- A session of the host in a state of Table 21-4, with a pair that runs. -/
def fwIn (st : Nat) : State :=
  let s := ((up.setFld R.FWU_STATUS.state st).setFld R.FWU_STATUS.source 1).setFlag R.FWU_STATUS.confirm_pending (st = 0)
  { s with fw := { s.fw with run := some { slot := 0, seq := 1, image := [] }, prev := some { slot := 1, seq := 0, image := [] }, totalLen := 4 } }

theorem witness_FirmwareCommandsRunTheSession :
    let iss : Issue := { fn := 0, sq := 0, tag := 0, port := 0 }
    let win (t : Nat) : State := { fwIn 4 with tick := t, fw := { (fwIn 4).fw with actAt := some 0 } }
    let cf := (fwIn 0).setFld R.FWU_CTL.confirm_frames 1
    let ran : State := { cf with tick := 9 }
    HubStarts up iss [] ∧ HubStarts (fwIn 1) iss [] ∧ HubStarts (fwIn 0) iss [] ∧ waitsInRing up { iss with fn := 1 } = false ∧
    up.hubFenced 1 = false ∧ (up.startCmd iss).hubFenced 1 = false ∧ conflicts (up.startCmd iss) (hdrVersion header) (bundleDigest []) = false ∧
    alreadyRuns (up.startCmd iss) (bundleDigest []) = false ∧ ((fwIn 1).startCmd iss).session = 1 ∧ (up.setFld R.GLB_STATUS.hub_fenced 2).hubFenced 1 = true ∧ up.fw.run = none ∧ up.session = 0 ∧
    (up.setFlag R.FWU_STATUS.confirm_pending true).flag R.FWU_STATUS.confirm_pending = true ∧ up.flag R.FWU_STATUS.confirm_pending = false ∧
    (fwIn 1).session = 1 ∧ (fwIn 1).fld R.FWU_STATUS.source = 1 ∧ (fwIn 1).fw.ending = none ∧ 0 % 2 ^ 32 = (fwIn 1).fw.staged.length ∧
    (fwIn 1).fw.totalLen < (fwIn 1).fw.staged.length + 5 ∧ (fwIn 1).fw.staged.length ≠ (fwIn 1).fw.totalLen ∧ (fwIn 3).session = 3 ∧
    (fwIn 2).session = 2 ∧ verifyCode 0 (fwIn 2).fw.staged false = some 0x2D ∧
    (((fwIn 2).setFld R.FWU_STATUS.state 3).succeedCmd 0).forward.fld R.FWU_STATUS.source = 1 ∧ (fwIn 1).fw.cmd = none ∧
    (fwIn 0).flag R.FWU_STATUS.confirm_pending = true ∧ (fwIn 0).fw.restore = none ∧ (fwIn 0).fw.prev ≠ none ∧ (win 0).fw.actAt = some 0 ∧
    (win 1).tick < 16 ∧ (win 16).flag R.FWU_CORE.ready = false ∧ (fwIn 5).session = 5 ∧ (fwIn 5).fw.run ≠ none ∧
    cf.fld R.FWU_CTL.confirm_frames ≠ 0 ∧ ran.fw.runFrom + ran.fld R.FWU_CTL.confirm_frames ≤ ran.tick := by
  decide +kernel

def chainIn : State :=
  let s := ((up.setFld R.FWU_STATUS.state 1).setFld R.FWU_STATUS.source 2).setFlag R.FWU_CTL.chain_en true
  { s with fw := { s.fw with totalLen := 4, completed := true, fwd := [(0, { image := [], ofSession := false, accepted := true })] } }

theorem witness_TheChainOffersAndForwardsBundles :
    let idle := chainIn.setFld R.FWU_STATUS.state 0
    let offered := { chainIn with fw := { chainIn.fw with completed := true } }.setFlag (R.FWU_OFFER_1.valid 1) true
    let t := chainIn.stage [1, 2, 3, 4]
    (up.setFlag R.FWU_CTL.chain_en false).flag R.FWU_CTL.chain_en = false ∧ chainIn.flag R.FWU_CTL.chain_en = true ∧ chainIn.hubFenced 1 = false ∧
    chainIn.fw.run = none ∧ conflicts chainIn 5 9 = false ∧ alreadyRuns chainIn 9 = false ∧ conflicts chainIn 0 9 = true ∧
    running chainIn = none ∧ chainIn.session = 1 ∧ idle.session = 0 ∧
    idle.flag R.FWU_STATUS.confirm_pending = false ∧ idle.fld R.FWU_STATUS.floor ≤ 0 ∧
    (idle.setFld R.FWU_STATUS.floor 3).fld R.FWU_STATUS.floor = 3 ∧ chainIn.fld R.FWU_STATUS.source = 0 + 2 ∧
    0 = chainIn.fw.staged.length ∧ chainIn.fw.staged.length + 4 ≤ chainIn.fw.totalLen ∧ t.fw.staged.length = t.fw.totalLen ∧
    (chainIn.stage [1]).fw.staged.length ≠ (chainIn.stage [1]).fw.totalLen ∧ Tab.find chainIn.fw.fwd 1 = none ∧
    Tab.find chainIn.fw.fwd 0 = some { image := [], ofSession := false, accepted := true } ∧ chainIn.fw.completed = true ∧ up.fw.completed = false ∧
    offered.flag (R.FWU_OFFER_1.valid 1) = true ∧ offered.flag (R.FWU_OFFER_1.valid 2) = false ∧ offered.flag (R.FWU_OFFER_1.valid 0) = false ∧
    running offered = none := by
  decide +kernel
/-- A bundle runs. -/
theorem witness_ABundleRuns : ∃ x, running (fwIn 1) = some x ∧ 0 ≤ x.1 := ⟨_, rfl, Nat.zero_le _⟩
/-- The digest named by a reply is that of the bundle on the side: met by the digest itself. -/
theorem witness_TheDigestNamed : ∃ f, Tab.find chainIn.fw.fwd 0 = some f ∧ bundleDigest f.image = bundleDigest [] := ⟨_, rfl, rfl⟩

theorem witness_RegisterAccessesTakeTheirFields :
    let held : State := { up with path := { up.path with held := some (R.RST_PORT_RESET.addr, 5) } }
    let seen := up.setShadow R.RST_STATUS.addr (some (R.RST_STATUS.addr, 1))
    sees 0 R.GLB_SCRATCH.addr = true ∧ sees 8 R.GLB_SCRATCH.addr = false ∧ R.GLB_SCRATCH.addr % 4 = 0 ∧ Reaches up 0 R.GLB_SCRATCH.addr ∧
    (regAt R.GLB_SCRATCH.addr).isSome = true ∧ ringOwner R.GLB_SCRATCH.addr = none ∧ portAt R.GLB_SCRATCH.addr = none ∧
    addrBlock R.GLB_SCRATCH.addr ≠ 4 ∧ (up.hubWrite 0 R.GLB_SCRATCH.addr 7 0).isNone = true ∧
    hubOk up (up.setReg R.GLB_SCRATCH.addr 7) R.GLB_SCRATCH.addr = true ∧
    hubOk up (up.setReg R.GLB_PROFILE.addr (writtenWord up R.GLB_PROFILE.addr 0xFFFFFFFF)) R.GLB_PROFILE.addr = false ∧
    portAt (R.SLU_WINDOW.addr 0) = some 0 ∧ (up.portWrite 0 0 (R.SLU_WINDOW.addr 0) 7).isNone = true ∧ ringOwner (R.SLU_WINDOW.addr 0) = none ∧
    portOk up (up.setReg (R.SLU_WINDOW.addr 0) 7) 0 (R.SLU_WINDOW.addr 0) 7 = false ∧
    portOk up (up.setReg (R.SLU_WINDOW.addr 0) 8) 0 (R.SLU_WINDOW.addr 0) 8 = true ∧
    (setOf R.TOD_FC_0.addr).isSome = true ∧ setOf R.GLB_SCRATCH.addr = none ∧ accessKind up 0 R.TOD_FC_0.addr false = 0 ∧
    sidebandKind up R.RST_STATUS.addr false = 0 ∧ sidebandKind up (R.RST_STATUS.addr + 1) false = 1 ∧ sidebandKind up R.TOD_CTRL.addr true = 4 ∧
    seen.shadowOf R.RST_STATUS.addr = some (R.RST_STATUS.addr, 1) ∧ up.shadowOf R.RST_STATUS.addr = none ∧
    sidebandKind up R.RST_PORT_RESET.addr true = 0 ∧ sidebandKind up (R.RST_PORT_RESET.addr + 2) true = 0 ∧ held.path.held ≠ none ∧
    Reaches up 0 (R.TXP_CTRL.addr 0) := by
  decide +kernel


/-! ### Well-formedness: a term that fits, and one that fails each check -/

theorem test_wellFormed : (Instr.registerWrite 0 0x20 4 0xF 7 0).wellFormed = true ∧ (Instr.sqDoorbell 8 0 1).wellFormed = true := by decide
theorem test_illFormed_function : (Instr.ringCreate 9).wellFormed = false := by decide
theorem test_illFormed_source : (Instr.thmSdClr 9 0).wellFormed = false := by decide
theorem test_illFormed_word : (Instr.thmSdClr 0 (2 ^ 32)).wellFormed = false := by decide
theorem test_illFormed_us : (Instr.bdaHoldExpired 0 125).wellFormed = false := by decide
theorem test_illFormed_side : (Instr.quietAnnounceRx 2).wellFormed = false := by decide
theorem test_illFormed_die : (Instr.lineDieLost 2).wellFormed = false := by decide
theorem test_illFormed_lane : (Instr.laneLockLoss 24 0).wellFormed = false := by decide
theorem test_illFormed_port : (Instr.trainingRetry 18).wellFormed = false := by decide
theorem test_illFormed_converter : (Instr.hkaDataRead 0 3).wellFormed = false := by decide
theorem test_illFormed_output : (Instr.bdaHoldExpired 32 0).wellFormed = false := by decide
theorem test_illFormed_queue : (Instr.eqModerationTimer 64).wellFormed = false := by decide
theorem test_illFormed_event : (Instr.sourceDeassert 8192).wellFormed = false := by decide
theorem test_illFormed_address : (Instr.sidebandReadHalf (2 ^ 26)).wellFormed = false := by decide
theorem test_illFormed_onu : (Instr.rakeWriteback 0 1024).wellFormed = false := by decide
theorem test_illFormed_flow : (Instr.meterRefresh (2 ^ 20) 0).wellFormed = false := by decide
theorem test_illFormed_issue : (Instr.fwVerify { fn := 0, sq := 0, tag := 2 ^ 16, port := 0 }).wellFormed = false := by decide
theorem test_illFormed_codes : (Instr.falseLock 0 ⟨.a, [128], false⟩).wellFormed = false := by decide
theorem test_illFormed_rail : (Instr.voltageWarning ⟨10, 0⟩).wellFormed = false := by decide
theorem test_illFormed_core : (Instr.railFault 0 ⟨3, List.replicate 8 0⟩).wellFormed = false := by decide
theorem test_illFormed_run : (Instr.railFault 0 ⟨0, []⟩).wellFormed = false := by decide
theorem test_illFormed_cycle : (Instr.unitSwapAtBoundary 0 .engine ⟨0, 194400⟩).wellFormed = false := by decide
theorem test_illFormed_set : (Instr.harvestDumpDone 32).wellFormed = false := by decide
theorem test_illFormed_avsRail : (Instr.avsWriteFailed 3).wellFormed = false := by decide
theorem test_illFormed_slot : (Instr.rangingFailed 0 256).wellFormed = false := by decide
theorem test_illFormed_d2dLane : (Instr.d2dLaneFail 0 0 65).wellFormed = false := by decide

/-! ### The worked example of chapter 6 (R153 to R155): one information bit of 1 in state 0, kept bits 1, 1, 1, 0, 0, 1, 0, 0 -/

theorem test_convSymbols_worked : Machine.convSymbols 0 ([true] ++ List.replicate 14 false) = [1, 3, -1, -3, -3, -3, -3, -3] := by decide

end Sys2Proof.Tests
end

section
/-!
Bits of numbers: what is read after one of them has been cleared.
-/
namespace Sys2Proof.Machine

theorem bitAt_eq_testBit (x i : Nat) : bitAt x i = x.testBit i := by
  rw [Nat.testBit_eq_decide_div_mod_eq]
  rfl

/-- Taking a set bit's weight away clears that bit alone. -/
theorem testBit_sub_two_pow {x i : Nat} (h : x.testBit i = true) (j : Nat) :
    (x - 2 ^ i).testBit j = (x.testBit j && decide (j ≠ i)) := by
  obtain ⟨y, rfl⟩ := Nat.exists_eq_add_of_le (Nat.ge_two_pow_of_testBit h)
  have hy : y / 2 ^ i % 2 = 0 := by
    rw [Nat.testBit_two_pow_add_eq, Nat.testBit_eq_decide_div_mod_eq] at h
    simp only [Bool.not_eq_true', decide_eq_false_iff_not] at h
    omega
  rw [Nat.add_sub_cancel_left]
  rcases Nat.lt_trichotomy j i with hj | rfl | hj
  · simp [Nat.testBit_two_pow_add_gt hj, Nat.ne_of_lt hj]
  · simp [Nat.testBit_eq_decide_div_mod_eq, hy]
  · have hup : (2 ^ i + y) / 2 ^ (i + 1) = y / 2 ^ (i + 1) := by
      rw [Nat.pow_succ, ← Nat.div_div_eq_div_mul, ← Nat.div_div_eq_div_mul, Nat.add_div_left _ (Nat.two_pow_pos i)]
      omega
    obtain ⟨k, rfl⟩ := Nat.exists_eq_add_of_le' (Nat.succ_le_of_lt hj)
    rw [← Nat.testBit_div_two_pow, ← Nat.testBit_div_two_pow, hup]
    simp [show k + i.succ ≠ i by omega]

theorem bitAt_withBit_false (x i j : Nat) : bitAt (withBit x i false) j = (bitAt x j && decide (j ≠ i)) := by
  unfold withBit
  by_cases h : bitAt x i = true
  · simpa [h, bitAt_eq_testBit] using testBit_sub_two_pow (bitAt_eq_testBit x i ▸ h) j
  · by_cases e : j = i
    · simp [e, h]
    · simp [e, h]

/-- The low bits of a number are its own bits. -/
theorem bitAt_bitsOf_zero {x hi i : Nat} (h : i ≤ hi) : bitAt (bitsOf x hi 0) i = bitAt x i := by
  simp [bitsOf, bitAt_eq_testBit, Nat.testBit_mod_two_pow, Nat.lt_succ_of_le h]

end Sys2Proof.Machine
end

section
/-!
Sub-ADC faults (R12, R79 to R81): which criteria count, what a failing unit does by its state, and which spare takes its phase.
-/
namespace Sys2Proof.Machine

section
variable {s : State} {p : Port} {u criteria src v phase a : Nat}

/-! ### The criteria that count -/

/-- The criteria of estimators that are off go, one after another; the others stay. -/
theorem bitAt_foldl_clear (en : Nat → Bool) (l : List Nat) (m r : Nat) :
    bitAt (l.foldl (fun m e => if en e then m else withBit m e false) m) r = (bitAt m r && (en r || decide (r ∉ l))) := by
  induction l generalizing m with
  | nil => simp
  | cons e l ih =>
    rw [List.foldl_cons, ih]
    by_cases hr : r = e
    · subst hr
      cases en r <;> simp [bitAt_withBit_false]
    · cases en e <;> simp [hr, bitAt_withBit_false]

theorem bitAt_criteriaNow {r : Nat} (hr : r < 8) :
    bitAt (criteriaNow s p criteria) r = (bitAt criteria r &&
      (if r < 4 then bitAt (s.fld (R.CNV_CTRL.bg_en p)) r else if r = 6 then s.flag (R.CNV_CTRL.stage_cal_en p) else true)) := by
  have hstage : bitAt (if s.flag (R.CNV_CTRL.stage_cal_en p) then bitsOf criteria 7 0 else withBit (bitsOf criteria 7 0) 6 false) r
      = (bitAt criteria r && (s.flag (R.CNV_CTRL.stage_cal_en p) || decide (r ≠ 6))) := by
    split <;> rename_i h <;> simp [h, bitAt_withBit_false, bitAt_bitsOf_zero (show r ≤ 7 by omega)]
  unfold criteriaNow
  dsimp only
  rw [bitAt_foldl_clear, hstage]
  by_cases h4 : r < 4
  · simp [h4, show r ≠ 6 by omega]
  · by_cases h6 : r = 6
    · simp [h6]
    · simp [h4, h6]

/-! ### Spares -/

/-- The lowest unit of a state heads the units in it. -/
theorem cnvUnits_of_lowest {x : Nat} (ha : a < 36) (h : cnvUnit s p a = x) (hlow : ∀ b, b < a → cnvUnit s p b ≠ x) :
    ∃ l, cnvUnits s p (· == x) = a :: l := by
  rw [← List.head?_eq_some_iff, cnvUnits, List.head?_filter, List.find?_range_eq_some]
  exact ⟨by simp [h], by simpa using ha, fun b hb => by simpa using hlow b hb⟩

theorem cnvUnits_eq_nil {x : Nat} : cnvUnits s p (· == x) = [] ↔ ∀ b, b < 36 → cnvUnit s p b ≠ x := by
  simp [cnvUnits, List.filter_eq_nil_iff]

theorem startSpare_of_lowest (ha : a < 36) (h : cnvUnit s p a = 1) (hlow : ∀ b, b < a → cnvUnit s p b ≠ 1) :
    s.startSpare p phase = (s.takeSpare p phase a).pulseP p 0x20 0 := by
  obtain ⟨l, hl⟩ := cnvUnits_of_lowest ha h hlow
  simp [State.startSpare, hl]

theorem startSpare_of_none (h : ∀ b, b < 36 → cnvUnit s p b ≠ 1) :
    s.startSpare p phase = (s.setFlag (R.CNV_STATUS.degraded p) true).pulseP p 0x23 0 := by
  simp [State.startSpare, cnvUnits_eq_nil.mpr h]

/-! ### A failing active unit -/

/-- A failing unit of this frame: in state 6 it waits for a spare. -/
def State.awaitSpare (s : State) (p : Port) (u : Nat) : State :=
  (s.setFld (R.CNV_UNIT.state p u) 6).modCnv p (fun c => { c with faultsNow := c.faultsNow.filter (· ≠ u) ++ [u] })

theorem serveFault_eq : s.serveFault p u =
    if cnvRuns (s.awaitSpare p u) p then
      let t := (untrimmed (s.awaitSpare p u) p).foldl (fun t a => t.setFld (R.CNV_UNIT.state p a) 1) (s.awaitSpare p u)
      t.assignSpares p u (failedNow t p) (cnvUnits t p (· == 1))
    else if cnvUnits (s.awaitSpare p u) p (· == 1) = [] then (s.awaitSpare p u).noSpare p u
    else s.awaitSpare p u := rfl

/-- The one unit of the frame that waits for a spare, with no spare taken before it to be given back. -/
theorem serveFault_of_alone (h : cnvRuns (s.awaitSpare p u) p = true) (hf : failedNow (s.awaitSpare p u) p = [u])
    (ht : untrimmed (s.awaitSpare p u) p = []) :
    s.serveFault p u = (s.awaitSpare p u).assignSpares p u [u] (cnvUnits (s.awaitSpare p u) p (· == 1)) := by
  rw [serveFault_eq, if_pos h, ht]
  simp only [List.foldl_nil, hf]

/-- While calibration is halted a unit waits for a spare that is free. -/
theorem serveFault_waits (h : cnvRuns (s.awaitSpare p u) p = false) (ha : ∃ a, a < 36 ∧ cnvUnit (s.awaitSpare p u) p a = 1) :
    s.serveFault p u = s.awaitSpare p u := by
  obtain ⟨a, ha, h1⟩ := ha
  rw [serveFault_eq, if_neg (by simp [h]), if_neg (fun e => cnvUnits_eq_nil.mp e a ha h1)]

theorem serveFault_noSpare_of_halted (h : cnvRuns (s.awaitSpare p u) p = false)
    (hn : ∀ a, a < 36 → cnvUnit (s.awaitSpare p u) p a ≠ 1) : s.serveFault p u = (s.awaitSpare p u).noSpare p u := by
  rw [serveFault_eq, if_neg (by simp [h]), if_pos (cnvUnits_eq_nil.mpr hn)]

theorem serveFault_takes_lowest (h : cnvRuns (s.awaitSpare p u) p = true) (hf : failedNow (s.awaitSpare p u) p = [u])
    (ht : untrimmed (s.awaitSpare p u) p = []) (ha : a < 36) (h1 : cnvUnit (s.awaitSpare p u) p a = 1)
    (hlow : ∀ b, b < a → cnvUnit (s.awaitSpare p u) p b ≠ 1) :
    s.serveFault p u
      = ((s.awaitSpare p u).takeSpare p ((s.awaitSpare p u).fld (R.CNV_UNIT.phase p u)) a).pulseP p 0x20 0 := by
  obtain ⟨l, hl⟩ := cnvUnits_of_lowest ha h1 hlow
  simp [serveFault_of_alone h hf ht, hl, State.assignSpares]

theorem serveFault_noSpare_of_alone (h : cnvRuns (s.awaitSpare p u) p = true) (hf : failedNow (s.awaitSpare p u) p = [u])
    (ht : untrimmed (s.awaitSpare p u) p = []) (hn : ∀ a, a < 36 → cnvUnit (s.awaitSpare p u) p a ≠ 1) :
    s.serveFault p u = (s.awaitSpare p u).noSpare p u := by
  simp [serveFault_of_alone h hf ht, cnvUnits_eq_nil.mpr hn, State.assignSpares]

/-! ### A failing unit, by its state -/

theorem failUnit_of_active (h : cnvUnit s p u = 0) :
    s.failUnit p u criteria = ((((s.countFault p criteria).setFld (R.CNV_UNIT.fail_reason p u) (lowestReason criteria)).serveFault
      p u).cnvStatus p).updateCeiling p := by
  simp [State.failUnit, h]

theorem failUnit_of_free (h : cnvUnit s p u = 1) :
    s.failUnit p u criteria = (((s.countFault p criteria).cnvFaulty p u (lowestReason criteria)).cnvStatus p).updateCeiling p := by
  simp [State.failUnit, h]

theorem failUnit_of_trimming (h : cnvUnit s p u = 2) :
    s.failUnit p u criteria = ((s.spareFailed p u criteria).cnvStatus p).updateCeiling p := by
  simp [State.failUnit, h]

theorem failUnit_of_failed (h : 2 < cnvUnit s p u) : s.failUnit p u criteria = s := by
  unfold State.failUnit
  split
  · omega
  · omega
  · omega
  · rfl

/-! ### The commands -/

theorem unitFaultDetected_fails (hu : u < 36) (hr : s.receiving p = true) (hi : s.inReset p = false) (hc : criteriaNow s p criteria ≠ 0) :
    exec (.unitFaultDetected p u criteria) s = .next (s.failUnit p u (criteriaNow s p criteria)) := by
  show execUnitFaultDetected p u criteria s = _
  simp [execUnitFaultDetected, hu, hr, hi, hc]

theorem unitFaultDetected_ignored (h : 36 ≤ u ∨ s.receiving p = false ∨ s.inReset p = true ∨ criteriaNow s p criteria = 0) :
    exec (.unitFaultDetected p u criteria) s = .next s := by
  show execUnitFaultDetected p u criteria s = _
  unfold execUnitFaultDetected
  rw [if_neg]
  rcases h with h | h | h | h <;> simp [h]

theorem cnvTestFail_fails (h : Reaches s src (R.CNV_TEST_FAIL.addr p)) (hv : bitAt v 31 = true) (hu : bitsOf v 5 0 < 36)
    (hs : cnvUnit s p (bitsOf v 5 0) ≤ 2) :
    exec (.cnvTestFail src p v) s = .next ((s.modCnv p (fun c => { c with
      testFailed := c.testFailed.filter (· ≠ bitsOf v 5 0) ++ [bitsOf v 5 0] })).failUnit p (bitsOf v 5 0) (2 ^ 7)) := by
  show execCnvTestFail src p v s = _
  simp [execCnvTestFail, accessed_of_reaches h, hv, hu, hs]

theorem cnvTestFail_ignored (h : Reaches s src (R.CNV_TEST_FAIL.addr p))
    (hv : bitAt v 31 = false ∨ 36 ≤ bitsOf v 5 0 ∨ 2 < cnvUnit s p (bitsOf v 5 0)) : exec (.cnvTestFail src p v) s = .next s := by
  show execCnvTestFail src p v s = _
  unfold execCnvTestFail
  rw [accessed_of_reaches h, if_neg]
  rcases hv with h | h | h <;> simp [h]

end

/-- Settles O29: by the state of the failing unit, and by the spares that are free. -/
theorem unitFaultsTakeASpare : Obligations.UnitFaultsTakeASpare := by
  unfold Obligations.UnitFaultsTakeASpare
  intro s p u criteria src v
  refine ⟨fun r hr => bitAt_criteriaNow hr, fun hu hr hi hc => ?_, unitFaultDetected_ignored,
    fun h => ⟨cnvTestFail_fails h, cnvTestFail_ignored h⟩, rfl, ?_,
    fun phase a ha h1 hlow => startSpare_of_lowest ha h1 hlow, fun phase => startSpare_of_none⟩
  · have hfail := unitFaultDetected_fails hu hr hi hc
    exact ⟨fun h => hfail.trans (by rw [failUnit_of_active h]), fun h => hfail.trans (by rw [failUnit_of_free h]),
      fun h => hfail.trans (by rw [failUnit_of_trimming h]), fun h => hfail.trans (by rw [failUnit_of_failed h])⟩
  · rintro q (rfl : q = s.awaitSpare p u)
    exact ⟨serveFault_waits, serveFault_noSpare_of_halted, fun h hf ht =>
      ⟨fun a ha h1 hlow => serveFault_takes_lowest h hf ht ha h1 hlow, serveFault_noSpare_of_alone h hf ht⟩⟩

end Sys2Proof.Machine
end

section
/-!
Swaps, audits and known-answer tests of the engines and decoders (R10 to R12, R176 to R179).
-/
namespace Sys2Proof.Machine

section
variable {s : State} {p : Port} {cls : UnitClass} {u a cycle now src v : Nat}

/-! ### Changes of the Crystalliser's state -/

/-- Only what a change makes of the state that is there matters. -/
theorem State.modXtl_congr {f g : XtlState → XtlState} (h : f (s.port p).xtl = g (s.port p).xtl) : s.modXtl p f = s.modXtl p g := by
  simp only [State.modXtl, State.modPort, h]

/-- The unit is no longer due for a swap. -/
def State.unmarkSwap (s : State) (p : Port) (cls : UnitClass) (u : Nat) : State :=
  s.modXtl p (fun x => { x with swaps := x.swaps.filter (· ≠ (cls, u)) })

/-- The stage of a class's audit after a mismatch. -/
def State.setAuditStage (s : State) (p : Port) (cls : UnitClass) (st : AuditStage) : State :=
  s.modXtl p (fun x => match cls with
    | .engine => { x with engStage := st }
    | .decoder => { x with decStage := st })

/-- The codeword a window's engine holds at a cycle is lost. -/
theorem loseHeld_engine {h : CwRef × Nat} (hh : Tab.find (s.port p).xtl.engines u = some h) (hn : now < h.2) :
    s.loseHeld p .engine u now = s.modXtl p (fun x => { x with engines := Tab.del x.engines u, lost := h.1 :: x.lost }) := by
  unfold State.loseHeld
  exact State.modXtl_congr (by simp only [hh, if_pos hn])

/-! ### XTL_TEST_FAIL -/

/-- The class a write of XTL_TEST_FAIL names. -/
def namedClass (v : Nat) : UnitClass := if bitAt v 5 then .decoder else .engine

theorem exec_xtlTestFail (h : Reaches s src (R.XTL_TEST_FAIL.addr p)) :
    exec (.xtlTestFail src p v) s = .next (if bitAt v 31 && decide (bitsOf v 4 0 < unitCount (namedClass v)) then
      s.modXtl p (fun x => { x with swaps := x.swaps.filter (· ≠ (namedClass v, bitsOf v 4 0)) ++ [(namedClass v, bitsOf v 4 0)] })
      else s) :=
  congrArg Host.Outcome.next (accessed_of_reaches h _)

theorem xtlTestFail_marks (h : Reaches s src (R.XTL_TEST_FAIL.addr p)) (hv : bitAt v 31 = true)
    (hu : bitsOf v 4 0 < unitCount (namedClass v)) :
    exec (.xtlTestFail src p v) s = .next (s.modXtl p (fun x => { x with
      swaps := x.swaps.filter (· ≠ (namedClass v, bitsOf v 4 0)) ++ [(namedClass v, bitsOf v 4 0)] })) := by
  rw [exec_xtlTestFail h, if_pos (by simp [hv, hu])]

theorem xtlTestFail_ignored (h : Reaches s src (R.XTL_TEST_FAIL.addr p))
    (hv : bitAt v 31 = false ∨ unitCount (namedClass v) ≤ bitsOf v 4 0) : exec (.xtlTestFail src p v) s = .next s := by
  rw [exec_xtlTestFail h, if_neg]
  rcases hv with hv | hv <;> simp [hv]

/-! ### A unit leaves service -/

/-- The class's spare comes into service for a unit that has left it, or there is none (R10, R15). -/
theorem replaceUnit_takes {st reason : Nat} {t : State}
    (ht : t = ((s.loseHeld p cls u now).setFld (unitState p cls u) st).setFld (unitReason p cls u) reason) (h : freeSpare t p cls = some a) :
    s.replaceUnit p cls u st reason now
      = ((((t.setFld (unitState p cls a) 0).bumpP p (if cls = .engine then 0x79 else 0x7A)).pulseP p 0x51 0).unitStatus p).updateCeiling p := by
  subst ht
  unfold State.replaceUnit
  simp only [h]
  cases cls
  · rfl
  · rfl

theorem replaceUnit_degrades {st reason : Nat} {t : State}
    (ht : t = ((s.loseHeld p cls u now).setFld (unitState p cls u) st).setFld (unitReason p cls u) reason) (h : freeSpare t p cls = none) :
    s.replaceUnit p cls u st reason now = ((t.degrade p cls).unitStatus p).updateCeiling p := by
  subst ht
  unfold State.replaceUnit
  simp only [h]

theorem swapUnit_eq : s.swapUnit p cls u now =
    if (s.unmarkSwap p cls u).fld (unitState p cls u) = 0 then (s.unmarkSwap p cls u).replaceUnit p cls u 5 3 now
    else if (s.unmarkSwap p cls u).fld (unitState p cls u) ≤ 2 then
      let r := ((s.unmarkSwap p cls u).setFld (unitState p cls u) 5).setFld (unitReason p cls u) 3
      ((if (freeSpare r p cls).isNone then r.degrade p cls else r).unitStatus p).updateCeiling p
    else s.unmarkSwap p cls u := rfl

theorem swapUnit_of_inService (h : (s.unmarkSwap p cls u).fld (unitState p cls u) = 0) :
    s.swapUnit p cls u now = (s.unmarkSwap p cls u).replaceUnit p cls u 5 3 now := by
  rw [swapUnit_eq, if_pos h]

/-- A spare that is due is free no longer. -/
theorem swapUnit_of_spare {r : State}
    (h : (s.unmarkSwap p cls u).fld (unitState p cls u) = 1 ∨ (s.unmarkSwap p cls u).fld (unitState p cls u) = 2)
    (hr : r = ((s.unmarkSwap p cls u).setFld (unitState p cls u) 5).setFld (unitReason p cls u) 3) :
    s.swapUnit p cls u now = ((if freeSpare r p cls = none then r.degrade p cls else r).unitStatus p).updateCeiling p := by
  rw [swapUnit_eq, if_neg (by omega), if_pos (by omega), hr]
  simp only [Option.isNone_iff_eq_none]

theorem swapUnit_of_out (h : 2 < (s.unmarkSwap p cls u).fld (unitState p cls u)) : s.swapUnit p cls u now = s.unmarkSwap p cls u := by
  rw [swapUnit_eq, if_neg (by omega), if_neg (by omega)]

/-- Units due for a swap are served in ascending index up to the one named. -/
theorem unitSwapAtBoundary_serves (hn : now = 194400 * s.tick + cycle) (h : (s.port p).xtl.swaps.contains (cls, u) = true) :
    exec (.unitSwapAtBoundary p cls ⟨u, cycle⟩) s = .next (((List.range (u + 1)).filter (fun u =>
      (s.port p).xtl.swaps.contains (cls, u))).foldl (fun s u => s.swapUnit p cls u now) s) := by
  show execUnitSwapAtBoundary p cls ⟨u, cycle⟩ s = _
  unfold execUnitSwapAtBoundary
  dsimp only
  rw [if_pos h, hn]

/-- A confirmed mismatch: the unit is under test, and its auditor serves in its place (R177). -/
theorem unitSwapAtBoundary_audited (hn : now = 194400 * s.tick + cycle) (h : (s.port p).xtl.swaps.contains (cls, u) = false)
    (ha : auditStage (s.port p).xtl cls = .swapDue u a) :
    exec (.unitSwapAtBoundary p cls ⟨u, cycle⟩) s
      = .next ((((((s.loseHeld p cls u now).setFld (unitState p cls u) 6).setFld (unitState p cls a) 0).setAuditStage
          p cls (.testUnit u)).unitStatus p).updateCeiling p) := by
  show execUnitSwapAtBoundary p cls ⟨u, cycle⟩ s = _
  unfold execUnitSwapAtBoundary
  dsimp only
  rw [if_neg (by rw [h]; exact Bool.false_ne_true), ha, ← hn]
  dsimp only
  rw [if_pos rfl]
  rfl

/-! ### Known-answer tests -/

/-- A unit of a class as its failed test leaves it; the substitution it had is over. -/
def State.testFailed (s : State) (p : Port) (cls : UnitClass) (u : Nat) : State := (s.setAuditStage p cls .none).markFaulty p cls u

/-- The auditor is good: the audited unit is due for a swap. -/
theorem knownAnswer_auditor_passes (h : auditStage (s.port p).xtl cls = .testAuditor u a) :
    exec (.knownAnswerTestDone p cls a true) s = .next (s.setAuditStage p cls (.swapDue u a)) := by
  show execKnownAnswerTestDone p cls a true s = _
  simp only [execKnownAnswerTestDone, h, ne_eq, not_true_eq_false, if_false, if_true]
  rfl

theorem knownAnswer_auditor_fails (h : auditStage (s.port p).xtl cls = .testAuditor u a) {z : State} (hz : z = s.testFailed p cls a) :
    exec (.knownAnswerTestDone p cls a false) s
      = .next ((if freeSpare z p cls = none then z.degrade p cls else z).unitStatus p) := by
  show execKnownAnswerTestDone p cls a false s = _
  subst hz
  simp only [execKnownAnswerTestDone, h, ne_eq, not_true_eq_false, if_false, Bool.false_eq_true, Option.isNone_iff_eq_none]
  rfl

/-- Another unit's test means nothing while the auditor is tested. -/
theorem knownAnswer_auditor_other {b : Nat} (h : auditStage (s.port p).xtl cls = .testAuditor u a) (hb : b ≠ a) (passed : Bool) :
    exec (.knownAnswerTestDone p cls b passed) s = .next s := by
  show execKnownAnswerTestDone p cls b passed s = _
  simp only [execKnownAnswerTestDone, h]
  rw [if_pos (Ne.symm hb)]

/-- The tested unit is good: it is a free spare again, and the mismatch was its auditor's. -/
theorem knownAnswer_unit_passes (h : auditStage (s.port p).xtl cls = .testUnit u) :
    exec (.knownAnswerTestDone p cls u true) s
      = .next (((((s.setAuditStage p cls .none).setFld (unitState p cls u) 1).unitStatus p).bumpP p 0x7B).pulseP p 0x56 0) := by
  show execKnownAnswerTestDone p cls u true s = _
  simp only [execKnownAnswerTestDone, h, ne_eq, not_true_eq_false, if_false, if_true]
  rfl

theorem knownAnswer_unit_fails (h : auditStage (s.port p).xtl cls = .testUnit u) {z : State}
    (hz : z = ((s.testFailed p cls u).countSubstitution p cls).unitStatus p) :
    exec (.knownAnswerTestDone p cls u false) s
      = .next ((if freeSpare z p cls = none then z.degrade p cls else z).updateCeiling p) := by
  show execKnownAnswerTestDone p cls u false s = _
  subst hz
  simp only [execKnownAnswerTestDone, h, ne_eq, not_true_eq_false, if_false, Bool.false_eq_true, Option.isNone_iff_eq_none]
  rfl

/-! ### Audits -/

/-- The windows or codewords that have found the auditor of a class free. -/
def State.setAuditCount (s : State) (p : Port) (cls : UnitClass) (n : Nat) : State :=
  s.modXtl p (fun x => match cls with
    | .engine => { x with engAudits := n }
    | .decoder => { x with decAudits := n })

/-- The audit of a class in progress. -/
def State.setAuditJob (s : State) (p : Port) (cls : UnitClass) (j : AuditJob) : State :=
  s.modXtl p (fun x => match cls with
    | .engine => { x with engJob := some j }
    | .decoder => { x with decJob := some j })

theorem auditStart_of_none {cw : CwRef} {dur : Nat} (h : freeSpare s p cls = none) : s.auditStart p cls cw u now dur = s := by
  simp only [State.auditStart, h]

/-- The auditor is free: whatever audit it had has ended. -/
theorem auditStart_of_free {cw : CwRef} {dur : Nat} (h : freeSpare s p cls = some a)
    (hj : ∀ j, auditJob (s.port p).xtl cls = some j → j.auditor = a → j.until_ ≤ now) :
    s.auditStart p cls cw u now dur =
      let t := s.setFld (unitState p cls a) 1
      let n := auditCount (s.port p).xtl cls + 1
      if t.govOf cw.tick (R.XTL_CTRL.audit_en p) = 0 then t
      else if n % 2 ^ t.govOf cw.tick (R.XTL_CTRL.audit_rate p) ≠ 0 then t.setAuditCount p cls n
      else (((t.setAuditCount p cls n).bumpP p 0x77).setFld (unitState p cls a) 2).setAuditJob p cls
        { cw := cw, unit := u, auditor := a, until_ := now + dur } := by
  cases hjob : auditJob (s.port p).xtl cls with
  | none =>
    simp only [State.auditStart, h, hjob]
    rfl
  | some j =>
    have hbusy : (j.auditor == a && decide (now < j.until_)) = false := by
      simpa using hj j hjob
    simp only [State.auditStart, h, hjob, hbusy]
    rfl

theorem auditStart_of_off {cw : CwRef} {dur : Nat} (h : freeSpare s p cls = some a)
    (hj : ∀ j, auditJob (s.port p).xtl cls = some j → j.auditor = a → j.until_ ≤ now) (he : s.govOf cw.tick (R.XTL_CTRL.audit_en p) = 0) :
    s.auditStart p cls cw u now dur = s.setFld (unitState p cls a) 1 :=
  (auditStart_of_free h hj).trans (if_pos he)

/-- Every 2^audit_rate-th window or codeword that finds the auditor free is audited. -/
theorem auditStart_of_due {cw : CwRef} {dur n : Nat} (h : freeSpare s p cls = some a)
    (hj : ∀ j, auditJob (s.port p).xtl cls = some j → j.auditor = a → j.until_ ≤ now) (hn : n = auditCount (s.port p).xtl cls + 1)
    (he : s.govOf cw.tick (R.XTL_CTRL.audit_en p) ≠ 0) (hd : n % 2 ^ s.govOf cw.tick (R.XTL_CTRL.audit_rate p) = 0) :
    s.auditStart p cls cw u now dur
      = (((((s.setFld (unitState p cls a) 1).setAuditCount p cls n).bumpP p 0x77).setFld (unitState p cls a) 2).setAuditJob p cls
          { cw := cw, unit := u, auditor := a, until_ := now + dur }) := by
  subst hn
  exact (auditStart_of_free h hj).trans ((if_neg he).trans (if_neg (not_not.mpr hd)))

end

/-- Settles O35: by the state of the unit that is due, the spares that are free, and the stage of the audit. -/
theorem engineAndDecoderSwaps : Obligations.EngineAndDecoderSwaps := by
  unfold Obligations.EngineAndDecoderSwaps
  intro s p cls u cycle src v passed
  refine ⟨fun h => ⟨xtlTestFail_marks h, xtlTestFail_ignored h⟩, fun now hn => ⟨unitSwapAtBoundary_serves hn, ?swap,
    fun h a ha => unitSwapAtBoundary_audited (cls := .engine) hn h ha, fun h a ha => unitSwapAtBoundary_audited (cls := .decoder) hn h ha,
    fun t st reason ht => ⟨fun a => replaceUnit_takes ht, replaceUnit_degrades ht⟩, fun h => loseHeld_engine⟩,
    fun a h => ⟨knownAnswer_auditor_passes (cls := .decoder) h, fun z hz => knownAnswer_auditor_fails (cls := .decoder) h hz,
      fun b hb => knownAnswer_auditor_other (cls := .decoder) h hb passed⟩,
    fun h => ⟨knownAnswer_unit_passes (cls := .engine) h, fun z hz => knownAnswer_unit_fails (cls := .engine) h hz⟩,
    fun cw now dur => ⟨auditStart_of_none, fun a n h hj hn => ⟨auditStart_of_off h hj, fun he hd => ⟨_, rfl, ?due⟩⟩⟩⟩
  case swap =>
    rintro t (rfl : t = s.unmarkSwap p cls u)
    exact ⟨swapUnit_of_inService, fun r h hr => swapUnit_of_spare h hr, swapUnit_of_out⟩
  case due => exact auditStart_of_due h hj hn he hd

end Sys2Proof.Machine
end

section
/-!
Mode and fence requests, the ends of warm-ups, and the loss of die-to-die lanes and line dies (chapters 1 and 2).
-/
namespace Sys2Proof.Machine

section
variable {s : State} {p : Port} {src v : Nat}

/-! ### Requests -/

theorem exec_prtModeCtlWrite (h : Reaches s src (R.PRT_MODE_CTL.addr p)) : exec (.prtModeCtlWrite src p v) s = .next (
    if 4 < bitsOf v 26 24 then s.setFld (R.PRT_MODE_STATUS.refuse_code p) 0x01
    else if bitsOf v 16 16 ≠ s.fld (R.PRT_MODE_CTL.req_line_mode p) && s.mode p ≠ 0 then s.setFld (R.PRT_MODE_STATUS.refuse_code p) 0x02
    else (s.setFld (R.PRT_MODE_CTL.req_power_mode p) (bitsOf v 26 24)).setFld (R.PRT_MODE_CTL.req_line_mode p) (bitsOf v 16 16)) :=
  congrArg Host.Outcome.next (accessed_of_reaches h _)

theorem prtModeCtlWrite_reserved (h : Reaches s src (R.PRT_MODE_CTL.addr p)) (hm : 4 < bitsOf v 26 24) :
    exec (.prtModeCtlWrite src p v) s = .next (s.setFld (R.PRT_MODE_STATUS.refuse_code p) 0x01) := by
  rw [exec_prtModeCtlWrite h, if_pos hm]

theorem prtModeCtlWrite_lineMode (h : Reaches s src (R.PRT_MODE_CTL.addr p)) (hm : bitsOf v 26 24 ≤ 4)
    (hl : bitsOf v 16 16 ≠ s.fld (R.PRT_MODE_CTL.req_line_mode p)) (ho : s.mode p ≠ 0) :
    exec (.prtModeCtlWrite src p v) s = .next (s.setFld (R.PRT_MODE_STATUS.refuse_code p) 0x02) := by
  rw [exec_prtModeCtlWrite h, if_neg (by omega), if_pos (by simp [hl, ho])]

theorem prtModeCtlWrite_recorded (h : Reaches s src (R.PRT_MODE_CTL.addr p)) (hm : bitsOf v 26 24 ≤ 4)
    (hl : bitsOf v 16 16 = s.fld (R.PRT_MODE_CTL.req_line_mode p) ∨ s.mode p = 0) :
    exec (.prtModeCtlWrite src p v) s = .next ((s.setFld (R.PRT_MODE_CTL.req_power_mode p) (bitsOf v 26 24)).setFld
      (R.PRT_MODE_CTL.req_line_mode p) (bitsOf v 16 16)) := by
  rw [exec_prtModeCtlWrite h, if_neg (by omega), if_neg]
  rcases hl with hl | hl <;> simp [hl]

theorem exec_fenceReq (h : Reaches s src (R.PRT_FENCE_CTL.addr p)) {t : State}
    (ht : t = s.setFld (R.PRT_FENCE_CTL.hold_frames p) (bitsOf v 15 0)) :
    exec (.fenceReq src p v) s = .next (if bitAt v 31 then t.fencePort p [0x0B] else t) := by
  subst ht
  exact congrArg Host.Outcome.next (accessed_of_reaches h _)

theorem fenceReq_fences (h : Reaches s src (R.PRT_FENCE_CTL.addr p)) {t : State}
    (ht : t = s.setFld (R.PRT_FENCE_CTL.hold_frames p) (bitsOf v 15 0)) (hv : bitAt v 31 = true) :
    exec (.fenceReq src p v) s = .next (t.fencePort p [0x0B]) := by
  rw [exec_fenceReq h ht, if_pos hv]

theorem fenceReq_holds (h : Reaches s src (R.PRT_FENCE_CTL.addr p)) {t : State}
    (ht : t = s.setFld (R.PRT_FENCE_CTL.hold_frames p) (bitsOf v 15 0)) (hv : bitAt v 31 = false) :
    exec (.fenceReq src p v) s = .next t := by
  rw [exec_fenceReq h ht, if_neg (by simp [hv])]

/-! ### The held frames of a fence, and the ends of warm-ups -/

theorem heartbeatHoldExpired_stops (hl : (s.port p).mode.holdLeft = some 0) (hr : s.inReset p = false) (hh : handsOver s p = false) :
    exec (.heartbeatHoldExpired p) s
      = .next (((s.setFramer p .none).modMode p (fun m => { m with holdLeft := none })).setDisCause p 3 true) := by
  show execHeartbeatHoldExpired p s = _
  rw [execHeartbeatHoldExpired, if_pos (by simp [hl, hr, hh])]

theorem heartbeatHoldExpired_ignored (h : (s.port p).mode.holdLeft ≠ some 0 ∨ s.inReset p = true ∨ handsOver s p = true) :
    exec (.heartbeatHoldExpired p) s = .next s := by
  show execHeartbeatHoldExpired p s = _
  rw [execHeartbeatHoldExpired, if_neg]
  rcases h with h | h | h <;> simp [h]

theorem txCalDone_ignored (h : (s.port p).mode.txWarm = false) (failed : Bool) : exec (.txCalDone p failed) s = .next s := by
  show execTxCalDone p failed s = _
  rw [execTxCalDone, if_pos (by simp [h])]

theorem txCalDone_fails (h : (s.port p).mode.txWarm = true) :
    exec (.txCalDone p true) s = .next ((s.modMode p (fun m => { m with txWarm := false, txStart := false })).fencePort p [0x08]) := by
  show execTxCalDone p true s = _
  rw [execTxCalDone, if_neg (by simp [h])]
  simp only [Bool.not_true, if_true]

theorem txCalDone_passes (h : (s.port p).mode.txWarm = true) :
    exec (.txCalDone p false) s
      = .next (((s.modMode p (fun m => { m with txWarm := false, txStart := true })).linkPower (p.val / 4)).modeStatus p) := by
  show execTxCalDone p false s = _
  rw [execTxCalDone, if_neg (by simp [h])]
  simp only [Bool.not_false, Bool.false_eq_true, if_false]

/-- What the calibration and the tests that end an RX warm-up make of the port. -/
def State.warmTested (s : State) (p : Port) (units : List FgUnit) (failed : List (UnitClass × Nat)) : State :=
  ((if (s.port p).cnv.fgRun then s.foreground p units else s).knownAnswerTests p failed).updateCeiling p

theorem exec_warmupComplete (units : List FgUnit) (failed : List (UnitClass × Nat)) : exec (.warmupComplete p units failed) s = .next (
    if !(s.port p).mode.rxWarm then s
    else
      let t := s.warmTested p units failed
      if !(t.port p).mode.rxWarm then t
      else if (t.port p).mode.framer = .none then (t.modMode p (fun m => { m with rxWarm := false, rxDone := true })).modeStatus p
      else (t.warmEnter p (t.tick + 1)).modeStatus p) := by
  show execWarmupComplete p units failed s = _
  unfold execWarmupComplete State.warmTested
  dsimp only

section
variable {units : List FgUnit} {failed : List (UnitClass × Nat)}

theorem warmupComplete_ignored (h : (s.port p).mode.rxWarm = false) : exec (.warmupComplete p units failed) s = .next s := by
  rw [exec_warmupComplete, if_pos (by simp [h])]

variable {t : State} (h : (s.port p).mode.rxWarm = true) (ht : t = s.warmTested p units failed)
include h ht

theorem exec_warmupComplete_of_warm : exec (.warmupComplete p units failed) s = .next (
    if !(t.port p).mode.rxWarm then t
    else if (t.port p).mode.framer = .none then (t.modMode p (fun m => { m with rxWarm := false, rxDone := true })).modeStatus p
    else (t.warmEnter p (t.tick + 1)).modeStatus p) := by
  rw [exec_warmupComplete, if_neg (by simp [h]), ht]

/-- The transmitter is still off: the port waits for it. -/
theorem warmupComplete_waits (hw : (t.port p).mode.rxWarm = true) (hf : (t.port p).mode.framer = .none) :
    exec (.warmupComplete p units failed) s = .next ((t.modMode p (fun m => { m with rxWarm := false, rxDone := true })).modeStatus p) := by
  rw [exec_warmupComplete_of_warm h ht, if_neg (by simp [hw]), if_pos hf]

theorem warmupComplete_enters (hw : (t.port p).mode.rxWarm = true) (hf : (t.port p).mode.framer ≠ .none) :
    exec (.warmupComplete p units failed) s = .next ((t.warmEnter p (t.tick + 1)).modeStatus p) := by
  rw [exec_warmupComplete_of_warm h ht, if_neg (by simp [hw]), if_neg hf]

/-- The tests, or the ceiling they leave, have ended the warm-up. -/
theorem warmupComplete_ended (hw : (t.port p).mode.rxWarm = false) : exec (.warmupComplete p units failed) s = .next t := by
  rw [exec_warmupComplete_of_warm h ht, if_pos (by simp [hw])]

end

/-! ### Die-to-die lanes -/

/-- A lane is down. -/
def State.downLane (s : State) (key : Nat) : State := { s with rst := { s.rst with laneDown := s.rst.laneDown ++ [key] } }

/-- A direction retrains. -/
def State.retrains (s : State) (x : Nat) : State := { s with rst := { s.rst with retrain := s.rst.retrain.filter (· ≠ x) ++ [x] } }

/-- The spare lane of a direction takes the place of a lane (R10, R28). -/
def State.spareLane (s : State) (x lane : Nat) : State := (s.setFlag (R.GLB_D2D_LANE_MAP.spare_used x) true).setFld (R.GLB_D2D_LANE_MAP.replaced x) lane

section
variable {l dir lane x : Nat} (hl : l < 2) (hd : dir < 2) (hx : x = 2 * l + dir)
include hl hd hx

theorem exec_d2dLaneFail : exec (.d2dLaneFail l dir lane) s = .next (
    if 64 < lane || s.rst.laneDown.contains (laneKey l dir lane) then s
    else
      let t := s.downLane (laneKey l dir lane)
      let used := t.flag (R.GLB_D2D_LANE_MAP.spare_used x)
      if lane = 64 then (if used then t.retrains x else t)
      else if !used && !t.rst.laneDown.contains (laneKey l dir 64) then
        let u := t.spareLane x lane
        let u := { u with rst := { u.rst with laneSubsts := u.rst.laneSubsts + 1 } }
        ((u.appendDelta 4 x lane).pulse 0x1002 (l + 2 * dir)).retrains x
      else t.retrains x) := by
  show execD2dLaneFail l dir lane s = _
  subst hx
  unfold execD2dLaneFail State.downLane State.retrains State.spareLane
  rw [Nat.mod_eq_of_lt hl, Nat.mod_eq_of_lt hd]

theorem d2dLaneFail_ignored (h : 64 < lane ∨ laneKey l dir lane ∈ s.rst.laneDown) : exec (.d2dLaneFail l dir lane) s = .next s := by
  rw [exec_d2dLaneFail hl hd hx, if_pos (by simpa using h)]

/-- A data lane that fails while the spare is good and free is replaced, and the direction retrains. -/
theorem d2dLaneFail_replaced (h : lane < 64) (hn : laneKey l dir lane ∉ s.rst.laneDown) (hs : laneKey l dir 64 ∉ s.rst.laneDown)
    (hu : s.flag (R.GLB_D2D_LANE_MAP.spare_used x) = false) {t z : State} (ht : t = (s.downLane (laneKey l dir lane)).spareLane x lane)
    (hz : z = (({ t with rst := { t.rst with laneSubsts := t.rst.laneSubsts + 1 } } : State).appendDelta 4 x lane).pulse 0x1002 (l + 2 * dir)) :
    exec (.d2dLaneFail l dir lane) s = .next (z.retrains x) := by
  have hused : (s.downLane (laneKey l dir lane)).flag (R.GLB_D2D_LANE_MAP.spare_used x) = false := hu
  have hspare : laneKey l dir 64 ∉ (s.downLane (laneKey l dir lane)).rst.laneDown := by
    simp only [State.downLane, List.mem_append, List.mem_singleton, laneKey, not_or] at hs ⊢
    exact ⟨hs, by omega⟩
  subst hz ht
  rw [exec_d2dLaneFail hl hd hx, if_neg (by simp [hn]; omega)]
  dsimp only
  rw [if_neg (by omega), if_pos (by simp [hused, hspare])]

/-- The spare serves already: the direction retrains without the lane. -/
theorem d2dLaneFail_noSpare (h : lane < 64) (hn : laneKey l dir lane ∉ s.rst.laneDown)
    (hu : s.flag (R.GLB_D2D_LANE_MAP.spare_used x) = true) :
    exec (.d2dLaneFail l dir lane) s = .next ((s.downLane (laneKey l dir lane)).retrains x) := by
  have hused : (s.downLane (laneKey l dir lane)).flag (R.GLB_D2D_LANE_MAP.spare_used x) = true := hu
  rw [exec_d2dLaneFail hl hd hx, if_neg (by simp [hn]; omega)]
  dsimp only
  rw [if_neg (by omega), if_neg (by simp [hused])]

theorem d2dLaneFail_spare (hn : laneKey l dir 64 ∉ s.rst.laneDown) :
    exec (.d2dLaneFail l dir 64) s = .next (
      if s.flag (R.GLB_D2D_LANE_MAP.spare_used x) then (s.downLane (laneKey l dir 64)).retrains x else s.downLane (laneKey l dir 64)) := by
  rw [exec_d2dLaneFail hl hd hx, if_neg (by simp [hn])]
  dsimp only
  rw [if_pos rfl]
  rfl

theorem exec_d2dRetrainDone : exec (.d2dRetrainDone l dir) s = .next (
    if !s.rst.retrain.contains x then s
    else
      let t := ({ s with rst := { s.rst with retrain := s.rst.retrain.filter (· ≠ x) } } : State).addFldSat (R.GLB_D2D_LANE_MAP.retrains x) 1
      if shortLanes t l dir = [] then t
      else
        let z := t.setFlag (R.GLB_D2D_LANE_MAP.half_width x) true
        let y := (z.setFld R.GLB_STATUS.d2d_half (withBit (z.fld R.GLB_STATUS.d2d_half) l true)).pulse 0x1002 (l + 2 * dir + 4)
        ((diePorts l).drop 2).foldl (fun s p => s.fencePort p [0x09]) y) := by
  show execD2dRetrainDone l dir s = _
  subst hx
  unfold execD2dRetrainDone
  rw [Nat.mod_eq_of_lt hl, Nat.mod_eq_of_lt hd]

theorem d2dRetrainDone_ignored (h : x ∉ s.rst.retrain) : exec (.d2dRetrainDone l dir) s = .next s := by
  rw [exec_d2dRetrainDone hl hd hx, if_pos (by simp [h])]

section
variable {t : State} (h : x ∈ s.rst.retrain)
  (ht : t = ({ s with rst := { s.rst with retrain := s.rst.retrain.filter (· ≠ x) } } : State).addFldSat (R.GLB_D2D_LANE_MAP.retrains x) 1)
include h ht

theorem d2dRetrainDone_full (hs : shortLanes t l dir = []) : exec (.d2dRetrainDone l dir) s = .next t := by
  rw [exec_d2dRetrainDone hl hd hx, if_neg (by simp [h]), ← ht]
  exact congrArg _ (if_pos hs)

/-- At half width the two highest ports of the die are fenced. -/
theorem d2dRetrainDone_half (hs : shortLanes t l dir ≠ []) {z y : State} (hz : z = t.setFlag (R.GLB_D2D_LANE_MAP.half_width x) true)
    (hy : y = (z.setFld R.GLB_STATUS.d2d_half (withBit (z.fld R.GLB_STATUS.d2d_half) l true)).pulse 0x1002 (l + 2 * dir + 4)) :
    exec (.d2dRetrainDone l dir) s = .next (((diePorts l).drop 2).foldl (fun s p => s.fencePort p [0x09]) y) := by
  rw [exec_d2dRetrainDone hl hd hx, if_neg (by simp [h]), ← ht]
  subst hy hz
  exact congrArg _ (if_neg hs)

end

end

/-! ### Line dies -/

theorem diePorts_zero : diePorts 0 = [0, 1, 2, 3] := by decide
theorem diePorts_one : diePorts 1 = [4, 5, 6, 7] := by decide
theorem highPorts_zero : (diePorts 0).drop 2 = [2, 3] := by decide
theorem highPorts_one : (diePorts 1).drop 2 = [6, 7] := by decide

theorem loseDie_eq (d c : Nat) :
    s.loseDie d c = (diePorts d).foldl (fun s p => s.fencePort p [c]) ((s.setDieLost d true).hkaDieLost d) := rfl

theorem loseDie_zero (c : Nat) : s.loseDie 0 c = ((((((s.setDieLost 0 true).hkaDieLost 0).fencePort 0 [c]).fencePort
    1 [c]).fencePort 2 [c]).fencePort 3 [c]) := by
  rw [loseDie_eq, diePorts_zero, List.foldl_cons, List.foldl_cons, List.foldl_cons, List.foldl_cons, List.foldl_nil]

theorem loseDie_one (c : Nat) : s.loseDie 1 c = ((((((s.setDieLost 1 true).hkaDieLost 1).fencePort 4 [c]).fencePort
    5 [c]).fencePort 6 [c]).fencePort 7 [c]) := by
  rw [loseDie_eq, diePorts_one, List.foldl_cons, List.foldl_cons, List.foldl_cons, List.foldl_cons, List.foldl_nil]

theorem exec_lineDieLost {d : Nat} (h : d < 2) : exec (.lineDieLost d) s = .next (s.loseDie d 0x0A) := by
  show execLineDieLost d s = _
  rw [execLineDieLost, Nat.mod_eq_of_lt h]

end

/-- Settles O49: command by command, by the state of the port, of the lanes of the direction, and of the warm-up. -/
theorem modesFencesAndLinksFollowTheirCommands : Obligations.ModesFencesAndLinksFollowTheirCommands := by
  unfold Obligations.ModesFencesAndLinksFollowTheirCommands
  intro s p src v
  refine ⟨fun h => ⟨prtModeCtlWrite_reserved h, prtModeCtlWrite_lineMode h, prtModeCtlWrite_recorded h⟩,
    fun h t ht => ⟨fenceReq_fences h ht, fenceReq_holds h ht⟩, heartbeatHoldExpired_stops, heartbeatHoldExpired_ignored, txCalDone_ignored,
    fun h => ⟨txCalDone_fails h, txCalDone_passes h⟩,
    fun units failed => ⟨warmupComplete_ignored, fun h t ht hw => ⟨warmupComplete_waits h ht hw, warmupComplete_enters h ht hw⟩,
      fun h t ht => warmupComplete_ended h ht⟩, fun l dir lane x hl hd hx => ?lanes, ?die0, ?die1⟩
  case lanes =>
    refine ⟨d2dLaneFail_ignored hl hd hx, fun h hn hs hu t ht z hz => d2dLaneFail_replaced hl hd hx h hn hs hu ht hz,
      fun h hn _ hu => d2dLaneFail_noSpare hl hd hx h hn hu, ?spare, d2dRetrainDone_ignored hl hd hx,
      fun h t ht => ⟨d2dRetrainDone_full hl hd hx h ht, fun hs z y hz hy => ?half⟩⟩
    case spare =>
      rintro hn t rfl
      exact ⟨fun hu => (d2dLaneFail_spare hl hd hx hn).trans (congrArg _ (if_neg (by simp [hu]))),
        fun hu => (d2dLaneFail_spare hl hd hx hn).trans (congrArg _ (if_pos hu))⟩
    case half =>
      have hfence := d2dRetrainDone_half hl hd hx h ht hs hz hy
      refine ⟨fun h0 => ?_, fun h1 => ?_⟩
      · subst h0
        rwa [highPorts_zero, List.foldl_cons, List.foldl_cons, List.foldl_nil] at hfence
      · subst h1
        rwa [highPorts_one, List.foldl_cons, List.foldl_cons, List.foldl_nil] at hfence
  case die0 => rw [exec_lineDieLost (by omega), loseDie_zero]
  case die1 => rw [exec_lineDieLost (by omega), loseDie_one]

end Sys2Proof.Machine
end

section
/-!
What a protection pair makes of its partner's messages (R34, R407, R410 to R415).
-/
namespace Sys2Proof.Machine

section
variable {s : State} {p : Port} {hb : Heartbeat} {fc seq us : Nat} {map : BwMap} {mir : Mirror} {last : Bool}
  {pre : List (Nat × Preset × Bool)}

/-! ### Folds over the ports, and the counters of a pair -/

theorem State.forPorts_congr {f g : State → Port → State} (h : ∀ t q, f t q = g t q) : s.forPorts f = s.forPorts g := by
  rw [show f = g from funext fun t => funext (h t)]

theorem pairCtr_badDelta : pairCtr p 2 = 0x2702 + 16 * p.val := by
  unfold pairCtr
  omega

theorem pairCtr_resync : pairCtr p 3 = 0x2703 + 16 * p.val := by
  unfold pairCtr
  omega

/-! ### Messages that fail their check -/

theorem heartbeatRx_bad : exec (.heartbeatRx hb false) s = .next (s.bump 0x2780) := by
  show execHeartbeatRx hb false s = _
  rw [execHeartbeatRx, if_pos (by decide)]

theorem mapMessageRx_bad : exec (.mapMessageRx p fc map false) s = .next (s.bump 0x2780) := by
  show execMapMessageRx p fc map false s = _
  rw [execMapMessageRx]
  exact congrArg _ (if_pos (by decide))

theorem deltaRx_bad : exec (.deltaRx p seq mir us false) s = .next (s.bump 0x2780) := by
  show execDeltaRx p seq mir us false s = _
  rw [execDeltaRx]
  exact congrArg _ (if_pos (by decide))

theorem ackRx_bad : exec (.ackRx p seq false) s = .next (s.bump 0x2780) := by
  show execAckRx p seq false s = _
  rw [execAckRx]
  exact congrArg _ (if_pos (by decide))

theorem bulkCopyRx_bad : exec (.bulkCopyRx p seq last mir pre false) s = .next (s.bump 0x2780) := by
  show execBulkCopyRx p seq last mir pre false s = _
  rw [execBulkCopyRx, if_pos (by decide)]

/-! ### Heartbeats -/

/-- The heartbeats in a row that a heartbeat makes (R414). -/
def heartbeatRun (s : State) : Nat :=
  if s.pair.hbTick = s.tick + 1 then s.pair.hbRun else if s.pair.hbTick = s.tick then min 3 (s.pair.hbRun + 1) else 1

/-- The run, by the frame of the heartbeat before. -/
theorem eq_heartbeatRun {run : Nat} (h0 : s.pair.hbTick = s.tick + 1 → run = s.pair.hbRun)
    (h1 : s.pair.hbTick = s.tick → run = min 3 (s.pair.hbRun + 1)) (h2 : s.pair.hbTick ≠ s.tick + 1 → s.pair.hbTick ≠ s.tick → run = 1) :
    run = heartbeatRun s := by
  unfold heartbeatRun
  split
  next h => exact h0 h
  next h =>
    split
    next h' => exact h1 h'
    next h' => exact h2 h h'

/-- The partner's word on a port before a heartbeat: whether its protection is on. -/
def partnerWas (s : State) (q : Port) : Bool :=
  match s.pair.partner with
  | some h => h.ports[q].protEn
  | none => false

theorem heartbeatRx_good {t : State}
    (ht : t = { s with pair := { s.pair with partner := some hb, hbRun := heartbeatRun s, hbTick := s.tick + 1 } }) :
    exec (.heartbeatRx hb true) s = .next (((t.setFld R.AQL_PAIR_STATUS.hb_missed 0).pairForms.pairStatus).forPorts (fun x q =>
      (x.modProt q (fun y => { y with
        resolveDue := y.resolveDue || (hb.ports[q].protEn && !partnerWas s q),
        bulkSent := y.bulkSent && hb.ports[q].role == .sync })).protStatus q)) := by
  show execHeartbeatRx hb true s = _
  subst ht
  rw [execHeartbeatRx, if_neg (by decide)]
  rfl

theorem pairForms_forms (hp : s.paired = false) (hr : s.pair.hbRun = 3) (hu : s.fld (R.AQL_PORT_STATUS.state 0) = 2) :
    s.pairForms = ((s.setFlag R.AQL_PAIR_STATUS.paired true).level 0x10C8 false 0).forPorts (fun x q =>
      x.modProt q (fun y => { y with resolveDue := true })) := by
  rw [State.pairForms, if_neg (by simp [hp, hr, hu])]

theorem pairForms_waits (h : s.paired = true ∨ s.pair.hbRun < 3 ∨ s.fld (R.AQL_PORT_STATUS.state 0) ≠ 2) : s.pairForms = s := by
  rw [State.pairForms, if_pos]
  rcases h with h | h | h <;> simp [h]

/-- A heartbeat is missed: the run is broken and the miss counted. -/
def State.missed (s : State) : State := ({ s with pair := { s.pair with hbRun := 0 } } : State).bump 0x2782

theorem exec_heartbeatMissed {u : State}
    (hu : u = s.missed.setFld R.AQL_PAIR_STATUS.hb_missed (min 3 (s.missed.fld R.AQL_PAIR_STATUS.hb_missed + 1))) :
    exec .heartbeatMissed s = .next (if u.fld R.AQL_PAIR_STATUS.hb_missed = 3 then u.pairLost else u) := by
  show execHeartbeatMissed s = _
  subst hu
  rfl

/-! ### The pair is lost -/

theorem pairLost_of_unpaired (h : s.paired = false) : s.pairLost = s := by
  rw [State.pairLost, if_pos (by simp [h])]

theorem pairLost_of_paired (h : s.paired = true) :
    s.pairLost = (((({ s with pair := { s.pair with hbRun := 0 } } : State).setFlag
      R.AQL_PAIR_STATUS.paired false).level 0x10C8 true 0).pairStatus.forPorts (fun x q =>
        if ((x.dropHandover q).port q).prot.role = .sync ∨ ((x.dropHandover q).port q).prot.role = .standby
        then ((x.dropHandover q).setRole q .blind 0).protStatus q else (x.dropHandover q).protStatus q)) := by
  rw [State.pairLost, if_neg (by simp [h])]
  refine State.forPorts_congr fun x q => ?_
  dsimp only
  cases ((x.dropHandover q).port q).prot.role
  case sync => exact (if_pos (.inl rfl)).symm
  case standby => exact (if_pos (.inr rfl)).symm
  all_goals exact (if_neg (by decide)).symm

theorem exec_pairLost : exec .pairLost s = .next s.pairLost := rfl

/-! ### Maps -/

theorem exec_mapMessageRx {ahead : Nat} (ha : ahead = (fc + 2 ^ 51 - s.fc % 2 ^ 51) % 2 ^ 51) :
    exec (.mapMessageRx p fc map true) s = .next (
      if !(decide ((s.port p).prot.role = .standby) || decide ((s.port p).prot.role = .sync)) || ahead = 0 || 4 < ahead then s
      else s.installMap p (s.tick + ahead) map) := by
  show execMapMessageRx p fc map true s = _
  subst ha
  rw [execMapMessageRx]
  exact congrArg _ (if_neg (by decide))

theorem mapMessageRx_installs {ahead : Nat} (ha : ahead = (fc + 2 ^ 51 - s.fc % 2 ^ 51) % 2 ^ 51)
    (hr : (s.port p).prot.role = .standby ∨ (s.port p).prot.role = .sync) (h1 : 1 ≤ ahead) (h4 : ahead ≤ 4) :
    exec (.mapMessageRx p fc map true) s = .next (s.installMap p (s.tick + ahead) map) := by
  have h0 : ahead ≠ 0 := by omega
  rw [exec_mapMessageRx ha, if_neg]
  rcases hr with hr | hr <;> simp [hr, h0, h4]

theorem mapMessageRx_dropped {ahead : Nat} (ha : ahead = (fc + 2 ^ 51 - s.fc % 2 ^ 51) % 2 ^ 51)
    (h : ((s.port p).prot.role ≠ .standby ∧ (s.port p).prot.role ≠ .sync) ∨ ahead = 0 ∨ 4 < ahead) :
    exec (.mapMessageRx p fc map true) s = .next s := by
  rw [exec_mapMessageRx ha, if_pos]
  rcases h with ⟨h1, h2⟩ | h | h
  · simp [h1, h2]
  · simp [h]
  · simp [h]

/-! ### Deltas -/

theorem exec_deltaRx : exec (.deltaRx p seq mir us true) s = .next (
    match (s.port p).prot.role with
    | .standby =>
      if seq = seqNext (s.port p).prot.applied && us ≤ 60 && (s.port p).prot.pendDelta.isNone then
        (s.modProt p (fun q => { q with pendDelta := some (seq, mir), deltaSeen := true })).aqSend 0 (.ack p seq)
      else ((s.bump (pairCtr p 2)).modProt p (fun q => { q with deltaBad := true, deltaSeen := true })).protStatus p
    | .sync => s.bump (pairCtr p 2)
    | _ => s) := rfl

theorem deltaRx_next (hr : (s.port p).prot.role = .standby) (hs : seq = ((s.port p).prot.applied + 1) % 2 ^ 32) (hu : us ≤ 60)
    (hp : (s.port p).prot.pendDelta = none) :
    exec (.deltaRx p seq mir us true) s
      = .next ((s.modProt p (fun y => { y with pendDelta := some (seq, mir), deltaSeen := true })).aqSend 0 (.ack p seq)) := by
  have hnext : seq = seqNext (s.port p).prot.applied := hs
  rw [exec_deltaRx, hr]
  exact congrArg _ (if_pos (by simp [hu, hp, hnext]))

theorem deltaRx_fails (hr : (s.port p).prot.role = .standby)
    (h : seq ≠ ((s.port p).prot.applied + 1) % 2 ^ 32 ∨ 60 < us ∨ (s.port p).prot.pendDelta ≠ none) :
    exec (.deltaRx p seq mir us true) s
      = .next (((s.bump (0x2702 + 16 * p.val)).modProt p (fun y => { y with deltaBad := true, deltaSeen := true })).protStatus p) := by
  replace h : seq ≠ seqNext (s.port p).prot.applied ∨ 60 < us ∨ (s.port p).prot.pendDelta ≠ none := h
  rw [exec_deltaRx, hr, ← pairCtr_badDelta]
  refine congrArg _ (if_neg ?_)
  rcases h with h | h | h <;> simp [h]

theorem deltaRx_sync (hr : (s.port p).prot.role = .sync) :
    exec (.deltaRx p seq mir us true) s = .next (s.bump (0x2702 + 16 * p.val)) := by
  rw [exec_deltaRx, hr, ← pairCtr_badDelta]

theorem deltaRx_ignored (h1 : (s.port p).prot.role ≠ .standby) (h2 : (s.port p).prot.role ≠ .sync) :
    exec (.deltaRx p seq mir us true) s = .next s := by
  rw [exec_deltaRx]
  split
  · exact absurd ‹_› h1
  · exact absurd ‹_› h2
  · rfl

theorem deltaTimeout_fails (hr : (s.port p).prot.role = .standby) (ht : s.pair.hbTick = s.tick + 1) (hd : (s.port p).prot.deltaSeen = false) :
    exec (.deltaTimeout p) s = .next ((s.modProt p (fun y => { y with deltaBad := true })).protStatus p) := by
  show execDeltaTimeout p s = _
  rw [execDeltaTimeout, if_pos (by simp [hr, ht, hd])]

theorem deltaTimeout_ignored
    (h : (s.port p).prot.role ≠ .standby ∨ s.pair.hbTick ≠ s.tick + 1 ∨ (s.port p).prot.deltaSeen = true) :
    exec (.deltaTimeout p) s = .next s := by
  show execDeltaTimeout p s = _
  rw [execDeltaTimeout, if_neg]
  rcases h with h | h | h <;> simp [h]

/-! ### Resync orders and acknowledgements -/

theorem exec_resyncOrder : exec (.resyncOrder p) s = .next (
    match (s.port p).prot.role with
    | .standby => ((s.setRole p .sync 5).bump (pairCtr p 3)).protStatus p
    | .active =>
      if !(s.port p).prot.copying && decide (2 ≤ seqAhead (s.port p).prot.sent (s.port p).prot.acked) then
        ((s.modProt p (fun q => { q with copying := true, bulkSent := false })).bump (pairCtr p 3)).aqSend 0 (.resync p)
      else s
    | _ => s) := rfl

theorem resyncOrder_standby (hr : (s.port p).prot.role = .standby) :
    exec (.resyncOrder p) s = .next (((s.setRole p .sync 5).bump (0x2703 + 16 * p.val)).protStatus p) := by
  rw [exec_resyncOrder, hr, ← pairCtr_resync]

theorem resyncOrder_sends (hr : (s.port p).prot.role = .active) (hc : (s.port p).prot.copying = false)
    (ha : 2 ≤ seqAhead (s.port p).prot.sent (s.port p).prot.acked) :
    exec (.resyncOrder p) s = .next ((((s.modProt p (fun y => { y with copying := true, bulkSent := false })).bump
      (0x2703 + 16 * p.val)).aqSend 0 (.resync p))) := by
  rw [exec_resyncOrder, hr, ← pairCtr_resync]
  exact congrArg _ (if_pos (by simp [hc, ha]))

theorem resyncOrder_active_ignored (hr : (s.port p).prot.role = .active)
    (h : (s.port p).prot.copying = true ∨ seqAhead (s.port p).prot.sent (s.port p).prot.acked < 2) :
    exec (.resyncOrder p) s = .next s := by
  rw [exec_resyncOrder, hr]
  refine congrArg _ (if_neg ?_)
  rcases h with h | h <;> simp [h]

theorem resyncOrder_ignored (h1 : (s.port p).prot.role ≠ .standby) (h2 : (s.port p).prot.role ≠ .active) :
    exec (.resyncOrder p) s = .next s := by
  rw [exec_resyncOrder]
  split
  · exact absurd ‹_› h1
  · exact absurd ‹_› h2
  · rfl

theorem exec_ackRx : exec (.ackRx p seq true) s = .next (
    if decide ((s.port p).prot.role = .active)
        && decide (seqAhead (s.port p).prot.sent seq ≤ seqAhead (s.port p).prot.sent (s.port p).prot.acked) then
      s.modProt p (fun q => { q with acked := seq })
    else s) := by
  show execAckRx p seq true s = _
  rw [execAckRx]
  exact congrArg _ (if_neg (by decide))

theorem ackRx_advances (hr : (s.port p).prot.role = .active)
    (h : seqAhead (s.port p).prot.sent seq ≤ seqAhead (s.port p).prot.sent (s.port p).prot.acked) :
    exec (.ackRx p seq true) s = .next (s.modProt p (fun y => { y with acked := seq })) := by
  rw [exec_ackRx, if_pos (by simp [hr, h])]

theorem ackRx_ignored (h : (s.port p).prot.role ≠ .active
    ∨ seqAhead (s.port p).prot.sent (s.port p).prot.acked < seqAhead (s.port p).prot.sent seq) :
    exec (.ackRx p seq true) s = .next s := by
  rw [exec_ackRx, if_neg]
  rcases h with h | h <;> simp [h]

/-! ### The copy -/

theorem bulkCopyRx_ignored (h : (s.port p).prot.role ≠ .sync) : exec (.bulkCopyRx p seq last mir pre true) s = .next s := by
  show execBulkCopyRx p seq last mir pre true s = _
  rw [execBulkCopyRx, if_neg (by decide), if_pos h]

/-- The first message of a copy puts aside the contexts it does not carry, and with a pair key that matches the keys and slots. -/
def State.openBulk (s : State) (p : Port) (mir : Mirror) : State :=
  let gone := ((s.port p).onu.ctx.filter (fun e => e.2.st ≠ .free && !mir.ctxs.any (fun m => m.slot == e.1))).map Prod.fst
  let g := gone.foldl (fun x c => x.applyCtx p true (mirrorCtx c .free)) s
  let held := g.pair.key.isSome && g.flag R.AQL_PAIR_STATUS.key_match
  (g.modTcf p (fun t => { t with
    keys := if held then [] else t.keys, txSlot := if held then [] else t.txSlot, seqs := [] })).modProt p (fun q => { q with bulkOpen := true })

/-- A message of a copy is applied. -/
def State.applyBulk (s : State) (p : Port) (mir : Mirror) (pre : List (Nat × Preset × Bool)) : State :=
  pre.foldl (fun x e => x.bulkPreset p e.1 e.2.1 e.2.2) (s.applyMirror p true mir)

/-- The last message of a copy moves the port to STANDBY. -/
def State.endBulk (s : State) (p : Port) (seq : Nat) : State :=
  (((s.modProt p (fun y => { y with applied := seq % 2 ^ 32 })).setRole p .standby 5).modProt p
    (fun y => { y with applied := seq % 2 ^ 32 })).protStatus p

theorem exec_bulkCopyRx (hr : (s.port p).prot.role = .sync) {t : State}
    (ht : t = (if (s.port p).prot.bulkOpen then s else s.openBulk p mir).applyBulk p mir pre) :
    exec (.bulkCopyRx p seq last mir pre true) s = .next (if !last then t else t.endBulk p seq) := by
  show execBulkCopyRx p seq last mir pre true s = _
  subst ht
  rw [execBulkCopyRx, if_neg (by decide), if_neg (by simp [hr])]
  unfold State.applyBulk State.openBulk State.endBulk
  dsimp only

end

/-- Settles O52: message by message, by the role of the port and the sequence numbers. -/
theorem pairMessagesMoveTheMirror : Obligations.PairMessagesMoveTheMirror := by
  unfold Obligations.PairMessagesMoveTheMirror
  intro s p hb fc seq us map mir last pre
  refine ⟨⟨heartbeatRx_bad, mapMessageRx_bad, deltaRx_bad, ackRx_bad, bulkCopyRx_bad⟩, fun run t h0 h1 h2 ht => ?heartbeat, pairForms_forms,
    pairForms_waits, fun t ht => ?missed, fun h => ?unpaired, fun h => ?lost,
    fun ahead ha => ⟨mapMessageRx_installs ha, mapMessageRx_dropped ha⟩,
    fun hr => ⟨deltaRx_next hr, deltaRx_fails hr, deltaTimeout_fails hr, resyncOrder_standby hr⟩,
    fun hr => ⟨resyncOrder_sends hr, resyncOrder_active_ignored hr⟩, resyncOrder_ignored, deltaRx_ignored, deltaRx_sync, deltaTimeout_ignored,
    fun hr => ⟨ackRx_advances hr, fun h => ackRx_ignored (.inr h)⟩, fun hr => ackRx_ignored (.inl hr), bulkCopyRx_ignored,
    fun hr ho gone g held o t hgone hg hheld hopen ht => ?opens, fun hr ho t ht => ?goesOn⟩
  case heartbeat =>
    rw [eq_heartbeatRun h0 h1 h2] at ht
    exact heartbeatRx_good ht
  case missed =>
    obtain rfl : t = s.missed := ht
    refine ⟨fun h u hu => exec_heartbeatMissed ?_, fun h u hu h3 => (exec_heartbeatMissed ?_).trans (congrArg _ (if_pos h3))⟩
    · rw [hu, Nat.min_eq_right (by omega)]
    · rw [hu, Nat.min_eq_left (by omega)]
  case unpaired => rw [exec_pairLost, pairLost_of_unpaired h]
  case lost => rw [exec_pairLost, pairLost_of_paired h]
  case opens =>
    have hbulk : t = (if (s.port p).prot.bulkOpen then s else s.openBulk p mir).applyBulk p mir pre := by
      rw [if_neg (by simp [ho]), ht, hopen, hheld, hg, hgone]
      rfl
    exact ⟨exec_bulkCopyRx hr hbulk, exec_bulkCopyRx hr hbulk⟩
  case goesOn =>
    have hbulk : t = (if (s.port p).prot.bulkOpen then s else s.openBulk p mir).applyBulk p mir pre := by
      rw [if_pos ho, ht]
      rfl
    exact ⟨exec_bulkCopyRx hr hbulk, exec_bulkCopyRx hr hbulk⟩

end Sys2Proof.Machine
end

section
/-!
The frame tick, the time of day, the edges of 1PPS and the frame counter (R37, R425, R532 to R537).
-/
namespace Sys2Proof.Machine

section
variable {s : State} {obs : TickObs} {side : Nat} {msg : TodMsg} {interval after : Nat} {err : Int} {src v : Nat}

/-! ### The tick and its ledgers -/

theorem exec_frameTick : exec (.frameTick obs) s = .next (
    if s.flag R.GLB_STATUS.pkg_fenced then s.todTick.captureRegs s.regs
    else
      let r := (((s.forPorts State.endPort).todTick.captureRegs s.regs).tickCapture obs).sampleLedgers obs
      ((r.1.tickBegin obs).applyLedgers r.2).tickRest) := rfl

theorem frameTick_fenced (h : s.flag R.GLB_STATUS.pkg_fenced = true) : exec (.frameTick obs) s = .next (s.todTick.captureRegs s.regs) := by
  rw [exec_frameTick, if_pos h]

theorem frameTick_runs (h : s.flag R.GLB_STATUS.pkg_fenced = false) {c l : State} {k : LedgerCheck}
    (hc : c = ((s.forPorts State.endPort).todTick.captureRegs s.regs).tickCapture obs) (hl : c.sampleLedgers obs = (l, k)) :
    exec (.frameTick obs) s = .next (((l.tickBegin obs).applyLedgers k).tickRest) := by
  rw [exec_frameTick, if_neg (by simp [h]), ← hc, hl]

/-- What the ledgers of a port come to is what its causes were when the terms were sampled. -/
theorem sampleLedgers_ports (c : State) (p : Port) : ((c.sampleLedgers obs).2).ports[p] = portCauses obs c p := by
  simp [State.sampleLedgers]

theorem portCauses_of_skipped {c : State} {p : Port} (h : c.fenced p = true ∨ c.inReset p = true ∨ c.mode p = 0) :
    portCauses obs c p = [] := by
  rw [portCauses, if_pos]
  rcases h with h | h | h <;> simp [h]

/-- A map that reserves more slots than a frame has fails the ledger of the grant slots (R282). -/
theorem grantSlots_cause {c : State} {p : Port} (hg : 194400 < grantSlots c p) (hf : c.fenced p = false) (hr : c.inReset p = false)
    (hm : c.mode p ≠ 0) : 0x01 ∈ portCauses obs c p := by
  rw [portCauses, if_neg (by simp [hf, hr, hm]), if_pos hg]
  simp

/-! ### Time moves on -/

/-- The ports show the frame counter in registers: the time stays. -/
theorem forPorts_showFc_frame (t : State) :
    (t.forPorts State.showFc).tick = t.tick ∧ (t.forPorts State.showFc).fc = t.fc ∧ (t.forPorts State.showFc).tod = t.tod :=
  List.foldlRecOn (motive := fun u : State => u.tick = t.tick ∧ u.fc = t.fc ∧ u.tod = t.tod) _ _ ⟨rfl, rfl, rfl⟩
    fun u hu q _ => by rwa [State.showFc, State.setFld_tick, State.setFld_tick, State.setFld_fc, State.setFld_fc, State.setFld_tod, State.setFld_tod]

/-- The state in which a tick finds the frame counter and the time: the chain's, or those of the tick before (R425). -/
def State.timeBefore (c : State) : Option TodMsg → State
  | some m => { c with fc := m.fc % 2 ^ 51, tod := { c.tod with time := ((m.sec * 1000000000 + m.ns : Nat) : Int) } }
  | none => c

/-- A frame passes: the frame counter modulo 2^51, the tick number, and 125 µs (R206). -/
def State.frameOn (b : State) : State :=
  { b with fc := (b.fc + 1) % 2 ^ 51, tick := b.tick + 1, tod := { b.tod with time := b.tod.time + 125000 } }

/-- A frame counter is set, and no other waits. -/
def State.withFc (t : State) (x : Nat) : State := { t with fc := x, tod := { t.tod with fcDue := false } }

theorem withFc_frame (t : State) (x : Nat) :
    (t.withFc x).tick = t.tick ∧ (t.withFc x).fc = x ∧ (t.withFc x).tod = { t.tod with fcDue := false } := ⟨rfl, rfl, rfl⟩

/-- A frame counter that has been set is taken (R535). -/
def State.takeFc (t : State) : State :=
  if t.tod.fcDue then
    ((t.withFc (t.fld R.TOD_FC_SET_1.set_hi * 2 ^ 32 + t.fld R.TOD_FC_SET_0.set_lo)).setFlag R.TOD_STATUS.fc_pending false).bump (todCtr 5)
  else t

/-- The registers show the frame counter. -/
def State.showFcs (u : State) : State :=
  ((u.setFld R.TOD_FC_0.fc_lo (u.fc % 2 ^ 32)).setFld R.TOD_FC_1.fc_hi (u.fc / 2 ^ 32)).forPorts State.showFc

/-- The registers show the time of a tick in seconds and ns. -/
def State.showSec (v : State) (sec ns : Nat) : State :=
  ((v.setFld R.TOD_TICK_NS.ns ns).setFld R.TOD_TICK_SEC_0.sec_lo (sec % 2 ^ 32)).setFld R.TOD_TICK_SEC_1.sec_hi (sec / 2 ^ 32)

/-- The registers show the frame counter and the time, and a second that has passed since `before` is a pulse of 1PPS. -/
def State.showTime (u : State) (before : Int) : State :=
  let v := u.showFcs
  let sec := (v.tod.time / 1000000000).toNat
  let w := v.showSec sec (v.tod.time % 1000000000).toNat
  if before / 1000000000 < v.tod.time / 1000000000 then w.emit (.pps sec) else w

theorem todTick_eq {c : State} {m : Option TodMsg} (h : s.chainTick = (c, m)) :
    s.todTick = (c.timeBefore m).frameOn.takeFc.showTime (c.timeBefore m).tod.time := by
  unfold State.todTick
  rw [h]
  cases m
  · rfl
  · rfl

theorem showFcs_frame (u : State) : u.showFcs.tick = u.tick ∧ u.showFcs.fc = u.fc ∧ u.showFcs.tod = u.tod := by
  obtain ⟨htick, hfc, htod⟩ :=
    forPorts_showFc_frame ((u.setFld R.TOD_FC_0.fc_lo (u.fc % 2 ^ 32)).setFld R.TOD_FC_1.fc_hi (u.fc / 2 ^ 32))
  rw [State.setFld_tick, State.setFld_tick] at htick
  rw [State.setFld_fc, State.setFld_fc] at hfc
  rw [State.setFld_tod, State.setFld_tod] at htod
  exact ⟨htick, hfc, htod⟩

theorem showSec_frame (v : State) (sec ns : Nat) :
    (v.showSec sec ns).tick = v.tick ∧ (v.showSec sec ns).fc = v.fc ∧ (v.showSec sec ns).tod = v.tod := by
  refine ⟨?_, ?_, ?_⟩
  · rw [State.showSec, State.setFld_tick, State.setFld_tick, State.setFld_tick]
  · rw [State.showSec, State.setFld_fc, State.setFld_fc, State.setFld_fc]
  · rw [State.showSec, State.setFld_tod, State.setFld_tod, State.setFld_tod]

/-- Showing the time leaves it. -/
theorem showTime_frame (u : State) (before : Int) :
    (u.showTime before).tick = u.tick ∧ (u.showTime before).fc = u.fc ∧ (u.showTime before).tod = u.tod := by
  obtain ⟨htick, hfc, htod⟩ := showFcs_frame u
  unfold State.showTime
  dsimp only
  obtain ⟨stick, sfc, stod⟩ := showSec_frame u.showFcs (u.showFcs.tod.time / 1000000000).toNat (u.showFcs.tod.time % 1000000000).toNat
  split
  · rw [State.emit_tick, State.emit_fc, State.emit_tod]
    exact ⟨stick.trans htick, sfc.trans hfc, stod.trans htod⟩
  · exact ⟨stick.trans htick, sfc.trans hfc, stod.trans htod⟩

theorem takeFc_of_due {t : State} (h : t.tod.fcDue = true) :
    t.takeFc.tick = t.tick ∧ t.takeFc.fc = t.fld R.TOD_FC_SET_1.set_hi * 2 ^ 32 + t.fld R.TOD_FC_SET_0.set_lo
      ∧ t.takeFc.tod = { t.tod with fcDue := false } := by
  rw [State.takeFc, if_pos h, State.bump_tick, State.bump_fc, State.bump_tod, State.setFlag_tick, State.setFlag_fc, State.setFlag_tod]
  exact withFc_frame t _

theorem takeFc_of_not_due {t : State} (h : t.tod.fcDue = false) : t.takeFc = t := by
  rw [State.takeFc, if_neg (by simp [h])]

/-- Taking a frame counter leaves the tick number and the time of day. -/
theorem takeFc_frame (t : State) : t.takeFc.tick = t.tick ∧ t.takeFc.tod.time = t.tod.time := by
  cases h : t.tod.fcDue
  case false => rw [takeFc_of_not_due h]; exact ⟨rfl, rfl⟩
  case true =>
    obtain ⟨htick, -, htod⟩ := takeFc_of_due h
    exact ⟨htick, by rw [htod]⟩

theorem timeBefore_fcDue (c : State) (m : Option TodMsg) : (c.timeBefore m).tod.fcDue = c.tod.fcDue := by
  cases m
  · rfl
  · rfl

section
variable {c : State} {m : Option TodMsg} (h : s.chainTick = (c, m))
include h

theorem todTick_tick : s.todTick.tick = c.tick + 1 := by
  obtain ⟨htick, -, -⟩ := showTime_frame (c.timeBefore m).frameOn.takeFc (c.timeBefore m).tod.time
  rw [todTick_eq h, htick, (takeFc_frame _).1]
  cases m
  · rfl
  · rfl

theorem todTick_time : s.todTick.tod.time = (c.timeBefore m).tod.time + 125000 := by
  obtain ⟨-, -, htod⟩ := showTime_frame (c.timeBefore m).frameOn.takeFc (c.timeBefore m).tod.time
  rw [todTick_eq h, htod, (takeFc_frame _).2]
  rfl

theorem todTick_fc (hd : c.tod.fcDue = false) : s.todTick.fc = ((c.timeBefore m).fc + 1) % 2 ^ 51 := by
  obtain ⟨-, hfc, -⟩ := showTime_frame (c.timeBefore m).frameOn.takeFc (c.timeBefore m).tod.time
  have hkept : (c.timeBefore m).frameOn.takeFc = (c.timeBefore m).frameOn := takeFc_of_not_due ((timeBefore_fcDue c m).trans hd)
  rw [todTick_eq h, hfc, hkept]
  rfl

theorem todTick_fc_set (hd : c.tod.fcDue = true) :
    s.todTick.fc = c.fld R.TOD_FC_SET_1.set_hi * 2 ^ 32 + c.fld R.TOD_FC_SET_0.set_lo ∧ s.todTick.tod.fcDue = false := by
  obtain ⟨-, hfc, htod⟩ := showTime_frame (c.timeBefore m).frameOn.takeFc (c.timeBefore m).tod.time
  obtain ⟨-, hset, hdone⟩ := takeFc_of_due (t := (c.timeBefore m).frameOn) ((timeBefore_fcDue c m).trans hd)
  have hfld : ∀ f, (c.timeBefore m).frameOn.fld f = c.fld f := by
    intro f
    cases m
    · rfl
    · rfl
  rw [todTick_eq h, hfc, htod, hset, hdone, hfld, hfld]
  exact ⟨rfl, rfl⟩

end

/-! ### The chain (R425) -/

theorem todMessageRx_bad : exec (.todMessageRx side msg false) s = .next (s.bump 0x2780) := by
  show execTodMessageRx side msg false s = _
  rw [execTodMessageRx]
  exact congrArg _ (if_pos (by decide))

theorem todMessageRx_source (h : s.cap R.AQL_PAIR_CTL.tod_src = 1) : exec (.todMessageRx side msg true) s = .next s := by
  show execTodMessageRx side msg true s = _
  rw [execTodMessageRx]
  exact congrArg _ ((if_neg (by decide)).trans (if_pos (by simp [todSource, h])))

/-- A message is better than the one of its frame that is followed: by its hops, from port A on a tie. -/
def betterTod (s : State) (side : Nat) (msg : TodMsg) : Bool :=
  match s.pair.todBest with
  | none => true
  | some (d, m) => decide (msg.hops < m.hops) || (decide (msg.hops = m.hops) && decide (side % 2 < d))

theorem exec_todMessageRx (h : s.cap R.AQL_PAIR_CTL.tod_src ≠ 1) : exec (.todMessageRx side msg true) s = .next (
    if !betterTod s side msg then s
    else
      let t := { s with pair := { s.pair with todBest := some (side % 2, msg) } }
      if msg.hops ≤ 14 then t.aqSend (1 - side % 2) (.tod { msg with hops := msg.hops + 1 }) else t) := by
  show execTodMessageRx side msg true s = _
  rw [execTodMessageRx]
  exact congrArg _ ((if_neg (by decide)).trans (if_neg (by simp [todSource, h])))

theorem todMessageRx_worse (h : s.cap R.AQL_PAIR_CTL.tod_src ≠ 1) {d : Nat} {m : TodMsg} (hb : s.pair.todBest = some (d, m))
    (hm : m.hops < msg.hops ∨ (msg.hops = m.hops ∧ d ≤ side % 2)) : exec (.todMessageRx side msg true) s = .next s := by
  rw [exec_todMessageRx h, if_pos]
  simp only [betterTod, hb]
  rcases hm with hm | ⟨hm, hd⟩
  · simp [show ¬ msg.hops < m.hops by omega, show msg.hops ≠ m.hops by omega]
  · simp [hm, show ¬ side % 2 < d by omega]

/-- The message to follow is the first of its frame, or has fewer hops than the one before it. -/
theorem betterTod_of (hb : s.pair.todBest = none
    ∨ ∃ d m, s.pair.todBest = some (d, m) ∧ (msg.hops < m.hops ∨ (msg.hops = m.hops ∧ side % 2 < d))) : betterTod s side msg = true := by
  rcases hb with hb | ⟨d, m, hb, hm⟩
  · simp only [betterTod, hb]
  · simpa [betterTod, hb] using hm

section
variable (h : s.cap R.AQL_PAIR_CTL.tod_src ≠ 1) (hb : betterTod s side msg = true) {t : State}
  (ht : t = { s with pair := { s.pair with todBest := some (side % 2, msg) } })
include h hb ht

theorem todMessageRx_forwarded (hh : msg.hops ≤ 14) :
    exec (.todMessageRx side msg true) s = .next (t.aqSend (1 - side % 2) (.tod { msg with hops := msg.hops + 1 })) := by
  rw [exec_todMessageRx h, if_neg (by simp [hb]), ← ht]
  exact congrArg _ (if_pos hh)

theorem todMessageRx_last (hh : 14 < msg.hops) : exec (.todMessageRx side msg true) s = .next t := by
  rw [exec_todMessageRx h, if_neg (by simp [hb]), ← ht]
  exact congrArg _ (if_neg (by omega))

end

theorem todHoldover_raised (hc : usesChain s = true) (hm : 8 ≤ s.pair.todMiss) (hh : s.flag R.AQL_PAIR_STATUS.holdover = false) :
    exec .todHoldover s = .next ((((s.setFlag R.AQL_PAIR_STATUS.holdover true).level 0x10CB true 0).bump 0x2783).setFld
      R.AQL_PAIR_STATUS.tod_hops 15) := by
  show execTodHoldover s = _
  rw [execTodHoldover, if_neg (by simp [hc, hm, hh])]

theorem todHoldover_ignored (h : usesChain s = false ∨ s.pair.todMiss < 8 ∨ s.flag R.AQL_PAIR_STATUS.holdover = true) :
    exec .todHoldover s = .next s := by
  show execTodHoldover s = _
  rw [execTodHoldover, if_pos]
  rcases h with h | h | h <;> simp [h]

/-! ### Edges of 1PPS (R532 to R536) -/

theorem ppsLost_ignored (h : usesPps s = false) : exec .ppsLost s = .next s := by
  show execPpsLost s = _
  rw [execPpsLost, if_pos (by simp [h])]

theorem ppsLost_raised (h : usesPps s = true) :
    exec .ppsLost s = .next ((({ s with tod := { s.tod with first := true } } : State).setFlag R.TOD_STATUS.pps_lost true).level 0x1010 true 0) := by
  show execPpsLost s = _
  rw [execPpsLost, if_neg (by simp [h])]

theorem ppsEdge_ignored (h : usesPps s = false) : exec (.ppsEdge interval err after) s = .next s := by
  show execPpsEdge interval err after s = _
  rw [execPpsEdge, if_pos (by simp [h])]

/-- An edge out of its interval is counted and nothing else (R534). -/
theorem ppsEdge_rejected (h : usesPps s = true) (hf : s.tod.first = false) (hi : interval < 999000000 ∨ 1001000000 < interval) :
    exec (.ppsEdge interval err after) s = .next (s.bump 0x2C03) := by
  show execPpsEdge interval err after s = _
  rw [execPpsEdge, if_neg (by simp [h]), if_pos (by simpa [hf] using hi)]
  rfl

/-- An edge is accepted: the loss of 1PPS ends. -/
def State.edgeSeen (s : State) : State :=
  (({ s with tod := { s.tod with first := false } } : State).setFlag R.TOD_STATUS.pps_lost false).level 0x1010 false 0

theorem exec_ppsEdge_accepted (h : usesPps s = true) (ha : s.tod.first = true ∨ (999000000 ≤ interval ∧ interval ≤ 1001000000)) {u : State}
    (hu : u = s.edgeSeen.armedEdge after) : exec (.ppsEdge interval err after) s = .next (
      if u.tod.alignDue then u.alignEdge after else if u.flag R.TOD_STATUS.aligned then u.measureEdge err else u) := by
  have hacc : ¬ (!s.tod.first && (decide (interval < 999000000) || decide (1001000000 < interval))) = true := by
    rcases ha with ha | ⟨h1, h2⟩
    · simp [ha]
    · simp [show ¬ interval < 999000000 by omega, show ¬ 1001000000 < interval by omega]
  show execPpsEdge interval err after s = _
  subst hu
  rw [execPpsEdge, if_neg (by simp [h]), if_neg hacc]
  rfl

/-- The seconds armed become the time at the edge, and nothing else does. -/
theorem eq_armedEdge {t u : State} (h0 : t.tod.armed = false → u = t) (h1 : t.tod.armed = true → u = { t with tod := { t.tod with
      armed := false,
      time := ((t.fld R.TOD_NEXT_SEC_1.sec_hi * 2 ^ 32 + t.fld R.TOD_NEXT_SEC_0.sec_lo) * 1000000000 : Nat) - (after : Int) } }) :
    u = t.armedEdge after := by
  cases ha : t.tod.armed
  case false => rw [State.armedEdge, if_pos (by simp [ha]), h0 ha]
  case true => rw [State.armedEdge, if_neg (by simp [ha]), h1 ha]

theorem measureEdge_out {x u : State} (hx : x = u.setFld R.TOD_STATUS.pps_err (err % 2 ^ 24).toNat)
    (ht : x.fld R.TOD_CTRL.pps_tol = u.fld R.TOD_CTRL.pps_tol) (h : u.fld R.TOD_CTRL.pps_tol < err.natAbs) :
    u.measureEdge err = (x.bump 0x2C04).pulse 0x1011 (err % 2 ^ 24).toNat := by
  rw [State.measureEdge, ← hx]
  exact if_pos (ht ▸ h)

theorem measureEdge_within {x u : State} (hx : x = u.setFld R.TOD_STATUS.pps_err (err % 2 ^ 24).toNat)
    (ht : x.fld R.TOD_CTRL.pps_tol = u.fld R.TOD_CTRL.pps_tol) (h : err.natAbs ≤ u.fld R.TOD_CTRL.pps_tol) : u.measureEdge err = x := by
  rw [State.measureEdge, ← hx]
  exact if_neg (by omega)

/-- The tick after an aligning edge lies within one cycle of its phase (R533). -/
theorem alignNs_bounds (phase o : Nat) : (((phase : Int) - 1) * 125000) / 19440 < alignNs phase o
    ∧ alignNs phase o ≤ (((phase : Int) + 1) * 125000) / 19440 := by
  unfold alignNs
  dsimp only
  generalize hlo : (((phase : Int) - 1) * 125000) / 19440 = lo
  generalize hhi : (((phase : Int) + 1) * 125000) / 19440 = hi
  have hle : lo + 1 ≤ hi := by omega
  have hmod : o % ((hi - (lo + 1)).toNat + 1) < (hi - (lo + 1)).toNat + 1 := Nat.mod_lt _ (by omega)
  omega

/-! ### Writes of TOD_CTRL and TOD_FC_SET_1 (R533, R535 to R537) -/

theorem exec_todAlign (h : Reaches s src R.TOD_CTRL.addr) : exec (.todAlign src v) s = .next (s.todCtrlWrite v) :=
  congrArg Host.Outcome.next (accessed_of_reaches h _)

theorem exec_todArmSec (h : Reaches s src R.TOD_CTRL.addr) : exec (.todArmSec src v) s = .next (s.todCtrlWrite v) :=
  congrArg Host.Outcome.next (accessed_of_reaches h _)

/-- The enable, the tracking and the tolerance that a write of TOD_CTRL sets. -/
def State.ctrlFields (s : State) (v : Nat) : State :=
  ((s.setFlag R.TOD_CTRL.pps_en (bitAt v 31)).setFlag R.TOD_CTRL.pps_track (bitAt v 30)).setFld R.TOD_CTRL.pps_tol (bitsOf v 15 0)

/-- A change of the enable starts the first edge and the alignment anew. -/
def State.ctrlEnable (s : State) (v : Nat) : State :=
  if bitAt v 31 ≠ s.flag R.TOD_CTRL.pps_en then
    ({ s.ctrlFields v with tod := { (s.ctrlFields v).tod with first := true } } : State).setFlag R.TOD_STATUS.aligned false
  else s.ctrlFields v

/-- The alignment and the arming that a write of TOD_CTRL asks for. -/
def State.ctrlAsk (u : State) (v : Nat) : State :=
  { u with tod := { u.tod with alignDue := u.tod.alignDue || bitAt v 29, armed := u.tod.armed || bitAt v 28 } }

theorem todCtrlWrite_eq : s.todCtrlWrite v =
    if bitsOf v 15 0 = 0 || (bitAt v 29 && !(allOff s && usesPps s)) then s.refuseTod else (s.ctrlEnable v).ctrlAsk v := by
  unfold State.todCtrlWrite State.ctrlEnable State.ctrlAsk State.ctrlFields
  dsimp only

theorem todCtrlWrite_refused (h : bitsOf v 15 0 = 0 ∨ (bitAt v 29 = true ∧ (allOff s = false ∨ usesPps s = false))) :
    s.todCtrlWrite v = s.setFlag R.TOD_STATUS.cfg_err true := by
  rw [todCtrlWrite_eq, if_pos, State.refuseTod]
  rcases h with h | ⟨h, h' | h'⟩
  · simp [h]
  · simp [h, h']
  · simp [h, h']

theorem todCtrlWrite_taken (h0 : bitsOf v 15 0 ≠ 0) (h : bitAt v 29 = false ∨ (allOff s = true ∧ usesPps s = true)) :
    s.todCtrlWrite v = (s.ctrlEnable v).ctrlAsk v := by
  rw [todCtrlWrite_eq, if_neg]
  rcases h with h | ⟨h1, h2⟩
  · simp [h0, h]
  · simp [h0, h1, h2]

theorem eq_ctrlEnable {u : State} (hsame : bitAt v 31 = s.flag R.TOD_CTRL.pps_en → u = s.ctrlFields v)
    (hnew : bitAt v 31 ≠ s.flag R.TOD_CTRL.pps_en →
      u = ({ s.ctrlFields v with tod := { (s.ctrlFields v).tod with first := true } } : State).setFlag R.TOD_STATUS.aligned false) :
    u = s.ctrlEnable v := by
  by_cases he : bitAt v 31 = s.flag R.TOD_CTRL.pps_en
  · rw [hsame he, State.ctrlEnable, if_neg (not_not.mpr he)]
  · rw [hnew he, State.ctrlEnable, if_pos he]

theorem exec_todFcSet (h : Reaches s src R.TOD_FC_SET_1.addr) : exec (.todFcSet src v) s = .next (s.todFcSet v) :=
  congrArg Host.Outcome.next (accessed_of_reaches h _)

theorem todFcSet_refused (hv : bitAt v 31 = true) (h : allOff s = false ∨ usesChain s = true) :
    s.todFcSet v = s.setFlag R.TOD_STATUS.cfg_err true := by
  rw [State.todFcSet]
  refine if_pos ?_
  rcases h with h | h <;> simp [hv, h]

theorem todFcSet_goes (hv : bitAt v 31 = true) (ho : allOff s = true) (hc : usesChain s = false) {t : State}
    (ht : t = s.setFld R.TOD_FC_SET_1.set_hi (bitsOf v 18 0)) :
    s.todFcSet v = ({ t with tod := { t.tod with fcDue := true } } : State).setFlag R.TOD_STATUS.fc_pending true := by
  rw [State.todFcSet, ← ht]
  exact (if_neg (by simp [ho, hc])).trans (if_pos hv)

theorem todFcSet_writes (hv : bitAt v 31 = false) : s.todFcSet v = s.setFld R.TOD_FC_SET_1.set_hi (bitsOf v 18 0) := by
  rw [State.todFcSet]
  exact (if_neg (by simp [hv])).trans (if_neg (by simp [hv]))

end

/-- Settles O54: the phases of a tick and its time, then the messages, edges and writes by the device's source of time. -/
theorem theFrameTickAndTheTimeOfDay : Obligations.TheFrameTickAndTheTimeOfDay := by
  unfold Obligations.TheFrameTickAndTheTimeOfDay
  intro s obs side msg interval after err src v
  refine ⟨frameTick_fenced, fun h c l k hc hl => frameTick_runs h hc hl, fun k c hk => ?ledgers, fun c m h => ?time, todMessageRx_bad,
    todMessageRx_source, fun h => ⟨fun d m hb => todMessageRx_worse h hb, fun t ht hb =>
      ⟨todMessageRx_forwarded h (betterTod_of hb) ht, todMessageRx_last h (betterTod_of hb) ht⟩⟩, todHoldover_raised, todHoldover_ignored,
    fun h => ⟨ppsEdge_ignored h, ppsLost_ignored h⟩, fun h => ⟨ppsLost_raised h, ppsEdge_rejected h, fun ha t u ht h0 h1 => ?edge⟩,
    alignNs_bounds, fun h => ⟨fun hv t ht => ?refused, fun hv hal t u ht hsame hnew r hr => ?taken⟩,
    fun h => ⟨fun hv ho => ?_, fun hv ho hc t ht => ?_, fun hv => ?_⟩⟩
  case ledgers =>
    subst hk
    exact ⟨fun p h => (sampleLedgers_ports c p).trans (portCauses_of_skipped h),
      fun p hg hf hr hm => (sampleLedgers_ports c p).symm ▸ grantSlots_cause hg hf hr hm⟩
  case time =>
    refine ⟨todTick_tick h, ?_, ?_, todTick_fc_set h⟩
    · rintro rfl
      exact ⟨todTick_time h, todTick_fc h⟩
    · rintro x rfl
      exact ⟨todTick_time h, todTick_fc h⟩
  case edge =>
    obtain rfl : t = s.edgeSeen := ht
    have hedge := exec_ppsEdge_accepted (err := err) h ha (eq_armedEdge h0 h1)
    refine ⟨fun hd => hedge.trans (congrArg _ (if_pos hd)), fun hd hal x hx => ?_, fun hd hal => hedge.trans (congrArg _ ?_)⟩
    · have hmeasured := hedge.trans (congrArg _ ((if_neg (by simp [hd])).trans (if_pos hal)))
      exact ⟨fun hout htol => hmeasured.trans (congrArg _ (measureEdge_out hx htol hout)),
        fun hin htol => hmeasured.trans (congrArg _ (measureEdge_within hx htol hin))⟩
    · exact (if_neg (by simp [hd])).trans (if_neg (by simp [hal]))
  case refused =>
    rw [exec_todAlign h, exec_todArmSec h, todCtrlWrite_refused hv, ht]
    exact ⟨rfl, rfl⟩
  case taken =>
    subst ht
    rw [exec_todAlign h, exec_todArmSec h, todCtrlWrite_taken hv hal, hr, eq_ctrlEnable hsame hnew, State.ctrlAsk]
    exact ⟨rfl, rfl⟩
  · rw [exec_todFcSet h, todFcSet_refused hv ho]
  · rw [exec_todFcSet h, todFcSet_goes hv ho hc ht]
  · rw [exec_todFcSet h, todFcSet_writes hv]

end Sys2Proof.Machine
end

section
/-!
Region, hub and line-die resets and the clearing of the repair-map delta (R24, R56, R493 to R499).
-/
namespace Sys2Proof.Machine

section
variable {s : State} {p : Port} {src v : Nat}

/-! ### Requests (R495) -/

theorem requestRegion_eq (m : Nat) (cold : Bool) : s.requestRegion m cold = s.forPorts (fun t q =>
    if bitAt m q.val then t.modReset q (fun r => if cold then { r with coldReq := true } else { r with warmReq := true }) else t) := rfl

/-- PF0 and the sideband name any ports, in RST_PORT_RESET. -/
theorem resetReq_of_hub (h : src = 0 ∨ 8 < src) (m : Nat) : resetReqAddr src = R.RST_PORT_RESET.addr ∧ resetReqMask src m = m := by
  have hn : ¬ (decide (1 ≤ src) && decide (src ≤ 8)) = true := by
    simp only [Bool.and_eq_true, decide_eq_true_eq]
    omega
  exact ⟨if_neg hn, if_neg hn⟩

/-- A port function names its own port, in PRT_REGION_RESET. -/
theorem resetReq_of_port (p : Port) (m : Nat) : resetReqAddr (p.val + 1) = R.PRT_REGION_RESET.addr p
    ∧ resetReqMask (p.val + 1) m = if bitAt m p.val then 2 ^ p.val else 0 := by
  have hy : (decide (1 ≤ p.val + 1) && decide (p.val + 1 ≤ 8)) = true := by
    simp only [Bool.and_eq_true, decide_eq_true_eq]
    omega
  have hp : fnPort (p.val + 1) = p := by
    simp [fnPort]
  refine ⟨(if_pos hy).trans (by rw [hp]), (if_pos hy).trans ?_⟩
  rw [Nat.add_sub_cancel]

theorem exec_warmRegionResetReq (h : Reaches s src (resetReqAddr src)) :
    exec (.warmRegionResetReq src v) s = .next (s.requestRegion (resetReqMask src v) false) :=
  congrArg Host.Outcome.next (accessed_of_reaches h _)

theorem exec_coldRegionResetReq (h : Reaches s src (resetReqAddr src)) :
    exec (.coldRegionResetReq src v) s = .next (s.requestRegion (resetReqMask src v) true) :=
  congrArg Host.Outcome.next (accessed_of_reaches h _)

/-! ### The end of a region reset -/

/-- The causes of a port's fence that fence it again after a reset of a kind (Table 20-5). -/
def persisting (s : State) (p : Port) (cold : Bool) : List Nat :=
  (List.range 16).filter (fun c => bitAt (s.fld (R.PRT_FENCE_STATUS.cause_mask p)) c && causePersists cold c)

/-- The reset is over, and the fence left. -/
def State.resetOver (s : State) (p : Port) : State :=
  (((s.modReset p (fun r => { r with active := none, doneAt := 0 })).resetStatus p).clearFence p).modDba p (fun d => { d with unmapped := false })

/-- The port starts again under the ceiling of its units. -/
def State.startsAgain (a : State) (p : Port) : State := (a.restart p).setFld (R.PRT_MODE_STATUS.ceiling p) (modeCeiling a p)

/-- The end of a reset is settled with the function of the port, counted and raised. -/
def State.resetTold (t : State) (p : Port) (cold : Bool) : State :=
  ((t.setFlr (p.val + 1) false).bump (rstCtr (bit01 cold))).pulseP p 3 (bit01 cold)

theorem regionResetComplete_none (h : (s.port p).resetReq.active = none) : exec (.regionResetComplete p) s = .next s := by
  show execRegionResetComplete p s = _
  rw [execRegionResetComplete]
  dsimp only
  rw [h]

section
variable {cold : Bool} (h : (s.port p).resetReq.active = some cold)
include h

theorem exec_regionResetComplete : exec (.regionResetComplete p) s = .next (
    if s.tick < (s.port p).resetReq.doneAt then s
    else
      let u := ((s.resetOver p).startsAgain p).resetTold p cold
      if persisting s p cold ≠ [] then (u.fencePort p (persisting s p cold)).modeStatus p
      else ((u.modeCapture p).warmStarts (p.val / 4)).modeStatus p) := by
  show execRegionResetComplete p s = _
  unfold execRegionResetComplete persisting State.resetOver State.startsAgain State.resetTold
  dsimp only
  rw [h]

theorem regionResetComplete_early (ht : s.tick < (s.port p).resetReq.doneAt) : exec (.regionResetComplete p) s = .next s := by
  rw [exec_regionResetComplete h]
  exact congrArg _ (if_pos ht)

theorem regionResetComplete_fences (ht : s.tick ≥ (s.port p).resetReq.doneAt) (ha : persisting s p cold ≠ []) :
    exec (.regionResetComplete p) s
      = .next (((((s.resetOver p).startsAgain p).resetTold p cold).fencePort p (persisting s p cold)).modeStatus p) := by
  rw [exec_regionResetComplete h]
  exact congrArg _ ((if_neg (by omega)).trans (if_pos ha))

theorem regionResetComplete_resumes (ht : s.tick ≥ (s.port p).resetReq.doneAt) (ha : persisting s p cold = []) :
    exec (.regionResetComplete p) s
      = .next ((((((s.resetOver p).startsAgain p).resetTold p cold).modeCapture p).warmStarts (p.val / 4)).modeStatus p) := by
  rw [exec_regionResetComplete h]
  exact congrArg _ ((if_neg (by omega)).trans (if_neg (not_not.mpr ha)))

end

theorem rstCtr_ended (cold : Bool) : rstCtr (bit01 cold) = if cold then 0x2B01 else 0x2B00 := by
  cases cold
  · rfl
  · rfl

/-! ### Keyed writes (R499) -/

section
variable {key : Nat} {k : State → State}

theorem keyed_wrongKey (h : bitsOf v 7 0 ≠ key) : s.keyed v key k = s.bump (rstCtr 5) := if_pos h
theorem keyed_noGo (h : bitsOf v 7 0 = key) (hg : bitAt v 31 = false) : s.keyed v key k = s :=
  (if_neg (not_not.mpr h)).trans (if_neg (by simp [hg]))
theorem keyed_goes (h : bitsOf v 7 0 = key) (hg : bitAt v 31 = true) : s.keyed v key k = k s :=
  (if_neg (not_not.mpr h)).trans (if_pos hg)

end

/-! ### Hub region resets (R494) -/

/-- The ledger terms of the hub regions of a mask are dropped, and the regions are in reset. -/
def State.hubResets (s : State) (m : Nat) : State :=
  ({ s with rst := { s.rst with
      ledgers := s.rst.ledgers.filter (fun e => !(128 ≤ e.1 && e.1 < 131 && bitAt m (e.1 - 128))) } } : State).setFld
    R.RST_HUB_STATUS.hub_in_reset (s.fld R.RST_HUB_STATUS.hub_in_reset ||| m)

/-- Each hub region of a mask is reset. -/
def State.resetHub (t : State) (m : Nat) : State :=
  let t := if bitAt m 0 then t.resetData else t
  let t := if bitAt m 1 then t.resetMemory else t
  if bitAt m 2 then t.resetControl else t

theorem exec_hubRegionReset (h : Reaches s src R.RST_HUB_RESET.addr) :
    exec (.hubRegionReset src v) s = .next (s.keyed v 0xC3 (fun s => (s.hubResets (bitsOf v 10 8)).resetHub (bitsOf v 10 8))) :=
  congrArg Host.Outcome.next (accessed_of_reaches h _)

theorem resetHub_data (t : State) : t.resetHub 1 = t.resetData := by simp [State.resetHub, bitAt]
theorem resetHub_memory (t : State) : t.resetHub 2 = t.resetMemory := by simp [State.resetHub, bitAt]
theorem resetHub_control (t : State) : t.resetHub 4 = t.resetControl := by simp [State.resetHub, bitAt]
theorem resetHub_all (t : State) : t.resetHub 7 = t.resetData.resetMemory.resetControl := by simp [State.resetHub, bitAt]

/-- The regions of a mask that a report ends the reset of: the control region only once its cores run (R493). -/
def hubDone (s : State) (regions : Nat) : Nat :=
  if s.flag R.RST_STATUS.fw_running then regions &&& s.fld R.RST_HUB_STATUS.hub_in_reset
  else withBit (regions &&& s.fld R.RST_HUB_STATUS.hub_in_reset) 2 false

/-- Hub regions leave their reset, and their fences. -/
def State.leaveHub (s : State) (m : Nat) : State :=
  let t := s.setFld R.RST_HUB_STATUS.hub_in_reset (s.fld R.RST_HUB_STATUS.hub_in_reset - m)
  let f := t.fld R.GLB_STATUS.hub_fenced - (t.fld R.GLB_STATUS.hub_fenced &&& m)
  (t.setFld R.GLB_STATUS.hub_fenced f).level 0x1000 (f ≠ 0) f

/-- What hub regions have after their reset: full meters and enough queue engines, and trained memory channels. -/
def State.regainHub (u : State) (m us : Nat) : State :=
  let w := if bitAt m 0 then u.fillMeters us else u
  let x := if bitAt m 1 then w.retrain else w
  if bitAt m 0 then x.engineFence else x

section
variable {regions us m : Nat}

theorem exec_hubRegionResetDone : exec (.hubRegionResetDone regions us) s = .next (
    if hubDone s regions = 0 then s
    else ((((s.leaveHub (hubDone s regions)).regainHub (hubDone s regions) us).bump (rstCtr 2)).pulse 0x1008 (hubDone s regions))) := by
  show execHubRegionResetDone regions us s = _
  unfold execHubRegionResetDone hubDone State.leaveHub State.regainHub
  dsimp only

theorem hubRegionResetDone_ignored (h : hubDone s regions = 0) : exec (.hubRegionResetDone regions us) s = .next s := by
  rw [exec_hubRegionResetDone, if_pos h]

theorem hubRegionResetDone_ends (hm : m = hubDone s regions) (h : m ≠ 0) :
    exec (.hubRegionResetDone regions us) s = .next ((((s.leaveHub m).regainHub m us).bump 0x2B02).pulse 0x1008 m) := by
  subst hm
  rw [exec_hubRegionResetDone, if_neg h]
  rfl

theorem regainHub_control (u : State) (h0 : bitAt m 0 = false) (h1 : bitAt m 1 = false) : u.regainHub m us = u := by
  simp [State.regainHub, h0, h1]
theorem regainHub_data (u : State) (h0 : bitAt m 0 = true) (h1 : bitAt m 1 = false) :
    u.regainHub m us = (u.fillMeters us).engineFence := by
  simp [State.regainHub, h0, h1]
theorem regainHub_memory (u : State) (h0 : bitAt m 0 = false) (h1 : bitAt m 1 = true) : u.regainHub m us = u.retrain := by
  simp [State.regainHub, h0, h1]
theorem regainHub_both (u : State) (h0 : bitAt m 0 = true) (h1 : bitAt m 1 = true) :
    u.regainHub m us = (u.fillMeters us).retrain.engineFence := by
  simp [State.regainHub, h0, h1]

end

/-! ### Line-die resets (R493) -/

/-- The dies that a write names begin their reset. -/
def State.startDieResets (s : State) (v : Nat) : State :=
  let t := if bitAt v 8 then s.startDieReset 0 else s
  if bitAt v 9 then t.startDieReset 1 else t

theorem exec_lineDieReset (h : Reaches s src R.RST_DIE_RESET.addr) :
    exec (.lineDieReset src v) s = .next (s.keyed v 0xC3 (fun s => s.startDieResets v)) :=
  congrArg Host.Outcome.next (accessed_of_reaches h _)

theorem startDieResets_zero (h8 : bitAt v 8 = true) (h9 : bitAt v 9 = false) : s.startDieResets v = s.startDieReset 0 := by
  simp [State.startDieResets, h8, h9]
theorem startDieResets_one (h8 : bitAt v 8 = false) (h9 : bitAt v 9 = true) : s.startDieResets v = s.startDieReset 1 := by
  simp [State.startDieResets, h8, h9]
theorem startDieResets_both (h8 : bitAt v 8 = true) (h9 : bitAt v 9 = true) :
    s.startDieResets v = (s.startDieReset 0).startDieReset 1 := by
  simp [State.startDieResets, h8, h9]

/-- The ports of a die that has been reset start again. -/
def State.diePortsStart (s : State) (d : Nat) : State :=
  (diePorts d).foldl (fun s q =>
    let r := ((s.modReset q (fun r => { r with active := none, doneAt := 0 })).clearFence q).restart q
    (r.setFld (R.PRT_MODE_STATUS.ceiling q) (modeCeiling r q)).setFlr (q.val + 1) false)
    (s.setFld R.RST_HUB_STATUS.die_in_reset (withBit (s.fld R.RST_HUB_STATUS.die_in_reset) d false))

section
variable {d : Nat} {failed : Bool} (hd : d < 2)
include hd

theorem exec_lineDieResetDone : exec (.lineDieResetDone d failed) s = .next (
    if !bitAt (s.fld R.RST_HUB_STATUS.die_in_reset) d then s
    else
      let t := if failed then (s.diePortsStart d).loseDie d 0x0A else (s.diePortsStart d).setDieLost d false
      (t.bump (rstCtr 3)).pulse 0x1009 (2 ^ d + 2 ^ 8 * bit01 failed)) := by
  show execLineDieResetDone d failed s = _
  unfold execLineDieResetDone State.diePortsStart
  rw [Nat.mod_eq_of_lt hd]

theorem lineDieResetDone_ignored (h : bitAt (s.fld R.RST_HUB_STATUS.die_in_reset) d = false) :
    exec (.lineDieResetDone d failed) s = .next s := by
  rw [exec_lineDieResetDone hd, if_pos (by simp [h])]

theorem lineDieResetDone_up (h : bitAt (s.fld R.RST_HUB_STATUS.die_in_reset) d = true) :
    exec (.lineDieResetDone d false) s = .next ((((s.diePortsStart d).setDieLost d false).bump 0x2B03).pulse 0x1009 (2 ^ d)) := by
  rw [exec_lineDieResetDone hd, if_neg (by simp [h]), bit01, if_neg Bool.false_ne_true, if_neg Bool.false_ne_true, Nat.mul_zero, Nat.add_zero]
  rfl

theorem lineDieResetDone_lost (h : bitAt (s.fld R.RST_HUB_STATUS.die_in_reset) d = true) :
    exec (.lineDieResetDone d true) s = .next ((((s.diePortsStart d).loseDie d 0x0A).bump 0x2B03).pulse 0x1009 (2 ^ d + 2 ^ 8)) := by
  rw [exec_lineDieResetDone hd, if_neg (by simp [h]), bit01, if_pos rfl, if_pos rfl, Nat.mul_one]
  rfl

end

theorem exec_deltaClear (h : Reaches s src R.RST_DELTA_CLR.addr) :
    exec (.deltaClear src v) s = .next (s.keyed v 0x96 (fun s => s.setFlag R.RST_DELTA_STATUS.clear_pending true)) :=
  congrArg Host.Outcome.next (accessed_of_reaches h _)

end

/-- Settles O55: requests by their source, ends of resets by what persists, and the keyed writes by their keys. -/
theorem regionResetsRunFromTheirRequests : Obligations.RegionResetsRunFromTheirRequests := by
  unfold Obligations.RegionResetsRunFromTheirRequests
  intro s p src v
  refine ⟨fun hs h => ?hub, fun m h hm => ?port, regionResetComplete_none, fun cold h => ⟨regionResetComplete_early h, ?complete⟩,
    fun h => ⟨fun hk => ?_, fun hk hg => ?_, ?hubReset⟩, fun regions us m hm => ⟨fun h => ?_, ?hubDone⟩,
    ⟨fun h => if_pos h, fun h => if_neg (by omega)⟩, fun h => ⟨fun hk => ?_, fun hk hg => ⟨fun h8 h9 => ?_, fun h8 h9 => ?_, fun h8 h9 => ?_⟩⟩,
    fun d hd => ⟨fun h f => lineDieResetDone_ignored hd h, ?dieDone⟩, fun h => ⟨fun hk => ?_, fun hk hg => ?_⟩⟩
  case hub =>
    obtain ⟨ha, hm⟩ := resetReq_of_hub hs v
    rw [← ha] at h
    rw [exec_warmRegionResetReq h, exec_coldRegionResetReq h, hm]
    exact ⟨rfl, rfl⟩
  case port =>
    obtain ⟨ha, hmask⟩ := resetReq_of_port p v
    rw [← ha] at h
    rw [exec_warmRegionResetReq h, exec_coldRegionResetReq h, hmask, hm]
    exact ⟨rfl, rfl⟩
  case complete =>
    rintro ht again a t u rfl rfl rfl hu
    have hu : u = ((s.resetOver p).startsAgain p).resetTold p cold := by
      rw [hu, ← rstCtr_ended]
      rfl
    subst hu
    exact ⟨regionResetComplete_fences h ht, regionResetComplete_resumes h ht⟩
  case hubReset =>
    rintro hk hg t rfl
    rw [exec_hubRegionReset h, keyed_goes hk hg]
    refine ⟨fun hm => ?_, fun hm => ?_, fun hm => ?_, fun hm => ?_⟩
    · rw [hm, resetHub_data]
      rfl
    · rw [hm, resetHub_memory]
      rfl
    · rw [hm, resetHub_control]
      rfl
    · rw [hm, resetHub_all]
      rfl
  case hubDone =>
    rintro h t f u rfl rfl rfl
    have he := hubRegionResetDone_ends (us := us) hm h
    refine ⟨fun h0 h1 => ?_, fun h0 h1 => ?_, fun h0 h1 => ?_, fun h0 h1 => ?_⟩
    · rw [he, regainHub_control _ h0 h1]
      rfl
    · rw [he, regainHub_data _ h0 h1]
      rfl
    · rw [he, regainHub_memory _ h0 h1]
      rfl
    · rw [he, regainHub_both _ h0 h1]
      rfl
  case dieDone =>
    rintro h t rfl
    exact ⟨lineDieResetDone_up hd h, lineDieResetDone_lost hd h⟩
  · rw [exec_hubRegionReset h, keyed_wrongKey hk]
    rfl
  · rw [exec_hubRegionReset h, keyed_noGo hk hg]
  · exact hubRegionResetDone_ignored (hm.symm.trans h)
  · rw [exec_lineDieReset h, keyed_wrongKey hk]
    rfl
  · rw [exec_lineDieReset h, keyed_goes hk hg, startDieResets_zero h8 h9]
  · rw [exec_lineDieReset h, keyed_goes hk hg, startDieResets_one h8 h9]
  · rw [exec_lineDieReset h, keyed_goes hk hg, startDieResets_both h8 h9]
  · rw [exec_deltaClear h, keyed_wrongKey hk]
    rfl
  · rw [exec_deltaClear h, keyed_goes hk hg]

end Sys2Proof.Machine
end

section
/-!
Thermal measurements, thresholds, enforcement, the limit code, AVS and rails (R467 to R485).
-/
namespace Sys2Proof.Machine

section
variable {s : State} {obs : ThermObs} {src v rail die mv : Nat} {samples : List Nat}

/-! ### A measurement (R470) -/

theorem thermalMeasurement_not_due (h : measureDue s = false) : exec (.thermalMeasurement obs) s = .next s := by
  show execThermalMeasurement obs s = _
  rw [execThermalMeasurement, if_pos (by simp [h])]

/-- Enforcement by the native throttle, or by the limit code where the throttle state sets. -/
def State.limits (m : State) (was : Bool) : State :=
  if m.flag R.THM_CTRL.compat_en then (if m.flag R.THM_STATUS.throttle && !was then m.compatSet else m) else m.enforce

/-- AVS at the slow cadence, the clocks at their limit, and the levels. -/
def State.supplies (e : State) (obs : ThermObs) : State :=
  let a := if e.fc % 8 = 0 then e.avsTick obs.margins else e
  (obs.pllLimit.foldl (fun s i => s.pulse 0x1048 i) a).thmLevels

section
variable {c r : State} (h : measureDue s = true) (hc : c = s.bump 0x2A00)
  (hr : r = ((if c.flag R.THM_STATUS.fast then c.bump 0x2A01 else c).readSensors obs))
include h hc hr

theorem exec_thermalMeasurement : exec (.thermalMeasurement obs) s = .next (
    if r.thresholds.flag R.GLB_STATUS.pkg_fenced then r.thresholds.thmLevels.releaseReset
    else
      let z := ((r.thresholds.monitors obs.margins).limits (r.flag R.THM_STATUS.throttle)).supplies obs
      if z.thm.shutdown then z.packageFence 1 (((highest (readings z)).map Prod.fst).getD 0) (z.fld R.THM_STATUS.tmax) else z) := by
  subst hr hc
  show execThermalMeasurement obs s = _
  unfold execThermalMeasurement State.limits State.supplies
  rw [if_neg (by simp [h])]
  rfl

theorem thermalMeasurement_fenced (hf : r.thresholds.flag R.GLB_STATUS.pkg_fenced = true) :
    exec (.thermalMeasurement obs) s = .next r.thresholds.thmLevels.releaseReset := by
  rw [exec_thermalMeasurement h hc hr, if_pos hf]

theorem thermalMeasurement_running (hf : r.thresholds.flag R.GLB_STATUS.pkg_fenced = false) {z : State}
    (hz : z = ((r.thresholds.monitors obs.margins).limits (r.flag R.THM_STATUS.throttle)).supplies obs) :
    exec (.thermalMeasurement obs) s = .next (
      if z.thm.shutdown then z.packageFence 1 (((highest (readings z)).map Prod.fst).getD 0) (z.fld R.THM_STATUS.tmax) else z) := by
  subst hz
  rw [exec_thermalMeasurement h hc hr, if_neg (by simp [hf])]

end

theorem eq_limits {m e : State} {was : Bool} (h0 : m.flag R.THM_CTRL.compat_en = false → e = m.enforce)
    (h1 : m.flag R.THM_CTRL.compat_en = true → m.flag R.THM_STATUS.throttle = true → was = false → e = m.compatSet)
    (h2 : m.flag R.THM_CTRL.compat_en = true → m.flag R.THM_STATUS.throttle = false ∨ was = true → e = m) : e = m.limits was := by
  unfold State.limits
  cases hen : m.flag R.THM_CTRL.compat_en with
  | false => exact h0 hen
  | true =>
    rw [if_pos rfl]
    split
    next hset =>
      simp only [Bool.and_eq_true, Bool.not_eq_true'] at hset
      exact h1 hen hset.1 hset.2
    next hset =>
      refine h2 hen ?_
      simpa only [Bool.and_eq_true, Bool.not_eq_true', not_and_or, Bool.not_eq_true, Bool.not_eq_false] using hset

/-! ### The states of the thresholds (R471) -/

section
variable {k : Nat} {x : Int} (hx : x = signedOf 12 (s.fld R.THM_STATUS.tmax))
include hx

theorem thrNext_eq : thrNext s k =
    if 8 * (s.fld (R.THM_THR.theta k) : Int) ≤ x then true
    else if x < 8 * (s.fld (R.THM_THR.theta k) : Int) - 8 * (s.fld (R.THM_THR.hyst k) : Int) then false else thrState s k := by
  subst hx
  rfl

theorem thrNext_sets (h : 8 * (s.fld (R.THM_THR.theta k) : Int) ≤ x) : thrNext s k = true := by
  rw [thrNext_eq hx, if_pos h]

/-- Below the clearing point, which does not lie above the threshold. -/
theorem thrNext_clears (h : x < 8 * (s.fld (R.THM_THR.theta k) : Int) - 8 * (s.fld (R.THM_THR.hyst k) : Int)) : thrNext s k = false := by
  rw [thrNext_eq hx, if_neg (by omega), if_pos h]

theorem thrNext_holds (h : x < 8 * (s.fld (R.THM_THR.theta k) : Int))
    (hc : 8 * (s.fld (R.THM_THR.theta k) : Int) - 8 * (s.fld (R.THM_THR.hyst k) : Int) ≤ x) : thrNext s k = thrState s k := by
  rw [thrNext_eq hx, if_neg (by omega), if_neg (by omega)]

end

/-! ### Enforcement (Table 19-3) -/

section
variable (h : s.flag R.THM_STATUS.throttle = true)
include h

theorem enforce_hot_idle (hp : s.fld R.THM_STATUS.phase = 0) :
    s.enforce = ((({ s with thm := { s.thm with
      graceEnd := s.tick + 8 * s.fld R.THM_CTRL.grace_ms, stepDue := none } } : State).setFld R.THM_STATUS.phase 1).bump 0x2A02) := by
  rw [State.enforce]
  dsimp only
  rw [h, hp]
  rfl

theorem enforce_hot_lowering (hp : s.fld R.THM_STATUS.phase = 2) : s.enforce = if s.thm.stepDue.isNone then s.lowerStep else s := by
  rw [State.enforce]
  dsimp only
  rw [h, hp]
  rfl

/-- The step is named by an equation, so that the kernel meets it as a variable. -/
theorem enforce_hot_again (hp : s.fld R.THM_STATUS.phase = 3 ∨ s.fld R.THM_STATUS.phase = 4) {t : State}
    (ht : t = (s.setFld R.THM_STATUS.phase 2).lowerStep) : s.enforce = t := by
  rw [State.enforce]
  dsimp only
  rw [← ht]
  rcases hp with hp | hp
  · rw [h, hp]
    rfl
  · rw [h, hp]
    rfl

end

section
variable (h : s.flag R.THM_STATUS.throttle = false)
include h

theorem enforce_cool_grace (hp : s.fld R.THM_STATUS.phase = 1) : s.enforce = (s.setFld R.THM_STATUS.phase 0).bump 0x2A03 := by
  rw [State.enforce]
  dsimp only
  rw [h, hp]
  rfl

theorem enforce_cool_lowering (hp : s.fld R.THM_STATUS.phase = 2) :
    s.enforce = ({ s with thm := { s.thm with
      stepDue := none, holdEnd := s.tick + s.fld R.THM_RELEASE.release_frames } } : State).setFld R.THM_STATUS.phase 3 := by
  rw [State.enforce]
  dsimp only
  rw [h, hp]
  rfl

end

/-! ### Timers of enforcement and of the limit code (R473, R477) -/

section
variable (hf : s.flag R.GLB_STATUS.pkg_fenced = false)
include hf

theorem graceExpired_ends (hp : s.fld R.THM_STATUS.phase = 1) (ht : s.thm.graceEnd ≤ s.tick) :
    exec .graceExpired s = .next (({ s with thm := { s.thm with stepDue := none } } : State).setFld R.THM_STATUS.phase 2).thmLevels := by
  show execGraceExpired s = _
  rw [execGraceExpired, if_neg (by simp [hp, ht, hf])]

theorem enforcementStep_lowers {due : Nat} (hs : s.thm.stepDue = some due) (hd : due ≤ s.tick) (hp : s.fld R.THM_STATUS.phase = 2) :
    exec .enforcementStep s = .next s.lowerStep.thmLevels := by
  show execEnforcementStep s = _
  rw [execEnforcementStep]
  dsimp only
  rw [hs, if_neg (by simp [hd, hf]), hp]
  rfl

theorem enforcementStep_releases {due : Nat} (hs : s.thm.stepDue = some due) (hd : due ≤ s.tick) (hp : s.fld R.THM_STATUS.phase = 4) :
    exec .enforcementStep s = .next s.releaseStep.thmLevels := by
  show execEnforcementStep s = _
  rw [execEnforcementStep]
  dsimp only
  rw [hs, if_neg (by simp [hd, hf]), hp]
  rfl

theorem holdingExpired_releases (hp : s.fld R.THM_STATUS.phase = 3) (ht : s.thm.holdEnd ≤ s.tick) :
    exec .holdingExpired s = .next ((s.setFld R.THM_STATUS.phase 4).releaseStep).thmLevels := by
  show execHoldingExpired s = _
  rw [execHoldingExpired, if_neg (by simp [hp, ht, hf])]

theorem exec_compatCodeStep (he : s.flag R.THM_CTRL.compat_en = true) (hd : s.thm.compatDue ≤ s.tick) {t : State}
    (ht : t = { s with thm := { s.thm with compatDue := s.tick + 64 } }) :
    exec .compatCodeStep s = .next (t.compatCode
      (if t.flag R.THM_STATUS.throttle then min 15 (s.fld R.THM_COMPAT.code + 1) else s.fld R.THM_COMPAT.code - 1)) := by
  subst ht
  show execCompatCodeStep s = _
  rw [execCompatCodeStep, if_neg (by simp [he, hd, hf])]

/-! ### Rails (R482, R542) -/

theorem exec_railFault_starting (hr : s.ready = false) : exec (.railFault rail ⟨die, samples⟩) s = .next (
    if samples.any (railOutside s rail (railNominal s rail).2) then s.setFld R.RST_STATUS.stage 0 else s) := by
  show execRailFault rail ⟨die, samples⟩ s = _
  rw [execRailFault, if_neg (by simp [hf]), if_pos (by simp [hr])]

theorem railFault_restarts (hr : s.ready = false) (hx : ∃ x ∈ samples, railOutside s rail (railNominal s rail).2 x = true) :
    exec (.railFault rail ⟨die, samples⟩) s = .next (s.setFld R.RST_STATUS.stage 0) := by
  rw [exec_railFault_starting hf hr, if_pos (List.any_eq_true.mpr hx)]

theorem railFault_starting_inside (hr : s.ready = false) (hx : ∀ x ∈ samples, railOutside s rail (railNominal s rail).2 x = false) :
    exec (.railFault rail ⟨die, samples⟩) s = .next s := by
  rw [exec_railFault_starting hf hr, if_neg (by simpa using hx)]

theorem exec_railFault_ready (hr : s.ready = true) : exec (.railFault rail ⟨die, samples⟩) s = .next (
    if samples.length < 8 || !samples.all (railOutside s rail (s.fld R.THM_VMON_CTL.fault_pct)) then s
    else if die < 2 then s.loseDie die 0x0A
    else s.packageFence 2 (rail % 64) (s.fld R.THM_STATUS.tmax)) := by
  show execRailFault rail ⟨die, samples⟩ s = _
  rw [execRailFault, if_neg (by simp [hf]), if_neg (by simp [hr])]

theorem railFault_ready_inside (hr : s.ready = true)
    (hx : samples.length < 8 ∨ ∃ x ∈ samples, railOutside s rail (s.fld R.THM_VMON_CTL.fault_pct) x = false) :
    exec (.railFault rail ⟨die, samples⟩) s = .next s := by
  rw [exec_railFault_ready hf hr, if_pos (by simpa using hx)]

section
variable (hr : s.ready = true) (hl : 8 ≤ samples.length)
  (hx : ∀ x ∈ samples, railOutside s rail (s.fld R.THM_VMON_CTL.fault_pct) x = true)
include hr hl hx

theorem exec_railFault_run : exec (.railFault rail ⟨die, samples⟩) s = .next (
    if die < 2 then s.loseDie die 0x0A else s.packageFence 2 (rail % 64) (s.fld R.THM_STATUS.tmax)) := by
  rw [exec_railFault_ready hf hr, if_neg]
  simpa [hl] using hx

theorem railFault_losesDie (hd : die < 2) : exec (.railFault rail ⟨die, samples⟩) s = .next (s.loseDie die 0x0A) := by
  rw [exec_railFault_run hf hr hl hx, if_pos hd]

theorem railFault_fencesPackage (hd : 2 ≤ die) :
    exec (.railFault rail ⟨die, samples⟩) s = .next (s.packageFence 2 (rail % 64) (s.fld R.THM_STATUS.tmax)) := by
  rw [exec_railFault_run hf hr hl hx, if_neg (by omega)]

end

end

theorem railOutside_iff {pct : Nat} : railOutside s rail pct mv = true
    ↔ pct * (railNominal s rail).1 < 100 * ((mv : Int) - ((railNominal s rail).1 : Int)).natAbs := decide_eq_true_iff

/-! ### What a fenced package ignores (R479) -/

section
variable (hf : s.flag R.GLB_STATUS.pkg_fenced = true)
include hf

theorem graceExpired_fenced : exec .graceExpired s = .next s := by
  show execGraceExpired s = _
  rw [execGraceExpired, if_pos (by simp [hf])]

theorem enforcementStep_fenced : exec .enforcementStep s = .next s := by
  show execEnforcementStep s = _
  rw [execEnforcementStep]
  dsimp only
  rw [if_pos (by simp [hf])]

theorem holdingExpired_fenced : exec .holdingExpired s = .next s := by
  show execHoldingExpired s = _
  rw [execHoldingExpired, if_pos (by simp [hf])]

theorem compatCodeStep_fenced : exec .compatCodeStep s = .next s := by
  show execCompatCodeStep s = _
  rw [execCompatCodeStep]
  dsimp only
  rw [if_pos (by simp [hf])]

theorem railFault_fenced : exec (.railFault rail ⟨die, samples⟩) s = .next s := by
  show execRailFault rail ⟨die, samples⟩ s = _
  rw [execRailFault, if_pos hf]

end

theorem enforcementStep_idle (h : s.thm.stepDue = none) : exec .enforcementStep s = .next s := by
  show execEnforcementStep s = _
  rw [execEnforcementStep]
  dsimp only
  rw [h, if_pos (by simp)]

/-! ### AVS writes that fail (R485), supply warnings and the shutdown record -/

section
variable {r old : Nat} (hr : r < 3) (ho : old = Tab.get (fun _ => 0) s.thm.avsPrev r)
include hr ho

theorem exec_avsWriteFailed {t : State} (ht : t = { s with thm := { s.thm with
      avsPrev := Tab.set (fun _ => 0) s.thm.avsPrev r 0, avsOff := s.thm.avsOff.filter (· ≠ r) ++ [r] } }) :
    exec (.avsWriteFailed r) s = .next (if old = 0 then s
      else (((((t.setFld (R.THM_AVS_TARGET.target_mv r) old).avsEnds r).setFlag (R.THM_AVS_STATUS.fault r) true).bump (thmCtr 9)).pulse
        0x1047 r)) := by
  subst ht ho
  show execAvsWriteFailed r s = _
  rw [execAvsWriteFailed, Nat.mod_eq_of_lt hr]

theorem avsWriteFailed_ignored (h : old = 0) : exec (.avsWriteFailed r) s = .next s := by
  rw [exec_avsWriteFailed hr ho rfl, if_pos h]

theorem avsWriteFailed_faults (h : old ≠ 0) {t : State} (ht : t = { s with thm := { s.thm with
      avsPrev := Tab.set (fun _ => 0) s.thm.avsPrev r 0, avsOff := s.thm.avsOff.filter (· ≠ r) ++ [r] } }) :
    exec (.avsWriteFailed r) s
      = .next (((((t.setFld (R.THM_AVS_TARGET.target_mv r) old).avsEnds r).setFlag (R.THM_AVS_STATUS.fault r) true).bump 0x2A09).pulse
          0x1047 r) := by
  rw [exec_avsWriteFailed hr ho ht, if_neg h]
  rfl

end

theorem voltageWarning_raised (h : railOutside s rail (s.fld R.THM_VMON_CTL.warn_pct) mv = true) :
    exec (.voltageWarning ⟨rail, mv⟩) s = .next ((s.bump 0x2A0A).pulse 0x1046 (rail % 256)) := by
  show execVoltageWarning ⟨rail, mv⟩ s = _
  rw [execVoltageWarning, if_pos h]
  rfl

theorem voltageWarning_inside (h : railOutside s rail (s.fld R.THM_VMON_CTL.warn_pct) mv = false) :
    exec (.voltageWarning ⟨rail, mv⟩) s = .next s := by
  show execVoltageWarning ⟨rail, mv⟩ s = _
  rw [execVoltageWarning, if_neg (by simp [h])]

theorem exec_thmSdClr (h : Reaches s src R.THM_SD_CLR.addr) : exec (.thmSdClr src v) s = .next (
    if bitsOf v 7 0 ≠ 0x5A || !bitAt v 31 then s
    else ((((s.setReg R.THM_SD_0.addr 0).setReg R.THM_SD_1.addr 0).setReg R.THM_SD_2.addr 0).setFlag R.THM_STATUS.sd_record false).level
      0x1049 false 0) :=
  congrArg Host.Outcome.next (accessed_of_reaches h _)

theorem thmSdClr_ignored (h : Reaches s src R.THM_SD_CLR.addr) (hk : bitsOf v 7 0 ≠ 0x5A ∨ bitAt v 31 = false) :
    exec (.thmSdClr src v) s = .next s := by
  rw [exec_thmSdClr h, if_pos (by simpa using hk)]

theorem thmSdClr_clears (h : Reaches s src R.THM_SD_CLR.addr) (hk : bitsOf v 7 0 = 0x5A) (hg : bitAt v 31 = true) :
    exec (.thmSdClr src v) s = .next (((((s.setReg R.THM_SD_0.addr 0).setReg R.THM_SD_1.addr 0).setReg R.THM_SD_2.addr 0).setFlag
      R.THM_STATUS.sd_record false).level 0x1049 false 0) := by
  rw [exec_thmSdClr h, if_neg (by simp [hk, hg])]

end

/-- Settles O57: a measurement by its parts, the timers by phase and due time, and rails by their windows. -/
theorem thermalMeasurementsEnforceAndShutDown : Obligations.ThermalMeasurementsEnforceAndShutDown := by
  unfold Obligations.ThermalMeasurementsEnforceAndShutDown
  intro s obs src v rail die mv samples
  refine ⟨thermalMeasurement_not_due, fun h c r t hc hr ht => ?measurement, fun k x hx => ⟨thrNext_sets hx, thrNext_clears hx, thrNext_holds hx⟩,
    fun h => ⟨enforce_hot_idle h, fun hp hd => ?lowers, fun hp hd => ?waits, fun hp => enforce_hot_again h hp rfl⟩,
    fun h => ⟨enforce_cool_grace h, enforce_cool_lowering h⟩,
    fun hf => ⟨graceExpired_ends hf, fun due hs hd => ⟨enforcementStep_lowers hf hs hd, enforcementStep_releases hf hs hd⟩,
      holdingExpired_releases hf, fun he hd t ht hthr => ?code, fun hr => ⟨railFault_restarts hf hr, railFault_starting_inside hf hr⟩,
      fun hr => ⟨fun hl hx => ⟨railFault_losesDie hf hr hl hx, railFault_fencesPackage hf hr hl hx⟩, railFault_ready_inside hf hr⟩⟩,
    fun pct => railOutside_iff,
    fun hf => ⟨graceExpired_fenced hf, enforcementStep_fenced hf, holdingExpired_fenced hf, compatCodeStep_fenced hf, railFault_fenced hf⟩,
    enforcementStep_idle, fun r old hr ho => ⟨avsWriteFailed_ignored hr ho, fun h t ht => avsWriteFailed_faults hr ho h ht⟩,
    voltageWarning_raised, voltageWarning_inside, fun h => ⟨thmSdClr_ignored h, thmSdClr_clears h⟩⟩
  case measurement =>
    subst ht
    refine ⟨thermalMeasurement_fenced h hc hr, ?_⟩
    rintro hf m e a z rfl h0 h1 h2 rfl hz
    have he := eq_limits h0 h1 h2
    subst he
    have hrun := thermalMeasurement_running h hc hr hf hz
    exact ⟨fun hs => by rw [hrun, if_neg (by simp [hs])], fun hs => by rw [hrun, if_pos hs]⟩
  case lowers => rw [enforce_hot_lowering h hp, if_pos (by simp [hd])]
  case waits => rw [enforce_hot_lowering h hp, if_neg (by simpa using hd)]
  case code =>
    have he := exec_compatCodeStep hf he hd ht
    rw [hthr] at he
    exact ⟨fun h => by rw [he, if_pos h], fun h => by rw [he, if_neg (by simp [h])]⟩

end Sys2Proof.Machine
end

section
/-!
Calibration of the receive converters (R69 to R85): its windows and estimators, spares being trimmed, the reference trim, and foreground calibration.
-/
namespace Sys2Proof.Machine

section
variable {s : State} {p : Port}

/-! ### What the operations leave alone -/

theorem fld_setFld_of_addr_ne {f g : RegField} (h : g.addr ≠ f.addr) (v : Nat) : (s.setFld f v).fld g = s.fld g := by
  simp [State.fld, State.setFld, State.reg_setReg_other _ h]

theorem fld_sourceInput (id : Nat) (b : Bool) (info : Nat) (f : RegField) : (s.sourceInput id b info).fld f = s.fld f := by
  obtain ⟨e, c, h⟩ := sourceInput_shape s id b info
  rw [h]
  rfl

/-- An occurrence reaches no register but the one of its mirror bit (R363). -/
theorem fld_pulse_of_mirror {id a i info : Nat} {f : RegField} (h : mirrorBit id = some (a, i)) (hf : f.addr ≠ a) :
    (s.pulse id info).fld f = s.fld f := by
  rw [State.pulse, fld_sourceInput, fld_sourceInput, State.recordMirror, h]
  simp [State.fld, State.reg_setReg_other _ hf]

theorem port_pulse (id info : Nat) (r : Port) : (s.pulse id info).port r = s.port r := by
  obtain ⟨_, _, _, h⟩ := pulse_shape s id info
  rw [h]
  rfl

theorem fld_followStages (l : List (Nat × List Int)) (f : RegField) : (s.followStages p l).fld f = s.fld f := by
  unfold State.followStages
  split
  · rfl
  · rfl

theorem prot_qualify (est n : Nat) : ((s.qualify p est n).port p).prot = (s.port p).prot := by
  simp [State.qualify, State.modCnv]

/-! ### A calibration window (R72, R75) -/

/-- A window that is not skipped is counted with its samples, ends a standby's run of skipped windows, and tells the stage corrections. -/
def State.windowStarts (s : State) (p : Port) (start : Nat) (l : List (Nat × List Int)) : State :=
  (if (s.port p).prot.role = .standby then
    ((s.bumpP p 0x43).qualify p 0 (2 * (start + 4))).setFld (R.CNV_STATUS.skip_run p) 0
  else (s.bumpP p 0x43).qualify p 0 (2 * (start + 4))).followStages p l

theorem fld_windowStarts {start : Nat} {l : List (Nat × List Int)} {f : RegField} (h : f.addr ≠ R.CNV_STATUS.addr p) :
    (s.windowStarts p start l).fld f = s.fld f := by
  rw [State.windowStarts, fld_followStages]
  split
  · exact fld_setFld_of_addr_ne h 0
  · rfl

theorem cnvRuns_windowStarts {start : Nat} {l : List (Nat × List Int)} :
    cnvRuns (s.windowStarts p start l) p = cnvRuns s p := by
  have hmode : (R.PRT_MODE_STATUS.eff_power_mode p).addr ≠ R.CNV_STATUS.addr p := by
    simp [R.PRT_MODE_STATUS.eff_power_mode, R.PRT_MODE_STATUS.addr, R.CNV_STATUS.addr, portBlock]
  have hcause : (R.PRT_FENCE_STATUS.cause_mask p).addr ≠ R.CNV_STATUS.addr p := by
    simp [R.PRT_FENCE_STATUS.cause_mask, R.PRT_FENCE_STATUS.addr, R.CNV_STATUS.addr, portBlock]
  rw [cnvRuns, State.receiving, State.mode, fld_windowStarts hmode, fld_windowStarts hcause]
  rfl

theorem calWindowUpdate_ignored {obs : CalObs} (h : s.mapCal p = none ∨ s.receiving p = false ∨ s.inReset p = true) :
    exec (.calWindowUpdate p obs) s = .next s := by
  show execCalWindowUpdate p obs s = _
  unfold execCalWindowUpdate
  split
  · rfl
  next hcal => rw [if_pos (by simpa [hcal] using h)]

theorem exec_calWindowUpdate {obs : CalObs} {start len : Nat} (hcal : s.mapCal p = some (start, len)) (hr : s.receiving p = true)
    (hi : s.inReset p = false) :
    exec (.calWindowUpdate p obs) s = .next (if cnvRuns s p then (s.windowStarts p start obs.stages).calibrate p obs
      else s.windowStarts p start obs.stages) := by
  show execCalWindowUpdate p obs s = _
  rw [execCalWindowUpdate, hcal]
  dsimp only
  rw [if_neg (by simp [hr, hi]), prot_qualify, State.bumpP_port, ← State.windowStarts, cnvRuns_windowStarts]

theorem calWindowUpdate_held {obs : CalObs} {start len : Nat} (hcal : s.mapCal p = some (start, len)) (hr : s.receiving p = true)
    (hi : s.inReset p = false) (hc : bitAt (s.fld (R.PRT_FENCE_STATUS.cause_mask p)) 7 = true) :
    exec (.calWindowUpdate p obs) s = .next (s.windowStarts p start obs.stages) := by
  rw [exec_calWindowUpdate hcal hr hi, if_neg (by simp [cnvRuns, hc])]

theorem calWindowUpdate_calibrates {obs : CalObs} {start len : Nat} (hcal : s.mapCal p = some (start, len)) (hr : s.receiving p = true)
    (hi : s.inReset p = false) (hc : bitAt (s.fld (R.PRT_FENCE_STATUS.cause_mask p)) 7 = false) :
    exec (.calWindowUpdate p obs) s = .next ((s.windowStarts p start obs.stages).calibrate p obs) := by
  rw [exec_calWindowUpdate hcal hr hi, if_pos (by simp [cnvRuns, hr, hc])]

/-! ### Estimators (R77, R78) -/

/-- A step against a measure: away from it by its sign. -/
theorem stepped_eq_sub_sign {m : Int} (h : m ≠ 0) (x d : Int) : (if 0 < m then x - d else x + d) = x - m.sign * d := by
  rcases Int.lt_or_gt_of_ne h with hm | hm
  · rw [if_neg (by omega), Int.sign_eq_neg_one_of_neg hm]
    omega
  · rw [if_pos hm, Int.sign_eq_one_of_pos hm]
    omega

section
variable {u est : Nat} {m : Int}

theorem estimate_of_off (h : bitAt (s.fld (R.CNV_CTRL.bg_en p)) est = false) : s.estimate p u est m = s := by
  simp [State.estimate, h]

theorem estimate_of_few (h : bitAt (s.fld (R.CNV_CTRL.bg_en p)) est = true) (he : est < 3)
    (hn : Tab.get (fun _ => 0) (s.port p).cnv.samples (u * 4 + est) < 2 ^ 20) : s.estimate p u est m = s.bumpP p 0x46 := by
  rw [State.estimate]
  dsimp only
  rw [if_neg (by simp [h]), if_pos (by simp only [he, hn, decide_true, Bool.and_self])]

section
variable {t : State} (h : bitAt (s.fld (R.CNV_CTRL.bg_en p)) est = true)
  (hn : est = 3 ∨ 2 ^ 20 ≤ Tab.get (fun _ => 0) (s.port p).cnv.samples (u * 4 + est))
  (ht : t = s.modCnv p (fun c => { c with samples := Tab.set (fun _ => 0) c.samples (u * 4 + est) 0 }))
include h hn ht

/-- With samples enough they start again, and what follows is by the measure. -/
theorem estimate_of_enough : s.estimate p u est m = if m = 0 then t else
    let y := coef t p u est - m.sign * (if est = 2 then (2 : Int) ^ t.fld (R.CNV_CTRL.skew_step p) else 1)
    if (coefLimits est).1 ≤ y ∧ y ≤ (coefLimits est).2 then t.setCoef p u est y
    else if coef t p u est = (coefLimits est).1 ∨ coef t p u est = (coefLimits est).2 then
      t.modCnv p (fun c => { c with
        limitRun := Tab.set (fun _ => 0) c.limitRun (u * 4 + est) (Tab.get (fun _ => 0) c.limitRun (u * 4 + est) + 1) })
    else t := by
  have hfew : ¬ (est < 3 && Tab.get (fun _ => 0) (s.port p).cnv.samples (u * 4 + est) < 2 ^ 20) = true := by
    simp only [Bool.and_eq_true, decide_eq_true_iff]
    omega
  rw [State.estimate]
  dsimp only
  rw [if_neg (by simp [h]), if_neg hfew, ← ht]
  split
  · rfl
  next hm => simp only [stepped_eq_sub_sign hm, Bool.and_eq_true, Bool.or_eq_true, decide_eq_true_iff]

theorem estimate_of_zero (hm : m = 0) : s.estimate p u est m = t := by
  rw [estimate_of_enough h hn ht, if_pos hm]

variable {y : Int} (hm : m ≠ 0)
  (hy : y = coef t p u est - m.sign * (if est = 2 then (2 : Int) ^ t.fld (R.CNV_CTRL.skew_step p) else 1))
include hm hy

theorem estimate_moves (hlo : (coefLimits est).1 ≤ y) (hhi : y ≤ (coefLimits est).2) :
    s.estimate p u est m = t.setCoef p u est y := by
  rw [estimate_of_enough h hn ht, if_neg hm, ← hy]
  exact if_pos ⟨hlo, hhi⟩

/-- A step past a limit is not taken; asked for at the limit it counts towards failure. -/
theorem estimate_limited (hout : y < (coefLimits est).1 ∨ (coefLimits est).2 < y) :
    s.estimate p u est m = if coef t p u est = (coefLimits est).1 ∨ coef t p u est = (coefLimits est).2 then
      t.modCnv p (fun c => { c with
        limitRun := Tab.set (fun _ => 0) c.limitRun (u * 4 + est) (Tab.get (fun _ => 0) c.limitRun (u * 4 + est) + 1) })
    else t := by
  rw [estimate_of_enough h hn ht, if_neg hm, ← hy]
  exact if_neg (by omega)

end

end

/-! ### Spares being trimmed (R79) -/

section
variable {a : Nat} {obs : CalObs} {m t : FgUnit} {w : State} (h : cnvUnit s p a = 2)
  (hw : w = s.setFld (R.CNV_UNIT.subst_windows p a) (s.fld (R.CNV_UNIT.subst_windows p a) + 1))
  (hf : obs.spares.find? (fun x => x.1.unit == a) = some (m, t))
include h hw hf

theorem spareWindow_of_trimmed : s.spareWindow p obs a =
    if converged (w.trimSpare p m) p a t then (w.trimSpare p m).switchPhase p ((w.trimSpare p m).fld (R.CNV_UNIT.phase p a)) a
    else if m.fails ≠ 0 then (w.trimSpare p m).spareFailed p a m.fails
    else if 4 ≤ s.fld (R.CNV_UNIT.subst_windows p a) + 1 then (w.trimSpare p m).spareFailed p a (2 ^ 8)
    else w.trimSpare p m := by
  rw [State.spareWindow, if_neg (not_not.mpr h)]
  dsimp only
  rw [hf, ← hw]

theorem spareWindow_switches (hc : converged (w.trimSpare p m) p a t = true) :
    s.spareWindow p obs a = (w.trimSpare p m).switchPhase p ((w.trimSpare p m).fld (R.CNV_UNIT.phase p a)) a := by
  rw [spareWindow_of_trimmed h hw hf, if_pos hc]

theorem spareWindow_fails (hc : converged (w.trimSpare p m) p a t = false) (hm : m.fails ≠ 0) :
    s.spareWindow p obs a = (w.trimSpare p m).spareFailed p a m.fails := by
  rw [spareWindow_of_trimmed h hw hf, if_neg (by simp [hc]), if_pos hm]

theorem spareWindow_goesOn (hc : converged (w.trimSpare p m) p a t = false) (hm : m.fails = 0) :
    s.spareWindow p obs a = if 4 ≤ s.fld (R.CNV_UNIT.subst_windows p a) + 1 then (w.trimSpare p m).spareFailed p a (2 ^ 8)
      else w.trimSpare p m := by
  rw [spareWindow_of_trimmed h hw hf, if_neg (by simp [hc]), if_neg (by simp [hm])]

end

/-! ### The reference trim (R84, R85) -/

section
variable {i : Nat} (hi : i = s.fld (R.CNV_REF_TRIM.sensor_id p))
include hi

theorem refTrim_held (hf : s.flag (R.THM_SENSOR.failed i) = true) : s.refTrim p = s.holdTrim p true := by
  subst hi
  exact if_pos hf

theorem refTrim_of_sound (hf : s.flag (R.THM_SENSOR.failed i) = false) :
    s.refTrim p = if s.flag (R.CNV_CTRL.temp_comp_en p) && s.flag (R.THM_SENSOR.valid i) then
      s.setFld (R.CNV_REF_TRIM.ref_trim p) (codeOf 16 (Config.refTrim p.val (signedOf 12 (s.fld (R.THM_SENSOR.reading i)))))
    else s := by
  subst hi
  exact if_neg (by simpa [refSensorFailed] using hf)

theorem refTrim_follows (hf : s.flag (R.THM_SENSOR.failed i) = false) (he : s.flag (R.CNV_CTRL.temp_comp_en p) = true)
    (hv : s.flag (R.THM_SENSOR.valid i) = true) : s.refTrim p
      = s.setFld (R.CNV_REF_TRIM.ref_trim p) (codeOf 16 (Config.refTrim p.val (signedOf 12 (s.fld (R.THM_SENSOR.reading i))))) := by
  rw [refTrim_of_sound hi hf, if_pos (by simp [he, hv])]

theorem refTrim_of_off (hf : s.flag (R.THM_SENSOR.failed i) = false) (he : s.flag (R.CNV_CTRL.temp_comp_en p) = false) :
    s.refTrim p = s := by
  rw [refTrim_of_sound hi hf, if_neg (by simp [he])]

end

/-! ### Writes of CNV_CTRL (R70) -/

/-- The enable fields of CNV_CTRL take those of a value. -/
def State.calEnables (s : State) (p : Port) (v : Nat) : State :=
  (((s.setFld (R.CNV_CTRL.skew_step p) (bitsOf v 21 20)).setFld (R.CNV_CTRL.stage_cal_en p) (bitsOf v 9 9)).setFld
    (R.CNV_CTRL.temp_comp_en p) (bitsOf v 8 8)).setFld (R.CNV_CTRL.bg_en p) (bitsOf v 3 0)

theorem fld_calEnables {v : Nat} {f : RegField} (h : f.addr ≠ R.CNV_CTRL.addr p) : (s.calEnables p v).fld f = s.fld f := by
  rw [State.calEnables, fld_setFld_of_addr_ne h, fld_setFld_of_addr_ne h, fld_setFld_of_addr_ne h, fld_setFld_of_addr_ne h]

theorem receiving_calEnables {v : Nat} : (s.calEnables p v).receiving p = s.receiving p := by
  have h : (R.PRT_MODE_STATUS.eff_power_mode p).addr ≠ R.CNV_CTRL.addr p := by
    simp [R.PRT_MODE_STATUS.eff_power_mode, R.PRT_MODE_STATUS.addr, R.CNV_CTRL.addr, portBlock]
  rw [State.receiving, State.mode, fld_calEnables h]
  rfl

theorem fenced_calEnables {v : Nat} : (s.calEnables p v).fenced p = s.fenced p := by
  have h : (R.PRT_FENCE_STATUS.fenced p).addr ≠ R.CNV_CTRL.addr p := by
    simp [R.PRT_FENCE_STATUS.fenced, R.PRT_FENCE_STATUS.addr, R.CNV_CTRL.addr, portBlock]
  rw [State.fenced, State.flag, fld_calEnables h]
  rfl

section
variable {src v : Nat} (h : Reaches s src (R.CNV_CTRL.addr p))
include h

theorem exec_fgCalReq : exec (.fgCalReq src p v) s = .next (
    if bitAt v 31 = false then s.calEnables p v
    else if s.fenced p = true ∧ s.receiving p = true then ((s.calEnables p v).startFg p).modCnv p (fun c => { c with resume := [] })
    else (s.calEnables p v).setFlag (R.CNV_STATUS.fg_refused p) true) := by
  show execFgCalReq src p v s = _
  rw [execFgCalReq, accessed_of_reaches h, ← fenced_calEnables (v := v), ← receiving_calEnables (v := v)]
  simp only [← Bool.and_eq_true, ← Bool.not_eq_true']
  rfl

theorem fgCalReq_enables (hv : bitAt v 31 = false) : exec (.fgCalReq src p v) s = .next (s.calEnables p v) := by
  rw [exec_fgCalReq h, if_pos hv]

theorem fgCalReq_starts (hv : bitAt v 31 = true) (hf : s.fenced p = true) (hr : s.receiving p = true) :
    exec (.fgCalReq src p v) s = .next (((s.calEnables p v).startFg p).modCnv p (fun c => { c with resume := [] })) := by
  rw [exec_fgCalReq h, if_neg (by simp [hv]), if_pos ⟨hf, hr⟩]

theorem fgCalReq_refused (hv : bitAt v 31 = true) (hn : s.fenced p = false ∨ s.receiving p = false) :
    exec (.fgCalReq src p v) s = .next ((s.calEnables p v).setFlag (R.CNV_STATUS.fg_refused p) true) := by
  rw [exec_fgCalReq h, if_neg (by simp [hv]), if_neg (by rcases hn with hn | hn <;> simp [hn])]

end

/-! ### The end of foreground calibration (R69, R82) -/

/-- What a run leaves of a converter's state: nothing to be counted or resumed. -/
def CnvState.fgEnded (c : CnvState) : CnvState :=
  { c with fgRun := false, testFailed := [], limitRun := [], samples := [], faultsNow := [], resume := [] }

/-- A run ends with `n` phases served; with fewer than 32 it has failed. -/
def State.endFg (s : State) (p : Port) (n : Nat) : State :=
  let s := s.modCnv p CnvState.fgEnded
  let s := ((s.setFlag (R.CNV_STATUS.fg_done p) true).setFlag (R.CNV_STATUS.degraded p) (n < 32)).setFlag
    (R.CNV_STATUS.fg_fail p) (n < 32)
  if n < 32 then s.pulseP p 0x26 0 else s

theorem foreground_ends (units : List FgUnit) : ∃ x n, s.foreground p units = ((State.endFg x p n).cnvStatus p).updateCeiling p :=
  ⟨_, _, rfl⟩

theorem mirrorBit_fgFail (p : Port) : mirrorBit (portSrc p 0x26) = some (R.CNV_EVT.addr p, 6) := by
  revert p
  decide

theorem flag_endFg {n : Nat} {f : RegField} (h : f.addr = R.CNV_STATUS.addr p) : (s.endFg p n).flag f =
    (((s.setFlag (R.CNV_STATUS.fg_done p) true).setFlag (R.CNV_STATUS.degraded p) (n < 32)).setFlag
      (R.CNV_STATUS.fg_fail p) (n < 32)).flag f := by
  have hf : f.addr ≠ R.CNV_EVT.addr p := by simp [h, R.CNV_STATUS.addr, R.CNV_EVT.addr]
  unfold State.endFg
  dsimp only
  split
  · exact congrArg (· == 1) (fld_pulse_of_mirror (mirrorBit_fgFail p) hf)
  · rfl

theorem fgDone_endFg {n : Nat} : (s.endFg p n).flag (R.CNV_STATUS.fg_done p) = true := by
  rw [flag_endFg rfl, State.flag_setFlag_apart, State.flag_setFlag_apart, State.flag_setFlag] <;>
    simp [RegField.ok, RegField.apart, R.CNV_STATUS.fg_done, R.CNV_STATUS.degraded, R.CNV_STATUS.fg_fail]

theorem fgFail_endFg {n : Nat} : (s.endFg p n).flag (R.CNV_STATUS.fg_fail p) = (s.endFg p n).flag (R.CNV_STATUS.degraded p) := by
  rw [flag_endFg rfl, flag_endFg rfl, State.flag_setFlag, State.flag_setFlag_apart, State.flag_setFlag] <;>
    simp [RegField.ok, RegField.apart, R.CNV_STATUS.degraded, R.CNV_STATUS.fg_fail]

theorem cnv_endFg {n : Nat} : ((s.endFg p n).port p).cnv = (s.port p).cnv.fgEnded := by
  have hport : (s.endFg p n).port p = (s.modCnv p CnvState.fgEnded).port p := by
    unfold State.endFg
    dsimp only
    split
    · rw [State.pulseP, port_pulse, State.setFlag_port, State.setFlag_port, State.setFlag_port]
    · rw [State.setFlag_port, State.setFlag_port, State.setFlag_port]
  rw [hport, State.modCnv, State.port_modPort]

theorem fgCalDone_ignored {units : List FgUnit} (h : (s.port p).cnv.fgRun = false) : exec (.fgCalDone p units) s = .next s := by
  show execFgCalDone p units s = _
  rw [execFgCalDone, if_neg (by simp [h])]

theorem fgCalDone_ends {units : List FgUnit} (h : (s.port p).cnv.fgRun = true) :
    ∃ x n, exec (.fgCalDone p units) s = .next (((State.endFg x p n).cnvStatus p).updateCeiling p) := by
  obtain ⟨x, n, hx⟩ := foreground_ends (s := s) (p := p) units
  refine ⟨x, n, ?_⟩
  show execFgCalDone p units s = _
  rw [execFgCalDone, if_pos h, hx]

end

/-- Settles O30: windows, estimators, spares and the trim by their cases; writes of CNV_CTRL by the port; and the end of a run by what it
leaves. -/
theorem calibrationRunsInItsWindowsAndInTheForeground : Obligations.CalibrationRunsInItsWindowsAndInTheForeground := by
  unfold Obligations.CalibrationRunsInItsWindowsAndInTheForeground
  intro s p obs units src v
  refine ⟨calWindowUpdate_ignored, fun start len hcal hr hi =>
      ⟨s.windowStarts p start obs.stages, rfl, calWindowUpdate_held hcal hr hi, calWindowUpdate_calibrates hcal hr hi⟩,
    ?estimators, ?spares, fun i hi => ⟨refTrim_held hi, refTrim_follows hi, refTrim_of_off hi⟩,
    fun h => ⟨s.calEnables p v, rfl, fgCalReq_enables h, fgCalReq_starts h, fgCalReq_refused h⟩, fun t => rfl, fgCalDone_ignored, ?ends⟩
  case estimators =>
    rintro u est m n - rfl
    refine ⟨estimate_of_off, estimate_of_few, fun h hn => ⟨_, rfl, estimate_of_zero h hn rfl, fun hm y hy => ?_⟩⟩
    exact ⟨estimate_moves h hn rfl hm hy, estimate_limited h hn rfl hm hy⟩
  case spares =>
    refine fun a h => ⟨_, rfl, fun m t hf => ?_⟩
    exact ⟨spareWindow_switches h rfl hf, spareWindow_fails h rfl hf, spareWindow_goesOn h rfl hf⟩
  case ends =>
    intro h
    obtain ⟨x, n, hx⟩ := fgCalDone_ends (units := units) h
    refine ⟨x.endFg p n, hx, fgDone_endFg, fgFail_endFg, ?_⟩
    rw [cnv_endFg]
    exact ⟨rfl, rfl, rfl, rfl, rfl⟩

end Sys2Proof.Machine
end

section
/-!
What the shared operations of the Sluice (chapter 4) do to a channel, and what its metrics, gates and windows say.
-/
namespace Sys2Proof.Machine

section
variable {s : State} {p : Port} {c : Chan} {x : SluChan}

/-! ### What falls due with time, and re-arming (R111, R114) -/

theorem settleChan_ends {now : Nat} (hst : (s.chan p c).st = .payload) (hq : (s.chan p c).quiet = false)
    (ht : (s.chan p c).start + (s.chan p c).endAt ≤ now) :
    s.settleChan p now c = s.setChan p c { s.chan p c with st := .idle } := by
  simp [State.settleChan, hst, hq, ht]

theorem settleChan_opens {now : Nat} (hst : (s.chan p c).st = .preset) (ht : (s.chan p c).start + (s.chan p c).openAt ≤ now) :
    s.settleChan p now c = s.setChan p c { s.chan p c with st := .armed } := by
  simp [State.settleChan, hst, ht]

theorem settleChan_waits {now : Nat} (hp : (s.chan p c).st ≠ .payload) (hr : (s.chan p c).st ≠ .preset) : s.settleChan p now c = s := by
  simp [State.settleChan, hp, hr]

theorem chan_loadLive (at_ : Nat) (pre : Preset) (d : Chan) : (s.loadLive p at_ pre).chan p d = s.chan p d := by
  cases d <;> simp [State.chan, State.loadLive, State.setLive, State.modRake, State.modXtl]

theorem chan_pulsePins (d : Chan) : (s.pulsePins p).chan p d = s.chan p d := by
  cases d <;> rfl

/-- Re-arming goes on while a position of the window has not been evaluated. -/
theorem st_rearm (at_ : Nat) (st : ChanState) :
    ((s.rearm p c at_ st).chan p c).st = if (s.chan p c).evalFrom ≤ (s.chan p c).lastPos then st else .idle := by
  simp [State.rearm, chan_pulsePins, chan_loadLive]

/-! ### Metrics, sd_gate and the window of the AGC (R99, R101, R104, R109) -/

theorem spendMetric_shape (y : List Int) : ∃ k, s.spendMetric y = { s with freeCtr := k } := by
  unfold State.spendMetric
  split
  · exact ⟨_, rfl⟩
  · exact ⟨s.freeCtr, rfl⟩

@[simp] theorem govOf_spendMetric (y : List Int) (tick : Nat) (f : RegField) : (s.spendMetric y).govOf tick f = s.govOf tick f := by
  obtain ⟨k, h⟩ := spendMetric_shape (s := s) y
  rw [h]
  rfl

@[simp] theorem gatedOff_spendMetric (y : List Int) (tick : Nat) (sd : Bool) : gatedOff (s.spendMetric y) p tick sd = gatedOff s p tick sd := by
  simp [gatedOff]

@[simp] theorem matchDue_spendMetric (y z : List Int) (pos : Nat) : matchDue (s.spendMetric y) p x pos z = matchDue s p x pos z := by
  obtain ⟨k, h⟩ := spendMetric_shape (s := s) y
  rw [h]
  rfl

@[simp] theorem deadlineOf_spendMetric (y : List Int) (pos : Nat) : deadlineOf (s.spendMetric y) p x pos = deadlineOf s p x pos := by
  obtain ⟨k, h⟩ := spendMetric_shape (s := s) y
  rw [h]
  rfl

theorem gatedOff_iff {tick : Nat} {sd : Bool} : gatedOff s p tick sd = true ↔ s.govOf tick (R.SLU_CTRL.sd_gate p) = 1 ∧ sd = true := by
  simp [gatedOff]

theorem gatedOff_eq_false_iff {tick : Nat} {sd : Bool} :
    gatedOff s p tick sd = false ↔ s.govOf tick (R.SLU_CTRL.sd_gate p) ≠ 1 ∨ sd = false := by
  rw [← Bool.not_eq_true, gatedOff_iff, not_and_or, Bool.not_eq_true]

/-- What the gate lets pass takes its effect. -/
theorem ite_gatedOff_of_passes {tick : Nat} {sd : Bool} {a b : State} (h : s.govOf tick (R.SLU_CTRL.sd_gate p) ≠ 1 ∨ sd = false) :
    (if gatedOff s p tick sd then a else b) = b :=
  if_neg (by rw [gatedOff_eq_false_iff.mpr h]; decide)

theorem delimiterMatches_iff {y : List Int} : delimiterMatches s p x y = true ↔
    signDiffs y (burstDelimiter s p x) ≤ s.govOf x.tick (R.SLU_DETECT.dlm_err p) := by
  rw [delimiterMatches, decide_eq_true_eq]

theorem delimiterMatches_eq_false_iff {y : List Int} : delimiterMatches s p x y = false ↔
    s.govOf x.tick (R.SLU_DETECT.dlm_err p) < signDiffs y (burstDelimiter s p x) := by
  rw [← Bool.not_eq_true, delimiterMatches_iff, Nat.not_le]

theorem cycleInWindow_iff {cycle : Nat} : cycleInWindow s p x cycle = true ↔ x.start + x.openAt < 64 * (x.start / 64 + cycle) + 64 ∧
    64 * (x.start / 64 + cycle) < x.start + x.lastPos + 64 * (s.profileOf p x.tick x.entry.profile).sym := by
  rw [cycleInWindow, Bool.and_eq_true, decide_eq_true_eq, decide_eq_true_eq, cycleStart]

theorem takeoverDue_iff {pos : Nat} {y : List Int} : takeoverDue s p x pos y = true ↔ x.pos < pos ∧ pos ≤ x.lastPos ∧ x.evalFrom ≤ pos ∧
    pos + 64 * (s.profileOf p x.tick x.entry.profile).sym ≤ x.deadline ∧
    x.metric + s.govOf x.tick (R.SLU_DETECT.takeover_margin p) ≤ blockMetric s p x pos y := by
  simp [takeoverDue, and_assoc]

end

end Sys2Proof.Machine
end

section
/-!
The guard start of a burst (R92 to R98, R110) and the staging of presets for the next frame.
-/
namespace Sys2Proof.Machine

section
variable {s : State} {p : Port} {c : Chan} {e : MapEntry} {base : SluChan}

/-! ### Staged copies -/

theorem stagedFor_disc (h : isDisc e = true) : stagedFor s p e = none := by
  simp [stagedFor, h]

theorem stagedFor_absent (h : isDisc e = false) (hf : Tab.find (s.port p).slu.staged (burstOnu s p e) = none) : stagedFor s p e = none := by
  simp [stagedFor, h, hf]

theorem stagedFor_found {x : Staged} (h : isDisc e = false) (hf : Tab.find (s.port p).slu.staged (burstOnu s p e) = some x)
    (hx : x.work.valid = true ∨ x.poisoned = true) : stagedFor s p e = some x := by
  simpa [stagedFor, h, hf] using hx

/-! ### What a guard start does with its channel -/

/-- The burst of an entry is expected and counted (R110, R116). -/
def State.expectBurst (s : State) (p : Port) : State := (s.bumpP p 0x50).modSlu p (fun u => { u with expected := true })

/-- A channel at the guard start of an entry. -/
def guardChan (s : State) (p : Port) (e : MapEntry) (i start : Nat) : SluChan :=
  { SluChan.reset with
    st := .preset, entry := e, index := i, tick := s.tick, onu := burstOnu s p e, quiet := isDisc e, start := start }

/-- A burst that is not taken passes its channel by: its slots go to an account, and its result is told. -/
def State.passBurst (s : State) (p : Port) (c : Chan) (e : MapEntry) (base : SluChan) (f : SlotAcct → SlotAcct) (result : Nat) : State :=
  (((s.acctEntry p base.tick e f 0 0).setChan p c { base with st := .idle }).modSlu p (fun u => { u with last := c })).lastBurst p base result 0

/-- A burst with an enabled profile begins with the staged copy it finds, if any; a discovery entry looks for none (R93 to R95). -/
def State.takeStaged (s : State) (p : Port) (c : Chan) (e : MapEntry) (base : SluChan) (found : Option Staged) : State :=
  match found with
  | none =>
    let t := s.beginBurst p c base (discPreset s.gov p) (!isDisc e)
    if isDisc e then t else (t.bumpP p 0x57).pulseP p 0x32 0
  | some x =>
    let k := (entrySlot s p e).getD 0
    if x.poisoned then ((s.consumePoison 0 (presetWord p k false) 5).setChan p c base).fencePort p [0x06]
    else if dieBad s p 7 k then
      ((s.useDie p 7 k 8).bumpP p 0x5E).passBurst p c e base (fun a => { a with notRecv := a.notRecv + e.slots }) 4
    else s.beginBurst p c base x.work false

theorem takeStaged_absent (hd : isDisc e = false) : s.takeStaged p c e base none =
    ((s.beginBurst p c base (discPreset s.gov p) true).bumpP p 0x57).pulseP p 0x32 0 := by
  simp [State.takeStaged, hd]

theorem takeStaged_disc (hd : isDisc e = true) : s.takeStaged p c e base none = s.beginBurst p c base (discPreset s.gov p) false := by
  simp [State.takeStaged, hd]

section
variable {x : Staged}

theorem takeStaged_poisoned (hx : x.poisoned = true) : s.takeStaged p c e base (some x) =
    ((s.consumePoison 0 (presetWord p ((entrySlot s p e).getD 0) false) 5).setChan p c base).fencePort p [0x06] := if_pos hx

theorem takeStaged_unpoisoned (hx : x.poisoned = false) : s.takeStaged p c e base (some x) =
    if dieBad s p 7 ((entrySlot s p e).getD 0) then
      ((s.useDie p 7 ((entrySlot s p e).getD 0) 8).bumpP p 0x5E).passBurst p c e base (fun a => { a with notRecv := a.notRecv + e.slots }) 4
    else s.beginBurst p c base x.work false := if_neg (by simp [hx])

end

theorem beginBurst_of_entry {preset : Preset} {missed : Bool} {E w : Int} (hE : E = expectedArrival s p base)
    (hw : w = s.gov (R.SLU_WINDOW.w p)) (hq : base.quiet = false) :
    s.beginBurst p c base preset missed = ((((s.setChan p c { base with
      unstaged := missed, applied := preset, gain := preset.gain, openAt := (E - w).toNat, evalFrom := (E - w).toNat,
      lastPos := (E + w).toNat }).modSlu p (fun u => { u with last := c })).loadLive p (base.start / 64 * 64) preset).pulsePins p).settle p base.start := by
  rw [State.beginBurst, if_neg (by simp [hq]), if_neg (by simp [hq]), ← hE, ← hw]

/-- An ACTIVE port that realigns nothing follows the map as it stands. -/
theorem guardStart_of_map {tick : Nat} (hr : (s.port p).prot.role ≠ .standby) (ha : (s.port p).prot.realignAt = none)
    (hg : s.g50 p = false) : guardStart s p tick e = frameTime tick + 64 * e.start := by
  have hoffset : standbyOffset s p e.alloc = 0 := if_pos hr
  have hshift : realignShift s p e.alloc = 0 := by simp [realignShift, ha]
  have hmap : mapStart s p e (s.profileOf p tick e.profile).sym = 64 * e.start := if_neg (by simp [hg])
  rw [guardStart, hoffset, hshift, hmap, add_zero, add_zero, Int.toNat_natCast]

/-! ### BURST_GUARD_START -/

section
variable {i start : Nat} {u : State}

theorem burstGuardStart_noEntry (he : (s.mapNow p).entries[i]? = none) : exec (.burstGuardStart p i) s = .next s := by
  show execBurstGuardStart p i s = _
  rw [execBurstGuardStart, he]

variable (he : (s.mapNow p).entries[i]? = some e) (hstart : start = guardStart s p s.tick e) (hu : u = s.settle p start)
  (hc : c = nextChan u p)
include he hstart hu hc

theorem burstGuardStart_ignored (h : sluiceRuns u p = false ∨ hears u p = false ∨ (u.chan p c).st = .halted ∨
    ((u.chan p c).st ≠ .idle ∧ (u.chan p c).st ≠ .payload) ∨ (isDisc e = true ∧ (u.profile p e.profile).enabled = false)) :
    exec (.burstGuardStart p i) s = .next u := by
  show execBurstGuardStart p i s = _
  rw [execBurstGuardStart, he]
  dsimp only
  rw [← hstart, ← hu, ← hc]
  rcases h with h | h | h | ⟨hi, hp⟩ | ⟨hd, hen⟩
  · rw [if_pos (by simp [h])]
  · rw [if_pos (by simp [h])]
  · rw [if_pos (by simp [h])]
  · rw [if_pos (c := !(_ || _)) (by simp [hi, hp]), ite_self]
  · rw [if_pos (c := isDisc e && _) (by simp [hd, hen]), ite_self, ite_self]

/-- A port that follows bursts and whose next channel is free takes the burst, unless it is a discovery entry with a disabled profile. -/
theorem exec_burstGuardStart (hr : sluiceRuns u p = true) (hh : hears u p = true)
    (hfree : (u.chan p c).st = .idle ∨ (u.chan p c).st = .payload) (hd : isDisc e = false ∨ (u.profile p e.profile).enabled = true)
    {t : State} (ht : t = if isDisc e then u else u.expectBurst p) :
    exec (.burstGuardStart p i) s = .next (
      if (u.profile p e.profile).enabled then t.takeStaged p c e (guardChan t p e i start) (stagedFor t p e)
      else (t.bumpP p 0x5D).passBurst p c e (guardChan t p e i start) (fun a => { a with disabled := a.disabled + e.slots }) 3) := by
  have hhalted : (u.chan p c).st ≠ .halted := by rcases hfree with h | h <;> simp [h]
  show execBurstGuardStart p i s = _
  rw [execBurstGuardStart, he]
  dsimp only
  rw [← hstart, ← hu, ← hc, if_neg (by simp [hr, hh, hhalted]), if_neg (by simpa [or_iff_not_imp_left] using hfree),
    if_neg (by rcases hd with h | h <;> simp [h])]
  have hexpect : (if isDisc e then u else (u.bumpP p 0x50).modSlu p (fun u => { u with expected := true })) = t := ht.symm
  rw [hexpect]
  cases hen : (u.profile p e.profile).enabled
  case false => rfl
  case true =>
    simp only [Bool.not_true, Bool.false_eq_true, if_false, if_true]
    rcases stagedFor t p e with _ | ⟨work, cm, taps, _ | _⟩
    case none => rfl
    case some.false =>
      rw [takeStaged_unpoisoned rfl]
      rfl
    case some.true =>
      rw [takeStaged_poisoned rfl]
      cases entrySlot t p e
      case none => rfl
      case some k => rfl

end

/-! ### PRESET_STAGING (R92) -/

/-- The presets of a context are read, and copied to the staging buffer of the next frame with their poison. -/
def State.stagePreset (s : State) (p : Port) (k : Nat) : State :=
  let w := presetWord p k false
  let a := presetWord p k true
  let r := [w, w + 1, w + 2, a, a + 1, a + 2].foldl (fun s i => s.memRead 0 i) s
  (r.memWrite (dieSpace p) (dieWord p 7 k) allBytes).modSlu p (fun u => { u with
    stagedNext := Tab.put u.stagedNext (r.ctx p k).onuId (stagedOf r p k) })

theorem exec_presetStaging : exec (.presetStaging p) s = .next (
    ((((Tab.find (s.port p).dba.maps (s.tick + 1)).getD .empty).entries.filterMap (entrySlot s p)).eraseDups).foldl
      (fun s k => s.stagePreset p k) s) := rfl

theorem presetStaging_of_one {m : BwMap} {k : Nat} (hm : Tab.find (s.port p).dba.maps (s.tick + 1) = some m) (he : m.entries = [e])
    (hk : entrySlot s p e = some k) : exec (.presetStaging p) s = .next (s.stagePreset p k) := by
  rw [exec_presetStaging, hm, Option.getD_some, he, List.filterMap_cons_some hk]
  rfl

theorem presetStaging_of_none (hm : Tab.find (s.port p).dba.maps (s.tick + 1) = none) : exec (.presetStaging p) s = .next s := by
  rw [exec_presetStaging, hm]
  rfl

end

/-- Settles O31: a guard start by the port, its next channel, the entry's profile and the staged copy it finds; then what a burst begins
with, what falls due with time, and the staging of presets. -/
theorem burstsArmAChannelWithTheirPreset : Obligations.BurstsArmAChannelWithTheirPreset := by
  unfold Obligations.BurstsArmAChannelWithTheirPreset
  intro s p i
  refine ⟨burstGuardStart_noEntry, fun e start u c he hstart hu hc => ⟨burstGuardStart_ignored he hstart hu hc, fun hr hh hfree =>
      ⟨fun hd hen => ?discovery, fun hd s1 base hs1 hbase => ?entry⟩⟩,
    fun c base preset missed E w hE hw hq => beginBurst_of_entry hE hw hq, fun e tick hr ha hg => guardStart_of_map hr ha hg,
    fun c now x hx => ?due, fun m e c w a r hm he hk hw ha hr => ?staged, presetStaging_of_none⟩
  case discovery =>
    rw [exec_burstGuardStart he hstart hu hc hr hh hfree (.inr hen) (if_pos hd).symm, if_pos hen, stagedFor_disc hd, takeStaged_disc hd]
    simp [guardChan, burstOnu, hd]
  case entry =>
    have hexec := exec_burstGuardStart he hstart hu hc hr hh hfree (.inl hd) (t := s1) (hs1.trans (if_neg (by simp [hd])).symm)
    have hguard : guardChan s1 p e i start = base := by simp [hbase, guardChan, hd, hs1, State.modSlu, State.modPort, State.setPort]
    have htick : base.tick = s1.tick := by rw [← hguard, guardChan]
    rw [hexec, hguard]
    refine ⟨fun hen => ?_, fun hen => ?_⟩
    · rw [if_neg (by simp [hen]), State.passBurst, htick]
    · rw [if_pos hen]
      refine ⟨fun x k hf hvalid hpoison hk => ?_, fun hf => ?_, fun x hf hpoison => ?_⟩
      · rw [stagedFor_found hd hf (.inl hvalid), takeStaged_unpoisoned hpoison, ← hk]
        exact ⟨fun hgood => by rw [if_neg (by simp [hgood])], fun hbad => by rw [if_pos hbad, State.passBurst, htick]⟩
      · rw [stagedFor_absent hd hf, takeStaged_absent hd]
      · rw [stagedFor_found hd hf (.inr hpoison), takeStaged_poisoned hpoison]
  case due =>
    subst hx
    refine ⟨fun hst hq ht => ?_, settleChan_opens, settleChan_waits⟩
    rw [settleChan_ends hst hq ht, State.chan_setChan]
  case staged =>
    subst hw ha hr
    exact presetStaging_of_one hm he hk

end Sys2Proof.Machine
end

section
/-!
The rows that drive a channel from ARMED to PAYLOAD or lose its burst (R99 to R109), markers, and loss of signal (R115, R116).
-/
namespace Sys2Proof.Machine

section
variable {s : State} {p : Port} {c : Chan} {x : SluChan}

/-! ### The primary detection and the takeover (R99, R100, R103, R107, R109) -/

/-- A detection or takeover makes its block the lock, starts the deadline behind it, and leaves the positions up to it evaluated. -/
def SluChan.locksAt (x : SluChan) (prof : Profile) (pos metric : Nat) : SluChan :=
  { x with pos := pos, metric := metric, deadline := pos + 64 * prof.sym + prof.pre + 128, evalFrom := pos + 1 }

section
variable {u v : State} {y : List Int} {pos m : Nat} {codes : List Int} {sd : Bool}
  (hu : u = s.settleAt p c (pos + 64 * (s.profileOf p (s.chan p c).tick (s.chan p c).entry.profile).sym)) (hx : x = u.chan p c)
  (hy : y = burstOutputs u p x (x.start + pos) 64 codes) (hm : m = blockMetric u p x pos y) (hv : v = u.spendMetric y)
include hu hx

theorem primaryDetection_ignored (h : sluiceRuns u p = false ∨ x.st ≠ .armed ∨ pos < x.evalFrom ∨ x.lastPos < pos) :
    exec (.primaryDetection p c pos codes sd) s = .next u := by
  show execPrimaryDetection p c pos codes sd s = _
  rw [execPrimaryDetection]
  dsimp only
  rw [← hu, ← hx, if_pos (by rcases h with h | h | h | h <;> simp [h])]

theorem preambleTakeover_ignored (h : sluiceRuns u p = false ∨ x.st ≠ .locked) :
    exec (.preambleTakeover p c pos codes sd) s = .next u := by
  show execPreambleTakeover p c pos codes sd s = _
  rw [execPreambleTakeover]
  dsimp only
  rw [← hu, ← hx, if_pos (by rcases h with h | h <;> simp [h])]

include hy hm hv

theorem exec_primaryDetection (hr : sluiceRuns u p = true) (hst : x.st = .armed) (hfrom : x.evalFrom ≤ pos) (hlast : pos ≤ x.lastPos) :
    exec (.primaryDetection p c pos codes sd) s = .next (
      if m < u.govOf x.tick (R.SLU_DETECT.det_thresh p) then v
      else if gatedOff u p x.tick sd then (v.setChan p c { x with evalFrom := pos + 1 }).bumpBurst p x 0x56
      else v.setChan p c { x.locksAt (u.profileOf p x.tick x.entry.profile) pos m with st := .locked }) := by
  show execPrimaryDetection p c pos codes sd s = _
  rw [execPrimaryDetection]
  dsimp only
  rw [← hu, ← hx, if_neg (by simp [hr, hst, hfrom, hlast]), ← hy, ← hm, hv, govOf_spendMetric, gatedOff_spendMetric,
    deadlineOf_spendMetric]
  rfl

theorem exec_preambleTakeover (hr : sluiceRuns u p = true) (hst : x.st = .locked) :
    exec (.preambleTakeover p c pos codes sd) s = .next (
      if !takeoverDue u p x pos y || matchDue u p x pos y then v
      else if gatedOff u p x.tick sd then (v.setChan p c { x with evalFrom := pos + 1 }).bumpBurst p x 0x56
      else (v.setChan p c { x.locksAt (u.profileOf p x.tick x.entry.profile) pos m with
        gain := x.applied.gain, takeovers := x.takeovers + 1 }).bumpBurst p x 0x55) := by
  show execPreambleTakeover p c pos codes sd s = _
  rw [execPreambleTakeover]
  dsimp only
  rw [← hu, ← hx, if_neg (by simp [hr, hst]), ← hy, ← hm, hv, matchDue_spendMetric, gatedOff_spendMetric, deadlineOf_spendMetric]
  rfl

end

/-! ### The delimiter match (R104, R107) -/

section
variable {u : State} {prof : Profile} {y : List Int} {pos n at_ : Nat} {noise : Nat × Nat} {codes : List Int}
  (hprof : prof = s.profileOf p (s.chan p c).tick (s.chan p c).entry.profile) (hu : u = s.settleAt p c (pos + prof.dlm))
  (hx : x = u.chan p c) (hn : n = prof.pre / prof.sym)
  (hy : y = burstOutputs u p x (x.start + pos - prof.pre) (n + prof.dlm / prof.sym) codes) (hat : at_ = x.start + (pos + prof.dlm))
  (hnoise : noise = (squaredErrors (u.govOf x.tick (R.EQZ_TARGET.t_ p)) (u.port p).rake.liveCm ((y.take n).map (32 * ·))
    (List.replicate (n / 64) (burstPreamble u p x)).flatten, n - 1))
include hprof hu hx hn hy

theorem delimiterMatch_ignored (h : sluiceRuns u p = false ∨ x.st ≠ .locked ∨ pos < x.pos ∨ x.deadline < pos + prof.dlm ∨
    delimiterMatches u p x (y.drop n) = false) : exec (.delimiterMatch p c pos codes) s = .next u := by
  show execDelimiterMatch p c pos codes s = _
  rw [execDelimiterMatch]
  dsimp only
  rw [← hprof, ← hu, ← hx, ← hn, ← hy, if_pos (by rcases h with h | h | h | h | h <;> simp [h])]

include hat hnoise

theorem exec_delimiterMatch (hr : sluiceRuns u p = true) (hst : x.st = .locked) (hpos : x.pos ≤ pos) (hdl : pos + prof.dlm ≤ x.deadline)
    (hmatch : delimiterMatches u p x (y.drop n) = true) :
    exec (.delimiterMatch p c pos codes) s = .next (
      if x.quiet then (u.receiveResponse p x pos at_ noise).setChan p c { x with
        st := .payload, delta := 0, respTail := responseTail u p x pos,
        respEnd := pos / 64 + u.govOf x.tick (R.SLU_DISC_CTL.resp_slots p) + 1,
        endAt := pos + prof.dlm + 64 * u.govOf x.tick (R.SLU_DISC_CTL.resp_slots p),
        evalFrom := pos + prof.dlm + 64 * u.govOf x.tick (R.SLU_DISC_CTL.resp_slots p) }
      else (u.receiveEntry p x ((pos : Int) - prof.pre - expectedArrival u p x) at_ noise).setChan p c { x with
        st := .payload, delta := (pos : Int) - prof.pre - expectedArrival u p x, nth := (u.port p).slu.marks + 1,
        endAt := pos + prof.dlm + 64 * (x.entry.slots - prof.ovh) }) := by
  show execDelimiterMatch p c pos codes s = _
  rw [execDelimiterMatch]
  dsimp only
  rw [← hprof, ← hu, ← hx, ← hn, ← hy, if_neg (by simp [hr, hst, hpos, hdl, hmatch]), ← hnoise, ← hat]

end

/-! ### Commands of the AGC (R101, R102) -/

section
variable {u : State} {cycle level : Nat} {codes : List Int} (hu : u = s.settle p (64 * ((s.chan p c).start / 64 + cycle) + 64))
  (hx : x = u.chan p c) (hlevel : level = cycleLevel u p x cycle codes)
include hu hx hlevel

theorem agcCommand_ignored (h : sluiceRuns u p = false ∨ x.st ≠ .armed ∨ u.govOf x.tick (R.SLU_CTRL.agc_en p) = 0 ∨ cycle < x.agcFrom ∨
    cycleInWindow u p x cycle = false ∨ level < 256 * u.govOf x.tick (R.SLU_AGC.agc_floor p) ∨ level = 0 ∨
    (x.quiet = false ∧ (x.start + (u.profileOf p x.tick x.entry.profile).guard + (u.profileOf p x.tick x.entry.profile).pre) / 64
      ≤ x.start / 64 + cycle + 12)) : exec (.agcCommand p c cycle codes) s = .next u := by
  show execAgcCommand p c cycle codes s = _
  rw [execAgcCommand]
  dsimp only [cycleStart]
  rw [← hu, ← hx, ← hlevel, if_pos]
  rcases h with h | h | h | h | h | h | h | ⟨hq, h⟩
  case inr.inr.inr.inr.inr.inr.inr => simp [hq, h]
  all_goals simp [h]

theorem agcCommand_steps {g : Int} (hr : sluiceRuns u p = true) (hst : x.st = .armed) (hen : u.govOf x.tick (R.SLU_CTRL.agc_en p) ≠ 0)
    (hfrom : x.agcFrom ≤ cycle) (hwin : cycleInWindow u p x cycle = true)
    (hfloor : 256 * u.govOf x.tick (R.SLU_AGC.agc_floor p) ≤ level) (hlev : level ≠ 0)
    (hlate : x.quiet = false → x.start / 64 + cycle + 12
      < (x.start + (u.profileOf p x.tick x.entry.profile).guard + (u.profileOf p x.tick x.entry.profile).pre) / 64)
    (hg : g = clampInt 0 127 (clampInt ((x.applied.gain : Int) - u.govOf x.tick (R.SLU_AGC.agc_range p))
      (x.applied.gain + u.govOf x.tick (R.SLU_AGC.agc_range p))
      ((x.gain : Int) + agcSteps (256 * u.govOf x.tick (R.SLU_AGC.agc_target p)) level))) :
    exec (.agcCommand p c cycle codes) s
      = .next (if g.toNat = x.gain then u else u.setChan p c { x with gain := g.toNat, agcFrom := cycle + 12 }) := by
  show execAgcCommand p c cycle codes s = _
  rw [execAgcCommand]
  dsimp only [cycleStart]
  rw [← hu, ← hx, ← hlevel, ← hg, if_neg]
  cases hq : x.quiet
  · simp [hr, hst, hen, hfrom, hwin, hfloor, hlev, hlate hq]
  · simp [hr, hst, hen, hfrom, hwin, hfloor, hlev]

end

/-! ### False locks (R105, R107, R114) -/

/-- A false lock counts, returns the gain to the preset, and leaves the positions up to the deadline's block evaluated. -/
def SluChan.falseLocked (x : SluChan) (block : Nat) : SluChan :=
  { x with falseLocks := x.falseLocks + 1, gain := x.applied.gain, evalFrom := block + 1, agcFrom := 0 }

section
variable {u : State} {sym block : Nat} {y codes : List Int} {sd : Bool} (hu : u = s.settleAt p c (s.chan p c).deadline)
  (hx : x = u.chan p c) (hsym : sym = (u.profileOf p x.tick x.entry.profile).sym) (hblock : block = x.deadline - 64 * sym)
  (hy : y = burstOutputs u p x (x.start + block) 64 codes)
include hu hx

theorem falseLock_ignored (h : sluiceRuns u p = false ∨ x.st ≠ .locked) : exec (.falseLock p ⟨c, codes, sd⟩) s = .next u := by
  show execFalseLock p ⟨c, codes, sd⟩ s = _
  rw [execFalseLock]
  dsimp only
  rw [← hu, ← hx, if_pos (by rcases h with h | h <;> simp [h])]

include hsym hblock hy

theorem exec_falseLock (hr : sluiceRuns u p = true) (hst : x.st = .locked) :
    exec (.falseLock p ⟨c, codes, sd⟩) s = .next (
      if matchDue u p x block y || takeoverDue u p x block y && !gatedOff u p x.tick sd then u
      else if x.quiet then ((u.bumpBurst p x 0x54).setChan p c (x.falseLocked block)).rearm p c x.deadline .armed
      else if block + 1 ≤ x.lastPos then
        ((u.bumpBurst p x 0x54).setChan p c { x.falseLocked block with st := .armed }).loadLive p (x.start + x.deadline) x.applied
      else ((u.bumpBurst p x 0x54).burstMissing p (x.falseLocked block) 2).setChan p c { x.falseLocked block with st := .idle }) := by
  show execFalseLock p ⟨c, codes, sd⟩ s = _
  rw [execFalseLock]
  dsimp only
  rw [← hu, ← hx, if_neg (by simp [hr, hst]), ← hsym, ← hblock, ← hy]
  rfl

theorem falseLock_overtaken (hr : sluiceRuns u p = true) (hst : x.st = .locked)
    (h : matchDue u p x block y = true ∨ takeoverDue u p x block y = true ∧ gatedOff u p x.tick sd = false) :
    exec (.falseLock p ⟨c, codes, sd⟩) s = .next u := by
  rw [exec_falseLock hu hx hsym hblock hy hr hst, if_pos (by simpa using h)]

theorem falseLock_stands (hr : sluiceRuns u p = true) (hst : x.st = .locked) (hm : matchDue u p x block y = false)
    (h : takeoverDue u p x block y = false ∨ gatedOff u p x.tick sd = true) :
    exec (.falseLock p ⟨c, codes, sd⟩) s = .next (
      if x.quiet then (u.setChan p c (x.falseLocked block)).rearm p c x.deadline .armed
      else if block + 1 ≤ x.lastPos then
        ((u.bumpP p 0x54).setChan p c { x.falseLocked block with st := .armed }).loadLive p (x.start + x.deadline) x.applied
      else ((u.bumpP p 0x54).burstMissing p (x.falseLocked block) 2).setChan p c { x.falseLocked block with st := .idle }) := by
  rw [exec_falseLock hu hx hsym hblock hy hr hst, if_neg (by rcases h with h | h <;> simp [hm, h]), State.bumpBurst]
  cases hq : x.quiet
  · rw [if_neg Bool.false_ne_true, if_neg Bool.false_ne_true, if_neg Bool.false_ne_true]
  · rw [if_pos rfl, if_pos rfl, if_pos rfl]

end

/-! ### Windows that close, markers and loss of signal (R106, R115, R116) -/

section
variable {u : State}
  (hu : u = s.settleAt p c ((s.chan p c).lastPos + 64 * (s.profileOf p (s.chan p c).tick (s.chan p c).entry.profile).sym))
  (hx : x = u.chan p c)
include hu hx

theorem windowClose_ignored (h : sluiceRuns u p = false ∨ x.st ≠ .armed) : exec (.windowClose p c) s = .next u := by
  show execWindowClose p c s = _
  rw [execWindowClose]
  dsimp only
  rw [← hu, ← hx, if_pos (by rcases h with h | h <;> simp [h])]

theorem exec_windowClose (hr : sluiceRuns u p = true) (hst : x.st = .armed) :
    exec (.windowClose p c) s = .next (if x.quiet then u.setChan p c { x with st := .idle }
      else (u.burstMissing p x 1).setChan p c { x with st := .idle }) := by
  show execWindowClose p c s = _
  rw [execWindowClose]
  dsimp only
  rw [← hu, ← hx, if_neg (by simp [hr, hst])]

end

theorem exec_rssiMarker (hx : x = s.chan p c) : exec (.rssiMarker p c) s = .next (
    if !marks s p x then s
    else if x.entry.slots - (s.profileOf p x.tick x.entry.profile).ovh < s.govOf x.tick (R.SLU_RSSI_CTL.mark_delay p) + 16 then
      (s.bumpP p 0x5B).pulseP p 0x33 0
    else (s.bumpP p 0x5A).emit (.marker p x.onu s.fc)) := by
  subst hx
  rfl

/-- In PAYLOAD the mode alone says whether a burst of an entry is marked. -/
theorem marks_of_payload (hen : s.govOf x.tick (R.SLU_RSSI_CTL.mark_en p) = 1) (hst : x.st = .payload) (hq : x.quiet = false) :
    (s.govOf x.tick (R.SLU_RSSI_CTL.mark_mode p) = 0 → marks s p x = true) ∧
    (s.govOf x.tick (R.SLU_RSSI_CTL.mark_mode p) = 1 →
      (marks s p x = true ↔ x.nth % 2 ^ s.govOf x.tick (R.SLU_RSSI_CTL.mark_div p) = 0)) ∧
    (s.govOf x.tick (R.SLU_RSSI_CTL.mark_mode p) = 2 →
      (marks s p x = true ↔ x.onu = s.govOf x.tick (R.SLU_RSSI_CTL.mark_onu p))) :=
  ⟨fun h => by simp [marks, hen, hst, hq, h], fun h => by simp [marks, hen, hst, hq, h], fun h => by simp [marks, hen, hst, hq, h]⟩

theorem losDeclared_raises (hl : s.flag (R.SLU_STATUS.los p) = false) (hn : s.gov (R.SLU_CTRL.los_frames p) ≤ (s.port p).slu.losRun)
    (hr : sluiceRuns s p = true) :
    exec (.losDeclared p) s = .next ((((s.setFlag (R.SLU_STATUS.los p) true).level (portSrc p 0x30) true 0).bumpP p 0x5C).protStatus p) := by
  show execLosDeclared p s = _
  rw [execLosDeclared, if_pos (by simp [hl, hn, hr])]

theorem losDeclared_ignored
    (h : s.flag (R.SLU_STATUS.los p) = true ∨ (s.port p).slu.losRun < s.gov (R.SLU_CTRL.los_frames p) ∨ sluiceRuns s p = false) :
    exec (.losDeclared p) s = .next s := by
  show execLosDeclared p s = _
  rw [execLosDeclared, if_neg (by rcases h with h | h | h <;> simp [h])]

end

/-- Settles O32: each row by what its channel's state, its window and its deadline let it do. -/
theorem detectionTakeoverAndMatch : Obligations.DetectionTakeoverAndMatch := by
  unfold Obligations.DetectionTakeoverAndMatch
  intro s p c pos cycle codes sd
  refine ⟨fun u x y m v hu hx hy hm hv => ⟨fun hr hst hfrom hlast => ?detection, primaryDetection_ignored hu hx,
      fun hr hst => ?takeover, hm ▸ takeoverDue_iff, preambleTakeover_ignored hu hx⟩,
    fun prof u x n y at_ noise hprof hu hx hn hy hat hnoise => ⟨fun hr hst hpos hdl hmatch => ?matched, fun h => ?noMatch⟩,
    fun u x level hu hx hlevel => ⟨agcCommand_ignored hu hx hlevel, fun g hr hst hen hfrom hwin hfloor hlev hlate hg =>
      agcCommand_steps hu hx hlevel hr hst hen hfrom hwin hfloor hlev hlate hg, cycleInWindow_iff⟩⟩
  case detection =>
    rw [exec_primaryDetection hu hx hy hm hv hr hst hfrom hlast]
    refine ⟨fun h => by rw [if_pos h], fun h => ?_⟩
    rw [if_neg (Nat.not_lt.mpr h)]
    exact ⟨fun hg => by rw [ite_gatedOff_of_passes hg]; rfl, fun hg hsd => by rw [if_pos (gatedOff_iff.mpr ⟨hg, hsd⟩)]⟩
  case takeover =>
    rw [exec_preambleTakeover hu hx hy hm hv hr hst]
    refine ⟨fun hd hn => ?_, fun h => by rw [if_pos (by simpa using h)]⟩
    rw [if_neg (by simp [hd, hn])]
    exact ⟨fun hg => by rw [ite_gatedOff_of_passes hg]; rfl, fun hg hsd => by rw [if_pos (gatedOff_iff.mpr ⟨hg, hsd⟩)]⟩
  case matched =>
    rw [exec_delimiterMatch hprof hu hx hn hy hat hnoise hr hst hpos hdl (delimiterMatches_iff.mpr hmatch)]
    refine ⟨fun hq d hd => ?_, fun hq => by rw [if_pos hq]⟩
    rw [if_neg (by simp [hq]), ← hd]
  case noMatch =>
    rw [← delimiterMatches_eq_false_iff] at h
    exact delimiterMatch_ignored hprof hu hx hn hy h

/-- Settles O33: false locks and closed windows by what is left of the window, markers by their mode, and the loss of signal by its count. -/
theorem missingBurstsMarkersAndLossOfSignal : Obligations.MissingBurstsMarkersAndLossOfSignal := by
  unfold Obligations.MissingBurstsMarkersAndLossOfSignal
  intro s p c codes sd
  refine ⟨fun u x sym block y hu hx hsym hblock hy => ⟨fun hr hst hq hm h x' hx' => ?entry, fun hr hst hq hm h x' hx' => ?quiet,
      fun hr hst h => falseLock_overtaken hu hx hsym hblock hy hr hst (by rwa [gatedOff_eq_false_iff]), falseLock_ignored hu hx⟩,
    fun u x hu hx => ⟨fun hr hst => ?close, windowClose_ignored hu hx⟩,
    fun x hx => ⟨fun h => ?marked, fun h => by rw [exec_rssiMarker hx, if_pos (by simp [h])], marks_of_payload⟩,
    losDeclared_raises, losDeclared_ignored⟩
  case entry =>
    rw [← gatedOff_iff] at h
    rw [falseLock_stands hu hx hsym hblock hy hr hst hm h, if_neg (by simp [hq]), hx']
    exact ⟨fun hl => by rw [if_pos hl]; rfl, fun hl => by rw [if_neg (Nat.not_le.mpr hl)]; rfl⟩
  case quiet =>
    rw [← gatedOff_iff] at h
    rw [falseLock_stands hu hx hsym hblock hy hr hst hm h, if_pos hq, st_rearm, State.chan_setChan, hx']
    exact ⟨rfl, rfl⟩
  case close =>
    rw [exec_windowClose hu hx hr hst]
    exact ⟨fun hq => by rw [if_neg (by simp [hq])], fun hq => by rw [if_pos hq]⟩
  case marked =>
    rw [exec_rssiMarker hx, if_neg (by simp [h])]
    exact ⟨fun hP => by rw [if_neg (Nat.not_lt.mpr hP)], fun hP => by rw [if_pos hP]⟩

end Sys2Proof.Machine
end

section
/-!
Codewords (R144, R162 to R171, R173, R180): the engines that take their windows, the decoders that take their soft values, and their release. The order
lost, poisoned, failed parity of a codeword's cause, and the mode of the frame of its last symbol, are the model's choices (log entries 23 and 87).
-/
namespace Sys2Proof.Machine

section
variable {s : State} {p : Port} {cw : CwRef}

/-! ### The units that take a window or a codeword (R166, R169) -/

/-- The lowest-numbered unit of a state that meets a condition is the first one found. -/
theorem find?_unitsIn_of_lowest {cls : UnitClass} {ok q : Nat → Bool} {k : Nat} (hk : k < unitCount cls)
    (hok : ok (s.fld (unitState p cls k)) = true) (hq : q k = true)
    (hlow : ∀ j, j < k → ok (s.fld (unitState p cls j)) = true → q j = false) : (unitsIn s p cls ok).find? q = some k := by
  rw [unitsIn, List.find?_filter, List.find?_range_eq_some]
  refine ⟨by simp [hok, hq], List.mem_range.mpr hk, fun j hj => ?_⟩
  cases h : ok (s.fld (unitState p cls j))
  case false => simp
  case true => simp [hlow j hj h]

/-- An engine has no window at a cycle that it still works on. -/
def engineIdle (s : State) (p : Port) (now k : Nat) : Bool :=
  match Tab.find (s.port p).xtl.engines k with
  | some h => decide (h.2 ≤ now)
  | none => true

theorem engineIdle_iff {now k : Nat} : engineIdle s p now k = true ↔ ∀ h, Tab.find (s.port p).xtl.engines k = some h → h.2 ≤ now := by
  unfold engineIdle
  split
  next h hk => simp [hk]
  next hk => simp [hk]

theorem freeEngine_of_lowest {now k : Nat} (hk : k < 22) (h0 : s.fld (R.XTL_UNIT.state p k) = 0)
    (hidle : ∀ h, Tab.find (s.port p).xtl.engines k = some h → h.2 ≤ now)
    (hlow : ∀ j, j < k → s.fld (R.XTL_UNIT.state p j) = 0 → ∃ h, Tab.find (s.port p).xtl.engines j = some h ∧ now < h.2) :
    freeEngine s p now = some k := by
  refine find?_unitsIn_of_lowest (q := engineIdle s p now) hk (beq_iff_eq.mpr h0) (engineIdle_iff.mpr hidle) (fun j hj hj0 => ?_)
  obtain ⟨h, hh, hbusy⟩ := hlow j hj (beq_iff_eq.mp hj0)
  rw [← Bool.not_eq_true, engineIdle_iff]
  exact fun hall => absurd (hall h hh) (Nat.not_le.mpr hbusy)

theorem pickDecoder_of_lowest {now k : Nat} (hk : k < 9) (h0 : s.fld (R.XTL_DEC.state p k) = 0) (hidle : iterating s p k now = none)
    (hlow : ∀ j, j < k → s.fld (R.XTL_DEC.state p j) = 0 → iterating s p j now ≠ none) : pickDecoder s p now = some k := by
  have hfind : (unitsIn s p .decoder (· == 0)).find? (fun u => (iterating s p u now).isNone) = some k := by
    refine find?_unitsIn_of_lowest hk (beq_iff_eq.mpr h0) (Option.isNone_iff_eq_none.mpr hidle) (fun j hj hj0 => ?_)
    exact Option.isNone_eq_false_iff.mpr (Option.isSome_iff_ne_none.mpr (hlow j hj (beq_iff_eq.mp hj0)))
  rw [pickDecoder]
  dsimp only
  rw [hfind]

theorem engineWindows_of_m200 (hg : s.g50 p = false) (at_ n stride : Nat) : engineWindows s p at_ n stride = [(at_ - 64, n + 128)] :=
  if_neg (by simp [hg])

/-! ### Loading a decoder (R167, R169) -/

theorem preemptAt_of_idle {k now : Nat} (h : iterating s p k now = none) : s.preemptAt p k now = s := by
  rw [State.preemptAt, h]

theorem preemptAt_of_iterating {k now n : Nat} {d : DecSlot} (h : iterating s p k now = some d)
    (hn : n = (now - d.start) / iterationCycles s p) :
    s.preemptAt p k now = ((s.bumpP p 0x74).pulseP p 0x54 0).modXtl p (fun x => { x with
      decoders := Tab.put x.decoders k (((Tab.find x.decoders k).getD []).map (fun y =>
        if y.cw = d.cw then { d with limit := n, out := ldpcDecode d.offset n false d.soft } else y)),
      preempted := d.cw :: x.preempted }) := by
  subst hn
  rw [State.preemptAt, h]

theorem loadDecoder_of_picked {punct : List Nat} {soft : List Int} {mode now k off : Nat} {v : State} {d : DecSlot}
    (hoff : off = s.govOf cw.tick (R.XTL_CTRL.min_sum_offset p)) (hk : pickDecoder s p now = some k) (hv : v = s.preemptAt p k now)
    (hd : d = { cw := cw, start := now, soft := (withKnown punct soft).2, known := (withKnown punct soft).1, punct := punct, offset := off,
                limit := iterationLimit mode, out := ldpcDecode off (iterationLimit mode)
                  (s.govOf cw.tick (R.XTL_CTRL.early_stop p) == 1) (withKnown punct soft).2 }) :
    s.loadDecoder p cw punct soft mode now
      = (v.modXtl p (fun x => { x with decoders := Tab.put x.decoders k ((Tab.find x.decoders k).getD [] ++ [d]) })).auditStart p .decoder cw k
          now (d.out.iterations * iterationCycles (v.modXtl p (fun x => { x with
            decoders := Tab.put x.decoders k ((Tab.find x.decoders k).getD [] ++ [d]) })) p) := by
  subst hd hv hoff
  rw [State.loadDecoder]
  dsimp only
  rw [hk]

/-! ### The cause of a failed codeword (R11, R170, R171) -/

section
variable {x : XtlState} {bad : Bool} {unsat : Nat}

theorem cwCause_of_lost (h : x.lost.contains cw = true) : cwCause x cw bad unsat = some 3 := if_pos h

theorem cwCause_of_poisoned (h : x.lost.contains cw = false) (hb : bad = true) : cwCause x cw bad unsat = some 2 := by
  rw [cwCause, if_neg (by simp only [h, Bool.false_eq_true, not_false_iff]), if_pos hb]

theorem cwCause_of_held (h : x.lost.contains cw = false) (hb : bad = false) : cwCause x cw bad unsat =
    if unsat = 0 then none else some (if x.preempted.contains cw then 1 else 0) := by
  rw [cwCause, if_neg (by simp only [h, Bool.false_eq_true, not_false_iff]), if_neg (by simp [hb]), apply_ite some]

theorem cwCause_of_parity_good (h : x.lost.contains cw = false) (hb : bad = false) (h0 : unsat = 0) : cwCause x cw bad unsat = none := by
  rw [cwCause_of_held h hb, if_pos h0]

theorem cwCause_of_parity_bad (h : x.lost.contains cw = false) (hb : bad = false) (h0 : unsat ≠ 0) :
    cwCause x cw bad unsat = some (if x.preempted.contains cw then 1 else 0) := by
  rw [cwCause_of_held h hb, if_neg h0]

theorem cwCause_cases (h : x.lost.contains cw = false) (hb : bad = false) :
    cwCause x cw bad unsat = none ∨ cwCause x cw bad unsat = some 0 ∨ cwCause x cw bad unsat = some 1 := by
  rw [cwCause_of_held h hb]
  split
  · exact .inl rfl
  · split
    · exact .inr (.inr rfl)
    · exact .inr (.inl rfl)

end

/-! ### Commands that change nothing -/

section
variable {form : G50Form} {codes : List Int} {f : EngineFault} {obs : ReleaseObs}

theorem codewordWindowStart_noBurst (h : cwEntry s p cw = none ∨ xtlBurst s p cw.entry cw.tick cw.resp = none) :
    exec (.codewordWindowStart p ⟨cw, form, codes⟩) s = .next s := by
  show execCodewordWindowStart p ⟨cw, form, codes⟩ s = _
  unfold execCodewordWindowStart
  split
  next he hx =>
    rcases h with h | h
    · cases he.symm.trans h
    · cases hx.symm.trans h
  next => rfl

theorem codewordRelease_noBurst (h : cwEntry s p cw = none ∨ xtlBurst s p cw.entry cw.tick cw.resp = none) :
    exec (.codewordRelease p cw obs) s = .next s := by
  show execCodewordRelease p cw obs s = _
  unfold execCodewordRelease
  split
  next he hx =>
    rcases h with h | h
    · cases he.symm.trans h
    · cases hx.symm.trans h
  next => rfl

theorem codewordToDecoder_noWindow (h : (s.port p).xtl.windows.find? (fun w => w.cw = cw) = none) :
    exec (.codewordToDecoder p cw f) s = .next s := by
  show execCodewordToDecoder p cw f s = _
  rw [execCodewordToDecoder, h]

section
variable (h : s.fenced p = true ∨ s.inReset p = true)
include h

theorem codewordWindowStart_stopped : exec (.codewordWindowStart p ⟨cw, form, codes⟩) s = .next s := by
  show execCodewordWindowStart p ⟨cw, form, codes⟩ s = _
  unfold execCodewordWindowStart
  split
  · dsimp only
    split
    · rfl
    · rw [if_pos (by rcases h with h | h <;> simp [h])]
  · rfl

theorem codewordToDecoder_stopped : exec (.codewordToDecoder p cw f) s = .next s := by
  show execCodewordToDecoder p cw f s = _
  unfold execCodewordToDecoder
  split
  · rw [if_pos (by rcases h with h | h <;> simp [h])]
  · rfl

theorem codewordRelease_stopped : exec (.codewordRelease p cw obs) s = .next s := by
  show execCodewordRelease p cw obs s = _
  unfold execCodewordRelease
  split
  · dsimp only
    rw [if_pos (by rcases h with h | h <;> simp [h])]
  · rfl

end

end

/-! ### A codeword leaves its engine, and reaches TC delineation (R170, R171, R180) -/

/-- A codeword whose soft values are complete has left its engine with its decisions, and no audit of it goes on. -/
def XtlState.engineDone (t : XtlState) (cw : CwRef) (hard : List Int) : XtlState :=
  { t with
    windows := t.windows.filter (fun y => y.cw ≠ cw), engines := t.engines.filter (fun h => h.2.1 ≠ cw),
    decided := t.decided ++ [(cw, hard, none)], engJob := none }

/-- A codeword that its decoder has done with leaves it, is counted, and goes to TC delineation. -/
def State.releaseAs (s : State) (p : Port) (cw : CwRef) (e : MapEntry) (x : XtlBurst) (d : DecSlot) (n corr : Nat) (failed : Bool) : State :=
  let t := (s.dropCodeword p cw failed).modXtlBurst p x (fun y => { y with left := y.left - n })
  (t.countCodeword p corr d.out.iterations).emit (.codeword p cw failed (codewordInfo t p e x cw.index d.known d.out.bits))

/-- A failed codeword is recorded with its cause; delineation hunts, and its burst has failed. -/
def State.failCodeword (t : State) (p : Port) (cw : CwRef) (e : MapEntry) (onu cause unsat corr n : Nat) : State :=
  let t := (t.recordFail p cw onu cause unsat).watchCount p cw.tick onu true corr
  let t := (if cw.index = 0 && cw.resp = 0 then t.countBurst p cw.entry cw.tick else t).startHunt p e.alloc
  (t.acctCodeword p e cw.tick n true).modRake p (fun q => { q with bursts := q.bursts.map (fun b =>
    if b.entry = cw.entry ∧ b.tick = cw.tick then { b with failed := true } else b) })

/-- With a codeword behind the first, the burst's header is not lost. -/
theorem failCodeword_of_later {t : State} {e : MapEntry} (h0 : cw.index ≠ 0) (onu cause unsat corr n : Nat) :
    t.failCodeword p cw e onu cause unsat corr n = (((((t.recordFail p cw onu cause unsat).watchCount p cw.tick onu true corr).startHunt p
      e.alloc).acctCodeword p e cw.tick n true).modRake p (fun q => { q with bursts := q.bursts.map (fun b =>
        if b.entry = cw.entry ∧ b.tick = cw.tick then { b with failed := true } else b) })) := by
  rw [State.failCodeword, if_neg (by simp [h0])]

/-! ### CODEWORD_WINDOW_START (R144, R166, R173) -/

variable (hf : s.fenced p = false) (hi : s.inReset p = false)
include hf hi

section
variable {form : G50Form} {codes : List Int} {e : MapEntry} {x x' : XtlBurst} {n stride at_ : Nat} {u v : State} {w : CwWindow}
  (he : cwEntry s p cw = some e) (hx : xtlBurst s p cw.entry cw.tick cw.resp = some x) (hn : cwLength s p x cw form = some n)
  (hnew : (s.port p).xtl.windows.any (fun w => w.cw = cw) = false) (hdec : cwDecided s p cw = none)
  (hstride : stride = (s.profileOf p cw.tick e.profile).sym) (hat : at_ = x.start + (x.spans.take cw.index).sum * stride)
  (hu : u = s.settle p (at_ - 64 * stride))
  (hw : w = { cw := cw, start := at_ - 64 * stride, n := n, stride := stride, punct := if u.g50 p then form.punct else [],
              words := rxWords u p (at_ - 64 * stride + 49) codes, sets := [(at_ - 64 * stride, liveSet u p)] })
  (hx' : x' = if u.g50 p = true then { x with spans := x.spans ++ [n], total := some form.total } else x)
  (hv : v = ((u.modXtl p (fun t => { t with windows := t.windows ++ [w] })).modXtlBurst p x (fun _ => x')).trackingLoad p e x' at_)
include he hx hn hnew hdec hstride hat hu hw hx' hv

theorem codewordWindowStart_places : exec (.codewordWindowStart p ⟨cw, form, codes⟩) s
    = .next ((engineWindows v p at_ n stride).foldl (fun s i => s.placeWindow p cw (freeEngine s p (i.1 / 64)) i.1 i.2) v) := by
  show execCodewordWindowStart p ⟨cw, form, codes⟩ s = _
  rw [execCodewordWindowStart, he, hx]
  dsimp only
  rw [hn]
  dsimp only
  rw [if_neg (by simp only [hf, hi, hnew, hdec]; decide), XtlBurst.before_, ← hstride, ← hat, ← hu, hv, hx', hw]
  rfl

/-- The one window of a codeword goes to the engine that is free. -/
theorem codewordWindowStart_placesOne (hg : v.g50 p = false) {k : Nat} (hk : freeEngine v p ((at_ - 64) / 64) = some k) :
    exec (.codewordWindowStart p ⟨cw, form, codes⟩) s
      = .next ((v.modXtl p (fun t => { t with engines := Tab.put t.engines k (cw, (at_ - 64) / 64 + windowCycles (n + 128)) })).auditStart
          p .engine cw k ((at_ - 64) / 64) (windowCycles (n + 128))) := by
  rw [codewordWindowStart_places hf hi he hx hn hnew hdec hstride hat hu hw hx' hv, engineWindows_of_m200 hg, List.foldl_cons,
    List.foldl_nil, hk, State.placeWindow]

end

/-! ### CODEWORD_TO_DECODER (R162, R167, R169) -/

section
variable {f : EngineFault} {x : XtlBurst} {w : CwWindow} {last mode : Nat} {r : EngineRun} {u t : State} {out : EngineOut}

theorem exec_codewordToDecoder (hx : xtlBurst s p cw.entry cw.tick cw.resp = some x)
    (hw : (s.port p).xtl.windows.find? (fun w => w.cw = cw) = some w) (hlast : last = w.start + (w.n + 64) * w.stride)
    (hmode : mode = symbolMode s p (last - 1)) (hr : r = engineRun s p x w mode) (hu : u = if x.noise.1 = 0 then s.nextOpen else s)
    (hout : out = f.unit.getD { soft := r.soft, hard := r.hard }) (hjob : (s.port p).xtl.engJob = none)
    (ht : t = (u.modXtl p (fun t => t.engineDone cw out.hard)).modXtlBurst p x (fun y => { y with noise := r.noise, before := r.before })) :
    exec (.codewordToDecoder p cw f) s = .next (if (s.port p).xtl.lost.contains cw then t
      else t.loadDecoder p cw w.punct out.soft mode (loadedAt t p mode last)) := by
  have hport : u.port p = s.port p := by
    rw [hu, apply_ite (fun t : State => t.port p), State.nextOpen_port, ite_self]
  have hmod : u.modXtl p (fun t => t.engineDone cw out.hard) = u.modXtl p (fun t => { t.engineDone cw out.hard with
      engJob := if (none : Option AuditJob).isSome then none else t.engJob }) :=
    State.modXtl_congr (by rw [hport, hjob]; rfl)
  show execCodewordToDecoder p cw f s = _
  rw [execCodewordToDecoder, hw, hx]
  dsimp only
  rw [if_neg (by simp [hf, hi]), ← hlast, ← hmode, ← hr, ← hu, ← hout, hport, hjob, Option.filter_none, ht, hmod]
  rfl

end

/-! ### CODEWORD_RELEASE (R168, R170, R180) -/

theorem codewordRelease_ignored (hd : decoderOf (s.port p).xtl cw = none) (hl : (s.port p).xtl.lost.contains cw = false) (obs : ReleaseObs) :
    exec (.codewordRelease p cw obs) s = .next s := by
  show execCodewordRelease p cw obs s = _
  unfold execCodewordRelease
  split
  · dsimp only
    rw [hd, hl]
    exact congrArg _ (if_pos (by simp [hf, hi]))
  · rfl

/-- A codeword without poison goes out as its cause says. -/
theorem exec_codewordRelease {e : MapEntry} {x : XtlBurst} {k n corr : Nat} {d : DecSlot} {cause : Option Nat} (he : cwEntry s p cw = some e)
    (hx : xtlBurst s p cw.entry cw.tick cw.resp = some x) (hd : decoderOf (s.port p).xtl cw = some (k, d))
    (hopen : (cwDecided s p cw).bind Prod.snd = none) (hjob : (s.port p).xtl.decJob = none)
    (hn : n = cwSlots (s.profileOf p cw.tick e.profile).sym x cw.index) (hcorr : corr = correctedBits d.known d.punct d.soft d.out.bits)
    (hl : (s.port p).xtl.lost.contains cw = false) (hcause : cwCause (s.port p).xtl cw false d.out.unsat = cause) :
    exec (.codewordRelease p cw ⟨none, ⟨none, none⟩⟩) s = .next ((cause.elim
      (((s.releaseAs p cw e x d n corr false).watchCount p cw.tick (burstOnu s p e) false corr).acctCodeword p e cw.tick n false)
      (fun c => (s.releaseAs p cw e x d n corr true).failCodeword p cw e (burstOnu s p e) c d.out.unsat corr n)).drainRake p) := by
  show execCodewordRelease p cw _ s = _
  rw [execCodewordRelease, he, hx]
  dsimp only
  rw [hd, hopen, hjob, if_neg (by simp [hf, hi]), Option.filter_none, ← hn, Option.map_some, Option.map_some, Option.map_some, Option.map_some,
    Option.getD_some, Option.getD_some, Option.getD_none, Option.isSome_none, Option.getD_some, ← hcorr, hcause]
  rcases hcause ▸ cwCause_cases hl rfl with rfl | rfl | rfl
  · rfl
  · rfl
  · rfl

end

/-- Settles O34: what is ignored, then windows, soft values and releases of a codeword that is in hand, and the choice of their units. -/
theorem codewordsAreDecodedAndReleased : Obligations.CodewordsAreDecodedAndReleased := by
  unfold Obligations.CodewordsAreDecodedAndReleased
  intro s p cw form codes f g bad
  refine ⟨fun h => ⟨codewordWindowStart_noBurst h, codewordRelease_noBurst h⟩,
    fun h => ⟨codewordWindowStart_stopped h, codewordToDecoder_stopped h, codewordRelease_stopped h⟩, codewordToDecoder_noWindow,
    fun hf hi e x he hx => ⟨?window, ?decoder, ?release, fun hd hl => codewordRelease_ignored hf hi hd hl _⟩,
    fun now k hk h0 => freeEngine_of_lowest hk h0, fun at_ n stride hg => engineWindows_of_m200 hg at_ n stride,
    fun now k hk h0 => pickDecoder_of_lowest hk h0,
    fun punct soft mode now k off hoff hk => ⟨_, _, rfl, rfl, loadDecoder_of_picked hoff hk rfl rfl⟩,
    fun k now => ⟨preemptAt_of_idle, fun d h => ⟨_, rfl, preemptAt_of_iterating h rfl⟩⟩,
    fun x b unsat => ⟨cwCause_of_lost, cwCause_of_poisoned, cwCause_of_parity_good, cwCause_of_parity_bad⟩⟩
  case window =>
    intro n stride at_ u w x' v t k hn hnew hdec hstride hat hu hw hx' hv
    refine ⟨codewordWindowStart_places hf hi he hx hn hnew hdec hstride hat hu hw hx' hv, fun hg hk ht => ?_⟩
    rw [codewordWindowStart_placesOne hf hi he hx hn hnew hdec hstride hat hu hw hx' hv hg hk, ht]
    rfl
  case decoder =>
    intro w last mode r u out t hw hlast hmode hr hu hout hjob ht
    have hexec := exec_codewordToDecoder hf hi hx hw hlast hmode hr hu hout hjob ht
    exact ⟨fun hl => hexec.trans (congrArg _ (if_pos hl)), fun hl => hexec.trans (congrArg _ (if_neg (by rw [hl]; decide)))⟩
  case release =>
    rintro k d n corr hd hopen rfl hl hjob hn hcorr
    refine ⟨?passes, ?fails⟩
    case passes =>
      rintro h0 rfl
      rw [exec_codewordRelease hf hi he hx hd hopen hjob hn hcorr hl (cwCause_of_parity_good hl rfl h0), Option.elim_none, State.releaseAs]
    case fails =>
      rintro h0 rfl hlater
      rw [exec_codewordRelease hf hi he hx hd hopen hjob hn hcorr hl (cwCause_of_parity_bad hl rfl h0), Option.elim_some,
        failCodeword_of_later hlater, State.releaseAs]
      exact ⟨_, rfl, rfl⟩

end Sys2Proof.Machine
end

section
/-!
The commit of a map and the missed deadline (R276, R280, R281).
-/
namespace Sys2Proof.Machine

section
variable {s t : State} {p : Port} {d : Draft} {us : Nat}

/-! ### The computation as its commit finds it -/

theorem draftNow_of_none (h : (s.port p).dba.draft = none) : s.draftNow p = none := by
  rw [State.draftNow, h, Option.map_none]

theorem draftNow_of_some {d0 : Draft} (h : (s.port p).dba.draft = some d0) :
    s.draftNow p = some (if s.fenced p = true then d0.fenced (s.port p).onu.deferred else d0) := by
  rw [State.draftNow, h, Option.map_some]

/-! ### MAP_COMMIT and DBA_DEADLINE_MISS -/

theorem mapCommit_ignored (h : (s.port p).dba.draft = none) : exec (.mapCommit p us) s = .next s := by
  show execMapCommit p us s = _
  rw [execMapCommit, draftNow_of_none h]

theorem dbaDeadlineMiss_ignored (h : (s.port p).dba.draft = none) : exec (.dbaDeadlineMiss p) s = .next s := by
  show execDbaDeadlineMiss p s = _
  rw [execDbaDeadlineMiss, draftNow_of_none h]

section
variable (h : s.draftNow p = some d)
include h

theorem exec_mapCommit {a b c e z : State} (ha : a = s.commitWindows p d d.map)
    (hb : b = if d.normal = true then a.commitRecords p d else a.passFrame p false)
    (hc : c = ((b.countEach p d.clipped 0xC3 0x91).countEach p d.dropped 0xC4 0x92).bumpBy (portCtr p 0xC6) d.polls)
    (he : e = d.owed.foldl (fun s _ => s.pulseP p 0x93 0) (c.bumpBy (portCtr p 0xC7) d.ploams))
    (hz : z = e.modProt p (fun q => { q with ploamTurn := d.light.getD q.ploamTurn })) :
    exec (.mapCommit p us) s = .next (z.commitMap p d d.map us) := by
  subst hz he hc hb ha
  show execMapCommit p us s = _
  rw [execMapCommit, h]

theorem exec_dbaDeadlineMiss : exec (.dbaDeadlineMiss p) s = .next (((((s.nextOpen.commitWindows p d d.windows).passFrame
    p d.normal).bumpP p 0xC5).pulseP p 0x90 0).commitMap p d d.windows (s.openNat % 128)) := by
  show execDbaDeadlineMiss p s = _
  rw [execDbaDeadlineMiss, h]

end

/-! ### The map of a port that sends none to a partner (R276, R410) -/

theorem prot_modDba (f : DbaState → DbaState) : ((s.modDba p f).port p).prot = (s.port p).prot := by
  rw [State.modDba, State.port_modPort]

theorem prot_modAcct (tick : Nat) (f : SlotAcct → SlotAcct) : ((s.modAcct p tick f).port p).prot = (s.port p).prot := prot_modDba _

theorem prot_foldl {α : Type} {f : State → α → State} (h : ∀ t e, ((f t e).port p).prot = (t.port p).prot) (l : List α) :
    ((l.foldl f s).port p).prot = (s.port p).prot := by
  induction l generalizing s with
  | nil => rfl
  | cons e l ih => rw [List.foldl_cons, ih, h]

theorem prot_installMap (tick : Nat) (m : BwMap) : ((s.installMap p tick m).port p).prot = (s.port p).prot :=
  (prot_foldl (fun _ _ => prot_modAcct tick _) _).trans ((prot_modAcct tick _).trans (prot_modDba _))

/-- A commit is counted and shown, its map installed, and its computation over. -/
theorem commitMap_of_not_active {m : BwMap} (h : (t.port p).prot.role ≠ .active) :
    t.commitMap p d m us = (((((((t.bumpP p 0xC0).bumpBy (portCtr p 0xC1) m.entries.length).bumpBy (portCtr p 0xC2)
      ((m.entries.filter (fun e => !isDisc e)).map MapEntry.slots).sum).setFld (R.DBA_STATUS.entries p) m.entries.length).setFld
      (R.DBA_STATUS.pass_us p) (min us 127)).modDba p (fun x => { x with draft := none })).installMap p d.gov m) := by
  rw [State.commitMap, if_neg]
  rw [prot_installMap, prot_modDba, State.setFld_port, State.setFld_port, State.bumpBy_port, State.bumpBy_port, State.bumpP_port]
  simp [h]

end

end Sys2Proof.Machine
end

section
/-!
The Rake (R128 to R142): its buffer, what becomes of a block, and the write-backs. That a block which finds 64 in the buffer is not taken, and that
EQZ_LAST_WB_1.err_mean of a discarded write-back is 0, are the model's choices (log entries 86 and 105).
-/
namespace Sys2Proof.Machine

section
variable {s : State} {p : Port}

/-! ### RAKE_BLOCK (R128, R131) -/

section
variable {blk : RakeBlock}

theorem rakeBlock_noBurst (h : rakeBurst s p blk.entry blk.tick = none) : exec (.rakeBlock p blk) s = .next s := by
  show execRakeBlock p blk s = _
  rw [execRakeBlock, h]

variable {b : RakeBurst} (hb : rakeBurst s p blk.entry blk.tick = some b)
include hb

theorem rakeBlock_ignored (h : s.fenced p = true ∨ s.inReset p = true ∨ s.receiving p = false ∨ wholeBlocks s p b ≤ blk.index ∨
    64 ≤ (s.port p).rake.buffer.length) : exec (.rakeBlock p blk) s = .next s := by
  show execRakeBlock p blk s = _
  rw [execRakeBlock, hb]
  dsimp only
  rw [if_pos (by rcases h with h | h | h | h | h <;> simp [h])]

theorem rakeBlock_taken (hf : s.fenced p = false) (hi : s.inReset p = false) (hr : s.receiving p = true)
    (hw : blk.index < wholeBlocks s p b) (hn : (s.port p).rake.buffer.length < 64) {h : HeldBlock}
    (hh : h = { entry := b.entry, tick := b.tick, onu := b.onu, index := blk.index,
                words := rxWords s p (b.start + 4096 * (burstProfile s p b).sym * blk.index + 49) blk.codes }) :
    exec (.rakeBlock p blk) s = .next (((s.memWrite (dieSpace p) (dieWord p 8 (rakePlace h)) allBytes).modRake p
      (fun k => { k with buffer := k.buffer ++ [h] })).drainRake p) := by
  show execRakeBlock p blk s = _
  rw [execRakeBlock, hb]
  dsimp only
  rw [if_neg (by simp [hf, hi, hr, hw, hn]), ← hh]

end

/-! ### The buffer is worked off -/

section
variable {h : HeldBlock}

theorem drainRake_single (hr : s.receiving p = true) (hb : (s.port p).rake.buffer = [h]) : s.drainRake p =
    match blockReady s p h with
    | some ex => (s.rakeDone p h ex).modRake p (fun k => { k with buffer := [] })
    | none => s.modRake p (fun k => { k with buffer := [h] }) := by
  rw [State.drainRake, if_neg (by simp [hr, hb]), hb]
  cases hready : blockReady s p h
  all_goals simp [hready]

variable {ex : Bool}

theorem rakeDone_noBurst (hb : rakeBurst s p h.entry h.tick = none) : s.rakeDone p h ex = s := by
  rw [State.rakeDone, hb]

/-- The Rake adapts from a block with a staged preset that it considers, in its place of the buffer; any other leaves no trace. -/
def State.rakeTake (s : State) (p : Port) (b : RakeBurst) (h : HeldBlock) (ex : Bool) : State :=
  match b.staged with
  | some x =>
    if considered s p b h.index then (s.useDie p 8 (rakePlace h) 8).rakeAdapt p b x (ex || dieBad s p 8 (rakePlace h)) h else s
  | none => s

theorem rakeTake_of_not_considered {b : RakeBurst} (hc : considered s p b h.index = false) : s.rakeTake p b h ex = s := by
  rw [State.rakeTake]
  split
  · rw [if_neg (by simp [hc])]
  · rfl

theorem rakeTake_of_considered {b : RakeBurst} {x : Staged} (hc : considered s p b h.index = true) (hx : b.staged = some x) :
    s.rakeTake p b h ex = (s.useDie p 8 (rakePlace h) 8).rakeAdapt p b x (ex || dieBad s p 8 (rakePlace h)) h := by
  rw [State.rakeTake, hx]
  exact if_pos hc

variable {b : RakeBurst} (hb : rakeBurst s p h.entry h.tick = some b)
include hb

/-- After the block, the last whole one of a training burst that has not been judged ends it. -/
theorem rakeDone_of_burst : s.rakeDone p h ex =
    match rakeBurst (s.rakeTake p b h ex) p h.entry h.tick with
    | none => s.rakeTake p b h ex
    | some y =>
      if y.train && h.index + 1 = wholeBlocks (s.rakeTake p b h ex) p b && !y.judged then
        (s.rakeTake p b h ex).judge p y (wholeBlocks (s.rakeTake p b h ex) p b)
      else s.rakeTake p b h ex := by
  rw [State.rakeDone, hb]
  rfl

/-- A burst that is no training burst is not judged. -/
theorem rakeDone_of_data {u : State} (hu : u = s.rakeTake p b h ex) (hy : ∀ y, rakeBurst u p h.entry h.tick = some y → y.train = false) :
    s.rakeDone p h ex = u := by
  rw [rakeDone_of_burst hb, ← hu]
  split
  · rfl
  next y hfound => rw [if_neg (by simp [hy y hfound])]

theorem rakeDone_ignored (hc : considered s p b h.index = false) (ht : b.train = false) : s.rakeDone p h ex = s :=
  rakeDone_of_data hb (rakeTake_of_not_considered hc).symm (fun y hy => by rwa [← Option.some.inj (hb.symm.trans hy)])

theorem rakeDone_judges (hc : considered s p b h.index = false) (ht : b.train = true) (hw : h.index + 1 = wholeBlocks s p b)
    (hj : b.judged = false) : s.rakeDone p h ex = s.judge p b (wholeBlocks s p b) := by
  rw [rakeDone_of_burst hb, rakeTake_of_not_considered hc, hb]
  exact if_pos (by simp [ht, hw, hj])

end

/-! ### RAKE_WRITEBACK (R137, R138, R142) -/

section
variable {onu : Nat}

/-- A burst of an ONU that has a write-back in its frame. -/
def writesBackFor (s : State) (p : Port) (onu : Nat) (b : RakeBurst) : Bool := b.onu == onu && writesBack s p b

/-- The running copy of an ONU as the write-back of a burst's frame finds it where it has not been put by. -/
def frameCopy (s : State) (p : Port) (onu : Nat) (b : RakeBurst) : Running :=
  match Tab.find (s.port p).rake.running onu with
  | some r => if r.frame = b.tick then r else r.fresh b.tick
  | none => Running.start (trainBase s p b) b.tick

theorem rakeWriteback_ignored
    (h : (s.port p).rake.bursts.find? (fun b => writesBackFor s p onu b && decide (b.tick < s.tick)) = none) :
    exec (.rakeWriteback p onu) s = .next s := by
  unfold writesBackFor at h
  show execRakeWriteback p onu s = _
  rw [execRakeWriteback]
  dsimp only
  rw [h]

variable {b : RakeBurst} {own : Option Running} {h : Running} {t : State}
  (hb : (s.port p).rake.bursts.find? (fun b => writesBackFor s p onu b && decide (b.tick < s.tick)) = some b)
  (hown : own = (Tab.find (s.port p).rake.closed onu).filter (fun r => r.frame == b.tick))
  (hh : h = own.getD (frameCopy s p onu b))
  (ht : t = s.modRake p (fun k => { k with
    bursts := k.bursts.filter (fun x => !(writesBackFor s p onu x && x.tick == b.tick)),
    closed := if own.isSome = true then Tab.del k.closed onu else k.closed,
    running := k.running.map (fun e => if e.1 = onu ∧ e.2.frame = b.tick then (e.1, e.2.fresh b.tick) else e) }))
include hb hown hh ht

/-- The frame's bursts are behind it; what comes of the copy is by the port, the context, its preset's poison and its gen. -/
theorem exec_rakeWriteback : exec (.rakeWriteback p onu) s = .next (
    if t.fenced p || t.inReset p || !t.receiving p then (t.bumpP p 0x61).lastWb p onu 2 false h 0
    else match t.slotOf p onu with
      | none => ((t.bumpP p 0x61).pulseP p 0x40 0).lastWb p onu 1 false h 0
      | some c =>
        let u := t.memRead 0 (presetWord p c false)
        if memPoison u 0 (presetWord p c false) &&& 2 ^ 6 ≠ 0 then
          (((u.consumePoison 0 (presetWord p c false) 5).fencePort p [0x06]).bumpP p 0x61).lastWb p onu 2 false h 0
        else if (u.ctx p c).work.gen ≠ h.gen then ((u.bumpP p 0x61).pulseP p 0x40 0).lastWb p onu 1 false h 0
        else u.applyWb p c (trainBase s p b) h ((u.fc + 2 ^ 51 - (u.tick - b.tick)) % 2 ^ 51)
          (((s.port p).rake.bursts.filter (fun x => writesBackFor s p onu x && x.tick == b.tick)).any (fun x => x.failed))) := by
  subst ht hh hown
  unfold writesBackFor at hb
  show execRakeWriteback p onu s = _
  rw [execRakeWriteback]
  dsimp only
  rw [hb]
  rfl

theorem rakeWriteback_discarded (hn : t.fenced p = true ∨ t.inReset p = true ∨ t.receiving p = false) :
    exec (.rakeWriteback p onu) s = .next ((t.bumpP p 0x61).lastWb p onu 2 false h 0) := by
  rw [exec_rakeWriteback hb hown hh ht, if_pos (by rcases hn with hn | hn | hn <;> simp [hn])]

section
variable (hf : t.fenced p = false) (hi : t.inReset p = false) (hr : t.receiving p = true)
include hf hi hr

theorem rakeWriteback_noContext (hc : t.slotOf p onu = none) :
    exec (.rakeWriteback p onu) s = .next (((t.bumpP p 0x61).pulseP p 0x40 0).lastWb p onu 1 false h 0) := by
  rw [exec_rakeWriteback hb hown hh ht, if_neg (by simp [hf, hi, hr]), hc]

variable {c w : Nat} {u : State} (hc : t.slotOf p onu = some c) (hw : w = presetWord p c false) (hu : u = t.memRead 0 w)
include hc hw hu

theorem rakeWriteback_of_context : exec (.rakeWriteback p onu) s = .next (
    if memPoison u 0 w &&& 2 ^ 6 ≠ 0 then
      (((u.consumePoison 0 w 5).fencePort p [0x06]).bumpP p 0x61).lastWb p onu 2 false h 0
    else if (u.ctx p c).work.gen ≠ h.gen then ((u.bumpP p 0x61).pulseP p 0x40 0).lastWb p onu 1 false h 0
    else u.applyWb p c (trainBase s p b) h ((u.fc + 2 ^ 51 - (u.tick - b.tick)) % 2 ^ 51)
      (((s.port p).rake.bursts.filter (fun x => writesBackFor s p onu x && x.tick == b.tick)).any (fun x => x.failed))) := by
  subst hu hw
  rw [exec_rakeWriteback hb hown hh ht, if_neg (by simp [hf, hi, hr]), hc]

theorem rakeWriteback_poisoned (hp : memPoison u 0 w &&& 2 ^ 6 ≠ 0) : exec (.rakeWriteback p onu) s
    = .next ((((u.consumePoison 0 w 5).fencePort p [0x06]).bumpP p 0x61).lastWb p onu 2 false h 0) := by
  rw [rakeWriteback_of_context hb hown hh ht hf hi hr hc hw hu, if_pos hp]

theorem rakeWriteback_otherGen (hp : memPoison u 0 w &&& 2 ^ 6 = 0) (hg : (u.ctx p c).work.gen ≠ h.gen) :
    exec (.rakeWriteback p onu) s = .next (((u.bumpP p 0x61).pulseP p 0x40 0).lastWb p onu 1 false h 0) := by
  rw [rakeWriteback_of_context hb hown hh ht hf hi hr hc hw hu, if_neg (not_not.mpr hp), if_pos hg]

theorem rakeWriteback_applied (hp : memPoison u 0 w &&& 2 ^ 6 = 0) (hg : (u.ctx p c).work.gen = h.gen) :
    exec (.rakeWriteback p onu) s
      = .next (u.applyWb p c (trainBase s p b) h ((u.fc + 2 ^ 51 - (u.tick - b.tick)) % 2 ^ 51)
          (((s.port p).rake.bursts.filter (fun x => writesBackFor s p onu x && x.tick == b.tick)).any (fun x => x.failed))) := by
  rw [rakeWriteback_of_context hb hown hh ht hf hi hr hc hw hu, if_neg (not_not.mpr hp), if_neg (not_not.mpr hg)]

end

end

end

/-- Settles O45: a commit by the draft it finds, a block by its burst and the buffer, a write-back by the oldest burst before the present frame. -/
theorem mapsAreCommittedAndTheRakeAdapts : Obligations.MapsAreCommittedAndTheRakeAdapts := by
  unfold Obligations.MapsAreCommittedAndTheRakeAdapts
  intro s p us onu blk
  refine ⟨fun h => ⟨mapCommit_ignored h, dbaDeadlineMiss_ignored h⟩,
    fun d0 d h hd => ⟨fun a b c ha hb hc e he z hz => ?commit, ?miss, ?fenced⟩,
    fun t d m => commitMap_of_not_active, rakeBlock_noBurst,
    fun b hb => ⟨rakeBlock_ignored hb, fun hf hi hr hw hn h hh => rakeBlock_taken hb hf hi hr hw hn hh⟩,
    fun h hr hb => ⟨fun hn => ?stays, fun ex hex => ?done⟩,
    fun h ex => ⟨rakeDone_noBurst, fun b hb => ⟨rakeDone_ignored hb, ?adapts, rakeDone_judges hb⟩⟩, ?writeback⟩
  case commit => exact exec_mapCommit (hd ▸ draftNow_of_some h) ha hb hc he hz
  case miss => exact exec_dbaDeadlineMiss (hd ▸ draftNow_of_some h)
  case fenced =>
    intro hf
    rw [hd, if_pos hf]
    exact ⟨rfl, rfl⟩
  case stays => rw [drainRake_single hr hb, hn]
  case done => rw [drainRake_single hr hb, hex]
  case adapts =>
    rintro x hc hx - w u rfl hu hy
    exact rakeDone_of_data hb (hu.trans (rakeTake_of_considered hc hx).symm) hy
  case writeback =>
    rintro mine (rfl : mine = writesBackFor s p onu)
    refine ⟨rakeWriteback_ignored, fun b own h t hb hown hh ht => ?_⟩
    replace hh : h = own.getD (frameCopy s p onu b) := hh
    exact ⟨rakeWriteback_discarded hb hown hh ht, fun hf hi hr => ⟨rakeWriteback_noContext hb hown hh ht hf hi hr, fun c w u hc hw hu =>
      ⟨rakeWriteback_poisoned hb hown hh ht hf hi hr hc hw hu, rakeWriteback_otherGen hb hown hh ht hf hi hr hc hw hu,
        rakeWriteback_applied hb hown hh ht hf hi hr hc hw hu⟩⟩⟩

end Sys2Proof.Machine
end

section
/-!
The preset commands (R136, R149): the context they find, and what they make of its working preset and its anchor. That every context but a FREE one
counts for its ONU-ID is the model's choice (log entry 106).
-/
namespace Sys2Proof.Machine

section
variable {s : State} {iss : Issue} {op0 c : Nat} {record : List Byte}

/-! ### The context of a command's ONU-ID -/

theorem presetCmd_of_absent {mask : Nat} (h : Starts s iss iss.port [(op0, mask)]) (k : State → Nat → State)
    (hn : bitsOf op0 9 0 = 1023 ∨ (s.startCmd iss).slotOf iss.port (bitsOf op0 9 0) = none) :
    s.presetCmd iss op0 mask k = (s.startCmd iss).refuse iss (Config.presetReason 0).toNat := by
  have hslot : (if bitsOf op0 9 0 = 1023 then none else (s.startCmd iss).slotOf iss.port (bitsOf op0 9 0)) = none := by
    rcases hn with hn | hn
    · rw [if_pos hn]
    · rw [hn, ite_self]
  rw [State.presetCmd, hostCmd_of_starts h]
  dsimp only
  rw [hslot]

theorem presetCmd_of_context {mask : Nat} (h : Starts s iss iss.port [(op0, mask)]) (k : State → Nat → State)
    (hb : bitsOf op0 9 0 ≠ 1023) (hc : (s.startCmd iss).slotOf iss.port (bitsOf op0 9 0) = some c) :
    s.presetCmd iss op0 mask k = k (s.startCmd iss) c := by
  rw [State.presetCmd, hostCmd_of_starts h]
  dsimp only
  rw [if_neg hb, hc]

/-! ### PRESET_WRITE (Table 5-3) -/

/-- The presets that `sel` names are written from a record, each with its words of memory. -/
def State.recordPresets (s : State) (p : Port) (c sel : Nat) (record : List Byte) : State :=
  let s := s.modCtx p c (fun x => ({ x with
    work := if bitAt sel 0 then presetFrom record x.work else x.work,
    anchor := if bitAt sel 1 then presetFrom record x.anchor else x.anchor } : OnuCtx).nextGen)
  let s := if bitAt sel 0 then s.memWriteWords 0 (presetWord p c false) 4 else s
  if bitAt sel 1 then s.memWriteWords 0 (presetWord p c true) 4 else s

section
variable (p : Port) (c : Nat) (record : List Byte)

theorem recordPresets_work : s.recordPresets p c 1 record = (s.modCtx p c (fun x =>
    ({ x with work := presetFrom record x.work } : OnuCtx).nextGen)).memWriteWords 0 (presetWord p c false) 4 := rfl

theorem recordPresets_anchor : s.recordPresets p c 2 record = (s.modCtx p c (fun x =>
    ({ x with anchor := presetFrom record x.anchor } : OnuCtx).nextGen)).memWriteWords 0 (presetWord p c true) 4 := rfl

theorem recordPresets_both : s.recordPresets p c 3 record = ((s.modCtx p c (fun x =>
    ({ x with work := presetFrom record x.work, anchor := presetFrom record x.anchor } : OnuCtx).nextGen)).memWriteWords 0
      (presetWord p c false) 4).memWriteWords 0 (presetWord p c true) 4 := rfl

end

theorem presetWrite_of_absent (h : Starts s iss iss.port [(op0, 0x303FF)])
    (hn : bitsOf op0 9 0 = 1023 ∨ (s.startCmd iss).slotOf iss.port (bitsOf op0 9 0) = none) :
    exec (.presetWrite iss op0 record) s = .next ((s.startCmd iss).refuse iss (Config.presetReason 0).toNat) :=
  congrArg Host.Outcome.next (presetCmd_of_absent h _ hn)

variable (hb : bitsOf op0 9 0 ≠ 1023) (hc : (s.startCmd iss).slotOf iss.port (bitsOf op0 9 0) = some c)
include hb hc

theorem exec_presetWrite (h : Starts s iss iss.port [(op0, 0x303FF)]) : exec (.presetWrite iss op0 record) s = .next (
    if bitsOf op0 17 16 = 0 then (s.startCmd iss).refuse iss 0x10
    else if !recordOk record then (s.startCmd iss).refuse iss (Config.presetReason 1).toNat
    else ((s.startCmd iss).recordPresets iss.port c (bitsOf op0 17 16) record).succeed iss 0 0) :=
  congrArg Host.Outcome.next (presetCmd_of_context h _ hb hc)

theorem presetWrite_unselected (h : Starts s iss iss.port [(op0, 0x303FF)]) (hsel : bitsOf op0 17 16 = 0) :
    exec (.presetWrite iss op0 record) s = .next ((s.startCmd iss).refuse iss 0x10) := by
  rw [exec_presetWrite hb hc h, if_pos hsel]

theorem presetWrite_badRecord (h : Starts s iss iss.port [(op0, 0x303FF)]) (hsel : bitsOf op0 17 16 ≠ 0) (hr : recordOk record = false) :
    exec (.presetWrite iss op0 record) s = .next ((s.startCmd iss).refuse iss (Config.presetReason 1).toNat) := by
  rw [exec_presetWrite hb hc h, if_neg hsel, if_pos (by simp [hr])]

theorem presetWrite_writes (h : Starts s iss iss.port [(op0, 0x303FF)]) (hr : recordOk record = true) {sel : Nat}
    (hsel : bitsOf op0 17 16 = sel) (h0 : sel ≠ 0) :
    exec (.presetWrite iss op0 record) s = .next (((s.startCmd iss).recordPresets iss.port c sel record).succeed iss 0 0) := by
  rw [exec_presetWrite hb hc h, hsel, if_neg h0, if_neg (by simp [hr])]

/-! ### PRESET_ANCHOR and PRESET_RESTORE -/

theorem exec_presetAnchor (h : Starts s iss iss.port [(op0, 0x3FF)]) : exec (.presetAnchor iss op0) s = .next (
    if !((s.startCmd iss).ctx iss.port c).work.valid then (s.startCmd iss).refuse iss (Config.presetReason 2).toNat
    else (((s.startCmd iss).modCtx iss.port c (fun x => ({ x with anchor := x.work } : OnuCtx).nextGen)).copyPreset
      iss.port c false).succeed iss 0 0) :=
  congrArg Host.Outcome.next (presetCmd_of_context h _ hb hc)

theorem exec_presetRestore (h : Starts s iss iss.port [(op0, 0x3FF)]) : exec (.presetRestore iss op0) s = .next (
    if !((s.startCmd iss).ctx iss.port c).anchor.valid then (s.startCmd iss).refuse iss (Config.presetReason 2).toNat
    else (((s.startCmd iss).modCtx iss.port c (fun x => ({ x with
      work := { x.anchor with gen := x.work.gen, anchorRun := 0 } } : OnuCtx).nextGen)).copyPreset iss.port c true).succeed iss 0 0) :=
  congrArg Host.Outcome.next (presetCmd_of_context h _ hb hc)

end

/-- Settles O46: by the context of the ONU-ID, then by what `sel` names and whether the source is valid. -/
theorem presetCommandsSetTheRecords : Obligations.PresetCommandsSetTheRecords := by
  unfold Obligations.PresetCommandsSetTheRecords
  rintro s iss op0 record t p rfl rfl
  refine ⟨presetWrite_of_absent, fun c hb hc => ⟨fun h => ⟨presetWrite_unselected hb hc h, presetWrite_badRecord hb hc h,
    fun hr => ⟨fun hsel => ?work, fun hsel => ?anchor, fun hsel => ?both⟩⟩, fun h => ⟨fun hv => ?anchored, fun hv => ?unanchored,
    fun hv => ?restored, fun hv => ?unrestored⟩⟩, fun x => ⟨rfl, rfl, rfl⟩⟩
  case work => rw [presetWrite_writes hb hc h hr hsel (by decide), recordPresets_work]
  case anchor => rw [presetWrite_writes hb hc h hr hsel (by decide), recordPresets_anchor]
  case both => rw [presetWrite_writes hb hc h hr hsel (by decide), recordPresets_both]
  case anchored => rw [exec_presetAnchor hb hc h, if_neg (by simp [hv])]
  case unanchored => rw [exec_presetAnchor hb hc h, if_pos (by simp [hv])]
  case restored => rw [exec_presetRestore hb hc h, if_neg (by simp [hv])]
  case unrestored => rw [exec_presetRestore hb hc h, if_pos (by simp [hv])]

end Sys2Proof.Machine
end

section
/-!
Register accesses (R336, R525 to R530): how a write comes to its register, what a read of a latched set keeps, the halves of the sideband, and the
commits of the transmitter (R202).
-/
namespace Sys2Proof.Machine

section
variable {s : State} {src a v us : Nat} {p : Port}

/-! ### The sizes of a write (R525, R527) -/

theorem registerWrite_unseen (h : 9 ≤ src ∨ sees src a = false) (size en : Nat) :
    exec (.registerWrite src a size en v us) s = .next s := by
  refine congrArg Host.Outcome.next (if_pos ?_)
  rcases h with h | h <;> simp [h]

section
variable (hs : src < 9) (hv : sees src a = true)
include hs hv

/-- A write whose source sees the address is one or two writes of 4 bytes, or is recorded. -/
theorem registerWrite_seen (size en : Nat) : exec (.registerWrite src a size en v us) s = .next (
    if (size = 4 ∨ size = 8) ∧ a % size = 0 ∧ en % 2 ^ size = 2 ^ size - 1 then
      if size = 8 then (s.write4 src a (v % 2 ^ 32) us).write4 src (a + 4) (v / 2 ^ 32 % 2 ^ 32) us else s.write4 src a (v % 2 ^ 32) us
    else s.recordAccess src a 1 true) := by
  refine congrArg Host.Outcome.next ((if_neg (by simp [hs, hv])).trans ?_)
  simp only [Bool.and_eq_true, Bool.or_eq_true, decide_eq_true_eq, and_assoc]

theorem registerWrite_malformed {size en : Nat} (h : (size ≠ 4 ∧ size ≠ 8) ∨ a % size ≠ 0 ∨ en % 2 ^ size ≠ 2 ^ size - 1) :
    exec (.registerWrite src a size en v us) s = .next (s.recordAccess src a 1 true) := by
  rw [registerWrite_seen hs hv, if_neg (by tauto)]

theorem registerWrite_word (h : a % 4 = 0) : exec (.registerWrite src a 4 0xF v us) s = .next (s.write4 src a (v % 2 ^ 32) us) := by
  rw [registerWrite_seen hs hv, if_pos ⟨.inl rfl, h, rfl⟩, if_neg (by decide)]

theorem registerWrite_doubleword (h : a % 8 = 0) : exec (.registerWrite src a 8 0xFF v us) s
    = .next ((s.write4 src a (v % 2 ^ 32) us).write4 src (a + 4) (v / 2 ^ 32 % 2 ^ 32) us) := by
  rw [registerWrite_seen hs hv, if_pos ⟨.inr rfl, h, rfl⟩, if_pos rfl]

end

/-! ### A write with no row of its own (Table 0-5, R549) -/

/-- Outside the BDA block, whose outputs are first settled, a hub register's write is held against the ranges alone. -/
theorem plainWrite_hub (hn : ringOwner a = none) (hp : portAt a = none) (hb : addrBlock a ≠ 4) : s.plainWrite a v us =
    if hubOk s (s.setReg a (writtenWord s a v)) a then s.afterWrite (s.setReg a (writtenWord s a v)) a else s.refuseWrite a := by
  simp [State.plainWrite, hn, hp, hb]

theorem plainWrite_port (hn : ringOwner a = none) (hp : portAt a = some p) (ha : addrPort a ≠ none) : s.plainWrite a v us =
    if portOk s (s.setReg a (writtenWord s a v)) p a v then s.afterWrite (s.setReg a (writtenWord s a v)) a else s.refuseWrite a := by
  simp [State.plainWrite, hn, hp, ha]

section
variable (hr : Reaches s src a) (ha : (regAt a).isSome = true)
include hr ha

theorem write4_hub (hp : portAt a = none) (ho : s.hubWrite src a v us = none) : s.write4 src a v us = s.plainWrite a v us := by
  simp only [State.write4, hp, ho, accessed_of_reaches hr, ha, if_true]

theorem write4_port (hp : portAt a = some p) (ho : s.portWrite src p a v = none) : s.write4 src a v us = s.plainWrite a v us := by
  simp only [State.write4, hp, ho, accessed_of_reaches hr, ha, if_true]

end

/-! ### Latched sets (R526) -/

theorem latchedSetRead_outside (h : setOf a = none) : exec (.latchedSetRead src a) s = .next s := by
  change execLatchedSetRead src a s = _
  simp only [execLatchedSetRead, h]

section
variable {l : List Nat} (h : setOf a = some l)
include h

theorem latchedSetRead_unseen (hv : sees src a = false) : exec (.latchedSetRead src a) s = .next (s.emit (.readData src a 0)) := by
  change execLatchedSetRead src a s = _
  simp [execLatchedSetRead, h, hv]

theorem latchedSetRead_refused (hv : sees src a = true) (hk : accessKind s src a false ≠ 0) : exec (.latchedSetRead src a) s
    = .next ((s.emit (.readData src a 0)).recordAccess src a (accessKind s src a false) false) := by
  change execLatchedSetRead src a s = _
  simp [execLatchedSetRead, h, hv, hk]

/-- The first register of a set is returned as it reads, and the others are latched for its reader. -/
theorem latchedSetRead_latches (hv : sees src a = true) (hk : accessKind s src a false = 0) {t : State}
    (ht : t = s.emit (.readData src a (s.reg a).toNat)) : exec (.latchedSetRead src a) s
      = .next { t with path := { t.path with latches := Tab.put t.path.latches (latchKey src a) (l.map t.reg) } } := by
  change execLatchedSetRead src a s = _
  simp [execLatchedSetRead, h, hv, hk, ht]

end

/-! ### The halves of the sideband (R456, R529, R530) -/

/-- The high half of an aligned register belongs to that register. -/
theorem highHalf_register (h : a % 4 = 0) : a + 2 - (a + 2) % 4 = a ∧ (a + 2) % 4 ≠ 0 := by omega

theorem sidebandReadHalf_refused (h : sidebandKind s a false ≠ 0) : exec (.sidebandReadHalf a) s
    = .next ((s.emit (.readData 15 a 0)).recordAccess 15 a (sidebandKind s a false) false) :=
  congrArg Host.Outcome.next (if_pos h)

theorem sidebandWriteHalf_refused (h : sidebandKind s a true ≠ 0) : exec (.sidebandWriteHalf a v us) s
    = .next (s.recordAccess 15 a (sidebandKind s a true) true) :=
  congrArg Host.Outcome.next (if_pos h)

theorem sidebandReadHalf_low (h : a % 4 = 0) (hk : sidebandKind s a false = 0) : exec (.sidebandReadHalf a) s
    = .next (((s.emit (.readData 15 a ((s.reg a).toNat % 2 ^ 16))).setShadow a (some (a, (s.reg a).toNat / 2 ^ 16))).dataHalf a false) := by
  change execSidebandReadHalf a s = _
  simp [execSidebandReadHalf, hk, h]

section
variable (h : a % 4 = 0) (hk : sidebandKind s (a + 2) false = 0)
include h hk

theorem sidebandReadHalf_shadowed {x : Nat} (hx : s.shadowOf a = some (a, x)) : exec (.sidebandReadHalf (a + 2)) s
    = .next (((s.emit (.readData 15 (a + 2) x)).setShadow a none).dataHalf a true) := by
  obtain ⟨hreg, hhigh⟩ := highHalf_register h
  change execSidebandReadHalf (a + 2) s = _
  simp [execSidebandReadHalf, hk, hreg, hhigh, hx]

theorem sidebandReadHalf_live (hx : s.shadowOf a = none ∨ ∃ b x, b ≠ a ∧ s.shadowOf a = some (b, x)) : exec (.sidebandReadHalf (a + 2)) s
    = .next ((s.emit (.readData 15 (a + 2) ((s.reg a).toNat / 2 ^ 16))).dataHalf a true) := by
  obtain ⟨hreg, hhigh⟩ := highHalf_register h
  change execSidebandReadHalf (a + 2) s = _
  rcases hx with hx | ⟨b, x, hb, hx⟩
  · simp [execSidebandReadHalf, hk, hreg, hhigh, hx]
  · simp [execSidebandReadHalf, hk, hreg, hhigh, hx, hb]

end

@[simp] theorem dropHeld_empty (h : s.path.held = none) : s.dropHeld a = s := by
  simp only [State.dropHeld, h]

@[simp] theorem dropHeld_own {x : Nat} (h : s.path.held = some (a, x)) : s.dropHeld a = s := by
  simp only [State.dropHeld, h, if_true]

theorem dropHeld_other {b x : Nat} (h : s.path.held = some (b, x)) (hb : b ≠ a) :
    s.dropHeld a = ({ s with path := { s.path with held := none } } : State).bump 0x2C02 := by
  simp only [State.dropHeld, h, if_neg hb]
  rfl

/-- A low half is held, after one of another register has been dropped. -/
theorem sidebandWriteHalf_low (h : a % 4 = 0) (hk : sidebandKind s a true = 0) : exec (.sidebandWriteHalf a v us) s
    = .next { s.dropHeld a with path := { (s.dropHeld a).path with held := some (a, v % 2 ^ 16) } } := by
  change execSidebandWriteHalf a v us s = _
  simp [execSidebandWriteHalf, hk, h]

section
variable (h : a % 4 = 0) (hk : sidebandKind s (a + 2) true = 0)
include h hk

theorem sidebandWriteHalf_paired {x : Nat} (hx : s.path.held = some (a, x)) : exec (.sidebandWriteHalf (a + 2) v us) s
    = .next (({ s with path := { s.path with held := none } } : State).write4 15 a (v % 2 ^ 16 * 2 ^ 16 + x) us) := by
  obtain ⟨hreg, hhigh⟩ := highHalf_register h
  change execSidebandWriteHalf (a + 2) v us s = _
  simp [execSidebandWriteHalf, hk, hreg, hhigh, hx]

/-- That a high half alone takes the low half as it reads is the model's choice (log entry 68). -/
theorem sidebandWriteHalf_alone (hx : s.path.held = none) : exec (.sidebandWriteHalf (a + 2) v us) s
    = .next (({ s with path := { s.path with held := none } } : State).write4 15 a (v % 2 ^ 16 * 2 ^ 16 + (s.reg a).toNat % 2 ^ 16) us) := by
  obtain ⟨hreg, hhigh⟩ := highHalf_register h
  change execSidebandWriteHalf (a + 2) v us s = _
  simp [execSidebandWriteHalf, hk, hreg, hhigh, hx]

end

/-! ### The commits of the transmitter (R202) -/

section
variable (h : Reaches s src (R.TXP_CTRL.addr p))
include h

theorem coefCommit_of_reaches : exec (.coefCommit src p v) s = .next (s.txpCtrlWrite p v) :=
  congrArg Host.Outcome.next (accessed_of_reaches h _)

theorem maskCommit_of_reaches : exec (.maskCommit src p v) s = .next (s.txpCtrlWrite p v) :=
  congrArg Host.Outcome.next (accessed_of_reaches h _)

end

end

/-- Settles O60: writes by their size and by the block of the register, reads of a set by what its reader may reach, and the sideband's halves
by the shadow and by the half that is held. -/
theorem registerAccessesTakeTheirFields : Obligations.RegisterAccessesTakeTheirFields := by
  unfold Obligations.RegisterAccessesTakeTheirFields
  intro s src a v us p
  refine ⟨fun size en h => registerWrite_unseen h size en,
    fun hs hv => ⟨fun _ _ => registerWrite_malformed hs hv, registerWrite_word hs hv, registerWrite_doubleword hs hv⟩,
    ?plain, fun w hi lo => ⟨rfl, rfl, rfl, rfl⟩, latchedSetRead_outside,
    fun l hl => ⟨latchedSetRead_unseen hl, latchedSetRead_refused hl, fun hv hk t => latchedSetRead_latches hl hv hk⟩,
    sidebandReadHalf_refused, sidebandWriteHalf_refused, sidebandReadHalf_low,
    fun h hk => ⟨fun x => sidebandReadHalf_shadowed h hk, sidebandReadHalf_live h hk⟩, ?held, ?dropped, ?high, ?commits⟩
  case plain =>
    rintro hr ha hn t rfl
    refine ⟨fun hp _ hb ho => ?_, fun hp hport ho => ?_⟩
    · rw [write4_hub hr ha hp ho, plainWrite_hub hn hp hb]
      exact ⟨fun hok => if_pos hok, fun hok => if_neg (by simp [hok])⟩
    · rw [write4_port hr ha hp ho, plainWrite_port hn hp hport]
      exact ⟨fun hok => if_pos hok, fun hok => if_neg (by simp [hok])⟩
  case held =>
    intro h hk hx
    rw [sidebandWriteHalf_low h hk, dropHeld_empty hx]
  case dropped =>
    rintro b x h hk hx hb t rfl
    rw [sidebandWriteHalf_low h hk, dropHeld_other hx hb]
  case high =>
    rintro h hk t rfl
    exact ⟨fun x => sidebandWriteHalf_paired h hk, sidebandWriteHalf_alone h hk⟩
  case commits =>
    rintro h t rfl
    exact ⟨coefCommit_of_reaches h, maskCommit_of_reaches h⟩

end Sys2Proof.Machine
end

section
/-!
Upstream messages of a burst (R217, R225, R228, R229, R244): its header, PLOAM message and status report, and the partial SDUs that time out.
-/
namespace Sys2Proof.Machine

section
variable {s : State} {p : Port} {entry tick : Nat} {e : MapEntry}

/-! ### What a burst may be used for (R228) -/

@[simp] theorem g50_bumpP (i : Nat) : (s.bumpP p i).g50 = s.g50 := rfl
@[simp] theorem govOf_bumpP (i : Nat) : (s.bumpP p i).govOf = s.govOf := rfl

theorem rxHead_of_failed (h : (cwDecided s p ⟨entry, tick, 0, 0⟩).bind Prod.snd = some true) : rxHead s p entry tick = none := by
  rw [rxHead, if_pos h]

theorem follows_eq_true : follows s p = true ↔ (s.port p).prot.role = .standby := by
  rw [follows, decide_eq_true_iff]

@[simp] theorem profileOf_bumpP (i : Nat) : (s.bumpP p i).profileOf p = s.profileOf p := by
  funext tick k
  rw [State.profileOf, State.profileOf, govOf_bumpP, profileBy, profileBy, g50_bumpP]

@[simp] theorem follows_bumpP (i : Nat) : follows (s.bumpP p i) p = follows s p := rfl

/-! ### BURST_HEADER (R228) -/

section
variable {header c i onu : Nat} {alloc : Option Nat} {pend dg : Bool} {t u : State}

theorem burstHeader_unheard (h : rxHead s p entry tick = none) : exec (.burstHeader p entry tick header) s = .next s := by
  show execBurstHeader p entry tick header s = _
  rw [execBurstHeader, h]

/-- The Alloc-ID that a header names differs from the entry's. -/
theorem getD_ne_self_iff : alloc.getD e.alloc ≠ e.alloc ↔ alloc ≠ none ∧ alloc ≠ some e.alloc := by
  cases alloc <;> simp

section
variable (hr : rxHead s p entry tick = some e) (ho : s.allocOwner p e.alloc = some (c, i))
  (hh : headerFields (s.g50 p) header = (onu, alloc, pend, dg))
include hr ho hh

theorem burstHeader_misdirected (h : onu ≠ (s.ctx p c).onuId ∨ (alloc ≠ none ∧ alloc ≠ some e.alloc)) :
    exec (.burstHeader p entry tick header) s = .next (((((((s.modRake p (fun r => { r with bursts := r.bursts.map (fun b =>
      if b.entry = entry ∧ b.tick = tick then { b with misdirected := true } else b) })).setFld
      (R.TCF_LAST_MISDIR.hdr_onu_id p) onu).setFld (R.TCF_LAST_MISDIR.alloc_id p) e.alloc).setFld
      (R.TCF_LAST_MISDIR.owner_onu_id p) (s.ctx p c).onuId).bumpP p 0x9C).pulseP p 0x73 0).drainRake p) := by
  rw [← getD_ne_self_iff] at h
  show execBurstHeader p entry tick header s = _
  rw [execBurstHeader, hr]
  dsimp only
  rw [hh, ho]
  exact congrArg Host.Outcome.next (if_pos (by simpa using h))

/-- The owner's header: the burst counts and the Rake goes on; then the indications are taken, unless the port follows. -/
theorem burstHeader_own (hid : onu = (s.ctx p c).onuId) (ha : alloc = none ∨ alloc = some e.alloc)
    (ht : t = (s.countBurst p entry tick).drainRake p) (hu : u = t.modCtx p c (fun y => { y with ploPend := pend, gasp := y.gasp || dg })) :
    exec (.burstHeader p entry tick header) s = .next (
      if follows t p = true then t
      else if dg = true then (u.pulseP p 0x74 0).deliver p 3 (msgResult onu 8) (beBytes 8 header) else u) := by
  subst hu ht
  have hown : ¬ alloc.getD e.alloc ≠ e.alloc := fun h => by
    obtain ⟨hnone, hsome⟩ := getD_ne_self_iff.mp h
    exact ha.elim hnone hsome
  show execBurstHeader p entry tick header s = _
  rw [execBurstHeader, hr]
  dsimp only
  rw [hh, ho]
  exact congrArg Host.Outcome.next (if_neg (by simpa [hid] using hown))

end
end

/-! ### STATUS_REPORT (R229, R272) -/

section
variable {report c i occ tr : Nat}

theorem reportFields_m200 (r : Nat) :
    reportFields false r = if crc8 64 r ≠ bitsOf r 7 0 then none else some (bitsOf r 63 40, bitsOf r 39 24) := rfl

theorem statusReport_unheard (h : rxHead s p entry tick = none) : exec (.statusReport p entry tick report) s = .next s := by
  show execStatusReport p entry tick report s = _
  rw [execStatusReport, h]

variable (hr : rxHead s p entry tick = some e)
include hr

theorem statusReport_undue (hd : e.dbru = false) : exec (.statusReport p entry tick report) s = .next s := by
  show execStatusReport p entry tick report s = _
  rw [execStatusReport, hr]
  exact congrArg Host.Outcome.next (if_pos (by simp [hd]))

variable (hd : e.dbru = true)
include hd

theorem statusReport_badCrc (hf : reportFields (s.g50 p) report = none) :
    exec (.statusReport p entry tick report) s = .next (s.bumpP p 0x9B) := by
  show execStatusReport p entry tick report s = _
  rw [execStatusReport, hr]
  dsimp only
  rw [if_neg (by simp [hd]), hf]

variable (hf : reportFields (s.g50 p) report = some (occ, tr))
include hf

theorem statusReport_followed (h : follows s p = true) : exec (.statusReport p entry tick report) s = .next (s.bumpP p 0x9A) := by
  show execStatusReport p entry tick report s = _
  rw [execStatusReport, hr]
  dsimp only
  rw [if_neg (by simp [hd]), hf]
  exact congrArg Host.Outcome.next (if_pos h)

theorem statusReport_recorded (ho : s.allocOwner p e.alloc = some (c, i)) (h : follows s p = false) :
    exec (.statusReport p entry tick report) s = .next ((s.bumpP p 0x9A).modCtx p c (fun y => y.modRec i (fun r => { r with
      occupancy := occ, trend := tr, repAge := 0, reported := true, grantedSince := 0, repTick := tick }))) := by
  replace ho : (s.bumpP p 0x9A).allocOwner p e.alloc = some (c, i) := ho
  show execStatusReport p entry tick report s = _
  rw [execStatusReport, hr]
  dsimp only
  rw [if_neg (by simp [hd]), hf]
  dsimp only
  rw [if_neg (by simp [h]), ho]

end

/-! ### UPSTREAM_PLOAM (R217, R234, R244) -/

section
variable {resp : Nat} {m : UpPloam} {b : XtlBurst}

theorem upstreamPloam_unheard (h : rxMessage s p entry tick resp = none) : exec (.upstreamPloam p entry tick resp m) s = .next s := by
  show execUpstreamPloam p entry tick resp m s = _
  rw [execUpstreamPloam, h]

/-- A good message counts, one of a type that no table defines twice. -/
def State.countPloam (s : State) (p : Port) (type : Nat) : State :=
  let s := s.bumpP p 0x91
  if !s.g50 p && !ploamDefined type then s.bumpP p 0xA2 else s

theorem countPloam_of_defined {type : Nat} (h : s.g50 p = true ∨ ploamDefined type = true) : s.countPloam p type = s.bumpP p 0x91 :=
  if_neg (by rcases h with h | h <;> simp [h])

theorem countPloam_of_undefined {type : Nat} (hg : s.g50 p = false) (h : ploamDefined type = false) :
    s.countPloam p type = (s.bumpP p 0x91).bumpP p 0xA2 :=
  if_pos (by simp [hg, h])

/-- result0 of a message that came in a burst: in G50 mode that of a discovery or ranging allocation holds its arrival (R264). -/
def ploamResult (s : State) (p : Port) (e : MapEntry) (b : XtlBurst) (onu : Nat) : Nat :=
  if s.g50 p && (isDisc e || e.ranging) then 2 ^ 29 + arrivalOf s p e b % 2 ^ 24 else msgResult onu 48

theorem ploamResult_m200 (hg : s.g50 p = false) (onu : Nat) : ploamResult s p e b onu = msgResult onu 48 := if_neg (by simp [hg])

theorem ploamResult_ranging (hg : s.g50 p = true) (h : isDisc e = true ∨ e.ranging = true) (onu : Nat) :
    ploamResult s p e b onu = 2 ^ 29 + arrivalOf s p e b % 2 ^ 24 := if_pos (by simpa [hg] using h)

/-- A Preset_Ack (type 0x43 of Table 8-4) ends the wait for it (R244). -/
def State.notePreset (s : State) (p : Port) (m : Ploam) : State :=
  match s.slotOf p m.onu with
  | some c => if m.type = 0x43 && !s.g50 p then s.modCtx p c (fun x => { x with txPresetOut := false }) else s
  | none => s

theorem notePreset_of_other {m : Ploam} (h : m.type ≠ 0x43 ∨ s.g50 p = true) : s.notePreset p m = s := by
  rw [State.notePreset]
  split
  · exact if_neg (by rcases h with h | h <;> simp [h])
  · rfl

/-! The counts of a message change counters alone. -/

theorem countPloam_cases (s : State) (p : Port) (type : Nat) :
    s.countPloam p type = s.bumpP p 0x91 ∨ s.countPloam p type = (s.bumpP p 0x91).bumpP p 0xA2 := by
  rw [State.countPloam]
  split
  · exact .inr rfl
  · exact .inl rfl

@[simp] theorem port_countPloam (type : Nat) : (s.countPloam p type).port p = s.port p := by
  obtain h | h := countPloam_cases s p type <;> simp [h]

@[simp] theorem g50_countPloam (type : Nat) : (s.countPloam p type).g50 p = s.g50 p := by
  obtain h | h := countPloam_cases s p type <;> simp [h]

@[simp] theorem ploamResult_countPloam (type onu : Nat) : ploamResult (s.countPloam p type) p e b onu = ploamResult s p e b onu := by
  obtain h | h := countPloam_cases s p type <;> simp [h, ploamResult, arrivalOf]

section
variable (hr : rxMessage s p entry tick resp = some (e, b))
include hr

theorem upstreamPloam_ignored (h : e.ploamu = false ∨ m.msg.type = 0) : exec (.upstreamPloam p entry tick resp m) s = .next s := by
  show execUpstreamPloam p entry tick resp m s = _
  rw [execUpstreamPloam, hr]
  exact congrArg Host.Outcome.next (if_pos (by simpa using h))

variable (hu : e.ploamu = true) (h0 : m.msg.type ≠ 0)
include hu h0

theorem upstreamPloam_badMic (hm : micPasses s p m = false) :
    exec (.upstreamPloam p entry tick resp m) s = .next ((s.bumpP p 0x92).pulseP p 0x70 0) := by
  show execUpstreamPloam p entry tick resp m s = _
  rw [execUpstreamPloam, hr]
  dsimp only
  rw [if_neg (by simp [hu, h0]), if_pos (by simp [hm])]

variable (hm : micPasses s p m = true)
include hm

/-- A message that checks counts; unless the port follows it goes to the host. -/
theorem exec_upstreamPloam {t u : State} (ht : t = s.countPloam p m.msg.type) (hn : u = t.notePreset p m.msg) :
    exec (.upstreamPloam p entry tick resp m) s = .next (
      if follows t p then t
      else u.deliver p 1 (ploamResult u p e b m.msg.onu) (ploamBytes m.msg m.seq ++ beBytes 8 m.mic)) := by
  subst hn ht
  show execUpstreamPloam p entry tick resp m s = _
  rw [execUpstreamPloam, hr]
  dsimp only
  rw [if_neg (by simp [hu, h0]), if_neg (by simp [hm])]
  unfold State.notePreset State.countPloam ploamResult
  rfl

theorem upstreamPloam_followed (h : (s.port p).prot.role = .standby) :
    exec (.upstreamPloam p entry tick resp m) s = .next (s.countPloam p m.msg.type) := by
  rw [exec_upstreamPloam hr hu h0 hm rfl rfl, if_pos (by simpa [follows_eq_true] using h)]

theorem upstreamPloam_delivered (h : (s.port p).prot.role ≠ .standby) (h43 : m.msg.type ≠ 0x43 ∨ s.g50 p = true) :
    exec (.upstreamPloam p entry tick resp m) s
      = .next ((s.countPloam p m.msg.type).deliver p 1 (ploamResult s p e b m.msg.onu) (ploamBytes m.msg m.seq ++ beBytes 8 m.mic)) := by
  rw [exec_upstreamPloam hr hu h0 hm rfl (notePreset_of_other (by simpa using h43)).symm, if_neg (by simpa [follows_eq_true] using h),
    ploamResult_countPloam]

end
end

/-! ### REASSEMBLY_TIMEOUT (R225) -/

section
variable {alloc : Nat} {q : Partial}

theorem dropPartial_of_some (h : Tab.find (s.port p).tcf.partials alloc = some q) :
    s.dropPartial p alloc = (s.bumpP p 0x98).modTcf p (fun t => { t with partials := Tab.del t.partials alloc }) := by
  rw [State.dropPartial, h]

theorem reassemblyTimeout_drops (h : Tab.find (s.port p).tcf.partials alloc = some q) (hage : s.gov (R.TCF_CTRL.reasm_frames p) ≤ q.age) :
    exec (.reassemblyTimeout p alloc) s
      = .next ((s.bumpP p 0x98).modTcf p (fun t => { t with partials := Tab.del t.partials alloc })) := by
  show execReassemblyTimeout p alloc s = _
  rw [execReassemblyTimeout, h]
  dsimp only
  rw [if_pos hage, dropPartial_of_some h]

theorem reassemblyTimeout_early (h : Tab.find (s.port p).tcf.partials alloc = some q) (hage : q.age < s.gov (R.TCF_CTRL.reasm_frames p)) :
    exec (.reassemblyTimeout p alloc) s = .next s := by
  show execReassemblyTimeout p alloc s = _
  rw [execReassemblyTimeout, h]
  exact congrArg Host.Outcome.next (if_neg (Nat.not_le.mpr hage))

theorem reassemblyTimeout_absent (h : Tab.find (s.port p).tcf.partials alloc = none) : exec (.reassemblyTimeout p alloc) s = .next s := by
  show execReassemblyTimeout p alloc s = _
  rw [execReassemblyTimeout, h]

end

end

/-- Settles O36: by the burst a message came in, by its check, and by whether the port follows. -/
theorem upstreamMessagesAndReports : Obligations.UpstreamMessagesAndReports := by
  unfold Obligations.UpstreamMessagesAndReports
  intro s p entry tick x resp m
  refine ⟨fun h => ⟨burstHeader_unheard h, statusReport_unheard h⟩, rxHead_of_failed, upstreamPloam_unheard, rfl, reportFields_m200 x,
    fun e hr => ⟨fun c i onu alloc pend dg ho hh => ⟨fun t hid ha ht => ⟨fun hf => ?followed, fun hf u hu => ?own⟩,
        burstHeader_misdirected hr ho hh,
        fun occ tr hd hf => ⟨statusReport_recorded hr hd hf ho, statusReport_followed hr hd hf⟩⟩,
      statusReport_badCrc hr, statusReport_undue hr⟩,
    fun e b hr => ⟨upstreamPloam_ignored hr, upstreamPloam_badMic hr, fun hu h0 hm => ⟨fun hs hd => ?standby, fun hg hd h43 hs => ?defined,
      fun hg hd hs => ?undefined, fun hg hrange hs => ?ranging⟩⟩,
    fun q hq => ⟨reassemblyTimeout_drops hq, reassemblyTimeout_early hq⟩, reassemblyTimeout_absent⟩
  case followed => rw [burstHeader_own hr ho hh hid ha ht rfl, if_pos hf]
  case own => rw [burstHeader_own hr ho hh hid ha ht hu, if_neg (by simp [hf])]
  case standby => rw [upstreamPloam_followed hr hu h0 hm hs, countPloam_of_defined hd]
  case defined =>
    rw [upstreamPloam_delivered hr hu h0 hm hs (.inl h43), countPloam_of_defined (.inr hd), ploamResult_m200 hg]
  case undefined =>
    have h43 : m.msg.type ≠ 0x43 := fun h => absurd (h ▸ hd) (by decide)
    rw [upstreamPloam_delivered hr hu h0 hm hs (.inl h43), countPloam_of_undefined hg hd, ploamResult_m200 hg]
  case ranging =>
    rw [upstreamPloam_delivered hr hu h0 hm hs (.inr hg), countPloam_of_defined (.inl hg), ploamResult_ranging hg hrange]

end Sys2Proof.Machine
end

section
/-!
Encapsulations (R221 to R225, R231 to R233): headers that check, that fail or that start a hunt, and the SDUs that their payloads join.
-/
namespace Sys2Proof.Machine

section
variable {s u : State} {p : Port} {e : MapEntry}

/-! ### What a header says (R221) -/

/-- A header is read by registers alone. -/
@[simp] theorem headerFlow_modTcf (f : TcfState → TcfState) (tick w : Nat) : headerFlow (s.modTcf p f) p tick w = headerFlow s p tick w := rfl

@[simp] theorem headerFlow_bumpP (i tick w : Nat) : headerFlow (s.bumpP p i) p tick w = headerFlow s p tick w := rfl

theorem headerFlow_m200 (hg : s.g50 p = false) (tick w : Nat) :
    headerFlow s p tick w = if bitsOf w 47 28 = 0xFFFFF then none else some (bitsOf w 47 28) := if_neg (by simp [hg])

theorem headerGood_iff_m200 (hg : s.g50 p = false) {tick w : Nat} : headerGood s p tick w = true ↔ bitsOf w 47 28 = 0xFFFFF ∨
    (bitsOf w 63 50 ≠ 0 ∧ bitsOf w 63 50 ≤ s.govOf tick (R.TCF_SDU.max_sdu p) ∧ bitsOf w 49 48 ≠ 3) := by
  rw [headerGood, headerFlow_m200 hg]
  by_cases hidle : bitsOf w 47 28 = 0xFFFFF
  · simp [hidle]
  · simp [hidle, and_assoc]

/-! ### A hunt (R223) -/

/-- The state once a hunt that starts has dropped the SDU in progress of its Alloc-ID. -/
theorem startHunt_eq (alloc : Nat) {t : State} (ht : t = if (Tab.find (s.port p).tcf.partials alloc).isSome = true then
      (s.bumpP p 0x98).modTcf p (fun t => { t with partials := Tab.del t.partials alloc }) else s) :
    s.startHunt p alloc = if (s.port p).tcf.hunting = true then t else (t.bumpP p 0x95).modTcf p (fun t => { t with hunting := true }) := by
  subst ht
  rfl

/-! ### SDUs (R224, R225, R319, R415) -/

section
variable {tick onu flow : Nat} {keyed first last : Bool} {data : List Byte} {q : Partial}

/-- The state without the partial SDU of an Alloc-ID. -/
def State.clearPartial (s : State) (p : Port) (alloc : Nat) : State :=
  s.modTcf p (fun t => { t with partials := Tab.del t.partials alloc })

/-- An SDU whose last fragment has come: it waits for the hub, or on a port that follows it is discarded. -/
def State.passSdu (s : State) (p : Port) (x : UpSdu) : State :=
  if follows s p then (s.clearPartial p x.alloc).bump (pairCtr p 10)
  else ((s.clearPartial p x.alloc).bumpP p 0x96).modTcf p (fun t => { t with upQ := t.upQ ++ [x] })

theorem passSdu_followed {x : UpSdu} (h : follows s p = true) :
    s.passSdu p x = (s.clearPartial p x.alloc).bump (0x270A + 16 * p.val) := by
  rw [State.passSdu, if_pos h, show pairCtr p 10 = 0x270A + 16 * p.val by unfold pairCtr; omega]

theorem passSdu_queued {x : UpSdu} (h : follows s p = false) :
    s.passSdu p x = ((s.clearPartial p x.alloc).bumpP p 0x96).modTcf p (fun t => { t with upQ := t.upQ ++ [x] }) := by
  rw [State.passSdu, if_neg (by simp [h])]

section
variable (hn : Tab.find (s.port p).tcf.partials e.alloc = none)
include hn

/-- A fragment that finds no partial of its Alloc-ID. -/
theorem takeFragment_of_none : s.takeFragment p e tick onu flow keyed first last data =
    if s.govOf tick (R.TCF_SDU.max_sdu p) < data.length then (s.clearPartial p e.alloc).bumpP p 0x98
    else if last then s.passSdu p { alloc := e.alloc, onu := onu, flow := flow, keyed := keyed, data := data }
    else (s.memWrite (dieSpace p) (dieWord p 6 e.alloc) allBytes).modTcf p (fun t => { t with
      partials := Tab.put t.partials e.alloc { onu := onu, flow := flow, data := data, age := 0 } }) := by
  unfold State.takeFragment
  rw [hn]
  dsimp only
  rw [hn]
  cases last
  case false => rfl
  case true => rfl

theorem takeFragment_oversize (h : s.govOf tick (R.TCF_SDU.max_sdu p) < data.length) :
    s.takeFragment p e tick onu flow keyed first last data = (s.clearPartial p e.alloc).bumpP p 0x98 := by
  rw [takeFragment_of_none hn, if_pos h]

variable (h : data.length ≤ s.govOf tick (R.TCF_SDU.max_sdu p))
include h

theorem takeFragment_begins : s.takeFragment p e tick onu flow keyed first false data =
    (s.memWrite (dieSpace p) (dieWord p 6 e.alloc) allBytes).modTcf p (fun t => { t with
      partials := Tab.put t.partials e.alloc { onu := onu, flow := flow, data := data, age := 0 } }) := by
  rw [takeFragment_of_none hn, if_neg (Nat.not_lt.mpr h), if_neg Bool.false_ne_true]

theorem takeFragment_whole : s.takeFragment p e tick onu flow keyed first true data
    = s.passSdu p { alloc := e.alloc, onu := onu, flow := flow, keyed := keyed, data := data } := by
  rw [takeFragment_of_none hn, if_neg (Nat.not_lt.mpr h), if_pos rfl]

end

/-- The last fragment of an SDU, first in its burst, of the flow of its partial: the buffer is read, and what it holds joins the fragment. -/
theorem takeFragment_completes (hq : Tab.find (s.port p).tcf.partials e.alloc = some q) (hf : q.flow = flow)
    (h : (q.data ++ data).length ≤ s.govOf tick (R.TCF_SDU.max_sdu p)) : s.takeFragment p e tick onu flow keyed true true data =
    if dieBad s p 6 e.alloc then ((s.useDie p 6 e.alloc 8).clearPartial p e.alloc).bumpP p 0x98
    else s.passSdu p { alloc := e.alloc, onu := onu, flow := flow, keyed := keyed, data := q.data ++ data } := by
  have hsame : ¬ (!true || decide (q.flow ≠ flow)) = true := by simp [hf]
  unfold State.takeFragment
  simp only [hq, if_neg hsame, if_neg (Nat.not_lt.mpr h)]
  rfl

end

/-! ### ENCAPSULATION_HEADER -/

section
variable {x : EncapRx} {w onu : Nat} {fixed : Bool}

theorem encapsulationHeader_unheard (h : rxEntry s p x.entry x.tick = none) : exec (.encapsulationHeader p x) s = .next s := by
  show execEncapsulationHeader p x s = _
  rw [execEncapsulationHeader, h]

/-- What a header that checks makes of its payload, once it has ended a hunt. -/
def State.takeHeader (u : State) (p : Port) (e : MapEntry) (x : EncapRx) (w onu : Nat) : State :=
  match headerFlow u p x.tick w with
  | none => if x.first then u.dropPartial p e.alloc else u
  | some flow =>
    if bitsOf w 49 48 = 0 then u.takeFragment p e x.tick onu flow false x.first (bitAt w 13) (x.payload.take (bitsOf w 63 50))
    else
      match Tab.find (keysOf u p x.tick) (onu * 4 + bitsOf w 49 48) with
      | none => ((u.dropPartial p e.alloc).bumpP p 0x9D).pulseP p 0x75 0
      | some key => u.takeFragment p e x.tick onu flow true x.first (bitAt w 13)
          (cryptBytes (u.g50 p) key ((u.fc + 2 ^ 51 - (u.tick - x.tick)) % 2 ^ 51) (if u.g50 p then bitsOf w 47 32 else flow)
            true e.start x.offset (x.payload.take (bitsOf w 63 50)))

section
variable (hr : rxEntry s p x.entry x.tick = some e)
include hr

theorem encapsulationHeader_uncorrectable (h : hecCorrect x.word = none) : exec (.encapsulationHeader p x) s
    = .next ((if (s.port p).tcf.hunting = true then s else s.bumpP p 0x94).startHunt p e.alloc) := by
  show execEncapsulationHeader p x s = _
  rw [execEncapsulationHeader, hr]
  dsimp only
  rw [h]

variable (h : hecCorrect x.word = some (w, fixed))
include h

/-- In a hunt a word that needed correction, or that is rejected, is passed over (log entry 90). -/
theorem encapsulationHeader_hunting (hh : (s.port p).tcf.hunting = true) (hbad : fixed = true ∨ headerGood s p x.tick w = false) :
    exec (.encapsulationHeader p x) s = .next (s.startHunt p e.alloc) := by
  show execEncapsulationHeader p x s = _
  rw [execEncapsulationHeader, hr]
  dsimp only
  rw [h]
  exact congrArg Host.Outcome.next (if_pos (by simpa [hh] using hbad))

variable {t : State} (ht : t = if fixed = true then s.bumpP p 0x93 else s)
include ht

theorem encapsulationHeader_rejected (hh : (s.port p).tcf.hunting = false) (hbad : headerGood s p x.tick w = false) :
    exec (.encapsulationHeader p x) s = .next ((t.bumpP p 0x94).startHunt p e.alloc) := by
  subst ht
  show execEncapsulationHeader p x s = _
  rw [execEncapsulationHeader, hr]
  dsimp only
  rw [h]
  dsimp only
  rw [if_neg (by simp [hh]), if_pos (by simp [hbad])]

theorem encapsulationHeader_good (hgood : headerGood s p x.tick w = true) (hh : (s.port p).tcf.hunting = false ∨ fixed = false)
    (hu : u = t.modTcf p (fun t => { t with hunting := false }))
    (ho : onu = (match entrySlot u p e with
      | some c => (u.ctx p c).onuId
      | none => 1023)) :
    exec (.encapsulationHeader p x) s = .next (u.takeHeader p e x w onu) := by
  subst ho hu ht
  have hin : ¬ ((s.port p).tcf.hunting && (fixed || !headerGood s p x.tick w)) = true := by
    rcases hh with hh | hh <;> simp [hh, hgood]
  show execEncapsulationHeader p x s = _
  rw [execEncapsulationHeader, hr]
  dsimp only
  rw [h]
  dsimp only
  rw [if_neg hin, if_neg (by simp [hgood])]
  rfl

end

/-! What the header tells of its payload, by its flow and its key. -/

theorem takeHeader_idle (h : headerFlow u p x.tick w = none) :
    u.takeHeader p e x w onu = if x.first = true then u.dropPartial p e.alloc else u := by
  rw [State.takeHeader, h]

section
variable {flow : Nat} (h : headerFlow u p x.tick w = some flow)
include h

theorem takeHeader_clear (hk : bitsOf w 49 48 = 0) : u.takeHeader p e x w onu
    = u.takeFragment p e x.tick onu flow false x.first (bitAt w 13) (x.payload.take (bitsOf w 63 50)) := by
  rw [State.takeHeader, h]
  dsimp only
  rw [if_pos hk]

variable (hk : bitsOf w 49 48 ≠ 0)
include hk

theorem takeHeader_keyless (hn : Tab.find (keysOf u p x.tick) (onu * 4 + bitsOf w 49 48) = none) :
    u.takeHeader p e x w onu = ((u.dropPartial p e.alloc).bumpP p 0x9D).pulseP p 0x75 0 := by
  rw [State.takeHeader, h]
  dsimp only
  rw [if_neg hk, hn]

theorem takeHeader_keyed {key : Nat} (hs : Tab.find (keysOf u p x.tick) (onu * 4 + bitsOf w 49 48) = some key) :
    u.takeHeader p e x w onu = u.takeFragment p e x.tick onu flow true x.first (bitAt w 13)
      (cryptBytes (u.g50 p) key ((u.fc + 2 ^ 51 - (u.tick - x.tick)) % 2 ^ 51) (if u.g50 p = true then bitsOf w 47 32 else flow)
        true e.start x.offset (x.payload.take (bitsOf w 63 50))) := by
  rw [State.takeHeader, h]
  dsimp only
  rw [if_neg hk, hs]

end

/-! A correction is counted, and a hunt ends: the state that a good header is taken in is otherwise that of its arrival. -/

section
variable {t : State} (ht : t = if fixed = true then s.bumpP p 0x93 else s) (hu : u = t.modTcf p (fun t => { t with hunting := false }))
include ht hu

theorem headerFlow_delineated (tick w : Nat) : headerFlow u p tick w = headerFlow s p tick w := by
  subst hu ht
  cases fixed
  case false => exact headerFlow_modTcf _ tick w
  case true => exact (headerFlow_modTcf _ tick w).trans (headerFlow_bumpP 0x93 tick w)

theorem keysOf_delineated (tick : Nat) : keysOf u p tick = keysOf s p tick := by
  subst hu ht
  cases fixed <;> simp [keysOf, State.modTcf]

theorem times_delineated : u.g50 p = s.g50 p ∧ u.fc = s.fc ∧ u.tick = s.tick := by
  subst hu ht
  cases fixed
  case false => exact ⟨rfl, rfl, rfl⟩
  case true => exact ⟨rfl, rfl, rfl⟩

end

end

end

/-- Settles O37: by the correction and the check of the header, the hunt, the flow and its key; then by the partial that a fragment finds. -/
theorem encapsulationsAreDelineated : Obligations.EncapsulationsAreDelineated := by
  unfold Obligations.EncapsulationsAreDelineated
  intro s p x
  refine ⟨encapsulationHeader_unheard, fun e hr => ⟨fun h hh => ?lost, fun h hh => ?starts, fun w fixed t h ht =>
      ⟨encapsulationHeader_hunting hr h, encapsulationHeader_rejected hr h ht, fun u onu hgood hh hu ho => ?good⟩⟩,
    fun tick w hg => ⟨headerFlow_m200 hg tick w, headerGood_iff_m200 hg⟩,
    fun e tick onu flow keyed first data hn => ⟨fun hlen => ⟨takeFragment_begins hn hlen, ?whole⟩, fun hlen last => takeFragment_oversize hn hlen⟩,
    fun e tick onu flow keyed data q hq hf hlen => ⟨fun hbad => ?poisoned, fun hbad hs => ?completed⟩,
    fun alloc t ht => ⟨fun hh => ?inHunt, fun hh => ?hunt⟩⟩
  case lost => rw [encapsulationHeader_uncorrectable hr h, if_pos hh]
  case starts => rw [encapsulationHeader_uncorrectable hr h, if_neg (by simp [hh])]
  case good =>
    have hexec := encapsulationHeader_good hr h ht hgood hh hu ho
    have hflow := headerFlow_delineated ht hu x.tick w
    have hkeys := keysOf_delineated ht hu x.tick
    obtain ⟨hg50, hfc, htick⟩ := times_delineated ht hu
    rw [← hflow, ← hkeys, ← hg50, ← hfc, ← htick, hexec]
    refine ⟨fun hidle => ?_, fun flow hf => ⟨fun hk => ?_, fun hk hn => ?_, fun key hk hs => ?_⟩⟩
    · rw [takeHeader_idle hidle]
    · rw [takeHeader_clear hf hk]
    · rw [takeHeader_keyless hf hk hn]
    · rw [takeHeader_keyed hf hk hs]
  case whole =>
    rintro u rfl
    exact ⟨fun hs => (takeFragment_whole hn hlen).trans (passSdu_followed hs), fun hs => (takeFragment_whole hn hlen).trans (passSdu_queued hs)⟩
  case poisoned =>
    rw [takeFragment_completes hq hf hlen, if_pos hbad]
    rfl
  case completed =>
    rw [takeFragment_completes hq hf hlen, if_neg (by simp [hbad]), passSdu_queued hs]
    rfl
  case inHunt => rw [startHunt_eq alloc ht, if_pos hh]
  case hunt => rw [startHunt_eq alloc ht, if_neg (by simp [hh])]

end Sys2Proof.Machine
end

section
/-!
The TC commands (Tables 8-10 and 8-11): what refuses them, in the order of their tables, and the queues they wait in (R216, R230, R233 to R235, R409).
-/
namespace Sys2Proof.Machine

section
variable {s : State} {iss : Issue} {p : Port}

/-! ### Commands that wait (R341) -/

theorem awaits_of_sq {q : Sq} (h : s.sq? iss.fn iss.sq = some q) (k : State → State) : s.awaits iss k =
    if q.deleting then (s.complete iss { Result.ok 0 0 with status := .aborted }).bump (hifCtr iss.fn 6) else k s := by
  rw [State.awaits, h]

theorem awaits_of_noSq (h : s.sq? iss.fn iss.sq = none) (k : State → State) : s.awaits iss k = k s := by
  rw [State.awaits, h]

/-! ### Roles (R409) -/

theorem roleRefuses_iff : roleRefuses s p = true ↔
    (s.port p).prot.role = .sync ∨ (s.port p).prot.role = .standby ∨ (s.port p).prot.role = .blind := by
  rw [roleRefuses]
  cases (s.port p).prot.role <;> simp

section
variable {ops : List (Nat × Nat)} (h : Starts s iss iss.port ops) (k : State → State)
include h

theorem activeCmd_refused (hr : roleRefuses (s.startCmd iss) iss.port = true) :
    s.activeCmd iss ops k = (s.startCmd iss).refuse iss 0x26 := by
  rw [State.activeCmd, hostCmd_of_starts h, if_pos hr]

theorem activeCmd_runs (hr : roleRefuses (s.startCmd iss) iss.port = false) : s.activeCmd iss ops k = k (s.startCmd iss) := by
  rw [State.activeCmd, hostCmd_of_starts h, if_neg (by simp [hr])]

end

/-! ### The ONU-ID of a command -/

/-- An ONU-ID that a command may name: the broadcast ONU-ID, or that of a context. -/
theorem not_unadmitted {onu : Nat} (h : onu = 1023 ∨ s.slotOf p onu ≠ none) : ¬ (onu ≠ 1023 && (s.slotOf p onu).isNone) = true := by
  rcases h with h | h <;> simp [h]

variable {t : State} (ht : t = s.startCmd iss)
include ht

/-! ### PLOAM_SEND (R216) -/

section
variable {m : Ploam} (h : Starts s iss iss.port [])
include h

theorem ploamSend_byRole (hr : roleRefuses t iss.port = true) : exec (.ploamSend iss m) s = .next (t.refuse iss 0x26) := by
  subst ht
  exact congrArg Host.Outcome.next (activeCmd_refused h _ hr)

variable (hr : roleRefuses t iss.port = false)
include hr

theorem exec_ploamSend : exec (.ploamSend iss m) s = .next (
    if ploamRefused (t.g50 iss.port) m.type then t.refuse iss 0x01
    else if m.onu ≠ 1023 && (t.slotOf iss.port m.onu).isNone then t.refuse iss 0x02
    else if 256 ≤ (t.port iss.port).tcf.hostQ.length then t.refuse iss 0x03
    else t.awaits iss (fun t =>
      (t.modTcf iss.port (fun x => { x with hostQ := x.hostQ ++ [{ iss := iss, msg := m }] })).tcfStatus iss.port)) := by
  subst ht
  exact congrArg Host.Outcome.next (activeCmd_runs h _ hr)

theorem ploamSend_badType (hm : ploamRefused (t.g50 iss.port) m.type = true) : exec (.ploamSend iss m) s = .next (t.refuse iss 0x01) := by
  rw [exec_ploamSend ht h hr, if_pos hm]

variable (hm : ploamRefused (t.g50 iss.port) m.type = false)
include hm

theorem ploamSend_unadmitted (ho : m.onu ≠ 1023) (hc : t.slotOf iss.port m.onu = none) :
    exec (.ploamSend iss m) s = .next (t.refuse iss 0x02) := by
  rw [exec_ploamSend ht h hr, if_neg (by simp [hm]), if_pos (by simp [ho, hc])]

variable (ho : m.onu = 1023 ∨ t.slotOf iss.port m.onu ≠ none)
include ho

theorem ploamSend_full (hn : 256 ≤ (t.port iss.port).tcf.hostQ.length) : exec (.ploamSend iss m) s = .next (t.refuse iss 0x03) := by
  rw [exec_ploamSend ht h hr, if_neg (by simp [hm]), if_neg (not_unadmitted ho), if_pos hn]

theorem ploamSend_queued (hn : (t.port iss.port).tcf.hostQ.length < 256) : exec (.ploamSend iss m) s = .next (t.awaits iss (fun t =>
    (t.modTcf iss.port (fun x => { x with hostQ := x.hostQ ++ [{ iss := iss, msg := m }] })).tcfStatus iss.port)) := by
  rw [exec_ploamSend ht h hr, if_neg (by simp [hm]), if_neg (not_unadmitted ho), if_neg (Nat.not_le.mpr hn)]

end

/-! ### OMCI_SEND (R235) -/

section
variable {op0 : Nat} {data : List Byte} (h : Starts s iss iss.port [(op0, 0xFFFFF)]) (hr : roleRefuses t iss.port = false)
include h hr

theorem exec_omciSend : exec (.omciSend iss op0 data) s = .next (
    if !mgmtFlow t iss.port (bitsOf op0 19 0) then t.refuse iss 0x07
    else if data.length = 0 || 2048 < data.length then t.refuse iss 0x08
    else if Config.omciCapacity ≤ (t.port iss.port).tcf.omciQ.length then t.refuse iss 0x03
    else t.awaits iss (fun u => u.modTcf iss.port (fun x => { x with
      omciQ := x.omciQ ++ [{ iss := iss, onu := ((Tab.find t.flow.flows (bitsOf op0 19 0)).getD .blank).onu,
                             flow := bitsOf op0 19 0, data := data }] }))) := by
  subst ht
  exact congrArg Host.Outcome.next (activeCmd_runs h _ hr)

theorem omciSend_badFlow (hf : mgmtFlow t iss.port (bitsOf op0 19 0) = false) :
    exec (.omciSend iss op0 data) s = .next (t.refuse iss 0x07) := by
  rw [exec_omciSend ht h hr, if_pos (by simp [hf])]

variable (hf : mgmtFlow t iss.port (bitsOf op0 19 0) = true)
include hf

theorem omciSend_badLength (hn : data.length = 0 ∨ 2048 < data.length) :
    exec (.omciSend iss op0 data) s = .next (t.refuse iss 0x08) := by
  rw [exec_omciSend ht h hr, if_neg (by simp [hf]), if_pos (by simpa using hn)]

variable (h0 : data.length ≠ 0) (hn : data.length ≤ 2048)
include h0 hn

theorem omciSend_full (hq : Config.omciCapacity ≤ (t.port iss.port).tcf.omciQ.length) :
    exec (.omciSend iss op0 data) s = .next (t.refuse iss 0x03) := by
  rw [exec_omciSend ht h hr, if_neg (by simp [hf]), if_neg (by simp [h0, hn]), if_pos hq]

theorem omciSend_queued (hq : (t.port iss.port).tcf.omciQ.length < Config.omciCapacity) :
    exec (.omciSend iss op0 data) s = .next (t.awaits iss (fun u => u.modTcf iss.port (fun x => { x with
      omciQ := x.omciQ ++ [{ iss := iss, onu := ((Tab.find t.flow.flows (bitsOf op0 19 0)).getD .blank).onu,
                             flow := bitsOf op0 19 0, data := data }] }))) := by
  rw [exec_omciSend ht h hr, if_neg (by simp [hf]), if_neg (by simp [h0, hn]), if_neg (Nat.not_le.mpr hq)]

end

/-! ### MSG_RX_POST (R234) -/

section
variable {size : Nat} (h : Starts s iss iss.port [])
include h

theorem exec_msgRxPost : exec (.msgRxPost iss size) s = .next (
    if 1024 ≤ (t.port iss.port).tcf.rxBufs.length then t.refuse iss 0x03
    else if size < 48 || 65535 < size then t.refuse iss 0x08
    else t.awaits iss (fun t =>
      (t.modTcf iss.port (fun x => { x with rxBufs := x.rxBufs ++ [{ iss := iss, size := size }] })).tcfStatus iss.port)) := by
  subst ht
  exact congrArg Host.Outcome.next (hostCmd_of_starts h _)

theorem msgRxPost_full (hn : 1024 ≤ (t.port iss.port).tcf.rxBufs.length) : exec (.msgRxPost iss size) s = .next (t.refuse iss 0x03) := by
  rw [exec_msgRxPost ht h, if_pos hn]

variable (hn : (t.port iss.port).tcf.rxBufs.length < 1024)
include hn

theorem msgRxPost_badSize (hz : size < 48 ∨ 65535 < size) : exec (.msgRxPost iss size) s = .next (t.refuse iss 0x08) := by
  rw [exec_msgRxPost ht h, if_neg (Nat.not_le.mpr hn), if_pos (by simpa using hz)]

theorem msgRxPost_queued (hlo : 48 ≤ size) (hhi : size ≤ 65535) : exec (.msgRxPost iss size) s = .next (t.awaits iss (fun t =>
    (t.modTcf iss.port (fun x => { x with rxBufs := x.rxBufs ++ [{ iss := iss, size := size }] })).tcfStatus iss.port)) := by
  rw [exec_msgRxPost ht h, if_neg (Nat.not_le.mpr hn), if_neg (by simp [hlo, hhi])]

end

/-! ### KEY_LOAD and KEY_CLEAR (R230, R233) -/

section
variable {op0 : Nat} {key : Option Nat} (h : Starts s iss iss.port [(op0, 0x73FF)]) (hr : roleRefuses t iss.port = false)
  (ho : bitsOf op0 9 0 = 1023 ∨ t.slotOf iss.port (bitsOf op0 9 0) ≠ none) (hk : bitsOf op0 12 12 = 0)
include h hr ho hk

/-- A payload key's command, by its slot. -/
theorem keyCmd_payload : s.keyCmd iss op0 key =
    if bitsOf op0 14 13 = 0 ∨ bitsOf op0 14 13 = 3 then t.refuse iss 0x10
    else if slotBusy t iss.port (bitsOf op0 9 0) (bitsOf op0 14 13) = true then t.refuse iss 0x05
    else t.modTcf iss.port (fun x => { x with
      pendKeys := x.pendKeys ++ [{ iss := iss, onu := bitsOf op0 9 0, kind := 0, slot := bitsOf op0 14 13, key := key }] }) := by
  subst ht
  rw [State.keyCmd, activeCmd_runs h _ hr]
  dsimp only
  rw [if_neg (not_unadmitted ho), hk]
  simp

theorem keyCmd_badSlot (hs : bitsOf op0 14 13 = 0 ∨ bitsOf op0 14 13 = 3) : s.keyCmd iss op0 key = t.refuse iss 0x10 := by
  rw [keyCmd_payload ht h hr ho hk, if_pos hs]

variable (hs : bitsOf op0 14 13 = 1 ∨ bitsOf op0 14 13 = 2)
include hs

theorem keyCmd_busy (hb : slotBusy t iss.port (bitsOf op0 9 0) (bitsOf op0 14 13) = true) : s.keyCmd iss op0 key = t.refuse iss 0x05 := by
  rw [keyCmd_payload ht h hr ho hk, if_neg (by omega), if_pos hb]

theorem keyCmd_queued (hb : slotBusy t iss.port (bitsOf op0 9 0) (bitsOf op0 14 13) = false) :
    s.keyCmd iss op0 key = t.modTcf iss.port (fun x => { x with
      pendKeys := x.pendKeys ++ [{ iss := iss, onu := bitsOf op0 9 0, kind := 0, slot := bitsOf op0 14 13, key := key }] }) := by
  rw [keyCmd_payload ht h hr ho hk, if_neg (by omega), if_neg (by simp [hb])]

end

/-! ### KEY_SWITCH (R233) -/

section
variable {op0 op1 op2 : Nat} (h : Starts s iss iss.port [(op0, 0x63FF), (op2, 0xFFFF)]) (hr : roleRefuses t iss.port = false)
  (ho : bitsOf op0 9 0 = 1023 ∨ t.slotOf iss.port (bitsOf op0 9 0) ≠ none)
include h hr ho

theorem exec_keySwitch : exec (.keySwitch iss op0 op1 op2) s = .next (
    if bitsOf op0 14 13 = 3 then t.refuse iss 0x10
    else if bitsOf op0 14 13 ≠ 0 && (Tab.find (t.port iss.port).tcf.keys (bitsOf op0 9 0 * 4 + bitsOf op0 14 13)).isNone then
      t.refuse iss 0x06
    else t.modTcf iss.port (fun x => { x with
      newSwitches := x.newSwitches ++ [{ iss := some iss, onu := bitsOf op0 9 0, slot := bitsOf op0 14 13,
                                         fc := op1 % 2 ^ 32 + op2 % 2 ^ 16 * 2 ^ 32 }] })) := by
  subst ht
  refine congrArg Host.Outcome.next ((activeCmd_runs h _ hr).trans ?_)
  dsimp only
  rw [if_neg (not_unadmitted ho)]

theorem keySwitch_badSlot (hs : bitsOf op0 14 13 = 3) : exec (.keySwitch iss op0 op1 op2) s = .next (t.refuse iss 0x10) := by
  rw [exec_keySwitch ht h hr ho, if_pos hs]

variable (hs : bitsOf op0 14 13 ≠ 3)
include hs

theorem keySwitch_keyless (h0 : bitsOf op0 14 13 ≠ 0)
    (hn : Tab.find (t.port iss.port).tcf.keys (bitsOf op0 9 0 * 4 + bitsOf op0 14 13) = none) :
    exec (.keySwitch iss op0 op1 op2) s = .next (t.refuse iss 0x06) := by
  rw [exec_keySwitch ht h hr ho, if_neg hs, if_pos (by simp [h0, hn])]

theorem keySwitch_queued
    (hk : bitsOf op0 14 13 = 0 ∨ Tab.find (t.port iss.port).tcf.keys (bitsOf op0 9 0 * 4 + bitsOf op0 14 13) ≠ none) :
    exec (.keySwitch iss op0 op1 op2) s = .next (t.modTcf iss.port (fun x => { x with
      newSwitches := x.newSwitches ++ [{ iss := some iss, onu := bitsOf op0 9 0, slot := bitsOf op0 14 13,
                                         fc := op1 % 2 ^ 32 + op2 % 2 ^ 16 * 2 ^ 32 }] })) := by
  rw [exec_keySwitch ht h hr ho, if_neg hs, if_neg (by rcases hk with hk | hk <;> simp [hk])]

end

end

/-- Settles O38: command by command, by the first row of its table that is broken. -/
theorem tcCommandsAreCheckedAndQueued : Obligations.TcCommandsAreCheckedAndQueued := by
  unfold Obligations.TcCommandsAreCheckedAndQueued
  rintro s iss m op0 op1 op2 key size data t p rfl ht
  refine ⟨fun q k hq => ⟨fun hd => ?aborted, fun hd => ?waits⟩, fun k hn => awaits_of_noSq hn k, fun h => ploamSend_byRole ht h,
    fun h hr => ⟨ploamSend_badType ht h hr, ploamSend_unadmitted ht h hr, fun hm ho => ⟨ploamSend_full ht h hr hm ho, ploamSend_queued ht h hr hm ho⟩⟩,
    fun h hr => ⟨omciSend_badFlow ht h hr, omciSend_badLength ht h hr, omciSend_full ht h hr, omciSend_queued ht h hr⟩,
    fun h => ⟨msgRxPost_full ht h, msgRxPost_badSize ht h, msgRxPost_queued ht h⟩,
    fun h hr ho hk => ⟨fun hs => ⟨congrArg _ (keyCmd_badSlot ht h hr ho hk hs), congrArg _ (keyCmd_badSlot ht h hr ho hk hs)⟩,
      fun hs hb => ⟨congrArg _ (keyCmd_busy ht h hr ho hk hs hb), congrArg _ (keyCmd_busy ht h hr ho hk hs hb)⟩,
      fun hs hb => ⟨congrArg _ (keyCmd_queued ht h hr ho hk hs hb), congrArg _ (keyCmd_queued ht h hr ho hk hs hb)⟩⟩,
    fun h hr ho => ⟨keySwitch_badSlot ht h hr ho, keySwitch_keyless ht h hr ho, keySwitch_queued ht h hr ho⟩, roleRefuses_iff⟩
  case aborted => rw [awaits_of_sq hq, if_pos hd]
  case waits => rw [awaits_of_sq hq, if_neg (by simp [hd])]

end Sys2Proof.Machine
end

section
/-!
ONU activation (R250 to R263, R283, R284): discovery and ranging, the steps that time and bursts bring to a context, and the commands that act on
contexts and on Alloc-IDs. That a command goes on when it finds poison in its context is the model's choice (log entry 108).
-/
namespace Sys2Proof.Machine

section
variable {s t : State} {p : Port} {c : Nat} {x : OnuCtx}

/-! ### SERIAL_NUMBER_RESPONSE (R250 to R252) -/

/-- What a ranging goes back to when it fails, for a context that a serial number response finds. -/
def originOf (x : OnuCtx) : RangingOrigin :=
  match x.st with
  | .admitted => .admitted
  | .ranging => x.origin
  | _ => .returning

/-- A context answers a quiet window: once it has been read, without poison, it ranges with the delay measured. -/
def State.rangeHeld (s : State) (p : Port) (c : Nat) (x : OnuCtx) (caps rtd : Nat) : State :=
  match s.useCtx p c with
  | (t, ok) =>
    if !ok then t
    else (((t.modCtx p c (fun y => { y with caps := caps })).bumpP p 0xB0).bumpP p 0xB5).startRanging p c rtd (12048384 - rtd) (originOf x)

theorem rangeHeld_of_clean (hu : s.useCtx p c = (t, true)) (caps rtd : Nat) : s.rangeHeld p c x caps rtd =
    (((t.modCtx p c (fun y => { y with caps := caps })).bumpP p 0xB0).bumpP p 0xB5).startRanging p c rtd (12048384 - rtd) (originOf x) := by
  rw [State.rangeHeld, hu]
  exact if_neg (by simp)

/-- A serial number that no context holds answers a quiet window of the frame of `tick`: it is admitted where the host has allowed it and there is
room. -/
def State.rangeNew (s : State) (p : Port) (tick serial caps gain rtd : Nat) : State :=
  if s.govOf tick (R.ONU_ACT_CTL.auto_admit p) = 0 then s
  else
    match freeSlot s p, freeOnuId s p with
    | some c, some onu =>
      ((s.createCtx p c onu serial caps (some gain) .created).bumpP p 0xB0).startRanging p c rtd (12048384 - rtd) .created
    | _, _ => (s.bumpP p 0xB2).pulseP p 0x84 0

section
variable {tick serial caps gain rtd : Nat}

theorem rangeNew_forbidden (ha : s.govOf tick (R.ONU_ACT_CTL.auto_admit p) = 0) : s.rangeNew p tick serial caps gain rtd = s := by
  rw [State.rangeNew, if_pos ha]

variable (ha : s.govOf tick (R.ONU_ACT_CTL.auto_admit p) ≠ 0)
include ha

theorem rangeNew_admits {onu : Nat} (hc : freeSlot s p = some c) (ho : freeOnuId s p = some onu) : s.rangeNew p tick serial caps gain rtd =
    ((s.createCtx p c onu serial caps (some gain) .created).bumpP p 0xB0).startRanging p c rtd (12048384 - rtd) .created := by
  rw [State.rangeNew, if_neg ha, hc, ho]

theorem rangeNew_full (hc : freeSlot s p = none) : s.rangeNew p tick serial caps gain rtd = (s.bumpP p 0xB2).pulseP p 0x84 0 := by
  rw [State.rangeNew, if_neg ha, hc]

end

section
variable {entry tick resp : Nat} {m : UpPloam}

theorem serialNumberResponse_unheard (h : rxMessage s p entry tick resp = none) :
    exec (.serialNumberResponse p entry tick resp m.msg ⟨m.seq, m.mic⟩) s = .next s := by
  show execSerialNumberResponse p entry tick resp m.msg ⟨m.seq, m.mic⟩ s = _
  rw [execSerialNumberResponse, h]

section
variable {e : MapEntry} {b : XtlBurst} {late : Int} {lo hi rtd : Nat}
  (hr : rxMessage s p entry tick resp = some (e, b)) (hd : isDisc e = true) (hm : m.msg.type = 0x03) (hmic : micPasses s p m = true)
  (hrole : roleRefuses s p = false) (hg : s.g50 p = false) (hlo : lo = s.govOf tick (R.ONU_RTD_MIN.rtd p))
  (hhi : hi = s.govOf tick (R.ONU_RTD_MAX.rtd p))
  (hlate : late = (arrivalOf s p e b : Int)
    - (64 * (e.start + ploamField m.msg 12 2) + (s.profileOf p tick e.profile).guard + (s.profileOf p tick e.profile).pre : Nat))
  (hrtd : rtd = lo + late.toNat)
include hr hd hm hmic hrole hg hlo hhi hlate hrtd

/-- A response that checks, by its delay, and then by whether a context holds its serial number. -/
theorem exec_serialNumberResponse : exec (.serialNumberResponse p entry tick resp m.msg ⟨m.seq, m.mic⟩) s = .next (
    if late < 0 || ((hi : Int) - lo) < late then (s.bumpP p 0xB1).pulseP p 0x83 0
    else
      match (s.port p).onu.ctx.find? (fun x => x.2.st ≠ .free && x.2.serial == ploamField m.msg 4 8) with
      | some (c, x) => s.rangeHeld p c x (ploamField m.msg 14 1) rtd
      | none => s.rangeNew p tick (ploamField m.msg 4 8) (ploamField m.msg 14 1) b.gain rtd) := by
  have hchecks : ¬ (!isDisc e || m.msg.type ≠ 0x03 || !micPasses s p m || roleRefuses s p || s.g50 p) = true := by
    simp [hd, hm, hmic, hrole, hg]
  subst hlo hhi hlate hrtd
  show execSerialNumberResponse p entry tick resp m.msg ⟨m.seq, m.mic⟩ s = _
  rw [execSerialNumberResponse, hr]
  exact congrArg Host.Outcome.next (if_neg hchecks)

theorem serialNumberResponse_outside (h : late < 0 ∨ (hi : Int) - lo < late) :
    exec (.serialNumberResponse p entry tick resp m.msg ⟨m.seq, m.mic⟩) s = .next ((s.bumpP p 0xB1).pulseP p 0x83 0) := by
  rw [exec_serialNumberResponse hr hd hm hmic hrole hg hlo hhi hlate hrtd, if_pos (by simpa using h)]

variable (h0 : 0 ≤ late) (hmax : late ≤ (hi : Int) - lo)
include h0 hmax

theorem serialNumberResponse_held
    (hf : (s.port p).onu.ctx.find? (fun x => x.2.st ≠ .free && x.2.serial == ploamField m.msg 4 8) = some (c, x)) :
    exec (.serialNumberResponse p entry tick resp m.msg ⟨m.seq, m.mic⟩) s = .next (s.rangeHeld p c x (ploamField m.msg 14 1) rtd) := by
  rw [exec_serialNumberResponse hr hd hm hmic hrole hg hlo hhi hlate hrtd, if_neg (by simp; omega), hf]

theorem serialNumberResponse_new
    (hf : (s.port p).onu.ctx.find? (fun x => x.2.st ≠ .free && x.2.serial == ploamField m.msg 4 8) = none) :
    exec (.serialNumberResponse p entry tick resp m.msg ⟨m.seq, m.mic⟩) s
      = .next (s.rangeNew p tick (ploamField m.msg 4 8) (ploamField m.msg 14 1) b.gain rtd) := by
  rw [exec_serialNumberResponse hr hd hm hmic hrole hg hlo hhi hlate hrtd, if_neg (by simp; omega), hf]

end

/-! ### REGISTRATION (R254) -/

theorem registration_unheard (h : rxHead s p entry tick = none) : exec (.registration p entry tick m.msg ⟨m.seq, m.mic⟩) s = .next s := by
  show execRegistration p entry tick m.msg ⟨m.seq, m.mic⟩ s = _
  rw [execRegistration, h]

/-- The burst that the Rake has of an entry gives its arrival offset (R104). -/
theorem offsetOf_of_burst {b : RakeBurst} (h : (s.port p).rake.bursts.find? (fun b => b.entry == entry && b.tick == tick) = some b) :
    offsetOf s p entry tick = b.offset := by
  rw [offsetOf, h]
  rfl

/-- Assign_ONU_ID leaves the queue, and the delays of a context take the offset of a ranging burst. -/
def State.correctEqd (s : State) (p : Port) (c : Nat) (off : Int) : State :=
  (s.dropCore p (s.ctx p c).onuId [0x04]).modCtx p c (fun y => { y with
    eqd := codeOf 24 (y.eqd - off), rtd := codeOf 24 (y.rtd + off), driftSum := 0, driftN := 0, driftFrom := never })

/-- A registration of a RANGING context, in the allocation and with the serial number that are its own. -/
theorem exec_registration {e : MapEntry} {z : State} (hr : rxHead s p entry tick = some e) (hd : isDisc e = false) (hm : m.msg.type = 0x06)
    (hp : e.ploamu = true) (hmic : micPasses s p m = true) (hrole : roleRefuses s p = false) (hg : s.g50 p = false)
    (hc : s.slotOf p m.msg.onu = some c) (ho : (s.allocOwner p e.alloc).map Prod.fst = some c) (hst : (s.ctx p c).st = .ranging)
    (hser : (s.ctx p c).serial = ploamField m.msg 4 8) (hu : s.useCtx p c = (t, true))
    (hz : z = (t.correctEqd p c (offsetOf t p entry tick)).sendRangingTime p ((t.correctEqd p c (offsetOf t p entry tick)).ctx p c)) :
    exec (.registration p entry tick m.msg ⟨m.seq, m.mic⟩) s = .next (
      if z.gov (R.ONU_ACT_CTL.train_on_act p) = 1 && bitAt (z.ctx p c).caps 0 then z.startTraining p c false else z.enterOnu p c .operation) := by
  have hchecks : ¬ (isDisc e || m.msg.type ≠ 0x06 || !e.ploamu || !micPasses s p m || roleRefuses s p || s.g50 p) = true := by
    simp [hd, hm, hp, hmic, hrole, hg]
  have hown : ¬ ((s.allocOwner p e.alloc).map Prod.fst ≠ some c || (s.ctx p c).st ≠ .ranging
      || (s.ctx p c).serial ≠ ploamField m.msg 4 8) = true := by
    simp [ho, hst, hser]
  subst hz
  show execRegistration p entry tick m.msg ⟨m.seq, m.mic⟩ s = _
  rw [execRegistration, hr]
  refine congrArg Host.Outcome.next ((if_neg hchecks).trans ?_)
  rw [hc]
  refine (if_neg hown).trans ?_
  rw [hu]
  rfl

end

/-! ### RANGING_FAILED (R255) -/

/-- A context whose ranging has failed is freed, made DORMANT or admitted again, as it came. -/
def State.endRanging (s : State) (p : Port) (c : Nat) (x : OnuCtx) : State :=
  match x.origin with
  | .created => (s.freeCtx p c).sendDeactivate p x.onuId 2
  | .returning => s.startDormant p c (some 2)
  | .admitted => ((s.dropCore p x.onuId [0x04]).enterOnu p c .admitted).sendDeactivate p x.onuId 2

section
variable {slot : Nat} (hc : c = slot % 256) (hx : x = s.ctx p c)
include hc hx

theorem rangingFailed_ignored (h : x.st ≠ .ranging ∨ activates s p = false ∨ x.rngTried < s.gov (R.ONU_TIMERS.rng_tries p) ∨ s.tick ≤ x.rngLast) :
    exec (.rangingFailed p slot) s = .next s := by
  subst hx hc
  refine congrArg Host.Outcome.next (if_pos ?_)
  rcases h with h | h | h | h <;> simp [h]

theorem rangingFailed_ends (hst : x.st = .ranging) (ha : activates s p = true) (hn : s.gov (R.ONU_TIMERS.rng_tries p) ≤ x.rngTried)
    (hl : x.rngLast < s.tick) (hu : s.useCtx p c = (t, true)) :
    exec (.rangingFailed p slot) s = .next (((t.bumpP p 0xB3).pulseP p 0x86 0).endRanging p c x) := by
  subst hx hc
  refine congrArg Host.Outcome.next ((if_neg ?_).trans ?_)
  · simp [hst, ha, hn, hl]
  · rw [hu]
    rfl

end

end

/-! ### TRAIN_REQUEST_END (R256) -/

/-- The unsuccessful runs of a context in a row, once a burst of it has been judged. -/
def ncRunAfter (x : OnuCtx) (r : TrainReport) : Nat := if r.converged then 0 else min (x.ncRun + 1) 255

theorem ncRunAfter_of_unconverged {x : OnuCtx} {r : TrainReport} (h : r.converged = false) : ncRunAfter x r = min (x.ncRun + 1) 255 :=
  if_neg (by simp [h])

/-- The messages and counts of a judged burst: Train_Result is sent, and the runs without success are counted. -/
def State.takeReport (s : State) (p : Port) (c : Nat) (x : OnuCtx) (r : TrainReport) : State :=
  (s.sendTrainResult p x (if r.converged then 0 else 1) r.errMean r.used).modCtx p c (fun y => { y with
    unans := 0, ncRun := ncRunAfter x r, trainSent := false, report := none })

section
variable {s t : State} {p : Port} {c slot : Nat} {x : OnuCtx} (hc : c = slot % 256) (hx : x = s.ctx p c)
include hc hx

theorem trainRequestEnd_ignored
    (h : x.st ≠ .training ∨ x.trainSent = false ∨ activates s p = false ∨ (x.report = none ∧ s.tick < x.trainUntil)) :
    exec (.trainRequestEnd p slot) s = .next s := by
  subst hx hc
  refine congrArg Host.Outcome.next (if_pos ?_)
  rcases h with h | h | h | ⟨hn, hl⟩
  · simp [h]
  · simp [h]
  · simp [h]
  · simp [hn, hl]

/-! ### MISS_MAX_REACHED and ABSENT_TIMEOUT (R257, R258) -/

theorem missMaxReached_ignored (h : x.st ≠ .operation ∨ activates s p = false ∨ x.missRun < s.gov (R.ONU_TIMERS.miss_max p)) :
    exec (.missMaxReached p slot) s = .next s := by
  subst hx hc
  refine congrArg Host.Outcome.next (if_pos ?_)
  rcases h with h | h | h <;> simp [h]

theorem absentTimeout_ignored (h : x.st ≠ .absent ∨ activates s p = false ∨ x.absentLeft ≠ 0) : exec (.absentTimeout p slot) s = .next s := by
  subst hx hc
  refine congrArg Host.Outcome.next (if_pos ?_)
  rcases h with h | h | h <;> simp [h]

/-! ### DRIFT_CORRECTION (R261) -/

theorem driftCorrection_ignored (h : (x.st ≠ .operation ∧ x.st ≠ .training) ∨ x.driftN < 2 ^ s.gov (R.ONU_TRACK.drift_avg p) ∨ s.g50 p = true ∨
    roleRefuses s p = true ∨ s.fenced p = true) : exec (.driftCorrection p slot) s = .next s := by
  subst hx hc
  refine congrArg Host.Outcome.next (if_pos ?_)
  rcases h with ⟨h, h'⟩ | h | h | h | h
  · simp [h, h']
  · simp [h]
  · simp [h]
  · simp [h]
  · simp [h]

/-! What each does to a context that is read without poison. -/

variable (hu : s.useCtx p c = (t, true))
include hu

section
variable (hst : x.st = .training) (hsent : x.trainSent = true) (ha : activates s p = true)
include hst hsent ha

theorem trainRequestEnd_judged {r : TrainReport} {a : State} (hr : x.report = some r) (he : a = t.takeReport p c x r) :
    exec (.trainRequestEnd p slot) s = .next (
      if r.converged then a.enterOnu p c .operation
      else if a.gov (R.ONU_TRACK.nc_max p) ≤ ncRunAfter x r then (a.enterOnu p c .operation).pulseP p 0x85 0
      else a.issueRequest p c) := by
  subst hx hc he
  refine congrArg Host.Outcome.next ((if_neg ?_).trans ?_)
  · simp [hst, hsent, ha, hr]
  · rw [hu]
    dsimp only
    rw [hr]
    rfl

theorem trainRequestEnd_unreported (hr : x.report = none) (hl : x.trainUntil ≤ s.tick) :
    exec (.trainRequestEnd p slot) s = .next (
      if x.trainGot then (t.modCtx p c (fun y => { y with unans := 0 })).issueRequest p c
      else if x.trainIssued then t.unanswered p c
      else t.issueRequest p c) := by
  subst hx hc
  refine congrArg Host.Outcome.next ((if_neg ?_).trans ?_)
  · simp [hst, hsent, ha, hl]
  · rw [hu]
    dsimp only
    rw [hr]
    rfl

end

theorem missMaxReached_absent (hst : x.st = .operation) (ha : activates s p = true) (hn : s.gov (R.ONU_TIMERS.miss_max p) ≤ x.missRun) :
    exec (.missMaxReached p slot) s = .next (t.startAbsent p c) := by
  subst hx hc
  refine congrArg Host.Outcome.next ((if_neg ?_).trans ?_)
  · simp [hst, ha, hn]
  · rw [hu]
    rfl

theorem absentTimeout_dormant (hst : x.st = .absent) (ha : activates s p = true) (hl : x.absentLeft = 0) :
    exec (.absentTimeout p slot) s = .next (t.startDormant p c (some 1)) := by
  subst hx hc
  refine congrArg Host.Outcome.next ((if_neg ?_).trans ?_)
  · simp [hst, ha, hl]
  · rw [hu]
    rfl

section
variable (hst : x.st = .operation ∨ x.st = .training) (hn : 2 ^ s.gov (R.ONU_TRACK.drift_avg p) ≤ x.driftN) (hg : s.g50 p = false)
  (hrole : roleRefuses s p = false) (hf : s.fenced p = false) {m : Int} (hm : m = roundDiv 1 x.driftSum x.driftN) {a : State}
  (he : a = t.modCtx p c (fun y => { y with driftSum := 0, driftN := 0 }))
include hst hn hg hrole hf hm he

theorem exec_driftCorrection : exec (.driftCorrection p slot) s = .next (
    if m.natAbs < a.gov (R.ONU_TRACK.drift_thresh p) then a
    else if (x.eqd : Int) - m < 0 then a.pulseP p 0x83 0
    else
      let b := a.modCtx p c (fun y => { y with eqd := codeOf 24 (y.eqd - m), driftFrom := never })
      (b.sendRangingTime p (b.ctx p c)).bumpP p 0xB6) := by
  subst he hm hx hc
  refine congrArg Host.Outcome.next ((if_neg ?_).trans ?_)
  · rcases hst with hst | hst <;> simp [hst, hn, hg, hrole, hf]
  · rw [hu]
    rfl

theorem driftCorrection_small (hs : m.natAbs < a.gov (R.ONU_TRACK.drift_thresh p)) : exec (.driftCorrection p slot) s = .next a := by
  rw [exec_driftCorrection hc hx hu hst hn hg hrole hf hm he, if_pos hs]

variable (hs : a.gov (R.ONU_TRACK.drift_thresh p) ≤ m.natAbs)
include hs

theorem driftCorrection_negative (hneg : (x.eqd : Int) < m) : exec (.driftCorrection p slot) s = .next (a.pulseP p 0x83 0) := by
  rw [exec_driftCorrection hc hx hu hst hn hg hrole hf hm he, if_neg (Nat.not_lt.mpr hs), if_pos (by omega)]

theorem driftCorrection_corrects (hpos : m ≤ x.eqd) {b : State}
    (hb : b = a.modCtx p c (fun y => { y with eqd := codeOf 24 (y.eqd - m), driftFrom := never })) :
    exec (.driftCorrection p slot) s = .next ((b.sendRangingTime p (b.ctx p c)).bumpP p 0xB6) := by
  subst hb
  rw [exec_driftCorrection hc hx hu hst hn hg hrole hf hm he, if_neg (Nat.not_lt.mpr hs), if_neg (by omega)]

end

end

section
variable {s t : State} {iss : Issue} {c op0 : Nat}

/-! ### Commands of the control cores (R511) -/

theorem fwCmd_refused (h : s.flag R.RST_STATUS.fw_running = false) (k : State → State) : s.fwCmd iss k = s.refuse iss 0x2A := by
  rw [State.fwCmd, if_pos (by simp [h])]

theorem fwCmd_runs (h : s.flag R.RST_STATUS.fw_running = true) (ha : s.fw.actAt = none) (k : State → State) : s.fwCmd iss k = k s := by
  rw [State.fwCmd, if_neg (by simp [h]), if_neg (by simp [ha])]

section
variable (ht : t = s.startCmd iss) (hr : roleRefuses t iss.port = false)
include ht hr

/-! ### ONU_REMOVE and TRAIN_START (R256, R263) -/

section
variable (h : Starts s iss iss.port [(op0, 0x3FF)])
include h

theorem exec_onuRemove : exec (.onuRemove iss op0) s = .next (t.fwCmd iss (fun s =>
    match s.slotOf iss.port (bitsOf op0 9 0) with
    | none => s.refuse iss 0x02
    | some c =>
      let u := (s.useCtx iss.port c).1
      ((u.freeCtx iss.port c).sendDeactivate iss.port (u.ctx iss.port c).onuId 0).succeed iss 0 0)) := by
  subst ht
  exact congrArg Host.Outcome.next (activeCmd_runs h _ hr)

theorem exec_trainStart : exec (.trainStart iss op0) s = .next (t.fwCmd iss (fun s =>
    match s.slotOf iss.port (bitsOf op0 9 0) with
    | none => s.refuse iss 0x02
    | some c =>
      let u := (s.useCtx iss.port c).1
      if (u.ctx iss.port c).st ≠ .operation || u.g50 iss.port then u.refuse iss 0x0D
      else (u.startTraining iss.port c true).succeed iss 0 0)) := by
  subst ht
  exact congrArg Host.Outcome.next (activeCmd_runs h _ hr)

theorem onuRemove_notRunning (hf : t.flag R.RST_STATUS.fw_running = false) : exec (.onuRemove iss op0) s = .next (t.refuse iss 0x2A) := by
  rw [exec_onuRemove ht hr h, fwCmd_refused hf]

theorem trainStart_notRunning (hf : t.flag R.RST_STATUS.fw_running = false) : exec (.trainStart iss op0) s = .next (t.refuse iss 0x2A) := by
  rw [exec_trainStart ht hr h, fwCmd_refused hf]

variable (hf : t.flag R.RST_STATUS.fw_running = true) (ha : t.fw.actAt = none)
include hf ha

theorem onuRemove_unknown (hc : t.slotOf iss.port (bitsOf op0 9 0) = none) : exec (.onuRemove iss op0) s = .next (t.refuse iss 0x02) := by
  rw [exec_onuRemove ht hr h, fwCmd_runs hf ha, hc]

theorem trainStart_unknown (hc : t.slotOf iss.port (bitsOf op0 9 0) = none) : exec (.trainStart iss op0) s = .next (t.refuse iss 0x02) := by
  rw [exec_trainStart ht hr h, fwCmd_runs hf ha, hc]

variable (hc : t.slotOf iss.port (bitsOf op0 9 0) = some c) {u : State} (hu : u = (t.useCtx iss.port c).1)
include hc hu

theorem onuRemove_frees : exec (.onuRemove iss op0) s
    = .next (((u.freeCtx iss.port c).sendDeactivate iss.port (u.ctx iss.port c).onuId 0).succeed iss 0 0) := by
  subst hu
  rw [exec_onuRemove ht hr h, fwCmd_runs hf ha, hc]

theorem trainStart_trains (hst : (u.ctx iss.port c).st = .operation) (hg : u.g50 iss.port = false) :
    exec (.trainStart iss op0) s = .next ((u.startTraining iss.port c true).succeed iss 0 0) := by
  subst hu
  rw [exec_trainStart ht hr h, fwCmd_runs hf ha, hc]
  exact congrArg Host.Outcome.next (if_neg (by simp [hst, hg]))

theorem trainStart_refused (hn : (u.ctx iss.port c).st ≠ .operation ∨ u.g50 iss.port = true) :
    exec (.trainStart iss op0) s = .next (u.refuse iss 0x0D) := by
  subst hu
  rw [exec_trainStart ht hr h, fwCmd_runs hf ha, hc]
  exact congrArg Host.Outcome.next (if_pos (by rcases hn with hn | hn <;> simp [hn]))

end

/-! ### ONU_ADMIT (R252, R263, R354) -/

section
variable {op1 op2 op3 serial : Nat} (hser : serial = op1 % 2 ^ 32 * 2 ^ 32 + op2 % 2 ^ 32)
  (hf : t.flag R.RST_STATUS.fw_running = true) (ha : t.fw.actAt = none)
include hser hf ha

section
variable (hform : bitAt op0 31 = false) (h : Starts s iss iss.port [(op0, 0x800003FF), (op3, 0)])
include hform h

/-- ONU_ADMIT, by the rows of its refusals in their order. -/
theorem exec_onuAdmit : exec (.onuAdmit iss op0 op1 op2 op3) s = .next (
    match freeSlot t iss.port with
    | none => t.refuse iss 0x0A
    | some c =>
      if bitsOf op0 9 0 = 1023 || (t.slotOf iss.port (bitsOf op0 9 0)).isSome then t.refuse iss 0x0B
      else if (t.port iss.port).onu.ctx.any (fun e => e.2.st ≠ .free && e.2.serial == serial) then t.refuse iss 0x0C
      else (t.createCtx iss.port c (bitsOf op0 9 0) serial 0 none .admitted).succeed iss 0 0) := by
  subst ht hser
  refine congrArg Host.Outcome.next ?_
  rw [State.admitOnu, hform]
  exact (activeCmd_runs h _ hr).trans (fwCmd_runs hf ha _)

theorem onuAdmit_full (hc : freeSlot t iss.port = none) : exec (.onuAdmit iss op0 op1 op2 op3) s = .next (t.refuse iss 0x0A) := by
  rw [exec_onuAdmit ht hr hser hf ha hform h, hc]

variable (hc : freeSlot t iss.port = some c)
include hc

theorem onuAdmit_badId (ho : bitsOf op0 9 0 = 1023 ∨ t.slotOf iss.port (bitsOf op0 9 0) ≠ none) :
    exec (.onuAdmit iss op0 op1 op2 op3) s = .next (t.refuse iss 0x0B) := by
  rw [exec_onuAdmit ht hr hser hf ha hform h, hc]
  dsimp only
  rw [if_pos (by simpa [Option.isSome_iff_ne_none] using ho)]

variable (h1023 : bitsOf op0 9 0 ≠ 1023) (ho : t.slotOf iss.port (bitsOf op0 9 0) = none)
include h1023 ho

theorem onuAdmit_held (hs : (t.port iss.port).onu.ctx.any (fun e => e.2.st ≠ .free && e.2.serial == serial) = true) :
    exec (.onuAdmit iss op0 op1 op2 op3) s = .next (t.refuse iss 0x0C) := by
  rw [exec_onuAdmit ht hr hser hf ha hform h, hc]
  dsimp only
  rw [if_neg (by simp [h1023, ho]), if_pos hs]

theorem onuAdmit_creates (hs : (t.port iss.port).onu.ctx.any (fun e => e.2.st ≠ .free && e.2.serial == serial) = false) :
    exec (.onuAdmit iss op0 op1 op2 op3) s = .next ((t.createCtx iss.port c (bitsOf op0 9 0) serial 0 none .admitted).succeed iss 0 0) := by
  rw [exec_onuAdmit ht hr hser hf ha hform h, hc]
  dsimp only
  rw [if_neg (by simp [h1023, ho]), if_neg (by rw [hs]; exact Bool.false_ne_true)]

end

section
variable (hform : bitAt op0 31 = true) (h : Starts s iss iss.port [(op0, 0x800003FF), (op3, 0xFFFFFF)])
include hform h

/-- The G50 form, by the rows of its refusals in their order. -/
theorem exec_onuAdmitG50 : exec (.onuAdmitG50 iss op0 op1 op2 op3) s = .next (
    match t.slotOf iss.port (bitsOf op0 9 0) with
    | none => t.refuse iss 0x02
    | some c =>
      let u := (t.useCtx iss.port c).1
      if (u.ctx iss.port c).serial ≠ serial then u.refuse iss 0x0C
      else if (u.ctx iss.port c).st ≠ .admitted || !u.g50 iss.port then u.refuse iss 0x0D
      else ((u.modCtx iss.port c (fun x => { x with eqd := bitsOf op3 23 0 })).enterOnu iss.port c .operation).succeed iss 0 0) := by
  subst ht hser
  refine congrArg Host.Outcome.next ?_
  rw [State.admitOnu, hform]
  exact (activeCmd_runs h _ hr).trans (fwCmd_runs hf ha _)

theorem onuAdmitG50_unknown (hc : t.slotOf iss.port (bitsOf op0 9 0) = none) :
    exec (.onuAdmitG50 iss op0 op1 op2 op3) s = .next (t.refuse iss 0x02) := by
  rw [exec_onuAdmitG50 ht hr hser hf ha hform h, hc]

variable (hc : t.slotOf iss.port (bitsOf op0 9 0) = some c) {u : State} (hu : u = (t.useCtx iss.port c).1)
include hc hu

theorem onuAdmitG50_otherSerial (hs : (u.ctx iss.port c).serial ≠ serial) :
    exec (.onuAdmitG50 iss op0 op1 op2 op3) s = .next (u.refuse iss 0x0C) := by
  subst hu
  rw [exec_onuAdmitG50 ht hr hser hf ha hform h, hc]
  dsimp only
  rw [if_pos hs]

variable (hs : (u.ctx iss.port c).serial = serial)
include hs

theorem onuAdmitG50_refused (hn : (u.ctx iss.port c).st ≠ .admitted ∨ u.g50 iss.port = false) :
    exec (.onuAdmitG50 iss op0 op1 op2 op3) s = .next (u.refuse iss 0x0D) := by
  subst hu
  rw [exec_onuAdmitG50 ht hr hser hf ha hform h, hc]
  dsimp only
  rw [if_neg (not_not_intro hs), if_pos (by rcases hn with hn | hn <;> simp [hn])]

theorem onuAdmitG50_operates (hst : (u.ctx iss.port c).st = .admitted) (hg : u.g50 iss.port = true) :
    exec (.onuAdmitG50 iss op0 op1 op2 op3) s
      = .next (((u.modCtx iss.port c (fun x => { x with eqd := bitsOf op3 23 0 })).enterOnu iss.port c .operation).succeed iss 0 0) := by
  subst hu
  rw [exec_onuAdmitG50 ht hr hser hf ha hform h, hc]
  dsimp only
  rw [if_neg (not_not_intro hs), if_neg (by simp [hst, hg])]

end

end

/-! ### ALLOC_SET and ALLOC_CLEAR (R283, R284) -/

theorem allocSet_waits {op1 op2 op3 op4 : Nat}
    (h : Starts s iss iss.port [(op0, 0x3FFFFFFF), (op1, 0xFFFFFF), (op2, 0x3FFFF), (op3, 0x3FFFF), (op4, 0x3FFFF)]) :
    exec (.allocSet iss op0 op1 op2 op3 op4) s = .next (t.modDba iss.port (fun d => { d with
      cmds := d.cmds ++ [.set iss (bitsOf op0 9 0) (bitsOf op0 13 10) {
        alloc := bitsOf op0 25 14, rpt := bitAt op0 29, profile := bitsOf op0 28 26, period := bitsOf op1 7 0,
        phase := bitsOf op1 15 8, fixed := bitsOf op2 17 0, assured := bitsOf op3 17 0, peak := bitsOf op4 17 0,
        weight := bitsOf op1 23 16 }] })) := by
  subst ht
  exact congrArg Host.Outcome.next (activeCmd_runs h _ hr)

theorem allocClear_waits (h : Starts s iss iss.port [(op0, 0x3FFF)]) :
    exec (.allocClear iss op0) s = .next (t.modDba iss.port (fun d => { d with
      cmds := d.cmds ++ [.clear iss (bitsOf op0 9 0) (bitsOf op0 13 10)] })) := by
  subst ht
  exact congrArg Host.Outcome.next (activeCmd_runs h _ hr)

end

end

/-- Settles O42: by the delay and the serial number of a response, the message that ends a ranging, and the origin of one that fails. -/
theorem discoveryAndRanging : Obligations.DiscoveryAndRanging := by
  unfold Obligations.DiscoveryAndRanging
  intro s p entry tick resp slot m
  refine ⟨serialNumberResponse_unheard, registration_unheard,
    fun e b late lo hi rtd hr hd hm hmic hrole hg hlo hhi hlate hrtd =>
      ⟨serialNumberResponse_outside hr hd hm hmic hrole hg hlo hhi hlate hrtd, fun h0 hmax => ⟨fun c x t hf hu => ?held, fun hf => ?new⟩⟩,
    fun e c t x off hr hd hm hp hmic hrole hg hc ho hst hser hu hoff hx z hz => ?registers,
    fun b => offsetOf_of_burst, rangingFailed_ignored rfl rfl, fun c x t z hc hx hst ha hn hl hu hz => ?fails⟩
  case held =>
    rw [serialNumberResponse_held hr hd hm hmic hrole hg hlo hhi hlate hrtd h0 hmax hf, rangeHeld_of_clean hu]
    rfl
  case new =>
    have hexec := serialNumberResponse_new hr hd hm hmic hrole hg hlo hhi hlate hrtd h0 hmax hf
    exact ⟨fun ha => hexec.trans (congrArg _ (rangeNew_forbidden ha)), fun c onu ha hc ho => hexec.trans (congrArg _ (rangeNew_admits ha hc ho)),
      fun ha hc => hexec.trans (congrArg _ (rangeNew_full ha hc))⟩
  case registers =>
    subst hoff hx
    have hexec := exec_registration hr hd hm hp hmic hrole hg hc ho hst hser hu hz
    refine ⟨fun htrain hcap => ?_, fun h => ?_⟩
    · rw [hexec, if_pos (by simp [htrain, hcap])]
    · rw [hexec, if_neg (by rcases h with h | h <;> simp [h])]
  case fails =>
    subst hz
    exact rangingFailed_ends hc hx hst ha hn hl hu

/-- Settles O43: by the report of a training burst, the counts of a context that is missed or absent, and the mean of its drift. -/
theorem trainingAbsenceAndDrift : Obligations.TrainingAbsenceAndDrift := by
  unfold Obligations.TrainingAbsenceAndDrift
  intro s p slot c x t hc hx hu
  refine ⟨trainRequestEnd_ignored hc hx, fun hst hsent ha => ⟨fun r a hr he => ?judged, fun hr hl => ?unreported⟩,
    missMaxReached_ignored hc hx, missMaxReached_absent hc hx hu, absentTimeout_ignored hc hx, absentTimeout_dormant hc hx hu,
    driftCorrection_ignored hc hx, fun hst hn hg hrole hf a m hm he =>
      ⟨driftCorrection_small hc hx hu hst hn hg hrole hf hm he, driftCorrection_negative hc hx hu hst hn hg hrole hf hm he,
        fun hs hpos b => driftCorrection_corrects hc hx hu hst hn hg hrole hf hm he hs hpos⟩⟩
  case judged =>
    have hexec := trainRequestEnd_judged hc hx hu hst hsent ha hr he
    refine ⟨fun h => ?_, fun h hmax => ?_, fun h hmax => ?_⟩
    · rw [hexec, if_pos h]
    · rw [hexec, if_neg (by simp [h]), ncRunAfter_of_unconverged h, if_pos hmax]
    · rw [hexec, if_neg (by simp [h]), ncRunAfter_of_unconverged h, if_neg (Nat.not_le.mpr hmax)]
  case unreported =>
    have hexec := trainRequestEnd_unreported hc hx hu hst hsent ha hr hl
    refine ⟨fun hgot => ?_, fun hgot hissued => ?_, fun hgot hissued => ?_⟩
    · rw [hexec, if_pos hgot]
    · rw [hexec, if_neg (by simp [hgot]), if_pos hissued]
    · rw [hexec, if_neg (by simp [hgot]), if_neg (by simp [hissued])]

/-- Settles O44: command by command, by the first row of its table that is broken. -/
theorem activationAndAllocationCommands : Obligations.ActivationAndAllocationCommands := by
  unfold Obligations.ActivationAndAllocationCommands
  rintro s iss op0 op1 op2 op3 op4 t p ht rfl hr
  refine ⟨fun hf h => ⟨onuRemove_notRunning ht hr h hf, trainStart_notRunning ht hr h hf⟩, fun hf ha => ⟨fun hform h => ?m200, fun hform h => ?g50,
    fun h => ⟨fun hc => ⟨onuRemove_unknown ht hr h hf ha hc, trainStart_unknown ht hr h hf ha hc⟩, fun c hc u hu =>
      ⟨onuRemove_frees ht hr h hf ha hc hu, trainStart_trains ht hr h hf ha hc hu, trainStart_refused ht hr h hf ha hc hu⟩⟩⟩,
    allocSet_waits ht hr, allocClear_waits ht hr⟩
  case m200 =>
    exact ⟨onuAdmit_full ht hr rfl hf ha hform h, fun c hc => ⟨onuAdmit_badId ht hr rfl hf ha hform h hc,
      onuAdmit_held ht hr rfl hf ha hform h hc, onuAdmit_creates ht hr rfl hf ha hform h hc⟩⟩
  case g50 =>
    exact ⟨onuAdmitG50_unknown ht hr rfl hf ha hform h, fun c hc u hu => ⟨onuAdmitG50_otherSerial ht hr rfl hf ha hform h hc hu,
      onuAdmitG50_refused ht hr rfl hf ha hform h hc hu, onuAdmitG50_operates ht hr rfl hf ha hform h hc hu⟩⟩

end Sys2Proof.Machine
end

section
/-!
The queue and node commands (Table 10-6): what refuses them, in the order of their checks, and what they set or read (R285, R292, R293).
The head and the tail of a queue that has held no SDU, and the levels at which a node's buckets start, are the model's open values.
-/
namespace Sys2Proof.Machine

/-! ### What a binding and a setting write -/

/-- An ONU's node gets a queue, empty and with no deficit, with the class, profile and weight of the operand. -/
def State.bindQueue (s : State) (q op1 nd : Nat) : State :=
  (s.nextOpen.nextOpen.writeQueue q allBytes { Queue.blank with
    valid := true, cls := bitsOf op1 12 10, limProf := bitsOf op1 27 24, weight := bitsOf op1 23 16, node := nd,
    head := s.openNat % 2 ^ 32, tail := s.nextOpen.openNat % 2 ^ 32 }).setDeficit q 0

/-- The rates that the operands of NODE_SET name: a class node has no committed rate. -/
def ratesNamed (op0 op1 op2 op3 : Nat) : NodeRates :=
  { cir := if bitsOf op0 12 12 = 0 then bitsOf op1 19 0 else 0, pir := bitsOf op2 19 0,
    cbs := if bitsOf op0 12 12 = 0 then bitsOf op3 31 16 else 0, pbs := bitsOf op3 15 0, weight := bitsOf op0 23 16 }

/-- A node gets rates, and its buckets start. -/
def State.startNode (s : State) (k : Nat) (r : NodeRates) : State :=
  s.nextOpen.nextOpen.setNode k {
    rates := r, cirLevel := (64 * r.cbs * levelUnit : Nat) - (s.openNat : Int),
    pirLevel := (64 * r.pbs * levelUnit : Nat) - (s.nextOpen.openNat : Int) }

section
variable {s t : State} {iss : Issue} {op0 op1 op2 op3 q nd : Nat} (ht : t = s.startCmd iss)
include ht

section
variable (hq : q = bitsOf op0 17 0)
include hq

/-! ### QUEUE_BIND (R293) -/

section
variable (h : Starts s iss (queuePort q) [(op0, 0x3FFFF), (op1, 0x0FFF1FFF)])
include h

theorem queueBind_taken (hw : ownsQueue iss q = false ∨ (t.queue q).valid = true) :
    exec (.queueBind iss op0 op1) s = .next (t.refuse iss 0x11) := by
  subst ht hq
  refine congrArg Host.Outcome.next ((hostCmdAt_of_starts h _).trans (if_pos ?_))
  rcases hw with hw | hw <;> simp [hw]

variable (ho : ownsQueue iss q = true) (hv : (t.queue q).valid = false)
include ho hv

theorem queueBind_unadmitted (hn : onuNode t (queuePort q) (bitsOf op1 9 0) = none) :
    exec (.queueBind iss op0 op1) s = .next (t.refuse iss 0x13) := by
  subst ht hq
  refine congrArg Host.Outcome.next ((hostCmdAt_of_starts h _).trans ((if_neg (by simp [ho, hv])).trans ?_))
  dsimp only
  rw [hn]

variable (hn : onuNode t (queuePort q) (bitsOf op1 9 0) = some nd)
include hn

/-- A free queue and an admitted ONU's node: the weight decides. -/
theorem exec_queueBind : exec (.queueBind iss op0 op1) s = .next (
    if bitsOf op1 23 16 = 0 then t.refuse iss 0x10 else (t.bindQueue q op1 nd).succeed iss 0 0) := by
  subst ht hq
  refine congrArg Host.Outcome.next ((hostCmdAt_of_starts h _).trans ((if_neg (by simp [ho, hv])).trans ?_))
  dsimp only
  rw [hn]
  rfl

theorem queueBind_weightless (hw : bitsOf op1 23 16 = 0) : exec (.queueBind iss op0 op1) s = .next (t.refuse iss 0x10) := by
  rw [exec_queueBind ht hq h ho hv hn, if_pos hw]

theorem queueBind_binds (hw : bitsOf op1 23 16 ≠ 0) :
    exec (.queueBind iss op0 op1) s = .next ((t.bindQueue q op1 nd).succeed iss 0 0) := by
  rw [exec_queueBind ht hq h ho hv hn, if_neg hw]

end

variable (ho : ownsQueue iss q = true)
include ho

section
variable (hv : (t.queue q).valid = true)
include hv

/-! ### QUEUE_MODIFY (R293) -/

section
variable (h : Starts s iss (queuePort q) [(op0, 0x3FFFF), (op1, 0x0FFF0000)])
include h

theorem exec_queueModify : exec (.queueModify iss op0 op1) s = .next (
    if bitsOf op1 23 16 = 0 then t.refuse iss 0x10
    else (t.writeQueue q qrBind { t.queue q with limProf := bitsOf op1 27 24, weight := bitsOf op1 23 16 }).succeed iss 0 0) := by
  subst ht hq
  exact congrArg Host.Outcome.next ((hostCmdAt_of_starts h _).trans (if_neg (by simp [ho, hv])))

theorem queueModify_weightless (hw : bitsOf op1 23 16 = 0) : exec (.queueModify iss op0 op1) s = .next (t.refuse iss 0x10) := by
  rw [exec_queueModify ht hq ho hv h, if_pos hw]

theorem queueModify_sets (hw : bitsOf op1 23 16 ≠ 0) : exec (.queueModify iss op0 op1) s = .next (
    (t.writeQueue q qrBind { t.queue q with limProf := bitsOf op1 27 24, weight := bitsOf op1 23 16 }).succeed iss 0 0) := by
  rw [exec_queueModify ht hq ho hv h, if_neg hw]

end

/-! ### QUEUE_UNBIND (R292, R293) -/

section
variable (h : Starts s iss (queuePort q) [(op0, 0x8003FFFF)])
include h

theorem exec_queueUnbind : exec (.queueUnbind iss op0) s = .next (
    if (t.queue q).cells ≠ 0 && !bitAt op0 31 then t.refuse iss 0x12
    else (t.unbind q).succeed iss (t.queue q).sdus.length 0) := by
  subst ht hq
  exact congrArg Host.Outcome.next ((hostCmdAt_of_starts h _).trans (if_neg (by simp [ho, hv])))

theorem queueUnbind_holding (hc : (t.queue q).cells ≠ 0) (hb : bitAt op0 31 = false) :
    exec (.queueUnbind iss op0) s = .next (t.refuse iss 0x12) := by
  rw [exec_queueUnbind ht hq ho hv h, if_pos (by simp [hc, hb])]

theorem queueUnbind_unbinds (hc : (t.queue q).cells = 0 ∨ bitAt op0 31 = true) :
    exec (.queueUnbind iss op0) s = .next ((t.unbind q).succeed iss (t.queue q).sdus.length 0) := by
  rw [exec_queueUnbind ht hq ho hv h, if_neg (by rcases hc with hc | hc <;> simp [hc])]

end

end

/-! ### QUEUE_READ (R293, R318) -/

theorem exec_queueRead (h : Starts s iss (queuePort q) [(op0, 0x3FFFF)]) {r : State} (hr : r = t.memRead 0 (queueWord q)) :
    exec (.queueRead iss op0) s = .next ((r.toHost iss.fn (.buffer iss.fn iss.tag
      (maskPoison (queueRecord (r.queue q) (r.deficit q)) (memPoison r 0 (queueWord q))))).complete iss
        { Result.ok 0 0 with poison := memPoison r 0 (queueWord q) ≠ 0 }) := by
  subst hr ht hq
  exact congrArg Host.Outcome.next ((hostCmdAt_of_starts h _).trans (if_neg (by simp [ho])))

end

/-! ### NODE_SET (R285, R293) -/

section
variable (h : Starts s iss iss.port [(op0, 0xFFF3FF), (op1, 0xFFFFF), (op2, 0xFFFFF)])
include h

theorem nodeSet_unadmitted (hn : onuNode t iss.port (bitsOf op0 9 0) = none) :
    exec (.nodeSet iss op0 op1 op2 op3) s = .next (t.refuse iss 0x13) := by
  subst ht
  refine congrArg Host.Outcome.next ((hostCmd_of_starts h _).trans ?_)
  dsimp only
  rw [hn]

variable (hn : onuNode t iss.port (bitsOf op0 9 0) = some nd)
include hn

theorem exec_nodeSet : exec (.nodeSet iss op0 op1 op2 op3) s = .next (
    if bitsOf op0 23 16 = 0 then t.refuse iss 0x10
    else (t.startNode (nodeKey iss.port nd (bitsOf op0 12 12) (bitsOf op0 15 13)) (ratesNamed op0 op1 op2 op3)).succeed iss 0 0) := by
  subst ht
  refine congrArg Host.Outcome.next ((hostCmd_of_starts h _).trans ?_)
  dsimp only
  rw [hn]
  rfl

theorem nodeSet_weightless (hw : bitsOf op0 23 16 = 0) : exec (.nodeSet iss op0 op1 op2 op3) s = .next (t.refuse iss 0x10) := by
  rw [exec_nodeSet ht h hn, if_pos hw]

theorem nodeSet_sets (hw : bitsOf op0 23 16 ≠ 0) {r : NodeRates} (hr : r = ratesNamed op0 op1 op2 op3) :
    exec (.nodeSet iss op0 op1 op2 op3) s
      = .next ((t.startNode (nodeKey iss.port nd (bitsOf op0 12 12) (bitsOf op0 15 13)) r).succeed iss 0 0) := by
  rw [exec_nodeSet ht h hn, if_neg hw, hr]

end

/-! ### NODE_READ (R293) -/

section
variable (h : Starts s iss iss.port [(op0, 0xF3FF)])
include h

theorem nodeRead_unadmitted (hn : onuNode t iss.port (bitsOf op0 9 0) = none) :
    exec (.nodeRead iss op0) s = .next (t.refuse iss 0x13) := by
  subst ht
  refine congrArg Host.Outcome.next ((hostCmd_of_starts h _).trans ?_)
  dsimp only
  rw [hn]

theorem nodeRead_reads (hn : onuNode t iss.port (bitsOf op0 9 0) = some nd) {x : Node}
    (hx : x = t.node (nodeKey iss.port nd (bitsOf op0 12 12) (bitsOf op0 15 13))) :
    exec (.nodeRead iss op0) s
      = .next ((t.toHost iss.fn (.buffer iss.fn iss.tag (Config.nodeRecord x.rates.cir x.rates.pir x.rates.cbs x.rates.pbs x.rates.weight
          (x.cirLevel / levelUnit) (x.pirLevel / levelUnit)).toList)).succeed iss 0 0) := by
  subst hx ht
  refine congrArg Host.Outcome.next ((hostCmd_of_starts h _).trans ?_)
  dsimp only
  rw [hn]

end

end

/-- Settles O39: command by command, by the first check that is broken. -/
theorem queuesAndNodesAreSetByCommand : Obligations.QueuesAndNodesAreSetByCommand := by
  unfold Obligations.QueuesAndNodesAreSetByCommand
  rintro s iss op0 op1 op2 op3 t q p ht hq rfl
  exact ⟨fun h => ⟨queueBind_taken ht hq h, queueBind_unadmitted ht hq h,
      fun nd ho hv hn => ⟨queueBind_weightless ht hq h ho hv hn, queueBind_binds ht hq h ho hv hn⟩⟩,
    fun h ho hv => ⟨queueModify_weightless ht hq ho hv h, queueModify_sets ht hq ho hv h⟩,
    fun h ho hv => ⟨queueUnbind_holding ht hq ho hv h, queueUnbind_unbinds ht hq ho hv h⟩,
    fun h ho r hr => exec_queueRead ht hq ho h hr,
    fun nd hn => ⟨fun h => ⟨nodeSet_weightless ht h hn, fun hw r hr => nodeSet_sets ht h hn hw hr⟩,
      fun h x hx => nodeRead_reads ht h hn hx⟩,
    fun hn => ⟨fun h => nodeSet_unadmitted ht h hn, fun h => nodeRead_unadmitted ht h hn⟩⟩

end Sys2Proof.Machine
end

section
/-!
Upstream SDUs and uplink frames (R291, R299, R305, R309, R387, R388). That the SDUs dropped in a fence are counted for their port, which cells hold an
SDU, and the form of the FCS are the model's choices (log entries 103, 39 and 102).
-/
namespace Sys2Proof.Machine

section
variable {s : State} {p : Port} {us k flow : Nat}

/-! ### A lookup's hot half (steps 1 to 3 of Table 11-3) -/

section
variable {f : Nat} {r : State} {down : Bool} (hr : s.memRead 0 f = r)
include hr

/-- A hot half of which no used byte is poison. -/
theorem hotHalf_of_clean (hp : memPoison r 0 f &&& hotUsed (r.flowCtx f) down = 0) : s.hotHalf f down =
    if !(r.flowCtx f).valid then (r.bump 0x2102, none)
    else if (r.flowCtx f).poisoned || !(r.flowCtx f).enabled then (r.bump 0x2104, none)
    else (r, some (r.flowCtx f)) := by
  simp [State.hotHalf, hr, hp, bitAt]

theorem hotHalf_invalid (hp : memPoison r 0 f &&& hotUsed (r.flowCtx f) down = 0) (hv : (r.flowCtx f).valid = false) :
    s.hotHalf f down = (r.bump 0x2102, none) := by
  rw [hotHalf_of_clean hr hp, if_pos (by simp [hv])]

variable (hv : (r.flowCtx f).valid = true)
include hv

theorem hotHalf_disabled (hp : memPoison r 0 f &&& hotUsed (r.flowCtx f) down = 0)
    (hd : (r.flowCtx f).poisoned = true ∨ (r.flowCtx f).enabled = false) : s.hotHalf f down = (r.bump 0x2104, none) := by
  rw [hotHalf_of_clean hr hp, if_neg (by simp [hv]), if_pos (by simpa using hd)]

variable (hb : (r.flowCtx f).poisoned = false)
include hb

theorem hotHalf_found (hp : memPoison r 0 f &&& hotUsed (r.flowCtx f) down = 0) (he : (r.flowCtx f).enabled = true) :
    s.hotHalf f down = (r, some (r.flowCtx f)) := by
  rw [hotHalf_of_clean hr hp, if_neg (by simp [hv]), if_neg (by simp [hb, he])]

/-- Poison disables the flow, in byte 0x03 before the flags are read and in another byte after. -/
theorem hotHalf_poison (hp : memPoison r 0 f &&& hotUsed (r.flowCtx f) down ≠ 0) :
    s.hotHalf f down = (r.poisonFlow f false true, none) := by
  rw [State.hotHalf, hr]
  split
  · rfl
  · rw [if_neg (by simp [hv]), if_pos (by simp [hb, hp])]

end

/-! ### UPSTREAM_LOOKUP (R299) -/

theorem upstreamLookup_empty (h : (s.port p).tcf.upQ = []) : exec (.upstreamLookup p us) s = .next s := by
  show execUpstreamLookup p us s = _
  rw [execUpstreamLookup, h]

section
variable {u : UpSdu} {rest : List UpSdu} {t r : State} (h : (s.port p).tcf.upQ = u :: rest)
  (ht : t = s.modTcf p (fun x => { x with upQ := rest }))
include h ht

theorem upstreamLookup_fenced (hf : t.hubFenced 0 = true) :
    exec (.upstreamLookup p us) s = .next (t.modTcf p (fun x => { x with fencedDrops := x.fencedDrops + 1 })) := by
  subst ht
  show execUpstreamLookup p us s = _
  rw [execUpstreamLookup, h]
  exact congrArg _ (if_pos hf)

variable (hf : t.hubFenced 0 = false)
include hf

theorem upstreamLookup_dropped (hh : t.hotHalf u.flow false = (r, none)) : exec (.upstreamLookup p us) s = .next r := by
  subst ht
  show execUpstreamLookup p us s = _
  rw [execUpstreamLookup, h]
  dsimp only
  rw [if_neg (by simp [hf]), hh]

variable {x : FlowCtx} (hh : t.hotHalf u.flow false = (r, some x))
include hh

/-- An SDU whose flow is found: steps 4 to 6 of Table 11-3. -/
theorem upstreamLookup_found : exec (.upstreamLookup p us) s = .next (
    if x.port ≠ p.val || x.onu ≠ u.onu || x.dir % 2 = 0 then r.bump 0x2105
    else if x.encrypt && !u.keyed then r.bump 0x2106
    else if x.mgmt then (r.bump 0x2109).deliver p 2 (msgResult u.onu u.data.length) u.data
    else r.forwardUp u.flow us x u.data) := by
  subst ht
  show execUpstreamLookup p us s = _
  rw [execUpstreamLookup, h]
  dsimp only
  rw [if_neg (by simp [hf]), hh]

theorem upstreamLookup_misdirected (hx : x.port ≠ p.val ∨ x.onu ≠ u.onu ∨ x.dir % 2 = 0) :
    exec (.upstreamLookup p us) s = .next (r.bump 0x2105) := by
  rw [upstreamLookup_found h ht hf hh, if_pos (by simpa [or_assoc] using hx)]

variable (hp : x.port = p.val) (ho : x.onu = u.onu) (hd : x.dir % 2 ≠ 0)
include hp ho hd

theorem upstreamLookup_unencrypted (he : x.encrypt = true) (hk : u.keyed = false) :
    exec (.upstreamLookup p us) s = .next (r.bump 0x2106) := by
  rw [upstreamLookup_found h ht hf hh, if_neg (by simp [hp, ho, hd]), if_pos (by simp [he, hk])]

variable (hk : x.encrypt = false ∨ u.keyed = true)
include hk

theorem upstreamLookup_passed : exec (.upstreamLookup p us) s = .next (
    if x.mgmt then (r.bump 0x2109).deliver p 2 (msgResult u.onu u.data.length) u.data else r.forwardUp u.flow us x u.data) := by
  rw [upstreamLookup_found h ht hf hh, if_neg (by simp [hp, ho, hd]), if_neg (by rcases hk with hk | hk <;> simp [hk])]

theorem upstreamLookup_managed (hm : x.mgmt = true) :
    exec (.upstreamLookup p us) s = .next ((r.bump 0x2109).deliver p 2 (msgResult u.onu u.data.length) u.data) := by
  rw [upstreamLookup_passed h ht hf hh hp ho hd hk, if_pos hm]

theorem upstreamLookup_forwarded (hm : x.mgmt = false) : exec (.upstreamLookup p us) s = .next (r.forwardUp u.flow us x u.data) := by
  rw [upstreamLookup_passed h ht hf hh hp ho hd hk, if_neg (by simp [hm])]

end

/-! ### UPSTREAM_EGRESS (R291, R319, R388) -/

/-- The SDUs that wait for an uplink port. -/
abbrev State.egressOf (s : State) (k : Nat) : List EgressSdu := Tab.get (fun _ => ([] : List EgressSdu)) s.tm.egress (k % 16)

section
variable {poisoned : Bool}

theorem upstreamEgress_waits (h : s.egressOf k = [] ∨ s.hubFenced 0 = true ∨
    (s.hubFenced 1 = true ∧ ∃ d rest, s.egressOf k = d :: rest ∧ d.lp = true)) : exec (.upstreamEgress k poisoned) s = .next s := by
  show execUpstreamEgress k poisoned s = _
  unfold execUpstreamEgress
  dsimp only
  cases hl : Tab.get (fun _ => ([] : List EgressSdu)) s.tm.egress (k % 16) with
  | nil => rfl
  | cons d rest =>
    refine congrArg _ (if_pos ?_)
    rcases h with h | h | ⟨h, d', rest', hl', hlp⟩
    · exact absurd (hl.symm.trans h) (List.cons_ne_nil _ _)
    · simp [h]
    · obtain ⟨rfl, -⟩ := List.cons.inj (hl.symm.trans hl')
      simp [h, hlp]

variable {d : EgressSdu} {rest : List EgressSdu} {t r : State} {bad : Bool} (h : s.egressOf k = d :: rest) (hf : s.hubFenced 0 = false)
  (hlp : d.lp = false ∨ s.hubFenced 1 = false)
  (ht : t = { s with tm := { s.tm with egress := Tab.set (fun _ => ([] : List EgressSdu)) s.tm.egress (k % 16) rest } })
  (hr : ((t.setFld R.LPD_POOL_CT.free (ctFree t)).setFld R.LPD_POOL_LP.free (lpFree t)).releaseCells d.lp d.addrs d.data.length poisoned = (r, bad))
include h hf hlp ht hr

/-- The oldest SDU of the list, by what the read of its cells finds. -/
theorem upstreamEgress_released : exec (.upstreamEgress k poisoned) s = .next (
    if bad then r.countPoison d.flow
    else if r.fld (R.ULK_PORT_STATUS.state (k % 16)) ≠ 2 then r.bump (ulkCtr (k % 16) 8)
    else if r.fld (R.ULK_PORT.max_frame (k % 16)) < d.data.length + 4 then r.bump (ulkCtr (k % 16) 7)
    else ((r.bump (ulkCtr (k % 16) 5)).bumpBy (ulkCtr (k % 16) 6) (d.data.length + 4)).emit
      (.uplink (k % 16) (d.data ++ frameCheck d.data))) := by
  subst ht
  show execUpstreamEgress k poisoned s = _
  unfold execUpstreamEgress
  dsimp only
  rw [show Tab.get _ s.tm.egress (k % 16) = d :: rest from h]
  dsimp only
  rw [if_neg (by rcases hlp with hlp | hlp <;> simp [hf, hlp]), hr]

theorem upstreamEgress_poison (hb : bad = true) : exec (.upstreamEgress k poisoned) s = .next (r.countPoison d.flow) := by
  rw [upstreamEgress_released h hf hlp ht hr, if_pos hb]

variable (hb : bad = false)
include hb

theorem upstreamEgress_down (hu : r.fld (R.ULK_PORT_STATUS.state (k % 16)) ≠ 2) :
    exec (.upstreamEgress k poisoned) s = .next (r.bump (ulkCtr (k % 16) 8)) := by
  rw [upstreamEgress_released h hf hlp ht hr, if_neg (by simp [hb]), if_pos hu]

variable (hu : r.fld (R.ULK_PORT_STATUS.state (k % 16)) = 2)
include hu

theorem upstreamEgress_oversize (hn : r.fld (R.ULK_PORT.max_frame (k % 16)) < d.data.length + 4) :
    exec (.upstreamEgress k poisoned) s = .next (r.bump (ulkCtr (k % 16) 7)) := by
  rw [upstreamEgress_released h hf hlp ht hr, if_neg (by simp [hb]), if_neg (by simp [hu]), if_pos hn]

theorem upstreamEgress_sent (hn : d.data.length + 4 ≤ r.fld (R.ULK_PORT.max_frame (k % 16))) :
    exec (.upstreamEgress k poisoned) s = .next (((r.bump (ulkCtr (k % 16) 5)).bumpBy (ulkCtr (k % 16) 6) (d.data.length + 4)).emit
      (.uplink (k % 16) (d.data ++ frameCheck d.data))) := by
  rw [upstreamEgress_released h hf hlp ht hr, if_neg (by simp [hb]), if_neg (by simp [hu]), if_neg (Nat.not_lt.mpr hn)]

end

/-! ### UPLINK_FRAME_RX (R387, R388) -/

section
variable {rs : RsReport} {frame : List Byte}

theorem uplinkFrameRx_down (h : s.fld (R.ULK_PORT_STATUS.state (k % 16)) ≠ 2) : exec (.uplinkFrameRx k rs frame us) s = .next s := by
  show execUplinkFrameRx k rs frame us s = _
  simp [execUplinkFrameRx, h]

variable {u : State} (h : s.fld (R.ULK_PORT_STATUS.state (k % 16)) = 2) (hu : u = s.countRs (k % 16) rs)
  (h2 : u.fld (R.ULK_PORT_STATUS.state (k % 16)) = 2)
include h hu h2

/-- What a port that is UP receives, once the report of its decoders is counted. -/
theorem uplinkFrameRx_up : exec (.uplinkFrameRx k rs frame us) s = .next (
    if u.hubFenced 0 then u
    else if rs.touched || !frameOk frame then u.bump (ulkCtr (k % 16) 2)
    else if frame.length < 64 || u.fld (R.ULK_PORT.max_frame (k % 16)) < frame.length then u.bump (ulkCtr (k % 16) 3)
    else if be16 frame 12 = 0x8808 then u.bump (ulkCtr (k % 16) 4)
    else ((u.bump (ulkCtr (k % 16) 0)).bumpBy (ulkCtr (k % 16) 1) frame.length).classify us (frame.take (frame.length - 4))) := by
  subst hu
  show execUplinkFrameRx k rs frame us s = _
  simp only [execUplinkFrameRx, h, if_true, h2, ne_eq, not_true_eq_false, decide_false, Bool.false_or]

theorem uplinkFrameRx_fenced (hf : u.hubFenced 0 = true) : exec (.uplinkFrameRx k rs frame us) s = .next u := by
  rw [uplinkFrameRx_up h hu h2, if_pos hf]

variable (hf : u.hubFenced 0 = false)
include hf

theorem uplinkFrameRx_badFcs (hc : rs.touched = true ∨ frameOk frame = false) :
    exec (.uplinkFrameRx k rs frame us) s = .next (u.bump (ulkCtr (k % 16) 2)) := by
  rw [uplinkFrameRx_up h hu h2, if_neg (by simp [hf]), if_pos (by simpa using hc)]

variable (hc : rs.touched = false) (hok : frameOk frame = true)
include hc hok

theorem uplinkFrameRx_badLength (hn : frame.length < 64 ∨ u.fld (R.ULK_PORT.max_frame (k % 16)) < frame.length) :
    exec (.uplinkFrameRx k rs frame us) s = .next (u.bump (ulkCtr (k % 16) 3)) := by
  rw [uplinkFrameRx_up h hu h2, if_neg (by simp [hf]), if_neg (by simp [hc, hok]), if_pos (by simpa using hn)]

variable (hlo : 64 ≤ frame.length) (hhi : frame.length ≤ u.fld (R.ULK_PORT.max_frame (k % 16)))
include hlo hhi

theorem uplinkFrameRx_accepted : exec (.uplinkFrameRx k rs frame us) s = .next (
    if be16 frame 12 = 0x8808 then u.bump (ulkCtr (k % 16) 4)
    else ((u.bump (ulkCtr (k % 16) 0)).bumpBy (ulkCtr (k % 16) 1) frame.length).classify us (frame.take (frame.length - 4))) := by
  rw [uplinkFrameRx_up h hu h2, if_neg (by simp [hf]), if_neg (by simp [hc, hok]), if_neg (by simp [hlo, hhi])]

theorem uplinkFrameRx_pause (he : be16 frame 12 = 0x8808) :
    exec (.uplinkFrameRx k rs frame us) s = .next (u.bump (ulkCtr (k % 16) 4)) := by
  rw [uplinkFrameRx_accepted h hu h2 hf hc hok hlo hhi, if_pos he]

theorem uplinkFrameRx_received (he : be16 frame 12 ≠ 0x8808) : exec (.uplinkFrameRx k rs frame us) s = .next (
    ((u.bump (ulkCtr (k % 16) 0)).bumpBy (ulkCtr (k % 16) 1) frame.length).classify us (frame.take (frame.length - 4))) := by
  rw [uplinkFrameRx_accepted h hu h2 hf hc hok hlo hhi, if_neg he]

end

/-! ### METER_REFRESH (R305) -/

section
variable {f : Nat} {x : FlowCtx} (hff : f = flow % 2 ^ 20) (hx : x = s.flowCtx f)
include hff hx

theorem exec_meterRefresh : exec (.meterRefresh flow us) s = .next (
    if !x.valid || !x.enabled || x.poisoned || x.pir = 0 || s.hubFenced 0 then s
    else if memPoison (s.memRead 0 f) 0 f &&& 0xFFFFEE08 ≠ 0 then (s.memRead 0 f).poisonFlow f false false
    else ((s.memRead 0 f).setFlow f (x.fill us)).memWrite 0 f 0xFFF00000) := by
  subst hff hx
  rfl

theorem meterRefresh_ignored (h : x.valid = false ∨ x.enabled = false ∨ x.poisoned = true ∨ x.pir = 0 ∨ s.hubFenced 0 = true) :
    exec (.meterRefresh flow us) s = .next s := by
  rw [exec_meterRefresh hff hx, if_pos (by rcases h with h | h | h | h | h <;> simp [h])]

theorem meterRefresh_fills (hv : x.valid = true) (he : x.enabled = true) (hb : x.poisoned = false) (hr : x.pir ≠ 0)
    (hf : s.hubFenced 0 = false) (hp : memPoison (s.memRead 0 f) 0 f &&& 0xFFFFEE08 = 0) :
    exec (.meterRefresh flow us) s = .next (((s.memRead 0 f).setFlow f (x.fill us)).memWrite 0 f 0xFFF00000) := by
  rw [exec_meterRefresh hff hx, if_neg (by simp [hv, he, hb, hr, hf]), if_neg (not_not_intro hp)]

end

/-- A fill leaves no bucket above its depth. -/
theorem fill_bounded (x : FlowCtx) (us : Nat) :
    (x.fill us).tc ≤ x.cbs * 2048 ∧ (x.fill us).tp ≤ x.pbs * 2048 ∧ (x.fill us).stamp = us % 2 ^ 32 :=
  ⟨Nat.min_le_right _ _, Nat.min_le_right _ _, rfl⟩

end

/-- Settles O40: SDUs and frames by the first check that drops them, and meters by the state of their flow. -/
theorem upstreamSdusAreLookedUpAndSent : Obligations.UpstreamSdusAreLookedUpAndSent := by
  unfold Obligations.UpstreamSdusAreLookedUpAndSent
  intro s p us k flow rs poisoned frame
  refine ⟨upstreamLookup_empty, fun u rest t hq ht => ⟨upstreamLookup_fenced hq ht, fun r hf => upstreamLookup_dropped hq ht hf,
      fun r x hf hh => ⟨upstreamLookup_misdirected hq ht hf hh, upstreamLookup_unencrypted hq ht hf hh, fun hp ho hd hk =>
        ⟨upstreamLookup_managed hq ht hf hh hp ho hd hk, upstreamLookup_forwarded hq ht hf hh hp ho hd hk⟩⟩⟩,
    fun f r down hr hp => ⟨hotHalf_invalid hr hp, fun hv => hotHalf_disabled hr hv hp, fun hv hb => hotHalf_found hr hv hb hp,
      fun x hpx hx hv hb => hotHalf_poison hx.symm hv hb hpx⟩,
    upstreamEgress_waits, fun d rest t hl hf hlp ht r bad hr => ⟨upstreamEgress_poison hl hf hlp ht hr, upstreamEgress_down hl hf hlp ht hr,
      upstreamEgress_oversize hl hf hlp ht hr, upstreamEgress_sent hl hf hlp ht hr⟩,
    uplinkFrameRx_down, fun u h hu h2 => ⟨uplinkFrameRx_fenced h hu h2, uplinkFrameRx_badFcs h hu h2, uplinkFrameRx_badLength h hu h2,
      fun hf hc hok hlo hhi => ⟨uplinkFrameRx_pause h hu h2 hf hc hok hlo hhi, uplinkFrameRx_received h hu h2 hf hc hok hlo hhi⟩⟩,
    fun f x hff hx => ⟨meterRefresh_ignored hff hx, meterRefresh_fills hff hx⟩, fun x => fill_bounded x us⟩

end Sys2Proof.Machine
end

section
/-!
The flow commands (Table 11-2): what refuses them, in the order of their checks, and the context and classification entry they leave
(R298, R306, R307, R311). That a removal is refused while hub memory is fenced is the model's choice (log entry 38).
-/
namespace Sys2Proof.Machine

/-! ### What the commands leave and answer -/

/-- A changed key moves the classification entry of flow `f`: the entry of the old key goes, and the new key gets one. -/
def State.moveClass (s : State) (old x : FlowCtx) (f : Nat) : State :=
  let moved := old.keyValid ≠ x.keyValid || old.key ≠ x.key
  let s := if moved && old.keyValid then s.setClass old.key 0 else s
  if moved && x.keyValid then s.setClass x.key (2 ^ 31 + f) else s

/-- The buckets hold no more than their depths. -/
def FlowCtx.capped (x : FlowCtx) : FlowCtx := { x with tc := min x.tc (x.cbs * 2048), tp := min x.tp (x.pbs * 2048) }

/-- A flow is disabled, and with `remove` its context and classification entry go. -/
def State.disableFlow (s : State) (f : Nat) (remove : Bool) : State :=
  let x := s.flowCtx f
  let u := (s.setFlow f { x with enabled := false, valid := !remove }).memWrite 0 f 8
  if remove && x.keyValid then u.setClass x.key 0 else u

/-- A context goes to the host, its poisoned bytes as 0x00, and its command completes. -/
def State.answerFlow (s : State) (iss : Issue) (x : FlowCtx) (hot cold : Nat) : State :=
  (s.toHost iss.fn (.buffer iss.fn iss.tag (maskPoison (x.image.take 32) hot ++ maskPoison (x.image.drop 32) cold))).complete iss
    { Result.ok 0 0 with poison := hot ≠ 0 || cold ≠ 0 }

section
variable {s u v : State} {old x y : FlowCtx} {f us : Nat}

theorem moveClass_unmoved (hv : old.keyValid = x.keyValid) (hk : old.key = x.key) : s.moveClass old x f = s := by
  simp [State.moveClass, hv, hk]

theorem moveClass_moved (h : old.keyValid ≠ x.keyValid ∨ old.key ≠ x.key)
    (hv : v = if old.keyValid = true then s.setClass old.key 0 else s) :
    s.moveClass old x f = if x.keyValid = true then v.setClass x.key (2 ^ 31 + f) else v := by
  have hm : (decide (old.keyValid ≠ x.keyValid) || decide (old.key ≠ x.key)) = true := by simpa using h
  subst hv
  simp only [State.moveClass, hm, Bool.true_and]

section
variable (hy : y = { x with valid := true, poisoned := false, sdus := 0, bytes := 0, redDrops := 0, poisonDrops := 0 })
  (hu : u = ((s.setFlow f (y.full us)).memWrite 0 f allBytes).memWrite 3 f allBytes)
include hy hu

theorem createFlow_keyed (hk : y.keyValid = true) : s.createFlow f us x = u.setClass y.key (2 ^ 31 + f) := by
  subst hy hu
  exact if_pos hk

theorem createFlow_unkeyed (hk : y.keyValid = false) : s.createFlow f us x = u := by
  subst hy hu
  exact if_neg (by simpa using hk)

end

theorem disableFlow_kept (s : State) (f : Nat) :
    s.disableFlow f false = (s.setFlow f { s.flowCtx f with enabled := false, valid := true }).memWrite 0 f 8 := rfl

theorem disableFlow_removed (hu : u = (s.setFlow f { s.flowCtx f with enabled := false, valid := false }).memWrite 0 f 8) :
    s.disableFlow f true = if (s.flowCtx f).keyValid = true then u.setClass (s.flowCtx f).key 0 else u := by
  subst hu
  rfl

end

/-! ### The flows of a bulk load (R307) -/

section
variable {s : State} {fn us f n : Nat} {b : List Byte} {l : List (List Byte)}

theorem bulkLoad_cons_refused {r : Nat} (h : flowCheck s fn (min f 0xFFFFF) true (FlowCtx.blank.over b) (imgReservedOk b) = some r) :
    s.bulkLoad fn us f (b :: l) n = (s, n, some r) := by
  rw [State.bulkLoad, h]

theorem bulkLoad_cons_created (h : flowCheck s fn (min f 0xFFFFF) true (FlowCtx.blank.over b) (imgReservedOk b) = none) :
    s.bulkLoad fn us f (b :: l) n = (s.createFlow f us (FlowCtx.blank.over b)).bulkLoad fn us (f + 1) l (n + 1) := by
  rw [State.bulkLoad, h]

/-- The number that a bulk load answers counts up to its first refusal, and to the end of its list where there is none. -/
theorem bulkLoad_count {u : State} {m : Nat} {r : Option Nat} (h : s.bulkLoad fn us f l n = (u, m, r)) :
    n ≤ m ∧ m ≤ n + l.length ∧ (r = none ↔ m = n + l.length) := by
  induction l generalizing s f n with
  | nil =>
    rw [State.bulkLoad] at h
    obtain ⟨-, rfl, rfl⟩ : s = u ∧ n = m ∧ none = r := by simpa using h
    simp
  | cons b l ih =>
    cases hc : flowCheck s fn (min f 0xFFFFF) true (FlowCtx.blank.over b) (imgReservedOk b) with
    | some reason =>
      rw [bulkLoad_cons_refused hc] at h
      obtain ⟨-, rfl, rfl⟩ : s = u ∧ n = m ∧ some reason = r := by simpa using h
      simp
    | none =>
      obtain ⟨hlo, hhi, hend⟩ := ih (bulkLoad_cons_created hc ▸ h)
      rw [List.length_cons, hend]
      omega

end

/-! ### A flow command in its turn (R311, R348, R352) -/

section
variable {s t : State} {iss : Issue} {op0 op1 us f : Nat} {img : List Byte} (hw : waitsInRing s iss = false) (ht : t = s.startCmd iss)
include hw ht

section
variable {ops : List (Nat × Nat)} (hn : Named iss ops) (k : State → State)
include hn

theorem flowCmd_fenced (hb : t.hubFenced 0 = true) : s.flowCmd iss ops k = t.refuse iss 0x1E := by
  subst ht
  obtain ⟨hres, hname⟩ := hn
  rw [State.flowCmd, if_neg (by simp [hw]), if_neg (by simp [hres, hname]), if_pos hb]

theorem flowCmd_runs (hb : t.hubFenced 0 = false) : s.flowCmd iss ops k = k t := by
  subst ht
  obtain ⟨hres, hname⟩ := hn
  rw [State.flowCmd, if_neg (by simp [hw]), if_neg (by simp [hres, hname]), if_neg (ne_true_of_eq_false hb)]

end

section
variable (hn : Named iss [(op0, 0xFFFFF)])
include hn

theorem flowCreate_fenced (hb : t.hubFenced 0 = true) : exec (.flowCreate iss op0 img us) s = .next (t.refuse iss 0x1E) :=
  congrArg Host.Outcome.next (flowCmd_fenced hw ht hn _ hb)

theorem flowModify_fenced (hb : t.hubFenced 0 = true) : exec (.flowModify iss op0 img) s = .next (t.refuse iss 0x1E) :=
  congrArg Host.Outcome.next (flowCmd_fenced hw ht hn _ hb)

theorem flowRead_fenced (hb : t.hubFenced 0 = true) : exec (.flowRead iss op0) s = .next (t.refuse iss 0x1E) :=
  congrArg Host.Outcome.next (flowCmd_fenced hw ht hn _ hb)

end

variable (hb : t.hubFenced 0 = false)
include hb

section
variable (hf : f = bitsOf op0 19 0)
include hf

section
variable (hn : Named iss [(op0, 0xFFFFF)])
include hn

/-! ### FLOW_CREATE (R306) -/

theorem flowCreate_refused {r : Nat} (hc : flowCheck t iss.fn f true (FlowCtx.blank.over img) (imgReservedOk img) = some r) :
    exec (.flowCreate iss op0 img us) s = .next (t.refuse iss r) := by
  subst hf
  refine congrArg Host.Outcome.next ((flowCmd_runs hw ht hn _ hb).trans ?_)
  dsimp only
  rw [hc]

theorem flowCreate_creates (hc : flowCheck t iss.fn f true (FlowCtx.blank.over img) (imgReservedOk img) = none) :
    exec (.flowCreate iss op0 img us) s = .next ((t.createFlow f us (FlowCtx.blank.over img)).succeed iss 0 0) := by
  subst hf
  refine congrArg Host.Outcome.next ((flowCmd_runs hw ht hn _ hb).trans ?_)
  dsimp only
  rw [hc]

/-! ### FLOW_MODIFY (R306) -/

theorem flowModify_refused {r : Nat} (hc : flowCheck t iss.fn f false ((t.flowCtx f).over img) (imgReservedOk img) = some r) :
    exec (.flowModify iss op0 img) s = .next (t.refuse iss r) := by
  subst hf
  refine congrArg Host.Outcome.next ((flowCmd_runs hw ht hn _ hb).trans ?_)
  dsimp only
  rw [hc]

theorem flowModify_modifies {x : FlowCtx} (hc : flowCheck t iss.fn f false ((t.flowCtx f).over img) (imgReservedOk img) = none)
    (hx : x = (t.flowCtx f).over img) : exec (.flowModify iss op0 img) s = .next (
      ((((t.setFlow f x.capped).memWrite 0 f 0xFFFFF).memWrite 3 f 0xF00000FF).moveClass (t.flowCtx f) x f).succeed iss 0 0) := by
  subst hf hx
  refine congrArg Host.Outcome.next ((flowCmd_runs hw ht hn _ hb).trans ?_)
  dsimp only
  rw [hc]
  rfl

/-! ### FLOW_READ (R306, R318) -/

theorem exec_flowRead : exec (.flowRead iss op0) s = .next (
    if f = 0xFFFFF then t.refuse iss 0x14
    else if iss.fn ≠ 0 && (t.flowCtx f).valid && (t.flowCtx f).port ≠ iss.fn - 1 then t.refuse iss 0x17
    else
      let r := if t.hubFenced 1 then t.memRead 0 f else (t.memRead 0 f).lpRead f
      r.answerFlow iss (t.flowCtx f) (memPoison r 0 f) (if t.hubFenced 1 then allBytes else memPoison r 3 f)) := by
  subst hf
  exact congrArg Host.Outcome.next (flowCmd_runs hw ht hn _ hb)

theorem flowRead_reserved (hl : f = 0xFFFFF) : exec (.flowRead iss op0) s = .next (t.refuse iss 0x14) := by
  rw [exec_flowRead hw ht hb hf hn, if_pos hl]

variable (hl : f ≠ 0xFFFFF)
include hl

theorem flowRead_foreign (hfn : iss.fn ≠ 0) (hv : (t.flowCtx f).valid = true) (hp : (t.flowCtx f).port ≠ iss.fn - 1) :
    exec (.flowRead iss op0) s = .next (t.refuse iss 0x17) := by
  rw [exec_flowRead hw ht hb hf hn, if_neg hl, if_pos (by simp [hfn, hv, hp])]

variable {r : State} (ho : iss.fn = 0 ∨ (t.flowCtx f).valid = false ∨ (t.flowCtx f).port = iss.fn - 1)
include ho

theorem flowRead_whole (hm : t.hubFenced 1 = false) (hr : r = (t.memRead 0 f).lpRead f) :
    exec (.flowRead iss op0) s = .next (r.answerFlow iss (t.flowCtx f) (memPoison r 0 f) (memPoison r 3 f)) := by
  rw [exec_flowRead hw ht hb hf hn, if_neg hl, if_neg (by rcases ho with h | h | h <;> simp [h]), hr]
  simp only [hm, Bool.false_eq_true, if_false]

theorem flowRead_hot (hm : t.hubFenced 1 = true) (hr : r = t.memRead 0 f) :
    exec (.flowRead iss op0) s = .next (r.answerFlow iss (t.flowCtx f) (memPoison r 0 f) allBytes) := by
  rw [exec_flowRead hw ht hb hf hn, if_neg hl, if_neg (by rcases ho with h | h | h <;> simp [h]), hr]
  simp only [hm, if_true]

end

/-! ### FLOW_DISABLE (R306) -/

section
variable (hn : Named iss [(op0, 0x800FFFFF)])
include hn

theorem exec_flowDisable : exec (.flowDisable iss op0) s = .next (
    if f = 0xFFFFF then t.refuse iss 0x14
    else if !(t.flowCtx f).valid then t.refuse iss 0x16
    else if iss.fn ≠ 0 && (t.flowCtx f).port ≠ iss.fn - 1 then t.refuse iss 0x17
    else if bitAt op0 31 && t.hubFenced 1 then t.refuse iss 0x1E
    else (t.disableFlow f (bitAt op0 31)).succeed iss 0 0) := by
  subst hf
  exact congrArg Host.Outcome.next (flowCmd_runs hw ht hn _ hb)

theorem flowDisable_reserved (hl : f = 0xFFFFF) : exec (.flowDisable iss op0) s = .next (t.refuse iss 0x14) := by
  rw [exec_flowDisable hw ht hb hf hn, if_pos hl]

variable (hl : f ≠ 0xFFFFF)
include hl

theorem flowDisable_absent (hv : (t.flowCtx f).valid = false) : exec (.flowDisable iss op0) s = .next (t.refuse iss 0x16) := by
  rw [exec_flowDisable hw ht hb hf hn, if_neg hl, if_pos (by simp [hv])]

variable (hv : (t.flowCtx f).valid = true)
include hv

theorem flowDisable_foreign (hfn : iss.fn ≠ 0) (hp : (t.flowCtx f).port ≠ iss.fn - 1) :
    exec (.flowDisable iss op0) s = .next (t.refuse iss 0x17) := by
  rw [exec_flowDisable hw ht hb hf hn, if_neg hl, if_neg (by simp [hv]), if_pos (by simp [hfn, hp])]

variable (ho : iss.fn = 0 ∨ (t.flowCtx f).port = iss.fn - 1)
include ho

/-- A flow that the function may disable: what is left to check is whether its key can be read. -/
theorem exec_flowDisable_own : exec (.flowDisable iss op0) s = .next (
    if bitAt op0 31 && t.hubFenced 1 then t.refuse iss 0x1E else (t.disableFlow f (bitAt op0 31)).succeed iss 0 0) := by
  rw [exec_flowDisable hw ht hb hf hn, if_neg hl, if_neg (by simp [hv]), if_neg (by rcases ho with h | h <;> simp [h])]

theorem flowDisable_keeps (hr : bitAt op0 31 = false) : exec (.flowDisable iss op0) s = .next ((t.disableFlow f false).succeed iss 0 0) := by
  rw [exec_flowDisable_own hw ht hb hf hn hl hv ho, if_neg (by simp [hr]), hr]

variable (hr : bitAt op0 31 = true)
include hr

theorem flowDisable_coldFenced (hm : t.hubFenced 1 = true) : exec (.flowDisable iss op0) s = .next (t.refuse iss 0x1E) := by
  rw [exec_flowDisable_own hw ht hb hf hn hl hv ho, if_pos (by simp [hr, hm])]

theorem flowDisable_removes (hm : t.hubFenced 1 = false) :
    exec (.flowDisable iss op0) s = .next ((t.disableFlow f true).succeed iss 0 0) := by
  rw [exec_flowDisable_own hw ht hb hf hn hl hv ho, if_neg (by simp [hm]), hr]

end

end

/-! ### FLOW_BULK_LOAD (R307) -/

section
variable (hn : Named iss [(op0, 0xFFFFF), (op1, 0x3FF)])
include hn

theorem flowBulkLoad_none (hz : bitsOf op1 9 0 = 0) : exec (.flowBulkLoad iss op0 op1 img us) s = .next (t.refuse iss 0x10) :=
  congrArg Host.Outcome.next ((flowCmd_runs hw ht hn _ hb).trans (if_pos hz))

variable (hz : bitsOf op1 9 0 ≠ 0)
include hz

theorem flowBulkLoad_badLength (hlen : img.length ≠ 64 * bitsOf op1 9 0) :
    exec (.flowBulkLoad iss op0 op1 img us) s = .next (t.refuse iss 0x1D) :=
  congrArg Host.Outcome.next ((flowCmd_runs hw ht hn _ hb).trans ((if_neg hz).trans (if_pos hlen)))

variable {l : List (List Byte)} {u : State} {n : Nat} (hf : f = bitsOf op0 19 0) (hlen : img.length = 64 * bitsOf op1 9 0)
  (hl : l = (List.range (bitsOf op1 9 0)).map (fun i => (img.drop (64 * i)).take 64))
include hf hlen hl

theorem flowBulkLoad_whole (hload : t.bulkLoad iss.fn us f l 0 = (u, n, none)) :
    exec (.flowBulkLoad iss op0 op1 img us) s = .next (u.succeed iss n 0) := by
  subst hf hl
  refine congrArg Host.Outcome.next ((flowCmd_runs hw ht hn _ hb).trans ((if_neg hz).trans ((if_neg (not_not_intro hlen)).trans ?_)))
  dsimp only
  rw [hload]

theorem flowBulkLoad_upTo {r : Nat} (hload : t.bulkLoad iss.fn us f l 0 = (u, n, some r)) :
    exec (.flowBulkLoad iss op0 op1 img us) s = .next ((u.pulse 0x1102 0).succeed iss n r) := by
  subst hf hl
  refine congrArg Host.Outcome.next ((flowCmd_runs hw ht hn _ hb).trans ((if_neg hz).trans ((if_neg (not_not_intro hlen)).trans ?_)))
  dsimp only
  rw [hload]

end

end

/-- Settles O41: command by command, by the first row of Table 11-2 that is broken. -/
theorem flowCommandsFollowTheirChecks : Obligations.FlowCommandsFollowTheirChecks := by
  unfold Obligations.FlowCommandsFollowTheirChecks
  intro s t iss op0 op1 us f img hw ht hf
  refine ⟨fun hb hn => ⟨flowCreate_fenced hw ht hn hb, flowModify_fenced hw ht hn hb, flowRead_fenced hw ht hn hb⟩,
    fun hb hn => ⟨fun r hc => flowCreate_refused hw ht hb hf hn hc, fun x hc hx u hu => ?create,
      fun r hc => flowModify_refused hw ht hb hf hn hc, fun x y u v hc hx hy hu => ?modify,
      flowRead_reserved hw ht hb hf hn, flowRead_foreign hw ht hb hf hn, fun hl ho => ⟨fun hm r hr => flowRead_whole hw ht hb hf hn hl ho hm hr,
        fun hm r hr => ?hot⟩⟩,
    fun hb hn => ⟨flowDisable_reserved hw ht hb hf hn, flowDisable_absent hw ht hb hf hn, flowDisable_foreign hw ht hb hf hn,
      fun hl hv ho => ⟨flowDisable_keeps hw ht hb hf hn hl hv ho, flowDisable_coldFenced hw ht hb hf hn hl hv ho, fun u hr hm hu => ?removed⟩⟩,
    fun hb hn => ⟨flowBulkLoad_none hw ht hb hn, flowBulkLoad_badLength hw ht hb hn, fun u n hz hlen =>
      ⟨flowBulkLoad_whole hw ht hb hn hz hf hlen rfl, fun r => flowBulkLoad_upTo hw ht hb hn hz hf hlen rfl⟩⟩,
    fun l n g u m r => bulkLoad_count⟩
  case create =>
    have hexec := flowCreate_creates (us := us) hw ht hb hf hn hc
    exact ⟨fun hk => by rw [hexec, createFlow_keyed hx hu hk], fun hk => by rw [hexec, createFlow_unkeyed hx hu hk]⟩
  case modify =>
    subst hy
    have hexec := flowModify_modifies hw ht hb hf hn hc hx
    rw [FlowCtx.capped, ← hu] at hexec
    exact ⟨fun hv hk => by rw [hexec, moveClass_unmoved hv hk], fun hmoved hv => by rw [hexec, moveClass_moved hmoved hv]⟩
  case hot =>
    have hpoison : (decide (memPoison r 0 f ≠ 0) || decide (allBytes ≠ 0)) = true := by simp [allBytes]
    rw [flowRead_hot hw ht hb hf hn hl ho hm hr, State.answerFlow, hpoison]
  case removed =>
    rw [flowDisable_removes hw ht hb hf hn hl hv ho hr hm, disableFlow_removed hu]

end Sys2Proof.Machine
end

section
/-!
What the operations of chapter 12 can change: records of the log, tracker entries, the errors of a word that is read.
-/
namespace Sys2Proof.Machine

section
variable {s t u : State}

/-! ### Records, substitutions and fences -/

/-- From `s` to `t` the Bittern has been written: its log and its sequence may differ, and registers, event state and counters. -/
def Logged (s t : State) : Prop := ∃ r e c l n, t =
  { s with regs := r, ev := e, ctr := c, mem := { s.mem with bittern := l, btnSeq := n } }

theorem Logged.pulse (h : Logged s t) (id info : Nat) : Logged s (t.pulse id info) := by
  obtain ⟨r, e, c, hp⟩ := pulse_shape t id info
  obtain ⟨_, _, _, l, n, rfl⟩ := h
  exact ⟨r, e, c, l, n, hp⟩

/-- A record that is written, or lost while the log is full (R332). -/
theorem bittern_logged (s : State) (kind space w consumer : Nat) : Logged s (s.bittern kind space w consumer) := by
  unfold State.bittern
  dsimp only
  generalize (s.mem.btnSeq + 1) % 2 ^ 16 = n
  generalize (n + 2 ^ 16 - 1) % 2 ^ 16 = q
  split
  · split
    · exact Logged.pulse ⟨_, _, _, _, _, rfl⟩ _ _
    · exact ⟨_, _, _, _, _, rfl⟩
  · exact ⟨_, _, _, _, _, rfl⟩

/-- A substitution changes what the repair-map delta holds, beside registers, event state and counters (R498). -/
theorem appendDelta_shape (s : State) (cls scope unit : Nat) :
    ∃ r e c x, s.appendDelta cls scope unit = { s with regs := r, ev := e, ctr := c, rst := x } := by
  unfold State.appendDelta
  extract_lets entry _ inForce
  split
  · exact ⟨_, _, _, _, rfl⟩
  · obtain ⟨r, e, c, h⟩ := pulse_shape inForce 0x1003 0
    exact ⟨r, e, c, _, h⟩

/-- From `s` to `t` the device has looked after its memories: trackers, log and scrub passes may differ, and registers, event state and
counters; what the memories hold does not. -/
def Tended (s t : State) : Prop := ∃ r e c k l n x, t =
  { s with regs := r, ev := e, ctr := c, mem := { s.mem with trk := k, bittern := l, btnSeq := n, scrubs := x } }

theorem Tended.refl (s : State) : Tended s s := ⟨_, _, _, _, _, _, _, rfl⟩

theorem Tended.trans (h : Tended s t) (k : Tended t u) : Tended s u := by
  obtain ⟨_, _, _, _, _, _, _, rfl⟩ := h
  obtain ⟨_, _, _, _, _, _, _, rfl⟩ := k
  exact ⟨_, _, _, _, _, _, _, rfl⟩

theorem Tended.bumpBy (h : Tended s t) (i n : Nat) : Tended s (t.bumpBy i n) :=
  h.trans ⟨_, _, _, _, _, _, _, rfl⟩

theorem Tended.bump (h : Tended s t) (i : Nat) : Tended s (t.bump i) := h.bumpBy i 1

theorem Tended.setTrk (h : Tended s t) (key : Nat) (e : TrkEntry) : Tended s (t.setTrk key e) :=
  h.trans ⟨_, _, _, _, _, _, _, rfl⟩

theorem Tended.freeTrk (h : Tended s t) (key : Nat) : Tended s (t.freeTrk key) := h.trans ⟨_, _, _, _, _, _, _, rfl⟩

theorem Tended.pulse (h : Tended s t) (id info : Nat) : Tended s (t.pulse id info) := by
  obtain ⟨r, e, c, hp⟩ := pulse_shape t id info
  exact h.trans ⟨r, e, c, _, _, _, _, hp⟩

theorem Tended.level (h : Tended s t) (id : Nat) (b : Bool) (info : Nat) : Tended s (t.level id b info) := by
  obtain ⟨r, e, c, hl⟩ := level_shape t id b info
  exact h.trans ⟨r, e, c, _, _, _, _, hl⟩

theorem Tended.bittern (h : Tended s t) (kind space w consumer : Nat) : Tended s (t.bittern kind space w consumer) := by
  obtain ⟨r, e, c, l, n, hb⟩ := bittern_logged t kind space w consumer
  exact h.trans ⟨r, e, c, _, l, n, _, hb⟩

theorem Tended.setFld (h : Tended s t) (f : RegField) (v : Nat) : Tended s (t.setFld f v) := h.trans ⟨_, _, _, _, _, _, _, rfl⟩

/-- A fence of a hub region truncates scrub passes (R331). -/
theorem Tended.fenceHub (h : Tended s t) (b : Nat) : Tended s (t.fenceHub b) := by
  unfold State.fenceHub
  dsimp only
  split
  · exact ((h.setFld _ _).level _ _ _).trans ⟨_, _, _, _, _, _, _, rfl⟩
  · exact (h.setFld _ _).level _ _ _

theorem Tended.consumePoison (h : Tended s t) (space w consumer : Nat) : Tended s (t.consumePoison space w consumer) :=
  ((h.bittern 2 space w consumer).bump _).pulse _ _

/-- A correction touches its word's tracker entry, or counts that no entry is free (R325). -/
theorem Tended.trackCorrection (h : Tended s t) (space w bytes : Nat) : Tended s (t.trackCorrection space w bytes) := by
  unfold State.trackCorrection
  dsimp only
  split
  · exact h
  · split
    · split
      · exact h.setTrk _ _
      · exact h.setTrk _ _
      · exact h.setTrk _ _
      · exact h
    · split
      · exact h.setTrk _ _
      · exact (h.bump _).pulse _ _

/-! ### Reads (R314 to R317, R319) -/

/-- A read alters no more than the errors of the word read. -/
def ReadOf (space w : Nat) (s t : State) : Prop := Tended s t ∨ ∃ e, Tended (s.setWordErr space w e) t

theorem ReadOf.tended {space w : Nat} (h : ReadOf space w s t) (k : Tended t u) : ReadOf space w s u := by
  rcases h with h | ⟨e, h⟩
  · exact .inl (h.trans k)
  · exact .inr ⟨e, h.trans k⟩

theorem readStored_readOf (s : State) (space w : Nat) : ReadOf space w s (s.readStored space w) := by
  unfold State.readStored
  extract_lets e _ c converted one
  split
  · split
    · exact .inl (.refl s)
    · split
      · exact .inl (((Tended.refl s).bump _).trackCorrection _ _ _)
      · exact .inr ⟨_, ((Tended.refl _).bump _).bittern _ _ _ _⟩
  · have hc : ReadOf space w s converted := by
      unfold converted
      split
      · exact .inl (.refl s)
      · exact .inr ⟨_, List.foldlRecOn _ _ ((Tended.refl _).bumpBy _ _) (fun t ht _ _ => ht.bittern _ _ _ _)⟩
    split
    · exact hc
    · exact hc.tended (((Tended.refl converted).bumpBy _ _).trackCorrection _ _ _)

/-- The use of a structure of the hub reads its word, and may fence its region. -/
theorem useHub_readOf (s : State) (kind i : Nat) : ReadOf 0 (tableWord kind i) s (s.useHub kind i) := by
  unfold State.useHub
  extract_lets w control bad read
  have hr : ReadOf 0 w s read := readStored_readOf s 0 w
  split
  · exact hr.tended (((Tended.refl read).consumePoison _ _ _).fenceHub _)
  · exact hr

end

end Sys2Proof.Machine
end

section
/-!
Repeat trackers and hard faults (R325 to R328).
-/
namespace Sys2Proof.Machine

@[simp] theorem wordErr_setWordErr (s : State) (space w : Nat) (e : WordErr) : (s.setWordErr space w e).wordErr space w = e :=
  Tab.get_set_same _ _ _ _

/-! ### Hard faults (R327, R328) -/

section
variable {s : State} {space w : Nat}

/-- MEM_REMAP_FREE follows the taking of a remap word of a bank. -/
def State.countRemap (m : State) (bank : Nat) : State :=
  let counted := m.setFld R.MEM_REMAP_FREE.free_words (m.fld R.MEM_REMAP_FREE.free_words - 1)
  if (freeRemap counted bank).isNone then counted.addFldSat R.MEM_REMAP_FREE.full_banks 1 else counted

theorem countRemap_shape (m : State) (bank : Nat) : ∃ r, m.countRemap bank = { m with regs := r } := by
  unfold State.countRemap
  dsimp only
  split <;> exact ⟨_, rfl⟩

/-- Word `w` of the hub SRAM stands in remap entry `i` of its bank, corrected (R327). -/
def State.moveWord (m : State) (w i : Nat) : State :=
  let moved := ({ m with mem := { m.mem with remap := Tab.put m.mem.remap (w / 8192 * 8 + i) (w % 8192) } } : State).countRemap (w / 8192)
  moved.setWordErr 0 w { moved.wordErr 0 w with single := 0 }

theorem moveWord_shape (m : State) (w i : Nat) : ∃ r, m.moveWord w i = { m with regs := r, mem := { m.mem with
    remap := Tab.put m.mem.remap (w / 8192 * 8 + i) (w % 8192),
    errs := (m.setWordErr 0 w { m.wordErr 0 w with single := 0 }).mem.errs } } := by
  unfold State.moveWord
  obtain ⟨r, h⟩ := countRemap_shape
    { m with mem := { m.mem with remap := Tab.put m.mem.remap (w / 8192 * 8 + i) (w % 8192) } } (w / 8192)
  rw [h]
  exact ⟨r, rfl⟩

section
variable {m : State}

theorem hardFault_of_free {i : Nat} (hm : m = s.useHub 3 (w / 8192)) (hi : freeRemap m (w / 8192) = some i) :
    s.hardFault 0 w = (((((m.moveWord w i).appendDelta 5 (w / 8192) (w % 8192)).bittern 3 0 w 0).pulse 0x1201 0).bump 0x3808).freeTrk
      (wordKey 0 w) := by
  subst hm
  unfold State.hardFault
  dsimp only
  rw [if_pos rfl, if_pos rfl, hi]
  rfl

theorem hardFault_of_full {x : State} (hm : m = if space = 0 then s.useHub 3 (w / 8192) else s)
    (hn : space ≠ 0 ∨ freeRemap m (w / 8192) = none)
    (hx : x = ((((m.setFld R.MEM_WARN.warn (withBit (m.fld R.MEM_WARN.warn) (wordRegion space w) true)).bittern 4 space w 0).pulse
      0x1202 0).bump 0x3809).freeTrk (wordKey space w)) :
    s.hardFault space w = { x with mem := { x.mem with untracked := wordKey space w :: x.mem.untracked } } := by
  have hfree : (if space = 0 then freeRemap m (w / 8192) else none) = none := by
    rcases hn with h | h
    · exact if_neg h
    · rw [h, ite_self]
  subst hx
  unfold State.hardFault
  dsimp only
  rw [← hm, hfree]

/-- A hard fault that takes a free remap word: the word stands there without single errors, and its entry is freed. -/
theorem hardFault_remapped {i : Nat} (hm : m = s.useHub 3 (w / 8192)) (hi : freeRemap m (w / 8192) = some i) :
    ∃ r e c x l n, s.hardFault 0 w = { m with regs := r, ev := e, ctr := c, rst := x, mem := { m.mem with
      remap := Tab.put m.mem.remap (w / 8192 * 8 + i) (w % 8192),
      errs := (m.setWordErr 0 w { m.wordErr 0 w with single := 0 }).mem.errs,
      trk := Tab.del m.mem.trk (wordKey 0 w), bittern := l, btnSeq := n } } := by
  rw [hardFault_of_free hm hi]
  obtain ⟨_, hw⟩ := moveWord_shape m w i
  obtain ⟨_, _, _, x, hd⟩ := appendDelta_shape (m.moveWord w i) 5 (w / 8192) (w % 8192)
  obtain ⟨_, _, _, l, n, hb⟩ := bittern_logged ((m.moveWord w i).appendDelta 5 (w / 8192) (w % 8192)) 3 0 w 0
  obtain ⟨r, e, c, hp⟩ := pulse_shape (((m.moveWord w i).appendDelta 5 (w / 8192) (w % 8192)).bittern 3 0 w 0) 0x1201 0
  rw [hp, hb, hd, hw]
  exact ⟨r, e, _, x, l, n, rfl⟩

/-- A hard fault without a remap word: its entry is freed, the word is tracked no longer, and no memory changes. -/
theorem hardFault_recorded (hm : m = if space = 0 then s.useHub 3 (w / 8192) else s)
    (hn : space ≠ 0 ∨ freeRemap m (w / 8192) = none) :
    ∃ r e c l n, s.hardFault space w = { m with regs := r, ev := e, ctr := c, mem := { m.mem with
      trk := Tab.del m.mem.trk (wordKey space w), untracked := wordKey space w :: m.mem.untracked, bittern := l, btnSeq := n } } := by
  rw [hardFault_of_full hm hn rfl]
  generalize hw : m.setFld R.MEM_WARN.warn (withBit (m.fld R.MEM_WARN.warn) (wordRegion space w) true) = warned
  obtain ⟨_, _, _, l, n, hb⟩ := bittern_logged warned 4 space w 0
  obtain ⟨r, e, c, hp⟩ := pulse_shape (warned.bittern 4 space w 0) 0x1202 0
  rw [hp, hb, ← hw]
  exact ⟨r, e, _, l, n, rfl⟩

end

end

/-! ### The commands -/

section
variable {s : State} {space w concurrent : Nat} {t : TrkEntry} (ht : Tab.find s.mem.trk (wordKey space w) = some t)
include ht

theorem exec_demandScrub {m : State} {e : WordErr} (hm : m = s.memRead space w) (he : e = m.wordErr space w) :
    exec (.demandScrub space w concurrent) s = .next (
      if t.stage = .ordered && s.flag R.MEM_CTRL.trk_en then
        (((if correctable space e &&& concurrent = 0 then m else m.bump 0x380F).setWordErr space w (corrected space e concurrent)).bump
          0x3807).setTrk (wordKey space w) { t with stage := .watching, bytes := correctable space e }
      else s) := by
  subst he hm
  refine congrArg Host.Outcome.next ?_
  rw [ht]

theorem exec_trackerWindowExpired : exec (.trackerWindowExpired space w) s = .next (
    if t.stage = .counting && s.flag R.MEM_CTRL.trk_en then s.freeTrk (wordKey space w) else s) := by
  refine congrArg Host.Outcome.next ?_
  rw [ht]

theorem exec_watchExpired : exec (.watchExpired space w) s = .next (
    if t.stage = .watching && s.flag R.MEM_CTRL.trk_en then s.freeTrk (wordKey space w) else s) := by
  refine congrArg Host.Outcome.next ?_
  rw [ht]

theorem exec_hardFault : exec (.hardFault space w) s = .next (
    if (t.stage = .watching || t.stage = .hard) && s.flag R.MEM_CTRL.trk_en then s.hardFault space w else s) := by
  refine congrArg Host.Outcome.next ?_
  rw [ht]

end

/-- What a hard fault leaves, whether its word is remapped or recorded. -/
theorem hardFault_leaves {s m : State} {space w : Nat} (hm : m = if space = 0 then s.useHub 3 (w / 8192) else s) :
    Tab.find (s.hardFault space w).mem.trk (wordKey space w) = none ∧
    (∀ k, k ≠ wordKey space w → Tab.find (s.hardFault space w).mem.trk k = Tab.find m.mem.trk k) ∧
    (∀ i, space = 0 → freeRemap m (w / 8192) = some i →
      Tab.find (s.hardFault space w).mem.remap (w / 8192 * 8 + i) = some (w % 8192) ∧
      ((s.hardFault space w).wordErr space w).single = 0 ∧ (s.hardFault space w).mem.untracked = m.mem.untracked) ∧
    (space ≠ 0 ∨ freeRemap m (w / 8192) = none →
      (s.hardFault space w).mem.remap = m.mem.remap ∧ wordKey space w ∈ (s.hardFault space w).mem.untracked ∧
      (s.hardFault space w).mem.errs = m.mem.errs ∧ (s.hardFault space w).rst = m.rst) := by
  by_cases hn : space ≠ 0 ∨ freeRemap m (w / 8192) = none
  · obtain ⟨_, _, _, _, _, h⟩ := hardFault_recorded hm hn
    rw [h]
    refine ⟨Tab.find_del_same _ _, fun k => Tab.find_del_other _, fun i h0 hi => ?_, fun _ => ⟨rfl, List.mem_cons_self, rfl, rfl⟩⟩
    simp [h0, hi] at hn
  · obtain ⟨rfl, hf⟩ : space = 0 ∧ freeRemap m (w / 8192) ≠ none := by simpa using hn
    obtain ⟨i, hi⟩ := Option.ne_none_iff_exists'.mp hf
    obtain ⟨_, _, _, _, _, _, h⟩ := hardFault_remapped hm hi
    rw [h]
    refine ⟨Tab.find_del_same _ _, fun k => Tab.find_del_other _, fun j _ hj => ?_, fun h => absurd h hn⟩
    obtain rfl : i = j := Option.some.inj (hi.symm.trans hj)
    exact ⟨Tab.find_put_same _ _ _, congrArg WordErr.single (wordErr_setWordErr m 0 w _), rfl⟩

/-- Settles O26: each command by the stage of its word's entry; a hard fault by whether its bank has a free remap word. -/
theorem repeatTrackersAndHardFaults : Obligations.RepeatTrackersAndHardFaults := by
  unfold Obligations.RepeatTrackersAndHardFaults
  intro s space w concurrent t ht
  have hscrub := exec_demandScrub (concurrent := concurrent) ht rfl rfl
  have hwindow := exec_trackerWindowExpired ht
  have hwatch := exec_watchExpired ht
  have hfault := exec_hardFault ht
  refine ⟨fun hoff => ?off, fun hon => ⟨fun hs => ?scrubs, fun hs => ?window, fun hs => ?watch, fun hs => ?faults⟩,
    fun hs => ?noWindow, fun hs => ?noWatch, fun hs => ?noScrub, fun hs => ?noFault⟩
  case off =>
    simp only [hoff, Bool.and_false, Bool.false_eq_true, if_false] at hscrub hwindow hwatch hfault
    exact ⟨hscrub, hwindow, hwatch, hfault⟩
  case scrubs =>
    rw [if_pos (by simp [hs, hon])] at hscrub
    exact ⟨_, _, _, _, rfl, rfl, rfl, rfl, hscrub⟩
  case window => rw [hwindow, if_pos (by simp [hs, hon]), State.freeTrk]
  case watch => rw [hwatch, if_pos (by simp [hs, hon]), State.freeTrk]
  case faults =>
    rw [if_pos (by simp [hs, hon])] at hfault
    exact ⟨_, _, rfl, hfault, hardFault_leaves rfl⟩
  case noWindow => rw [hwindow, if_neg (by simp [hs])]
  case noWatch => rw [hwatch, if_neg (by simp [hs])]
  case noScrub => rw [hscrub, if_neg (by simp [hs])]
  case noFault => rw [hfault, if_neg (by rcases hs with h | h <;> simp [h])]

end Sys2Proof.Machine
end

section
/-!
Scrub passes and injected errors (R316, R330, R331).
-/
namespace Sys2Proof.Machine

/-- A scrub pass begins in a space: it is recorded, and MEM_SCRUB_STATUS shows it. -/
def State.startScrub (s : State) (space : Nat) (sc : Scrub) : State :=
  ({ s with mem := { s.mem with scrubs := Tab.put s.mem.scrubs space sc } } : State).setFld R.MEM_SCRUB_STATUS.active
    (withBit (s.fld R.MEM_SCRUB_STATUS.active) space true)

/-- The pass of a space ends, with the write-backs that gave way to a write. -/
def State.endScrub (s : State) (space narrowed : Nat) : State :=
  ({ s.bumpBy 0x380F narrowed with mem := { s.mem with scrubs := Tab.del s.mem.scrubs space } } : State).setFld
    R.MEM_SCRUB_STATUS.active (withBit (s.fld R.MEM_SCRUB_STATUS.active) space false)

/-- The keys of the words with errors that a pass reads: `n` words of a space from `w` on, those of untouched blocks left out (R330). -/
def erroredKeys (s : State) (space w n : Nat) : List Nat :=
  (s.mem.errs.map (fun e => e.1)).filter
    (fun k => k / 2 ^ 31 = space && decide (w ≤ k % 2 ^ 31) && decide (k % 2 ^ 31 < w + n)
      && (space ≠ 3 || Tab.get (fun _ => false) s.mem.touched (k % 2 ^ 31 / 2048)))

/-- The state after a pass has worked on its words, and its counts of words corrected, uncorrectable and remapped. -/
def scrubbed (s : State) (space w n : Nat) : State × Nat × Nat × Nat :=
  (erroredKeys s space w n).foldl (fun a k => scrubWord space a (k % 2 ^ 31)) (s, 0, 0, 0)

/-- The errors of a word into whose bytes `y` an error of a kind is injected (MEM_INJECT_0). -/
def WordErr.injected (x : WordErr) (space kind y : Nat) : WordErr :=
  match kind with
  | 0 => if x.single &&& y = 0 then { x with single := x.single ||| y }
    else { x with single := bitsMinus x.single y, double := x.double ||| y }
  | 1 => { x with
    single := bitsMinus x.single y, double := x.double ||| y, poison := if space = 3 then x.poison else bitsMinus x.poison y }
  | _ => if space = 3 then { WordErr.none with poison := allBytes }
    else { x with single := bitsMinus x.single y, double := bitsMinus x.double y, poison := x.poison ||| y }

/-! ### MEM_SCRUB (R330, R331) -/

theorem find_startScrub (s : State) (space : Nat) (sc : Scrub) : Tab.find (s.startScrub space sc).mem.scrubs space = some sc :=
  Tab.find_put_same _ _ _

theorem find_startScrub_other (s : State) {space k : Nat} (h : k ≠ space) (sc : Scrub) :
    Tab.find (s.startScrub space sc).mem.scrubs k = Tab.find s.mem.scrubs k := Tab.find_put_other _ h _

theorem active_startScrub (s : State) (space : Nat) (sc : Scrub) : (s.startScrub space sc).fld R.MEM_SCRUB_STATUS.active =
    withBit (s.fld R.MEM_SCRUB_STATUS.active) space true % 2 ^ (R.MEM_SCRUB_STATUS.active.hi + 1 - R.MEM_SCRUB_STATUS.active.lo) :=
  State.fld_setFld _ ⟨by decide, by decide⟩ _

section
variable {s : State} {iss : Issue} {op0 op1 op2 op3 : Nat} (h : HubStarts s iss [(op0, 0xF), (op3, 0x7FFFFFFF)])
include h

theorem exec_memScrub : exec (.memScrub iss op0 op1 op2 op3) s = .next (
    if badRange (bitsOf op0 3 0) (op1 + op2 * 2 ^ 32) (bitsOf op3 30 0) then (s.startCmd iss).refuse iss 0x21
    else if (Tab.find s.mem.scrubs (bitsOf op0 3 0)).isSome then (s.startCmd iss).refuse iss 0x22
    else if bitsOf op0 3 0 = 3 && s.hubFenced 1 then (s.startCmd iss).refuse iss 0x1E
    else (s.startCmd iss).startScrub (bitsOf op0 3 0)
      { iss := iss, start := op1 + op2 * 2 ^ 32, words := bitsOf op3 30 0, truncated := false }) :=
  congrArg Host.Outcome.next (pf0Cmd_of_starts h _)

theorem memScrub_badRange (hb : badRange (bitsOf op0 3 0) (op1 + op2 * 2 ^ 32) (bitsOf op3 30 0) = true) :
    exec (.memScrub iss op0 op1 op2 op3) s = .next ((s.startCmd iss).refuse iss 0x21) := by
  rw [exec_memScrub h, if_pos hb]

variable (hb : badRange (bitsOf op0 3 0) (op1 + op2 * 2 ^ 32) (bitsOf op3 30 0) = false)
include hb

theorem memScrub_second (hs : Tab.find s.mem.scrubs (bitsOf op0 3 0) ≠ none) :
    exec (.memScrub iss op0 op1 op2 op3) s = .next ((s.startCmd iss).refuse iss 0x22) := by
  rw [exec_memScrub h, if_neg (ne_true_of_eq_false hb), if_pos (Option.isSome_iff_ne_none.mpr hs)]

theorem memScrub_starts (hs : Tab.find s.mem.scrubs (bitsOf op0 3 0) = none) (hf : bitsOf op0 3 0 = 3 → s.hubFenced 1 = false) :
    exec (.memScrub iss op0 op1 op2 op3) s = .next ((s.startCmd iss).startScrub (bitsOf op0 3 0)
      { iss := iss, start := op1 + op2 * 2 ^ 32, words := bitsOf op3 30 0, truncated := false }) := by
  rw [exec_memScrub h, if_neg (ne_true_of_eq_false hb), if_neg (by simp [hs]), if_neg (by simpa using hf)]

end

/-! ### MEM_SCRUB_DONE (R331) -/

section
variable {s : State} {space checked narrowed n : Nat} {sc : Scrub}

theorem memScrubDone_idle (h : Tab.find s.mem.scrubs space = none) : exec (.memScrubDone space checked narrowed) s = .next s := by
  refine congrArg Host.Outcome.next ?_
  rw [h]

theorem memScrubDone_ends (h : Tab.find s.mem.scrubs space = some sc) (hn : n = if sc.truncated then min checked sc.words else sc.words)
    {x : State} {corr unc rem : Nat} (hx : scrubbed s space (sc.start / 32) n = (x, corr, unc, rem)) :
    exec (.memScrubDone space checked narrowed) s = .next (((x.endScrub space narrowed).toHost sc.iss.fn (.buffer sc.iss.fn sc.iss.tag
      (leBytes 4 n ++ leBytes 4 corr ++ leBytes 4 (unc + if space = 3 then untouchedWords s (sc.start / 32) n else 0)
        ++ leBytes 4 rem))).succeed sc.iss (bit01 sc.truncated) 0) := by
  subst hn
  unfold scrubbed erroredKeys at hx
  refine congrArg Host.Outcome.next ?_
  rw [h]
  dsimp only
  rw [hx]
  rfl

theorem scrubbed_of_clean {w : Nat} (h : s.mem.errs = []) : scrubbed s space w n = (s, 0, 0, 0) := by
  simp [scrubbed, erroredKeys, h]

end

/-! ### MEM_INJECT (R316, log entry 41) -/

section
variable {s : State} {src v : Nat} {x : WordErr} {y : Nat} (h : Reaches s src R.MEM_INJECT_0.addr)
include h

theorem exec_memInject (hx : x = s.wordErr (bitsOf v 25 24) (s.fld R.MEM_INJECT_1.address)) (hy : y = 2 ^ bitsOf v 4 0) :
    exec (.memInject src v) s = .next (
      if !bitAt v 31 || spaceWords (bitsOf v 25 24) ≤ s.fld R.MEM_INJECT_1.address then s
      else if bitsOf v 27 26 = 0 && bitsOf v 25 24 ≠ 3 && x.poison &&& y ≠ 0 || bitsOf v 27 26 = 3 then s
      else s.setWordErr (bitsOf v 25 24) (s.fld R.MEM_INJECT_1.address) (x.injected (bitsOf v 25 24) (bitsOf v 27 26) y)) := by
  subst hx hy
  refine congrArg Host.Outcome.next ((accessed_of_reaches h _).trans ?_)
  dsimp only
  have hk : bitsOf v 27 26 < 4 := Nat.mod_lt _ (by decide)
  generalize bitsOf v 27 26 = kind at hk
  refine if_congr Iff.rfl rfl ?_
  match kind, hk with
  | 0, _ => exact if_congr (by simp) rfl (apply_ite (s.setWordErr _ _) _ _ _).symm
  | 1, _ => rfl
  | 2, _ => rfl
  | 3, _ => rfl

theorem memInject_outside (hg : bitAt v 31 = false ∨ spaceWords (bitsOf v 25 24) ≤ s.fld R.MEM_INJECT_1.address) :
    exec (.memInject src v) s = .next s := by
  rw [exec_memInject h rfl rfl, if_pos (by rcases hg with hg | hg <;> simp [hg])]

variable (hg : bitAt v 31 = true) (hw : s.fld R.MEM_INJECT_1.address < spaceWords (bitsOf v 25 24))
  (hx : x = s.wordErr (bitsOf v 25 24) (s.fld R.MEM_INJECT_1.address)) (hy : y = 2 ^ bitsOf v 4 0)
include hg hw hx hy

theorem memInject_poisoned (hk : bitsOf v 27 26 = 0) (hs : bitsOf v 25 24 ≠ 3) (hp : x.poison &&& y ≠ 0) :
    exec (.memInject src v) s = .next s := by
  rw [exec_memInject h hx hy, if_neg (by simp [hg, hw]), if_pos (by simp [hk, hs, hp])]

theorem memInject_alters (hp : bitsOf v 27 26 ≠ 0 ∨ bitsOf v 25 24 = 3 ∨ x.poison &&& y = 0) (hk : bitsOf v 27 26 ≠ 3) :
    exec (.memInject src v) s = .next (s.setWordErr (bitsOf v 25 24) (s.fld R.MEM_INJECT_1.address)
      (x.injected (bitsOf v 25 24) (bitsOf v 27 26) y)) := by
  rw [exec_memInject h hx hy, if_neg (by simp [hg, hw]), if_neg]
  rcases hp with hp | hp | hp <;> simp [hk, hp]

end

/-- Settles O27: MEM_SCRUB by its first check that fails, MEM_SCRUB_DONE by the pass of its space, MEM_INJECT by the kind of its error. -/
theorem scrubsAndInjections : Obligations.ScrubsAndInjections := by
  unfold Obligations.ScrubsAndInjections
  intro s iss op0 op1 op2 op3 src v space checked narrowed
  refine ⟨fun h => ⟨memScrub_badRange h, memScrub_second h, fun hb hs hf => ?starts⟩, memScrubDone_idle, fun sc n hsc hn => ?ends,
    fun h => ⟨memInject_outside h, fun hg hw x y hx hy => ?injects⟩⟩
  case starts =>
    exact ⟨_, memScrub_starts h hb hs hf, find_startScrub _ _ _, fun k hk => find_startScrub_other _ hk _, active_startScrub _ _ _, rfl⟩
  case ends =>
    obtain ⟨⟨x, corr, unc, rem⟩, hx⟩ : ∃ a, scrubbed s space (sc.start / 32) n = a := ⟨_, rfl⟩
    refine ⟨_, _, _, _, memScrubDone_ends hsc hn hx, Tab.find_del_same _ _, fun hclean hall => ?_⟩
    obtain ⟨rfl, rfl, rfl, rfl⟩ : s = x ∧ 0 = corr ∧ 0 = unc ∧ 0 = rem := by simpa [scrubbed_of_clean hclean] using hx
    exact ⟨rfl, by simpa using hall, rfl, rfl⟩
  case injects =>
    refine ⟨x.injected (bitsOf v 25 24) (bitsOf v 27 26) y, memInject_alters h hg hw hx hy, memInject_poisoned h hg hw hx hy,
      fun hk _ hs => ?single, fun hk => ?double, fun hk hs => ?poisonWord, fun hk hs => ?poisonByte⟩
    case single => rw [hk, WordErr.injected, if_pos hs]
    case double => rw [hk, WordErr.injected]
    case poisonWord =>
      rw [hk, hs]
      rfl
    case poisonByte =>
      rw [hk]
      exact if_neg hs

end Sys2Proof.Machine
end

section
/-!
Fills of LPDDR6, and the reads of the Bittern and of the remap tables (R321, R332, R333).
-/
namespace Sys2Proof.Machine

/-! ### Touched blocks (R320) -/

/-- The touch bit of a block. -/
def State.isTouched (s : State) (b : Nat) : Bool := Tab.get (fun _ => false) s.mem.touched b

/-- From `s` to `t` blocks of LPDDR6 have been touched: fills wait as before, a touched block stays touched, and errors stand as before
but for those of the touch map's own words and of blocks that were untouched. -/
structure Touches (s t : State) : Prop where
  filling : t.mem.filling = s.mem.filling
  touched : ∀ b, s.isTouched b = true → t.isTouched b = true
  errs : ∀ e ∈ s.mem.errs, (∀ b, e.1 ≠ wordKey 0 (tableWord 2 b)) → (e.1 / 2 ^ 31 = 3 → s.isTouched (e.1 % 2 ^ 31 / 2048) = true) →
    e ∈ t.mem.errs

section
variable {s t u : State}

theorem Touches.refl (s : State) : Touches s s := ⟨rfl, fun _ h => h, fun _ he _ _ => he⟩

theorem Touches.trans (h : Touches s t) (k : Touches t u) : Touches s u :=
  ⟨k.filling.trans h.filling, fun b hb => k.touched b (h.touched b hb),
    fun e he hmap hblock => k.errs e (h.errs e he hmap hblock) hmap (fun h3 => h.touched _ (hblock h3))⟩

theorem Tended.touches (h : Tended s t) : Touches s t := by
  obtain ⟨_, _, _, _, _, _, _, rfl⟩ := h
  exact ⟨rfl, fun _ hb => hb, fun _ he _ _ => he⟩

/-- The errors of other words stand when those of one are written. -/
theorem mem_errs_setWordErr {space w : Nat} {x : WordErr} {e : Nat × WordErr} (he : e ∈ s.mem.errs) (hk : e.1 ≠ wordKey space w) :
    e ∈ (s.setWordErr space w x).mem.errs := by
  have hdel : e ∈ Tab.del s.mem.errs (wordKey space w) := Tab.mem_del.mpr ⟨he, hk⟩
  unfold State.setWordErr Tab.set
  dsimp only
  split
  · exact hdel
  · exact Tab.mem_ins.mpr (.inr hdel)

theorem setWordErr_touches (s : State) (b : Nat) (x : WordErr) : Touches s (s.setWordErr 0 (tableWord 2 b) x) :=
  ⟨rfl, fun _ hb => hb, fun _ he hmap _ => mem_errs_setWordErr he (hmap b)⟩

/-- The use of the touch map reads a word of its own. -/
theorem useHub_touches (s : State) (b : Nat) : Touches s (s.useHub 2 b) := by
  rcases useHub_readOf s 2 b with h | ⟨x, h⟩
  · exact h.touches
  · exact (setWordErr_touches s b x).trans h.touches

/-- The first touch of a block: the errors in it go, and its touch bit is set. -/
theorem Touches.setTouched {b : Nat} (hb : s.isTouched b = false) (hf : t.mem.filling = s.mem.filling)
    (ht : t.mem.touched = Tab.set (fun _ => false) s.mem.touched b true)
    (he : t.mem.errs = s.mem.errs.filter (fun e => !(e.1 / 2 ^ 31 == 3 && e.1 % 2 ^ 31 / 2048 == b))) : Touches s t := by
  refine ⟨hf, fun c hc => ?_, fun e hmem _ hblock => ?_⟩
  · rw [State.isTouched, ht, Tab.get_set]
    split
    · rfl
    · exact hc
  · rw [he]
    refine List.mem_filter.mpr ⟨hmem, ?_⟩
    by_contra hin
    obtain ⟨h3, rfl⟩ : e.1 / 2 ^ 31 = 3 ∧ e.1 % 2 ^ 31 / 2048 = b := by simpa using hin
    exact absurd (hblock h3) (ne_true_of_eq_false hb)

theorem touch_touches (s : State) (w : Nat) : Touches s (s.touch w) := by
  unfold State.touch
  extract_lets used
  have hused : Touches s used := useHub_touches s (w / 2048)
  split
  · exact hused
  · next h => exact hused.trans (Touches.setTouched (eq_false_of_ne_true h) rfl rfl rfl)

/-! ### A fill is written (R321) -/

/-- The words of a fill. -/
def Fill.covers (f : Fill) (w : Nat) : Bool := decide (f.start ≤ w) && decide (w < f.start + f.words)

/-- A fill clears the errors under a key that is a word of LPDDR6 in its range. -/
def Fill.clears (f : Fill) (k : Nat) : Bool := decide (k / 2 ^ 31 = 3) && f.covers (k % 2 ^ 31)

theorem Fill.covers_of_range {f : Fill} {w : Nat} (hlo : f.start ≤ w) (hhi : w < f.start + f.words) : f.covers w = true := by
  simp [Fill.covers, hlo, hhi]

theorem Fill.clears_wordKey {f : Fill} {w : Nat} (hw : f.covers w = true) (hlt : w < 2 ^ 31) : f.clears (wordKey 3 w) = true := by
  have hspace : wordKey 3 w / 2 ^ 31 = 3 := by unfold wordKey; omega
  have hword : wordKey 3 w % 2 ^ 31 = w := by unfold wordKey; omega
  rw [Fill.clears, hspace, hword, hw]
  rfl

theorem Fill.not_clears {f : Fill} {k : Nat} (h : k / 2 ^ 31 ≠ 3 ∨ k % 2 ^ 31 < f.start ∨ f.start + f.words ≤ k % 2 ^ 31) :
    f.clears k = false := by
  rw [Fill.clears, Fill.covers]
  rcases h with h | h | h
  · rw [decide_eq_false h, Bool.false_and]
  · rw [decide_eq_false (Nat.not_le.mpr h), Bool.false_and, Bool.and_false]
  · rw [decide_eq_false (Nat.not_lt.mpr h), Bool.and_false, Bool.and_false]

/-- What a fill leaves in memory, after the blocks it covers in part have been touched. -/
theorem applyFill_mem (s : State) (f : Fill) : ∃ t b, Touches s t ∧ (s.applyFill f).mem = { t.mem with
    touched := b, written := (f.start, f.words) :: t.mem.written, fills := f :: t.mem.fills,
    errs := t.mem.errs.filter (fun e => !f.clears e.1),
    untracked := t.mem.untracked.filter (fun k => !f.clears k),
    sump := t.mem.sump.filter (fun e => !f.covers e.1) } := by
  unfold State.applyFill
  extract_lets inRange partly ordered cancelled blocks touched
  have hcancelled : Tended s cancelled :=
    List.foldlRecOn _ _ (Tended.refl s) (fun t ht e _ => (ht.freeTrk _).bump _)
  have hblocks : Touches s blocks :=
    List.foldlRecOn _ _ hcancelled.touches (fun t ht b _ => ht.trans (touch_touches t _))
  exact ⟨blocks, touched, hblocks, rfl⟩

theorem fillContents_mem (s : State) (f : Fill) : (s.fillContents f).mem = s.mem := by
  unfold State.fillContents
  extract_lets
  exact List.foldlRecOn (motive := fun t : State => t.mem = s.mem) _ _ rfl (fun t ht i _ => ht)

/-- The state after a fill has been written. -/
def State.filled (s : State) (iss : Issue) (f : Fill) : State :=
  (({ s with mem := { s.mem with filling := s.mem.filling.filter (fun e => e.1 ≠ iss) } } : State).applyFill f).fillContents f

theorem memFillDone_fills {s : State} {iss : Issue} {f : Fill} (h : s.mem.filling.find? (fun e => e.1 = iss) = some (iss, f)) :
    exec (.memFillDone iss) s = .next ((s.filled iss f).succeed iss f.words 0) := by
  refine congrArg Host.Outcome.next ?_
  rw [h]
  rfl

/-- A word of LPDDR6 is none of the touch map. -/
theorem ne_touchMap_of_lpddr {k : Nat} (h : k / 2 ^ 31 = 3) (b : Nat) : k ≠ wordKey 0 (tableWord 2 b) := by
  rintro rfl
  revert h
  unfold wordKey tableWord
  rw [if_neg (by decide), if_neg (by decide)]
  omega

/-- A written fill waits no longer; its words are written, without errors and Sump entries; other errors stand as where blocks are touched. -/
theorem filled_mem (s : State) (iss : Issue) (f : Fill) : (s.filled iss f).mem.filling = s.mem.filling.filter (fun e => e.1 ≠ iss) ∧
    (∀ w, f.covers w = true → w < 2 ^ 31 → lpWritten (s.filled iss f) w = true ∧ (∀ e ∈ (s.filled iss f).mem.errs, e.1 ≠ wordKey 3 w) ∧
      (∀ e ∈ (s.filled iss f).mem.sump, e.1 ≠ w)) ∧
    (∀ e ∈ s.mem.errs, (∀ b, e.1 ≠ wordKey 0 (tableWord 2 b)) → (e.1 / 2 ^ 31 = 3 → s.isTouched (e.1 % 2 ^ 31 / 2048) = true) →
      f.clears e.1 = false → e ∈ (s.filled iss f).mem.errs) := by
  obtain ⟨t, b, ht, hmem⟩ := applyFill_mem { s with mem := { s.mem with filling := s.mem.filling.filter (fun e => e.1 ≠ iss) } } f
  have hm := (fillContents_mem _ f).trans hmem
  unfold State.filled lpWritten
  rw [hm]
  refine ⟨ht.filling, fun w hw hlt => ⟨?_, fun e he hk => ?_, fun e he hk => ?_⟩, fun e he hmap hblock hout => ?_⟩
  · rw [List.any_cons]
    exact Bool.or_eq_true_iff.mpr (.inl hw)
  · have hkept := (List.mem_filter.mp he).2
    rw [hk, Fill.clears_wordKey hw hlt] at hkept
    exact Bool.noConfusion hkept
  · have hkept := (List.mem_filter.mp he).2
    rw [hk, hw] at hkept
    exact Bool.noConfusion hkept
  · exact List.mem_filter.mpr ⟨ht.errs e he hmap hblock, by rw [hout]; rfl⟩

end

/-! ### MEM_FILL (R321, R333) -/

section
variable {s : State} {iss : Issue} {op0 op1 op2 op3 op4 op5 : Nat} (h : HubStarts s iss [(op0, 0xF), (op3, 0x7FFFFFFF)])
include h

theorem exec_memFill : exec (.memFill iss op0 op1 op2 op3 op4 op5) s = .next (
    if badRange (bitsOf op0 3 0) (op1 + op2 * 2 ^ 32) (bitsOf op3 30 0) then (s.startCmd iss).refuse iss 0x21
    else if bitsOf op0 3 0 ≠ 3 then (s.startCmd iss).refuse iss 0x23
    else if s.hubFenced 1 then (s.startCmd iss).refuse iss 0x1E
    else { s.startCmd iss with mem := { s.mem with
      filling := s.mem.filling ++ [(iss, { start := (op1 + op2 * 2 ^ 32) / 32, words := bitsOf op3 30 0,
                                           pattern := op4 % 2 ^ 32 + op5 % 2 ^ 32 * 2 ^ 32 })] } }) :=
  congrArg Host.Outcome.next (pf0Cmd_of_starts h _)

theorem memFill_badRange (hb : badRange (bitsOf op0 3 0) (op1 + op2 * 2 ^ 32) (bitsOf op3 30 0) = true) :
    exec (.memFill iss op0 op1 op2 op3 op4 op5) s = .next ((s.startCmd iss).refuse iss 0x21) := by
  rw [exec_memFill h, if_pos hb]

variable (hb : badRange (bitsOf op0 3 0) (op1 + op2 * 2 ^ 32) (bitsOf op3 30 0) = false)
include hb

theorem memFill_otherSpace (hs : bitsOf op0 3 0 ≠ 3) :
    exec (.memFill iss op0 op1 op2 op3 op4 op5) s = .next ((s.startCmd iss).refuse iss 0x23) := by
  rw [exec_memFill h, if_neg (ne_true_of_eq_false hb), if_pos hs]

theorem memFill_waits (hs : bitsOf op0 3 0 = 3) (hf : s.hubFenced 1 = false) :
    exec (.memFill iss op0 op1 op2 op3 op4 op5) s = .next { s.startCmd iss with mem := { s.mem with
      filling := s.mem.filling ++ [(iss, { start := (op1 + op2 * 2 ^ 32) / 32, words := bitsOf op3 30 0,
                                           pattern := op4 % 2 ^ 32 + op5 % 2 ^ 32 * 2 ^ 32 })] } } := by
  rw [exec_memFill h, if_neg (ne_true_of_eq_false hb), if_neg (not_not_intro hs), if_neg (ne_true_of_eq_false hf)]

end

/-! ### BITTERN_READ (R332) -/

@[simp] theorem toHost_mem (s : State) (fn : Nat) (o : Output) : (s.toHost fn o).mem = s.mem := by
  unfold State.toHost
  split <;> rfl

section
variable {s : State} {iss : Issue} {op0 length : Nat} (h : HubStarts s iss [(op0, 0x800001FF)])
include h

theorem exec_bitternRead {recs : List BtnRecord} {r : State} (hrecs : recs = s.mem.bittern.take (bitsOf op0 8 0))
    (hr : r = (s.startCmd iss).toHost iss.fn (.buffer iss.fn iss.tag (recs.flatMap btnBytes))) :
    exec (.bitternRead iss op0 length) s = .next (
      if bitsOf op0 8 0 = 0 || 256 < bitsOf op0 8 0 || length ≠ 16 * bitsOf op0 8 0 then (s.startCmd iss).refuse iss 0x25
      else (if bitAt op0 31 && recs ≠ [] then
          (({ r with mem := { r.mem with bittern := r.mem.bittern.drop (bitsOf op0 8 0) } } : State).btnStatus).setFld
            R.MEM_BTN_STATUS.lost 0
        else r).succeed iss recs.length 0) := by
  subst hrecs hr
  exact congrArg Host.Outcome.next (pf0Cmd_of_starts h _)

theorem bitternRead_badLength (hl : bitsOf op0 8 0 = 0 ∨ 256 < bitsOf op0 8 0 ∨ length ≠ 16 * bitsOf op0 8 0) :
    exec (.bitternRead iss op0 length) s = .next ((s.startCmd iss).refuse iss 0x25) := by
  rw [exec_bitternRead h rfl rfl, if_pos]
  rcases hl with hl | hl | hl <;> simp [hl]

variable (hz : bitsOf op0 8 0 ≠ 0) (hn : bitsOf op0 8 0 ≤ 256) (hl : length = 16 * bitsOf op0 8 0)
include hz hn hl

variable {recs : List BtnRecord} {r : State} (hrecs : recs = s.mem.bittern.take (bitsOf op0 8 0))
  (hr : r = (s.startCmd iss).toHost iss.fn (.buffer iss.fn iss.tag (recs.flatMap btnBytes)))
include hrecs hr

theorem bitternRead_keeps (hk : bitAt op0 31 = false ∨ s.mem.bittern = []) :
    exec (.bitternRead iss op0 length) s = .next (r.succeed iss recs.length 0) := by
  rw [exec_bitternRead h hrecs hr, if_neg (by simp [hz, hn, hl]), if_neg]
  rcases hk with hk | hk <;> simp [hk, hrecs]

theorem bitternRead_frees (hfree : bitAt op0 31 = true) (hne : s.mem.bittern ≠ []) :
    exec (.bitternRead iss op0 length) s =
      .next (((({ r with mem := { r.mem with bittern := s.mem.bittern.drop (bitsOf op0 8 0) } } : State).btnStatus).setFld
        R.MEM_BTN_STATUS.lost 0).succeed iss recs.length 0) := by
  have hmem : r.mem = s.mem := by rw [hr, toHost_mem, startCmd_mem]
  rw [exec_bitternRead h hrecs hr, if_neg (by simp [hz, hn, hl]), if_pos (by simp [hfree, hrecs, hz, hne]), hmem]

end

/-! ### MEM_REMAP_READ (R318, R333) -/

/-- A byte of a list put together from blocks of one size is that byte of its block. -/
theorem getElem?_flatMap_of_length {α β : Type} {g : α → List β} {n : Nat} {l : List α} (h : ∀ x ∈ l, (g x).length = n) {k j : Nat} {x : α}
    (hx : l[k]? = some x) (hj : j < n) : (l.flatMap g)[n * k + j]? = (g x)[j]? := by
  induction l generalizing k with
  | nil => simp at hx
  | cons y l ih =>
    have hy : (g y).length = n := h y List.mem_cons_self
    rw [List.flatMap_cons]
    cases k with
    | zero =>
      obtain rfl : y = x := by simpa using hx
      rw [Nat.mul_zero, Nat.zero_add, List.getElem?_append_left (by omega)]
    | succ k =>
      rw [List.getElem?_append_right (by rw [hy, Nat.mul_succ]; omega), hy, show n * (k + 1) + j - n = n * k + j by rw [Nat.mul_succ]; omega]
      exact ih (fun z hz => h z (List.mem_cons_of_mem _ hz)) hx

theorem length_flatMap_of_length {α β : Type} {g : α → List β} {n : Nat} {l : List α} (h : ∀ x ∈ l, (g x).length = n) :
    (l.flatMap g).length = n * l.length := by
  rw [List.length_flatMap, List.map_congr_left h, List.map_const', List.sum_replicate, smul_eq_mul, Nat.mul_comm]

@[simp] theorem length_leBytes (n x : Nat) : (leBytes n x).length = n := by simp [leBytes]

theorem getElem?_leBytes {n x j : Nat} (h : j < n) : (leBytes n x)[j]? = some (BitVec.ofNat 8 (x / 256 ^ j)) := by
  simp [leBytes, h]

@[simp] theorem length_maskPoison (l : List Byte) (bad : Nat) : (maskPoison l bad).length = l.length := by simp [maskPoison]

theorem getElem?_maskPoison (l : List Byte) (bad i : Nat) : (maskPoison l bad)[i]? = l[i]?.map (fun x => if bitAt bad i then 0#8 else x) := by
  simp [maskPoison, List.getElem?_zipIdx, Function.comp_def]

/-- A remap entry as a number: used, and its word index (Table 12-6). -/
def remapWord (s : State) (bank i : Nat) : Nat := (Tab.find s.mem.remap (bank * 8 + i)).elim 0 (fun x => 2 ^ 31 + x)

theorem remapBytes_eq (s : State) (bank : Nat) : remapBytes s bank = (List.range 8).flatMap (fun i => leBytes 4 (remapWord s bank i)) := by
  unfold remapBytes remapWord
  congr 1
  funext i
  cases Tab.find s.mem.remap (bank * 8 + i) <;> rfl

@[simp] theorem length_remapBytes (s : State) (bank : Nat) : (remapBytes s bank).length = 32 := by
  rw [remapBytes_eq, length_flatMap_of_length (fun _ _ => length_leBytes 4 _), List.length_range]

theorem getElem?_remapBytes (s : State) (bank : Nat) {i j : Nat} (hi : i < 8) (hj : j < 4) :
    (remapBytes s bank)[4 * i + j]? = some (BitVec.ofNat 8 (remapWord s bank i / 256 ^ j)) := by
  rw [remapBytes_eq, getElem?_flatMap_of_length (fun _ _ => length_leBytes 4 _) (List.getElem?_range hi) hj, getElem?_leBytes hj]

/-- The tables of `n` banks from `first` on, their bytes of `bad` as 0x00. -/
def remapTables (m : State) (bad : Nat → Nat) (first n : Nat) : List Byte :=
  (List.range n).flatMap (fun k => maskPoison (remapBytes m (k + first)) (bad k))

theorem length_remapTables (m : State) (bad : Nat → Nat) (first n : Nat) : (remapTables m bad first n).length = 32 * n := by
  rw [remapTables, length_flatMap_of_length (fun _ _ => (length_maskPoison _ _).trans (length_remapBytes _ _)), List.length_range]

theorem getElem?_remapTables (m : State) (bad : Nat → Nat) (first : Nat) {n k i j : Nat} (hk : k < n) (hi : i < 8) (hj : j < 4) :
    (remapTables m bad first n)[32 * k + 4 * i + j]? =
      some (if bitAt (bad k) (4 * i + j) then 0#8 else BitVec.ofNat 8 (remapWord m (k + first) i / 256 ^ j)) := by
  rw [remapTables, Nat.add_assoc, getElem?_flatMap_of_length (fun _ _ => (length_maskPoison _ _).trans (length_remapBytes _ _))
    (List.getElem?_range hk) (by omega), getElem?_maskPoison, getElem?_remapBytes m _ hi hj]
  rfl

section
variable {s : State} {iss : Issue} {op0 op1 length : Nat} (h : HubStarts s iss [(op0, 0xFF), (op1, 0x1FF)])
include h

theorem exec_memRemapRead {m : State} {bad : Nat → Nat}
    (hm : m = (List.range (bitsOf op1 8 0)).foldl (fun s k => s.memRead 0 (tableWord 3 (k + bitsOf op0 7 0))) (s.startCmd iss))
    (hbad : bad = fun k => memPoison m 0 (tableWord 3 (k + bitsOf op0 7 0))) :
    exec (.memRemapRead iss op0 op1 length) s = .next (
      if bitsOf op1 8 0 = 0 || 256 < bitsOf op0 7 0 + bitsOf op1 8 0 then (s.startCmd iss).refuse iss 0x24
      else if length ≠ 32 * bitsOf op1 8 0 then (s.startCmd iss).refuse iss 0x25
      else (m.toHost iss.fn (.buffer iss.fn iss.tag (remapTables m bad (bitsOf op0 7 0) (bitsOf op1 8 0)))).complete iss
        { Result.ok 0 0 with poison := (List.range (bitsOf op1 8 0)).any (fun k => bad k ≠ 0) }) := by
  subst hbad hm
  refine congrArg Host.Outcome.next ((pf0Cmd_of_starts h _).trans ?_)
  simp only [List.foldl_map, List.flatMap_map, List.any_map]
  rfl

theorem memRemapRead_badBanks (hb : bitsOf op1 8 0 = 0 ∨ 256 < bitsOf op0 7 0 + bitsOf op1 8 0) :
    exec (.memRemapRead iss op0 op1 length) s = .next ((s.startCmd iss).refuse iss 0x24) := by
  rw [exec_memRemapRead h rfl rfl, if_pos (by rcases hb with hb | hb <;> simp [hb])]

variable (hz : bitsOf op1 8 0 ≠ 0) (hn : bitsOf op0 7 0 + bitsOf op1 8 0 ≤ 256)
include hz hn

theorem memRemapRead_badLength (hl : length ≠ 32 * bitsOf op1 8 0) :
    exec (.memRemapRead iss op0 op1 length) s = .next ((s.startCmd iss).refuse iss 0x25) := by
  rw [exec_memRemapRead h rfl rfl, if_neg (by simp [hz, hn]), if_pos hl]

theorem memRemapRead_returns (hl : length = 32 * bitsOf op1 8 0) {m : State} {bad : Nat → Nat}
    (hm : m = (List.range (bitsOf op1 8 0)).foldl (fun s k => s.memRead 0 (tableWord 3 (k + bitsOf op0 7 0))) (s.startCmd iss))
    (hbad : bad = fun k => memPoison m 0 (tableWord 3 (k + bitsOf op0 7 0))) :
    exec (.memRemapRead iss op0 op1 length) s =
      .next ((m.toHost iss.fn (.buffer iss.fn iss.tag (remapTables m bad (bitsOf op0 7 0) (bitsOf op1 8 0)))).complete iss
        { Result.ok 0 0 with poison := (List.range (bitsOf op1 8 0)).any (fun k => bad k ≠ 0) }) := by
  rw [exec_memRemapRead h hm hbad, if_neg (by simp [hz, hn]), if_neg (not_not_intro hl)]

end

/-- Settles O28: each command by its checks; a fill by what it leaves of the errors, a remap table byte by byte. -/
theorem fillsAndLogReads : Obligations.FillsAndLogReads := by
  unfold Obligations.FillsAndLogReads
  intro s iss op0 op1 op2 op3 op4 op5 length
  refine ⟨fun h => ⟨memFill_badRange h, memFill_otherSpace h, memFill_waits h⟩, fun f hf => ?filled,
    fun h => ⟨bitternRead_badLength h, fun hz hn hl => ?records⟩,
    fun h => ⟨memRemapRead_badBanks h, memRemapRead_badLength h, fun hz hn hl => ?tables⟩⟩
  case filled =>
    obtain ⟨hfilling, hinside, houtside⟩ := filled_mem s iss f
    refine ⟨_, _, memFillDone_fills hf, rfl, hfilling, fun w hlo hhi => hinside w (Fill.covers_of_range hlo hhi), fun e he hout => ?_⟩
    rcases hout with ⟨h3, hmap⟩ | ⟨h3, htouched, hrange⟩
    · exact houtside e he hmap (fun h => absurd h h3) (Fill.not_clears (.inl h3))
    · exact houtside e he (ne_touchMap_of_lpddr h3) (fun _ => htouched) (Fill.not_clears (.inr hrange))
  case records =>
    exact ⟨_, _, rfl, rfl, bitternRead_keeps h hz hn hl rfl rfl, bitternRead_frees h hz hn hl rfl rfl⟩
  case tables =>
    exact ⟨_, _, _, rfl, rfl, (length_remapTables _ _ _ _).trans hl.symm, fun k i j => getElem?_remapTables _ _ _,
      memRemapRead_returns h hz hn hl rfl rfl⟩

end Sys2Proof.Machine
end

section
/-!
Event queues that start and stop, vectors that are unmasked, and Bus Master Enable (R355, R373, R378).
-/
namespace Sys2Proof.Machine

section
variable {s : State} {fn q v vec : Nat} {on : Bool}

/-! ### EQ_CFG (R373) -/

/-- A write of EQ_CFG, by its owner and its checks in their order. -/
theorem exec_eqEnable (hq : q < 64) (h : Reaches s fn (viewAddr fn (0xA000 + 32 * q + 8) (0xB000 + 32 * q + 8))) :
    exec (.eqEnable fn q v) s = .next (
      if s.queueOwner q ≠ fn then s
      else if bitsOf v 20 16 < 4 || 16 < bitsOf v 20 16
          || ((s.evQueue q).en && (bitsOf v 29 24 ≠ (s.evQueue q).vector || bitsOf v 20 16 ≠ (s.evQueue q).sizeCode)) then s.refuseView fn
      else if bitAt v 31 && !(s.evQueue q).en then
        s.setEvQueue q { s.evQueue q with
          en := true, vector := bitsOf v 29 24, sizeCode := bitsOf v 20 16, head := 0, wr := 0, phase := true, armed := true,
          idleHint := false, window := false }
      else s.setEvQueue q { s.evQueue q with en := bitAt v 31, vector := bitsOf v 29 24, sizeCode := bitsOf v 20 16 }) := by
  show execEqEnable fn q v s = _
  rw [execEqEnable, Nat.mod_eq_of_lt hq, accessed_of_reaches h]

section
variable (hq : q < 64) (h : Reaches s fn (viewAddr fn (0xA000 + 32 * q + 8) (0xB000 + 32 * q + 8))) (ho : s.queueOwner q = fn)
include hq h ho

theorem eqEnable_starts (h4 : 4 ≤ bitsOf v 20 16) (h16 : bitsOf v 20 16 ≤ 16) (hv : bitAt v 31 = true) (hen : (s.evQueue q).en = false) :
    exec (.eqEnable fn q v) s = .next (s.setEvQueue q { s.evQueue q with
      en := true, vector := bitsOf v 29 24, sizeCode := bitsOf v 20 16, head := 0, wr := 0, phase := true, armed := true,
      idleHint := false, window := false }) := by
  rw [exec_eqEnable hq h, if_neg (not_not_intro ho), if_neg (by simp [h4, h16, hen]), if_pos (by simp [hv, hen])]

theorem eqEnable_refused (hen : (s.evQueue q).en = true)
    (hd : bitsOf v 29 24 ≠ (s.evQueue q).vector ∨ bitsOf v 20 16 ≠ (s.evQueue q).sizeCode) :
    exec (.eqEnable fn q v) s = .next (s.refuseView fn) := by
  rw [exec_eqEnable hq h, if_neg (not_not_intro ho), if_pos (by simp [hen, hd])]

/-- A write that clears en and names what stands keeps the rest. -/
theorem eqEnable_stops (h4 : 4 ≤ bitsOf v 20 16) (h16 : bitsOf v 20 16 ≤ 16) (hvec : bitsOf v 29 24 = (s.evQueue q).vector)
    (hsize : bitsOf v 20 16 = (s.evQueue q).sizeCode) (hv : bitAt v 31 = false) :
    exec (.eqEnable fn q v) s = .next (s.setEvQueue q { s.evQueue q with en := false }) := by
  rw [exec_eqEnable hq h, if_neg (not_not_intro ho), if_neg (by simp [hvec, hsize, hsize ▸ h4, hsize ▸ h16]),
    if_neg (by simp [hv]), hv, hvec, hsize]

end

/-! ### Vectors (R378) -/

/-- A vector with its own mask clear. -/
def State.unmaskVector (s : State) (key : Nat) : State :=
  { s with ev := { s.ev with vecMask := Tab.set (fun _ => true) s.ev.vecMask key false } }

/-- The Pending Bit of a vector is cleared. -/
def State.clearPend (s : State) (key : Nat) : State :=
  { s with ev := { s.ev with msixPend := Tab.set (fun _ => false) s.ev.msixPend key false } }

/-- A vector that has been unmasked reads so. -/
theorem vecMask_unmaskVector (s : State) (key : Nat) : Tab.get (fun _ => true) (s.unmaskVector key).ev.vecMask key = false :=
  Tab.get_set_same (fun _ => true) s.ev.vecMask key false

theorem msixPend_clearPend (s : State) (key : Nat) : Tab.get (fun _ => false) (s.clearPend key).ev.msixPend key = false :=
  Tab.get_set_same (fun _ => false) s.ev.msixPend key false

theorem sendPending_sends (hp : Tab.get (fun _ => false) s.ev.msixPend (fn * 64 + vec) = true) (hm : masters s fn = true)
    (hf : Tab.get (fun _ => false) s.ev.fnMask fn = false) (hv : Tab.get (fun _ => true) s.ev.vecMask (fn * 64 + vec) = false) :
    s.sendPending fn vec = (s.clearPend (fn * 64 + vec)).emit ((s.clearPend (fn * 64 + vec)).vectorMessage fn vec) := by
  unfold State.sendPending
  exact if_pos (by simp [hp, hm, hf, hv])

theorem exec_msixUnmask_vector (h : vec < 64) :
    exec (.msixUnmask fn (.vector vec)) s = .next ((s.unmaskVector (fn * 64 + vec)).sendPending fn vec) := by
  show execMsixUnmask fn (.vector vec) s = _
  rw [execMsixUnmask, Nat.mod_eq_of_lt h]
  rfl

theorem msixUnmask_sends (h : vec < 64) (hp : Tab.get (fun _ => false) s.ev.msixPend (fn * 64 + vec) = true)
    (hf : Tab.get (fun _ => false) s.ev.fnMask fn = false) (hm : masters s fn = true) :
    exec (.msixUnmask fn (.vector vec)) s = .next (((s.unmaskVector (fn * 64 + vec)).clearPend (fn * 64 + vec)).emit
      (s.vectorMessage fn vec)) := by
  rw [exec_msixUnmask_vector h,
    sendPending_sends (s := s.unmaskVector (fn * 64 + vec)) hp hm hf (vecMask_unmaskVector s (fn * 64 + vec))]
  rfl

/-- The message of a vector carries the words that its entry of the MSI-X table reads as. -/
theorem vectorMessage_eq (s : State) (fn vec : Nat) :
    s.vectorMessage fn vec = .interrupt fn vec (s.msixWord fn vec 1 * 2 ^ 32 + s.msixWord fn vec 0) (s.msixWord fn vec 2) := rfl

/-! ### Bus Master Enable (R355) -/

/-- A function's Bus Master Enable takes a value. -/
def State.setMaster (s : State) (fn : Nat) (on : Bool) : State :=
  { s with hif := { s.hif with bme := Tab.set (fun _ => false) s.hif.bme fn on } }

theorem masters_setMaster (s : State) (fn f : Nat) (on : Bool) :
    masters (s.setMaster fn on) f = if f = fn then on else masters s f := Tab.get_set _ _ _ _ _

theorem exec_busMasterEnableChange : exec (.busMasterEnableChange fn on) s = .next (
    if !on then s.setMaster fn on
    else (List.range 64).foldl (fun s v => s.sendPending fn v)
      ((s.late.filter (fun x => x.fn == fn)).foldl State.sendLate
        { s.setMaster fn on with late := s.late.filter (fun x => x.fn ≠ fn) })) := rfl

end

/-- Settles O18: EQ_CFG by its checks, a vector by its masks, and Bus Master Enable by the value it takes. -/
theorem enablingAQueueAndUnmaskingVectors : Obligations.EnablingAQueueAndUnmaskingVectors := by
  unfold Obligations.EnablingAQueueAndUnmaskingVectors
  intro s fn q v hq
  refine ⟨fun h ho => ⟨eqEnable_starts hq h ho, eqEnable_refused hq h ho, eqEnable_stops hq h ho⟩,
    fun vec hvec hp hf hm => ?unmask, fun on t ht => ?master⟩
  case unmask =>
    refine ⟨_, msixUnmask_sends hvec hp hf hm, ?_, rfl, rfl, vecMask_unmaskVector s _, msixPend_clearPend (s.unmaskVector _) _⟩
    rw [← vectorMessage_eq]
    rfl
  case master =>
    obtain rfl : t = s.setMaster fn on := ht
    refine ⟨⟨?_, fun f hf => ?_⟩, ?_, ?_⟩
    · rw [masters_setMaster, if_pos rfl]
    · rw [masters_setMaster, if_neg hf]
    · rintro rfl
      exact exec_busMasterEnableChange
    · rintro rfl
      exact exec_busMasterEnableChange

end Sys2Proof.Machine
end

section
/-!
Rings are created and deleted (R338 to R341).
-/
namespace Sys2Proof.Machine

section
variable {s : State} {fn : Nat}

/-! ### RING_CREATE (R339) -/

/-- The CQ that the set-up registers of a function name: empty, at the start of its first pass. -/
def State.newCq (s : State) (fn : Nat) : Cq :=
  { base := s.ring fn R.HIF_RING_ADDR_LO.addr_lo * 4096 + s.ring fn R.HIF_RING_ADDR_HI.addr_hi * 2 ^ 32,
    sizeCode := s.ring fn R.HIF_RING_CFG.size_code, notify := s.ring fn R.HIF_RING_PARAM.notify_en == 1, head := 0, wr := 0,
    phase := true, reserved := 0 }

/-- The SQ that the set-up registers of a function name: ACTIVE and empty. -/
def State.newSq (s : State) (fn : Nat) : Sq :=
  { base := s.ring fn R.HIF_RING_ADDR_LO.addr_lo * 4096 + s.ring fn R.HIF_RING_ADDR_HI.addr_hi * 2 ^ 32,
    sizeCode := s.ring fn R.HIF_RING_CFG.size_code, weight := s.ring fn R.HIF_RING_PARAM.weight,
    bufSize := s.ring fn R.HIF_RING_BUF.buf_size, cq := s.ring fn R.HIF_RING_PARAM.cq, tail := 0, fetchHead := 0, error := false,
    deleting := false, posted := 0, fetched := 0, completed := 0 }

/-- The ring that the set-up registers of a function name exists. -/
def State.makeRing (s : State) (fn : Nat) : State :=
  if s.ring fn R.HIF_RING_CFG.kind = 1 then s.setCq fn (s.ring fn R.HIF_RING_CFG.index) (s.newCq fn)
  else s.setSq fn (s.ring fn R.HIF_RING_CFG.index) (s.newSq fn)

/-- A new ring is one of the host interface's, and nothing else. -/
theorem makeRing_shape (s : State) (fn : Nat) : ∃ h, s.makeRing fn = { s with hif := h } := by
  unfold State.makeRing
  split <;> exact ⟨_, rfl⟩

theorem makeRing_cq (h : s.ring fn R.HIF_RING_CFG.kind = 1) :
    (s.makeRing fn).cq? fn (s.ring fn R.HIF_RING_CFG.index) = some (s.newCq fn) := by
  rw [State.makeRing, if_pos h, State.cq_setCq]

theorem makeRing_sq (h : s.ring fn R.HIF_RING_CFG.kind ≠ 1) :
    (s.makeRing fn).sq? fn (s.ring fn R.HIF_RING_CFG.index) = some (s.newSq fn) := by
  rw [State.makeRing, if_neg h, State.sq_setSq]

section
variable (h : Reaches s fn (ringField fn ⟨R.HIF_RING_OP.addr, 31, 31⟩).addr)
include h

theorem exec_ringCreate : exec (.ringCreate fn) s = .next (
    if ringBusy s fn then s.bump (hifCtr fn 7)
    else if ringCheck s fn ≠ 0 then s.setRingResult fn (ringCheck s fn)
    else (s.setRingResult fn (ringCheck s fn)).makeRing fn) :=
  congrArg Host.Outcome.next (accessed_of_reaches h _)

theorem ringCreate_busy (hb : ringBusy s fn = true) : exec (.ringCreate fn) s = .next (s.bump (hifCtr fn 7)) := by
  rw [exec_ringCreate h, if_pos hb]

variable (hb : ringBusy s fn = false)
include hb

theorem ringCreate_fails (hc : ringCheck s fn ≠ 0) : exec (.ringCreate fn) s = .next (s.setRingResult fn (ringCheck s fn)) := by
  rw [exec_ringCreate h, if_neg (by simp [hb]), if_pos hc]

theorem ringCreate_makes (hc : ringCheck s fn = 0) : exec (.ringCreate fn) s = .next ((s.setRingResult fn 0).makeRing fn) := by
  rw [exec_ringCreate h, if_neg (by simp [hb]), if_neg (not_not_intro hc), hc]

end

/-! ### RING_DELETE (R341) -/

/-- An SQ of the function completes to its CQ `i`. -/
def cqUsed (s : State) (fn i : Nat) : Bool := s.hif.sqs.any (fun e => decide (e.1 / 1024 = fn) && decide (e.2.cq = i))

/-- Commands of SQ `i` of a function have not completed. -/
def sqWorks (s : State) (fn i : Nat) : Bool := s.hif.inFlight.any (fun f => decide (f.iss.fn = fn) && decide (f.iss.sq = i))

/-- The deletion of an SQ begins: it is marked, busy is set, and the commands that wait without limit complete ABORTED. -/
def State.markDeleted (s : State) (fn i : Nat) (q : Sq) : State :=
  ((s.setSq fn i { q with deleting := true }).setFld (ringField fn R.HIF_RING_STATUS.busy) 1).forPorts (fun s p =>
    (waitingAt (s.port p).tcf (fun k => decide (k.fn = fn) && decide (k.sq = i))).foldl
      (fun s k => (s.complete k { Result.ok 0 0 with status := .aborted }).bump (hifCtr fn 6))
      (s.withdraw p (fun k => decide (k.fn = fn) && decide (k.sq = i))))

section
variable (h : Reaches s fn (ringField fn ⟨R.HIF_RING_OP.addr, 31, 31⟩).addr)
include h

theorem exec_ringDelete {i : Nat} (hi : i = s.ring fn R.HIF_RING_CFG.index) : exec (.ringDelete fn) s = .next (
    if ringBusy s fn then s.bump (hifCtr fn 7)
    else if s.ring fn R.HIF_RING_CFG.kind = 1 then
      if (s.cq? fn i).isNone then s.setRingResult fn 2
      else if cqUsed s fn i then s.setRingResult fn 5
      else (s.dropCq fn i).setRingResult fn 0
    else
      match s.sq? fn i with
      | none => s.setRingResult fn 2
      | some q => s.markDeleted fn i q) := by
  subst hi
  refine congrArg Host.Outcome.next ((accessed_of_reaches h _).trans ?_)
  rfl

theorem ringDelete_busy (hb : ringBusy s fn = true) : exec (.ringDelete fn) s = .next (s.bump (hifCtr fn 7)) := by
  rw [exec_ringDelete h rfl, if_pos hb]

variable (hb : ringBusy s fn = false)
include hb

section
variable (hk : s.ring fn R.HIF_RING_CFG.kind = 1) {i : Nat} (hi : i = s.ring fn R.HIF_RING_CFG.index)
include hk hi

theorem ringDelete_noCq (hn : s.cq? fn i = none) : exec (.ringDelete fn) s = .next (s.setRingResult fn 2) := by
  rw [exec_ringDelete h hi, if_neg (by simp [hb]), if_pos hk, if_pos (by simp [hn])]

theorem ringDelete_usedCq (hn : s.cq? fn i ≠ none) (hu : cqUsed s fn i = true) :
    exec (.ringDelete fn) s = .next (s.setRingResult fn 5) := by
  rw [exec_ringDelete h hi, if_neg (by simp [hb]), if_pos hk, if_neg (by simp [hn]), if_pos hu]

theorem ringDelete_dropsCq (hn : s.cq? fn i ≠ none) (hu : cqUsed s fn i = false) :
    exec (.ringDelete fn) s = .next ((s.dropCq fn i).setRingResult fn 0) := by
  rw [exec_ringDelete h hi, if_neg (by simp [hb]), if_pos hk, if_neg (by simp [hn]), if_neg (by simp [hu])]

end

theorem ringDelete_noSq (hk : s.ring fn R.HIF_RING_CFG.kind ≠ 1) (hn : s.sq? fn (s.ring fn R.HIF_RING_CFG.index) = none) :
    exec (.ringDelete fn) s = .next (s.setRingResult fn 2) := by
  rw [exec_ringDelete h rfl, if_neg (by simp [hb]), if_neg hk, hn]

end

/-! ### RING_DELETE_DONE (R341) -/

/-- A deleted SQ is gone, and the function's set-up is free again. -/
def State.endDelete (s : State) (fn i : Nat) : State :=
  (({ s with hif := { s.hif with sqs := Tab.del s.hif.sqs (ringKey fn i) } } : State).setFld
    (ringField fn R.HIF_RING_STATUS.busy) 0).setRingResult fn 0

theorem exec_ringDeleteDone {i : Nat} {q : Sq} (hi : i = s.ring fn R.HIF_RING_CFG.index) (hq : s.sq? fn i = some q) :
    exec (.ringDeleteDone fn) s = .next (if q.deleting && !sqWorks s fn i then s.endDelete fn i else s) := by
  subst hi
  show execRingDeleteDone fn s = _
  unfold execRingDeleteDone
  dsimp only
  rw [hq]
  rfl

theorem ringDeleteDone_ends {i : Nat} {q : Sq} (hi : i = s.ring fn R.HIF_RING_CFG.index) (hq : s.sq? fn i = some q)
    (hd : q.deleting = true) (hn : sqWorks s fn i = false) : exec (.ringDeleteDone fn) s = .next (s.endDelete fn i) := by
  rw [exec_ringDeleteDone hi hq, if_pos (by simp [hd, hn])]

end

/-- Settles O19: RING_OP by what is busy, by the checks of R339 and by the ring it names, and the end of a deletion. -/
theorem ringsAreCreatedAndDeleted : Obligations.RingsAreCreatedAndDeleted := by
  unfold Obligations.RingsAreCreatedAndDeleted
  intro s fn
  refine ⟨fun h => ⟨fun hb => ⟨ringCreate_busy h hb, ringDelete_busy h hb⟩, ringCreate_fails h, fun hb hc => ?makes,
    fun hb hk => ⟨ringDelete_noCq h hb hk rfl, ringDelete_usedCq h hb hk rfl, ringDelete_dropsCq h hb hk rfl⟩, ringDelete_noSq h⟩,
    fun q => ringDeleteDone_ends rfl⟩
  case makes =>
    obtain ⟨f, hf⟩ := makeRing_shape (s.setRingResult fn 0) fn
    refine ⟨_, ringCreate_makes h hb hc, ?_, fun hk => ⟨_, makeRing_cq hk, rfl, rfl, rfl, rfl, rfl⟩,
      fun hk => ⟨_, makeRing_sq hk, rfl, rfl, rfl, rfl, rfl⟩⟩
    rw [hf]
    rfl

end Sys2Proof.Machine
end

section
/-!
Doorbells of submission and completion queues (R337, R343, R344).
-/
namespace Sys2Proof.Machine

section
variable {s : State} {fn i v : Nat}

/-! ### SQ_DOORBELL (R343) -/

/-- The entries that a tail posts beyond those posted before. -/
def Sq.posts (q : Sq) (tail : Nat) : Nat := (tail + 2 ^ q.sizeCode - q.tail) % 2 ^ q.sizeCode

/-- The entries of an SQ that are free. -/
def Sq.room (q : Sq) : Nat := 2 ^ q.sizeCode - 1 - (q.tail + 2 ^ q.sizeCode - q.fetchHead) % 2 ^ q.sizeCode

theorem sqDoorbell_noRing (h : s.sq? fn i = none) : exec (.sqDoorbell fn i v) s = .next (s.bump (hifCtr fn 7)) := by
  show execSqDoorbell fn i v s = _
  rw [execSqDoorbell, h]

section
variable {q : Sq} (hq : s.sq? fn i = some q)
include hq

theorem exec_sqDoorbell : exec (.sqDoorbell fn i v) s = .next (
    if q.deleting || s.inFlr fn || !s.ready then s.bump (hifCtr fn 7)
    else if bitsOf v 31 16 ≠ 0 || 2 ^ q.sizeCode ≤ bitsOf v 15 0 || q.room < q.posts (bitsOf v 15 0) then s.badDoorbell fn
    else s.setSq fn i { q with tail := bitsOf v 15 0, posted := (q.posted + q.posts (bitsOf v 15 0)) % 2 ^ 32 }) := by
  show execSqDoorbell fn i v s = _
  rw [execSqDoorbell, hq]
  rfl

variable (hd : q.deleting = false) (hf : s.inFlr fn = false) (hr : s.ready = true)
include hd hf hr

theorem sqDoorbell_posts (hz : bitsOf v 31 16 = 0) (ht : bitsOf v 15 0 < 2 ^ q.sizeCode) (hp : q.posts (bitsOf v 15 0) ≤ q.room) :
    exec (.sqDoorbell fn i v) s = .next (s.setSq fn i { q with
      tail := bitsOf v 15 0, posted := (q.posted + q.posts (bitsOf v 15 0)) % 2 ^ 32 }) := by
  rw [exec_sqDoorbell hq, if_neg (by simp [hd, hf, hr]), if_neg (by simp [hz, ht, hp])]

theorem sqDoorbell_bad
    (h : bitsOf v 31 16 ≠ 0 ∨ 2 ^ q.sizeCode ≤ bitsOf v 15 0 ∨ q.room < q.posts (bitsOf v 15 0)) :
    exec (.sqDoorbell fn i v) s = .next (s.badDoorbell fn) := by
  rw [exec_sqDoorbell hq, if_neg (by simp [hd, hf, hr]), if_pos (by simpa [or_assoc] using h)]

end

/-! ### CQ_DOORBELL (R344) -/

/-- The completions that a head consumes. -/
def Cq.consumes (q : Cq) (head : Nat) : Nat := (head + 2 ^ q.sizeCode - q.head) % 2 ^ q.sizeCode

/-- The completions of a CQ that have not been consumed. -/
def Cq.unconsumed (q : Cq) : Nat := (q.wr + 2 ^ q.sizeCode - q.head) % 2 ^ q.sizeCode

theorem cqDoorbell_noRing (h : s.cq? fn i = none) : exec (.cqDoorbell fn i v) s = .next (s.bump (hifCtr fn 7)) := by
  show execCqDoorbell fn i v s = _
  rw [execCqDoorbell, h]

section
variable {q : Cq} (hq : s.cq? fn i = some q)
include hq

theorem exec_cqDoorbell : exec (.cqDoorbell fn i v) s = .next (
    if s.inFlr fn || !s.ready then s.bump (hifCtr fn 7)
    else if bitsOf v 31 16 ≠ 0 || 2 ^ q.sizeCode ≤ bitsOf v 15 0 || q.unconsumed < q.consumes (bitsOf v 15 0) then s.badDoorbell fn
    else (s.setCq fn i { q with head := bitsOf v 15 0 }).notifyCq fn i) := by
  show execCqDoorbell fn i v s = _
  rw [execCqDoorbell, hq]
  rfl

variable (hf : s.inFlr fn = false) (hr : s.ready = true)
include hf hr

theorem cqDoorbell_consumes (hz : bitsOf v 31 16 = 0) (hh : bitsOf v 15 0 < 2 ^ q.sizeCode)
    (hc : q.consumes (bitsOf v 15 0) ≤ q.unconsumed) :
    exec (.cqDoorbell fn i v) s = .next ((s.setCq fn i { q with head := bitsOf v 15 0 }).notifyCq fn i) := by
  rw [exec_cqDoorbell hq, if_neg (by simp [hf, hr]), if_neg (by simp [hz, hh, hc])]

theorem cqDoorbell_bad
    (h : bitsOf v 31 16 ≠ 0 ∨ 2 ^ q.sizeCode ≤ bitsOf v 15 0 ∨ q.unconsumed < q.consumes (bitsOf v 15 0)) :
    exec (.cqDoorbell fn i v) s = .next (s.badDoorbell fn) := by
  rw [exec_cqDoorbell hq, if_neg (by simp [hf, hr]), if_pos (by simpa [or_assoc] using h)]

end

/-- A bad doorbell is counted, flagged and raises its event: registers, event state and counters. -/
theorem badDoorbell_shape (s : State) (fn : Nat) : ∃ r e c, s.badDoorbell fn = { s with regs := r, ev := e, ctr := c } :=
  pulse_of s (setFld_of s ⟨s.regs, _, rfl⟩ _ _) _ _

end

/-- Settles O20: each doorbell by its ring, and then by its checks. -/
theorem doorbellsPostAndConsume : Obligations.DoorbellsPostAndConsume := by
  unfold Obligations.DoorbellsPostAndConsume
  intro s fn i v
  refine ⟨sqDoorbell_noRing, cqDoorbell_noRing, fun q hq hd hf hr => ⟨sqDoorbell_posts hq hd hf hr, sqDoorbell_bad hq hd hf hr⟩,
    fun q hq hf hr => ⟨cqDoorbell_consumes hq hf hr, cqDoorbell_bad hq hf hr⟩, ?frame⟩
  case frame =>
    obtain ⟨r, e, c, h⟩ := badDoorbell_shape s fn
    rw [h]

end Sys2Proof.Machine
end

section
/-!
Descriptors are fetched and checked (R342, R346, R350, R355).
-/
namespace Sys2Proof.Machine

section
variable {s u : State} {fn i n : Nat} {q : Sq} {c : Cq} {served : List Nat} {bytes : List Byte} {bad : Bool} {o : FetchOutcome}

/-! ### The turn, and what is read -/

/-- The round robin goes on to a turn, and the entry at an SQ's fetch head is read. -/
def State.readEntry (s : State) (fn : Nat) (q : Sq) (turn : Nat) (served : List Nat) : State :=
  ({ s with hif := { s.hif with turn := turn, served := served } } : State).emit (.busRead fn (q.entryAddr q.fetchHead) 32)

/-- A read of a descriptor that fails: the SQ is in ERROR, with its record and its event (R355). -/
def State.fetchFails (s : State) (fn i : Nat) (q : Sq) : State :=
  ((((s.setSq fn i { q with error := true }).bump (hifCtr fn 5)).setFlag (R.HIF_RING_ERR.err fn) true).setFld
    (R.HIF_RING_ERR.sq fn) i).pulse (0x1300 + fn) 0

/-- What follows a read of the entry at the fetch head. -/
def State.afterRead (s : State) (fn i : Nat) (q : Sq) (c : Cq) (o : FetchOutcome) : State :=
  match o with
  | .good bytes => s.takeDescriptor fn i q c bytes false
  | .badBuffer bytes => s.takeDescriptor fn i q c bytes true
  | .failed => s.fetchFails fn i q

theorem afterRead_read (s : State) (fn i : Nat) (q : Sq) (c : Cq) (bytes : List Byte) (bad : Bool) :
    s.afterRead fn i q c (if bad then .badBuffer bytes else .good bytes) = s.takeDescriptor fn i q c bytes bad := by
  cases bad <;> rfl

/-- The ring's state is used before a descriptor is fetched, unless the hub control region is fenced. -/
def State.useRing (s : State) (fn i : Nat) : State :=
  if s.hubFenced 2 then s else s.useHub 0 (fn % 9 * 1024 + i % 1024)

section
variable (hu : u = s.useRing fn i) (hq : u.sq? fn i = some q) (hc : u.cq? fn q.cq = some c)
include hu hq hc

theorem exec_descriptorFetch : exec (.descriptorFetch fn i o) s = .next (
    if !mayFetch u fn q then u
    else if !freeEntry c then u.bump (hifCtr fn 4)
    else
      match nextTurn u (ringKey fn i) q.weight with
      | none => u
      | some (n, served) => (u.readEntry fn q n served).afterRead fn i q c o) := by
  subst hu
  show execDescriptorFetch fn i o s = _
  unfold execDescriptorFetch
  dsimp only
  rw [← State.useRing, hq]
  dsimp only
  rw [hc]
  rfl

variable (hm : mayFetch u fn q = true)
include hm

theorem descriptorFetch_pauses (hf : freeEntry c = false) : exec (.descriptorFetch fn i o) s = .next (u.bump (hifCtr fn 4)) := by
  rw [exec_descriptorFetch hu hq hc, if_neg (by simp [hm]), if_pos (by simp [hf])]

variable (hf : freeEntry c = true)
include hf

theorem descriptorFetch_waits (ht : nextTurn u (ringKey fn i) q.weight = none) : exec (.descriptorFetch fn i o) s = .next u := by
  rw [exec_descriptorFetch hu hq hc, if_neg (by simp [hm]), if_neg (by simp [hf]), ht]

theorem descriptorFetch_reads (ht : nextTurn u (ringKey fn i) q.weight = some (n, served)) :
    exec (.descriptorFetch fn i o) s = .next ((u.readEntry fn q n served).afterRead fn i q c o) := by
  rw [exec_descriptorFetch hu hq hc, if_neg (by simp [hm]), if_neg (by simp [hf]), ht]

end

/-! ### A descriptor that has been read (R342, R350) -/

/-- The command that a descriptor of an SQ issues. -/
def issueOf (fn i : Nat) (d : Descriptor) : Issue :=
  { fn := fn, sq := i, tag := d.tag, port := commandPort fn d, unnamed := wordsUnnamed d }

/-- A descriptor that has been read is counted and held, its entry reused and a CQ entry reserved. -/
def State.holds (s : State) (fn i : Nat) (q : Sq) (c : Cq) (d : Descriptor) : State :=
  { s.fetched fn i q c with hif := { (s.fetched fn i q c).hif with
    inFlight := s.hif.inFlight ++
      [{ iss := issueOf fn i d, opcode := d.opcode, ops := descriptorWords d, fence := d.fence, started := false }] } }

/-- Counters and rings are all that a descriptor that is held changes. -/
theorem holds_shape (s : State) (fn i : Nat) (q : Sq) (c : Cq) (d : Descriptor) :
    s.holds fn i q c d = { s with ctr := (s.bump (hifCtr fn 0)).ctr, hif := (s.holds fn i q c d).hif } := rfl

theorem takeDescriptor_passes (h : descriptorCheck (descriptorOf bytes) q.bufSize bad = none) :
    s.takeDescriptor fn i q c bytes bad = s.holds fn i q c (descriptorOf bytes) := by
  unfold State.takeDescriptor
  dsimp only
  rw [h]
  rfl

theorem takeDescriptor_fails {st : Status} (h : descriptorCheck (descriptorOf bytes) q.bufSize bad = some st) :
    s.takeDescriptor fn i q c bytes bad
      = (s.holds fn i q c (descriptorOf bytes)).complete (issueOf fn i (descriptorOf bytes)) { Result.ok 0 0 with status := st } := by
  unfold State.takeDescriptor
  dsimp only
  rw [h]
  rfl

theorem sq_holds (s : State) (fn i : Nat) (q : Sq) (c : Cq) (d : Descriptor) : (s.holds fn i q c d).sq? fn i
    = some { q with fetchHead := (q.fetchHead + 1) % 2 ^ q.sizeCode, fetched := (q.fetched + 1) % 2 ^ 32 } :=
  State.sq_setSq (s.bump (hifCtr fn 0)) fn i _

theorem cq_holds (s : State) (fn i : Nat) (q : Sq) (c : Cq) (d : Descriptor) :
    (s.holds fn i q c d).cq? fn q.cq = some { c with reserved := c.reserved + 1 } :=
  State.cq_setCq _ fn q.cq _

theorem mayFetch_of (he : q.error = false) (hd : q.deleting = false) (hp : q.tail ≠ q.fetchHead)
    (hb : Tab.get (fun _ => false) s.hif.bme fn = true) (hh : s.hubFenced 2 = false) (hf : s.inFlr fn = false) (hr : s.ready = true) :
    mayFetch s fn q = true := by
  simp [mayFetch, he, hd, hp, hb, hh, hf, hr]

end

/-- Settles O21: the reservation, the turn, and then what the read of the entry brings. -/
theorem descriptorsAreFetchedAndChecked : Obligations.DescriptorsAreFetchedAndChecked := by
  unfold Obligations.DescriptorsAreFetchedAndChecked
  rintro s u fn i q c bytes d bad rfl hs hu hq hc he hdel hp hb hh hf hr
  replace hu : u = s.useRing fn i := by rw [hu, State.useRing, hs, if_neg Bool.false_ne_true]
  have hm : mayFetch u fn q = true := mayFetch_of he hdel hp hb hh hf hr
  refine ⟨fun hfull o => ?pauses, fun hroom => ?fetches⟩
  case pauses =>
    exact descriptorFetch_pauses hu hq hc hm (decide_eq_false (Nat.not_lt.mpr hfull))
  case fetches =>
    have hfree : freeEntry c = true := decide_eq_true hroom
    refine ⟨fun ht o => descriptorFetch_waits hu hq hc hm hfree ht, ?_⟩
    rintro n served v iss ht rfl rfl
    have hread := fun o => descriptorFetch_reads (o := o) hu hq hc hm hfree ht
    refine ⟨fun hck => ?passes, fun st hck => ?fails, hread .failed⟩
    case passes =>
      rw [hread, afterRead_read, takeDescriptor_passes hck]
      exact ⟨_, rfl, (holds_shape ..).trans rfl, rfl, rfl, sq_holds .., cq_holds .., rfl⟩
    case fails =>
      rw [hread, afterRead_read, takeDescriptor_fails hck]
      rfl

end Sys2Proof.Machine
end

section
/-!
Function-level resets and the device soft reset (R356 to R358, R382).
-/
namespace Sys2Proof.Machine

section
variable {s : State} {p : Port} {src v : Nat}

/-! ### Function-level resets (R356, R357) -/

/-- A function's commands and messages are withdrawn, its rings deleted, and its MSI-X state and its queues reset. -/
def State.clearFunction (s : State) (fn : Nat) : State := ((s.flrCommands fn).resetMsix fn).eventsFlr fn

/-- The region of a port is asked to reset: cold, or warm. -/
def State.askReset (s : State) (p : Port) (cold : Bool) : State :=
  s.modReset p (fun r => { r with warmReq := r.warmReq || !cold, coldReq := r.coldReq || cold })

theorem askReset_shape (s : State) (p : Port) (cold : Bool) :
    s.askReset p cold = { s with ports := (s.askReset p cold).ports } := rfl

theorem resetReq_askReset (s : State) (p : Port) (cold : Bool) : ((s.askReset p cold).port p).resetReq
    = { (s.port p).resetReq with
        warmReq := (s.port p).resetReq.warmReq || !cold, coldReq := (s.port p).resetReq.coldReq || cold } := by
  simp [State.askReset, State.modReset]

theorem exec_functionLevelReset : exec (.functionLevelReset p) s = .next (
    ((s.setFlr (p.val + 1) true).clearFunction (p.val + 1)).askReset p (bitAt (s.fld R.HIF_FLR_CTL.cold_on_flr) p.val)) := rfl

theorem exec_pf0FunctionLevelReset : exec .pf0FunctionLevelReset s = .next (s.clearFunction 0) := rfl

/-! ### The device soft reset (R358) -/

/-- Every function undergoes steps 2 to 4 of R356. -/
def State.clearFunctions (s : State) : State := (List.range 9).foldl (fun s f => (s.flrCommands f).resetMsix f) s

section
variable (h : Reaches s src R.HIF_SOFT_RESET.addr)
include h

theorem exec_deviceSoftReset : exec (.deviceSoftReset src v) s = .next (
    if bitsOf v 7 0 ≠ 0xD5 then s.bump (hifCtr 0 7)
    else if !bitAt v 31 then s
    else (({ s.clearFunctions with hif := { s.clearFunctions.hif with bme := s.hif.bme } } : State).bump (rstCtr 4)).resetPackage .soft) :=
  congrArg Host.Outcome.next (accessed_of_reaches h _)

theorem deviceSoftReset_wrongKey (hk : bitsOf v 7 0 ≠ 0xD5) : exec (.deviceSoftReset src v) s = .next (s.bump (hifCtr 0 7)) := by
  rw [exec_deviceSoftReset h, if_pos hk]

variable (hk : bitsOf v 7 0 = 0xD5)
include hk

theorem deviceSoftReset_noGo (hg : bitAt v 31 = false) : exec (.deviceSoftReset src v) s = .next s := by
  rw [exec_deviceSoftReset h, if_neg (not_not_intro hk), if_pos (by simp [hg])]

theorem deviceSoftReset_resets (hg : bitAt v 31 = true) : exec (.deviceSoftReset src v) s = .next
    ((({ s.clearFunctions with hif := { s.clearFunctions.hif with bme := s.hif.bme } } : State).bump (rstCtr 4)).resetPackage .soft) := by
  rw [exec_deviceSoftReset h, if_neg (not_not_intro hk), if_neg (by simp [hg])]

end

end

/-- Settles O22: the resets of a port's function and of PF0 by their steps, and the soft reset by its key and go. -/
theorem functionLevelResetsWithdrawAndAskForARegionReset : Obligations.FunctionLevelResetsWithdrawAndAskForARegionReset := by
  unfold Obligations.FunctionLevelResetsWithdrawAndAskForARegionReset
  intro s p src v
  refine ⟨?port, exec_pf0FunctionLevelReset, fun h => ⟨deviceSoftReset_wrongKey h, deviceSoftReset_noGo h,
    fun hk hg => ⟨s.clearFunctions, rfl, deviceSoftReset_resets h hk hg⟩⟩⟩
  case port =>
    refine ⟨_, exec_functionLevelReset, askReset_shape .., ?_, ?_⟩
    · rw [resetReq_askReset, Bool.or_eq_true]
      rfl
    · rw [resetReq_askReset, Bool.or_eq_true, Bool.not_eq_true']
      rfl

end Sys2Proof.Machine
end

section
/-!
Handovers, takeovers, and the commands of the pair (R354, R409, R412, R418 to R422).
-/
namespace Sys2Proof.Machine

section
variable {s t : State} {p : Port} {cause k h op0 : Nat} {i : Option Issue} {iss : Issue} {key : List Byte}

theorem pairCtr_handover : pairCtr p 4 = 0x2704 + 16 * p.val := by
  unfold pairCtr
  omega

theorem pairCtr_takeover : pairCtr p 5 = 0x2705 + 16 * p.val := by
  unfold pairCtr
  omega

/-! ### HANDOVER (R418, R419) -/

/-- A handover is over: cleared and counted. -/
def State.clearHandover (s : State) (p : Port) : State :=
  (s.modProt p (fun y => { y with handover := none, switchReq := none })).bump (pairCtr p 4)

/-- The command that asked for a handover, where one did, succeeds. -/
def State.succeedAsked (s : State) (i : Option Issue) : State :=
  match i with
  | some c => s.succeed c 0 0
  | none => s

/-- The port's part in a handover that is due, by its role: the active port hands off, the standby becomes active; no other takes part. -/
def State.doHandover (s : State) (p : Port) (k : Nat) (i : Option Issue) : State :=
  match (s.port p).prot.role with
  | .active => (((s.handOff p k).clearHandover p).succeedAsked i).protStatus p
  | .standby => (((s.becomeActive p k).clearHandover p).succeedAsked i).protStatus p
  | _ => s.dropHandover p

theorem exec_handover_captured (hh : (s.port p).prot.handover = some (h, k, i)) :
    exec (.handover p cause) s = .next (if h ≤ s.tick then s.doHandover p k i else s) := by
  show execHandover p cause s = _
  unfold execHandover
  dsimp only
  rw [hh]
  dsimp only
  by_cases hd : h ≤ s.tick
  · rw [if_pos hd, if_neg (by simp [hd])]
    cases i <;> rfl
  · rw [if_neg hd, if_pos (by simp [hd])]

theorem exec_handover_partner (hh : (s.port p).prot.handover = none) :
    exec (.handover p cause) s = .next (if s.paired then s.doHandover p (cause % 8) none else s) := by
  show execHandover p cause s = _
  unfold execHandover
  dsimp only
  rw [hh]
  dsimp only
  by_cases hd : s.paired = true
  · rw [if_pos hd, if_neg (by simp [hd])]
    rfl
  · rw [if_neg hd, if_pos (by simp [hd])]

theorem doHandover_active (hr : (s.port p).prot.role = .active) :
    s.doHandover p k i = (((s.handOff p k).clearHandover p).succeedAsked i).protStatus p := by
  rw [State.doHandover, hr]

theorem doHandover_standby (hr : (s.port p).prot.role = .standby) :
    s.doHandover p k i = (((s.becomeActive p k).clearHandover p).succeedAsked i).protStatus p := by
  rw [State.doHandover, hr]

theorem doHandover_other (ha : (s.port p).prot.role ≠ .active) (hs : (s.port p).prot.role ≠ .standby) :
    s.doHandover p k i = s.dropHandover p := by
  unfold State.doHandover
  split
  · exact absurd ‹_› ha
  · exact absurd ‹_› hs
  · rfl

theorem handover_early (hh : (s.port p).prot.handover = some (h, k, i)) (hd : s.tick < h) : exec (.handover p cause) s = .next s := by
  rw [exec_handover_captured hh, if_neg (Nat.not_le.mpr hd)]

theorem handover_due (hh : (s.port p).prot.handover = some (h, k, i)) (hd : h ≤ s.tick) :
    exec (.handover p cause) s = .next (s.doHandover p k i) := by
  rw [exec_handover_captured hh, if_pos hd]

theorem handover_unpaired (hh : (s.port p).prot.handover = none) (hp : s.paired = false) : exec (.handover p cause) s = .next s := by
  rw [exec_handover_partner hh, if_neg (by simp [hp])]

theorem handover_partner (hh : (s.port p).prot.handover = none) (hp : s.paired = true) :
    exec (.handover p cause) s = .next (s.doHandover p (cause % 8) none) := by
  rw [exec_handover_partner hh, if_pos hp]

/-! ### TAKEOVER (R420, R422) -/

/-- The sequence numbers of every ONU's messages go one further. -/
def TcfState.advanceSeqs (t : TcfState) : TcfState :=
  { t with seqs := (List.range 1023).foldl (fun a i => Tab.set (fun _ => 0) a i ((Tab.get (fun _ => 0) a i + 1) % 256)) t.seqs }

theorem exec_takeover : exec (.takeover p) s = .next (
    if (s.port p).prot.role ≠ .blind || !s.receiving p || s.fld (R.PRT_PROT_STATUS.dark_run p) < s.cap (R.PRT_PROT_CTL.dark_frames p)
    then s
    else ((s.modTcf p TcfState.advanceSeqs).bump (pairCtr p 5)).becomeActive p 4) := rfl

theorem takeover_ignored (h : (s.port p).prot.role ≠ .blind ∨ s.receiving p = false
    ∨ s.fld (R.PRT_PROT_STATUS.dark_run p) < s.cap (R.PRT_PROT_CTL.dark_frames p)) : exec (.takeover p) s = .next s := by
  rw [exec_takeover, if_pos]
  rcases h with h | h | h <;> simp [h]

theorem takeover_takes (hr : (s.port p).prot.role = .blind) (hv : s.receiving p = true)
    (hd : s.cap (R.PRT_PROT_CTL.dark_frames p) ≤ s.fld (R.PRT_PROT_STATUS.dark_run p)) :
    exec (.takeover p) s = .next (((s.modTcf p TcfState.advanceSeqs).bump (0x2705 + 16 * p.val)).becomeActive p 4) := by
  rw [exec_takeover, if_neg (by simp [hr, hv, hd]), pairCtr_takeover]

/-! ### PAIR_SWITCH (R354, R418) -/

section
variable (hp : p.val = bitsOf op0 2 0) (hs : Starts s iss p [(op0, 7)]) (ht : t = s.startCmd iss)
include hp hs ht

theorem exec_pairSwitch : exec (.pairSwitch iss op0) s = .next (t.fwCmd iss (fun s =>
    if !s.paired || !((s.port p).prot.role = .active || (s.port p).prot.role = .standby) then s.refuse iss 0x27
    else if (s.port p).prot.switchReq.isSome || (s.port p).prot.handover.isSome then s.refuse iss 0x28
    else s.modProt p (fun y => { y with switchReq := some iss }))) := by
  subst ht
  have hport : Fin.ofNat 8 (bitsOf op0 2 0) = p := Fin.ext (by rw [← hp]; exact Nat.mod_eq_of_lt p.isLt)
  show execPairSwitch iss op0 s = _
  rw [execPairSwitch, hport]
  exact congrArg Host.Outcome.next (hostCmdAt_of_starts hs _)

theorem pairSwitch_notRunning (hf : t.flag R.RST_STATUS.fw_running = false) :
    exec (.pairSwitch iss op0) s = .next (t.refuse iss 0x2A) := by
  rw [exec_pairSwitch hp hs ht, fwCmd_refused hf]

variable (hf : t.flag R.RST_STATUS.fw_running = true) (ha : t.fw.actAt = none)
include hf ha

theorem pairSwitch_noPart (h : t.paired = false ∨ ((t.port p).prot.role ≠ .active ∧ (t.port p).prot.role ≠ .standby)) :
    exec (.pairSwitch iss op0) s = .next (t.refuse iss 0x27) := by
  rw [exec_pairSwitch hp hs ht, fwCmd_runs hf ha, if_pos]
  rcases h with h | ⟨h1, h2⟩
  · simp [h]
  · simp [h1, h2]

variable (hpd : t.paired = true) (hr : (t.port p).prot.role = .active ∨ (t.port p).prot.role = .standby)
include hpd hr

theorem exec_pairSwitch_part : exec (.pairSwitch iss op0) s = .next (
    if (t.port p).prot.switchReq.isSome || (t.port p).prot.handover.isSome then t.refuse iss 0x28
    else t.modProt p (fun y => { y with switchReq := some iss })) := by
  rw [exec_pairSwitch hp hs ht, fwCmd_runs hf ha, if_neg]
  rcases hr with hr | hr <;> simp [hpd, hr]

theorem pairSwitch_second (h : (t.port p).prot.switchReq ≠ none ∨ (t.port p).prot.handover ≠ none) :
    exec (.pairSwitch iss op0) s = .next (t.refuse iss 0x28) := by
  rw [exec_pairSwitch_part hp hs ht hf ha hpd hr, if_pos (by simpa [Option.isSome_iff_ne_none] using h)]

theorem pairSwitch_waits (h1 : (t.port p).prot.switchReq = none) (h2 : (t.port p).prot.handover = none) :
    exec (.pairSwitch iss op0) s = .next (t.modProt p (fun y => { y with switchReq := some iss })) := by
  rw [exec_pairSwitch_part hp hs ht hf ha hpd hr, if_neg (by simp [h1, h2])]

end

/-! ### PAIR_KEY (R412) -/

theorem pairKey_foreign (hw : waitsInRing s iss = false) (hfn : iss.fn ≠ 0) :
    exec (.pairKey iss key) s = .next ((s.startCmd iss).refuse iss 0x20) := by
  refine congrArg Host.Outcome.next ?_
  rw [State.pf0Cmd, if_neg (by simp [hw]), if_pos hfn]

section
variable (hs : HubStarts s iss []) (ht : t = s.startCmd iss)
include hs ht

theorem exec_pairKey : exec (.pairKey iss key) s = .next (
    if key.length ≠ 32 then t.refuse iss 0x29
    else { t with pair := { t.pair with keyDue := t.pair.keyDue ++ [(iss, beNat key)] } }) := by
  subst ht
  exact congrArg Host.Outcome.next (pf0Cmd_of_starts hs _)

theorem pairKey_badLength (hl : key.length ≠ 32) : exec (.pairKey iss key) s = .next (t.refuse iss 0x29) := by
  rw [exec_pairKey hs ht, if_pos hl]

theorem pairKey_waits (hl : key.length = 32) :
    exec (.pairKey iss key) s = .next { t with pair := { t.pair with keyDue := t.pair.keyDue ++ [(iss, beNat key)] } } := by
  rw [exec_pairKey hs ht, if_neg (not_not_intro hl)]

end

end

/-- Settles O53: a handover by its tick and the port's role, a takeover by its dark frames, and the pair's commands by their checks. -/
theorem handoversTakeoversAndPairCommands : Obligations.HandoversTakeoversAndPairCommands := by
  unfold Obligations.HandoversTakeoversAndPairCommands
  intro s p cause iss op0 key
  refine ⟨fun fin hfin => ?handover, fun ha hs => ⟨fun h k i hh => ⟨handover_early hh, fun hd => ?_⟩, fun hh hp => ?_⟩, takeover_ignored,
    takeover_takes, fun hp hs t ht => ⟨pairSwitch_notRunning hp hs ht, fun hf hact => ⟨pairSwitch_noPart hp hs ht hf hact,
      fun hpd hr => ⟨pairSwitch_second hp hs ht hf hact hpd hr, pairSwitch_waits hp hs ht hf hact hpd hr⟩⟩⟩,
    pairKey_foreign, fun hs t ht => ⟨pairKey_badLength hs ht, pairKey_waits hs ht⟩⟩
  case handover =>
    obtain rfl : fin = fun t => t.clearHandover p := by
      rw [hfin, ← pairCtr_handover]
      rfl
    refine ⟨fun h k i hh => ⟨handover_early hh, fun hd hr => ?_, fun hd hr => ?_⟩, handover_unpaired, fun hh hp hr => ?_, fun hh hp hr => ?_⟩
    · rw [handover_due hh hd, doHandover_active hr]
      exact ⟨by rintro rfl; rfl, by rintro c rfl; rfl⟩
    · rw [handover_due hh hd, doHandover_standby hr]
      exact ⟨by rintro rfl; rfl, by rintro c rfl; rfl⟩
    · rw [handover_partner hh hp, doHandover_active hr]
      rfl
    · rw [handover_partner hh hp, doHandover_standby hr]
      rfl
  · rw [handover_due hh hd, doHandover_other ha hs]
  · rw [handover_partner hh hp, doHandover_other ha hs]

end Sys2Proof.Machine
end

section
/-!
What every step keeps, what holds at reset, and the order in which commands run.
-/
namespace Sys2Proof.Machine

section
variable {s t : State} {c : Instr}

/-- A state that meets the invariant is good for its own tick number, frame counter and queue. -/
theorem State.Inv.good (h : s.Inv) : Good s.tick (some s.fc) s.pending s :=
  ⟨h, rfl, fun _ hx => (Option.mem_some.mp hx).symm ▸ rfl, rfl⟩

/-- The queue of waiting commands is no part of the invariant. -/
theorem State.Inv.withPending (h : s.Inv) (l : List Instr) : ({ s with pending := l } : State).Inv :=
  ⟨h.regs, h.snap0, h.snap1, h.snap2, h.snap3, h.counters, h.values, h.fc⟩

theorem GoodOut.good_of_next {n : Nat} {x : Option Nat} {q : List Instr} (h : GoodOut n x q (.next t)) : Good n x q t := by
  obtain ⟨u, hu, hg⟩ := h
  cases hu
  exact hg

/-- What any command leaves: the invariant, the queue it was given, and the tick number but for a frame tick. -/
theorem exec_keeps (h : s.Inv) (he : exec c s = .next t) : Good (s.tick + ticksOf c) none s.pending t :=
  (he ▸ exec_good_any c h.good.weak : GoodOut _ _ _ (.next t)).good_of_next

theorem exec_keeps_fc (h : s.Inv) (hc : movesFc c = false) (he : exec c s = .next t) : t.fc = s.fc :=
  (he ▸ exec_good hc h.good : GoodOut _ _ _ (.next t)).good_of_next.fc s.fc rfl

end

/-- Settles O5: an idle step changes nothing, and a command's step keeps the invariant whatever the command. -/
theorem everyStepKeepsTheInvariant : Obligations.EveryStepKeepsTheInvariant := by
  unfold Obligations.EveryStepKeepsTheInvariant
  intro s t h he
  unfold step at he
  split at he
  · cases he
    exact h
  · exact (exec_keeps (h.withPending _) he).inv

/-- Settles O7. -/
theorem onlyTheTickAdvancesTheTickNumber : Obligations.OnlyTheTickAdvancesTheTickNumber :=
  fun _ _ _ h he => (exec_keeps h he).tick

/-- Settles O8. -/
theorem theFrameCounterMovesOnlyWhereItMay : Obligations.TheFrameCounterMovesOnlyWhereItMay :=
  fun _ _ _ h hc he => exec_keeps_fc h hc he

/-- Settles O9. -/
theorem commandsLeaveTheQueue : Obligations.CommandsLeaveTheQueue :=
  fun _ _ _ h he => (exec_keeps h he).pending

/-- Settles O1: by the definition of a step. -/
theorem stepRunsTheFrontCommand : Obligations.StepRunsTheFrontCommand :=
  fun _ _ _ => rfl

/-- Settles O2: by the definition of a step on an empty queue. -/
theorem anEmptyQueueIdles : Obligations.AnEmptyQueueIdles := by
  intro s h
  rw [step, h]

/-- Settles O6: every arm of `exec` is a next state. -/
theorem noCommandStopsTheMachine : Obligations.NoCommandStopsTheMachine := by
  intro c s
  cases c <;> exact ⟨_, rfl⟩

/-- PF0 owns the event queues 0 to 15 at reset (R372). -/
theorem queueOwner_reset_pf0 : ∀ q < 16, State.reset.queueOwner q = 0 := by decide

/-- A port function owns six event queues at reset (R372). -/
theorem queueOwner_reset_port : ∀ k < 8, ∀ j < 6, State.reset.queueOwner (16 + 6 * k + j) = k + 1 := by decide

theorem mode_reset : ∀ p, State.reset.mode p = 0 := by decide

/-- Settles O3: what reads through a table reads as the table's unlisted entries. -/
theorem resetLeaves : Obligations.ResetLeaves :=
  ⟨fun _ => rfl, fun _ => rfl, fun _ => ⟨rfl, rfl⟩, queueOwner_reset_pf0, queueOwner_reset_port, by decide, mode_reset,
    fun _ _ => ⟨rfl, rfl⟩⟩

/-- Settles O4: empty tables are in canonical form. -/
theorem resetMeetsTheInvariant : Obligations.ResetMeetsTheInvariant :=
  ⟨Tab.wf_nil _, Tab.wf_nil _, Tab.wf_nil _, Tab.wf_nil _, Tab.wf_nil _, Tab.wf_nil _, by rintro _ ⟨⟩, by decide⟩

end Sys2Proof.Machine
end

section
/-!
Masks, pending bits, and the inputs of a source (R361 to R369, Table 14-5).
-/
namespace Sys2Proof.Machine

section
variable {s t : State} {fn w v id info : Nat} {b : Bool}

/-! ### The lists of a queue, and sources that enter and leave PENDING -/

theorem joinList_list (s : State) (id : Nat) :
    ((s.joinList id).evQueue (s.src id).queue).list = (s.evQueue (s.src id).queue).list ++ [.source id] := by
  simp [State.joinList]

theorem leaveList_list (s : State) (id : Nat) :
    ((s.leaveList id).evQueue (s.src id).queue).list = (s.evQueue (s.src id).queue).list.filter (fun e => e ≠ .source id) := by
  simp [State.leaveList]

@[simp] theorem joinList_src (s : State) (id i : Nat) : (s.joinList id).src i = s.src i := rfl

@[simp] theorem leaveList_src (s : State) (id i : Nat) : (s.leaveList id).src i = s.src i := rfl

theorem makePending_src (s : State) (id : Nat) (sw : Bool) :
    (s.makePending id sw).src id = { s.src id with st := .pending, count := 0, sw := sw, times := (s.src id).times + 1 } := by
  simp only [State.makePending]
  split <;> simp

theorem dropPending_src (s : State) (id : Nat) : (s.dropPending id).src id = { s.src id with st := .idle, count := 0, sw := false } := by
  simp [State.dropPending]

/-- An unmasked source that is dropped has left its queue's list. -/
theorem dropPending_list (h : (s.src id).masked = false) :
    ((s.dropPending id).evQueue (s.src id).queue).list = (s.evQueue (s.src id).queue).list.filter (fun e => e ≠ .source id) := by
  simp [State.dropPending, h, leaveList_list]

/-! ### Masking and unmasking (R368) -/

theorem maskSource_of_masked (h : (s.src id).masked = true) : s.maskSource id = s := if_pos h

theorem maskSource_of_unmasked (h : (s.src id).masked = false) :
    s.maskSource id = (if (s.src id).st = .pending then s.leaveList id else s).setSrc id { s.src id with masked := true } :=
  if_neg (by simp [h])

theorem unmaskSource_of_unmasked (h : (s.src id).masked = false) : s.unmaskSource id = s := if_neg (by simp [h])

theorem unmaskSource_of_masked (h : (s.src id).masked = true) :
    s.unmaskSource id = if (s.src id).st = .pending then (s.setSrc id { s.src id with masked := false }).joinList id
      else s.setSrc id { s.src id with masked := false } := if_pos h

theorem maskSource_src (s : State) (id : Nat) : (s.maskSource id).src id = { s.src id with masked := true } := by
  by_cases h : (s.src id).masked = true
  · rw [maskSource_of_masked h, ← h]
  · rw [maskSource_of_unmasked (by simpa using h), State.src_setSrc]

theorem unmaskSource_src (s : State) (id : Nat) : (s.unmaskSource id).src id = { s.src id with masked := false } := by
  by_cases h : (s.src id).masked = true
  · rw [unmaskSource_of_masked h]
    split <;> simp
  · have h' : (s.src id).masked = false := by simpa using h
    rw [unmaskSource_of_unmasked h', ← h']

/-- What is told of event state alone is told by its own event state. -/
theorem eq_of_ev (h : ∃ e, t = { s with ev := e }) : t = { s with ev := t.ev } := by
  obtain ⟨e, rfl⟩ := h
  rfl

theorem maskSource_shape (s : State) (id : Nat) : ∃ e, s.maskSource id = { s with ev := e } := by
  by_cases h : (s.src id).masked = true
  · exact ⟨s.ev, maskSource_of_masked h⟩
  · rw [maskSource_of_unmasked (by simpa using h)]
    split
    · exact ev_trans (leaveList_ev s id) (setSrc_ev ..)
    · exact setSrc_ev ..

theorem unmaskSource_shape (s : State) (id : Nat) : ∃ e, s.unmaskSource id = { s with ev := e } := by
  by_cases h : (s.src id).masked = true
  · rw [unmaskSource_of_masked h]
    split
    · exact ev_trans (setSrc_ev ..) (joinList_ev ..)
    · exact setSrc_ev ..
  · exact ⟨s.ev, unmaskSource_of_unmasked (by simpa using h)⟩

theorem maskSource_list (h : (s.src id).masked = false) (hp : (s.src id).st = .pending) :
    ((s.maskSource id).evQueue (s.src id).queue).list = (s.evQueue (s.src id).queue).list.filter (fun e => e ≠ .source id) := by
  rw [maskSource_of_unmasked h, if_pos hp, State.evQueue_setSrc, leaveList_list]

theorem unmaskSource_list (h : (s.src id).masked = true) (hp : (s.src id).st = .pending) :
    ((s.unmaskSource id).evQueue (s.src id).queue).list = (s.evQueue (s.src id).queue).list ++ [.source id] := by
  rw [unmaskSource_of_masked h, if_pos hp]
  simpa using joinList_list (s.setSrc id { s.src id with masked := false }) id

/-! ### Pending bits (R369) -/

theorem pendSource_of_idle (h : (s.src id).st = .idle) : s.pendSource id = s.makePending id true := by
  simp [State.pendSource, h]

theorem pendSource_of_pending (h : (s.src id).st = .pending) : s.pendSource id = s.setSrc id { s.src id with sw := true } := by
  simp [State.pendSource, h]

theorem pendSource_of_inService (h : (s.src id).st = .inService) : s.pendSource id = s.bump 0x230A := by
  simp [State.pendSource, h]

theorem unpendSource_edge (h : (s.src id).st = .pending) (hl : levelSense (s.src id).sense = false) :
    s.unpendSource id = s.dropPending id := by
  simp [State.unpendSource, h, hl]

theorem unpendSource_of_not_pending (h : (s.src id).st ≠ .pending) : s.unpendSource id = s := if_neg h

/-! ### The words of a view (Table 14-7) -/

/-- The value of one bit for each of the first `n` places. -/
def bitSum (g : Nat → Bool) (n : Nat) : Nat := (List.range n).foldl (fun x k => x + bit01 (g k) * 2 ^ k) 0

theorem bitSum_succ (g : Nat → Bool) (n : Nat) : bitSum g (n + 1) = bitSum g n + bit01 (g n) * 2 ^ n := by
  simp [bitSum, List.range_succ]

theorem bitSum_lt (g : Nat → Bool) (n : Nat) : bitSum g n < 2 ^ n := by
  induction n with
  | zero => simp [bitSum]
  | succ n ih =>
    rw [bitSum_succ, Nat.pow_succ]
    cases g n <;> simp [bit01] <;> omega

theorem testBit_bitSum (g : Nat → Bool) {n k : Nat} (h : k < n) : (bitSum g n).testBit k = g k := by
  induction n with
  | zero => omega
  | succ n ih =>
    have hsum : bitSum g (n + 1) = 2 ^ n * bit01 (g n) + bitSum g n := by rw [bitSum_succ, Nat.mul_comm, Nat.add_comm]
    rw [hsum, Nat.testBit_two_pow_mul_add _ (bitSum_lt g n)]
    rcases Nat.lt_succ_iff_lt_or_eq.mp h with hk | rfl
    · rw [if_pos hk, ih hk]
    · cases g k <;> simp [bit01]

/-- The bit of a view's word that index `i` stands for. -/
def viewBit (s : State) (fn i : Nat) (f : Src → Bool) : Bool :=
  match viewSource s fn i with
  | some id => f (s.src id)
  | none => false

theorem viewBits_eq_bitSum (s : State) (fn w : Nat) (f : Src → Bool) :
    s.viewBits fn w f = bitSum (fun k => viewBit s fn (32 * w + k) f) 32 := by
  unfold State.viewBits bitSum
  congr
  funext n k
  unfold viewBit
  rcases hv : viewSource s fn (32 * w + k) with _ | id
  · simp [hv, bit01]
  · simp [hv]

theorem testBit_viewBits (s : State) (fn w : Nat) (f : Src → Bool) {k : Nat} (h : k < 32) :
    (s.viewBits fn w f).testBit k = viewBit s fn (32 * w + k) f := by
  rw [viewBits_eq_bitSum, testBit_bitSum _ h]

/-- PF0 reads the masks at either of the two mask addresses of a word. -/
theorem viewRead_mask_pf0 (hw : w < 256) {k : Nat} (hk : k < 2) :
    s.viewRead 0 (0x8000 + 0x400 * k + 4 * w) = s.viewBits 0 w (fun x => x.masked) := by
  have e : (0x8000 + 0x400 * k + 4 * w - 0x8000) % 0x400 / 4 = w := by omega
  simp only [State.viewRead, if_true, e]
  rw [if_neg (by omega), if_neg (by omega), if_pos (by omega)]

/-- PF0 reads the pending states at either of the two pending addresses of a word. -/
theorem viewRead_pending_pf0 (hw : w < 256) {k : Nat} (hk : k < 2) :
    s.viewRead 0 (0x8800 + 0x400 * k + 4 * w) = s.viewBits 0 w (fun x => x.st = .pending) := by
  have e : (0x8800 + 0x400 * k + 4 * w - 0x8000) % 0x400 / 4 = w := by omega
  simp only [State.viewRead, if_true, e]
  rw [if_neg (by omega), if_neg (by omega), if_neg (by omega), if_pos (by omega)]

theorem viewRead_mask_port (hw : w < 64) (hf : fn ≠ 0) {k : Nat} (hk : k < 2) :
    s.viewRead fn (0xA000 + 0x100 * k + 4 * w) = s.viewBits fn w (fun x => x.masked) := by
  have e : (0xA000 + 0x100 * k + 4 * w - 0xA000) % 0x100 / 4 = w := by omega
  simp only [State.viewRead, hf, if_false, e]
  rw [if_neg (by omega), if_neg (by omega), if_pos (by omega)]

theorem viewRead_pending_port (hw : w < 64) (hf : fn ≠ 0) {k : Nat} (hk : k < 2) :
    s.viewRead fn (0xA200 + 0x100 * k + 4 * w) = s.viewBits fn w (fun x => x.st = .pending) := by
  have e : (0xA200 + 0x100 * k + 4 * w - 0xA000) % 0x100 / 4 = w := by omega
  simp only [State.viewRead, hf, if_false, e]
  rw [if_neg (by omega), if_neg (by omega), if_neg (by omega), if_pos (by omega)]

/-! ### Inputs (Table 14-5) -/

/-- The source with its new input. -/
def State.withInput (s : State) (id : Nat) (b : Bool) (info : Nat) : State := s.setSrc id { s.src id with input := b, info := info }

@[simp] theorem withInput_src (s : State) (id : Nat) (b : Bool) (info : Nat) :
    (s.withInput id b info).src id = { s.src id with input := b, info := info } := State.src_setSrc ..

@[simp] theorem withInput_counter (s : State) (id : Nat) (b : Bool) (info i : Nat) : (s.withInput id b info).counter i = s.counter i := rfl

theorem sourceInput_level (h : levelSense (s.src id).sense = true) : s.sourceInput id b info = (s.withInput id b info).settleLevel id :=
  if_pos h

theorem sourceInput_no_edge (h : levelSense (s.src id).sense = false) (he : edgeAt (s.src id).sense (s.src id).input b = false) :
    s.sourceInput id b info = s.withInput id b info := by
  simp [State.sourceInput, State.withInput, h, he]

theorem sourceInput_edge (h : levelSense (s.src id).sense = false) (he : edgeAt (s.src id).sense (s.src id).input b = true)
    (hp : (s.src id).st ≠ .pending) : s.sourceInput id b info = (s.withInput id b info).makePending id false := by
  cases hst : (s.src id).st with
  | pending => exact absurd hst hp
  | idle => simp [State.sourceInput, State.withInput, h, he, hst]
  | inService => simp [State.sourceInput, State.withInput, h, he, hst]

theorem sourceInput_edge_again (h : levelSense (s.src id).sense = false) (he : edgeAt (s.src id).sense (s.src id).input b = true)
    (hp : (s.src id).st = .pending) :
    s.sourceInput id b info = ((s.withInput id b info).setSrc id
      { s.src id with input := b, info := info, count := min ((s.src id).count + 1) 255 }).bump 0x2304 := by
  simp [State.sourceInput, State.withInput, h, he, hp]

theorem settleLevel_rises (ha : assertedAt (s.src id).sense (s.src id).input = true) (hp : (s.src id).st = .idle) :
    s.settleLevel id = s.makePending id false := by
  simp [State.settleLevel, ha, hp]

theorem settleLevel_stays (ha : assertedAt (s.src id).sense (s.src id).input = true) (hp : (s.src id).st ≠ .idle) :
    s.settleLevel id = s := by
  simp [State.settleLevel, ha, hp]

theorem settleLevel_withdrawn (ha : assertedAt (s.src id).sense (s.src id).input = false) (hp : (s.src id).st = .pending)
    (hsw : (s.src id).sw = false) : s.settleLevel id = (s.dropPending id).bump 0x2305 := by
  simp [State.settleLevel, ha, hp, hsw]

theorem settleLevel_leaves_service (ha : assertedAt (s.src id).sense (s.src id).input = false) (hp : (s.src id).st = .inService) :
    s.settleLevel id = s.setSrc id { s.src id with st := .idle } := by
  simp [State.settleLevel, ha, hp]

/-- Settling a level source leaves its input and its info. -/
theorem settleLevel_input (s : State) (id : Nat) :
    ((s.settleLevel id).src id).input = (s.src id).input ∧ ((s.settleLevel id).src id).info = (s.src id).info := by
  simp only [State.settleLevel]
  split
  · split
    · simp [makePending_src]
    · exact ⟨rfl, rfl⟩
  · split
    · exact ⟨rfl, rfl⟩
    · split
      · exact ⟨rfl, rfl⟩
      · simp [dropPending_src]
    · simp

/-- A source holds the input it was last given. -/
theorem sourceInput_input (s : State) (id : Nat) (b : Bool) (info : Nat) :
    ((s.sourceInput id b info).src id).input = b ∧ ((s.sourceInput id b info).src id).info = info := by
  by_cases h : levelSense (s.src id).sense = true
  · rw [sourceInput_level h, (settleLevel_input _ _).1, (settleLevel_input _ _).2]
    simp
  · have h' : levelSense (s.src id).sense = false := by simpa using h
    by_cases he : edgeAt (s.src id).sense (s.src id).input b = true
    · by_cases hp : (s.src id).st = .pending
      · rw [sourceInput_edge_again h' he hp]
        simp
      · rw [sourceInput_edge h' he hp, makePending_src]
        simp
    · rw [sourceInput_no_edge h' (by simpa using he)]
      simp

/-- The mirror bits leave event state and counters. -/
theorem recordMirror_ev (s : State) (id : Nat) : (s.recordMirror id).ev = s.ev := by
  obtain ⟨r, h⟩ := recordMirror_shape s id
  rw [h]

theorem recordMirror_ctr (s : State) (id : Nat) : (s.recordMirror id).ctr = s.ctr := by
  obtain ⟨r, h⟩ := recordMirror_shape s id
  rw [h]

theorem sourceInput_regs (s : State) (id : Nat) (b : Bool) (info : Nat) : (s.sourceInput id b info).regs = s.regs := by
  obtain ⟨e, c, h⟩ := sourceInput_shape s id b info
  rw [h]

/-- The state in which a level input is taken: the mirror bit first, where the input rises (R363). -/
def State.mirrored (s : State) (id : Nat) (b : Bool) : State := if b && !(s.src id).input then s.recordMirror id else s

theorem level_eq (s : State) (id : Nat) (b : Bool) (info : Nat) : s.level id b info = (s.mirrored id b).sourceInput id b info := rfl

@[simp] theorem mirrored_src (s : State) (id i : Nat) (b : Bool) : (s.mirrored id b).src i = s.src i := by
  unfold State.mirrored State.src
  split
  · rw [recordMirror_ev]
  · rfl

@[simp] theorem mirrored_counter (s : State) (id i : Nat) (b : Bool) : (s.mirrored id b).counter i = s.counter i := by
  unfold State.mirrored State.counter
  split
  · rw [recordMirror_ctr]
  · rfl

theorem level_regs (s : State) (id : Nat) (b : Bool) (info : Nat) : (s.level id b info).regs = (s.mirrored id b).regs :=
  sourceInput_regs ..

theorem mirrored_regs_same (h : b = false ∨ (s.src id).input = true ∨ mirrorBit id = none) : (s.mirrored id b).regs = s.regs := by
  unfold State.mirrored
  split
  · rename_i hb
    rcases h with h | h | h
    · simp [h] at hb
    · simp [h] at hb
    · simp [State.recordMirror, h]
  · rfl

theorem mirrored_regs_rise {a i : Nat} (hb : b = true) (hi : (s.src id).input = false) (hm : mirrorBit id = some (a, i)) :
    (s.mirrored id b).regs = (s.setReg a (wordSetField (s.reg a) i i 1)).regs := by
  simp [State.mirrored, hb, hi, State.recordMirror, hm]

end

/-- Settles O10: a write of a view's word that reaches its register folds over the word's set bits, and a read puts one bit for each source. -/
theorem maskAndPendingWritesActOnTheSourcesTheyName : Obligations.MaskAndPendingWritesActOnTheSourcesTheyName := by
  unfold Obligations.MaskAndPendingWritesActOnTheSourcesTheyName
  intro s fn w v
  refine ⟨fun h => ?_, fun h => ?_, fun h => ?_, fun h => ?_, fun hw k hk => ⟨viewRead_mask_pf0 hw hk, viewRead_pending_pf0 hw hk⟩,
    fun hw hf k hk => ⟨viewRead_mask_port hw hf hk, viewRead_pending_port hw hf hk⟩, fun f b hb => testBit_viewBits s fn w f hb⟩
  all_goals exact congrArg Host.Outcome.next (accessed_of_reaches h _)

/-- Settles O11: masks, and then the pending bit by the source's state. -/
theorem maskingAndUnmaskingASource : Obligations.MaskingAndUnmaskingASource := by
  unfold Obligations.MaskingAndUnmaskingASource
  intro s id
  refine ⟨⟨maskSource_src s id, eq_of_ev (maskSource_shape s id), maskSource_list⟩,
    ⟨unmaskSource_src s id, eq_of_ev (unmaskSource_shape s id), unmaskSource_list⟩, fun h => ?_, pendSource_of_pending,
    pendSource_of_inService, fun h hl => ?_, unpendSource_of_not_pending⟩
  · rw [pendSource_of_idle h, makePending_src]
  · rw [unpendSource_edge h hl]
    exact ⟨dropPending_src s id, dropPending_list⟩

/-- Settles O12: an input is taken with its mirror bit, and then the source moves by its sense and its state. -/
theorem sourceInputsFollowTheStateTable : Obligations.SourceInputsFollowTheStateTable := by
  unfold Obligations.SourceInputsFollowTheStateTable
  intro s id info b hid
  refine ⟨⟨s.level id b (info % 2 ^ 32), congrArg Host.Outcome.next (if_pos hid), ?_, fun h => ?_, fun a i hb hi hm => ?_,
    ?_, ?_, fun h hp ha => ?_, fun h hp hsw ha => ?_, fun h hp ha => ?_, fun h he hp => ?_, fun h he hp => ?_, fun h he => ?_⟩, fun h => ?_⟩
  · obtain ⟨r, e, c, h⟩ := level_shape s id b (info % 2 ^ 32)
    rw [h]
  · rw [level_regs, mirrored_regs_same h]
  · rw [level_regs, mirrored_regs_rise hb hi hm]
  · rw [level_eq, (sourceInput_input _ _ _ _).1]
  · rw [level_eq, (sourceInput_input _ _ _ _).2]
  · rw [level_eq, sourceInput_level (by simpa using h), settleLevel_rises (by simpa using ha) (by simpa using hp), makePending_src]
    exact ⟨rfl, rfl⟩
  · rw [level_eq, sourceInput_level (by simpa using h), settleLevel_withdrawn (by simpa using ha) (by simpa using hp) (by simpa using hsw)]
    obtain ⟨e, hd⟩ := dropPending_shape ((s.mirrored id b).withInput id b (info % 2 ^ 32)) id
    refine ⟨by simp [dropPending_src], ?_⟩
    rw [State.counter_bump, hd]
    exact congrArg (·.add 1) (mirrored_counter s id 0x2305 b)
  · rw [level_eq, sourceInput_level (by simpa using h), settleLevel_leaves_service (by simpa using ha) (by simpa using hp)]
    simp
  · rw [level_eq, sourceInput_edge (by simpa using h) (by simpa using he) (by simp [hp]), makePending_src]
    exact ⟨rfl, rfl⟩
  · rw [level_eq, sourceInput_edge_again (by simpa using h) (by simpa using he) (by simpa using hp)]
    simp [hp]
  · rw [level_eq, sourceInput_no_edge (by simpa using h) (by simpa using he)]
    simp
  · exact congrArg Host.Outcome.next (if_pos (by simp [hid, h]))

end Sys2Proof.Machine
end

section
/-!
Capture, doorbells and moderation of event queues (R374 to R378).
-/
namespace Sys2Proof.Machine

section
variable {s x : State} {fn q v vec id tickOffset : Nat} {timer : Bool}

/-! ### EVENT_CAPTURE (R375) -/

/-- What a queue that may capture does with the head of its list. -/
def State.captureHead (s : State) (q tickOffset : Nat) : State :=
  match (s.evQueue q).list with
  | [] => s
  | .source id :: _ =>
    if (s.evQueue q).full then s.bump 0x2306
    else (((s.writeRecord q (sourceRecord s q id tickOffset)).afterCapture id).bump 0x2300).moderate q false
  | .marker id new :: _ =>
    if (s.evQueue q).full then s.bump 0x2306
    else ((s.writeRecord q (markerRecord s q id new tickOffset)).bump 0x2301).moderate q false

/-- The queue's state word is used first (Table 12-4); then it captures where it still may. -/
theorem exec_eventCapture (hq : q < 64) (hc : canCapture x q = true) (hs : s = x.useHub 1 q) :
    exec (.eventCapture q tickOffset) x = .next (if canCapture s q then s.captureHead q tickOffset else s) := by
  show execEventCapture q tickOffset x = _
  rw [execEventCapture, Nat.mod_eq_of_lt hq]
  dsimp only
  rw [if_pos hc, ← hs]
  rfl

theorem captureHead_source {rest : List QEntry} (hl : (s.evQueue q).list = .source id :: rest) (hf : (s.evQueue q).full = false) :
    s.captureHead q tickOffset = (((s.writeRecord q (sourceRecord s q id tickOffset)).afterCapture id).bump 0x2300).moderate q false := by
  simp [State.captureHead, hl, hf]

theorem captureHead_marker {new : Nat} {rest : List QEntry} (hl : (s.evQueue q).list = .marker id new :: rest)
    (hf : (s.evQueue q).full = false) :
    s.captureHead q tickOffset = ((s.writeRecord q (markerRecord s q id new tickOffset)).bump 0x2301).moderate q false := by
  simp [State.captureHead, hl, hf]

theorem captureHead_full {e : QEntry} {rest : List QEntry} (hl : (s.evQueue q).list = e :: rest) (hf : (s.evQueue q).full = true) :
    s.captureHead q tickOffset = s.bump 0x2306 := by
  cases e <;> simp [State.captureHead, hl, hf]

theorem writeRecord_list (s : State) (q : Nat) (r : EventRecord) :
    ((s.writeRecord q r).evQueue q).list = (s.evQueue q).list.tail := by
  simp [State.writeRecord]

theorem length_eventRecord_bytes (r : EventRecord) : r.bytes.length = 16 := by
  simp [EventRecord.bytes]

theorem afterCapture_st (s : State) (id : Nat) :
    ((s.afterCapture id).src id).st
      = if levelSense (s.src id).sense && assertedAt (s.src id).sense (s.src id).input then .inService else .idle := by
  simp [State.afterCapture]

/-! ### EQ_DOORBELL (R376) -/

/-- A doorbell of a queue, by its checks. -/
theorem exec_eqDoorbell (hq : q < 64) : exec (.eqDoorbell fn q v) s = .next (
    if !s.ready || s.queueOwner q ≠ fn || !(s.evQueue q).en || bitsOf v 29 16 ≠ 0 || 2 ^ (s.evQueue q).sizeCode ≤ bitsOf v 15 0
        || (s.evQueue q).unconsumed < (bitsOf v 15 0 + 2 ^ (s.evQueue q).sizeCode - (s.evQueue q).head) % 2 ^ (s.evQueue q).sizeCode then
      s.bump 0x2309
    else
      (s.setEvQueue q { s.evQueue q with
        head := bitsOf v 15 0, armed := (s.evQueue q).armed || bitAt v 31,
        idleHint := if bitAt v 31 then bitAt v 30 else (s.evQueue q).idleHint }).moderate q false) := by
  show execEqDoorbell fn q v s = _
  rw [execEqDoorbell, Nat.mod_eq_of_lt hq]

theorem eqDoorbell_taken (hq : q < 64) (hr : s.ready = true) (ho : s.queueOwner q = fn) (hen : (s.evQueue q).en = true)
    (hz : bitsOf v 29 16 = 0) (hn : bitsOf v 15 0 < 2 ^ (s.evQueue q).sizeCode)
    (hu : (bitsOf v 15 0 + 2 ^ (s.evQueue q).sizeCode - (s.evQueue q).head) % 2 ^ (s.evQueue q).sizeCode ≤ (s.evQueue q).unconsumed) :
    exec (.eqDoorbell fn q v) s = .next ((s.setEvQueue q { s.evQueue q with
      head := bitsOf v 15 0, armed := (s.evQueue q).armed || bitAt v 31,
      idleHint := if bitAt v 31 then bitAt v 30 else (s.evQueue q).idleHint }).moderate q false) := by
  rw [exec_eqDoorbell hq, if_neg]
  simpa [hr, ho, hen, hz] using ⟨hn, hu⟩

theorem eqDoorbell_refused (hq : q < 64)
    (h : s.ready = false ∨ s.queueOwner q ≠ fn ∨ (s.evQueue q).en = false ∨ bitsOf v 29 16 ≠ 0 ∨ 2 ^ (s.evQueue q).sizeCode ≤ bitsOf v 15 0 ∨
      (s.evQueue q).unconsumed < (bitsOf v 15 0 + 2 ^ (s.evQueue q).sizeCode - (s.evQueue q).head) % 2 ^ (s.evQueue q).sizeCode) :
    exec (.eqDoorbell fn q v) s = .next (s.bump 0x2309) := by
  rw [exec_eqDoorbell hq, if_pos]
  simpa [or_assoc] using h

/-! ### Moderation and vectors (R377, R378) -/

theorem eqModerationTimer_open (hq : q < 64) (h : (s.evQueue q).window = true) :
    exec (.eqModerationTimer q) s = .next (s.moderate q true) := by
  show execEqModerationTimer q s = _
  rw [execEqModerationTimer, Nat.mod_eq_of_lt hq, if_pos h]

/-- One of the conditions of R377 raises the vector of an armed queue with unconsumed records. -/
theorem moderate_raises (ha : (s.evQueue q).armed = true) (hu : (s.evQueue q).unconsumed ≠ 0) (hf : s.hubControlFenced = false)
    (h : (s.evQueue q).modUsec = 0 ∨ (s.evQueue q).idleHint = true ∨ max (s.evQueue q).modCount 1 ≤ (s.evQueue q).unconsumed ∨
      (timer = true ∧ (s.evQueue q).window = true)) : s.moderate q timer = s.raiseVector q := by
  unfold State.moderate
  dsimp only
  rw [if_pos (by simp [ha, hu, hf]), if_pos]
  rcases h with h | h | h | ⟨h1, h2⟩
  · simp [h]
  · simp [h]
  · simp only [decide_eq_true h, Bool.or_true, Bool.true_or]
  · simp [h1, h2]

/-- A message whose vector or function is masked sets the Pending Bit and is counted. -/
def State.pendMessage (s : State) (key : Nat) : State :=
  { s with ev := { s.ev with msixPend := Tab.set (fun _ => false) s.ev.msixPend key true } }

/-- The vector or its function is masked (R378). -/
def vectorMasked (s : State) (fn vec : Nat) : Bool :=
  Tab.get (fun _ => false) s.ev.fnMask fn || Tab.get (fun _ => true) s.ev.vecMask (fn * 64 + vec)

/-- What a message can do: leave with what its entry holds, or wait as a Pending Bit. -/
theorem message_eq (s : State) (fn vec : Nat) : s.message fn vec =
    if vectorMasked s fn vec || !masters s fn then
      if vectorMasked s fn vec then (s.pendMessage (fn * 64 + vec)).bump 0x2308 else s.pendMessage (fn * 64 + vec)
    else s.emit (s.vectorMessage fn vec) := rfl

theorem message_sent (hf : Tab.get (fun _ => false) s.ev.fnMask fn = false)
    (hv : Tab.get (fun _ => true) s.ev.vecMask (fn * 64 + vec) = false) (hm : masters s fn = true) :
    s.message fn vec = s.emit (s.vectorMessage fn vec) := by
  rw [message_eq, if_neg (by simp [vectorMasked, hf, hv, hm])]

theorem pendMessage_pends (s : State) (key : Nat) : Tab.get (fun _ => false) (s.pendMessage key).ev.msixPend key = true :=
  Tab.get_set_same (fun _ => false) s.ev.msixPend key true

theorem message_pends (h : Tab.get (fun _ => false) s.ev.fnMask fn = true ∨ Tab.get (fun _ => true) s.ev.vecMask (fn * 64 + vec) = true ∨
      masters s fn = false) :
    Tab.get (fun _ => false) (s.message fn vec).ev.msixPend (fn * 64 + vec) = true ∧ (s.message fn vec).out = s.out := by
  rw [message_eq, if_pos]
  · split
    · exact ⟨pendMessage_pends s _, rfl⟩
    · exact ⟨pendMessage_pends s _, rfl⟩
  · rcases h with h | h | h <;> simp [vectorMasked, h]

@[simp] theorem message_evQueue (s : State) (fn vec q : Nat) : (s.message fn vec).evQueue q = s.evQueue q := by
  rw [message_eq]
  split
  · split <;> rfl
  · rfl

/-- A message counts only those that wait. -/
theorem message_counter {i : Nat} (hi : i ≠ 0x2308) (s : State) (fn vec : Nat) : (s.message fn vec).counter i = s.counter i := by
  rw [message_eq]
  split
  · split
    · exact State.counter_bump_other _ hi
    · rfl
  · rfl

theorem raiseVector_evQueue (s : State) (q : Nat) :
    (s.raiseVector q).evQueue q = { s.evQueue q with armed := false, idleHint := false, window := false } := by
  simp [State.raiseVector]

theorem raiseVector_counter (s : State) (q : Nat) : (s.raiseVector q).counter 0x2307 = (s.counter 0x2307).add 1 := by
  rw [State.raiseVector, message_counter (by decide), State.counter_bump]
  rfl

end

/-- Settles O13: the head of the list by its kind, unless the queue is full. -/
theorem anEventQueueCapturesItsHead : Obligations.AnEventQueueCapturesItsHead := by
  unfold Obligations.AnEventQueueCapturesItsHead
  intro x q tickOffset hq hc s hs
  have hx := exec_eventCapture (tickOffset := tickOffset) hq hc hs
  refine ⟨fun h => ?_, fun h => ?_⟩
  · rw [hx, if_neg (by simp [h])]
  · rw [if_pos h] at hx
    refine ⟨fun id rest hl hf => ?_, fun id new rest hl hf => ?_, fun e rest hl hf => ?_,
      fun r => ⟨writeRecord_list s q r, rfl, length_eventRecord_bytes r⟩, afterCapture_st s⟩
    · rw [hx, captureHead_source hl hf]
    · rw [hx, captureHead_marker hl hf]
    · rw [hx, captureHead_full hl hf]

/-- Settles O14: a doorbell by its checks, moderation by the conditions of R377, and a message by its masks. -/
theorem eventQueueDoorbellsAndTimers : Obligations.EventQueueDoorbellsAndTimers := by
  unfold Obligations.EventQueueDoorbellsAndTimers
  intro s fn q v hq
  exact ⟨eqDoorbell_taken hq, eqDoorbell_refused hq, eqModerationTimer_open hq, fun _ => moderate_raises,
    ⟨raiseVector_evQueue s q, raiseVector_counter s q⟩, fun _ => message_sent, fun _ => message_pends⟩

end Sys2Proof.Machine
end

section
/-!
COMPLETE, and writes of a source's configuration (R361, R362, R366, R370, R379, R380).
-/
namespace Sys2Proof.Machine

section
variable {s : State} {fn i v id : Nat}

/-! ### COMPLETE (R370) -/

theorem exec_eventComplete (h : Reaches s fn (viewAddr fn 0x9800 0xA600)) (hv : viewSource s fn (bitsOf v 12 0) = some id) :
    exec (.eventComplete fn v) s
      = .next (if (s.src id).st = .inService then (s.makePending id false).bump 0x2302 else s.bump 0x2303) := by
  show execEventComplete fn v s = _
  rw [execEventComplete, accessed_of_reaches h, hv]

/-! ### Writes of EVC_SRC_CFG -/

section
variable (h : Reaches s fn (viewAddr fn (4 * i) (0x8000 + 4 * i)))
include h

theorem exec_senseChange : exec (.senseChange fn i v) s = .next (s.srcCfgWrite fn i v) :=
  congrArg Host.Outcome.next (accessed_of_reaches h _)

theorem exec_sourceRetarget : exec (.sourceRetarget fn i v) s = .next (s.srcCfgWrite fn i v) :=
  congrArg Host.Outcome.next (accessed_of_reaches h _)

variable (hv : viewSource s fn i = some id) (h4 : bitsOf v 10 8 ≤ 4) (ho : fn = 0 ∨ s.queueOwner (bitsOf v 21 16) = fn)
include hv h4 ho

/-- A write that the view allows and that keeps the queue changes the sense (R362). -/
theorem senseChange_changes (h1 : bitsOf v 10 8 ≠ (s.src id).sense) (hq : bitsOf v 21 16 = (s.src id).queue)
    (hl : levelSense (bitsOf v 10 8) = false) : exec (.senseChange fn i v) s = .next (s.changeSense id (bitsOf v 10 8)) := by
  have hg : ¬ (4 < bitsOf v 10 8 || (fn ≠ 0 && s.queueOwner (bitsOf v 21 16) ≠ fn)) = true := by
    rcases ho with ho | ho <;> simp [ho, h4]
  rw [exec_senseChange h, State.srcCfgWrite, hv]
  dsimp only
  rw [if_neg hg, if_pos h1, if_neg (by simp [(changeSense_edge s hl).2, hq])]

theorem sourceRetarget_retargets (h1 : bitsOf v 10 8 = (s.src id).sense) (hq : bitsOf v 21 16 ≠ (s.src id).queue) :
    exec (.sourceRetarget fn i v) s = .next (s.retarget id (bitsOf v 21 16)) := by
  rw [exec_sourceRetarget h, srcCfgWrite_same_sense hv h1 h4 ho, if_pos hq]

theorem sourceRetarget_same_queue (h1 : bitsOf v 10 8 = (s.src id).sense) (hq : bitsOf v 21 16 = (s.src id).queue) :
    exec (.sourceRetarget fn i v) s = .next s := by
  rw [exec_sourceRetarget h, srcCfgWrite_same_sense hv h1 h4 ho, if_neg (not_not_intro hq)]

end

/-! ### A refused write of a view (R383) -/

/-- cfg_err is one bit of its register. -/
theorem viewErr_ok (fn : Nat) : (viewErr fn).ok ∧ (viewErr fn).hi = (viewErr fn).lo := by
  unfold viewErr
  split
  · exact ⟨⟨by decide, by decide⟩, rfl⟩
  · exact ⟨⟨Nat.le_refl 31, show 31 < 32 by decide⟩, rfl⟩

theorem refuseView_shape (s : State) (fn : Nat) : ∃ r c, s.refuseView fn = { s with regs := r, ctr := c } := ⟨_, _, rfl⟩

theorem refuseView_flag (s : State) (fn : Nat) : (s.refuseView fn).flag (viewErr fn) = true :=
  State.flag_setFlag s (viewErr_ok fn).1 (viewErr_ok fn).2 true

theorem refuseView_reg {a : Nat} (ha : a ≠ (viewErr fn).addr) : (s.refuseView fn).reg a = s.reg a :=
  State.reg_setReg_other s ha _

end

/-- Settles O15: COMPLETE by the source's state, and a configuration write by the field that differs. -/
theorem completionSenseAndRetarget : Obligations.CompletionSenseAndRetarget := by
  unfold Obligations.CompletionSenseAndRetarget
  intro s fn i v id
  refine ⟨fun h hv => ⟨fun hst => ?_, fun hst => ?_⟩, fun h hv h4 ho => ⟨fun h1 hq hl => ?sense, fun h1 hq => ?retarget⟩⟩
  · rw [exec_eventComplete h hv, if_pos hst]
  · rw [exec_eventComplete h hv, if_neg hst]
  case sense =>
    obtain ⟨hev, hsrc⟩ := changeSense_edge s (id := id) hl
    exact ⟨_, senseChange_changes h hv h4 ho h1 hq hl, hev, by rw [hsrc], by rw [hsrc], by rw [hsrc]⟩
  case retarget =>
    exact ⟨_, sourceRetarget_retargets h hv h4 ho h1 hq, eq_of_ev (retarget_shape s id _), retarget_src s id _,
      fun hp hm => retarget_lists s hp hm hq⟩

/-- Settles O16: a write at the present sense retargets exactly where the queue differs. -/
theorem aWriteThatNamesTheSourcesQueueChangesNothing : Obligations.AWriteThatNamesTheSourcesQueueChangesNothing := by
  unfold Obligations.AWriteThatNamesTheSourcesQueueChangesNothing
  intro s fn i v id h hv h1 h4 ho
  exact ⟨sourceRetarget_same_queue h hv h4 ho h1, sourceRetarget_retargets h hv h4 ho h1⟩

/-- Settles O17: a write that names another function's queue is refused whole before sense and queue are looked at. -/
theorem aPortViewTargetsOnlyItsOwnQueues : Obligations.APortViewTargetsOnlyItsOwnQueues := by
  unfold Obligations.APortViewTargetsOnlyItsOwnQueues
  intro s fn i v id h hv
  refine ⟨fun hf ho => ⟨s.refuseView fn, ?_, ?_, rfl, fun _ => refuseView_reg, refuseView_flag s fn⟩, fun hf h1 h4 hq => ?_⟩
  · rw [exec_sourceRetarget h, srcCfgWrite_refused hv hf ho]
  · rw [exec_senseChange h, srcCfgWrite_refused hv hf ho]
  · exact ⟨_, sourceRetarget_retargets h hv h4 (.inl hf) h1 hq, by rw [retarget_src]⟩

end Sys2Proof.Machine
end

section
/-!
Counters, BAR4 and the end of a dump (R427 to R432, R439).
-/
namespace Sys2Proof.Machine

section
variable {s old : State} {fn off size v i k m : Nat} {kind : ResetKind}

/-! ### Increments (R427, R428) -/

theorem counter_bumpBy (s : State) (i k : Nat) : (s.bumpBy i k).counter i = (s.counter i).add k := State.counter_setCounter ..

theorem counter_bumpBy_other {j : Nat} (h : j ≠ i) : (s.bumpBy i k).counter j = s.counter j := State.counter_setCounter_other _ h _

/-- An increment's flag is sticky: set before, or by the sum. -/
theorem add_ovf_iff (c : Counter) (k : Nat) : (c.add k).ovf = true ↔ c.ovf = true ∨ 2 ^ 56 ≤ c.value + k := by
  simp [Counter.add]

/-- Two increments one after another are one of their sum. -/
theorem add_add (c : Counter) (k m : Nat) (hc : c.value < 2 ^ 56) : (c.add k).add m = c.add (k + m) := by
  have hvalue : ((c.add k).add m).value = (c.add (k + m)).value := by
    simp only [Counter.add]
    omega
  have hovf : ((c.add k).add m).ovf = (c.add (k + m)).ovf := by
    rw [Bool.eq_iff_iff, add_ovf_iff, add_ovf_iff, add_ovf_iff]
    by_cases h : c.ovf = true
    · simp [h]
    · simp only [h, Counter.add, false_or, Bool.false_eq_true]
      omega
  generalize (c.add k).add m = x at hvalue hovf
  generalize c.add (k + m) = y at hvalue hovf
  obtain ⟨_, _⟩ := x
  obtain ⟨_, _⟩ := y
  exact congrArg₂ Counter.mk hvalue hovf

/-! ### A reset of the package (R432) -/

/-- An input of an IDLE source counts nothing. -/
theorem sourceInput_ctr_of_idle {id info : Nat} {b : Bool} (h : (s.src id).st = .idle) : (s.sourceInput id b info).ctr = s.ctr := by
  have hpend : ((s.withInput id b info).makePending id false).ctr = s.ctr := by
    obtain ⟨e, he⟩ := makePending_shape (s.withInput id b info) id false
    rw [he]
    rfl
  by_cases hl : levelSense (s.src id).sense = true
  · rw [sourceInput_level hl]
    by_cases ha : assertedAt (s.src id).sense b = true
    · rw [settleLevel_rises (by simpa using ha) (by simpa using h), hpend]
    · have hst : (s.withInput id b info).settleLevel id = s.withInput id b info := by simp [State.settleLevel, ha, h]
      rw [hst]
      rfl
  · have hl' : levelSense (s.src id).sense = false := by simpa using hl
    by_cases he : edgeAt (s.src id).sense (s.src id).input b = true
    · rw [sourceInput_edge hl' he (by simp [h]), hpend]
    · rw [sourceInput_no_edge hl' (by simpa using he)]
      rfl

theorem level_ctr_of_idle {id info : Nat} {b : Bool} (h : (s.src id).st = .idle) : (s.level id b info).ctr = s.ctr := by
  rw [level_eq, sourceInput_ctr_of_idle (by simpa using h)]
  unfold State.mirrored
  split
  · exact recordMirror_ctr s id
  · rfl

theorem packageBase_ctr (hk : kind ≠ .soft) : (packageBase old kind).ctr = .reset := if_neg hk

theorem packageBase_ev (hk : kind ≠ .soft) : (packageBase old kind).ev = .reset := if_neg hk

/-- The words that a reset by power-on or by the pin shows, before the level of the shutdown record follows. -/
def State.stampReset (s old : State) (kind : ResetKind) : State :=
  (((s.setFld R.RST_DELTA_STATUS.entries s.rst.delta.length).setFlag R.THM_STATUS.sd_record (old.flag R.THM_STATUS.sd_record)).setFld
    R.RST_STATUS.last_reset (resetCode kind)).setFld R.FWU_STATUS.floor (old.fld R.FWU_STATUS.floor)

/-- The level source of the shutdown record follows its flag. -/
def State.recordLevel (s : State) : State := s.level 0x1049 (s.flag R.THM_STATUS.sd_record) (s.fld R.THM_SD_0.cause)

theorem packageReset_eq (hk : kind ≠ .soft) {s : State} (hs : s = (packageBase old kind).stampReset old kind) :
    old.packageReset kind = s.recordLevel.setFld R.RST_STATUS.stage (if s.recordLevel.rst.resetLow then 0 else 1) := by
  simp only [State.packageReset, if_neg hk, hs, State.stampReset, State.recordLevel]

theorem stampReset_ctr (hk : kind ≠ .soft) : ((packageBase old kind).stampReset old kind).ctr = .reset := by
  rw [State.stampReset, State.setFld_ctr, State.setFld_ctr, State.setFlag_ctr, State.setFld_ctr, packageBase_ctr hk]

theorem stampReset_src (hk : kind ≠ .soft) (i : Nat) : ((packageBase old kind).stampReset old kind).src i = Src.reset i := by
  rw [State.stampReset, State.setFld_src, State.setFld_src, State.setFlag_src, State.setFld_src, State.src, packageBase_ev hk]
  rfl

/-- A reset by power-on or by the pin leaves the counter block as at power-on. -/
theorem packageReset_ctr (hk : kind ≠ .soft) : (old.packageReset kind).ctr = .reset := by
  have hidle : (((packageBase old kind).stampReset old kind).src 0x1049).st = .idle := congrArg Src.st (stampReset_src hk 0x1049)
  rw [packageReset_eq hk rfl, State.setFld_ctr, State.recordLevel, level_ctr_of_idle hidle, stampReset_ctr hk]

theorem counter_packageReset (hk : kind ≠ .soft) (i : Nat) : (old.packageReset kind).counter i = { value := 0, ovf := false } := by
  rw [State.counter, packageReset_ctr hk]
  rfl

/-- A reset that is not held for temperature is performed at once. -/
theorem resetPackage_of_cool (h : tooHot s = false) (kind : ResetKind) : s.resetPackage kind = s.packageReset kind := if_neg (by simp [h])

theorem exec_powerOn_of_cool (h : tooHot s = false) : exec .powerOn s = .next (s.packageReset .powerOn) :=
  congrArg Host.Outcome.next (resetPackage_of_cool h _)

/-- RESET_N is low. -/
def State.pinLow (s : State) : State := { s with rst := { s.rst with resetLow := true } }

theorem exec_resetN_of_cool (h : tooHot s = false) : exec .resetN s = .next (s.pinLow.packageReset .resetN) :=
  congrArg Host.Outcome.next (resetPackage_of_cool (s := s.pinLow) h _)

/-! ### COUNTER_WRITE (R429) -/

theorem counterWrite_taken (hr : s.ready = true) (hs : size = 8) (ho : off % 8 = 0) (hf : fn = 0) (hk : off / 8 < 0x3C00)
    (ha : counterAssigned (off / 8) = true) :
    exec (.counterWrite fn off size v) s = .next (s.setCounter (off / 8) { value := v % 2 ^ 56, ovf := bitAt v 63 }) := by
  show execCounterWrite fn off size v s = _
  simp only [execCounterWrite]
  rw [if_neg (by simp [hr, hs, ho, hf, hk, ha])]

theorem counterWrite_ignored
    (h : s.ready = false ∨ size ≠ 8 ∨ off % 8 ≠ 0 ∨ fn ≠ 0 ∨ 0x3C00 ≤ off / 8 ∨ counterAssigned (off / 8) = false) :
    exec (.counterWrite fn off size v) s = .next (s.bump 0x2806) := by
  show execCounterWrite fn off size v s = _
  simp only [execCounterWrite]
  rw [if_pos]
  rcases h with h | h | h | h | h | h <;> simp [h]

/-! ### COUNTER_SPLIT_READ (R430) -/

theorem counterSplitRead_bad (h : off % 4 ≠ 0 ∨ (size ≠ 4 ∧ (size ≠ 8 ∨ off % 8 ≠ 0))) :
    exec (.counterSplitRead fn ⟨off, size⟩) s = .next ((s.emit (.readData fn off 0)).bump 0x2807) := by
  show execCounterSplitRead fn ⟨off, size⟩ s = _
  simp only [execCounterSplitRead]
  rw [if_neg, if_pos]
  · rcases h with h | ⟨h, -⟩ <;> simp [h]
  · simp only [Bool.and_eq_true, decide_eq_true_eq, not_and]
    omega

/-- The whole word of an assigned counter. -/
theorem counterSplitRead_whole (ho : off % 8 = 0) (hb : bar4Counter fn off = some k) (ha : counterAssigned k = true) :
    exec (.counterSplitRead fn ⟨off, 8⟩) s = .next (s.emit (.readData fn off (s.counter k).word)) := by
  show execCounterSplitRead fn ⟨off, 8⟩ s = _
  simp only [execCounterSplitRead]
  rw [if_pos (by simp [ho]), hb]
  simp [ha]

/-- The page's shadow takes a high half. -/
def State.loadShadow (s : State) (key : Nat) (x : Nat × Nat) : State :=
  { s with ctr := { s.ctr with shadows := Tab.put s.ctr.shadows key x } }

/-- The page's shadow is emptied. -/
def State.emptyShadow (s : State) (key : Nat) : State := { s with ctr := { s.ctr with shadows := Tab.del s.ctr.shadows key } }

/-- A read of the low half loads the page's shadow with the high half. -/
theorem counterSplitRead_low (ho : off % 8 = 0) (hb : bar4Counter fn off = some k) (ha : counterAssigned k = true) :
    exec (.counterSplitRead fn ⟨off, 4⟩) s = .next ((s.loadShadow (shadowKey fn off) (k, (s.counter k).word / 2 ^ 32)).emit
      (.readData fn off ((s.counter k).word % 2 ^ 32))) := by
  have h4 : off % 4 = 0 := by omega
  show execCounterSplitRead fn ⟨off, 4⟩ s = _
  simp only [execCounterSplitRead]
  rw [if_neg (by simp), if_neg (by simp [h4]), hb]
  simp [ha, ho, State.loadShadow]

theorem counterSplitRead_high_shadow {hi : Nat} (ho : off % 8 = 4) (hb : bar4Counter fn off = some k)
    (hs : Tab.find s.ctr.shadows (shadowKey fn off) = some (k, hi)) :
    exec (.counterSplitRead fn ⟨off, 4⟩) s = .next ((s.emptyShadow (shadowKey fn off)).emit (.readData fn off hi)) := by
  have h4 : off % 4 = 0 := by omega
  show execCounterSplitRead fn ⟨off, 4⟩ s = _
  simp only [execCounterSplitRead]
  rw [if_neg (by simp), if_neg (by simp [h4]), hb]
  simp [ho, hs, State.emptyShadow]

theorem counterSplitRead_high_live (ho : off % 8 = 4) (hb : bar4Counter fn off = some k) (ha : counterAssigned k = true)
    (hs : Tab.find s.ctr.shadows (shadowKey fn off) = none) :
    exec (.counterSplitRead fn ⟨off, 4⟩) s = .next (s.emit (.readData fn off ((s.counter k).word / 2 ^ 32))) := by
  have h4 : off % 4 = 0 := by omega
  show execCounterSplitRead fn ⟨off, 4⟩ s = _
  simp only [execCounterSplitRead]
  rw [if_neg (by simp), if_neg (by simp [h4]), hb]
  simp [ho, hs, ha]

/-! ### HARVEST_DUMP_DONE (R439) -/

theorem exec_harvestDumpDone (hi : i < 32) (hb : s.flag (R.CTR_HV_STATUS.busy i) = true) :
    exec (.harvestDumpDone i) s = .next ((((({ s with ctr := { s.ctr with dumped := withBit s.ctr.dumped i true } } : State).setFlag
      (R.CTR_HV_STATUS.busy i) false).setFld R.CTR_STATUS.busy_sets (s.fld R.CTR_STATUS.busy_sets - 1)).bump 0x2800).pulse 0x10F0
        (withBit s.ctr.dumped i true)) := by
  show execHarvestDumpDone i s = _
  rw [execHarvestDumpDone, Nat.mod_eq_of_lt hi]
  dsimp only
  rw [if_pos hb]
  rfl

end

/-- Settles O23: an increment by the sum of value and addend, and a reset by the empty counter block. -/
theorem countersCountModulo2To56 : Obligations.CountersCountModulo2To56 := by
  unfold Obligations.CountersCountModulo2To56
  refine ⟨fun s i k => ⟨?_, ?_, fun j hj => counter_bumpBy_other hj, rfl, fun m hv => ?_⟩, fun s h =>
    ⟨⟨_, exec_powerOn_of_cool h, counter_packageReset (by decide)⟩, ⟨_, exec_resetN_of_cool h, counter_packageReset (by decide)⟩⟩⟩
  · rw [counter_bumpBy]
    rfl
  · rw [counter_bumpBy, add_ovf_iff]
  · rw [counter_bumpBy, counter_bumpBy, counter_bumpBy, add_add _ _ _ hv]

/-- Settles O24: a write by its checks, a read by its size and its half. -/
theorem counterWritesAndSplitReads : Obligations.CounterWritesAndSplitReads := by
  unfold Obligations.CounterWritesAndSplitReads
  intro s fn off size v
  exact ⟨counterWrite_taken, counterWrite_ignored, counterSplitRead_bad, fun _ => counterSplitRead_whole,
    fun k ho hb ha => ⟨_, counterSplitRead_low ho hb ha, rfl, rfl, Tab.find_put_same ..⟩,
    fun k hi ho hb ha => ⟨counterSplitRead_high_shadow ho hb, counterSplitRead_high_live ho hb ha⟩, fun _ => exec_harvestDumpDone⟩

end Sys2Proof.Machine
end

section
/-!
The capture engine: arming, its trigger, its end and its reads (R442 to R445).
-/
namespace Sys2Proof.Machine

section
variable {s t u : State} {iss : Issue} {op0 op1 op2 op3 length cause : Nat} {pages : List CapPage}

/-! ### What a hub command of another function meets -/

/-- A hub command that another function than PF0 issues is refused (R348). -/
theorem pf0Cmd_foreign {ops : List (Nat × Nat)} {f : State → State} (hf : iss.fn ≠ 0) (hw : waitsInRing s iss = false) :
    s.pf0Cmd iss ops f = (s.startCmd iss).refuse iss 0x20 := by
  rw [State.pf0Cmd, if_neg (by simp [hw]), if_pos hf]

/-! ### CAP_ARM (R444, R445) -/

/-- The blocks of the capture region are touched. -/
def State.touchRegion (s : State) : State :=
  (blocksOf (128 * capBase s) (128 * capPages s)).foldl (fun s b => s.touch (2048 * b)) s

/-- The engine is armed as the operands of CAP_ARM say. -/
def State.armCapture (s : State) (op0 op1 op3 : Nat) : State :=
  { s with capture := { s.capture with
    st := .armed, port := Fin.ofNat 8 (bitsOf op0 2 0), point := bitsOf op0 6 4, ring := bitAt op0 8,
    trigger := bitsOf op0 14 12, filter := bitsOf op0 25 16, trigValue := op1, postKib := bitsOf op3 22 0, written := 0,
    wrapped := false, trigPage := 0, endCause := 0, trigFc := 0, armedAt := s.tick, trigAt := 0, hit := false,
    armedTimes := (s.src op1).times } }

theorem capArm_arms (hs : HubStarts s iss [(op0, 0x3FF7177), (op3, 0x7FFFFF)]) (hr : s.capture.running = false) (hp : capPages s ≠ 0)
    (hz : bitsOf op3 22 0 ≠ 0) (hk : bitsOf op3 22 0 ≤ capPages s * 4) (hpt : bitsOf op0 6 4 ≤ 4) (htr : bitsOf op0 14 12 ≤ 4)
    (hv : bitsOf op0 14 12 = 4 → op1 ≤ 0x1FFF) (hm : bitsOf op0 6 4 < 4 → 2 ≤ s.mode (Fin.ofNat 8 (bitsOf op0 2 0)))
    (hm0 : s.mode (Fin.ofNat 8 (bitsOf op0 2 0)) ≠ 0) (hf : s.hubFenced 1 = false) {x : State}
    (hx : x = (s.startCmd iss).touchRegion.armCapture op0 op1 op3) :
    exec (.capArm iss op0 op1 op3) s = .next ((x.bump 0x2808).succeed iss (capPages x) 0) := by
  subst hx
  show execCapArm iss op0 op1 op3 s = _
  have hpages : capPages (s.startCmd iss) = capPages s := rfl
  rw [execCapArm, pf0Cmd_of_starts hs]
  dsimp only
  rw [startCmd_capture, startCmd_mode, startCmd_hubFenced, hpages, if_neg (by simp [hr]), if_neg (by simp [hp, hz, hk]), if_neg, if_neg,
    if_neg (by simp [hf])]
  · rfl
  · simp only [Bool.or_eq_true, Bool.and_eq_true, decide_eq_true_eq, not_or, not_and, not_lt]
    exact ⟨⟨hpt, htr⟩, hv⟩
  · simp only [Bool.or_eq_true, Bool.and_eq_true, decide_eq_true_eq, not_or, not_and, not_lt]
    exact ⟨hm, fun _ => hm0⟩

/-! ### CAPTURE_TRIGGER (R444) -/

theorem captureTrigger_waits (h : triggered s = false) : exec (.captureTrigger pages) s = .next s :=
  congrArg Host.Outcome.next (if_neg (by simp [h]))

theorem captureTrigger_fires (ha : s.capture.st = .armed) (h : triggered s = true)
    (hu : u = if s.capture.ring = true then s.writePages pages else s) :
    exec (.captureTrigger pages) s
      = .next (({ u with capture := { u.capture with
          st := .capturing, trigFc := u.fc, trigAt := u.capture.written,
          trigPage := if u.capture.ring = true then u.capture.written % max 1 (capPages u) else 0 } } : State).pulse 0x10E0
            (u.capture.port.val + u.capture.point * 16)) := by
  subst hu
  exact congrArg Host.Outcome.next (if_pos (by simp [ha, h]))

theorem triggered_tick (h : s.capture.trigger = 0) : triggered s = true ↔ s.capture.armedAt < s.tick := by
  simp [triggered, h]

theorem triggered_fc (h : s.capture.trigger = 1) :
    triggered s = true ↔ s.capture.armedAt < s.tick ∧ s.fc % 2 ^ 32 = s.capture.trigValue := by
  simp [triggered, h]

theorem triggered_burst (h : s.capture.trigger = 2 ∨ s.capture.trigger = 3) : triggered s = s.capture.hit := by
  rcases h with h | h <;> simp [triggered, h]

theorem triggered_event (h : s.capture.trigger = 4) :
    triggered s = true ↔ s.capture.armedTimes < (s.src s.capture.trigValue).times := by
  simp [triggered, h]

/-! ### The causes of an end (R443) -/

theorem endsBy_post : endsBy t 0 = true ↔ t.capture.st = .capturing ∧ t.capture.postKib ≤ 4 * (t.capture.written - t.capture.trigAt) := by
  simp [endsBy, postWritten]

theorem endsBy_region : endsBy t 1 = true ↔ t.capture.ring = false ∧ capPages t ≤ t.capture.written := by
  simp [endsBy, regionWritten]

theorem endsBy_receive (h : t.capture.point < 4) :
    endsBy t 4 = true ↔ t.mode t.capture.port < 2 ∨ t.fenced t.capture.port = true ∨ t.inReset t.capture.port = true := by
  simp [endsBy, h, or_assoc]

theorem endsBy_transmit (h : 4 ≤ t.capture.point) : endsBy t 4 = true ↔ t.mode t.capture.port = 0 ∨ t.inReset t.capture.port = true := by
  simp [endsBy, Nat.not_lt.mpr h]

theorem endsBy_memory : endsBy t 5 = true ↔ t.hubFenced 1 = true ∨ bitAt (t.fld R.RST_HUB_STATUS.hub_in_reset) 1 = true := by
  simp [endsBy]

theorem captureEnd_ends (hr : s.capture.running = true) (he : endsBy (s.writePages pages) cause = true) :
    exec (.captureEnd cause pages) s = .next ((s.writePages pages).endCapture cause) :=
  congrArg Host.Outcome.next (if_pos (by simp [hr, he]))

/-- A capture that has ended is DONE with its cause. -/
theorem endCapture_capture (t : State) (cause : Nat) :
    (t.endCapture cause).capture = { t.capture with st := .done, endCause := cause } := by
  obtain ⟨r, e, c, h⟩ := pulse_shape { t with capture := { t.capture with st := .done, endCause := cause } } 0x10E1 cause
  unfold State.endCapture
  dsimp only
  rw [h]
  split <;> rfl

/-! ### CAP_STOP, CAP_READ and CAP_STATUS (R443, R445) -/

theorem capStop_ends (hs : HubStarts s iss []) (hr : s.capture.running = true) :
    exec (.capStop iss pages) s = .next ((((s.startCmd iss).writePages pages).endCapture 2).succeed iss
      (((s.startCmd iss).writePages pages).endCapture 2).capture.written 0) := by
  show execCapStop iss pages s = _
  rw [execCapStop, pf0Cmd_of_starts hs]
  exact congrArg Host.Outcome.next (if_neg (by simp [hr]))

theorem capRead_returns (hs : HubStarts s iss [(op2, 1)]) (hd : s.capture.st = .done) {off : Nat}
    (ho : off = op1 % 2 ^ 32 + bitsOf op2 0 0 * 2 ^ 32) (ha : off % 32 = 0) (hl : off + length ≤ 4096 * capPages s)
    {v : State} (hv : v = (s.startCmd iss).lpCopy (128 * capBase s + off / 32) (ceilDiv length 32)) {bytes : List (Option Byte)}
    (hb : bytes = (List.range length).map (capByte v off)) :
    exec (.capRead iss op1 op2 length) s = .next ((v.toHost iss.fn (.buffer iss.fn iss.tag (bytes.map (fun b => b.getD 0)))).complete iss
      { Result.ok 0 0 with poison := bytes.any Option.isNone }) := by
  have hpages : capPages (s.startCmd iss) = capPages s := rfl
  show execCapRead iss op1 op2 length s = _
  rw [execCapRead, pf0Cmd_of_starts hs]
  dsimp only
  rw [startCmd_capture, hpages, ← ho, if_neg (not_not_intro hd), if_neg (by simp [ha, hl]), hb, hv]
  rfl

/-- The status record of a capture (R445). -/
def capRecord (s : State) : List Byte :=
  let c := s.capture
  let pages := capPages s
  let oldest := if c.ring && decide (pages ≤ c.written) then c.written % max 1 pages else 0
  leBytes 4 (capCode c.st + c.port.val * 2 ^ 8 + c.point * 2 ^ 12 + bit01 c.ring * 2 ^ 16 + c.endCause * 2 ^ 20)
    ++ leBytes 4 c.written ++ leBytes 4 oldest ++ leBytes 4 c.trigPage ++ leBytes 8 c.trigFc ++ leBytes 8 0

theorem length_capRecord (s : State) : (capRecord s).length = 32 := by simp [capRecord]

theorem capStatus_returns (hs : HubStarts s iss []) :
    exec (.capStatus iss) s
      = .next (((s.startCmd iss).toHost iss.fn (.buffer iss.fn iss.tag (capRecord (s.startCmd iss)))).succeed iss 0 0) :=
  congrArg Host.Outcome.next (pf0Cmd_of_starts hs _)

theorem toHost_of_masters {fn : Nat} (h : masters t fn = true) (o : Output) : t.toHost fn o = t.emit o := if_pos h

theorem toHost_waits {fn : Nat} (h : masters t fn = false) (o : Output) : t.toHost fn o = { t with late := t.late ++ [.send fn o] } :=
  if_neg (by simp [h])

end

/-- Settles O25: each command by its checks, and each happening by whether its cause holds. -/
theorem capturesAreArmedTriggeredAndRead : Obligations.CapturesAreArmedTriggeredAndRead := by
  unfold Obligations.CapturesAreArmedTriggeredAndRead
  intro s iss op0 op1 op2 op3 length cause pages
  refine ⟨fun hs hr hp hz hk hpt htr hv hm hm0 hf =>
      ⟨_, _, rfl, rfl, capArm_arms hs hr hp hz hk hpt htr hv hm hm0 hf rfl⟩,
    fun ha h => ⟨_, rfl, captureTrigger_fires ha h rfl⟩, ⟨triggered_tick, triggered_fc, triggered_burst, triggered_event⟩,
    fun _ h => captureTrigger_waits h, captureEnd_ends,
    fun t => ⟨endsBy_post, endsBy_region, rfl, endsBy_receive, endsBy_transmit, endsBy_memory⟩, capStop_ends,
    fun t => ⟨_, rfl, ?_, ?_⟩, fun hs hd off ho ha hl => ⟨_, _, rfl, ?_, fun k hk => ?_, capRead_returns hs hd ho ha hl rfl rfl⟩,
    fun hs => ⟨_, length_capRecord _, capStatus_returns hs⟩, fun t o => ⟨fun h => toHost_of_masters h o, fun h => toHost_waits h o⟩,
    fun hf hw => ?foreign⟩
  · rw [endCapture_capture]
  · rw [endCapture_capture]
  · simp
  · rw [List.getElem?_map, List.getElem?_range hk]
    rfl
  case foreign =>
    refine ⟨?_, ?_, ?_, ?_⟩
    all_goals exact congrArg Host.Outcome.next (pf0Cmd_foreign hf hw)

end Sys2Proof.Machine
end

section
/-!
Housekeeping conversions and their markers (R447 to R455).
-/
namespace Sys2Proof.Machine

section
variable {s t drop : State} {d src v fn onu fc e : Nat} {p : Port} {c m : Conv} {nv : Int}

/-! ### HKA_SW_TRIG (R450, R453) -/

/-- A write of HKA_CTL takes en and align. -/
def State.hkaSettings (s : State) (d v : Nat) : State :=
  (s.setFld (R.HKA_CTL.en d) (bitsOf v 31 31)).setFld (R.HKA_CTL.align d) (bitsOf v 0 0)

/-- A write of HKA_CTL: en and align, and then the software run where bit 30 asks for one. -/
theorem exec_hkaSwTrig (hd : d < 3) (h : Reaches s src (R.HKA_CTL.addr d)) (ht : t = s.hkaSettings d v) :
    exec (.hkaSwTrig src d v) s = .next (
      (if !bitAt v 30 then t
        else if (t.conv d).runs .software (t.conv d).swRun then t.bump (0x2918 + d)
        else t.setConv d { t.conv d with swRun := hkaEntries t d 2 }).hkaStart d) := by
  subst ht
  show execHkaSwTrig src d v s = _
  rw [execHkaSwTrig, Nat.mod_eq_of_lt hd, accessed_of_reaches h]
  rfl

/-- Entries of a kind run: some are left, or one is in progress or aborted. -/
theorem runs_iff {x : HkaConv} {kind : ConvKind} {left : List Nat} : x.runs kind left = true ↔
    left ≠ [] ∨ (∃ c, x.cur = some c ∧ c.kind = kind) ∨ (∃ c, x.aborted = some c ∧ c.kind = kind) := by
  unfold HkaConv.runs
  cases x.cur <;> cases x.aborted <;> simp [or_assoc]

/-! ### The order of Rule R451 -/

section
variable (he : s.flag (R.HKA_CTL.en d) = true) (hl : s.flag (R.HKA_STATUS.die_lost d) = false) (hc : (s.conv d).cur = none) {x : HkaConv}
  (hx : x = s.conv d)
include he hl hc hx

/-- An idle enabled converter starts what is first in the order. -/
theorem hkaStart_idle : s.hkaStart d =
    match x.markers, x.aborted, x.thermal, x.tickRun, x.swRun with
    | m :: t, _, _, _, _ => s.setConv d { x with cur := some (entryConv s d m.entry .marker m.port m.onu m.fc), markers := t }
    | [], some a, _, _, _ => s.setConv d { x with cur := some a, aborted := none }
    | [], none, i :: t, _, _ => s.setConv d { x with
        cur := some { kind := .thermal, entry := 0, input := i, toData := false, port := 0, onu := 0, fc := 0 }, thermal := t }
    | [], none, [], e :: t, _ => s.setConv d { x with cur := some (entryConv s d e .tick 0 0 0), tickRun := t }
    | [], none, [], [], e :: t => s.setConv d { x with cur := some (entryConv s d e .software 0 0 0), swRun := t }
    | [], none, [], [], [] => s.setConv d x := by
  subst hx
  unfold State.hkaStart
  dsimp only
  rewrite [if_pos he, if_neg (by simp [hc, hl])]
  rfl

theorem hkaStart_marker {l : List Conv} (h : x.markers = m :: l) :
    s.hkaStart d = s.setConv d { x with cur := some (entryConv s d m.entry .marker m.port m.onu m.fc), markers := l } := by
  rw [hkaStart_idle he hl hc hx, h]

variable (h1 : x.markers = [])
include h1

theorem hkaStart_aborted (h : x.aborted = some c) : s.hkaStart d = s.setConv d { x with cur := some c, aborted := none } := by
  rw [hkaStart_idle he hl hc hx, h1, h]

variable (h2 : x.aborted = none)
include h2

theorem hkaStart_thermal {i : Nat} {l : List Nat} (h : x.thermal = i :: l) :
    s.hkaStart d = s.setConv d { x with
      cur := some { kind := .thermal, entry := 0, input := i, toData := false, port := 0, onu := 0, fc := 0 }, thermal := l } := by
  rw [hkaStart_idle he hl hc hx, h1, h2, h]

variable (h3 : x.thermal = [])
include h3

theorem hkaStart_tick {l : List Nat} (h : x.tickRun = e :: l) :
    s.hkaStart d = s.setConv d { x with cur := some (entryConv s d e .tick 0 0 0), tickRun := l } := by
  rw [hkaStart_idle he hl hc hx, h1, h2, h3, h]

variable (h4 : x.tickRun = [])
include h4

theorem hkaStart_software {l : List Nat} (h : x.swRun = e :: l) :
    s.hkaStart d = s.setConv d { x with cur := some (entryConv s d e .software 0 0 0), swRun := l } := by
  rw [hkaStart_idle he hl hc hx, h1, h2, h3, h4, h]

theorem hkaStart_nothing (h : x.swRun = []) : s.hkaStart d = s.setConv d x := by
  rw [hkaStart_idle he hl hc hx, h1, h2, h3, h4, h]

end

/-! ### HKA_MARKER (R450 to R452) -/

/-- The entry that answers a port's markers, if there is one. -/
def markerEntry (s : State) (p : Port) : Option Nat :=
  (hkaEntries s (p.val / 4) 3).find? (fun e => s.fld (R.HKA_ENTRY.mport (p.val / 4) e) == p.val % 4)

/-- It is the first of the entries that marker and port select. -/
theorem markerEntry_eq_head (s : State) (p : Port) : markerEntry s p = ((List.range 32).filter (fun e =>
    s.fld (R.HKA_ENTRY.trigger (p.val / 4) e) == 3 && s.fld (R.HKA_ENTRY.mport (p.val / 4) e) == p.val % 4)).head? := by
  rw [markerEntry, hkaEntries, List.find?_filter, List.head?_filter]
  simp only [Bool.decide_and, Bool.decide_eq_true]

theorem markerEntry_of_first (he : e < 32) (ht : s.fld (R.HKA_ENTRY.trigger (p.val / 4) e) = 3)
    (hm : s.fld (R.HKA_ENTRY.mport (p.val / 4) e) = p.val % 4)
    (hlow : ∀ e2, e2 < e → s.fld (R.HKA_ENTRY.trigger (p.val / 4) e2) ≠ 3 ∨ s.fld (R.HKA_ENTRY.mport (p.val / 4) e2) ≠ p.val % 4) :
    markerEntry s p = some e := by
  rw [markerEntry_eq_head, List.head?_filter, List.find?_range_eq_some]
  refine ⟨by simp [ht, hm], by simpa using he, fun e2 h2 => ?_⟩
  rcases hlow e2 h2 with h | h <;> simp [h]

/-- A marker, by the entry that answers it and by what the converter does. -/
theorem exec_hkaMarker (hd : p.val / 4 = d) : exec (.hkaMarker p onu fc) s = .next (
    match markerEntry s p with
    | none => s.dropMarker d p
    | some e =>
      if !s.flag (R.HKA_CTL.en d) || s.flag (R.HKA_STATUS.die_lost d) then s.dropMarker d p
      else
        match (s.conv d).cur with
        | none => (s.setConv d { s.conv d with markers := (s.conv d).markers ++ [entryConv s d e .marker p onu (fc % 2 ^ 16)] }).hkaStart d
        | some c =>
          if c.kind = .marker then
            if 4 ≤ (s.conv d).markers.length then s.dropMarker d p
            else s.setConv d { s.conv d with markers := (s.conv d).markers ++ [entryConv s d e .marker p onu (fc % 2 ^ 16)] }
          else ((s.setConv d { s.conv d with
            cur := none, aborted := some c,
            markers := (s.conv d).markers ++ [entryConv s d e .marker p onu (fc % 2 ^ 16)] }).bump (hkaCtr d 7)).hkaStart d) := by
  subst hd
  rfl

theorem hkaMarker_unanswered (hd : p.val / 4 = d) (h : markerEntry s p = none) :
    exec (.hkaMarker p onu fc) s = .next (s.dropMarker d p) := by
  rw [exec_hkaMarker hd, h]

theorem hkaMarker_off (hd : p.val / 4 = d) (h : s.flag (R.HKA_CTL.en d) = false ∨ s.flag (R.HKA_STATUS.die_lost d) = true) :
    exec (.hkaMarker p onu fc) s = .next (s.dropMarker d p) := by
  rw [exec_hkaMarker hd]
  cases markerEntry s p with
  | none => rfl
  | some e => exact congrArg Host.Outcome.next (if_pos (by rcases h with h | h <;> simp [h]))

section
variable (hd : p.val / 4 = d) (he : markerEntry s p = some e) (hm : m = entryConv s d e .marker p onu (fc % 2 ^ 16))
  (hen : s.flag (R.HKA_CTL.en d) = true) (hl : s.flag (R.HKA_STATUS.die_lost d) = false)
include hd he hm hen hl

theorem hkaMarker_starts (hc : (s.conv d).cur = none) : exec (.hkaMarker p onu fc) s
    = .next ((s.setConv d { s.conv d with markers := (s.conv d).markers ++ [m] }).hkaStart d) := by
  subst hm
  rw [exec_hkaMarker hd, he]
  dsimp only
  rw [if_neg (by simp [hen, hl]), hc]

/-- A marker aborts a conversion of another kind. -/
theorem hkaMarker_aborts (hc : (s.conv d).cur = some c) (hk : c.kind ≠ .marker) : exec (.hkaMarker p onu fc) s
    = .next (((s.setConv d { s.conv d with cur := none, aborted := some c, markers := (s.conv d).markers ++ [m] }).bump
        (0x2900 + 8 * d + 7)).hkaStart d) := by
  subst hm
  rw [exec_hkaMarker hd, he]
  dsimp only
  rw [if_neg (by simp [hen, hl]), hc]
  exact congrArg Host.Outcome.next (if_neg hk)

/-- A marker waits behind a marker conversion, in a queue of four. -/
theorem hkaMarker_waits (hc : (s.conv d).cur = some c) (hk : c.kind = .marker) (h4 : (s.conv d).markers.length < 4) :
    exec (.hkaMarker p onu fc) s = .next (s.setConv d { s.conv d with markers := (s.conv d).markers ++ [m] }) := by
  subst hm
  rw [exec_hkaMarker hd, he]
  dsimp only
  rw [if_neg (by simp [hen, hl]), hc]
  exact congrArg Host.Outcome.next ((if_pos hk).trans (if_neg (Nat.not_le.mpr h4)))

omit hm in
theorem hkaMarker_full (hc : (s.conv d).cur = some c) (hk : c.kind = .marker) (h4 : 4 ≤ (s.conv d).markers.length) :
    exec (.hkaMarker p onu fc) s = .next (s.dropMarker d p) := by
  rw [exec_hkaMarker hd, he]
  dsimp only
  rw [if_neg (by simp [hen, hl]), hc]
  exact congrArg Host.Outcome.next ((if_pos hk).trans (if_pos h4))

end

/-! ### HKA_CONVERSION_DONE (R447, R454) -/

/-- The limited and rounded code of a voltage, at the place of align. -/
theorem hkaResult_eq (signed left : Bool) (nv k : Int) (hk : k = if left then 16 else 1) :
    hkaResult signed left nv = if signed then codeOf 16 (k * clampInt (-2048) 2047 (roundDiv 2 (2048 * nv) 600000000))
      else codeOf 16 (k * clampInt 0 4095 (roundDiv 2 (4096 * nv) 1200000000)) := by
  subst hk
  cases signed <;> cases left <;> simp [hkaResult]

/-- A conversion that ends: the converter is free, the result is counted and stands in HKA_VAL. -/
def State.hkaEnded (s : State) (d : Nat) (c : Conv) (r : Nat) : State :=
  let u := (s.setConv d { s.conv d with cur := none }).bump (0x2900 + 8 * d)
  (u.setFld (R.HKA_VAL.result d c.input) r).setFld (R.HKA_VAL.frame_lo d c.input) (u.fc % 2 ^ 16)

theorem hkaConversionDone_none (hd : d < 3) (h : (s.conv d).cur = none) : exec (.hkaConversionDone d nv) s = .next s := by
  show execHkaConversionDone d nv s = _
  rw [execHkaConversionDone, Nat.mod_eq_of_lt hd]
  dsimp only
  rw [h]

theorem hkaConversionDone_ends (hd : d < 3) (h : (s.conv d).cur = some c) {r : Nat}
    (hr : r = hkaResult (hkaSigned d c.input) (s.flag (R.HKA_CTL.align d)) nv) (ht : t = s.hkaEnded d c r) :
    exec (.hkaConversionDone d nv) s = .next (
      let u := if c.toData then t.hkaData d c r else t
      (if c.kind = .marker then (u.bump (0x2900 + 8 * d + 3)).hkaRssi d c r else u).hkaStart d) := by
  subst ht hr
  show execHkaConversionDone d nv s = _
  rw [execHkaConversionDone, Nat.mod_eq_of_lt hd]
  dsimp only
  rw [h]
  rfl

/-! ### HKA_DATA_READ (R455) -/

theorem hkaDataRead_delivers (hd : d < 3) (h : sees fn (R.HKA_DATA.addr d) = true) (ha : accessKind s fn (R.HKA_DATA.addr d) false = 0) :
    exec (.hkaDataRead fn d) s
      = .next ((s.emit (.readData fn (R.HKA_DATA.addr d) (s.reg (R.HKA_DATA.addr d)).toNat)).setFlag (R.HKA_DATA.new d) false) := by
  show execHkaDataRead fn d s = _
  rw [execHkaDataRead, Nat.mod_eq_of_lt hd]
  exact congrArg Host.Outcome.next ((if_neg (by simp [h])).trans (if_neg (not_not_intro ha)))

end

/-- Settles O47: the software trigger by what runs, the start by the order of R451, a marker by its entry and the conversion in progress. -/
theorem housekeepingConversionsFollowTheirTriggers : Obligations.HousekeepingConversionsFollowTheirTriggers := by
  unfold Obligations.HousekeepingConversionsFollowTheirTriggers
  intro s d hd
  refine ⟨fun src v t h ht => ⟨fun hb => ?_, fun hb hr => ?_, fun hb hs hc ha => ?_⟩, fun he hl hc x hx =>
    ⟨fun m l => hkaStart_marker he hl hc hx, fun a h1 => hkaStart_aborted he hl hc hx h1,
      fun i l h1 h2 h => ⟨_, rfl, rfl, rfl, hkaStart_thermal he hl hc hx h1 h2 h⟩,
      fun e l h1 h2 h3 => hkaStart_tick he hl hc hx h1 h2 h3, fun e l h1 h2 h3 h4 => hkaStart_software he hl hc hx h1 h2 h3 h4,
      fun h1 h2 h3 h4 => hkaStart_nothing he hl hc hx h1 h2 h3 h4⟩,
    fun p onu fc hp mine hmine drop hdrop => ?marker, fun nv => ⟨hkaConversionDone_none hd, fun c k r t hc hk hr ht => ?done⟩,
    fun fn => hkaDataRead_delivers hd⟩
  · rw [exec_hkaSwTrig hd h ht, if_pos (by simp [hb])]
  · rw [exec_hkaSwTrig hd h ht, if_neg (by simp [hb]), if_pos (runs_iff.mpr hr)]
  · rw [exec_hkaSwTrig hd h ht, if_neg (by simp [hb]), if_neg]
    · rfl
    · rw [runs_iff]
      rintro (hr | ⟨c, hcur, hk⟩ | ⟨c, hab, hk⟩)
      · exact hr hs
      · exact hc c hcur hk
      · exact ha c hab hk
  case marker =>
    obtain rfl : drop = s.dropMarker d p := hdrop
    have hhead : markerEntry s p = mine.head? := by rw [markerEntry_eq_head, hp, hmine]
    refine ⟨fun h => ?_, fun e l m hm hmk hen hl => ?_⟩
    · rcases h with h | h
      · exact hkaMarker_unanswered hp (by rw [hhead, h]; rfl)
      · exact hkaMarker_off hp h
    · have he : markerEntry s p = some e := by rw [hhead, hm]; rfl
      exact ⟨hkaMarker_starts hp he hmk hen hl, fun c => hkaMarker_waits hp he hmk hen hl, fun c => hkaMarker_full hp he hen hl,
        fun c => hkaMarker_aborts hp he hmk hen hl⟩
  case done =>
    have hend := hkaConversionDone_ends (t := t) hd hc (hr.trans (hkaResult_eq _ _ nv k hk).symm) ht
    refine ⟨fun hk hd => ?_, fun hk hd => ?_, fun hk hd => ?_⟩
    · rw [hend]
      simp [hk, hd]
    · rw [hend]
      simp [hk, hd]
    · rw [hend]
      simp [hk, hd]

/-- Settles O50: the first entry of the port answers the marker, which waits while there is room. -/
theorem markersWaitInAQueueOfFour : Obligations.MarkersWaitInAQueueOfFour := by
  unfold Obligations.MarkersWaitInAQueueOfFour
  intro s p onu fc e c hc hk hen hl he ht hm hlow
  have hfirst := markerEntry_of_first he ht hm hlow
  refine ⟨fun h4 m hkind hentry hport honu hfc hinput hdata => hkaMarker_waits rfl hfirst ?_ hen hl hc hk h4, hkaMarker_full rfl hfirst hen hl hc hk⟩
  rw [entryConv, ← hinput, ← hdata, ← hfc, ← honu, ← hport, ← hentry, ← hkind]

end Sys2Proof.Machine
end

section
/-!
Bias outputs: holds, slews, over-temperature and release (R462 to R465).
-/
namespace Sys2Proof.Machine

section
variable {s t x y : State} {k us now src v : Nat} {major : Prop}

/-! ### Time within the frame -/

theorem bdaFrom_tick (s : State) (k now : Nat) : (s.bdaFrom k now).tick = s.tick := rfl

theorem bdaSettle_tick (s : State) (k now : Nat) : (s.bdaSettle k now).tick = s.tick := by
  have hfrom : (if s.fld (R.BDA_STAT.phase k) = 1 then s else s.bdaFrom k now).tick = s.tick := by
    split
    · rfl
    · exact bdaFrom_tick s k now
  unfold State.bdaSettle
  dsimp only
  generalize (if s.fld (R.BDA_STAT.phase k) = 1 then s else s.bdaFrom k now) = u at hfrom
  split
  · exact hfrom
  · rw [State.setFld_tick, State.setFld_tick, hfrom]

theorem nowUs_eq (h : now = 125 * s.tick + us % 125) : nowUs s us = now := h.symm

/-! ### Slews and holds (R462, R463) -/

/-- A slewing output is followed from where it was last seen. -/
theorem bdaSettle_slewing (hp : s.fld (R.BDA_STAT.phase k) = 2) {o : Nat}
    (ho : o = slewed (s.fld (R.BDA_STAT.out_code k)) (s.fld (R.BDA_CODE.code k)) (s.fld (R.BDA_CFG.slew k)) (now - bdaSince s k)) :
    s.bdaSettle k now = ((s.bdaFrom k now).setFld (R.BDA_STAT.out_code k) o).setFld (R.BDA_STAT.phase k)
      (if o = s.fld (R.BDA_CODE.code k) then 0 else 2) := by
  have hfrom : (s.bdaFrom k now).fld (R.BDA_STAT.phase k) = 2 := hp
  subst ho
  unfold State.bdaSettle
  dsimp only
  rw [if_neg (show ¬ s.fld (R.BDA_STAT.phase k) = 1 by omega), if_neg (not_not_intro hfrom)]
  rfl

theorem bdaSlew_at_once (h : s.fld (R.BDA_CFG.slew k) = 0) :
    s.bdaSlew k = (s.setFld (R.BDA_STAT.out_code k) (s.fld (R.BDA_CODE.code k))).setFld (R.BDA_STAT.phase k) 0 := if_pos h

theorem bdaSlew_slews (h : s.fld (R.BDA_CFG.slew k) ≠ 0) (ho : s.fld (R.BDA_STAT.out_code k) ≠ s.fld (R.BDA_CODE.code k)) :
    s.bdaSlew k = s.setFld (R.BDA_STAT.phase k) 2 := by
  rw [State.bdaSlew, if_neg h, if_neg ho]

theorem bdaMajor_iff (hm : major ↔ t.fld (R.BDA_CFG.step_thresh k)
    < ((t.fld (R.BDA_CODE.code k) : Int) - t.fld (R.BDA_STAT.out_code k)).natAbs) : bdaMajor t k = true ↔ major := by
  rw [hm]
  exact decide_eq_true_iff

theorem bdaMove_holds (hp : t.fld (R.BDA_STAT.phase k) ≠ 1) (hm : bdaMajor t k = true) (hh : t.fld (R.BDA_CFG.hold k) ≠ 0) :
    t.bdaMove k now = (t.bdaFrom k now).setFld (R.BDA_STAT.phase k) 1 := by
  rw [State.bdaMove, if_neg (by simp [hp]), if_pos (by simp [hm, hh])]

/-- A code that is still major during the hold only replaces the target. -/
theorem bdaMove_in_hold (hp : t.fld (R.BDA_STAT.phase k) = 1) (hm : bdaMajor t k = true) : t.bdaMove k now = t := by
  rw [State.bdaMove, if_pos (by simp [hp, hm])]

theorem bdaMove_slews (h : bdaMajor t k = false ∨ (t.fld (R.BDA_STAT.phase k) ≠ 1 ∧ t.fld (R.BDA_CFG.hold k) = 0)) :
    t.bdaMove k now = (t.bdaFrom k now).bdaSlew k := by
  unfold State.bdaMove
  rcases h with h | ⟨h1, h2⟩
  · rw [if_neg (by simp [h]), if_neg (by simp [h])]
  · rw [if_neg (by simp [h1]), if_neg (by simp [h2])]

/-! ### BDA_CODE_WRITE (R462, R463) -/

theorem bdaKept_safe (hp : t.fld (R.BDA_STAT.phase k) = 3) (h : t.flag (R.BDA_SAFE.ot_hold k) = true ∨ t.flag R.GLB_STATUS.pkg_fenced = true) :
    bdaKept t k = true := by
  rcases h with h | h <;> simp [bdaKept, hp, h]

theorem bdaKept_not (h : t.fld (R.BDA_STAT.phase k) ≠ 3 ∨ (t.flag (R.BDA_SAFE.ot_hold k) = false ∧ t.flag R.GLB_STATUS.pkg_fenced = false)) :
    bdaKept t k = false := by
  rcases h with h | ⟨h1, h2⟩
  · simp [bdaKept, h]
  · simp [bdaKept, h1, h2]

/-- The output followed up to now, with the written code. -/
def State.bdaTake (s : State) (k v now : Nat) : State :=
  ((s.bdaSettle k now).setFld (R.BDA_CODE.en k) (bitsOf v 31 31)).setFld (R.BDA_CODE.code k) (bitsOf v 15 0)

theorem exec_bdaCodeWrite (hk : k < 32) (hn : now = 125 * s.tick + us % 125) (h : Reaches s src (R.BDA_CODE.addr k))
    (ht : t = s.bdaTake k v now) :
    exec (.bdaCodeWrite src k v us) s = .next (if bdaKept t k then t else t.bdaMove k now) := by
  have htick : nowUs (s.bdaTake k v (nowUs s us)) us = nowUs s us := by
    rw [nowUs, State.bdaTake, State.setFld_tick, State.setFld_tick, bdaSettle_tick, nowUs]
  subst ht
  rw [← nowUs_eq hn]
  show execBdaCodeWrite src k v us s = _
  rw [execBdaCodeWrite, Nat.mod_eq_of_lt hk, accessed_of_reaches h]
  show Host.Outcome.next (if bdaKept (s.bdaTake k v (nowUs s us)) k then s.bdaTake k v (nowUs s us)
    else (s.bdaTake k v (nowUs s us)).bdaMove k (nowUs (s.bdaTake k v (nowUs s us)) us)) = _
  rw [htick]

/-! ### BDA_HOLD_EXPIRED (R462) -/

theorem exec_bdaHoldExpired (hk : k < 32) (hn : now = 125 * s.tick + us % 125) {ends : Nat}
    (he : ends = bdaSince s k + s.fld (R.BDA_CFG.hold k)) : exec (.bdaHoldExpired k us) s = .next (
      if s.fld (R.BDA_STAT.phase k) = 1 && decide (ends ≤ now) then ((s.bdaFrom k ends).bdaSlew k).bdaSettle k now else s) := by
  subst he
  rw [← nowUs_eq hn]
  show execBdaHoldExpired k us s = _
  rw [execBdaHoldExpired, Nat.mod_eq_of_lt hk]

/-! ### BDA_OVER_TEMP (R464) -/

/-- The level source of a port's outputs follows their flags. -/
def State.otLevel (s : State) (k : Nat) : State := s.level (0x1068 + k / 4) (otMask s (k / 4) ≠ 0) (otMask s (k / 4))

theorem exec_bdaOverTemp_falls (hk : k < 32) : exec (.bdaOverTemp k us false) s = .next ((s.setFlag (R.BDA_STAT.ot k) false).otLevel k) := by
  show execBdaOverTemp k us false s = _
  rw [execBdaOverTemp, Nat.mod_eq_of_lt hk]
  rfl

/-- A flag that rises is counted, and drives the output to its safe code where ot_action asks for it. -/
theorem exec_bdaOverTemp_rises (hk : k < 32) (ht : t = (s.setFlag (R.BDA_STAT.ot k) true).bump (0x2920 + k))
    (hr : s.flag (R.BDA_STAT.ot k) = false) : exec (.bdaOverTemp k us true) s = .next (
      (if t.flag (R.BDA_SAFE.ot_action k) then ((t.bdaSettle k (nowUs t us)).bdaSafe k).setFlag (R.BDA_SAFE.ot_hold k) true else t).otLevel k) := by
  subst ht
  show execBdaOverTemp k us true s = _
  rw [execBdaOverTemp, Nat.mod_eq_of_lt hk]
  simp only [hr, Bool.not_false, Bool.true_and, if_true, State.otLevel]

/-! ### OT_HOLD_RELEASE (R464) -/

/-- A write of BDA_SAFE takes ot_action and the safe code. -/
def State.safeSettings (s : State) (k v : Nat) : State :=
  (s.setFld (R.BDA_SAFE.ot_action k) (bitsOf v 16 16)).setFld (R.BDA_SAFE.safe_code k) (bitsOf v 15 0)

theorem exec_otHoldRelease (hk : k < 32) (hn : now = 125 * s.tick + us % 125) (h : Reaches s src (R.BDA_SAFE.addr k))
    (ht : t = s.safeSettings k v) : exec (.otHoldRelease src k v us) s = .next (
      if bitAt v 17 then t.setFlag (R.BDA_SAFE.ot_hold k) true
      else if !t.flag (R.BDA_SAFE.ot_hold k) || t.flag (R.BDA_STAT.ot k) then t
      else (((t.setFlag (R.BDA_SAFE.ot_hold k) false).bdaSettle k now).setFld (R.BDA_STAT.phase k) 0).bdaMove k now) := by
  subst ht
  rw [← nowUs_eq hn]
  show execOtHoldRelease src k v us s = _
  rw [execOtHoldRelease, Nat.mod_eq_of_lt hk, accessed_of_reaches h]
  rfl

end

/-- Settles O48: a written code by what keeps or holds the output, and the over-temperature flag by its rise and the host's release. -/
theorem biasOutputsFollowTheirCodes : Obligations.BiasOutputsFollowTheirCodes := by
  unfold Obligations.BiasOutputsFollowTheirCodes
  intro s k us hk now hn
  refine ⟨fun src v t h ht major hmajor => ?write, fun ends he => ⟨fun hp hle => ?_, fun hp => ?_⟩, fun hp o => bdaSettle_slewing hp,
    bdaSlew_at_once, bdaSlew_slews, fun t ht hr => ⟨fun ha => ?_, fun ha x y hx hy => ?_⟩, fun t ht => ?_, fun src v t h ht => ?release⟩
  case write =>
    have hw := exec_bdaCodeWrite hk hn h ht
    have hm := bdaMajor_iff hmajor
    refine ⟨fun hp hkept => ?_, fun hkept hp hj hh => ?_, fun hp hj => ?_, fun hkept hj => ?_⟩
    · rw [hw, if_pos (bdaKept_safe hp hkept)]
    · rw [hw, if_neg (by simp [bdaKept_not hkept]), bdaMove_holds hp (hm.mpr hj) hh]
    · rw [hw, if_neg (by simp [bdaKept, hp]), bdaMove_in_hold hp (hm.mpr hj)]
    · rw [hw, if_neg (by simp [bdaKept_not hkept]), bdaMove_slews (by rwa [← Bool.not_eq_true, hm])]
  case release =>
    have hw := exec_otHoldRelease hk hn h ht
    refine ⟨fun hb hh ho => ?_, fun hb => ?_, fun hb hh => ?_⟩
    · rw [hw, if_neg (by simp [hb]), if_neg (by simp [hh, ho])]
    · rw [hw, if_pos hb]
    · rw [hw, if_neg (by simp [hb]), if_pos (by rcases hh with hh | hh <;> simp [hh])]
  · rw [exec_bdaHoldExpired hk hn he, if_pos (by simp [hp, hle])]
  · rw [exec_bdaHoldExpired hk hn he, if_neg]
    rcases hp with hp | hp
    · simp [hp]
    · simp [hp]
  · rw [exec_bdaOverTemp_rises hk ht hr, if_neg (by simp [ha])]
    rfl
  · rw [exec_bdaOverTemp_rises hk ht hr, if_pos ha, hy, hx]
    rfl
  · rw [exec_bdaOverTemp_falls hk, ht]
    rfl

end Sys2Proof.Machine
end

section
/-!
Ports of lanes: training, quiet states and loss of lock (R391 to R400).
-/
namespace Sys2Proof.Machine

section
variable {s t u z : State} {P k l c side : Nat} {order : List Nat} {b : Bool}

/-! ### PORT_UP (R391, R393, R399) -/

/-- A QUIET Aqand port none of whose lanes is quiet any more has woken. -/
def portWoken (s : State) (P : Nat) : Bool := portSt s P = 4 && decide (16 ≤ P) && !(portLanes s P).any (laneQuiet s)

/-- An Aqand port that is up shows its partner ready and sets rx_ready. -/
def State.partnerReady (s : State) (q : Nat) : State :=
  let u := s.setFlag (R.AQL_PORT_STATUS.partner_ready q) true
  { u with lanes := { u.lanes with rxReady := u.lanes.rxReady.filter (· ≠ q) ++ [q] } }

/-- A port comes up with every lane locked, and its quiet requests apply. -/
theorem exec_portUp (hP : P < 18) (ht : t = (s.endQuiet P).setLocks P (2 ^ (portLanes s P).length - 1) order) :
    exec (.portUp P order) s = .next (
      if portSt s P ≠ 1 && !portWoken s P then s
      else if 16 ≤ P && !deskews order then s.bump (lanePortCtr P 2)
      else (((if P < 16 then t else t.partnerReady (P - 16)).setPortSt P 2).pairForms).enterQuiet P) := by
  subst ht
  show execPortUp P order s = _
  rw [execPortUp, Nat.mod_eq_of_lt hP]
  rfl

theorem portUp_uplink (h : portSt s P = 1) (hP : P < 16) (ht : t = (s.endQuiet P).setLocks P (2 ^ (portLanes s P).length - 1) order) :
    exec (.portUp P order) s = .next (((t.setPortSt P 2).pairForms).enterQuiet P) := by
  rw [exec_portUp (by omega) ht, if_neg (by simp [h]), if_neg (by simp [hP]), if_pos hP]

section
variable (hP : P < 18) (h : portSt s P = 1 ∨ (portSt s P = 4 ∧ (portLanes s P).any (laneQuiet s) = false)) (h16 : 16 ≤ P)
include hP h h16

omit hP in
theorem portUp_not_refused : ¬ (portSt s P ≠ 1 && !portWoken s P) = true := by
  rcases h with h | ⟨h, hq⟩
  · simp [h]
  · rw [portWoken, hq]
    simp [h, h16]

/-- Where the logical lanes repeat the port has not deskewed (R391). -/
theorem portUp_no_deskew (hd : deskews order = false) : exec (.portUp P order) s = .next (s.bump (lanePortCtr P 2)) := by
  rw [exec_portUp hP rfl, if_neg (portUp_not_refused h h16), if_pos (by simp [hd, h16])]

theorem portUp_aqand (hd : deskews order = true) (ht : t = (s.endQuiet P).setLocks P (2 ^ (portLanes s P).length - 1) order) :
    exec (.portUp P order) s = .next ((((t.partnerReady (P - 16)).setPortSt P 2).pairForms).enterQuiet P) := by
  rw [exec_portUp hP ht, if_neg (portUp_not_refused h h16), if_neg (by simp [hd]), if_neg (Nat.not_lt.mpr h16)]

end

theorem portUp_ignored (hP : P < 18) (h1 : portSt s P ≠ 1) (h : portSt s P ≠ 4 ∨ P < 16 ∨ (portLanes s P).any (laneQuiet s) = true) :
    exec (.portUp P order) s = .next s := by
  rw [exec_portUp hP rfl, if_pos]
  have hw : portWoken s P = false := by
    unfold portWoken
    rcases h with h | h | h
    · simp [h]
    · simp [Nat.not_le.mpr h]
    · rw [h]
      simp
  simp [h1, hw]

/-! ### TRAINING_TIMEOUT and TRAINING_RETRY (R393) -/

/-- The lanes that have not locked, each counted. -/
def State.countUnlocked (s : State) (ls : List Nat) (locked : Nat) : State :=
  ls.zipIdx.foldl (fun x e => if bitAt locked e.2 then x else x.bump (laneCtr e.1 1)) s

theorem trainingTimeout_ignored {locked : Nat} (hP : P < 18) (h : portSt s P ≠ 1) : exec (.trainingTimeout P locked order) s = .next s := by
  show execTrainingTimeout P locked order s = _
  rw [execTrainingTimeout, Nat.mod_eq_of_lt hP]
  exact congrArg Host.Outcome.next (if_pos h)

theorem trainingTimeout_down {locked : Nat} (hP : P < 18) (h : portSt s P = 1) (hu : u = (s.setLocks P locked order).countUnlocked (portLanes s P) locked) :
    exec (.trainingTimeout P locked order) s = .next ((u.setPortSt P 3).pulse 0x1092 (P + 2 ^ 8 *
      ((List.range (portLanes s P).length).map (fun i => if bitAt locked i then 0 else 2 ^ i)).sum)) := by
  have hun : ∀ i, bit01 (!bitAt locked i) * 2 ^ i = if bitAt locked i then 0 else 2 ^ i := by
    intro i
    cases bitAt locked i <;> simp [bit01]
  subst hu
  show execTrainingTimeout P locked order s = _
  rw [execTrainingTimeout, Nat.mod_eq_of_lt hP]
  simp only [hun]
  exact congrArg Host.Outcome.next (if_neg (not_not_intro h))

theorem trainingRetry_trains (hP : P < 18) (h : portSt s P = 3) :
    exec (.trainingRetry P) s = .next ((s.addFldSat (portRetriesField P) 1).trainPort P) := by
  show execTrainingRetry P s = _
  rw [execTrainingRetry, Nat.mod_eq_of_lt hP]
  exact congrArg Host.Outcome.next (if_pos h)

theorem trainingRetry_ignored (hP : P < 18) (h : portSt s P ≠ 3) : exec (.trainingRetry P) s = .next s := by
  show execTrainingRetry P s = _
  rw [execTrainingRetry, Nat.mod_eq_of_lt hP]
  exact congrArg Host.Outcome.next (if_neg h)

/-! ### QUIET_ANNOUNCE_RX and the lanes that follow (R399) -/

theorem quietAnnounceRx_taken (hP : P = 16 + side % 2) (ht : t = s.bump (lanePortCtr P 4)) (h : portSt t P = 2 ∨ portSt t P = 4) :
    exec (.quietAnnounceRx side) s = .next (t.setFlag (R.AQL_PORT_STATUS.partner_quiet (side % 2)) true) := by
  subst ht hP
  show execQuietAnnounceRx side s = _
  rw [execQuietAnnounceRx]
  dsimp only
  rw [if_pos (by simpa using h), Nat.add_sub_cancel_left]

theorem quietAnnounceRx_counted (hP : P = 16 + side % 2) (ht : t = s.bump (lanePortCtr P 4)) (h2 : portSt t P ≠ 2) (h4 : portSt t P ≠ 4) :
    exec (.quietAnnounceRx side) s = .next t := by
  subst ht hP
  exact congrArg Host.Outcome.next (if_neg (by simp [h2, h4]))

/-- An Aqand lane follows its partner's: no signal, no lock. -/
def State.startFollow (s : State) (l : Nat) : State :=
  { s with lanes := { s.lanes with follow := s.lanes.follow ++ [l], waking := s.lanes.waking.filter (· ≠ l) } }

/-- The signal of a lane that follows has returned. -/
def State.startWake (s : State) (l : Nat) : State :=
  { s with lanes := { s.lanes with follow := s.lanes.follow.filter (· ≠ l), waking := s.lanes.waking ++ [l] } }

section
variable (hk : k < 8) (hl : l = 16 + k) (hP : P = 16 + k / 4)
include hk hl hP

theorem exec_followSignalChange : exec (.followSignalChange k b) s = .next (
    if !(portSt s P = 2 || portSt s P = 4) then s
    else if !b then
      if !s.flag (R.AQL_PORT_STATUS.partner_quiet (k / 4)) || s.flag (laneRxQuiet l) then s
      else
        (((((((s.startFollow l).setFlag (laneRxQuiet l) true).bump (laneCtr l 6)).setFlag (laneCdr l) false).setFlag (laneBlock l) false).clearLocked
          P l).setPortSt P 4)
    else if !s.lanes.follow.contains l then s
    else ((s.startWake l).setFlag (laneRxQuiet l) false).laneFreeze l) := by
  have hq : P - 16 = k / 4 := by omega
  rw [← hq]
  subst hl hP
  show execFollowSignalChange k b s = _
  rw [execFollowSignalChange, Nat.mod_eq_of_lt hk]
  rfl

theorem followSignalChange_ignored (h2 : portSt s P ≠ 2) (h4 : portSt s P ≠ 4) : exec (.followSignalChange k b) s = .next s := by
  rw [exec_followSignalChange hk hl hP, if_pos (by simp [h2, h4])]

section
variable (h : portSt s P = 2 ∨ portSt s P = 4)
include h

theorem followSignalChange_up : exec (.followSignalChange k b) s = .next (
    if !b then
      if !s.flag (R.AQL_PORT_STATUS.partner_quiet (k / 4)) || s.flag (laneRxQuiet l) then s
      else
        (((((((s.startFollow l).setFlag (laneRxQuiet l) true).bump (laneCtr l 6)).setFlag (laneCdr l) false).setFlag (laneBlock l) false).clearLocked
          P l).setPortSt P 4)
    else if !s.lanes.follow.contains l then s
    else ((s.startWake l).setFlag (laneRxQuiet l) false).laneFreeze l) := by
  rw [exec_followSignalChange hk hl hP, if_neg (by rcases h with h | h <;> simp [h])]

theorem followSignalChange_unannounced
    (hq : s.flag (R.AQL_PORT_STATUS.partner_quiet (k / 4)) = false ∨ s.flag (laneRxQuiet l) = true) :
    exec (.followSignalChange k false) s = .next s := by
  rw [followSignalChange_up hk hl hP h, if_pos (show (!false) = true from rfl), if_pos (by rcases hq with hq | hq <;> simp [hq])]

theorem followSignalChange_follows (hq : s.flag (R.AQL_PORT_STATUS.partner_quiet (k / 4)) = true) (hr : s.flag (laneRxQuiet l) = false)
    (hu : u = ((((s.startFollow l).setFlag (laneRxQuiet l) true).bump (laneCtr l 6)).setFlag (laneCdr l) false).setFlag (laneBlock l) false) :
    exec (.followSignalChange k false) s = .next ((u.clearLocked P l).setPortSt P 4) := by
  rw [followSignalChange_up hk hl hP h, if_pos (show (!false) = true from rfl), if_neg (by simp [hq, hr]), hu]

theorem followSignalChange_not_following (hf : l ∉ s.lanes.follow) : exec (.followSignalChange k true) s = .next s := by
  rw [followSignalChange_up hk hl hP h, if_neg (by simp), if_pos (by simp [hf])]

theorem followSignalChange_wakes (hf : l ∈ s.lanes.follow) :
    exec (.followSignalChange k true) s = .next (((s.startWake l).setFlag (laneRxQuiet l) false).laneFreeze l) := by
  rw [followSignalChange_up hk hl hP h, if_neg (by simp), if_neg (by simp [hf])]

end

theorem exec_followLockTimeout : exec (.followLockTimeout k) s = .next (if s.lanes.waking.contains l then s.trainPort P else s) := by
  subst hl hP
  show execFollowLockTimeout k s = _
  rw [execFollowLockTimeout, Nat.mod_eq_of_lt hk]

theorem followLockTimeout_trains (h : l ∈ s.lanes.waking) : exec (.followLockTimeout k) s = .next (s.trainPort P) := by
  rw [exec_followLockTimeout hk hl hP, if_pos (by simpa using h)]

theorem followLockTimeout_ignored (h : l ∉ s.lanes.waking) : exec (.followLockTimeout k) s = .next s := by
  rw [exec_followLockTimeout hk hl hP, if_neg (by simpa using h)]

end

/-! ### LANE_LOCK_LOSS (R391, R394) -/

theorem laneLockLoss_unowned (hl : l < 24) (h : laneOwner s l = none) : exec (.laneLockLoss l c) s = .next s := by
  show execLaneLockLoss l c s = _
  rw [execLaneLockLoss, Nat.mod_eq_of_lt hl]
  dsimp only
  rw [h]

section
variable (hl : l < 24) (h : laneOwner s l = some P)
include hl h

/-- A lane that loses its lock: its bits clear, its own counts, and a port UP or QUIET trains again. -/
theorem exec_laneLockLoss (h4 : c ≠ 4) (hr : (c ≤ 1 && s.flag (laneRxQuiet l)) = false)
    (ht : t = if c ≤ 1 then ((if c = 0 || P < 16 then (s.bump (laneCtr l 2)).setFlag (laneBlock l) false else s.bump (laneCtr l 2)).clearLocked P l)
      else s)
    (hu : u = if c = 1 && 16 ≤ P then t.bump (lanePortCtr P 1) else t)
    (hz : z = if c = 3 && 16 ≤ P then u.setFlag (R.AQL_PORT_STATUS.partner_ready (P - 16)) false else u) :
    exec (.laneLockLoss l c) s = .next (
      if portSt z P = 2 || portSt z P = 4 then (if P < 16 then z.bump (lanePortCtr P 11) else z).trainPort P else z) := by
  subst ht hu hz
  show execLaneLockLoss l c s = _
  rw [execLaneLockLoss, Nat.mod_eq_of_lt hl]
  dsimp only
  rw [h]
  dsimp only
  rw [if_neg h4, if_neg (by simp [hr])]

theorem laneLockLoss_quiet (hc : c ≤ 1) (hr : s.flag (laneRxQuiet l) = true) : exec (.laneLockLoss l c) s = .next s := by
  show execLaneLockLoss l c s = _
  rw [execLaneLockLoss, Nat.mod_eq_of_lt hl]
  dsimp only
  rw [h]
  dsimp only
  rw [if_neg (by omega), if_pos (by simp [hc, hr])]

theorem laneLockLoss_deskew (h16 : 16 ≤ P) : exec (.laneLockLoss l 4) s = .next (s.bump (lanePortCtr P 2)) := by
  show execLaneLockLoss l 4 s = _
  rw [execLaneLockLoss, Nat.mod_eq_of_lt hl]
  dsimp only
  rw [h]
  dsimp only
  rw [if_pos rfl, if_neg (Nat.not_lt.mpr h16)]

/-- An uplink lane's lock is its place in the port. -/
theorem laneLockLoss_uplink (hP : P < 16) (hc : c ≤ 1) (hr : s.flag (laneRxQuiet l) = false)
    (ht : t = (s.bump (laneCtr l 2)).setFlag (laneBlock l) false)
    (hu : u = t.setFld (portLockedField P) (withBit (t.fld (portLockedField P)) (l - P) false)) :
    exec (.laneLockLoss l c) s
      = .next (if portSt u P = 2 || portSt u P = 4 then (u.bump (lanePortCtr P 11)).trainPort P else u) := by
  have hclear : t.clearLocked P l = u := by rw [hu, State.clearLocked, lockBit, if_pos hP]
  have h16 : ¬ 16 ≤ P := Nat.not_le.mpr hP
  rw [exec_laneLockLoss (t := u) (u := u) (z := u) hl h (by omega) (by simp [hr]), if_pos hP]
  · rw [if_pos hc, if_pos (by simp [hP]), ← ht, hclear]
  · rw [if_neg (by simp [h16])]
  · rw [if_neg (by simp [h16])]

/-- An Aqand lane's marker lock is its logical lane's. -/
theorem laneLockLoss_marker (h16 : 16 ≤ P) (hr : s.flag (laneRxQuiet l) = false) (ht : t = s.bump (laneCtr l 2))
    (hu : u = (t.setFld (portLockedField P) (withBit (t.fld (portLockedField P)) (t.fld (laneLogical l)) false)).bump (lanePortCtr P 1)) :
    exec (.laneLockLoss l 1) s = .next (if portSt u P = 2 || portSt u P = 4 then u.trainPort P else u) := by
  have hP : ¬ P < 16 := Nat.not_lt.mpr h16
  have hclear : (t.clearLocked P l).bump (lanePortCtr P 1) = u := by rw [hu, State.clearLocked, lockBit, if_neg hP]
  rw [exec_laneLockLoss (t := t.clearLocked P l) (u := u) (z := u) hl h (by decide) (by simp [hr]), if_neg hP]
  · rw [if_pos (Nat.le_refl 1), if_neg (by simp [h16]), ht]
  · rw [if_pos (by simp [h16]), hclear]
  · rw [if_neg (by simp)]

/-- Local fault of a port UP or QUIET trains it again. -/
theorem laneLockLoss_fault (hst : portSt s P = 2 ∨ portSt s P = 4) :
    exec (.laneLockLoss l 2) s = .next ((if P < 16 then s.bump (lanePortCtr P 11) else s).trainPort P) := by
  rw [exec_laneLockLoss (t := s) (u := s) (z := s) hl h (by decide) (by simp), if_pos (by simpa using hst)]
  · rw [if_neg (by decide)]
  · rw [if_neg (by simp)]
  · rw [if_neg (by simp)]

end

end

end Sys2Proof.Machine
end

section
/-!
Tests of lanes, and the line code of an Aqand port (R389, R390, R401 to R404).
-/
namespace Sys2Proof.Machine

section
variable {s t u : State} {l src v n : Nat} {b : Bool} {bits got : List Bool}

/-! ### Injections (R402) -/

/-- An injection that arrives while another runs is ignored, and counted (log entry 59). -/
def State.ignoreInjection (s : State) (l : Nat) : State :=
  { s with lanes := { s.lanes with ignored := Tab.set (fun _ => 0) s.lanes.ignored l (Tab.get (fun _ => 0) s.lanes.ignored l + 1) } }

section
variable (hl : l < 24) (h : Reaches s src (laneInjAddr l))
include hl h

theorem exec_laneInj : exec (.laneInjSingle src l v b) s = .next (s.injWrite l v b) ∧ exec (.laneInjBurst src l v b) s = .next (s.injWrite l v b) := by
  constructor
  · show execLaneInjSingle src l v b s = _
    rw [execLaneInjSingle, Nat.mod_eq_of_lt hl, accessed_of_reaches h]
  · show execLaneInjBurst src l v b s = _
    rw [execLaneInjBurst, Nat.mod_eq_of_lt hl, accessed_of_reaches h]

/-- Both rows write one register: what the write does is what either does. -/
theorem exec_laneInj_eq (hw : s.injWrite l v b = t) : exec (.laneInjSingle src l v b) s = .next t ∧ exec (.laneInjBurst src l v b) s = .next t :=
  hw ▸ exec_laneInj hl h

end

theorem injWrite_running (h : b = true ∨ lanePending s l ≠ 0) : s.injWrite l v b = s.ignoreInjection l :=
  if_pos (by rcases h with h | h <;> simp [h])

section
variable (hp : lanePending s l = 0)
include hp

theorem injWrite_refused (hn : bitsOf v 7 0 = 0) : s.injWrite l v false = s.refuseLane (decide (l < 16)) := by
  unfold State.injWrite
  dsimp only
  rw [if_neg (by simp [hp]), if_pos hn]

theorem injWrite_free (hn : bitsOf v 7 0 ≠ 0) (ht : t = s.setFld (laneBurst l) (bitsOf v 7 0)) :
    s.injWrite l v false = if !laneSends t l then t
      else if bitAt v 30 then t.inject l (bitsOf v 7 0)
      else if bitAt v 31 then t.inject l 1
      else t := by
  subst ht
  unfold State.injWrite
  dsimp only
  rw [if_neg (by simp [hp]), if_neg hn]

end

/-- An injection counts its symbols. -/
theorem inject_counts (h : laneOwnPrbs s l = false) : s.inject l n = s.bumpBy (laneCtr l 7) n := by
  have h' : laneOwnPrbs (s.bumpBy (laneCtr l 7) n) l = false := h
  unfold State.inject
  dsimp only
  rw [if_neg (by simp [h'])]

/-! ### PRBS checkers (R401, R403) -/

theorem prbsCheckerLock_off (hl : l < 24) (h : s.flag (laneChk l) = false) : exec (.prbsCheckerLock l bits n) s = .next s := by
  show execPrbsCheckerLock l bits n s = _
  rw [execPrbsCheckerLock, Nat.mod_eq_of_lt hl]
  exact congrArg Host.Outcome.next (if_pos (by simp [h]))

/-- The received bits go through the lane's checker: its errors are counted, and its lock stands. -/
theorem prbsCheckerLock_checks (hl : l < 24) (h : s.flag (laneChk l) = true)
    (hb : (t, got) = if laneOwnPrbs s l = true then s.ownBits l n else (s, bits)) {y : PrbsCheck × Bool × Nat}
    (hy : y = (Tab.get (fun _ => PrbsCheck.reset) t.lanes.chk l).over (t.fld (laneChkPoly l)) (t.flag (lanePrbsLock l)) got)
    (hu : u = { t with lanes := { t.lanes with chk := Tab.put t.lanes.chk l y.1 } }) :
    exec (.prbsCheckerLock l bits n) s
      = .next (((u.addFldSat (lanePrbsErr l) y.2.2).bumpBy (laneCtr l 3) y.2.2).setFlag (lanePrbsLock l) y.2.1) := by
  show execPrbsCheckerLock l bits n s = _
  rw [execPrbsCheckerLock, Nat.mod_eq_of_lt hl]
  dsimp only
  rw [if_neg (by simp [h]), ← hb, hu, hy]

theorem step_locked (poly : Nat) (x : PrbsCheck) (b : Bool) {bad : Bool} (h : bad = (prbsNext poly x.reg != b)) :
    (x.step poly true b).2 = (decide (x.errs + (if bad = true then 1 else 0) < 128), bad) := by
  subst h
  unfold PrbsCheck.step
  dsimp only
  rw [if_pos rfl, bit01]
  by_cases he : 128 ≤ x.errs + (if (prbsNext poly x.reg != b) = true then 1 else 0)
  · rw [if_pos he, decide_eq_false (Nat.not_lt.mpr he)]
  · rw [if_neg he, decide_eq_true (Nat.not_le.mp he)]
    split <;> rfl

theorem step_unlocked (poly : Nat) (x : PrbsCheck) (b : Bool) {bad : Bool} (h : bad = (prbsNext poly x.reg != b)) :
    (x.step poly false b).2 = (decide ((prbsTaps poly).1 ≤ x.seen) && !bad && decide (x.run + 1 = 1024), false) := by
  unfold PrbsCheck.step
  dsimp only
  rw [if_neg (by decide), ← h]
  by_cases hs : x.seen < (prbsTaps poly).1
  · rw [if_pos hs, decide_eq_false (Nat.not_le.mpr hs)]
    rfl
  · rw [if_neg hs, decide_eq_true (Nat.not_lt.mp hs)]
    cases bad with
    | true => rfl
    | false =>
      by_cases hr : x.run + 1 = 1024
      · simp [hr]
      · simp [hr]

/-! ### The scrambler (R389) -/

/-- The scrambler after `n` bits of a payload: its register and the scrambled bits so far. -/
def scramblerRun (r payload n : Nat) : Nat × Nat :=
  (List.range n).foldl (fun (x : Nat × Nat) i =>
    let b := (bitAt payload i != bitAt x.1 38) != bitAt x.1 57
    ((2 * x.1 + bit01 b) % 2 ^ 58, x.2 + bit01 b * 2 ^ i)) (r, 0)

/-- The `n`-th scrambled bit: the payload's with the register's at 38 and 57. -/
def scrambledBit (r payload n : Nat) : Bool :=
  (bitAt payload n != bitAt (scramblerRun r payload n).1 38) != bitAt (scramblerRun r payload n).1 57

theorem scramblerRun_succ (r payload n : Nat) : scramblerRun r payload (n + 1)
    = ((2 * (scramblerRun r payload n).1 + bit01 (scrambledBit r payload n)) % 2 ^ 58,
      (scramblerRun r payload n).2 + bit01 (scrambledBit r payload n) * 2 ^ n) := by
  conv_lhs => rw [scramblerRun, List.range_succ, List.foldl_append]
  rfl

theorem scramblerRun_bits (r payload n : Nat) : (scramblerRun r payload n).2 = bitSum (scrambledBit r payload) n := by
  induction n with
  | zero => rfl
  | succ n ih => rw [scramblerRun_succ, bitSum_succ, ← ih]

/-- The register holds the last scrambled bits, the newest lowest, above what is left of the first register. -/
theorem bitAt_scramblerRun (r payload : Nat) {n j : Nat} (hj : j < 58) :
    bitAt (scramblerRun r payload n).1 j = if j < n then scrambledBit r payload (n - 1 - j) else bitAt r (j - n) := by
  induction n generalizing j with
  | zero => rfl
  | succ n ih =>
    rw [scramblerRun_succ, bitAt_eq_testBit, Nat.testBit_mod_two_pow, decide_eq_true hj, Bool.true_and]
    cases j with
    | zero =>
      rw [if_pos (Nat.succ_pos n), Nat.add_sub_cancel, Nat.sub_zero]
      cases scrambledBit r payload n <;> simp [bit01]
    | succ j =>
      have hshift : (2 * (scramblerRun r payload n).1 + bit01 (scrambledBit r payload n)).testBit (j + 1)
          = (scramblerRun r payload n).1.testBit j := by
        rw [Nat.testBit_succ]
        congr 1
        cases scrambledBit r payload n with
        | false => simp [bit01]
        | true =>
          simp only [bit01, if_true]
          omega
      rw [hshift, ← bitAt_eq_testBit, ih (by omega)]
      simp only [Nat.add_lt_add_iff_right]
      split
      · congr 1
        omega
      · congr 1
        omega

/-- A scrambled bit is the payload's with the scrambled bits 39 and 58 before it. -/
theorem bitAt_scramble58 (r payload : Nat) {y i : Nat} (hy : y = (scramble58 r payload).2) (hi : i < 64) :
    bitAt y i = ((bitAt payload i != (if i < 39 then bitAt r (38 - i) else bitAt y (i - 39)))
      != (if i < 58 then bitAt r (57 - i) else bitAt y (i - 58))) := by
  have hbit : ∀ k, k < 64 → bitAt y k = scrambledBit r payload k := by
    intro k hk
    rw [hy, show (scramble58 r payload).2 = (scramblerRun r payload 64).2 from rfl, scramblerRun_bits, bitAt_eq_testBit, testBit_bitSum _ hk]
  have htap : ∀ d, d < 58 → bitAt (scramblerRun r payload i).1 d = if i < d + 1 then bitAt r (d - i) else bitAt y (i - (d + 1)) := by
    intro d hd
    rw [bitAt_scramblerRun r payload hd, hbit (i - (d + 1)) (by omega)]
    by_cases h : d < i
    · rw [if_pos h, if_neg (by omega)]
      congr 1
      omega
    · rw [if_neg h, if_pos (by omega)]
  rw [hbit i hi, scrambledBit, htap 38 (by decide), htap 57 (by decide)]

/-! ### Stripes and markers (R390) -/

variable {x : AqLine} {ready ann : Bool}

theorem marker_not_due (h : x.pos < 16383) : x.marker ready ann = (x, []) := if_pos h

/-- After 16,383 blocks on each lane every lane sends a marker. -/
theorem marker_due (h : 16383 ≤ x.pos) : (x.marker ready ann).2.map (fun b => (b.1, b.2.1)) = [(0, 2), (1, 2), (2, 2), (3, 2)] ∧
    (x.marker ready ann).1.count = (x.count + 1) % 2 ^ 16 ∧ (x.marker ready ann).1.pos = 0 := by
  unfold AqLine.marker
  rw [if_neg (Nat.not_lt.mpr h)]
  exact ⟨rfl, rfl, rfl⟩

/-- A block goes out scrambled on the lane whose turn it is, and the turn moves on. -/
theorem send_stripes (h : x.pos < 16383 ∨ x.lane ≠ 0) (out : List (Nat × Nat × Nat)) (blk : Nat × Nat) :
    ∃ y pay, AqLine.send ready ann (x, out) blk = (y, out ++ [(x.lane, blk.1, pay)]) ∧ y.lane = (x.lane + 1) % 4 ∧
      pay = (scramble58 (x.scr.getD x.lane 0) blk.2).2 := by
  have hm : (if x.lane = 0 then x.marker ready ann else (x, [])) = (x, []) := by
    split
    · rename_i h0
      exact marker_not_due (h.resolve_right (not_not_intro h0))
    · rfl
  unfold AqLine.send
  dsimp only
  rw [hm, List.append_nil]
  exact ⟨_, _, rfl, rfl, rfl⟩

end

/-- Settles O51: ports by their state, lanes by their owner and their lock, tests by what runs, and the line code bit by bit. -/
theorem lanesTrainGoQuietAndLoseLock : Obligations.LanesTrainGoQuietAndLoseLock := by
  unfold Obligations.LanesTrainGoQuietAndLoseLock
  intro s P hP
  refine ⟨fun order t ht => ⟨fun h h16 => portUp_uplink h h16 ht, fun h h16 => ⟨portUp_no_deskew hP h h16, fun hd u z hu hz => ?up⟩,
      portUp_ignored hP, fun _ => trainingTimeout_ignored hP, fun locked t u h ht hu => ?timeout⟩,
    trainingRetry_trains hP, trainingRetry_ignored hP,
    fun side hside t ht => ⟨quietAnnounceRx_taken hside ht, quietAnnounceRx_counted hside ht⟩,
    fun k l hk hl hPk => ⟨fun h2 h4 b => followSignalChange_ignored hk hl hPk h2 h4, fun h => ⟨followSignalChange_unannounced hk hl hPk h,
      fun hq hr t u ht hu => ?follow, followSignalChange_not_following hk hl hPk h, fun hf t ht => ?wake⟩,
      followLockTimeout_trains hk hl hPk, followLockTimeout_ignored hk hl hPk⟩,
    fun l hl => ⟨fun c => laneLockLoss_unowned hl, fun c h => laneLockLoss_quiet hl h, fun c h h16 hc hr t u ht hu => ?uplink,
      fun h h16 hr t u ht hu => ?marker, fun h hst => ?fault, laneLockLoss_deskew hl, fun src v h => ?inject, fun n => inject_counts,
      fun bits n => ⟨prbsCheckerLock_off hl, fun h t u got y hb hy hu => prbsCheckerLock_checks hl h hb hy hu⟩⟩,
    fun poly x b bad hbad => ⟨step_locked poly x b hbad, step_unlocked poly x b hbad⟩,
    fun r payload y hy i hi => bitAt_scramble58 r payload hy hi,
    fun x ready ann => ⟨marker_not_due, marker_due, fun out h hx => send_stripes hx out h⟩⟩
  case up =>
    rw [portUp_aqand hP h h16 hd ht, hz, hu]
    rfl
  case timeout =>
    exact trainingTimeout_down hP h (by rw [hu, ht]; rfl)
  case follow =>
    exact followSignalChange_follows hk hl hPk h hq hr (by rw [hu, ht]; rfl)
  case wake =>
    rw [followSignalChange_wakes hk hl hPk h hf, ht]
    rfl
  case uplink =>
    have hloss := laneLockLoss_uplink hl h h16 hc hr ht hu
    refine ⟨fun hst => ?_, fun h2 h4 => ?_⟩
    · rw [hloss, if_pos (by simpa using hst)]
    · rw [hloss, if_neg (by simp [h2, h4])]
  case marker =>
    have hloss := laneLockLoss_marker hl h h16 hr ht hu
    refine ⟨fun hst => ?_, fun h2 h4 => ?_⟩
    · rw [hloss, if_pos (by simpa using hst)]
    · rw [hloss, if_neg (by simp [h2, h4])]
  case fault =>
    refine ⟨fun h16 => ?_, fun h16 => ?_⟩
    · rw [laneLockLoss_fault hl h hst, if_pos h16]
    · rw [laneLockLoss_fault hl h hst, if_neg (Nat.not_lt.mpr h16)]
  case inject =>
    refine ⟨fun b hb t ht => exec_laneInj_eq hl h (by rw [injWrite_running hb, ht]; rfl),
      fun hp hn => exec_laneInj_eq hl h (injWrite_refused hp hn), fun hp hn t ht => ?_⟩
    have hfree := injWrite_free hp hn ht
    refine ⟨fun hs => exec_laneInj_eq hl h ?_, fun hs h30 h31 => (exec_laneInj_eq hl h ?_).1, fun hs h30 => (exec_laneInj_eq hl h ?_).2⟩
    · rw [hfree, if_pos (by simp [hs])]
    · rw [hfree, if_neg (by simp [hs]), if_neg (by simp [h30]), if_pos h31]
    · rw [hfree, if_neg (by simp [hs]), if_pos h30]

end Sys2Proof.Machine
end

section
/-!
Start-up: its stages, the waits for the reference and the pin, DEVICE_READY, the run of an image and a brown-out (R487 to R491, R542, R543, R546).
-/
namespace Sys2Proof.Machine

section
variable {s t b r : State} {obs : StartObs} {st ms : Nat}

/-! ### STARTUP_STEP_COMPLETE (R487, R490) -/

/-- A step of start-up does not complete: the pin, the shutdown hold or a failed hub step keeps it, start-up does not run, or the reference
lacks. -/
def StepWaits (s : State) (st : Nat) : Prop :=
  s.rst.resetLow = true ∨ s.flag R.RST_STATUS.shutdown_hold = true ∨ s.fld R.RST_STATUS.fail_code = 1 ∨ s.fld R.RST_STATUS.fail_code = 3 ∨
    s.fld R.RST_STATUS.fail_code = 4 ∨ st = 0 ∨ 5 ≤ st ∨ (st = 3 ∧ s.flag R.RST_STATUS.ref_missing = true)

theorem startHeld_iff : startHeld s = true ↔
    s.fld R.RST_STATUS.fail_code = 1 ∨ s.fld R.RST_STATUS.fail_code = 3 ∨ s.fld R.RST_STATUS.fail_code = 4 := by
  simp [startHeld, or_assoc]

theorem stepWaits_iff : (s.rst.resetLow || s.flag R.RST_STATUS.shutdown_hold || startHeld s || st = 0 || 5 ≤ st
    || (st = 3 && s.flag R.RST_STATUS.ref_missing)) = true ↔ StepWaits s st := by
  simp only [StepWaits, Bool.or_eq_true, Bool.and_eq_true, startHeld_iff, decide_eq_true_eq, or_assoc]

/-- A hub step fails with its code. -/
def HubFails (obs : StartObs) : Prop := obs.fail = 1 ∨ obs.fail = 3 ∨ obs.fail = 4

theorem hubFails_iff : (obs.fail == 1 || obs.fail == 3 || obs.fail == 4) = true ↔ HubFails obs := by
  simp [HubFails, or_assoc]

/-- The stage goes on, with a failed die lost. -/
def State.stageOn (s : State) (st fail : Nat) : State :=
  let b := s.setFld R.RST_STATUS.stage (st + 1)
  if fail = 5 then (b.setFld R.RST_STATUS.fail_code 5).loseDie 0 0x0A
  else if fail = 6 then (b.setFld R.RST_STATUS.fail_code 6).loseDie 1 0x0A else b

/-- The repair maps are applied and the reference is found valid or missing. -/
def State.findReference (s : State) (obs : StartObs) : State :=
  let r := s.repairMaps obs.fused
  if obs.refValid then { r with rst := { r.rst with refValid := true } }
  else (({ r with rst := { r.rst with refValid := false } } : State).setFlag R.RST_STATUS.ref_missing true).setFld R.RST_STATUS.fail_code 2

theorem stageOn_eq {fail : Nat} (hb : b = s.setFld R.RST_STATUS.stage (st + 1))
    (h5 : fail = 5 → t = (b.setFld R.RST_STATUS.fail_code 5).loseDie 0 0x0A)
    (h6 : fail = 6 → t = (b.setFld R.RST_STATUS.fail_code 6).loseDie 1 0x0A) (hn : fail ≠ 5 → fail ≠ 6 → t = b) :
    s.stageOn st fail = t := by
  subst hb
  unfold State.stageOn
  dsimp only
  split
  case isTrue h => exact (h5 h).symm
  case isFalse h =>
    split
    case isTrue h' => exact (h6 h').symm
    case isFalse h' => exact (hn h h').symm

section
variable (hst : st = s.fld R.RST_STATUS.stage)
include hst

theorem startupStep_waits (h : StepWaits s st) : exec (.startupStepComplete obs) s = .next s := by
  subst hst
  exact congrArg Host.Outcome.next (if_pos (stepWaits_iff.mpr h))

variable (hw : ¬ StepWaits s st)
include hw

theorem startupStep_hub_fails (h : HubFails obs) : exec (.startupStepComplete obs) s = .next (s.setFld R.RST_STATUS.fail_code obs.fail) := by
  subst hst
  exact congrArg Host.Outcome.next ((if_neg (mt stepWaits_iff.mp hw)).trans (if_pos (hubFails_iff.mpr h)))

theorem startupStep_runs (h : ¬ HubFails obs) (ht : s.stageOn st obs.fail = t) : exec (.startupStepComplete obs) s = .next (
    if st = 2 then t.findReference obs else if st = 3 then t.selfCalibrate obs else if st = 4 then t.channelsTrain obs.lpdUp else t) := by
  subst hst ht
  exact congrArg Host.Outcome.next ((if_neg (mt stepWaits_iff.mp hw)).trans (if_neg (mt hubFails_iff.mp h)))

end

theorem findReference_valid (hr : r = t.repairMaps obs.fused) (h : obs.refValid = true) :
    t.findReference obs = { r with rst := { r.rst with refValid := true } } := by
  subst hr
  exact if_pos h

theorem findReference_missing (hr : r = t.repairMaps obs.fused) (h : obs.refValid = false) :
    t.findReference obs = (({ r with rst := { r.rst with refValid := false } } : State).setFlag
      R.RST_STATUS.ref_missing true).setFld R.RST_STATUS.fail_code 2 := by
  subst hr
  exact if_neg (by simp [h])

/-! ### DEVICE_READY and FW_RUNNING (R489, R491) -/

theorem deviceReady_rises (h : s.fld R.RST_STATUS.stage = 5) (hf : s.flag R.GLB_STATUS.pkg_fenced = false) :
    exec (.deviceReady ms) s = .next (((((s.setFlag R.RST_STATUS.device_ready true).setFld R.RST_STATUS.stage 6).setFld
      R.RST_START_TIME.ready_ms (min ms 65535)).linkPower 0).linkPower 1) :=
  congrArg Host.Outcome.next (if_neg (by simp [h, hf]))

theorem deviceReady_ignored (h : s.fld R.RST_STATUS.stage ≠ 5 ∨ s.flag R.GLB_STATUS.pkg_fenced = true) :
    exec (.deviceReady ms) s = .next s :=
  congrArg Host.Outcome.next (if_pos (by rcases h with h | h <;> simp [h]))

theorem fwRunning_ignored (h : s.ready = false ∨ s.flag R.RST_STATUS.fw_running = true ∨ s.fld R.RST_STATUS.stage < 6) :
    exec (.fwRunning ms) s = .next s :=
  congrArg Host.Outcome.next (if_pos (by rcases h with h | h | h <;> simp [h]))

theorem fwRunning_boots {up : Bool} (h : s.ready = true) (hf : s.flag R.RST_STATUS.fw_running = false) (h6 : 6 ≤ s.fld R.RST_STATUS.stage)
    (hb : State.boot (bootOrder s.fw) s = (t, up)) :
    exec (.fwRunning ms) s = .next (if up then (t.setFld R.RST_STATUS.stage 7).setFld R.RST_START_TIME.fw_ms (min ms 65535)
      else t.setFld R.RST_STATUS.fail_code 7) := by
  show execFwRunning ms s = _
  rw [execFwRunning, if_neg (by simp [h, hf, Nat.not_lt.mpr h6]), hb]

/-! ### The reference (R489, R546) -/

/-- The reference as it is observed. -/
def State.reference (s : State) (v : Bool) : State := { s with rst := { s.rst with refValid := v } }

theorem exec_refclkLoss (ht : t = s.reference false) :
    exec .refclkLoss s = .next (if t.ready then t.setFlag R.RST_STATUS.ref_missing true else t) := by
  rw [ht]
  rfl

theorem exec_refclkValid (ht : t = s.reference true) : exec .refclkValid s = .next (
    if t.fld R.RST_STATUS.stage = 3 && t.flag R.RST_STATUS.ref_missing then
      let u := t.setFlag R.RST_STATUS.ref_missing false
      if u.fld R.RST_STATUS.fail_code = 2 then u.setFld R.RST_STATUS.fail_code 0 else u
    else t) := by
  rw [ht]
  rfl

section
variable (ht : t = s.reference true)
include ht

/-- The return of the reference ends the wait of stage 3, and with it the failure code 2. -/
theorem refclkValid_ends_wait (h3 : t.fld R.RST_STATUS.stage = 3) (hm : t.flag R.RST_STATUS.ref_missing = true)
    (hb : b = t.setFlag R.RST_STATUS.ref_missing false) :
    exec .refclkValid s = .next (if b.fld R.RST_STATUS.fail_code = 2 then b.setFld R.RST_STATUS.fail_code 0 else b) := by
  rw [exec_refclkValid ht, if_pos (by simp [h3, hm]), hb]

theorem refclkValid_elsewhere (h : t.fld R.RST_STATUS.stage ≠ 3 ∨ t.flag R.RST_STATUS.ref_missing = false) :
    exec .refclkValid s = .next t := by
  rw [exec_refclkValid ht, if_neg (by rcases h with h | h <;> simp [h])]

end

/-! ### RESET_N_RELEASE and AON_BROWNOUT (R542, R543) -/

theorem resetNRelease_high (h : s.rst.resetLow = false) : exec .resetNRelease s = .next s :=
  congrArg Host.Outcome.next (if_pos (by simp [h]))

section
variable (hl : s.rst.resetLow = true) (ht : t = { s with rst := { s.rst with resetLow := false } })
include hl ht

theorem exec_resetNRelease : exec .resetNRelease s = .next (
    if t.flag R.RST_STATUS.shutdown_hold || t.fld R.RST_STATUS.stage ≠ 0 then t else t.setFld R.RST_STATUS.stage 1) := by
  subst ht
  exact congrArg Host.Outcome.next (if_neg (by simp [hl]))

theorem resetNRelease_starts (hs : t.flag R.RST_STATUS.shutdown_hold = false) (h0 : t.fld R.RST_STATUS.stage = 0) :
    exec .resetNRelease s = .next (t.setFld R.RST_STATUS.stage 1) := by
  rw [exec_resetNRelease hl ht, if_neg (by simp [hs, h0])]

theorem resetNRelease_held (h : t.flag R.RST_STATUS.shutdown_hold = true ∨ t.fld R.RST_STATUS.stage ≠ 0) :
    exec .resetNRelease s = .next t := by
  rw [exec_resetNRelease hl ht, if_pos (by rcases h with h | h <;> simp [h])]

end
end

/-- Settles O56: each clause is a case of the command it names; what a step finds is taken stage by stage. -/
theorem startUpRunsItsStages : Obligations.StartUpRunsItsStages := by
  unfold Obligations.StartUpRunsItsStages
  refine fun s obs ms => ⟨fun st hst => ⟨startupStep_waits hst, fun hl hh h1 h3 h4 hge hle href => ?step, fun h5 hf => deviceReady_rises (hst ▸ h5) hf,
      fun h => deviceReady_ignored (hst ▸ h),
      fun t ht h => ⟨fun h3 hm u hu => ⟨fun h2 => ?ended, fun h2 => ?uncoded⟩, fun hn => refclkValid_elsewhere ht (h ▸ hn)⟩,
      fun t hl ht h => ⟨fun hs h0 => resetNRelease_starts hl ht hs (h.trans h0), fun hn => resetNRelease_held hl ht (h ▸ hn)⟩⟩,
    resetNRelease_high, fun t ht => ?loss, rfl, fwRunning_ignored, fun t b h hf h6 hb => fwRunning_boots h hf h6 hb⟩
  case step =>
    have hw : ¬ StepWaits s st := by
      simp only [StepWaits, hl, hh, h1, h3, h4, false_or, Bool.false_eq_true]
      rintro (h | h | ⟨h, hm⟩)
      · omega
      · omega
      · rw [href h] at hm
        cases hm
    refine ⟨startupStep_hub_fails hst hw, fun f1 f3 f4 b t hb h5 h6 hn => ?_⟩
    have hrun := startupStep_runs hst hw (obs := obs) (by simp [HubFails, f1, f3, f4]) (stageOn_eq hb h5 h6 hn)
    refine ⟨fun h => ?_, fun h r hr => ⟨fun hv => ?_, fun hv => ?_⟩, fun h => ?_, fun h => ?_⟩
    · rw [hrun, if_neg (by omega), if_neg (by omega), if_neg (by omega)]
    · rw [hrun, if_pos h, findReference_valid hr hv]
    · rw [hrun, if_pos h, findReference_missing hr hv]
    · rw [hrun, if_neg (by omega), if_pos h]
    · rw [hrun, if_neg (by omega), if_neg (by omega), if_pos h]
      rfl
  case ended => rw [refclkValid_ends_wait ht (h.trans h3) hm hu, if_pos h2]
  case uncoded => rw [refclkValid_ends_wait ht (h.trans h3) hm hu, if_neg h2]
  case loss =>
    exact ⟨fun h => by rw [exec_refclkLoss ht, if_pos h], fun h => by rw [exec_refclkLoss ht, if_neg (by simp [h])]⟩

end Sys2Proof.Machine
end

section
/-!
The chain: offers, replies, data, aborts and pulls, the end of a session and the deadlines (R505 to R509, Table 21-7).
-/
namespace Sys2Proof.Machine

section
variable {s t u : State} {side v sec total dig off code : Nat} {bytes : List Byte} {f : Forward}

/-! ### Running and session bundles (R507) -/

/-- A version is above the running one, or nothing runs: as the model decides it, and as the rule says it. -/
def aboveRunning (s : State) (v : Nat) : Bool :=
  match running s with
  | some (r, _) => decide (r < v)
  | none => true
def Above (s : State) (v : Nat) : Prop := ∀ x, running s = some x → x.1 < v

theorem above_iff : aboveRunning s v = true ↔ Above s v := by
  unfold Above aboveRunning
  cases running s with
  | none => simp
  | some x => simp

theorem not_above_iff : ¬ Above s v ↔ ∃ x, running s = some x ∧ v ≤ x.1 := by
  simp [Above]

theorem conflicts_iff : conflicts s v dig = true ↔ ∃ x, (running s = some x ∨ sessionBundle s = some x) ∧ x.1 = v ∧ x.2 ≠ dig := by
  have hone : ∀ o : Option (Nat × Nat), (match o with | some (w, d) => w == v && decide (d ≠ dig) | none => false) = true ↔
      ∃ x, o = some x ∧ x.1 = v ∧ x.2 ≠ dig := by
    intro o
    cases o with
    | none => simp
    | some x => simp
  rw [conflicts, List.any_cons, List.any_cons, List.any_nil, Bool.or_false, Bool.or_eq_true]
  refine (or_congr (hone _) (hone _)).trans ?_
  simp only [or_and_right, exists_or]

section
variable (hs : side < 2)
include hs

/-! ### OFFER_RX (R506, R507) -/

theorem exec_offerRx : exec (.offerRx side v sec total dig true) s = .next (
    if !s.flag R.FWU_CTL.chain_en then s.fwSend side (.reply 2 0 dig)
    else if s.hubFenced 1 then s.nextOpen.fwSend side (.reply (1 + s.openNat % 2) 0 dig)
    else if conflicts s v dig then (s.logConflict (side + 2) v).fwSend side (.reply 3 0 dig)
    else if alreadyRuns s dig then s.fwSend side (.reply 2 0 dig)
    else if s.session ≠ 0 || s.flag R.FWU_STATUS.confirm_pending then
      ((s.recordOffer (side + 1) v sec total dig).bump 0x3C01).fwSend side (.reply 1 0 dig)
    else if !aboveRunning s v || sec < s.fld R.FWU_STATUS.floor then
      s.fwSend side (.reply 2 0 dig)
    else (s.openSession (side + 2) v sec total dig).fwSend side (.reply 0 0 dig)) := by
  show execOfferRx side v sec total dig true s = _
  rw [execOfferRx, Nat.mod_eq_of_lt hs]
  dsimp only
  rw [if_neg (show ¬ (!true) = true by decide)]
  rfl

theorem offerRx_chain_off (h : s.flag R.FWU_CTL.chain_en = false) :
    exec (.offerRx side v sec total dig true) s = .next (s.fwSend side (.reply 2 0 dig)) := by
  rw [exec_offerRx hs, if_pos (by simp [h])]

section
variable (hc : s.flag R.FWU_CTL.chain_en = true) (hh : s.hubFenced 1 = false)
include hc hh

theorem offerRx_conflicts (h : conflicts s v dig = true) :
    exec (.offerRx side v sec total dig true) s = .next ((s.logConflict (side + 2) v).fwSend side (.reply 3 0 dig)) := by
  rw [exec_offerRx hs, if_neg (by simp [hc]), if_neg (by simp [hh]), if_pos h]

variable (hx : conflicts s v dig = false)
include hx

theorem offerRx_runs_already (h : alreadyRuns s dig = true) :
    exec (.offerRx side v sec total dig true) s = .next (s.fwSend side (.reply 2 0 dig)) := by
  rw [exec_offerRx hs, if_neg (by simp [hc]), if_neg (by simp [hh]), if_neg (by simp [hx]), if_pos h]

variable (hr : alreadyRuns s dig = false)
include hr

theorem offerRx_busy (h : s.session ≠ 0 ∨ s.flag R.FWU_STATUS.confirm_pending = true) :
    exec (.offerRx side v sec total dig true) s
      = .next (((s.recordOffer (side + 1) v sec total dig).bump 0x3C01).fwSend side (.reply 1 0 dig)) := by
  rw [exec_offerRx hs, if_neg (by simp [hc]), if_neg (by simp [hh]), if_neg (by simp [hx]), if_neg (by simp [hr]),
    if_pos (by rcases h with h | h <;> simp [h])]

variable (h0 : s.session = 0) (hp : s.flag R.FWU_STATUS.confirm_pending = false)
include h0 hp

theorem offerRx_free : exec (.offerRx side v sec total dig true) s = .next (
    if !aboveRunning s v || sec < s.fld R.FWU_STATUS.floor then
      s.fwSend side (.reply 2 0 dig)
    else (s.openSession (side + 2) v sec total dig).fwSend side (.reply 0 0 dig)) := by
  rw [exec_offerRx hs, if_neg (by simp [hc]), if_neg (by simp [hh]), if_neg (by simp [hx]), if_neg (by simp [hr]),
    if_neg (by simp [h0, hp])]

theorem offerRx_declined (h : sec < s.fld R.FWU_STATUS.floor ∨ ¬ Above s v) :
    exec (.offerRx side v sec total dig true) s = .next (s.fwSend side (.reply 2 0 dig)) := by
  rw [offerRx_free hs hc hh hx hr h0 hp, if_pos]
  rw [Bool.or_eq_true, Bool.not_eq_true', decide_eq_true_eq, ← Bool.not_eq_true, above_iff]
  exact h.symm

theorem offerRx_opens (hf : s.fld R.FWU_STATUS.floor ≤ sec) (ha : Above s v) :
    exec (.offerRx side v sec total dig true) s = .next ((s.openSession (side + 2) v sec total dig).fwSend side (.reply 0 0 dig)) := by
  rw [offerRx_free hs hc hh hx hr h0 hp, if_neg]
  rw [Bool.or_eq_true, Bool.not_eq_true', decide_eq_true_eq, ← Bool.not_eq_true, above_iff]
  rintro (h | h)
  · exact h ha
  · omega

end

/-! ### DATA_RX (R509) -/

theorem exec_dataRx : exec (.dataRx side off bytes true) s = .next (
    if s.session ≠ 1 || s.fld R.FWU_STATUS.source ≠ side + 2 || s.hubFenced 1 then s
    else if off ≠ s.fw.staged.length || s.fw.totalLen < s.fw.staged.length + bytes.length then
      s.fwSend side (.reply 5 s.fw.staged.length s.fw.digest)
    else if (s.stage bytes).fw.staged.length = (s.stage bytes).fw.totalLen then (s.stage bytes).setFld R.FWU_STATUS.state 2
    else s.stage bytes) := by
  show execDataRx side off bytes true s = _
  rw [execDataRx, Nat.mod_eq_of_lt hs]
  dsimp only
  rw [if_neg (show ¬ (!true) = true by decide)]

theorem dataRx_foreign (h : s.session ≠ 1 ∨ s.fld R.FWU_STATUS.source ≠ side + 2 ∨ s.hubFenced 1 = true) :
    exec (.dataRx side off bytes true) s = .next s := by
  rw [exec_dataRx hs, if_pos (by rcases h with h | h | h <;> simp [h])]

section
variable (h1 : s.session = 1) (hq : s.fld R.FWU_STATUS.source = side + 2) (hh : s.hubFenced 1 = false)
include h1 hq hh

theorem dataRx_misplaced (h : off ≠ s.fw.staged.length ∨ s.fw.totalLen < s.fw.staged.length + bytes.length) :
    exec (.dataRx side off bytes true) s = .next (s.fwSend side (.reply 5 s.fw.staged.length s.fw.digest)) := by
  rw [exec_dataRx hs, if_neg (by simp [h1, hq, hh]), if_pos (by rcases h with h | h <;> simp [h])]

theorem dataRx_staged (ho : off = s.fw.staged.length) (hl : s.fw.staged.length + bytes.length ≤ s.fw.totalLen) (ht : t = s.stage bytes) :
    exec (.dataRx side off bytes true) s
      = .next (if t.fw.staged.length = t.fw.totalLen then t.setFld R.FWU_STATUS.state 2 else t) := by
  rw [exec_dataRx hs, if_neg (by simp [h1, hq, hh]), if_neg (by simp [ho, Nat.not_lt.mpr hl]), ht]

end

/-! ### REPLY_RX, FORWARD_TIMEOUT and FORWARDING_END (R505, R509) -/

section
variable (hn : Tab.find s.fw.fwd side = none)
include hn

theorem replyRx_not_forwarding : exec (.replyRx side code off dig true) s = .next s := by
  show execReplyRx side code off dig true s = _
  rw [execReplyRx, Nat.mod_eq_of_lt hs]
  dsimp only
  rw [hn]
  rfl

theorem forwardTimeout_not_forwarding : exec (.forwardTimeout side) s = .next s := by
  show execForwardTimeout side s = _
  rw [execForwardTimeout, Nat.mod_eq_of_lt hs, hn]
  rfl

theorem forwardingEnd_not_forwarding : exec (.forwardingEnd side) s = .next s := by
  show execForwardingEnd side s = _
  rw [execForwardingEnd, Nat.mod_eq_of_lt hs, hn]

end

section
variable (hf : Tab.find s.fw.fwd side = some f)
include hf

/-- A reply to the forwarded bundle: accepted, the data goes; 5 resumes it; any other code ends the forwarding. -/
theorem replyRx_forwarding (hd : bundleDigest f.image = dig) : exec (.replyRx side code off dig true) s = .next (
    if code = 0 then
      ({ s with fw := { s.fw with fwd := Tab.put s.fw.fwd side { f with accepted := true } } } : State).sendData side f.image 0
    else if code = 5 then s.sendData side f.image off
    else s.endForward side) := by
  show execReplyRx side code off dig true s = _
  rw [execReplyRx, Nat.mod_eq_of_lt hs]
  dsimp only
  rw [hf, if_neg (by decide)]
  exact congrArg Host.Outcome.next (if_neg (not_not_intro hd))

theorem forwardTimeout_forwarding : exec (.forwardTimeout side) s = .next ((s.bump 0x3C0A).endForward side) := by
  show execForwardTimeout side s = _
  rw [execForwardTimeout, Nat.mod_eq_of_lt hs, hf]
  rfl

theorem forwardingEnd_forwarding : exec (.forwardingEnd side) s
    = .next (if f.accepted then (s.bump 0x3C06).endForward side else s) := by
  show execForwardingEnd side s = _
  rw [execForwardingEnd, Nat.mod_eq_of_lt hs, hf]
  rfl

end

/-! ### ABORT_RX (R506) -/

/-- The forwarding on a side is of the bundle of this digest. -/
def forwards (s : State) (side dig : Nat) : Bool :=
  match Tab.find s.fw.fwd side with
  | some f => bundleDigest f.image == dig
  | none => false

theorem exec_abortRx : exec (.abortRx side code dig true) s = .next (
    if s.session ≠ 0 && s.session ≤ 3 && s.fld R.FWU_STATUS.source == side + 2 && s.fw.digest == dig then s.endSession (code % 256)
    else if forwards s side dig then s.endForward side else s) := by
  show execAbortRx side code dig true s = _
  rw [execAbortRx, Nat.mod_eq_of_lt hs]
  dsimp only
  rw [if_neg (show ¬ (!true) = true by decide)]
  rfl

theorem abortRx_session (h1 : 1 ≤ s.session) (h3 : s.session ≤ 3) (hq : s.fld R.FWU_STATUS.source = side + 2) (hd : s.fw.digest = dig) :
    exec (.abortRx side code dig true) s = .next (s.endSession (code % 256)) := by
  rw [exec_abortRx hs, if_pos (by simp [h3, hq, hd, Nat.one_le_iff_ne_zero.mp h1])]

theorem abortRx_nothing (h0 : s.session = 0) (hn : Tab.find s.fw.fwd side = none) : exec (.abortRx side code dig true) s = .next s := by
  rw [exec_abortRx hs, if_neg (by simp [h0]), if_neg (by simp [forwards, hn])]

theorem abortRx_forwarding (h0 : s.session = 0) (hf : Tab.find s.fw.fwd side = some f) (hd : bundleDigest f.image = dig) :
    exec (.abortRx side code dig true) s = .next (s.endForward side) := by
  rw [exec_abortRx hs, if_neg (by simp [h0]), if_pos (by simp [forwards, hf, hd])]

/-! ### PULL_RX (R508) -/

theorem pullRx_no_image (hn : s.fw.run = none) : exec (.pullRx side dig true) s = .next (s.fwSend side (.reply 2 0 dig)) := by
  show execPullRx side dig true s = _
  rw [execPullRx, Nat.mod_eq_of_lt hs]
  dsimp only
  rw [hn]
  rfl

theorem pullRx_running {r : RunBundle} (hr : s.fw.run = some r) (hd : bundleDigest r.image = dig) :
    exec (.pullRx side dig true) s = .next (s.offerOn side r.image false) := by
  show execPullRx side dig true s = _
  rw [execPullRx, Nat.mod_eq_of_lt hs]
  dsimp only
  rw [hr, if_neg (by decide)]
  exact congrArg Host.Outcome.next (if_pos hd)

end

/-! ### SESSION_COMPLETE (R508) -/

theorem sessionComplete_not (h : s.fw.completed = false) : exec .sessionComplete s = .next s :=
  congrArg Host.Outcome.next (if_pos (by simp [h]))

/-- A valid offer record of a version above the running one. -/
def offerAbove (s : State) (i : Nat) : Bool :=
  s.flag (R.FWU_OFFER_1.valid i) && aboveRunning s (s.fld (R.FWU_OFFER_0.fw_version i))

theorem offerAbove_iff {i : Nat} : offerAbove s i = true ↔
    s.flag (R.FWU_OFFER_1.valid i) = true ∧ Above s (s.fld (R.FWU_OFFER_0.fw_version i)) := by
  rw [offerAbove, Bool.and_eq_true, above_iff]

/-- The chain side whose offer is pulled: the highest, A on a tie. -/
def pulledOffer (s : State) : Option Nat :=
  if offerAbove s 1 && (!offerAbove s 2 || decide (s.fld (R.FWU_OFFER_0.fw_version 2) ≤ s.fld (R.FWU_OFFER_0.fw_version 1))) then some 1
  else if offerAbove s 2 then some 2 else none

/-- PULL goes out for an offer, which is cleared. -/
def State.pullOffer (s : State) (i : Nat) : State :=
  ((s.fwSend (i - 1) (.pull (((Tab.find s.fw.offers i).map Offer.digest).getD 0))).bump 0x3C07).clearOffer i

/-- PULL goes out for the best offer of the chain, if any. -/
def State.pullBest (s : State) : State :=
  match pulledOffer s with
  | some i => s.pullOffer i
  | none => s

theorem pullBest_of_some {i : Nat} (h : pulledOffer s = some i) : s.pullBest = s.pullOffer i := by
  rw [State.pullBest, h]

theorem pullBest_of_none (h : pulledOffer s = none) : s.pullBest = s := by
  rw [State.pullBest, h]

theorem exec_sessionComplete (h : s.fw.completed = true) (ht : t = { s with fw := { s.fw with completed := false } })
    (hu : u = t.pullBest) :
    exec .sessionComplete s = .next (if offerAbove t 0 then (u.pulse 0x10D4 0).clearOffer 0 else u) := by
  subst ht hu
  exact congrArg Host.Outcome.next (if_neg (by simp [h]))

/-- The record that R508 pulls, of the records `a` above the running version and the versions `w`. -/
def Pulls (a : Nat → Prop) (w : Nat → Nat) (i : Nat) : Prop :=
  (i = 1 ∧ a 1 ∧ (¬ a 2 ∨ w 2 ≤ w 1)) ∨ (i = 2 ∧ a 2 ∧ (¬ a 1 ∨ w 1 < w 2))

theorem pulledOffer_eq {i : Nat} {a : Nat → Prop} {w : Nat → Nat} (ha : ∀ k, offerAbove t k = true ↔ a k)
    (hw : ∀ k, w k = t.fld (R.FWU_OFFER_0.fw_version k)) (h : Pulls a w i) : pulledOffer t = some i := by
  simp only [Pulls, ← ha, hw] at h
  unfold pulledOffer
  rcases h with ⟨rfl, h1, h2⟩ | ⟨rfl, h2, h1⟩
  · rw [if_pos]
    rcases h2 with h2 | h2 <;> simp [h1, h2]
  · rw [if_neg, if_pos h2]
    rcases h1 with h1 | h1 <;> simp [h1, h2]

theorem pulls_or_none (a : Nat → Prop) (w : Nat → Nat) : (∃ i, Pulls a w i) ∨ (¬ a 1 ∧ ¬ a 2) := by
  by_cases h1 : a 1
  · by_cases hle : ¬ a 2 ∨ w 2 ≤ w 1
    · exact .inl ⟨1, .inl ⟨rfl, h1, hle⟩⟩
    · have h2 : a 2 := not_not.mp fun hn => hle (.inl hn)
      exact .inl ⟨2, .inr ⟨rfl, h2, .inr (Nat.not_le.mp fun hn => hle (.inr hn))⟩⟩
  · by_cases h2 : a 2
    · exact .inl ⟨2, .inr ⟨rfl, h2, .inl h1⟩⟩
    · exact .inr ⟨h1, h2⟩

theorem pulledOffer_none (h1 : offerAbove t 1 ≠ true) (h2 : offerAbove t 2 ≠ true) : pulledOffer t = none := by
  rw [pulledOffer, if_neg (by simp [h1]), if_neg h2]

/-! ### CHAIN_DATA_TIMEOUT (R505) -/

theorem chainDataTimeout_ends (h1 : s.session = 1) (h2 : 2 ≤ s.fld R.FWU_STATUS.source) :
    exec .chainDataTimeout s = .next (s.nextOpen.endSession (s.openNat % 256)) :=
  congrArg Host.Outcome.next (if_pos (by simp [h1, h2]))

theorem chainDataTimeout_ignored (h : s.session ≠ 1 ∨ s.fld R.FWU_STATUS.source < 2) : exec .chainDataTimeout s = .next s :=
  congrArg Host.Outcome.next (if_neg (by rcases h with h | h <;> simp [h]))

end

/-- Settles O59: each clause is a case of the message or deadline it names. -/
theorem theChainOffersAndForwardsBundles : Obligations.TheChainOffersAndForwardsBundles := by
  unfold Obligations.TheChainOffersAndForwardsBundles
  refine fun s side v sec total dig off code bytes hs => ⟨⟨rfl, rfl, rfl, rfl, rfl⟩, offerRx_chain_off hs, offerRx_conflicts hs, offerRx_runs_already hs,
    fun hc hh hx hr => ⟨offerRx_busy hs hc hh hx hr, fun h0 hp => ⟨fun h => offerRx_declined hs hc hh hx hr h0 hp (h.imp_right not_above_iff.mpr),
      offerRx_opens hs hc hh hx hr h0 hp⟩⟩,
    dataRx_foreign hs, fun h1 hq hh => ⟨dataRx_misplaced hs h1 hq hh, fun ho hl t ht => ⟨fun h => ?full, fun h => ?part⟩⟩,
    fun hn => ⟨replyRx_not_forwarding hs hn, forwardTimeout_not_forwarding hs hn, forwardingEnd_not_forwarding hs hn⟩,
    fun f hf => ⟨fun hd => ⟨?accepted, ?resumed, fun h0 h5 => ?ended⟩, forwardTimeout_forwarding hs hf, fun ha => ?done, fun ha => ?waiting⟩,
    abortRx_session hs, abortRx_nothing hs, fun f => abortRx_forwarding hs, pullRx_no_image hs, fun r => pullRx_running hs,
    sessionComplete_not, fun h t u above v' ht hv ha hpull hnone => ?complete, chainDataTimeout_ends, chainDataTimeout_ignored⟩
  case full => rw [dataRx_staged hs h1 hq hh ho hl ht, if_pos h]
  case part => rw [dataRx_staged hs h1 hq hh ho hl ht, if_neg h]
  case accepted => rw [replyRx_forwarding hs hf hd, if_pos rfl]
  case resumed => rw [replyRx_forwarding hs hf hd, if_neg (by decide), if_pos rfl]
  case ended => rw [replyRx_forwarding hs hf hd, if_neg h0, if_neg h5]
  case done => rw [forwardingEnd_forwarding hs hf, if_pos ha]
  case waiting => rw [forwardingEnd_forwarding hs hf, if_neg (by simp [ha])]
  case complete =>
    have habove : ∀ k, offerAbove t k = true ↔ above k := by
      intro k
      rw [offerAbove_iff, ha, hv]
      rfl
    have hu : u = t.pullBest := by
      rcases pulls_or_none above v' with ⟨i, hi⟩ | ⟨h1, h2⟩
      · rw [pullBest_of_some (pulledOffer_eq habove (fun k => congrFun hv k) hi)]
        exact hpull i hi
      · rw [pullBest_of_none (pulledOffer_none (mt (habove 1).mp h1) (mt (habove 2).mp h2))]
        exact hnone h1 h2
    rw [exec_sessionComplete h ht hu, ← habove 0]
    exact ⟨fun h0 => by rw [if_pos h0], fun h0 => by rw [if_neg h0]⟩

end Sys2Proof.Machine
end

section
/-!
The session's commands: staging, verification, activation and its window, confirmation, fall-back and identity (R503 to R521).
-/
namespace Sys2Proof.Machine

section
variable {s t u v : State} {iss : Issue} {h data nonce : List Byte} {op0 n : Nat} {ok : State → Bool} {f : State → State}

/-! ### What a command of the session meets (R348, R505) -/

theorem sessionCmd_foreign (hf : iss.fn ≠ 0) (hw : waitsInRing s iss = false) :
    s.sessionCmd iss [] ok f = (s.startCmd iss).refuse iss 0x20 := pf0Cmd_foreign hf hw

theorem exec_foreign (hf : iss.fn ≠ 0) (hw : waitsInRing s iss = false) (ht : t = s.startCmd iss) :
    exec (.fwOpen iss h) s = .next (t.refuse iss 0x20) ∧ exec (.fwWrite iss op0 data) s = .next (t.refuse iss 0x20) ∧
      exec (.fwVerify iss) s = .next (t.refuse iss 0x20) ∧ exec (.fwActivate iss) s = .next (t.refuse iss 0x20) ∧
      exec (.fwAbort iss) s = .next (t.refuse iss 0x20) ∧ exec (.fwConfirm iss) s = .next (t.refuse iss 0x20) ∧
      exec (.fwFallback iss) s = .next (t.refuse iss 0x20) ∧ exec (.fwAttest iss nonce) s = .next (t.refuse iss 0x20) ∧
      exec (.fwIdRead iss n) s = .next (t.refuse iss 0x20) := by
  subst ht
  have hpf0 : ∀ f, (.next (s.pf0Cmd iss [] f) : Host.Outcome State Fault Refusal) = .next ((s.startCmd iss).refuse iss 0x20) :=
    fun f => congrArg Host.Outcome.next (pf0Cmd_foreign hf hw)
  exact ⟨hpf0 _, hpf0 _, hpf0 _, hpf0 _, hpf0 _, hpf0 _, hpf0 _, hpf0 _, hpf0 _⟩

/-- The bundle of a verified header is activated, with the command that waits for it. -/
theorem askActivation_eq {o : Option Issue} :
    s.askActivation o = ({ s with fw := { s.fw with cmd := o, actReq := true } } : State).setFld R.FWU_STATUS.state 4 := rfl

theorem hostStaging_elsewhere (h : t.session ≠ 1 ∨ t.fld R.FWU_STATUS.source ≠ 1 ∨ t.fw.ending ≠ none) :
    hostStaging t = false ∨ t.fw.ending ≠ none := by
  rcases h with h | h | h
  · exact .inl (by simp [hostStaging, h])
  · exact .inl (by simp [hostStaging, h])
  · exact .inr h

/-- The session opens with the header staged. -/
def State.openHeader (s : State) (iss : Issue) (h : List Byte) : State :=
  ((s.openSession 1 (hdrVersion h) (hdrSec h) (hdrTotal h) (bundleDigest h)).stage h).succeed iss 0 0

/-! ### The slot that does not run (R516) -/

/-- The pair that ran before is lost from memory: the other slot is verified, and falls back or is counted. -/
def State.fallBackOnSlot (s : State) (iss : Issue) (i : Nat) (x : FlashSlot) : State :=
  match x.mark, verifyCode (s.fld R.FWU_STATUS.floor) x.image false with
  | some m, none =>
    if !steppingOk x.image then (s.bump 0x3C0B).refuse iss 0x32
    else s.nextOpen.askRestore { reason := s.openNat % 256, bundle := some { slot := i, seq := m.1, image := x.image }, iss := some iss,
                                 reject := true }
  | _, some c => (s.bump 0x3C0B).refuse iss c
  | none, none => (s.bump 0x3C0B).refuse iss 0x37

/-- The slot that does not run. -/
def otherSlot (s : State) : FlashSlot := if inactiveSlot s = 0 then s.fw.slots[0] else s.fw.slots[1]

theorem otherSlot_eq {i : Nat} {x : FlashSlot} (hi : i = 1 - t.fld R.FWU_STATUS.active_slot) (h0 : i = 0 → x = t.fw.slots[0])
    (h1 : i ≠ 0 → x = t.fw.slots[1]) : otherSlot t = x := by
  subst hi
  unfold otherSlot
  split
  case isTrue h => exact (h0 h).symm
  case isFalse h => exact (h1 h).symm

theorem fallBackOnSlot_fails {i c : Nat} {x : FlashSlot} (hc : verifyCode (t.fld R.FWU_STATUS.floor) x.image false = some c) :
    t.fallBackOnSlot iss i x = (t.bump 0x3C0B).refuse iss c := by
  rw [State.fallBackOnSlot, hc]
  cases x.mark with
  | none => rfl
  | some m => rfl

theorem fallBackOnSlot_verified {i : Nat} {x : FlashSlot} {m : Nat × SlotMark × Nat} (hm : x.mark = some m)
    (hc : verifyCode (t.fld R.FWU_STATUS.floor) x.image false = none) : t.fallBackOnSlot iss i x =
      if !steppingOk x.image then (t.bump 0x3C0B).refuse iss 0x32
      else t.nextOpen.askRestore { reason := t.openNat % 256, bundle := some { slot := i, seq := m.1, image := x.image }, iss := some iss,
                                   reject := true } := by
  rw [State.fallBackOnSlot, hm, hc]

/-! ### A command that starts -/

section
variable (hs : HubStarts s iss []) (ht : t = s.startCmd iss)
include hs ht

/-- A hub command of PF0 that starts runs its body on the started state. -/
theorem pf0Cmd_runs (f : State → State) : s.pf0Cmd iss [] f = f t := by
  rw [pf0Cmd_of_starts hs, ht]

theorem sessionCmd_fenced (hh : t.hubFenced 1 = true) : s.sessionCmd iss [] ok f = t.refuse iss 0x1E := by
  rw [State.sessionCmd, pf0Cmd_runs hs ht, if_pos hh]

section
variable (hh : t.hubFenced 1 = false)
include hh

theorem sessionCmd_elsewhere (h : ok t = false ∨ t.fw.ending ≠ none) : s.sessionCmd iss [] ok f = t.refuse iss 0x2C := by
  rw [State.sessionCmd, pf0Cmd_runs hs ht, if_neg (by simp [hh]), if_pos]
  rcases h with h | h
  · simp [h]
  · simp [Option.isSome_iff_ne_none.mpr h]

theorem sessionCmd_runs (h : ok t = true) (he : t.fw.ending = none) : s.sessionCmd iss [] ok f = f t := by
  rw [State.sessionCmd, pf0Cmd_runs hs ht, if_neg (by simp [hh]), if_neg (by simp [h, he])]

end

/-! ### FW_OPEN (R506, R507) -/

theorem exec_fwOpen : exec (.fwOpen iss h) s = .next (
    if t.hubFenced 1 then t.refuse iss 0x1E
    else if h.length ≠ 8192 || !headerOk h then t.refuse iss 0x2D
    else if conflicts t (hdrVersion h) (bundleDigest h) then (t.logConflict 1 (hdrVersion h)).refuse iss 0x33
    else if alreadyRuns t (bundleDigest h) then t.refuse iss 0x34
    else if t.flag R.FWU_STATUS.confirm_pending then t.refuse iss 0x36
    else if t.session = 0 then t.openHeader iss h
    else if decide (2 ≤ t.fld R.FWU_STATUS.source) && t.session == 1 then t.preempt.openHeader iss h
    else ((t.recordOffer 0 (hdrVersion h) (hdrSec h) (hdrTotal h) (bundleDigest h)).bump 0x3C01).refuse iss 0x2B) := by
  show Host.Outcome.next (s.pf0Cmd iss [] _) = _
  rw [pf0Cmd_runs hs ht]
  rfl

theorem fwOpen_fenced (hh : t.hubFenced 1 = true) : exec (.fwOpen iss h) s = .next (t.refuse iss 0x1E) := by
  rw [exec_fwOpen hs ht, if_pos hh]

section
variable (hh : t.hubFenced 1 = false)
include hh

theorem fwOpen_bad_header (hb : h.length ≠ 8192 ∨ headerOk h = false) : exec (.fwOpen iss h) s = .next (t.refuse iss 0x2D) := by
  rw [exec_fwOpen hs ht, if_neg (by simp [hh]), if_pos (by rcases hb with hb | hb <;> simp [hb])]

section
variable (hl : h.length = 8192) (hk : headerOk h = true)
include hl hk

theorem fwOpen_conflicts (hc : conflicts t (hdrVersion h) (bundleDigest h) = true) :
    exec (.fwOpen iss h) s = .next ((t.logConflict 1 (hdrVersion h)).refuse iss 0x33) := by
  rw [exec_fwOpen hs ht, if_neg (by simp [hh]), if_neg (by simp [hl, hk]), if_pos hc]

variable (hc : conflicts t (hdrVersion h) (bundleDigest h) = false)
include hc

theorem fwOpen_runs_already (hr : alreadyRuns t (bundleDigest h) = true) : exec (.fwOpen iss h) s = .next (t.refuse iss 0x34) := by
  rw [exec_fwOpen hs ht, if_neg (by simp [hh]), if_neg (by simp [hl, hk]), if_neg (by simp [hc]), if_pos hr]

variable (hr : alreadyRuns t (bundleDigest h) = false)
include hr

theorem fwOpen_confirm_pending (hp : t.flag R.FWU_STATUS.confirm_pending = true) : exec (.fwOpen iss h) s = .next (t.refuse iss 0x36) := by
  rw [exec_fwOpen hs ht, if_neg (by simp [hh]), if_neg (by simp [hl, hk]), if_neg (by simp [hc]), if_neg (by simp [hr]), if_pos hp]

variable (hp : t.flag R.FWU_STATUS.confirm_pending = false)
include hp

theorem fwOpen_takes : exec (.fwOpen iss h) s = .next (
    if t.session = 0 then t.openHeader iss h
    else if decide (2 ≤ t.fld R.FWU_STATUS.source) && t.session == 1 then t.preempt.openHeader iss h
    else ((t.recordOffer 0 (hdrVersion h) (hdrSec h) (hdrTotal h) (bundleDigest h)).bump 0x3C01).refuse iss 0x2B) := by
  rw [exec_fwOpen hs ht, if_neg (by simp [hh]), if_neg (by simp [hl, hk]), if_neg (by simp [hc]), if_neg (by simp [hr]),
    if_neg (by simp [hp])]

/-- A session opens where none is, or where one of the chain in STAGING gives way. -/
theorem fwOpen_opens (h0 : t.session = 0 → u = t) (h1 : t.session = 1 → 2 ≤ t.fld R.FWU_STATUS.source → u = t.preempt)
    (hst : t.session = 0 ∨ (t.session = 1 ∧ 2 ≤ t.fld R.FWU_STATUS.source)) : exec (.fwOpen iss h) s = .next (u.openHeader iss h) := by
  rw [fwOpen_takes hs ht hh hl hk hc hr hp]
  rcases hst with hst | ⟨hst, hq⟩
  · rw [if_pos hst, h0 hst]
  · rw [if_neg (by omega), if_pos (by simp [hst, hq]), h1 hst hq]

theorem fwOpen_busy (h0 : t.session ≠ 0) (h1 : t.session ≠ 1 ∨ t.fld R.FWU_STATUS.source < 2) : exec (.fwOpen iss h) s
    = .next (((t.recordOffer 0 (hdrVersion h) (hdrSec h) (hdrTotal h) (bundleDigest h)).bump 0x3C01).refuse iss 0x2B) := by
  rw [fwOpen_takes hs ht hh hl hk hc hr hp, if_neg h0, if_neg]
  rcases h1 with h1 | h1
  · simp [h1]
  · simp [Nat.not_le.mpr h1]

end

/-! ### FW_WRITE and FW_VERIFY (R503, R505) -/

section
variable (h1 : t.session = 1) (hq : t.fld R.FWU_STATUS.source = 1) (he : t.fw.ending = none)
include h1 hq he

theorem exec_fwWrite : exec (.fwWrite iss op0 data) s = .next (
    if op0 % 2 ^ 32 ≠ t.fw.staged.length || t.fw.totalLen < t.fw.staged.length + data.length then t.refuse iss 0x35
    else (t.stage data).succeed iss 0 0) :=
  congrArg Host.Outcome.next (sessionCmd_runs hs ht hh (by simp [hostStaging, h1, hq]) he)

theorem fwWrite_misplaced (h : op0 % 2 ^ 32 ≠ t.fw.staged.length ∨ t.fw.totalLen < t.fw.staged.length + data.length) :
    exec (.fwWrite iss op0 data) s = .next (t.refuse iss 0x35) := by
  rw [exec_fwWrite hs ht hh h1 hq he, if_pos]
  rw [Bool.or_eq_true, decide_eq_true_eq, decide_eq_true_eq]
  exact h

theorem fwWrite_stages (ho : op0 % 2 ^ 32 = t.fw.staged.length) (hl : t.fw.staged.length + data.length ≤ t.fw.totalLen) :
    exec (.fwWrite iss op0 data) s = .next ((t.stage data).succeed iss 0 0) := by
  rw [exec_fwWrite hs ht hh h1 hq he, if_neg]
  rw [Bool.or_eq_true, decide_eq_true_eq, decide_eq_true_eq]
  omega

theorem exec_fwVerify : exec (.fwVerify iss) s = .next (
    if t.fw.staged.length ≠ t.fw.totalLen then t.refuse iss 0x35
    else ({ t with fw := { t.fw with cmd := some iss } } : State).setFld R.FWU_STATUS.state 2) :=
  congrArg Host.Outcome.next (sessionCmd_runs hs ht hh (by simp [hostStaging, h1, hq]) he)

end

/-! ### FW_ACTIVATE (R504, R510) -/

theorem fwActivate_elsewhere (h : t.session ≠ 3 ∨ t.fw.ending ≠ none) : exec (.fwActivate iss) s = .next (t.refuse iss 0x2C) :=
  congrArg Host.Outcome.next (sessionCmd_elsewhere hs ht hh (h.imp_left fun h => by simp [h]))

theorem fwActivate_verified (h3 : t.session = 3) (he : t.fw.ending = none) : exec (.fwActivate iss) s = .next (
    if steppingOk t.fw.staged then ({ t with fw := { t.fw with cmd := some iss, actReq := true } } : State).setFld R.FWU_STATUS.state 4
    else t.refuse iss 0x32) := by
  refine (congrArg Host.Outcome.next (sessionCmd_runs hs ht hh (by simp [h3]) he)).trans ?_
  cases hk : steppingOk t.fw.staged with
  | true => rfl
  | false => rfl

end

/-! ### FW_ABORT (R505) -/

theorem exec_fwAbort : exec (.fwAbort iss) s = .next (
    if t.session = 0 || 3 < t.session || t.fw.ending.isSome then t.refuse iss 0x2C
    else (((match t.fw.cmd with | some w => t.abortCmd w | none => t).nextOpen.endSession (t.openNat % 256)).succeed iss 0 0)) := by
  show Host.Outcome.next (s.pf0Cmd iss [] _) = _
  rw [pf0Cmd_runs hs ht]
  rfl

theorem fwAbort_elsewhere (h : t.session = 0 ∨ 3 < t.session ∨ t.fw.ending ≠ none) : exec (.fwAbort iss) s = .next (t.refuse iss 0x2C) := by
  rw [exec_fwAbort hs ht, if_pos]
  rcases h with h | h | h
  · simp [h]
  · simp [h]
  · simp [Option.isSome_iff_ne_none.mpr h]

section
variable (h1 : 1 ≤ t.session) (h3 : t.session ≤ 3) (he : t.fw.ending = none)
include h1 h3 he

theorem fwAbort_idle_cmd (hc : t.fw.cmd = none) :
    exec (.fwAbort iss) s = .next ((t.nextOpen.endSession (t.openNat % 256)).succeed iss 0 0) := by
  rw [exec_fwAbort hs ht, if_neg (by simp [Nat.one_le_iff_ne_zero.mp h1, Nat.not_lt.mpr h3, he]), hc]

theorem fwAbort_waiting_cmd {w : Issue} (hc : t.fw.cmd = some w) :
    exec (.fwAbort iss) s = .next (((t.abortCmd w).nextOpen.endSession (t.openNat % 256)).succeed iss 0 0) := by
  rw [exec_fwAbort hs ht, if_neg (by simp [Nat.one_le_iff_ne_zero.mp h1, Nat.not_lt.mpr h3, he]), hc]

end

/-! ### FW_CONFIRM and FW_FALLBACK (R515, R516) -/

theorem exec_fwConfirm : exec (.fwConfirm iss) s = .next (
    if !t.flag R.FWU_STATUS.confirm_pending || t.fw.restore.isSome then t.refuse iss 0x37 else t.confirm.succeed iss 0 0) := by
  show Host.Outcome.next (s.pf0Cmd iss [] _) = _
  rw [pf0Cmd_runs hs ht]

theorem exec_fwFallback : exec (.fwFallback iss) s = .next (
    if !t.flag R.FWU_STATUS.confirm_pending || t.fw.restore.isSome then t.refuse iss 0x37
    else match t.fw.prev with
      | some b => t.nextOpen.askRestore { reason := t.openNat % 256, bundle := some b, iss := some iss, reject := true }
      | none => if t.hubFenced 1 then t.refuse iss 0x1E else t.fallBackOnSlot iss (inactiveSlot t) (otherSlot t)) := by
  show Host.Outcome.next (s.pf0Cmd iss [] _) = _
  rw [pf0Cmd_runs hs ht]
  rfl

theorem confirm_refused (h : t.flag R.FWU_STATUS.confirm_pending = false ∨ t.fw.restore ≠ none) :
    exec (.fwConfirm iss) s = .next (t.refuse iss 0x37) ∧ exec (.fwFallback iss) s = .next (t.refuse iss 0x37) := by
  have hc : (!t.flag R.FWU_STATUS.confirm_pending || t.fw.restore.isSome) = true := by
    rcases h with h | h
    · simp [h]
    · simp [Option.isSome_iff_ne_none.mpr h]
  rw [exec_fwConfirm hs ht, exec_fwFallback hs ht, if_pos hc, if_pos hc]
  exact ⟨rfl, rfl⟩

section
variable (hp : t.flag R.FWU_STATUS.confirm_pending = true) (hr : t.fw.restore = none)
include hp hr

theorem fwConfirm_confirms : exec (.fwConfirm iss) s = .next (t.confirm.succeed iss 0 0) := by
  rw [exec_fwConfirm hs ht, if_neg (by simp [hp, hr])]

theorem fwFallback_previous {b : RunBundle} (hb : t.fw.prev = some b) : exec (.fwFallback iss) s
    = .next (t.nextOpen.askRestore { reason := t.openNat % 256, bundle := some b, iss := some iss, reject := true }) := by
  rw [exec_fwFallback hs ht, if_neg (by simp [hp, hr]), hb]

section
variable (hn : t.fw.prev = none)
include hn

theorem fwFallback_fenced (hh : t.hubFenced 1 = true) : exec (.fwFallback iss) s = .next (t.refuse iss 0x1E) := by
  rw [exec_fwFallback hs ht, if_neg (by simp [hp, hr]), hn]
  exact congrArg Host.Outcome.next (if_pos hh)

theorem fwFallback_slot (hh : t.hubFenced 1 = false) {i : Nat} {x : FlashSlot} (hi : i = 1 - t.fld R.FWU_STATUS.active_slot)
    (hx : otherSlot t = x) : exec (.fwFallback iss) s = .next (t.fallBackOnSlot iss i x) := by
  subst hi hx
  rw [exec_fwFallback hs ht, if_neg (by simp [hp, hr]), hn]
  exact congrArg Host.Outcome.next (if_neg (by simp [hh]))

end
end

/-! ### FW_ATTEST and FW_ID_READ (R520, R521) -/

theorem fwAttest_in_window (h : t.fw.actAt ≠ none) : exec (.fwAttest iss nonce) s = .next (t.holdBack iss) := by
  show Host.Outcome.next (s.pf0Cmd iss [] _) = _
  rw [pf0Cmd_runs hs ht, if_pos (Option.isSome_iff_ne_none.mpr h)]

theorem fwAttest_reports (h : t.fw.actAt = none) {body report : List Byte} (hb : body = attestReport t nonce)
    (hr : report = body ++ (Config.attestSign body).toList) : exec (.fwAttest iss nonce) s
      = .next (((t.toHost 0 (.buffer 0 iss.tag (report ++ List.replicate (8192 - report.length) 0))).bump 0x3C08).succeed iss 0 0) := by
  show Host.Outcome.next (s.pf0Cmd iss [] _) = _
  rw [pf0Cmd_runs hs ht, if_neg (by simp [h]), hr, hb]
  obtain ⟨hfn, -⟩ := hs
  rw [hfn]
  rfl

theorem exec_fwIdRead {b : List Byte} (hb : b = Config.identityPublicKey.toList ++ Config.identityChain) : exec (.fwIdRead iss n) s = .next (
    if n < b.length then t.complete iss { Result.refuse 0x3C with result0 := b.length }
    else (t.toHost 0 (.buffer 0 iss.tag b)).succeed iss b.length 0) := by
  show Host.Outcome.next (s.pf0Cmd iss [] _) = _
  rw [pf0Cmd_runs hs ht, hb]
  obtain ⟨hfn, -⟩ := hs
  rw [hfn]

end

/-! ### VERIFY_DONE (R503, R504, R509) -/

theorem verifyDone_elsewhere (h : s.session ≠ 2) : exec .verifyDone s = .next s := congrArg Host.Outcome.next (if_pos h)

section
variable (h2 : s.session = 2) {code : Option Nat} (hc : code = verifyCode (s.fld R.FWU_STATUS.floor) s.fw.staged
  (anyPoison s 3 stagingWord ((s.fw.staged.length + 31) / 32) allBytes))
include h2 hc

theorem verifyDone_fails {r : Nat} (hr : code = some r) : exec .verifyDone s = .next (((s.bump 0x3C02).refuseCmd r).endSession r) := by
  show execVerifyDone s = _
  rw [execVerifyDone, if_neg (not_not_intro h2)]
  dsimp only
  rw [← hc, hr]
  rfl

theorem verifyDone_passes (hr : code = none) (hv : v = ((s.setFld R.FWU_STATUS.state 3).succeedCmd 0).forward) : exec .verifyDone s = .next (
    if v.fld R.FWU_STATUS.source = 1 then v
    else if !steppingOk s.fw.staged then v.endSession 0x32
    else if v.flag R.FWU_CTL.chain_act then v.askActivation none
    else v) := by
  show execVerifyDone s = _
  rw [execVerifyDone, if_neg (not_not_intro h2)]
  dsimp only
  rw [← hc, hr, hv]

end

/-! ### The activation window (R510 to R512) -/

section
variable {k : Nat} (ha : s.fw.actAt = some k)
include ha

theorem exec_hcfReady {set : Option (Nat × List Byte)} : exec (.hcfReady set) s = .next (
    if s.tick < k + 1 || k + 16 ≤ s.tick || s.fw.restore.isSome then s
    else (match set with
      | some (f, r) => ({ s with fw := s.fw.writeNew f r } : State)
      | none => s).setFlag R.FWU_CORE.ready true) := by
  show execHcfReady set s = _
  rewrite [execHcfReady.eq_def, ha]
  rfl

theorem hcfReady_outside {set : Option (Nat × List Byte)} (h : s.tick < k + 1 ∨ k + 16 ≤ s.tick) : exec (.hcfReady set) s = .next s := by
  rw [exec_hcfReady ha, if_pos (by rcases h with h | h <;> simp [h])]

theorem hcfReady_in_window {set : Option (Nat × List Byte)} (h1 : k + 1 ≤ s.tick) (h2 : s.tick < k + 16) (hr : s.fw.restore = none) :
    exec (.hcfReady set) s = .next ((match set with
      | some (f, r) => ({ s with fw := s.fw.writeNew f r } : State)
      | none => s).setFlag R.FWU_CORE.ready true) := by
  rw [exec_hcfReady ha, if_neg (by simp [Nat.not_lt.mpr h1, Nat.not_le.mpr h2, hr])]

theorem exec_activationTimeout : exec .activationTimeout s = .next (
    if s.tick < k + 16 || s.flag R.FWU_CORE.ready || s.fw.restore.isSome then s
    else s.askRestore { reason := 0x38, bundle := s.fw.run, iss := none, reject := false }) := by
  show execActivationTimeout s = _
  rw [execActivationTimeout, ha]

theorem activationTimeout_falls_back (h : k + 16 ≤ s.tick) (hf : s.flag R.FWU_CORE.ready = false) (hr : s.fw.restore = none) :
    exec .activationTimeout s = .next (s.askRestore { reason := 0x38, bundle := s.fw.run, iss := none, reject := false }) := by
  rw [exec_activationTimeout ha, if_neg (by simp [Nat.not_lt.mpr h, hf, hr])]

theorem activationTimeout_ignored (h : s.tick < k + 16 ∨ s.flag R.FWU_CORE.ready = true ∨ s.fw.restore ≠ none) :
    exec .activationTimeout s = .next s := by
  rw [exec_activationTimeout ha, if_pos]
  rcases h with h | h | h
  · simp [h]
  · simp [h]
  · simp [Option.isSome_iff_ne_none.mpr h]

end

theorem window_closed (ha : s.fw.actAt = none) {set : Option (Nat × List Byte)} :
    exec (.hcfReady set) s = .next s ∧ exec .activationTimeout s = .next s := by
  constructor
  · show execHcfReady set s = _
    rw [execHcfReady.eq_def, ha]
  · show execActivationTimeout s = _
    rw [execActivationTimeout, ha]

/-! ### HCF_FALLBACK_REQ (R512, R516) -/

section
variable (ht : t = s.setFlag R.FWU_CORE.fallback_req true)
include ht

theorem exec_hcfFallbackReq : exec .hcfFallbackReq s = .next (
    if t.fw.restore.isSome then t
    else if t.fw.actAt.isSome then
      if t.flag R.FWU_CORE.ready then t else t.askRestore { reason := 0x39, bundle := t.fw.run, iss := none, reject := false }
    else if !t.flag R.FWU_STATUS.confirm_pending then t
    else t.restorePrev) := by
  rw [ht]
  rfl

theorem hcfFallbackReq_restoring (hr : t.fw.restore ≠ none) : exec .hcfFallbackReq s = .next t := by
  rw [exec_hcfFallbackReq ht, if_pos (Option.isSome_iff_ne_none.mpr hr)]

variable (hr : t.fw.restore = none)
include hr

theorem hcfFallbackReq_in_window (ha : t.fw.actAt ≠ none) (hf : t.flag R.FWU_CORE.ready = false) : exec .hcfFallbackReq s
    = .next (t.askRestore { reason := 0x39, bundle := t.fw.run, iss := none, reject := false }) := by
  rw [exec_hcfFallbackReq ht, if_neg (by simp [hr]), if_pos (Option.isSome_iff_ne_none.mpr ha), if_neg (by simp [hf])]

theorem hcfFallbackReq_previous {b : RunBundle} (ha : t.fw.actAt = none) (hp : t.flag R.FWU_STATUS.confirm_pending = true)
    (hb : t.fw.prev = some b) :
    exec .hcfFallbackReq s = .next (t.askRestore { reason := 0x39, bundle := some b, iss := none, reject := true }) := by
  rw [exec_hcfFallbackReq ht, if_neg (by simp [hr]), if_neg (by simp [ha]), if_neg (by simp [hp]), State.restorePrev, hb]

theorem hcfFallbackReq_confirmed (ha : t.fw.actAt = none) (hp : t.flag R.FWU_STATUS.confirm_pending = false) :
    exec .hcfFallbackReq s = .next t := by
  rw [exec_hcfFallbackReq ht, if_neg (by simp [hr]), if_neg (by simp [ha]), if_pos (by simp [hp])]

end

/-! ### PERSIST_DONE and AUTO_CONFIRM (R514, R515) -/

theorem persistDone_elsewhere (h : s.session ≠ 5 ∨ s.fw.run = none) (ok : Bool) : exec (.persistDone ok) s = .next s := by
  show execPersistDone ok s = _
  unfold execPersistDone
  split
  · rename_i h5 hr
    rcases h with h | h
    · exact absurd h5 h
    · rw [h] at hr
      cases hr
  · rfl

/-- The running slot has its trial record. -/
def State.writeTrial (s : State) (r : RunBundle) : State :=
  { s with fw := s.fw.modSlot r.slot (fun _ => { mark := some (r.seq, .trial, bundleDigest r.image), image := r.image }) }

theorem exec_persistDone {r : RunBundle} (h5 : s.session = 5) (hr : s.fw.run = some r) (hn : s.fw.restore = none) (he : s.fw.ending = none)
    (ok : Bool) : exec (.persistDone ok) s = .next (
      if !ok then s.askRestore { reason := 0x3B, bundle := s.fw.prev, iss := none, reject := false }
      else (((s.writeTrial r).setFld R.FWU_STATUS.active_slot r.slot).confirmPending true).endSession 0) := by
  show execPersistDone ok s = _
  rw [execPersistDone, h5, hr]
  exact congrArg Host.Outcome.next (if_neg (by simp [hn, he]))

theorem autoConfirm_confirms (hp : s.flag R.FWU_STATUS.confirm_pending = true) (hc : s.fld R.FWU_CTL.confirm_frames ≠ 0)
    (hr : s.fw.restore = none) (ht : s.fw.runFrom + s.fld R.FWU_CTL.confirm_frames ≤ s.tick) : exec .autoConfirm s = .next s.confirm :=
  congrArg Host.Outcome.next (if_neg (by simp [hp, hc, hr, Nat.not_lt.mpr ht]))

theorem autoConfirm_waits (h : s.flag R.FWU_STATUS.confirm_pending = false ∨ s.fld R.FWU_CTL.confirm_frames = 0 ∨
    s.tick < s.fw.runFrom + s.fld R.FWU_CTL.confirm_frames) : exec .autoConfirm s = .next s :=
  congrArg Host.Outcome.next (if_pos (by rcases h with h | h | h <;> simp [h]))

end

/-- Settles O58: each clause is a case of the command it names, in the order of the rules. -/
theorem firmwareCommandsRunTheSession : Obligations.FirmwareCommandsRunTheSession := by
  unfold Obligations.FirmwareCommandsRunTheSession
  refine fun s t iss h data nonce op0 n set ht => ⟨fun hf hw => exec_foreign hf hw ht,
    fun hs hh => ⟨fwOpen_fenced hs ht hh, congrArg Host.Outcome.next (sessionCmd_fenced hs ht hh),
      congrArg Host.Outcome.next (sessionCmd_fenced hs ht hh), congrArg Host.Outcome.next (sessionCmd_fenced hs ht hh)⟩,
    fun hs hh => ⟨fwOpen_bad_header hs ht hh, fun hl hk v d hv hd => ?opened, fun hn => ?elsewhere, fun h1 hq he => ?staging,
      fwActivate_elsewhere hs ht hh, fwActivate_verified hs ht hh⟩,
    fun v d => conflicts_iff, verifyDone_elsewhere, fun h2 code hc => ⟨fun r => verifyDone_fails h2 hc, fun hn v hv => ?passed⟩,
    fun hs => ⟨fwAbort_elsewhere hs ht, fun h1 h3 he => ⟨fwAbort_idle_cmd hs ht h1 h3 he, fun w => fwAbort_waiting_cmd hs ht h1 h3 he⟩,
      confirm_refused hs ht, fun hp hr => ⟨fwConfirm_confirms hs ht hp hr, fun b => fwFallback_previous hs ht hp hr,
        fwFallback_fenced hs ht hp hr, fun hn hh i x hi h0 h1 => ?slot⟩,
      fwAttest_in_window hs ht, fun ha body report => fwAttest_reports hs ht ha,
      fun b hb => ⟨fun hl => by rw [exec_fwIdRead hs ht hb, if_pos hl], fun hl => by rw [exec_fwIdRead hs ht hb, if_neg (Nat.not_lt.mpr hl)]⟩⟩,
    fun ha => window_closed ha,
    fun k ha => ⟨hcfReady_outside ha, fun h1 h2 hr => ⟨hcfReady_in_window ha h1 h2 hr, fun f r => hcfReady_in_window ha h1 h2 hr⟩,
      activationTimeout_falls_back ha, activationTimeout_ignored ha⟩,
    fun t ht => ⟨hcfFallbackReq_restoring ht, hcfFallbackReq_in_window ht, fun b hr => hcfFallbackReq_previous ht hr, hcfFallbackReq_confirmed ht⟩,
    persistDone_elsewhere, fun r h5 hr hn he => ⟨exec_persistDone h5 hr hn he false, exec_persistDone h5 hr hn he true⟩,
    autoConfirm_confirms, autoConfirm_waits⟩
  case opened =>
    subst hv hd
    exact ⟨fwOpen_conflicts hs ht hh hl hk, fun hc => ⟨fwOpen_runs_already hs ht hh hl hk hc, fun hr =>
      ⟨fwOpen_confirm_pending hs ht hh hl hk hc hr, fun hp => ⟨fun u => fwOpen_opens hs ht hh hl hk hc hr hp,
        fwOpen_busy hs ht hh hl hk hc hr hp⟩⟩⟩⟩
  case elsewhere =>
    have hno := hostStaging_elsewhere hn
    exact ⟨congrArg Host.Outcome.next (sessionCmd_elsewhere hs ht hh hno), congrArg Host.Outcome.next (sessionCmd_elsewhere hs ht hh hno)⟩
  case staging =>
    exact ⟨fwWrite_misplaced hs ht hh h1 hq he, fwWrite_stages hs ht hh h1 hq he, fun hl => by rw [exec_fwVerify hs ht hh h1 hq he, if_pos hl],
      fun hl => by rw [exec_fwVerify hs ht hh h1 hq he, if_neg (not_not_intro hl)]⟩
  case passed =>
    have hrun := verifyDone_passes h2 hc hn hv
    exact ⟨fun h1 => by rw [hrun, if_pos h1], fun h1 => ⟨fun hk => by rw [hrun, if_neg h1, if_pos (by simp [hk])],
      fun hk ha => by rw [hrun, if_neg h1, if_neg (by simp [hk]), if_neg (by simp [ha])],
      fun hk ha => by rw [hrun, if_neg h1, if_neg (by simp [hk]), if_pos ha, askActivation_eq]⟩⟩
  case slot =>
    have hrun := fwFallback_slot hs ht hp hr hn hh hi (otherSlot_eq hi h0 h1)
    exact ⟨fun c hc => by rw [hrun, fallBackOnSlot_fails hc], fun m hm hc => ⟨fun hk => by rw [hrun, fallBackOnSlot_verified hm hc, if_pos (by simp [hk])],
      fun hk => by rw [hrun, fallBackOnSlot_verified hm hc, if_neg (by simp [hk])]⟩⟩

end Sys2Proof.Machine
end
